-- ==== Sys2Proof/Word.lean ====
section
/-! DEFINITION. The word types of the VT1614: a byte of memory, a 32-bit register or Vent word (R16), a 32-bit angle
(R6). Arithmetic on them is that of `BitVec`. -/

namespace Sys2Proof

/-- A byte of SRAM, NVM, a frame or a record. -/
abbrev Byte := BitVec 8

/-- A 32-bit word: a register word (R16), a Vent instruction or Vent register. -/
abbrev Word := BitVec 32

end Sys2Proof
end

