-- ==== Sys2Proof/Syntax.lean ====
section
/-! DEFINITION. The commands of the VT1614, one constructor per row of spec/opcode_table.json, with the operands a row
carries: where it comes from (`Src`), the instance it concerns, the value written, and, for the rows that the world
outside the package causes, what arrives there (ADC codes, measured quantities, edges, received frames). -/

namespace Sys2Proof

/-- The access paths of host software (R38, R404): BAR0, COMMAND or CANTX ring `r`, SPI. -/
inductive Path where
  | bar0
  | ring (r : Fin 8)
  | spi
deriving DecidableEq, Repr

/-- Where an access comes from, and when: STIME units (2⁻⁶ ns) after the newest sample instant. -/
structure Src where
  path : Path
  sub : Nat
deriving DecidableEq, Repr

/-- The two analog inputs of a port. -/
inductive Input where
  | sin | cos
deriving DecidableEq, Repr

/-- The three RS-422 pairs of a port in DIGITAL mode (R53). -/
inductive Pair where
  | sn | cs | ax
deriving DecidableEq, Repr

/-- What one sample brings from outside: the code of each of the 36 slices (R24, R59), the engines whose two copies a
disturbance made differ (R489), and the level of `TKN_I` (R443). -/
structure SampleIn where
  codes : Vector (BitVec 14) 36
  upset : List (Fin 18)
  tkni : Bool
deriving DecidableEq, Repr

/-- What the driver's monitors measured over one carrier period (R101, R102): voltage and current at the excitation
pair (mV rms, 10 µA rms); the amplitude at the AX pair (mV rms); in SENSE, the frequency of the carrier found there (mHz)
and its phase ahead of the NCO (BAM32, signed, after the output-delay trim, R105). -/
structure PeriodIn where
  vsense : Nat
  isense : Nat
  vfar : Nat
  sfreq : Nat
  sphase : Int
deriving DecidableEq, Repr

/-- The published values that carry FRESH (Table 1-3): an engine's outputs, a decimated output, a diverse-path output, a
temperature, a CAN object, any other register with a STATUS field, by its BAR0 address. -/
inductive FreshItem where
  | engine (m : Fin 18)
  | detector (addr : Nat)
  | decimated (n : Fin 16)
  | diverse (n : Fin 16)
  | temperature (c : Fin 16)
  | canObject (c : Fin 2) (k : Fin 128)
deriving DecidableEq, Repr

/-- The byte address and the width in bytes of a register read (R16). -/
structure Access where
  addr : Nat
  size : Nat
deriving DecidableEq, Repr

/-- The output current of a port's driver, peak, mA, as it would be without the limit (Table 3-4). -/
structure LimitIn where
  port : Fin 16
  peak : BitVec 16
deriving DecidableEq, Repr

/-- A level that an input has taken, and how long it holds: in CLK_CORE cycles at a PWM sync input (R269), in STIME units at a
safe input (R330). -/
structure LineIn where
  level : Bool
  held : Nat
deriving DecidableEq, Repr

/-- `RXD` of a controller has been dominant for a time in ns; `taken`: up to 0.1 µs less than t_wake are enough (R389). -/
structure WakeIn where
  ctl : Fin 2
  ns : Nat
  taken : Bool
deriving DecidableEq, Repr

/-- A write of one register inside a REGWR descriptor: BAR0 offset and value. -/
structure RegPair where
  addr : Nat
  value : Word
deriving DecidableEq, Repr

/-- A descriptor's common header (R401): the ring it stands in, CMPL, the tag. -/
structure Desc where
  ring : Fin 8
  cmpl : Bool
  tag : BitVec 16
deriving DecidableEq, Repr

/-- A change of the synchronized levels of an ABZ input: which decoding path sees it (0 first, 1 second), the levels of A, B
and Z after it, the instant of the ball edge in STIME units after the newest sample (it may lie before it), the CLK_CORE
cycles for which the levels then hold; the edge filter decides what the decoder sees (R211). -/
structure EdgeIn where
  path : Fin 2
  a : Bool
  b : Bool
  z : Bool
  sub : Int
  held : Nat
deriving DecidableEq, Repr

/-- A change of the synchronized Hall code W × 4 + V × 2 + U, as `EdgeIn`. -/
structure HallIn where
  path : Fin 2
  code : BitVec 3
  sub : Int
  held : Nat
deriving DecidableEq, Repr

/-- A completed serial frame: which decoding path read it, the data bits (multi-turn, then single-turn, MSB first, as one
number), what checks them (BiSS C: the six CRC bits; SSI with DBL: the separator above the second copy), the error bits
as received (nE or the SSI error bit in bit 0, nW in bit 1), whether the monitored clock agreed with the driven one,
and how long before the newest sample the last clock edge came, in STIME units. -/
structure SerialIn where
  path : Fin 2
  data : Nat
  check : Nat
  err : BitVec 2
  clockOk : Bool
  age : Nat
deriving DecidableEq, Repr

/-- The voltages at the balls `PIN0` to `PIN3` of a temperature channel in µV, as the front end sees them at an output of
its filter (R314, R317). -/
structure TmpIn where
  pins : Vector Int 4
deriving DecidableEq, Repr

/-- Kinds of protocol error of ISO 11898-1, and the loss of arbitration. -/
inductive CanErr where
  | arbitrationLost
  | stuff | form | ack | bit1 | bit0 | crc
deriving DecidableEq, Repr

/-- How a frame ended without success (R368, R380): the kind, whether it was detected in the data or CRC field, whether
ISO 11898-1 exempts the transmitter's counter from this error, whether the receiver's counter takes the larger step. -/
structure CanErrIn where
  kind : CanErr
  late : Bool
  exempt : Bool
  heavy : Bool
deriving DecidableEq, Repr

/-- A CAN frame on the bus: header words of Table 13-8 and data; age of its start of frame in STIME units. -/
structure CanFrame where
  hdr0 : Word
  hdr1 : Word
  data : List Byte
  age : Nat
deriving DecidableEq, Repr

/-- A chain frame received with a valid CRC (R423): its 16 data bytes, and its start character's arrival in STIME units
after the newest sample. -/
structure ChainIn where
  bytes : List Byte
  sub : Nat
deriving DecidableEq, Repr

/-- What a cold reset finds: brown-out or power-on, the levels of the straps `BOOT` and `CLK`, the level of `PERST_N`. -/
structure ColdIn where
  brownOut : Bool
  boot : BitVec 2
  clk : BitVec 2
  perstN : Bool
deriving DecidableEq, Repr

/-- A disturbance of a stored SRAM word, found by the scrubber (R485): the word's index and the bits that it turned over,
bits 8i + 7 to 8i in symbol i (the coefficient of xⁱ) of its code word (R484). -/
structure EccHit where
  word : Nat
  err : BitVec 88
deriving DecidableEq, Repr

/-- What a channel's readback of the permit balls sees (R341): ball `ch` (0 `TPA`, 1 `TPB`) has not changed for a time, or has
changed; the two balls show the same level for a time; they change in the same direction, a time one after the other. -/
inductive ReadIn where
  | still (ch : Fin 2)
  | moves (ch : Fin 2)
  | equal
  | apart
deriving DecidableEq, Repr

/-- What the monitors of the channels measure (Table 12-5), each for a time: SCLK against CLK_CORE in 0.01 %; the supply of
SM-B outside its window or not; a channel's heartbeat does not toggle. -/
inductive MonIn where
  | clock (dev : Int)
  | supply (outside : Bool)
  | beat (ch : Fin 2)
deriving DecidableEq, Repr

/-- An aging monitor's reading (R499). -/
inductive AgeIn where
  | ringOsc (i : Fin 8) (drift : Int)
  | bandgap (v : Int)
  | adcRef (v : Int)
  | junction (q88 : Int)
deriving DecidableEq, Repr

/-- A write of PCI Express configuration space (R394, R396). -/
inductive CfgReq where
  | busMaster (on : Bool)
  | power (d3 : Bool)
  | msix (enable functionMask : Bool)
  | payload (code : Fin 2)
  | readRequest (code : Fin 3)
deriving DecidableEq, Repr

/-- The test access port loads an instruction code, or enters Test-Logic-Reset (R528). -/
inductive TapIn where
  | load (code : BitVec 4)
  | reset
deriving DecidableEq, Repr


/-! ### The words of a Vent program (R289, Table 10-4) -/

/-- The arithmetic of format A that writes rd from ra and src. -/
inductive AluOp where
  | add | sub | and | or | xor | shl | shr | sar
deriving DecidableEq, Repr

/-- The source operand of format A: a register, or the 16-bit immediate. -/
inductive VSrc where
  | reg (r : BitVec 3)
  | imm (v : BitVec 16)
deriving DecidableEq, Repr

/-- The conditions of BR (Table 10-6). -/
inductive Cond where
  | al | eq | ne | lt | ge | lo | hs | ts | tc | ss | sc
deriving DecidableEq, Repr

/-- A legal Vent instruction; whether an ACT verb belongs to the engine's site is seen when it issues. -/
inductive VInstr where
  | mov (rd : BitVec 3) (src : VSrc)
  | movh (rd : BitVec 3) (imm : BitVec 16)
  | alu (op : AluOp) (rd ra : BitVec 3) (src : VSrc)
  | cmp (ra : BitVec 3) (src : VSrc)
  | br (c : Cond) (target : BitVec 10)
  | ld (rd ra : BitVec 3) (x : Bool) (offset : BitVec 10)
  | st (rs ra : BitVec 3) (x : Bool) (offset : BitVec 10)
  | wait (mode : BitVec 2) (ra : BitVec 3) (imm : BitVec 16)
  | act (verb : BitVec 6) (ra rb : BitVec 3) (imm : BitVec 14)
  | post (n : BitVec 4)
  | halt
deriving DecidableEq, Repr
/-- The commands: every row of the table of operations and events, with its rule. -/
inductive Instr where
  /-- SAMPLE (R24) -/
  | sample (inp : SampleIn)
  /-- EPOCH_BOUNDARY (R26) -/
  | epochBoundary
  /-- STIME_WRAP (R10) -/
  | stimeWrap
  /-- STAGED_WRITE (R37) -/
  | stagedWrite (src : Src) (addr : Nat) (value : Word)
  /-- COMMIT (R39) -/
  | commit (src : Src)
  /-- DISCARD (R39) -/
  | discard (src : Src)
  /-- SNAPSHOT_READ (R33) -/
  | snapshotRead (src : Src) (acc : Access)
  /-- SAT_CLEAR (R46) -/
  | satClear (src : Src) (addr : Nat)
  /-- REGISTER_WRITE (R17) -/
  | registerWrite (src : Src) (addr : Nat) (value : Word) (size : Nat)
  /-- BAR2_WRITE (R50) -/
  | bar2Write (src : Src) (off : Nat) (value : Word)
  /-- FRESHNESS_EXPIRY (R30) -/
  | freshnessExpiry (item : FreshItem)
  /-- PORT_RESTART (R455) -/
  | portRestart (src : Src) (n : Fin 16)
  /-- RANGE_CHANGE (R63) -/
  | rangeChange (n : Fin 16)
  /-- RANGE_IMMEDIATE (R64) -/
  | rangeImmediate (n : Fin 16)
  /-- CARRIER_PERIOD_END (R97) -/
  | carrierPeriodEnd (n : Fin 16) (m : PeriodIn)
  /-- LEAD_READING (R70) -/
  | leadReading (n : Fin 16) (mv : BitVec 16)
  /-- WINDING_TEST_START (R72) -/
  | windingTestStart (n : Fin 16)
  /-- W2W_NOW (R72) -/
  | w2wNow (src : Src) (n : Fin 16)
  /-- WINDING_TEST_END (R72) -/
  | windingTestEnd (n : Fin 16)
  /-- CLAMP_CONDUCT (R58) -/
  | clampConduct (n : Fin 16) (balls : BitVec 6)
  /-- LINE_LEVEL_LOW (R79) -/
  | lineLevelLow (n : Fin 16) (pair : Pair)
  /-- SOFT_START_BEGIN (R87) -/
  | softStartBegin (n : Fin 16)
  /-- SOFT_START_END (R87) -/
  | softStartEnd (n : Fin 16)
  /-- STOP_BEGIN (R87) -/
  | stopBegin (n : Fin 16)
  /-- STOP_END (R87) -/
  | stopEnd (n : Fin 16)
  /-- FREQUENCY_CHANGE_START (R89) -/
  | frequencyChangeStart (n : Fin 16)
  /-- AMPLITUDE_CHANGE_START (R90) -/
  | amplitudeChangeStart (n : Fin 16)
  /-- CHANGE_WINDOW_END (R91) -/
  | changeWindowEnd (n : Fin 16)
  /-- PH_REACQ (R98) -/
  | phReacq (src : Src) (n : Fin 16)
  /-- PH_REACQ_DONE (R98) -/
  | phReacqDone (n : Fin 16)
  /-- PH_EST_STALE (R99) -/
  | phEstStale (n : Fin 16)
  /-- CURRENT_LIMIT (R102) -/
  | currentLimit (m : LimitIn)
  /-- DRIVER_TEMP_MEASURE (R102) -/
  | driverTempMeasure (n : Fin 16) (temp : BitVec 16)
  /-- VEXC_MEASURE (R88) -/
  | vexcMeasure (mv : BitVec 16)
  /-- RESTART_DRV (R535) -/
  | restartDrv (src : Src) (n : Fin 16)
  /-- LEG_MEASURE (R103) -/
  | legMeasure (n : Fin 16) (legs : Vector (BitVec 16) 4) (dead : BitVec 4)
  /-- LEG_RETIRE (R495) -/
  | legRetire (n : Fin 16)
  /-- TAKEOVER_CROSSING (R448) -/
  | takeoverCrossing (n : Fin 16)
  /-- CALIBRATION_STEP (R113) -/
  | calibrationStep (step : Fin 35)
  /-- XC_CLR (R120) -/
  | xcClr (src : Src) (n : Fin 16)
  /-- PK_CLR (R142) -/
  | pkClr (src : Src) (n : Fin 16)
  /-- DECIMATED_OUTPUT (R130) -/
  | decimatedOutput (n : Fin 16)
  /-- ENVELOPE_BAND_FAULT (R140) -/
  | envelopeBandFault (n : Fin 16) (upper : Bool)
  /-- FILTER_LOAD (R133) -/
  | filterLoad (src : Src) (value : Word)
  /-- FILTER_SWAP (R134) -/
  | filterSwap (src : Src) (value : Word)
  /-- SYNCHRONISING_RESET (R136) -/
  | synchronisingReset
  /-- COAST_TIMEOUT (R162) -/
  | coastTimeout (m : Fin 18)
  /-- LOCK_DECLARE (R161) -/
  | lockDeclare (m : Fin 18)
  /-- LOT_ERROR (R163) -/
  | lotError (m : Fin 18)
  /-- REACQUISITION (R164) -/
  | reacquisition (m : Fin 18)
  /-- OBS_ACQ (R164) -/
  | obsAcq (src : Src) (m : Fin 18)
  /-- MSET (R169) -/
  | mset (src : Src) (m : Fin 18) (midx : BitVec 8)
  /-- LOSS_OF_SIGNAL (R166) -/
  | lossOfSignal (m : Fin 18)
  /-- PREDICTION_READ (R173) -/
  | predictionRead (src : Src) (m : Fin 18)
  /-- DIVERGE (R180) -/
  | diverge (n : Fin 16)
  /-- LEARNING_CYCLE_END (R195) -/
  | learningCycleEnd (n : Fin 16)
  /-- APPLY_UPDATE (R198) -/
  | applyUpdate (n : Fin 16)
  /-- LEARN_TABLE_WRITE (R199) -/
  | learnTableWrite (src : Src) (value : Word)
  /-- LRN_CLR (R200) -/
  | lrnClr (src : Src) (n : Fin 16)
  /-- LOADNV (R205) -/
  | loadNv (src : Src) (n : Fin 16)
  /-- LRN_NV_COMMIT (R203) -/
  | lrnNvCommit (src : Src) (ports : BitVec 16)
  /-- LRN_NV_WRITE_DONE (R203) -/
  | lrnNvWriteDone (ok : Bool)
  /-- QUADRATURE_EDGE (R213) -/
  | quadratureEdge (n : Fin 16) (e : EdgeIn)
  /-- QUADRATURE_LOSS (R215) -/
  | quadratureLoss (n : Fin 16)
  /-- ILL_WINDOW_END (R215) -/
  | illWindowEnd (n : Fin 16)
  /-- INDEX (R219) -/
  | index (n : Fin 16) (e : EdgeIn)
  /-- HALL_EDGE (R222) -/
  | hallEdge (n : Fin 16) (e : HallIn)
  /-- ZCLR (R218) -/
  | zclr (src : Src) (n : Fin 16)
  /-- CLRDEG (R221) -/
  | clrdeg (src : Src) (n : Fin 16)
  /-- QCLR (R215) -/
  | qclr (src : Src) (n : Fin 16)
  /-- FRAME_REQUEST (R223) -/
  | frameRequest (n : Fin 16) (idle : Bool) (sub : Nat)
  /-- FRAME_END (R226) -/
  | frameEnd (n : Fin 16) (f : SerialIn)
  /-- NOSTART (R226) -/
  | noStart (n : Fin 16) (path : Fin 2)
  /-- ALIGN (R242) -/
  | align (src : Src) (out : Fin 8)
  /-- REARM (R240) -/
  | rearm (src : Src) (out : Fin 8)
  /-- ZEMU_PULSE_END (R244) -/
  | zemuPulseEnd (out : Fin 8)
  /-- SLOT_FIRE (R270) -/
  | slotFire (k : Fin 256)
  /-- GTRIG_PULSE_END (R271) -/
  | gtrigPulseEnd (o : Fin 16)
  /-- PWMS_EDGE (R269) -/
  | pwmsEdge (p : Fin 4) (line : LineIn) (sub : Nat)
  /-- PWMS_LOST (R269) -/
  | pwmsLost (p : Fin 4)
  /-- LIVE_TABLE_WRITE (R272) -/
  | liveTableWrite (src : Src) (value : Word)
  /-- SHADOW_WRITE (R274) -/
  | shadowWrite (src : Src) (value : Word)
  /-- GROUP_COPY_REQUEST (R275) -/
  | groupCopyRequest (src : Src) (value : Word)
  /-- STREAM_RECORD_SEND (R276) -/
  | streamRecordSend
  /-- STREAM_START (R276) -/
  | streamStart
  /-- VENT_HOST_START (R285) -/
  | ventHostStart (src : Src) (value : Word)
  /-- VENT_PERIOD_START (R286) -/
  | ventPeriodStart (e : Fin 7)
  /-- MOV (R290) -/
  | mov (e : Fin 7)
  /-- MOVH (R290) -/
  | movh (e : Fin 7)
  /-- ADD (R290) -/
  | add (e : Fin 7)
  /-- SUB (R290) -/
  | sub (e : Fin 7)
  /-- AND (R290) -/
  | and (e : Fin 7)
  /-- OR (R290) -/
  | or (e : Fin 7)
  /-- XOR (R290) -/
  | xor (e : Fin 7)
  /-- SHL (R290) -/
  | shl (e : Fin 7)
  /-- SHR (R290) -/
  | shr (e : Fin 7)
  /-- SAR (R290) -/
  | sar (e : Fin 7)
  /-- CMP (R290) -/
  | cmp (e : Fin 7)
  /-- BR (R291) -/
  | br (e : Fin 7)
  /-- LD (R292) -/
  | ld (e : Fin 7)
  /-- ST (R293) -/
  | st (e : Fin 7)
  /-- WAIT_DELAY (R294) -/
  | waitDelay (e : Fin 7)
  /-- WAIT_UNTIL (R294) -/
  | waitUntil (e : Fin 7)
  /-- WAIT_ANGLE (R295) -/
  | waitAngle (e : Fin 7)
  /-- WAIT_EVENT (R294) -/
  | waitEvent (e : Fin 7)
  /-- WAIT_END (R294) -/
  | waitEnd (e : Fin 7)
  /-- WAITTO (R294) -/
  | waitto (e : Fin 7)
  /-- POST (R297) -/
  | post (e : Fin 7)
  /-- HALT (R284) -/
  | halt (e : Fin 7)
  /-- ACT_PULSE (R300) -/
  | actPulse (e : Fin 7)
  /-- ACT_BLANK (R300) -/
  | actBlank (e : Fin 7)
  /-- ACT_CANREQ (R300) -/
  | actCanreq (e : Fin 7)
  /-- ACT_ZEMU (R300) -/
  | actZemu (e : Fin 7)
  /-- ACT_GCOPY (R300) -/
  | actGcopy (e : Fin 7)
  /-- ACT_UEVENT (R300) -/
  | actUevent (e : Fin 7)
  /-- ACT_ZWAIT (R301) -/
  | actZwait (e : Fin 7)
  /-- ACT_FREL (R301) -/
  | actFrel (e : Fin 7)
  /-- ACT_INJ (R302) -/
  | actInj (e : Fin 7)
  /-- INJECTION_END (R302) -/
  | injectionEnd (n : Fin 16)
  /-- ACT_SEL (R303) -/
  | actSel (e : Fin 7)
  /-- ACT_TXREQ (R303) -/
  | actTxreq (e : Fin 7)
  /-- ACT_CANCEL (R303) -/
  | actCancel (e : Fin 7)
  /-- ACT_SAFETX (R303) -/
  | actSafetx (e : Fin 7)
  /-- CLRF (R284) -/
  | clrf (src : Src) (e : Fin 7)
  /-- STOP (R284) -/
  | stop (src : Src) (e : Fin 7)
  /-- CLRW (R288) -/
  | clrw (src : Src) (e : Fin 7)
  /-- VENT_PROGRAM_WRITE (R305) -/
  | ventProgramWrite (src : Src) (value : Word)
  /-- TMP_FRAME_START (R309) -/
  | tmpFrameStart (x : Fin 2)
  /-- TMP_PREDRIVE (R314) -/
  | tmpPredrive (c : Fin 16)
  /-- TMP_SLOT_START (R309) -/
  | tmpSlotStart (c : Fin 16)
  /-- TMP_FILTER_OUTPUT (R314) -/
  | tmpFilterOutput (c : Fin 16) (m : TmpIn)
  /-- PHASE_EXTEND (R316) -/
  | phaseExtend (c : Fin 16)
  /-- GUARD_OVERLOAD (R319) -/
  | guardOverload (g : Fin 4)
  /-- SM_A_TICK (R331) -/
  | smATick
  /-- SM_B_TICK (R331) -/
  | smBTick
  /-- SAFE_INPUT_FILTERED (R330) -/
  | safeInputFiltered (ch : Fin 2) (line : Fin 2) (x : Fin 8) (m : LineIn)
  /-- DISCREPANCY_FAULT (R331) -/
  | discrepancyFault (ch : Fin 2) (x : Fin 8)
  /-- PERMIT_READBACK_FAULT (R341) -/
  | permitReadbackFault (m : ReadIn) (ns : Nat)
  /-- DEVICE_FAULT (R342) -/
  | deviceFault (m : MonIn) (us : Nat)
  /-- SAF_KEY (R346) -/
  | safKey (src : Src) (value : Word)
  /-- KEY_WINDOW_LAPSE (R346) -/
  | keyWindowLapse (path : Path)
  /-- KEYED_WRITE (R346) -/
  | keyedWrite (src : Src) (addr : Nat) (value : Word)
  /-- APPLY (R347) -/
  | apply (src : Src)
  /-- SAF_CFG_DISCARD (R347) -/
  | safCfgDiscard (src : Src)
  /-- CONFIG_CRC_COMPARE (R347) -/
  | configCrcCompare
  /-- AXIS_ACK (R335) -/
  | axisAck (src : Src) (axes : BitVec 8)
  /-- DEV_ACK (R342) -/
  | devAck (src : Src)
  /-- DISC_ACK (R332) -/
  | discAck (src : Src) (pairs : BitVec 8)
  /-- CONN_ACK (R354) -/
  | connAck (src : Src) (conn : BitVec 8)
  /-- PDU_GENERATE (R349) -/
  | pduGenerate (c : Fin 256)
  /-- SEND (R349) -/
  | send (src : Src)
  /-- PDU_AGE_EXPIRY (R350) -/
  | pduAgeExpiry (c : Fin 256) (ctrl : Fin 2)
  /-- PAIR_TIMEOUT (R353) -/
  | pairTimeout (c : Fin 256)
  /-- SINGLE_TIMEOUT (R353) -/
  | singleTimeout (c : Fin 256)
  /-- CONNECTION_TIMEOUT (R353) -/
  | connectionTimeout (c : Fin 256)
  /-- CAN_SELECTION (R376) -/
  | canSelection (c : Fin 2)
  /-- CAN_FRAME_SENT (R378) -/
  | canFrameSent (c : Fin 2) (delay : Nat)
  /-- CAN_ERROR (R368) -/
  | canError (c : Fin 2) (err : CanErrIn)
  /-- CAN_FRAME_RECEIVED (R382) -/
  | canFrameReceived (c : Fin 2) (f : CanFrame)
  /-- PROTOCOL_EXCEPTION (R371) -/
  | protocolException (c : Fin 2)
  /-- RECOVERY_END (R369) -/
  | recoveryEnd (c : Fin 2)
  /-- INTEGRATION_END (R367) -/
  | integrationEnd (c : Fin 2)
  /-- TXREQ (R375) -/
  | txreq (src : Src) (c : Fin 2) (obj : Fin 128)
  /-- CANCEL (R379) -/
  | cancel (src : Src) (c : Fin 2) (obj : Fin 128)
  /-- RESUME (R380) -/
  | resume (src : Src) (c : Fin 2) (obj : Fin 128)
  /-- RECOVER (R369) -/
  | recover (src : Src) (c : Fin 2)
  /-- SLEEP (R388) -/
  | sleep (src : Src) (c : Fin 2)
  /-- SLEEP_ENTRY (R388) -/
  | sleepEntry (c : Fin 2)
  /-- WAKE (R389) -/
  | wake (src : Src) (c : Fin 2)
  /-- WAKE_PULSE (R389) -/
  | wakePulse (m : WakeIn)
  /-- WAKE_FRAME (R389) -/
  | wakeFrame (c : Fin 2) (f : CanFrame)
  /-- RINGCAN (R379) -/
  | ringcan (src : Src) (c : Fin 2)
  /-- OBJECT_WRITE (R373) -/
  | objectWrite (src : Src) (c : Fin 2) (value : Word)
  /-- DOORBELL (R399) -/
  | doorbell (src : Src) (r : Fin 32) (tail : Word)
  /-- RING_ENABLE (R398) -/
  | ringEnable (src : Src) (r : Fin 32) (value : Word)
  /-- NOP (R401) -/
  | nop (d : Desc)
  /-- REGWR (R402) -/
  | regwr (d : Desc) (pairs : List RegPair)
  /-- REGRD (R401) -/
  | regrd (d : Desc) (addr : Nat)
  /-- SRAMWR (R403) -/
  | sramwr (d : Desc) (off : Nat) (words : List Word)
  /-- SRAMWRB (R403) -/
  | sramwrb (d : Desc) (off : Nat) (words : List Word)
  /-- OP_COMMIT (R402) -/
  | opCommit (d : Desc)
  /-- OP_DISCARD (R401) -/
  | opDiscard (d : Desc)
  /-- FENCE (R401) -/
  | fence (d : Desc)
  /-- FENCE_RELEASE (R402) -/
  | fenceRelease (r : Fin 8)
  /-- ASHRD (R401) -/
  | ashrd (d : Desc) (off len : Nat)
  /-- CANTX_DESCRIPTOR (R405) -/
  | cantxDescriptor (d : Desc) (op : Byte) (f : CanFrame)
  /-- DEFERRED_COMPLETION (R402) -/
  | deferredCompletion (r : Fin 8)
  /-- TIME_RECORD (R409) -/
  | timeRecord
  /-- MSIX_MESSAGE (R414) -/
  | msixMessage (v : Fin 32)
  /-- HEARTBEAT (R416) -/
  | heartbeat (src : Src)
  /-- HBCFG_WRITE (R416) -/
  | hbcfgWrite (src : Src) (value : Word)
  /-- HOST_HEARTBEAT_EXPIRY (R416) -/
  | hostHeartbeatExpiry
  /-- LINK_RESET (R417) -/
  | linkReset
  /-- SPI_READ (R420) -/
  | spiRead (bytes : List Byte) (sub : Nat)
  /-- SPI_WRITE (R420) -/
  | spiWrite (bytes : List Byte) (sub : Nat)
  /-- SPI_ABORT (R420) -/
  | spiAbort (bytes : List Byte) (sub : Nat)
  /-- TOKEN (R426) -/
  | token (f : ChainIn)
  /-- TIME (R430) -/
  | time (f : ChainIn)
  /-- CMD (R434) -/
  | cmd (f : ChainIn)
  /-- CAL (R428) -/
  | cal (f : ChainIn)
  /-- CHAIN_COMMAND_ACT (R434) -/
  | chainCommandAct
  /-- ENUMERATION (R426) -/
  | enumeration
  /-- ENUM (R426) -/
  | enum (src : Src)
  /-- TOKEN_RETURN (R428) -/
  | tokenReturn (f : ChainIn)
  /-- TIME_SEND (R430) -/
  | timeSend
  /-- CHAIN_LOSS (R427) -/
  | chainLoss
  /-- CHAIN_SEND (R433) -/
  | chainSend (src : Src) (value : Word)
  /-- PULSE (R435) -/
  | pulse (src : Src)
  /-- SYNC_N_EDGE (R435) -/
  | syncNEdge (sub : Nat)
  /-- MIRROR_FRAME_SEND (R437) -/
  | mirrorFrameSend
  /-- MIRROR_FRAME_RECEIVED (R439) -/
  | mirrorFrameReceived (bytes : List Byte)
  /-- TWIN_LINK_DOWN (R437) -/
  | twinLinkDown
  /-- PARTNER_HEARTBEAT_LOST (R442) -/
  | partnerHeartbeatLost
  /-- CLAIM (R446) -/
  | claim
  /-- CLAIM_CHECK (R446) -/
  | claimCheck (tkni : Bool)
  /-- YIELD (R446) -/
  | yield
  /-- TAKE (R445) -/
  | take (src : Src)
  /-- RELEASE (R449) -/
  | release (src : Src)
  /-- RELEASE_TIMEOUT (R449) -/
  | releaseTimeout
  /-- FORCED_TAKEOVER (R447) -/
  | forcedTakeover
  /-- INITIAL_CLAIM (R444) -/
  | initialClaim
  /-- COLD_RESET (R453) -/
  | coldReset (c : ColdIn)
  /-- WARM_RESET (R453) -/
  | warmReset (source : Fin 8)
  /-- WARM_RESET_RELEASE (R536) -/
  | warmResetRelease
  /-- RESET_N_PULSE (R457) -/
  | resetNPulse (ns : Nat) (honoured : Bool)
  /-- RESET_N_STUCK (R458) -/
  | resetNStuck
  /-- STUCK_PIN_RELEASE (R465) -/
  | stuckPinRelease
  /-- PERST_N_ASSERT (R469) -/
  | perstNAssert
  /-- RUN_CONFIRM (R460) -/
  | runConfirm (src : Src) (key : BitVec 16)
  /-- AUTO_CONFIRM (R460) -/
  | autoConfirm
  /-- FULLRST (R453) -/
  | fullrst (src : Src) (key : BitVec 16)
  /-- DORMANT (R463) -/
  | dormant (src : Src) (key : BitVec 16)
  /-- LEAVE (R465) -/
  | leave (src : Src) (key : BitVec 16) (oboot : BitVec 2)
  /-- OPTLOAD (R473) -/
  | optload (src : Src) (key : BitVec 16)
  /-- NVBOOT (R474) -/
  | nvboot (src : Src) (key : BitVec 16)
  /-- NVSAFE (R475) -/
  | nvsafe (src : Src) (key : BitVec 16)
  /-- NVM_WRITE_DONE (R480) -/
  | nvmWriteDone (ok : Bool)
  /-- WDKICK (R462) -/
  | wdkick (src : Src) (value : Word)
  /-- WDCFG_WRITE (R462) -/
  | wdcfgWrite (src : Src) (value : Word)
  /-- WATCHDOG_EXPIRY (R462) -/
  | watchdogExpiry
  /-- BRINGUP_WATCHDOG_EXPIRY (R462) -/
  | bringupWatchdogExpiry
  /-- CLOCK_FAILURE (R468) -/
  | clockFailure (clk : Fin 3)
  /-- CLOCK_QUALIFY_TIMEOUT (R467) -/
  | clockQualifyTimeout
  /-- BRINGUP_STEP_END (R476) -/
  | bringupStepEnd
  /-- SUPPLY_WARNING (R515) -/
  | supplyWarning (rail : Fin 3)
  /-- PHY_SUPPLY_FAIL (R516) -/
  | phySupplyFail
  /-- SCRUB_PASS (R486) -/
  | scrubPass (hits : List EccHit)
  /-- REGISTER_PARITY_CHECK (R488) -/
  | registerParityCheck (bad : Option Nat)
  /-- ENGINE_FAILURE (R490) -/
  | engineFailure (m : Fin 18)
  /-- SWAP_REQUEST (R492) -/
  | swapRequest (src : Src) (value : Word)
  /-- SLICE_SWAP_STEP (R493) -/
  | sliceSwapStep (ok : Bool) (parallel : Bool)
  /-- SLICE_SWAP (R493) -/
  | sliceSwap
  /-- ENGINE_SWAP (R494) -/
  | engineSwap
  /-- ROWREQ (R487) -/
  | rowreq (src : Src) (value : Word)
  /-- MAP_COMMIT (R497) -/
  | mapCommit (src : Src)
  /-- MAP_COMMIT_DAILY (R497) -/
  | mapCommitDaily
  /-- AGING_MEASURE (R499) -/
  | agingMeasure (what : AgeIn)
  /-- HEALTH_COUNT (R500) -/
  | healthCount (hour : Bool)
  /-- ASH_ENTRY (R502) -/
  | ashEntry
  /-- ASH_TRIGGER (R503) -/
  | ashTrigger (cause : Fin 8)
  /-- ARM (R503) -/
  | arm (src : Src)
  /-- TRIG (R503) -/
  | trig (src : Src)
  /-- PARTNER_HEARTBEAT_EDGE (R442) -/
  | partnerHeartbeatEdge
  /-- HEARTBEAT_RESTART (R442) -/
  | heartbeatRestart
  /-- TAKEOVER_OUTPUT_ENABLE (R279) -/
  | takeoverOutputEnable
  /-- EMU_DRIVER_ENABLE (R248) -/
  | emuDriverEnable
  /-- HOST_MEMORY_ACCESS_FAILURE (R421) -/
  | hostMemoryAccessFailure (r : Fin 32) (err : Fin 3)
  /-- CONFIGURATION_REQUEST (R396) -/
  | configurationRequest (c : CfgReq)
  /-- LINK_TRAINING_DONE (R395) -/
  | linkTrainingDone (speed : Fin 4) (width : Fin 3)
  /-- PERST_N_RELEASE (R469) -/
  | perstNRelease
  /-- CHAIN_CRC_ERROR (R424) -/
  | chainCrcError (sub : Nat)
  /-- MIRROR_FRAME_CRC_ERROR (R437) -/
  | mirrorFrameCrcError
  /-- CLOCK_QUALIFICATION (R468) -/
  | clockQualification (clk : Fin 3)
  /-- PHY_SUPPLY_RETURN (R516) -/
  | phySupplyReturn
  /-- ILLEGAL_OPCODE (R304) -/
  | illegalOpcode (e : Fin 7)
  /-- BAD_DESCRIPTOR (R401) -/
  | badDescriptor (d : Desc) (op : Byte)
  /-- TAP_INSTRUCTION (R528) -/
  | tapInstruction (ir : TapIn)
deriving DecidableEq, Repr

end Sys2Proof
end

