-- ==== Sys2Proof/Decode.lean ====
section
/-! DEFINITION. Words that spell commands, and the words of Vent programs. The table of operations and events gives no row
any bits: its rows are events and register accesses, told apart by what they are and not by an encoding. So no table word
spells a command. Vent program words have an encoding (Table 10-4), decoded and encoded here. -/

namespace Sys2Proof

/-- The command that a word of the table spells: none, for no row of the table gives bits. -/
def decodeTableWord (_nbits _w : Nat) : Option Instr := none

/-! ### Vent program words (R289 to R291) -/

/-- The opcode of an instruction word. -/
def vOpcode (w : Word) : Nat := (w.extractLsb' 26 6).toNat

/-- The source operand of format A. -/
def vSrc (w : Word) : VSrc := if w.getLsbD 19 then .imm (w.extractLsb' 0 16) else .reg (w.extractLsb' 16 3)

/-- The condition of a code of Table 10-6. -/
def condOf (c : Nat) : Option Cond :=
  match c with
  | 0 => some .al | 1 => some .eq | 2 => some .ne | 3 => some .lt | 4 => some .ge | 5 => some .lo | 6 => some .hs
  | 7 => some .ts | 8 => some .tc | 9 => some .ss | 10 => some .sc | _ => none

/-- The code of a condition. -/
def condCode : Cond → Nat
  | .al => 0 | .eq => 1 | .ne => 2 | .lt => 3 | .ge => 4 | .lo => 5 | .hs => 6 | .ts => 7 | .tc => 8 | .ss => 9 | .sc => 10

/-- The operation of an opcode 0x03 to 0x0A. -/
def aluOf (o : Nat) : Option AluOp :=
  match o with
  | 3 => some .add | 4 => some .sub | 5 => some .and | 6 => some .or | 7 => some .xor | 8 => some .shl | 9 => some .shr
  | 10 => some .sar | _ => none

/-- The opcode of an operation. -/
def aluCode : AluOp → Nat
  | .add => 3 | .sub => 4 | .and => 5 | .or => 6 | .xor => 7 | .shl => 8 | .shr => 9 | .sar => 10

/-- The instruction of a word; `none` for an illegal one: an opcode that Table 10-5 does not list, MOVH with I = 0, a
condition of code 11 to 15. Reserved fields are ignored. -/
def ventDecode (w : Word) : Option VInstr :=
  let rd := w.extractLsb' 23 3
  let ra := w.extractLsb' 20 3
  match vOpcode w with
  | 0x01 => some (.mov rd (vSrc w))
  | 0x02 => if w.getLsbD 19 then some (.movh rd (w.extractLsb' 0 16)) else none
  | 0x0B => some (.cmp ra (vSrc w))
  | 0x10 => (condOf (w.extractLsb' 22 4).toNat).map fun c => .br c (w.extractLsb' 0 10)
  | 0x14 => some (.ld rd ra (w.getLsbD 19) (w.extractLsb' 0 10))
  | 0x15 => some (.st rd ra (w.getLsbD 19) (w.extractLsb' 0 10))
  | 0x18 => some (.wait (w.extractLsb' 24 2) ra (w.extractLsb' 0 16))
  | 0x19 => some (.post (w.extractLsb' 0 4))
  | 0x1C => some (.act (w.extractLsb' 20 6) (w.extractLsb' 17 3) (w.extractLsb' 14 3) (w.extractLsb' 0 14))
  | 0x1F => some .halt
  | o => (aluOf o).map fun op => .alu op rd ra (vSrc w)

/-- The bits of a source operand: I in bit 19, rb in 18:16 or imm16 in 15:0. -/
def srcBits : VSrc → Word
  | .reg r => r.zeroExtend 32 <<< 16
  | .imm v => (1#32 <<< 19) ||| v.zeroExtend 32

/-- The word of an instruction, reserved fields 0. -/
def ventEncode : VInstr → Word
  | .mov rd src => (0x01#32 <<< 26) ||| (rd.zeroExtend 32 <<< 23) ||| srcBits src
  | .movh rd imm => (0x02#32 <<< 26) ||| (rd.zeroExtend 32 <<< 23) ||| srcBits (.imm imm)
  | .alu op rd ra src =>
    (BitVec.ofNat 32 (aluCode op) <<< 26) ||| (rd.zeroExtend 32 <<< 23) ||| (ra.zeroExtend 32 <<< 20) ||| srcBits src
  | .cmp ra src => (0x0B#32 <<< 26) ||| (ra.zeroExtend 32 <<< 20) ||| srcBits src
  | .br c t => (0x10#32 <<< 26) ||| (BitVec.ofNat 32 (condCode c) <<< 22) ||| t.zeroExtend 32
  | .ld rd ra x off =>
    (0x14#32 <<< 26) ||| (rd.zeroExtend 32 <<< 23) ||| (ra.zeroExtend 32 <<< 20) |||
      ((BitVec.ofBool x).zeroExtend 32 <<< 19) ||| off.zeroExtend 32
  | .st rs ra x off =>
    (0x15#32 <<< 26) ||| (rs.zeroExtend 32 <<< 23) ||| (ra.zeroExtend 32 <<< 20) |||
      ((BitVec.ofBool x).zeroExtend 32 <<< 19) ||| off.zeroExtend 32
  | .wait m ra imm =>
    (0x18#32 <<< 26) ||| (m.zeroExtend 32 <<< 24) ||| (ra.zeroExtend 32 <<< 20) ||| imm.zeroExtend 32
  | .act v ra rb imm =>
    (0x1C#32 <<< 26) ||| (v.zeroExtend 32 <<< 20) ||| (ra.zeroExtend 32 <<< 17) ||| (rb.zeroExtend 32 <<< 14) |||
      imm.zeroExtend 32
  | .post n => (0x19#32 <<< 26) ||| n.zeroExtend 32
  | .halt => 0x1F#32 <<< 26

end Sys2Proof
end

