-- ==== Sys2Proof/Config.lean ====
section
/-! DEFINITION. What one device fixes outside the register map, and the FREE VALUES: opaque constants without a body
stand for every value the spec leaves open, so that nothing in Lean can evaluate them or prove a value of them. -/

namespace Sys2Proof.Config

/-- Origin tag of the device (R426, `CHN_ORIGIN.TAG`, reset value "Factory"). FREE VALUE (log entry 4). -/
opaque originTag : BitVec 16

/-- The last place of a quotient or product whose rounding the spec does not state: whether the value is rounded up
from its floor, by site and operand. FREE VALUE (log entry 5). -/
opaque roundUp : Nat → Int → Int → Bool

/-- The last place of a transcendental function (sine, cosine, arc tangent) whose precision the spec does not state:
−1, 0 or +1 unit. FREE VALUE (log entry 5). -/
opaque ulp : Nat → Int → Fin 3

/-- atan2(0, 0), whose value the spec does not state. FREE VALUE (log entry 6). -/
opaque atanZero : Nat → BitVec 32

/-- A value the spec leaves open, by site and the step's own count of such values. FREE VALUE. -/
opaque freeValue : Nat → Nat → BitVec 64

/-- Factory gain trim of an input and range (R60), 2⁻²⁴ around 1: port, input (0 sine, 1 cosine), range code.
FREE VALUE (log entry 10). -/
opaque gainTrim : Nat → Nat → Nat → Int

/-- Factory resistance of a driver leg in mΩ, held in trim (R103): port, leg. FREE VALUE (log entry 10). -/
opaque legTrim : Nat → Nat → Nat

/-- Output delay of a port's driver, 2⁻⁶ ns, held in trim (R105). FREE VALUE (log entry 10). -/
opaque outDelay : Nat → BitVec 16

/-- Factory values of a slice's offset correction, 2⁻⁸ LSB, and gain correction, 10⁻⁶ (R493). FREE VALUES (log entry 10). -/
opaque sliceOff : Nat → Int
opaque sliceGain : Nat → Int

/-- Poles of the MINPHASE notch at a frequency in mHz, 2⁻⁶⁰: 1 + a₁ + a₂ and 1 − a₂ of the first biquad, then of the second;
used where they meet Table 4-2. FREE VALUE (log entry 13). -/
opaque mpPole : Nat → Nat → Int

/-- Departure of a converted temperature from the equation's value rounded down, −64 to +65 in 2⁻¹⁶ °C: R318 bounds the error
by 0.001 °C. FREE VALUE (log entry 14). -/
opaque tempDev : Nat → Int → Fin 130

/-- CRC of the cold-reset safety image (`SAF_ACRC`, R347): the image's byte layout fixes it. -/
def coldImageCrc : Nat := 1618340877

end Sys2Proof.Config
end

