-- ==== Sys2Proof/Machine/Bits.lean ====
section
/-! DEFINITION. Small shared arithmetic: two's-complement fields, saturation (R7), modular differences (R6, R12),
rounding whose last place the spec leaves open, little-endian bytes, vectors by number. -/

namespace Sys2Proof.Machine

/-- The signed value of a `w`-bit field (R5). -/
def sgn (w v : Nat) : Int := if v % 2 ^ w < 2 ^ (w - 1) then (v % 2 ^ w : Nat) else ((v % 2 ^ w : Nat) : Int) - 2 ^ w

/-- The `w`-bit field that holds a signed value, modulo 2^w. -/
def enc (w : Nat) (i : Int) : Nat := (i % 2 ^ w).toNat

/-- Limits a value to [lo, hi]. -/
def clampI (lo hi x : Int) : Int := max lo (min hi x)

/-- Limits a value to the range of a signed `w`-bit field (R7). -/
def satS (w : Nat) (x : Int) : Int := clampI (-(2 ^ (w - 1))) (2 ^ (w - 1) - 1) x

/-- Limits a value to the range of an unsigned `w`-bit field (R7). -/
def satU (w : Nat) (x : Int) : Nat := (clampI 0 (2 ^ w - 1) x).toNat

/-- The signed difference a − b of two `w`-bit modular values (R6). -/
def mdiff (w : Nat) (a b : Nat) : Int := sgn w (enc w ((a : Int) - b))

/-- STIME b − a as a signed 64-bit number: positive when a precedes b (R12). -/
def tdiff (b a : Nat) : Int := mdiff 64 b a

/-- STIME plus a span, modulo 2^64. -/
def tadd (a : Nat) (d : Int) : Nat := enc 64 ((a : Int) + d)

/-- The first instant at or after `t` at which STIME is a multiple of `p`; the one after the last before the wrap is STIME 0
(R10, R286). `t` itself where `p` is 0. -/
def gridAt (t p : Nat) : Nat :=
  if p = 0 then t
  else
    let m := (t + p - 1) / p * p
    if 2 ^ 64 ≤ m then 0 else m

/-- TS32 of an instant: STIME bits 37:6 (R11). -/
def ts32 (t : Nat) : Nat := t / 64 % 2 ^ 32

/-- STIME units in one nanosecond, microsecond, millisecond (R9), and in one sample period (R24). -/
abbrev nsU : Nat := 64
abbrev usU : Nat := 64000
abbrev msU : Nat := 64000000
abbrev sampleU : Nat := 12800

/-- Quotient rounded to the nearest integer, ties away from zero, where a rule says "rounded". -/
def rnd (a b : Int) : Int := if 0 ≤ a then (2 * a + b) / (2 * b) else -((-(2 * a) + b) / (2 * b))

/-- Quotient whose last place the spec leaves open: the floor, or one more (a FREE VALUE at each site). -/
def rdiv (site : Nat) (a b : Int) : Int :=
  if a % b = 0 then a / b else a / b + (if Config.roundUp site a b then 1 else 0)

/-- The bytes of a number, little-endian. -/
def leBytes : Nat → Nat → List Byte
  | 0, _ => []
  | k + 1, v => BitVec.ofNat 8 v :: leBytes k (v / 256)

/-- The number a little-endian byte list spells. -/
def leNat : List Byte → Nat
  | [] => 0
  | b :: bs => b.toNat + 256 * leNat bs

/-- A list padded with zero bytes, or cut, to length `n`. -/
def padTo (n : Nat) (bs : List Byte) : List Byte := (bs ++ List.replicate n 0#8).take n

/-- Bit `i` of a number. -/
def bitOf (v i : Nat) : Bool := v.testBit i

/-- Sets or clears bit `i`. -/
def setBit (v i : Nat) (b : Bool) : Nat :=
  if b then v ||| 2 ^ i else if v.testBit i then v - 2 ^ i else v

/-- Bits `lo` to `lo + w − 1` of a word. -/
def bitsOf (v lo w : Nat) : Nat := v / 2 ^ lo % 2 ^ w

/-- 0 or 1. -/
def b2n (b : Bool) : Nat := if b then 1 else 0

/-- Member `i` of a vector; the default where there is none. -/
def vget {α : Type} [Inhabited α] {n : Nat} (v : Vector α n) (i : Nat) : α :=
  if h : i < n then v[i] else default

/-- The vector with member `i` changed; unchanged where there is none. -/
def vupd {α : Type} {n : Nat} (v : Vector α n) (i : Nat) (f : α → α) : Vector α n :=
  if h : i < n then v.set i (f v[i]) else v

/-- Member `i` of a list; the default where there is none. -/
def lget {α : Type} [Inhabited α] (l : List α) (i : Nat) : α := l.getD i default

/-! ### Cyclic redundancy checks -/

/-- One byte into a reflected CRC of 32 bits. -/
def crcByteR (poly : Nat) (c : Nat) (b : Byte) : Nat :=
  (List.range 8).foldl (fun c _ => if c % 2 = 1 then (c / 2) ^^^ poly else c / 2) (c ^^^ b.toNat)

/-- CRC-32 of R204: reflected polynomial 0xEDB88320, initial value and final XOR of all ones. -/
def crc32 (bs : List Byte) : Nat := bs.foldl (crcByteR 0xEDB88320) 0xFFFFFFFF ^^^ 0xFFFFFFFF

/-- CRC-32C of R352: reflected polynomial 0x82F63B78, initial value and final XOR of all ones. -/
def crc32c (bs : List Byte) : Nat := bs.foldl (crcByteR 0x82F63B78) 0xFFFFFFFF ^^^ 0xFFFFFFFF

/-- CRC-8 of R277: polynomial 0x2F, initial value 0xFF, no reflection, no final XOR. -/
def crc8 (bs : List Byte) : Nat :=
  bs.foldl (fun c b => (List.range 8).foldl
    (fun c _ => if 128 ≤ c then (2 * c ^^^ 0x2F) % 256 else 2 * c % 256) (c ^^^ b.toNat)) 0xFF

end Sys2Proof.Machine
end

