-- ==== Sys2Proof/Machine/Num.lean ====
section
/-! DEFINITION. Sine, cosine, arc tangent and square root on integers, and IEEE 754 binary32 as exact fractions. The spec
names these functions without a precision (but R84's table for the drive and R177's 24 bits); the last place of each is a
FREE VALUE (log entry 5). -/

namespace Sys2Proof.Machine

/-- sin(π/2 · t/2³⁰) in units of 2⁻³⁰, 0 ≤ t ≤ 2³⁰, by a polynomial of degree 15. -/
def sinPoly (t : Int) : Int :=
  let t2 := t * t / 2 ^ 30
  let p := [(-735 : Int), 62586, -3956970, 176406948, -5147643110, 87622969206, -710245036334, 1727108826179].foldl
    (fun acc c => acc * t2 / 2 ^ 30 + c) 0
  (p * t + 2 ^ 39) / 2 ^ 40

/-- The sine of a BAM32 angle in units of 2⁻³⁰; exact at the quarter turns, elsewhere with a free last place. -/
def sinQ (site : Nat) (ph : Nat) : Int :=
  let u : Int := ((ph % 2 ^ 30 : Nat) : Int)
  let q := ph / 2 ^ 30 % 4
  let one : Int := 2 ^ 30
  let m : Int :=
    if u = 0 then (if q % 2 = 0 then 0 else one)
    else clampI (-one) one
      (sinPoly (if q % 2 = 0 then u else one - u) + ((Config.ulp site ph).val : Int) - 1)
  if q < 2 then m else -m

/-- The cosine of a BAM32 angle in units of 2⁻³⁰. -/
def cosQ (site : Nat) (ph : Nat) : Int := sinQ site ((ph + 2 ^ 30) % 2 ^ 32)

/-- arctan(2⁻ⁱ) in units of 2⁻⁴⁰ turn. -/
def cordicTable : List Int :=
  [137438953472, 81134951838, 42869480287, 21761217566, 10922836750, 5466743129, 2734038620, 1367102738, 683561799,
   341782203, 170891265, 85445653, 42722829, 21361415, 10680707, 5340354, 2670177, 1335088, 667544, 333772, 166886,
   83443, 41722, 20861, 10430, 5215, 2608, 1304, 652, 326, 163, 81, 41, 20]

/-- The vectoring CORDIC for x > 0: the angle of (x, y) in units of 2⁻⁴⁰ turn. -/
def cordic : List Int → Nat → Int → Int → Int → Int
  | [], _, _, _, z => z
  | a :: as, i, x, y, z =>
    if 0 ≤ y then cordic as (i + 1) (x + y / 2 ^ i) (y - x / 2 ^ i) (z + a)
    else cordic as (i + 1) (x - y / 2 ^ i) (y + x / 2 ^ i) (z - a)

/-- atan2(y, x) in units of 2⁻⁴⁰ turn, modulo one turn, for a vector that is not zero. -/
def atan2Raw (y x : Int) : Int :=
  let a := if 0 < x then cordic cordicTable 0 (x * 2 ^ 34) (y * 2 ^ 34) 0
    else if x < 0 then 2 ^ 39 + cordic cordicTable 0 (-x * 2 ^ 34) (-y * 2 ^ 34) 0
    else if 0 < y then 2 ^ 38 else -(2 ^ 38)
  a % 2 ^ 40

/-- atan2(y, x) rounded to `b` bits of a turn, with a free last place, as a BAM32 angle; of the zero vector a free angle
(log entry 6). -/
def atan2B (site b : Nat) (y x : Int) : Nat :=
  let v := if x = 0 ∧ y = 0 then ((Config.atanZero site).toNat : Int)
    else (atan2Raw y x + 2 ^ (39 - b)) / 2 ^ (40 - b) +
      (if x = 0 ∨ y = 0 then 0 else ((Config.ulp site (y * 2 ^ 64 + x)).val : Int) - 1)
  (v % 2 ^ b * 2 ^ (32 - b)).toNat

/-- The largest r + Σ of bits below `i` whose square does not exceed `n`. -/
def sqrtBits (n : Nat) : Nat → Nat → Nat
  | 0, r => r
  | i + 1, r => sqrtBits n i (if (r + 2 ^ i) * (r + 2 ^ i) ≤ n then r + 2 ^ i else r)

/-- The integer square root with a free last place. -/
def sqrtF (site : Nat) (n : Nat) : Nat :=
  let r := sqrtBits n (Nat.log2 n / 2 + 1) 0
  if r * r = n then r else r + b2n (Config.roundUp site n 0)

/-! ### binary32 -/

/-- The value of a finite binary32 word as a fraction; `none` for infinities and NaN. -/
def b32Val (v : Nat) : Option (Int × Nat) :=
  let e := bitsOf v 23 8
  let f := bitsOf v 0 23
  let sg : Int := if bitsOf v 31 1 = 1 then -1 else 1
  if e = 255 then none
  else
    let m := if e = 0 then f else f + 2 ^ 23
    let x := if e = 0 then 1 else e
    if 150 ≤ x then some (sg * (m * 2 ^ (x - 150) : Nat), 1) else some (sg * (m : Nat), 2 ^ (150 - x))

/-- The binary32 word nearest to the positive fraction n/d, ties to even. -/
def b32Of (n d : Nat) : Nat :=
  if n = 0 ∨ d = 0 then 0
  else
    let e0 : Int := (Nat.log2 n : Int) - Nat.log2 d
    -- scale so that the quotient has 24 or 25 bits, then settle the exponent
    let sc (e : Int) : Nat × Nat := if e ≤ 23 then (n * 2 ^ (23 - e).toNat, d) else (n, d * 2 ^ (e - 23).toNat)
    let e := let p := sc e0; if p.1 < p.2 * 2 ^ 23 then e0 - 1 else e0
    let p := sc e
    let q := p.1 / p.2
    let r := p.1 % p.2
    let q := if 2 * r > p.2 ∨ (2 * r = p.2 ∧ q % 2 = 1) then q + 1 else q
    let be := (e + 127).toNat
    if e + 127 ≤ 0 then 0 else if 255 ≤ be then 0x7F800000 else be * 2 ^ 23 + q - 2 ^ 23

end Sys2Proof.Machine
end

