-- ==== Sys2Proof/Machine/Regs.lean ====
section
/-! DEFINITION. The register fields of BAR0 as the register tables of the spec give them (R52, R81, R108, R109, R145,
R146, R184 to R186, R207, R208, R234, R251, R281, R307, R308, R323, R324, R359 to R361, R393, R421, R422, R451, R452,
R482, R507): one constant per field, with its byte address, the byte distance between instances, its lowest bit, its
width and its cold-reset value. `F.PRT_CFG_MODE` is field MODE of `PRTn_CFG`; a register repeated within one instance
takes its number as an argument (`F.PRT_LMON_VOLT k`). Axes are `AX`, safe connections `SAFC`, the common registers of
Table 11-8 `TMPG`, those of Table 5-9 `DIVG`. -/
namespace Sys2Proof.Machine

/-- Where a register field stands and what cold reset leaves in it. -/
structure Fld where
  /-- byte address of the register of instance 0 -/
  base : Nat
  /-- bytes from one instance's register to the next -/
  stride : Nat
  /-- lowest bit of the field -/
  lo : Nat
  /-- width in bits -/
  width : Nat
  /-- the cold-reset value, by instance (R19) -/
  rst : Nat → Nat

namespace F
/-! Table 1-9, R52 of 01_architecture.md. -/
def GLB_ID_DEVICE : Fld := ⟨0x0, 0x0, 0, 16, fun _ => 5652⟩
def GLB_ID_FAMILY : Fld := ⟨0x0, 0x0, 16, 8, fun _ => 90⟩
def GLB_ID_STEP : Fld := ⟨0x0, 0x0, 24, 8, fun _ => 1⟩
def GLB_STATUS_MODE : Fld := ⟨0x4, 0x0, 0, 3, fun _ => 0⟩
def GLB_STATUS_ROLE : Fld := ⟨0x4, 0x0, 4, 2, fun _ => 0⟩
def GLB_STATUS_ERA : Fld := ⟨0x4, 0x0, 8, 1, fun _ => 0⟩
def GLB_STATUS_HOLDOVER : Fld := ⟨0x4, 0x0, 9, 1, fun _ => 0⟩
def GLB_STATUS_BUSY : Fld := ⟨0x4, 0x0, 10, 1, fun _ => 0⟩
def GLB_COMMIT_COMMIT : Fld := ⟨0x8, 0x0, 0, 1, fun _ => 0⟩
def GLB_COMMIT_DISCARD : Fld := ⟨0x8, 0x0, 1, 1, fun _ => 0⟩
def GLB_CSTAT_STAGED : Fld := ⟨0xC, 0x0, 0, 12, fun _ => 0⟩
def GLB_CSTAT_BUSY : Fld := ⟨0xC, 0x0, 12, 1, fun _ => 0⟩
def GLB_CSTAT_STAGE_OVF : Fld := ⟨0xC, 0x0, 13, 1, fun _ => 0⟩
def GLB_CSTAT_TOO_BIG : Fld := ⟨0xC, 0x0, 14, 1, fun _ => 0⟩
def GLB_CSTAT_REFUSED : Fld := ⟨0xC, 0x0, 15, 1, fun _ => 0⟩
def GLB_CSTAT_OWNER : Fld := ⟨0xC, 0x0, 16, 2, fun _ => 0⟩
def GLB_EPOCH_EPOCH : Fld := ⟨0x10, 0x0, 0, 8, fun _ => 0⟩
def GLB_EPOCH_FIRST : Fld := ⟨0x10, 0x0, 8, 8, fun _ => 0⟩
def GLB_EPOCH_LAST : Fld := ⟨0x10, 0x0, 16, 8, fun _ => 0⟩
def GLB_FRESH_OBS_LIM : Fld := ⟨0x14, 0x0, 0, 14, fun _ => 500⟩
def GLB_FRESH_TMP_LIM : Fld := ⟨0x14, 0x0, 16, 13, fun _ => 300⟩
def GLB_DIAG_SRAM_WR : Fld := ⟨0x18, 0x0, 0, 1, fun _ => 0⟩

/-! Table 2-6, R81 of 02_feedback_ports.md. -/
def PRT_CFG_MODE : Fld := ⟨0x4000, 0x100, 0, 2, fun _ => 0⟩
def PRT_CFG_AUTO : Fld := ⟨0x4000, 0x100, 2, 1, fun _ => 0⟩
def PRT_CFG_RANGE_S : Fld := ⟨0x4000, 0x100, 4, 2, fun _ => 3⟩
def PRT_CFG_RANGE_C : Fld := ⟨0x4000, 0x100, 6, 2, fun _ => 3⟩
def PRT_CFG_AX_USE : Fld := ⟨0x4000, 0x100, 8, 2, fun _ => 0⟩
def PRT_CFG_TERM_SN : Fld := ⟨0x4000, 0x100, 10, 1, fun _ => 0⟩
def PRT_CFG_TERM_CS : Fld := ⟨0x4000, 0x100, 11, 1, fun _ => 0⟩
def PRT_CFG_TERM_AX : Fld := ⟨0x4000, 0x100, 12, 1, fun _ => 0⟩
def PRT_CMP_SE : Fld := ⟨0x4004, 0x100, 0, 1, fun _ => 0⟩
def PRT_CMP_SE_TH : Fld := ⟨0x4004, 0x100, 8, 8, fun _ => 70⟩
def PRT_CMP_LINE_TH : Fld := ⟨0x4004, 0x100, 16, 8, fun _ => 15⟩
def PRT_CMP_LINE_T : Fld := ⟨0x4004, 0x100, 24, 8, fun _ => 10⟩
def PRT_DIAG_IDIAG : Fld := ⟨0x4008, 0x100, 0, 2, fun _ => 2⟩
def PRT_DIAG_PERSIST : Fld := ⟨0x4008, 0x100, 4, 4, fun _ => 3⟩
def PRT_DIAG_V_OPEN : Fld := ⟨0x4008, 0x100, 8, 8, fun _ => 25⟩
def PRT_DIAG_W2W_PER : Fld := ⟨0x4008, 0x100, 16, 8, fun _ => 10⟩
def PRT_DIAG_W2W_TH : Fld := ⟨0x4008, 0x100, 24, 8, fun _ => 10⟩
def PRT_DTH_V_LOW : Fld := ⟨0x400C, 0x100, 0, 8, fun _ => 60⟩
def PRT_DTH_V_HIGH : Fld := ⟨0x400C, 0x100, 8, 8, fun _ => 176⟩
def PRT_DTH_CM_TH : Fld := ⟨0x400C, 0x100, 16, 8, fun _ => 30⟩
def PRT_STAT_CUR_S : Fld := ⟨0x4010, 0x100, 0, 2, fun _ => 3⟩
def PRT_STAT_CUR_C : Fld := ⟨0x4010, 0x100, 2, 2, fun _ => 3⟩
def PRT_STAT_PEND_S : Fld := ⟨0x4010, 0x100, 4, 1, fun _ => 0⟩
def PRT_STAT_PEND_C : Fld := ⟨0x4010, 0x100, 5, 1, fun _ => 0⟩
def PRT_STAT_BIAS : Fld := ⟨0x4010, 0x100, 6, 1, fun _ => 0⟩
def PRT_STAT_INJ : Fld := ⟨0x4010, 0x100, 7, 1, fun _ => 0⟩
def PRT_STAT_CLAMP : Fld := ⟨0x4010, 0x100, 8, 4, fun _ => 0⟩
def PRT_STAT_CLAMPX : Fld := ⟨0x4010, 0x100, 12, 2, fun _ => 0⟩
def PRT_STAT_LINE_SN : Fld := ⟨0x4010, 0x100, 14, 1, fun _ => 0⟩
def PRT_STAT_LINE_CS : Fld := ⟨0x4010, 0x100, 15, 1, fun _ => 0⟩
def PRT_STAT_LINE_AX : Fld := ⟨0x4010, 0x100, 16, 1, fun _ => 0⟩
def PRT_STAT_W2W_RUN : Fld := ⟨0x4010, 0x100, 17, 1, fun _ => 0⟩
def PRT_LLIVE_LIVE : Fld := ⟨0x4014, 0x100, 0, 13, fun _ => 0⟩
def PRT_LSTKY_OPEN_SN : Fld := ⟨0x4018, 0x100, 0, 1, fun _ => 0⟩
def PRT_LSTKY_OPEN_CS : Fld := ⟨0x4018, 0x100, 1, 1, fun _ => 0⟩
def PRT_LSTKY_GND_SN : Fld := ⟨0x4018, 0x100, 2, 1, fun _ => 0⟩
def PRT_LSTKY_GND_CS : Fld := ⟨0x4018, 0x100, 3, 1, fun _ => 0⟩
def PRT_LSTKY_SUP_SN : Fld := ⟨0x4018, 0x100, 4, 1, fun _ => 0⟩
def PRT_LSTKY_SUP_CS : Fld := ⟨0x4018, 0x100, 5, 1, fun _ => 0⟩
def PRT_LSTKY_CMS_SN : Fld := ⟨0x4018, 0x100, 6, 1, fun _ => 0⟩
def PRT_LSTKY_CMS_CS : Fld := ⟨0x4018, 0x100, 7, 1, fun _ => 0⟩
def PRT_LSTKY_W2W : Fld := ⟨0x4018, 0x100, 8, 1, fun _ => 0⟩
def PRT_LSTKY_GND_EX : Fld := ⟨0x4018, 0x100, 9, 1, fun _ => 0⟩
def PRT_LSTKY_SUP_EX : Fld := ⟨0x4018, 0x100, 10, 1, fun _ => 0⟩
def PRT_LSTKY_GND_AX : Fld := ⟨0x4018, 0x100, 11, 1, fun _ => 0⟩
def PRT_LSTKY_SUP_AX : Fld := ⟨0x4018, 0x100, 12, 1, fun _ => 0⟩
def PRT_ISTKY_OVR_S : Fld := ⟨0x401C, 0x100, 0, 1, fun _ => 0⟩
def PRT_ISTKY_OVR_C : Fld := ⟨0x401C, 0x100, 1, 1, fun _ => 0⟩
def PRT_ISTKY_RANGE_CHG : Fld := ⟨0x401C, 0x100, 2, 1, fun _ => 0⟩
def PRT_ISTKY_RANGE_IMM : Fld := ⟨0x401C, 0x100, 3, 1, fun _ => 0⟩
def PRT_ISTKY_CLAMP : Fld := ⟨0x401C, 0x100, 4, 1, fun _ => 0⟩
def PRT_ISTKY_LINE_SN : Fld := ⟨0x401C, 0x100, 5, 1, fun _ => 0⟩
def PRT_ISTKY_LINE_CS : Fld := ⟨0x401C, 0x100, 6, 1, fun _ => 0⟩
def PRT_ISTKY_LINE_AX : Fld := ⟨0x401C, 0x100, 7, 1, fun _ => 0⟩
def PRT_OVRCNT_COUNT : Fld := ⟨0x4020, 0x100, 0, 24, fun _ => 0⟩
def PRT_OVRCNT_SAT : Fld := ⟨0x4020, 0x100, 31, 1, fun _ => 0⟩
def PRT_RCHG_COUNT : Fld := ⟨0x4024, 0x100, 0, 16, fun _ => 0⟩
def PRT_RCHG_SAT : Fld := ⟨0x4024, 0x100, 31, 1, fun _ => 0⟩
def PRT_LMON_VOLT (k : Nat) : Fld := ⟨0x4028 + 0x4 * (k % 8), 0x100, 0, 16, fun _ => 0⟩
def PRT_LMON_STATUS (k : Nat) : Fld := ⟨0x4028 + 0x4 * (k % 8), 0x100, 16, 8, fun _ => 0⟩
def PRT_CMD_RESTART : Fld := ⟨0x4048, 0x100, 0, 1, fun _ => 0⟩
def PRT_CMD_W2W_NOW : Fld := ⟨0x4048, 0x100, 1, 1, fun _ => 0⟩

/-! Table 3-5, R108 of 03_excitation.md. -/
def EXC_CFG_ENABLE : Fld := ⟨0x5000, 0x80, 0, 1, fun _ => 0⟩
def EXC_CFG_OWN_FREQ : Fld := ⟨0x5000, 0x80, 1, 1, fun _ => 0⟩
def EXC_CFG_AMP_REG : Fld := ⟨0x5000, 0x80, 2, 1, fun _ => 0⟩
def EXC_CFG_SETTLE_P : Fld := ⟨0x5000, 0x80, 4, 4, fun _ => 2⟩
def EXC_CFG_LIM_N : Fld := ⟨0x5000, 0x80, 8, 4, fun _ => 8⟩
def EXC_CFG_ILIM : Fld := ⟨0x5000, 0x80, 16, 8, fun _ => 150⟩
def EXC_CFG_H3 : Fld := ⟨0x5000, 0x80, 24, 8, fun _ => 0⟩
def EXC_FREQ_FREQ : Fld := ⟨0x5004, 0x80, 0, 25, fun _ => 10000000⟩
def EXC_AMP_AMP : Fld := ⟨0x5008, 0x80, 0, 13, fun _ => 4000⟩
def EXC_PHCFG_PHOFS : Fld := ⟨0x500C, 0x80, 0, 16, fun _ => 0⟩
def EXC_PHCFG_PH_INIT : Fld := ⟨0x500C, 0x80, 16, 16, fun _ => 0⟩
def EXC_PTRK_TAU : Fld := ⟨0x5010, 0x80, 0, 16, fun _ => 1000⟩
def EXC_PTRK_PH_TOL : Fld := ⟨0x5010, 0x80, 16, 8, fun _ => 90⟩
def EXC_PTRK_PH_JMP : Fld := ⟨0x5010, 0x80, 24, 8, fun _ => 30⟩
def EXC_DTH_IOPEN : Fld := ⟨0x5014, 0x80, 0, 8, fun _ => 20⟩
def EXC_DTH_ZSHORT : Fld := ⟨0x5014, 0x80, 8, 8, fun _ => 8⟩
def EXC_DTH_LEG_TH : Fld := ⟨0x5014, 0x80, 16, 8, fun _ => 25⟩
def EXC_STAT_STATE : Fld := ⟨0x5018, 0x80, 0, 3, fun _ => 0⟩
def EXC_STAT_LOCKED : Fld := ⟨0x5018, 0x80, 3, 1, fun _ => 0⟩
def EXC_STAT_LIMITING : Fld := ⟨0x5018, 0x80, 4, 1, fun _ => 0⟩
def EXC_STAT_REG_ACT : Fld := ⟨0x5018, 0x80, 5, 1, fun _ => 0⟩
def EXC_STAT_PH_SRC : Fld := ⟨0x5018, 0x80, 6, 1, fun _ => 0⟩
def EXC_STAT_PEND_F : Fld := ⟨0x5018, 0x80, 7, 1, fun _ => 0⟩
def EXC_STAT_PEND_A : Fld := ⟨0x5018, 0x80, 8, 1, fun _ => 0⟩
def EXC_STAT_LEGS : Fld := ⟨0x5018, 0x80, 9, 3, fun _ => 4⟩
def EXC_STAT_PH_DRIFT : Fld := ⟨0x5018, 0x80, 12, 1, fun _ => 0⟩
def EXC_STAT_THERM_W : Fld := ⟨0x5018, 0x80, 13, 1, fun _ => 0⟩
def EXC_STKY_OPEN_EX : Fld := ⟨0x501C, 0x80, 0, 1, fun _ => 0⟩
def EXC_STKY_SHORT_EX : Fld := ⟨0x501C, 0x80, 1, 1, fun _ => 0⟩
def EXC_STKY_OVERLOAD : Fld := ⟨0x501C, 0x80, 2, 1, fun _ => 0⟩
def EXC_STKY_THERM_WARN : Fld := ⟨0x501C, 0x80, 3, 1, fun _ => 0⟩
def EXC_STKY_THERM_OFF : Fld := ⟨0x501C, 0x80, 4, 1, fun _ => 0⟩
def EXC_STKY_LEG_WORN : Fld := ⟨0x501C, 0x80, 5, 1, fun _ => 0⟩
def EXC_STKY_LEGS_LOW : Fld := ⟨0x501C, 0x80, 6, 1, fun _ => 0⟩
def EXC_STKY_VEXC_LOW : Fld := ⟨0x501C, 0x80, 7, 1, fun _ => 0⟩
def EXC_STKY_PH_DRIFT : Fld := ⟨0x501C, 0x80, 8, 1, fun _ => 0⟩
def EXC_STKY_PH_JUMP : Fld := ⟨0x501C, 0x80, 9, 1, fun _ => 0⟩
def EXC_STKY_LOCK_LOST : Fld := ⟨0x501C, 0x80, 10, 1, fun _ => 0⟩
def EXC_STKY_FREQ_MIS : Fld := ⟨0x501C, 0x80, 11, 1, fun _ => 0⟩
def EXC_STKY_REG_SAT : Fld := ⟨0x501C, 0x80, 12, 1, fun _ => 0⟩
def EXC_STKY_COLD_TAKE : Fld := ⟨0x501C, 0x80, 13, 1, fun _ => 0⟩
def EXC_PHEST_PH : Fld := ⟨0x5020, 0x80, 0, 16, fun _ => 0⟩
def EXC_PHEST_STATUS : Fld := ⟨0x5020, 0x80, 16, 8, fun _ => 0⟩
def EXC_VSENSE_VRMS : Fld := ⟨0x5024, 0x80, 0, 16, fun _ => 0⟩
def EXC_VSENSE_STATUS : Fld := ⟨0x5024, 0x80, 16, 8, fun _ => 0⟩
def EXC_ISENSE_IRMS : Fld := ⟨0x5028, 0x80, 0, 16, fun _ => 0⟩
def EXC_ISENSE_STATUS : Fld := ⟨0x5028, 0x80, 16, 8, fun _ => 0⟩
def EXC_VFAR_VRMS : Fld := ⟨0x502C, 0x80, 0, 16, fun _ => 0⟩
def EXC_VFAR_STATUS : Fld := ⟨0x502C, 0x80, 16, 8, fun _ => 0⟩
def EXC_DTEMP_TEMP : Fld := ⟨0x5030, 0x80, 0, 16, fun _ => 0⟩
def EXC_DTEMP_STATUS : Fld := ⟨0x5030, 0x80, 16, 8, fun _ => 0⟩
def EXC_LEG_RES (k : Nat) : Fld := ⟨0x5034 + 0x4 * (k % 4), 0x80, 0, 16, fun _ => 0⟩
def EXC_LEG_LSTATE (k : Nat) : Fld := ⟨0x5034 + 0x4 * (k % 4), 0x80, 16, 2, fun _ => 0⟩
def EXC_LEG_STATUS (k : Nat) : Fld := ⟨0x5034 + 0x4 * (k % 4), 0x80, 24, 8, fun _ => 0⟩
def EXC_INCI_INCI : Fld := ⟨0x5044, 0x80, 0, 32, fun _ => 0⟩
def EXC_INCR_INCR : Fld := ⟨0x5048, 0x80, 0, 24, fun _ => 0⟩
def EXC_LIMCNT_COUNT : Fld := ⟨0x504C, 0x80, 0, 24, fun _ => 0⟩
def EXC_LIMCNT_SAT : Fld := ⟨0x504C, 0x80, 31, 1, fun _ => 0⟩
def EXC_CMD_RESTART_DRV : Fld := ⟨0x5050, 0x80, 0, 1, fun _ => 0⟩
def EXC_CMD_PH_REACQ : Fld := ⟨0x5050, 0x80, 1, 1, fun _ => 0⟩

/-! Table 3-6, R109 of 03_excitation.md. -/
def EXC_CTRL_PLAN : Fld := ⟨0x5800, 0x0, 0, 2, fun _ => 0⟩
def EXC_CSTAT_PLAN_IN : Fld := ⟨0x5804, 0x0, 0, 2, fun _ => 0⟩
def EXC_CSTAT_MIXED : Fld := ⟨0x5804, 0x0, 2, 1, fun _ => 0⟩
def EXC_VEXC_VEXC : Fld := ⟨0x5808, 0x0, 0, 16, fun _ => 0⟩
def EXC_VEXC_STATUS : Fld := ⟨0x5808, 0x0, 16, 8, fun _ => 0⟩
def EXC_PLAN_FREQ (k : Nat) : Fld := ⟨0x5900 + 0x40 * (k % 4), 0x4, 0, 25, fun n => 9000000 + 150000 * (8 * (n % 2) + n / 2)⟩

/-! Table 4-6, R145 of 04_acquisition_chain.md. -/
def ACQ_CFG_MED : Fld := ⟨0x6000, 0x100, 0, 2, fun _ => 1⟩
def ACQ_CFG_NOTCH : Fld := ⟨0x6000, 0x100, 2, 2, fun _ => 0⟩
def ACQ_CFG_BLK_EN : Fld := ⟨0x6000, 0x100, 4, 1, fun _ => 1⟩
def ACQ_CFG_OVR_BLK : Fld := ⟨0x6000, 0x100, 5, 1, fun _ => 1⟩
def ACQ_CFG_XC_EN : Fld := ⟨0x6000, 0x100, 6, 1, fun _ => 1⟩
def ACQ_CFG_REC_EN : Fld := ⟨0x6000, 0x100, 7, 1, fun _ => 0⟩
def ACQ_CFG_ENV_FT : Fld := ⟨0x6000, 0x100, 8, 1, fun _ => 1⟩
def ACQ_DEC_R : Fld := ⟨0x6004, 0x100, 0, 11, fun _ => 40⟩
def ACQ_DEC_SET : Fld := ⟨0x6004, 0x100, 12, 3, fun _ => 0⟩
def ACQ_DEC_REC_DIV : Fld := ⟨0x6004, 0x100, 16, 8, fun _ => 1⟩
def ACQ_ENV_ENV_LO : Fld := ⟨0x6008, 0x100, 0, 12, fun _ => 30⟩
def ACQ_ENV_ENV_HI : Fld := ⟨0x6008, 0x100, 12, 12, fun _ => 720⟩
def ACQ_ENV_ENV_N : Fld := ⟨0x6008, 0x100, 24, 4, fun _ => 2⟩
def ACQ_GD_OBS_GD : Fld := ⟨0x600C, 0x100, 0, 32, fun _ => 0⟩
def ACQ_GD_DEC_GD : Fld := ⟨0x6010, 0x100, 0, 32, fun _ => 0⟩
def ACQ_GAP_L : Fld := ⟨0x6014, 0x100, 0, 18, fun _ => 0⟩
def ACQ_DSIN_VAL : Fld := ⟨0x6018, 0x100, 0, 24, fun _ => 0⟩
def ACQ_DSIN_STATUS : Fld := ⟨0x6018, 0x100, 24, 8, fun _ => 0⟩
def ACQ_DCOS_VAL : Fld := ⟨0x601C, 0x100, 0, 24, fun _ => 0⟩
def ACQ_DCOS_STATUS : Fld := ⟨0x601C, 0x100, 24, 8, fun _ => 0⟩
def ACQ_ENVL_VAL : Fld := ⟨0x6020, 0x100, 0, 24, fun _ => 0⟩
def ACQ_ENVL_STATUS : Fld := ⟨0x6020, 0x100, 24, 8, fun _ => 0⟩
def ACQ_DTS_TS32 : Fld := ⟨0x6024, 0x100, 0, 32, fun _ => 0⟩
def ACQ_DEP_EPOCH : Fld := ⟨0x6028, 0x100, 0, 8, fun _ => 0⟩
def ACQ_RMS_S_RMS : Fld := ⟨0x602C, 0x100, 0, 24, fun _ => 0⟩
def ACQ_RMS_S_STATUS : Fld := ⟨0x602C, 0x100, 24, 8, fun _ => 0⟩
def ACQ_RMS_C_RMS : Fld := ⟨0x6030, 0x100, 0, 24, fun _ => 0⟩
def ACQ_RMS_C_STATUS : Fld := ⟨0x6030, 0x100, 24, 8, fun _ => 0⟩
def ACQ_PEAK_S_PEAK : Fld := ⟨0x6034, 0x100, 0, 24, fun _ => 0⟩
def ACQ_PEAK_S_STATUS : Fld := ⟨0x6034, 0x100, 24, 8, fun _ => 0⟩
def ACQ_PEAK_C_PEAK : Fld := ⟨0x6038, 0x100, 0, 24, fun _ => 0⟩
def ACQ_PEAK_C_STATUS : Fld := ⟨0x6038, 0x100, 24, 8, fun _ => 0⟩
def ACQ_DC_S_DC : Fld := ⟨0x603C, 0x100, 0, 16, fun _ => 0⟩
def ACQ_DC_S_STATUS : Fld := ⟨0x603C, 0x100, 16, 8, fun _ => 0⟩
def ACQ_DC_C_DC : Fld := ⟨0x6040, 0x100, 0, 16, fun _ => 0⟩
def ACQ_DC_C_STATUS : Fld := ⟨0x6040, 0x100, 16, 8, fun _ => 0⟩
def ACQ_XCMAX_PPM : Fld := ⟨0x6044, 0x100, 0, 16, fun _ => 0⟩
def ACQ_XCMAX_NBR : Fld := ⟨0x6044, 0x100, 16, 4, fun _ => 0⟩
def ACQ_STAT_GAP : Fld := ⟨0x6048, 0x100, 0, 1, fun _ => 0⟩
def ACQ_STAT_FADE : Fld := ⟨0x6048, 0x100, 1, 1, fun _ => 0⟩
def ACQ_STAT_NSETTLE : Fld := ⟨0x6048, 0x100, 2, 1, fun _ => 0⟩
def ACQ_STAT_XC_FRZ : Fld := ⟨0x6048, 0x100, 3, 1, fun _ => 0⟩
def ACQ_STAT_ENV_HI : Fld := ⟨0x6048, 0x100, 4, 1, fun _ => 0⟩
def ACQ_STAT_ENV_LO : Fld := ⟨0x6048, 0x100, 5, 1, fun _ => 0⟩
def ACQ_STAT_ENV_ARM : Fld := ⟨0x6048, 0x100, 6, 1, fun _ => 0⟩
def ACQ_STKY_ENV_HI : Fld := ⟨0x604C, 0x100, 0, 1, fun _ => 0⟩
def ACQ_STKY_ENV_LO : Fld := ⟨0x604C, 0x100, 1, 1, fun _ => 0⟩
def ACQ_STKY_GAP : Fld := ⟨0x604C, 0x100, 8, 1, fun _ => 0⟩
def ACQ_STKY_HELD : Fld := ⟨0x604C, 0x100, 9, 1, fun _ => 0⟩
def ACQ_STKY_FADE_DONE : Fld := ⟨0x604C, 0x100, 10, 1, fun _ => 0⟩
def ACQ_STKY_XC_BIG : Fld := ⟨0x604C, 0x100, 11, 1, fun _ => 0⟩
def ACQ_STKY_DEC_RST : Fld := ⟨0x604C, 0x100, 12, 1, fun _ => 0⟩
def ACQ_BLKCNT_COUNT : Fld := ⟨0x6050, 0x100, 0, 24, fun _ => 0⟩
def ACQ_BLKCNT_SAT : Fld := ⟨0x6050, 0x100, 31, 1, fun _ => 0⟩
def ACQ_HELDCNT_COUNT : Fld := ⟨0x6054, 0x100, 0, 24, fun _ => 0⟩
def ACQ_HELDCNT_SAT : Fld := ⟨0x6054, 0x100, 31, 1, fun _ => 0⟩
def ACQ_CMD_PK_CLR : Fld := ⟨0x6058, 0x100, 0, 1, fun _ => 0⟩
def ACQ_CMD_XC_CLR : Fld := ⟨0x6058, 0x100, 1, 1, fun _ => 0⟩

/-! Table 4-7, R146 of 04_acquisition_chain.md. -/
def ACQ_FLADDR_WORD : Fld := ⟨0x7000, 0x0, 0, 8, fun _ => 0⟩
def ACQ_FLADDR_BANK : Fld := ⟨0x7000, 0x0, 8, 1, fun _ => 0⟩
def ACQ_FLADDR_SET : Fld := ⟨0x7000, 0x0, 9, 3, fun _ => 0⟩
def ACQ_FLADDR_RESULT : Fld := ⟨0x7000, 0x0, 12, 2, fun _ => 0⟩
def ACQ_FLDATA_DATA : Fld := ⟨0x7004, 0x0, 0, 32, fun _ => 0⟩
def ACQ_FSWAP_SET : Fld := ⟨0x7008, 0x0, 0, 3, fun _ => 0⟩
def ACQ_FSWAP_FM1 : Fld := ⟨0x7008, 0x0, 8, 8, fun _ => 0⟩
def ACQ_FSRES_RES : Fld := ⟨0x700C, 0x0, 0, 2, fun _ => 0⟩
def ACQ_FSTKY_BUSY_W : Fld := ⟨0x7010, 0x0, 0, 1, fun _ => 0⟩
def ACQ_FSTKY_BUSY_S : Fld := ⟨0x7010, 0x0, 1, 1, fun _ => 0⟩
def ACQ_FSTKY_BAD_S : Fld := ⟨0x7010, 0x0, 2, 1, fun _ => 0⟩
def ACQ_XC_XC_TAU : Fld := ⟨0x7014, 0x0, 0, 12, fun _ => 200⟩
def ACQ_XC_XC_GUARD : Fld := ⟨0x7014, 0x0, 12, 7, fun _ => 20⟩
def ACQ_XCLIM_LIM : Fld := ⟨0x7018, 0x0, 0, 16, fun _ => 20000⟩
def ACQ_XCSEL_PORT : Fld := ⟨0x701C, 0x0, 0, 4, fun _ => 0⟩
def ACQ_XCSEL_NBR : Fld := ⟨0x701C, 0x0, 4, 4, fun _ => 0⟩
def ACQ_XCSEL_INPUT : Fld := ⟨0x701C, 0x0, 8, 1, fun _ => 0⟩
def ACQ_XCRD_A : Fld := ⟨0x7020, 0x0, 0, 16, fun _ => 0⟩
def ACQ_XCRD_B : Fld := ⟨0x7020, 0x0, 16, 16, fun _ => 0⟩
def ACQ_CALSTAT_SLICE : Fld := ⟨0x7024, 0x0, 0, 6, fun _ => 0⟩
def ACQ_CALSTAT_HOLD : Fld := ⟨0x7024, 0x0, 8, 1, fun _ => 0⟩
def ACQ_CALSTAT_DRIFT : Fld := ⟨0x7024, 0x0, 9, 1, fun _ => 0⟩
def ACQ_FSET_INFO_LIVE : Fld := ⟨0x7040, 0x4, 0, 1, fun _ => 0⟩
def ACQ_FSET_INFO_FADING : Fld := ⟨0x7040, 0x4, 1, 1, fun _ => 0⟩
def ACQ_FSET_INFO_NTAPS : Fld := ⟨0x7040, 0x4, 2, 7, fun _ => 8⟩
def ACQ_FSET_INFO_G : Fld := ⟨0x7040, 0x4, 9, 14, fun _ => 896⟩

/-! Table 5-7, R184 of 05_tracking_observer.md. -/
def OBS_CFG_COMP : Fld := ⟨0x8000, 0x100, 0, 2, fun _ => 2⟩
def OBS_CFG_GAIN_SRC : Fld := ⟨0x8000, 0x100, 2, 1, fun _ => 0⟩
def OBS_CFG_REACQ : Fld := ⟨0x8000, 0x100, 3, 1, fun _ => 1⟩
def OBS_CFG_COAST_BLK : Fld := ⟨0x8000, 0x100, 4, 1, fun _ => 0⟩
def OBS_CFG_OVS_FT : Fld := ⟨0x8000, 0x100, 5, 1, fun _ => 1⟩
def OBS_CFG_LOS_FT : Fld := ⟨0x8000, 0x100, 6, 1, fun _ => 1⟩
def OBS_CFG_PPR : Fld := ⟨0x8000, 0x100, 8, 8, fun _ => 1⟩
def OBS_CFG_MPP : Fld := ⟨0x8000, 0x100, 16, 8, fun _ => 1⟩
def OBS_LOOP_BW : Fld := ⟨0x8004, 0x100, 0, 13, fun _ => 1000⟩
def OBS_LOOP_ZETA : Fld := ⟨0x8004, 0x100, 16, 12, fun _ => 1024⟩
def OBS_K1_K : Fld := ⟨0x8008, 0x100, 0, 32, fun _ => 0⟩
def OBS_K2_K : Fld := ⟨0x800C, 0x100, 0, 32, fun _ => 0⟩
def OBS_K3_K : Fld := ⟨0x8010, 0x100, 0, 32, fun _ => 0⟩
def OBS_KE1_K : Fld := ⟨0x8014, 0x100, 0, 32, fun _ => 0⟩
def OBS_KE2_K : Fld := ⟨0x8018, 0x100, 0, 32, fun _ => 0⟩
def OBS_KE3_K : Fld := ⟨0x801C, 0x100, 0, 32, fun _ => 0⟩
def OBS_LIM_LOT_TH : Fld := ⟨0x8020, 0x100, 0, 16, fun _ => 910⟩
def OBS_LIM_LOT_T : Fld := ⟨0x8020, 0x100, 16, 8, fun _ => 10⟩
def OBS_PROT_OVS_LIM : Fld := ⟨0x8024, 0x100, 0, 12, fun _ => 1500⟩
def OBS_PROT_LOS_TH : Fld := ⟨0x8024, 0x100, 16, 4, fun _ => 5⟩
def OBS_PROT_LOS_N : Fld := ⟨0x8024, 0x100, 20, 4, fun _ => 5⟩
def OBS_COAST_COAST_T : Fld := ⟨0x8028, 0x100, 0, 10, fun _ => 200⟩
def OBS_EOFS_EOFS : Fld := ⟨0x802C, 0x100, 0, 32, fun _ => 0⟩
def OBS_STAT_STATE : Fld := ⟨0x8030, 0x100, 0, 3, fun _ => 0⟩
def OBS_STAT_MIDX_UNK : Fld := ⟨0x8030, 0x100, 3, 1, fun _ => 0⟩
def OBS_STAT_TURN_UNK : Fld := ⟨0x8030, 0x100, 4, 1, fun _ => 0⟩
def OBS_STAT_LOS : Fld := ⟨0x8030, 0x100, 5, 1, fun _ => 0⟩
def OBS_STAT_OVS : Fld := ⟨0x8030, 0x100, 6, 1, fun _ => 0⟩
def OBS_STAT_BW_LIM : Fld := ⟨0x8030, 0x100, 7, 1, fun _ => 0⟩
def OBS_STAT_BW_EFF : Fld := ⟨0x8030, 0x100, 16, 13, fun _ => 0⟩
def OBS_STKY_LOT : Fld := ⟨0x8034, 0x100, 0, 1, fun _ => 0⟩
def OBS_STKY_LOS : Fld := ⟨0x8034, 0x100, 1, 1, fun _ => 0⟩
def OBS_STKY_OVS : Fld := ⟨0x8034, 0x100, 2, 1, fun _ => 0⟩
def OBS_STKY_RANGE_X : Fld := ⟨0x8034, 0x100, 3, 1, fun _ => 0⟩
def OBS_STKY_TWRAP : Fld := ⟨0x8034, 0x100, 4, 1, fun _ => 0⟩
def OBS_STKY_GAIN_BAD : Fld := ⟨0x8034, 0x100, 5, 1, fun _ => 0⟩
def OBS_STKY_BW_LIM : Fld := ⟨0x8034, 0x100, 6, 1, fun _ => 0⟩
def OBS_MAP_ENG : Fld := ⟨0x8038, 0x100, 0, 5, fun n => n⟩
def OBS_MAP_PORT : Fld := ⟨0x8038, 0x100, 8, 4, fun n => if n < 16 then n else 0⟩
def OBS_MAP_INSERV : Fld := ⟨0x8038, 0x100, 12, 1, fun n => if n < 16 then 1 else 0⟩
def OBS_ERR_ERMS : Fld := ⟨0x803C, 0x100, 0, 16, fun _ => 0⟩
def OBS_ERR_CONF : Fld := ⟨0x803C, 0x100, 16, 8, fun _ => 0⟩
def OBS_ERR_STATUS : Fld := ⟨0x803C, 0x100, 24, 8, fun _ => 0⟩
def OBS_PREQ_TS : Fld := ⟨0x8040, 0x100, 0, 32, fun _ => 0⟩
def OBS_TSETV_TURN : Fld := ⟨0x8044, 0x100, 0, 32, fun _ => 0⟩
def OBS_CMD_ACQ : Fld := ⟨0x8048, 0x100, 0, 1, fun _ => 0⟩
def OBS_CMD_MSET : Fld := ⟨0x8048, 0x100, 1, 1, fun _ => 0⟩
def OBS_CMD_MIDX : Fld := ⟨0x8048, 0x100, 8, 8, fun _ => 0⟩
def OBS_LOTCNT_COUNT : Fld := ⟨0x804C, 0x100, 0, 16, fun _ => 0⟩
def OBS_LOTCNT_SAT : Fld := ⟨0x804C, 0x100, 31, 1, fun _ => 0⟩
def OBS_RANG_ANG : Fld := ⟨0x8050, 0x100, 0, 32, fun _ => 0⟩
def OBS_MANG_ANG : Fld := ⟨0x8054, 0x100, 0, 32, fun _ => 0⟩
def OBS_EANG_ANG : Fld := ⟨0x8058, 0x100, 0, 32, fun _ => 0⟩
def OBS_VEL_VEL : Fld := ⟨0x805C, 0x100, 0, 32, fun _ => 0⟩
def OBS_ACC_ACC : Fld := ⟨0x8060, 0x100, 0, 32, fun _ => 0⟩
def OBS_ACCW_ACC : Fld := ⟨0x8064, 0x100, 0, 32, fun _ => 0⟩
def OBS_TURN_TURN : Fld := ⟨0x8068, 0x100, 0, 32, fun _ => 0⟩
def OBS_PSTAT_STATUS : Fld := ⟨0x806C, 0x100, 0, 8, fun _ => 0⟩
def OBS_PSTAT_EPOCH : Fld := ⟨0x806C, 0x100, 8, 8, fun _ => 0⟩
def OBS_PSTAT_MIDX : Fld := ⟨0x806C, 0x100, 16, 8, fun _ => 0⟩
def OBS_PSTAT_MSTATUS : Fld := ⟨0x806C, 0x100, 24, 8, fun _ => 0⟩
def OBS_PTS_TS32 : Fld := ⟨0x8070, 0x100, 0, 32, fun _ => 0⟩
def OBS_COASTCNT_COUNT : Fld := ⟨0x8074, 0x100, 0, 24, fun _ => 0⟩
def OBS_COASTCNT_SAT : Fld := ⟨0x8074, 0x100, 31, 1, fun _ => 0⟩
def OBS_PRANG_W : Fld := ⟨0x8080, 0x100, 0, 32, fun _ => 0⟩
def OBS_PMANG_W : Fld := ⟨0x8084, 0x100, 0, 32, fun _ => 0⟩
def OBS_PEANG_W : Fld := ⟨0x8088, 0x100, 0, 32, fun _ => 0⟩
def OBS_PVEL_W : Fld := ⟨0x808C, 0x100, 0, 32, fun _ => 0⟩
def OBS_PACCW_W : Fld := ⟨0x8090, 0x100, 0, 32, fun _ => 0⟩
def OBS_PTURN_W : Fld := ⟨0x8094, 0x100, 0, 32, fun _ => 0⟩
def OBS_PPSTAT_W : Fld := ⟨0x8098, 0x100, 0, 32, fun _ => 0⟩
def OBS_PPTS_W : Fld := ⟨0x809C, 0x100, 0, 32, fun _ => 0⟩

/-! Table 5-8, R185 of 05_tracking_observer.md. -/
def DIV_ANG_ANG : Fld := ⟨0x9400, 0x40, 0, 32, fun _ => 0⟩
def DIV_SPD_SPD : Fld := ⟨0x9404, 0x40, 0, 32, fun _ => 0⟩
def DIV_STS_STATUS : Fld := ⟨0x9408, 0x40, 0, 8, fun _ => 0⟩
def DIV_STS_CMP : Fld := ⟨0x9408, 0x40, 8, 1, fun _ => 0⟩
def DIV_STS_DIVL : Fld := ⟨0x9408, 0x40, 9, 1, fun _ => 0⟩
def DIV_STS_ALIM : Fld := ⟨0x9408, 0x40, 10, 1, fun _ => 0⟩
def DIV_STS_SLIM : Fld := ⟨0x9408, 0x40, 11, 1, fun _ => 0⟩
def DIV_STS_WHLD : Fld := ⟨0x9408, 0x40, 12, 1, fun _ => 0⟩
def DIV_STS_EPOCH : Fld := ⟨0x9408, 0x40, 16, 8, fun _ => 0⟩
def DIV_TS_TS32 : Fld := ⟨0x940C, 0x40, 0, 32, fun _ => 0⟩
def DIV_DIFF_DANG : Fld := ⟨0x9410, 0x40, 0, 16, fun _ => 0⟩
def DIV_DIFF_DSPD : Fld := ⟨0x9410, 0x40, 16, 16, fun _ => 0⟩
def DIV_STKY_DIVERGE : Fld := ⟨0x9414, 0x40, 0, 1, fun _ => 0⟩
def DIV_STKY_AMB : Fld := ⟨0x9414, 0x40, 1, 1, fun _ => 0⟩
def DIV_STKY_NOCMP : Fld := ⟨0x9414, 0x40, 2, 1, fun _ => 0⟩
def DIV_CNT_COUNT : Fld := ⟨0x9418, 0x40, 0, 24, fun _ => 0⟩
def DIV_CNT_SAT : Fld := ⟨0x9418, 0x40, 31, 1, fun _ => 0⟩

/-! Table 5-9, R186 of 05_tracking_observer.md. -/
def DIVG_CFG_ANG_LIM : Fld := ⟨0x9C00, 0x0, 0, 16, fun _ => 364⟩
def DIVG_CFG_DIV_N : Fld := ⟨0x9C00, 0x0, 16, 4, fun _ => 3⟩
def DIVG_SPD_SPD_LIM : Fld := ⟨0x9C04, 0x0, 0, 16, fun _ => 200⟩
def DIVG_SPD_DIV_TAU : Fld := ⟨0x9C04, 0x0, 16, 16, fun _ => 200⟩

/-! Table 6-6, R207 of 06_error_learning.md. -/
def LRN_CFG_MODE : Fld := ⟨0xA000, 0x80, 0, 2, fun _ => 0⟩
def LRN_CFG_TBL_BASE : Fld := ⟨0xA000, 0x80, 2, 1, fun _ => 0⟩
def LRN_CFG_NVLOAD : Fld := ⟨0xA000, 0x80, 3, 1, fun _ => 1⟩
def LRN_CFG_NHARM : Fld := ⟨0xA000, 0x80, 4, 6, fun _ => 8⟩
def LRN_CFG_NAVG : Fld := ⟨0xA000, 0x80, 10, 4, fun _ => 4⟩
def LRN_CFG_ACONF : Fld := ⟨0xA000, 0x80, 16, 8, fun _ => 192⟩
def LRN_CFG_OCONF : Fld := ⟨0xA000, 0x80, 24, 8, fun _ => 128⟩
def LRN_WIN_VMIN : Fld := ⟨0xA004, 0x80, 0, 11, fun _ => 100⟩
def LRN_WIN_VMAX : Fld := ⟨0xA004, 0x80, 16, 11, fun _ => 1500⟩
def LRN_LIM_AMAX : Fld := ⟨0xA008, 0x80, 0, 16, fun _ => 200⟩
def LRN_LIM_EMAX : Fld := ⟨0xA008, 0x80, 16, 16, fun _ => 182⟩
def LRN_BND0_OFS_BND : Fld := ⟨0xA00C, 0x80, 0, 16, fun _ => 2000⟩
def LRN_BND0_RAT_BND : Fld := ⟨0xA00C, 0x80, 16, 16, fun _ => 5000⟩
def LRN_BND1_QE_BND : Fld := ⟨0xA010, 0x80, 0, 16, fun _ => 182⟩
def LRN_BND1_HAR_BND : Fld := ⟨0xA010, 0x80, 16, 16, fun _ => 182⟩
def LRN_STEP_ESTEP : Fld := ⟨0xA014, 0x80, 0, 10, fun _ => 16⟩
def LRN_STEP_ASTEP : Fld := ⟨0xA014, 0x80, 16, 10, fun _ => 8⟩
def LRN_APL_APL_T : Fld := ⟨0xA018, 0x80, 0, 10, fun _ => 100⟩
def LRN_APL_SMIN : Fld := ⟨0xA018, 0x80, 16, 8, fun _ => 16⟩
def LRN_STAT_ACT : Fld := ⟨0xA01C, 0x80, 0, 1, fun _ => 0⟩
def LRN_STAT_CYC : Fld := ⟨0xA01C, 0x80, 1, 1, fun _ => 0⟩
def LRN_STAT_DEGR : Fld := ⟨0xA01C, 0x80, 2, 1, fun _ => 0⟩
def LRN_STAT_TWSRC : Fld := ⟨0xA01C, 0x80, 3, 1, fun _ => 0⟩
def LRN_STAT_NVBUSY : Fld := ⟨0xA01C, 0x80, 4, 1, fun _ => 0⟩
def LRN_STAT_GATE : Fld := ⟨0xA01C, 0x80, 8, 4, fun _ => 1⟩
def LRN_STAT_OUTB : Fld := ⟨0xA01C, 0x80, 12, 4, fun _ => 0⟩
def LRN_STKY_OUTB : Fld := ⟨0xA020, 0x80, 0, 4, fun _ => 0⟩
def LRN_STKY_NV_DONE : Fld := ⟨0xA020, 0x80, 4, 1, fun _ => 0⟩
def LRN_STKY_NV_FAIL : Fld := ⟨0xA020, 0x80, 5, 1, fun _ => 0⟩
def LRN_STKY_NV_TORN : Fld := ⟨0xA020, 0x80, 6, 1, fun _ => 0⟩
def LRN_STKY_NV_MISM : Fld := ⟨0xA020, 0x80, 7, 1, fun _ => 0⟩
def LRN_STKY_NV_LOADED : Fld := ⟨0xA020, 0x80, 8, 1, fun _ => 0⟩
def LRN_STKY_TW_DIFF : Fld := ⟨0xA020, 0x80, 9, 1, fun _ => 0⟩
def LRN_STKY_WR_BUSY : Fld := ⟨0xA020, 0x80, 10, 1, fun _ => 0⟩
def LRN_EOS_VAL : Fld := ⟨0xA024, 0x80, 0, 32, fun _ => 0⟩
def LRN_EOC_VAL : Fld := ⟨0xA028, 0x80, 0, 32, fun _ => 0⟩
def LRN_ER_VAL : Fld := ⟨0xA02C, 0x80, 0, 32, fun _ => 0⟩
def LRN_EQ_VAL : Fld := ⟨0xA030, 0x80, 0, 32, fun _ => 0⟩
def LRN_AOS_VAL : Fld := ⟨0xA034, 0x80, 0, 32, fun _ => 0⟩
def LRN_AOC_VAL : Fld := ⟨0xA038, 0x80, 0, 32, fun _ => 0⟩
def LRN_AR_VAL : Fld := ⟨0xA03C, 0x80, 0, 32, fun _ => 0⟩
def LRN_AQ_VAL : Fld := ⟨0xA040, 0x80, 0, 32, fun _ => 0⟩
def LRN_CONF_OFS : Fld := ⟨0xA044, 0x80, 0, 8, fun _ => 0⟩
def LRN_CONF_RAT : Fld := ⟨0xA044, 0x80, 8, 8, fun _ => 0⟩
def LRN_CONF_QUAD : Fld := ⟨0xA044, 0x80, 16, 8, fun _ => 0⟩
def LRN_CONF_TBL : Fld := ⟨0xA044, 0x80, 24, 8, fun _ => 0⟩
def LRN_GEN_GEN : Fld := ⟨0xA048, 0x80, 0, 16, fun _ => 0⟩
def LRN_GEN_STATUS : Fld := ⟨0xA048, 0x80, 16, 8, fun _ => 0⟩
def LRN_GEN_EPOCH : Fld := ⟨0xA048, 0x80, 24, 8, fun _ => 0⟩
def LRN_CYCCNT_COUNT : Fld := ⟨0xA04C, 0x80, 0, 24, fun _ => 0⟩
def LRN_CYCCNT_SAT : Fld := ⟨0xA04C, 0x80, 31, 1, fun _ => 0⟩
def LRN_REJCNT_COUNT : Fld := ⟨0xA050, 0x80, 0, 24, fun _ => 0⟩
def LRN_REJCNT_SAT : Fld := ⟨0xA050, 0x80, 31, 1, fun _ => 0⟩
def LRN_NVCNT_COUNT : Fld := ⟨0xA058, 0x80, 0, 24, fun _ => 0⟩
def LRN_NVCNT_SAT : Fld := ⟨0xA058, 0x80, 31, 1, fun _ => 0⟩
def LRN_NVINFO_SEQ : Fld := ⟨0xA054, 0x80, 0, 16, fun _ => 0⟩
def LRN_NVINFO_COPY : Fld := ⟨0xA054, 0x80, 16, 1, fun _ => 0⟩
def LRN_NVINFO_VALID : Fld := ⟨0xA054, 0x80, 17, 1, fun _ => 0⟩
def LRN_CMD_CLR : Fld := ⟨0xA05C, 0x80, 0, 1, fun _ => 0⟩
def LRN_CMD_LOADNV : Fld := ⟨0xA05C, 0x80, 1, 1, fun _ => 0⟩

/-! Table 6-7, R208 of 06_error_learning.md. -/
def LRN_NVCMD_PORTS : Fld := ⟨0xA800, 0x0, 0, 16, fun _ => 0⟩
def LRN_NVCMD_COMMIT : Fld := ⟨0xA800, 0x0, 16, 1, fun _ => 0⟩
def LRN_NVSTAT_BUSY : Fld := ⟨0xA804, 0x0, 0, 1, fun _ => 0⟩
def LRN_NVSTAT_RES : Fld := ⟨0xA804, 0x0, 1, 2, fun _ => 0⟩
def LRN_NVSTAT_PEND : Fld := ⟨0xA804, 0x0, 16, 16, fun _ => 0⟩
def LRN_TLADDR_WORD : Fld := ⟨0xA808, 0x0, 0, 10, fun _ => 0⟩
def LRN_TLADDR_PORT : Fld := ⟨0xA808, 0x0, 10, 4, fun _ => 0⟩
def LRN_TLADDR_RESULT : Fld := ⟨0xA808, 0x0, 14, 2, fun _ => 0⟩
def LRN_TLDATA_DATA : Fld := ⟨0xA80C, 0x0, 0, 32, fun _ => 0⟩

/-! Table 7-3, R234 of 07_digital_feedback.md. -/
def DFB_CFG_TYPE : Fld := ⟨0xB000, 0x80, 0, 2, fun _ => 0⟩
def DFB_CFG_IDXMODE : Fld := ⟨0xB000, 0x80, 2, 2, fun _ => 1⟩
def DFB_CFG_QINFER : Fld := ⟨0xB000, 0x80, 4, 1, fun _ => 0⟩
def DFB_CFG_DIR : Fld := ⟨0xB000, 0x80, 5, 1, fun _ => 0⟩
def DFB_CFG_FILT_N : Fld := ⟨0xB000, 0x80, 8, 6, fun _ => 8⟩
def DFB_CFG_ZGATE : Fld := ⟨0xB000, 0x80, 16, 3, fun _ => 0⟩
def DFB_LINES_LINES : Fld := ⟨0xB004, 0x80, 0, 17, fun _ => 1024⟩
def DFB_IDX_ZREF : Fld := ⟨0xB008, 0x80, 0, 18, fun _ => 0⟩
def DFB_IDX_ZTOL : Fld := ⟨0xB008, 0x80, 24, 6, fun _ => 2⟩
def DFB_QLOSS_ILL_M : Fld := ⟨0xB00C, 0x80, 0, 8, fun _ => 8⟩
def DFB_QLOSS_ILL_WIN : Fld := ⟨0xB00C, 0x80, 8, 16, fun _ => 100⟩
def DFB_HALL_HOFS : Fld := ⟨0xB010, 0x80, 0, 16, fun _ => 0⟩
def DFB_SFMT_ST_BITS : Fld := ⟨0xB014, 0x80, 0, 6, fun _ => 13⟩
def DFB_SFMT_MT_BITS : Fld := ⟨0xB014, 0x80, 6, 6, fun _ => 0⟩
def DFB_SFMT_GRAY : Fld := ⟨0xB014, 0x80, 12, 1, fun _ => 1⟩
def DFB_SFMT_ERRB : Fld := ⟨0xB014, 0x80, 13, 2, fun _ => 0⟩
def DFB_SFMT_DBL : Fld := ⟨0xB014, 0x80, 15, 1, fun _ => 0⟩
def DFB_STIM_CLKDIV : Fld := ⟨0xB018, 0x80, 0, 12, fun _ => 99⟩
def DFB_STIM_TO_MAX : Fld := ⟨0xB018, 0x80, 16, 8, fun _ => 32⟩
def DFB_STIM_MONO : Fld := ⟨0xB018, 0x80, 24, 8, fun _ => 20⟩
def DFB_SREQ_PERIOD : Fld := ⟨0xB01C, 0x80, 0, 16, fun _ => 250⟩
def DFB_SREQ_TRIG : Fld := ⟨0xB01C, 0x80, 16, 1, fun _ => 0⟩
def DFB_SREQ_SLOT : Fld := ⟨0xB01C, 0x80, 24, 8, fun _ => 0⟩
def DFB_LATCH_LATCH_DLY : Fld := ⟨0xB020, 0x80, 0, 16, fun _ => 0⟩
def DFB_STAT_ZFOUND : Fld := ⟨0xB024, 0x80, 0, 1, fun _ => 0⟩
def DFB_STAT_QLOSS : Fld := ⟨0xB024, 0x80, 1, 1, fun _ => 0⟩
def DFB_STAT_LINE : Fld := ⟨0xB024, 0x80, 2, 1, fun _ => 0⟩
def DFB_STAT_HALL_ILL : Fld := ⟨0xB024, 0x80, 3, 1, fun _ => 0⟩
def DFB_STAT_FRAME : Fld := ⟨0xB024, 0x80, 4, 1, fun _ => 0⟩
def DFB_STAT_SENS_E : Fld := ⟨0xB024, 0x80, 5, 1, fun _ => 0⟩
def DFB_STAT_SENS_W : Fld := ⟨0xB024, 0x80, 6, 1, fun _ => 0⟩
def DFB_STAT_DEGR : Fld := ⟨0xB024, 0x80, 7, 1, fun _ => 0⟩
def DFB_STAT_HSECT : Fld := ⟨0xB024, 0x80, 8, 3, fun _ => 0⟩
def DFB_STKY_QERR : Fld := ⟨0xB028, 0x80, 0, 1, fun _ => 0⟩
def DFB_STKY_QLOSS : Fld := ⟨0xB028, 0x80, 1, 1, fun _ => 0⟩
def DFB_STKY_ZDEV : Fld := ⟨0xB028, 0x80, 2, 1, fun _ => 0⟩
def DFB_STKY_ZMISS : Fld := ⟨0xB028, 0x80, 3, 1, fun _ => 0⟩
def DFB_STKY_HALL_ILL : Fld := ⟨0xB028, 0x80, 4, 1, fun _ => 0⟩
def DFB_STKY_HALL_SKIP : Fld := ⟨0xB028, 0x80, 5, 1, fun _ => 0⟩
def DFB_STKY_CRC : Fld := ⟨0xB028, 0x80, 6, 1, fun _ => 0⟩
def DFB_STKY_NOSTART : Fld := ⟨0xB028, 0x80, 7, 1, fun _ => 0⟩
def DFB_STKY_SKIP : Fld := ⟨0xB028, 0x80, 8, 1, fun _ => 0⟩
def DFB_STKY_SENS_E : Fld := ⟨0xB028, 0x80, 9, 1, fun _ => 0⟩
def DFB_STKY_SENS_W : Fld := ⟨0xB028, 0x80, 10, 1, fun _ => 0⟩
def DFB_STKY_LINE : Fld := ⟨0xB028, 0x80, 11, 1, fun _ => 0⟩
def DFB_STKY_CLKMON : Fld := ⟨0xB028, 0x80, 12, 1, fun _ => 0⟩
def DFB_STKY_CNTWRAP : Fld := ⟨0xB028, 0x80, 13, 1, fun _ => 0⟩
def DFB_POS_POS : Fld := ⟨0xB02C, 0x80, 0, 32, fun _ => 0⟩
def DFB_CNT_CNT : Fld := ⟨0xB030, 0x80, 0, 32, fun _ => 0⟩
def DFB_PSTS_STATUS : Fld := ⟨0xB034, 0x80, 0, 8, fun _ => 0⟩
def DFB_PSTS_EPOCH : Fld := ⟨0xB034, 0x80, 8, 8, fun _ => 0⟩
def DFB_PTS_TS32 : Fld := ⟨0xB038, 0x80, 0, 32, fun _ => 0⟩
def DFB_MT_MT : Fld := ⟨0xB03C, 0x80, 0, 32, fun _ => 0⟩
def DFB_ZDEV_DEV : Fld := ⟨0xB040, 0x80, 0, 16, fun _ => 0⟩
def DFB_ZDEV_ZSEEN : Fld := ⟨0xB040, 0x80, 16, 16, fun _ => 0⟩
def DFB_ILLCNT_COUNT : Fld := ⟨0xB044, 0x80, 0, 24, fun _ => 0⟩
def DFB_ILLCNT_SAT : Fld := ⟨0xB044, 0x80, 31, 1, fun _ => 0⟩
def DFB_ERRCNT_COUNT : Fld := ⟨0xB048, 0x80, 0, 24, fun _ => 0⟩
def DFB_ERRCNT_SAT : Fld := ⟨0xB048, 0x80, 31, 1, fun _ => 0⟩
def DFB_SKIPCNT_COUNT : Fld := ⟨0xB04C, 0x80, 0, 24, fun _ => 0⟩
def DFB_SKIPCNT_SAT : Fld := ⟨0xB04C, 0x80, 31, 1, fun _ => 0⟩
def DFB_GD_GD : Fld := ⟨0xB050, 0x80, 0, 32, fun _ => 0⟩
def DFB_CMD_ZCLR : Fld := ⟨0xB054, 0x80, 0, 1, fun _ => 0⟩
def DFB_CMD_CLRDEG : Fld := ⟨0xB054, 0x80, 1, 1, fun _ => 0⟩
def DFB_CMD_QCLR : Fld := ⟨0xB054, 0x80, 2, 1, fun _ => 0⟩
def DFB_MTH_MT : Fld := ⟨0xB058, 0x80, 0, 7, fun _ => 0⟩
def DFB_ZDEVW_DEV : Fld := ⟨0xB05C, 0x80, 0, 32, fun _ => 0⟩

/-! Table 8-3, R251 of 08_encoder_emulation.md. -/
def EMU_CFG_ENABLE : Fld := ⟨0xC000, 0x80, 0, 1, fun _ => 0⟩
def EMU_CFG_ASEL : Fld := ⟨0xC000, 0x80, 1, 2, fun _ => 0⟩
def EMU_CFG_OPENL : Fld := ⟨0xC000, 0x80, 3, 1, fun _ => 0⟩
def EMU_CFG_RESUME : Fld := ⟨0xC000, 0x80, 4, 1, fun _ => 0⟩
def EMU_CFG_DIR : Fld := ⟨0xC000, 0x80, 5, 1, fun _ => 0⟩
def EMU_CFG_ZSRC : Fld := ⟨0xC000, 0x80, 6, 1, fun _ => 0⟩
def EMU_CFG_HYST : Fld := ⟨0xC000, 0x80, 8, 2, fun _ => 0⟩
def EMU_CFG_SRC : Fld := ⟨0xC000, 0x80, 16, 4, fun n => n⟩
def EMU_LINES_LINES : Fld := ⟨0xC004, 0x80, 0, 17, fun _ => 1024⟩
def EMU_ZPOS_ZPOS : Fld := ⟨0xC008, 0x80, 0, 32, fun _ => 0⟩
def EMU_LEAD_LEAD : Fld := ⟨0xC00C, 0x80, 0, 16, fun _ => 0⟩
def EMU_STAT_STATE : Fld := ⟨0xC010, 0x80, 0, 3, fun _ => 0⟩
def EMU_STAT_LIMITING : Fld := ⟨0xC010, 0x80, 3, 1, fun _ => 0⟩
def EMU_STAT_AB : Fld := ⟨0xC010, 0x80, 4, 2, fun _ => 0⟩
def EMU_STAT_Z : Fld := ⟨0xC010, 0x80, 6, 1, fun _ => 0⟩
def EMU_STAT_LASTDIR : Fld := ⟨0xC010, 0x80, 7, 1, fun _ => 0⟩
def EMU_STKY_SAT : Fld := ⟨0xC014, 0x80, 0, 1, fun _ => 0⟩
def EMU_STKY_OVF : Fld := ⟨0xC014, 0x80, 1, 1, fun _ => 0⟩
def EMU_STKY_FROZE : Fld := ⟨0xC014, 0x80, 2, 1, fun _ => 0⟩
def EMU_STKY_RESYNC : Fld := ⟨0xC014, 0x80, 3, 1, fun _ => 0⟩
def EMU_STKY_EWRAP : Fld := ⟨0xC014, 0x80, 4, 1, fun _ => 0⟩
def EMU_EPOS_E : Fld := ⟨0xC020, 0x80, 0, 32, fun _ => 0⟩
def EMU_BKLOG_B : Fld := ⟨0xC024, 0x80, 0, 18, fun _ => 0⟩
def EMU_ETS_TS32 : Fld := ⟨0xC028, 0x80, 0, 32, fun _ => 0⟩
def EMU_ESTS_STATUS : Fld := ⟨0xC02C, 0x80, 0, 8, fun _ => 0⟩
def EMU_ESTS_EPOCH : Fld := ⟨0xC02C, 0x80, 8, 8, fun _ => 0⟩
def EMU_ESTS_CQ : Fld := ⟨0xC02C, 0x80, 16, 16, fun _ => 0⟩
def EMU_BKMAX_MAX : Fld := ⟨0xC030, 0x80, 0, 17, fun _ => 0⟩
def EMU_BKMAX_SAT : Fld := ⟨0xC030, 0x80, 31, 1, fun _ => 0⟩
def EMU_SATCNT_COUNT : Fld := ⟨0xC034, 0x80, 0, 24, fun _ => 0⟩
def EMU_SATCNT_SAT : Fld := ⟨0xC034, 0x80, 31, 1, fun _ => 0⟩
def EMU_RSDIFF_DIFF : Fld := ⟨0xC038, 0x80, 0, 32, fun _ => 0⟩
def EMU_CMD_ALIGN : Fld := ⟨0xC03C, 0x80, 0, 1, fun _ => 0⟩
def EMU_CMD_REARM : Fld := ⟨0xC03C, 0x80, 1, 1, fun _ => 0⟩

/-! Table 9-9, R281 of 09_geyser_scheduler.md. -/
def GEY_CFG_EN : Fld := ⟨0xD000, 0x0, 0, 1, fun _ => 0⟩
def GEY_CFG_AS_EN : Fld := ⟨0xD000, 0x0, 1, 1, fun _ => 0⟩
def GEY_STAT_NARMED : Fld := ⟨0xD004, 0x0, 0, 9, fun _ => 0⟩
def GEY_STAT_NCOMMIT : Fld := ⟨0xD004, 0x0, 16, 9, fun _ => 0⟩
def GEY_STKY_MISSED : Fld := ⟨0xD008, 0x0, 0, 1, fun _ => 0⟩
def GEY_STKY_REVCAN : Fld := ⟨0xD008, 0x0, 1, 1, fun _ => 0⟩
def GEY_STKY_LATE : Fld := ⟨0xD008, 0x0, 2, 1, fun _ => 0⟩
def GEY_STKY_LOSTTRK : Fld := ⟨0xD008, 0x0, 3, 1, fun _ => 0⟩
def GEY_STKY_STRM_DROP : Fld := ⟨0xD008, 0x0, 4, 1, fun _ => 0⟩
def GEY_STKY_PWMS_LOST : Fld := ⟨0xD008, 0x0, 5, 4, fun _ => 0⟩
def GEY_STKY_BUSY_W : Fld := ⟨0xD008, 0x0, 9, 1, fun _ => 0⟩
def GEY_STKY_GBUSY : Fld := ⟨0xD008, 0x0, 10, 1, fun _ => 0⟩
def GEY_STKY_BADSLOT : Fld := ⟨0xD008, 0x0, 11, 1, fun _ => 0⟩
def GEY_STKY_VBUSY : Fld := ⟨0xD008, 0x0, 12, 1, fun _ => 0⟩
def GEY_STKY_GDONE : Fld := ⟨0xD008, 0x0, 13, 1, fun _ => 0⟩
def GEY_STKY_FWRAP : Fld := ⟨0xD008, 0x0, 14, 1, fun _ => 0⟩
def GEY_USTKY_USER : Fld := ⟨0xD00C, 0x0, 0, 8, fun _ => 0⟩
def GEY_LADDR_WORD : Fld := ⟨0xD010, 0x0, 0, 11, fun _ => 0⟩
def GEY_LDATA_DATA : Fld := ⟨0xD014, 0x0, 0, 32, fun _ => 0⟩
def GEY_SHADDR_WORD : Fld := ⟨0xD018, 0x0, 0, 10, fun _ => 0⟩
def GEY_SHADDR_RESULT : Fld := ⟨0xD018, 0x0, 12, 2, fun _ => 0⟩
def GEY_SHDATA_DATA : Fld := ⟨0xD01C, 0x0, 0, 32, fun _ => 0⟩
def GEY_GCMD_GROUP : Fld := ⟨0xD020, 0x0, 0, 6, fun _ => 0⟩
def GEY_GCMD_COPY : Fld := ⟨0xD020, 0x0, 8, 1, fun _ => 0⟩
def GEY_GSTAT_RES : Fld := ⟨0xD024, 0x0, 0, 2, fun _ => 0⟩
def GEY_GPEND0_PEND : Fld := ⟨0xD028, 0x0, 0, 32, fun _ => 0⟩
def GEY_GPEND1_PEND : Fld := ⟨0xD02C, 0x0, 0, 32, fun _ => 0⟩
def GEY_SSEL_SLOT : Fld := ⟨0xD030, 0x0, 0, 8, fun _ => 0⟩
def GEY_SST_STATE : Fld := ⟨0xD034, 0x0, 0, 3, fun _ => 0⟩
def GEY_SST_PRED : Fld := ⟨0xD034, 0x0, 3, 1, fun _ => 0⟩
def GEY_SST_LOCK : Fld := ⟨0xD034, 0x0, 4, 1, fun _ => 0⟩
def GEY_SST_LATE : Fld := ⟨0xD034, 0x0, 5, 1, fun _ => 0⟩
def GEY_SST_MISS : Fld := ⟨0xD034, 0x0, 6, 1, fun _ => 0⟩
def GEY_SST_SLOT : Fld := ⟨0xD034, 0x0, 8, 8, fun _ => 0⟩
def GEY_SST_EPOCH : Fld := ⟨0xD034, 0x0, 16, 8, fun _ => 0⟩
def GEY_SFTL_FT : Fld := ⟨0xD038, 0x0, 0, 32, fun _ => 0⟩
def GEY_SFTH_FT : Fld := ⟨0xD03C, 0x0, 0, 32, fun _ => 0⟩
def GEY_SCNT_COUNT : Fld := ⟨0xD040, 0x0, 0, 32, fun _ => 0⟩
def GEY_STGT_TGT : Fld := ⟨0xD044, 0x0, 0, 32, fun _ => 0⟩
def GEY_MISSCNT_COUNT : Fld := ⟨0xD050, 0x0, 0, 24, fun _ => 0⟩
def GEY_MISSCNT_SAT : Fld := ⟨0xD050, 0x0, 31, 1, fun _ => 0⟩
def GEY_LATECNT_COUNT : Fld := ⟨0xD054, 0x0, 0, 24, fun _ => 0⟩
def GEY_LATECNT_SAT : Fld := ⟨0xD054, 0x0, 31, 1, fun _ => 0⟩
def GEY_REVCNT_COUNT : Fld := ⟨0xD058, 0x0, 0, 24, fun _ => 0⟩
def GEY_REVCNT_SAT : Fld := ⟨0xD058, 0x0, 31, 1, fun _ => 0⟩
def GEY_ASDROP_COUNT : Fld := ⟨0xD05C, 0x0, 0, 24, fun _ => 0⟩
def GEY_ASDROP_SAT : Fld := ⟨0xD05C, 0x0, 31, 1, fun _ => 0⟩
def GEY_GT_EN : Fld := ⟨0xD080, 0x4, 0, 1, fun _ => 0⟩
def GEY_GT_PW : Fld := ⟨0xD080, 0x4, 8, 8, fun _ => 40⟩
def GEY_PWMS_CFG_EN : Fld := ⟨0xD0C0, 0x4, 0, 1, fun _ => 0⟩
def GEY_PWMS_CFG_FILT : Fld := ⟨0xD0C0, 0x4, 4, 4, fun _ => 4⟩
def GEY_PWMS_CFG_TO : Fld := ⟨0xD0C0, 0x4, 16, 16, fun _ => 0⟩
def GEY_PWMS_PER_PER : Fld := ⟨0xD0D0, 0x4, 0, 24, fun _ => 0⟩
def GEY_PWMS_PER_LOST : Fld := ⟨0xD0D0, 0x4, 24, 1, fun _ => 0⟩
def GEY_PWMS_TS_TS32 : Fld := ⟨0xD0E0, 0x4, 0, 32, fun _ => 0⟩
def GEY_ASP_SDIV : Fld := ⟨0xD100, 0x4, 0, 16, fun _ => 0⟩
def GEY_ASP_ASEL : Fld := ⟨0xD100, 0x4, 16, 2, fun _ => 1⟩
def GEY_ASSTAT_LEVEL : Fld := ⟨0xD140, 0x0, 0, 7, fun _ => 0⟩
def GEY_ASSTAT_ACT : Fld := ⟨0xD140, 0x0, 7, 1, fun _ => 0⟩

/-! Table 10-13, R307 of 10_vent_sequencers.md. -/
def VNT_CFG_EN : Fld := ⟨0xE000, 0x80, 0, 1, fun _ => 0⟩
def VNT_CFG_PENTRY : Fld := ⟨0xE000, 0x80, 8, 10, fun _ => 0⟩
def VNT_PER_PER_US : Fld := ⟨0xE004, 0x80, 0, 16, fun _ => 0⟩
def VNT_LIM_BUDGET : Fld := ⟨0xE008, 0x80, 0, 11, fun _ => 256⟩
def VNT_LIM_WMAX : Fld := ⟨0xE008, 0x80, 16, 16, fun _ => 1000⟩
def VNT_STAT_STATE : Fld := ⟨0xE00C, 0x80, 0, 3, fun _ => 0⟩
def VNT_STAT_PEND : Fld := ⟨0xE00C, 0x80, 3, 1, fun _ => 0⟩
def VNT_STAT_PC : Fld := ⟨0xE00C, 0x80, 8, 10, fun _ => 0⟩
def VNT_STAT_FLAGS : Fld := ⟨0xE00C, 0x80, 18, 6, fun _ => 0⟩
def VNT_STKY_BUDGET : Fld := ⟨0xE010, 0x80, 0, 1, fun _ => 0⟩
def VNT_STKY_BADOP : Fld := ⟨0xE010, 0x80, 1, 1, fun _ => 0⟩
def VNT_STKY_ADDR : Fld := ⟨0xE010, 0x80, 2, 1, fun _ => 0⟩
def VNT_STKY_PCOUT : Fld := ⟨0xE010, 0x80, 3, 1, fun _ => 0⟩
def VNT_STKY_ECC : Fld := ⟨0xE010, 0x80, 4, 1, fun _ => 0⟩
def VNT_STKY_OVRUN : Fld := ⟨0xE010, 0x80, 5, 1, fun _ => 0⟩
def VNT_STKY_REFUSED : Fld := ⟨0xE010, 0x80, 6, 1, fun _ => 0⟩
def VNT_STKY_WAITTO : Fld := ⟨0xE010, 0x80, 7, 1, fun _ => 0⟩
def VNT_FPC_PC : Fld := ⟨0xE014, 0x80, 0, 10, fun _ => 0⟩
def VNT_FINS_INS : Fld := ⟨0xE018, 0x80, 0, 32, fun _ => 0⟩
def VNT_ACTCNT_COUNT : Fld := ⟨0xE01C, 0x80, 0, 24, fun _ => 0⟩
def VNT_ACTCNT_SAT : Fld := ⟨0xE01C, 0x80, 31, 1, fun _ => 0⟩
def VNT_BUDCNT_COUNT : Fld := ⟨0xE020, 0x80, 0, 24, fun _ => 0⟩
def VNT_BUDCNT_SAT : Fld := ⟨0xE020, 0x80, 31, 1, fun _ => 0⟩
def VNT_OVRCNT_COUNT : Fld := ⟨0xE024, 0x80, 0, 24, fun _ => 0⟩
def VNT_OVRCNT_SAT : Fld := ⟨0xE024, 0x80, 31, 1, fun _ => 0⟩
def VNT_CMD_CLRF : Fld := ⟨0xE028, 0x80, 0, 1, fun _ => 0⟩
def VNT_CMD_STOP : Fld := ⟨0xE028, 0x80, 1, 1, fun _ => 0⟩
def VNT_CMD_CLRW : Fld := ⟨0xE028, 0x80, 2, 1, fun _ => 0⟩
def VNT_W_W (k : Nat) : Fld := ⟨0xE040 + 0x4 * (k % 8), 0x80, 0, 32, fun _ => 0⟩

/-! Table 10-14, R308 of 10_vent_sequencers.md. -/
def VNT_LADDR_WORD : Fld := ⟨0xE800, 0x0, 0, 13, fun _ => 0⟩
def VNT_LADDR_RESULT : Fld := ⟨0xE800, 0x0, 14, 2, fun _ => 0⟩
def VNT_LDATA_DATA : Fld := ⟨0xE804, 0x0, 0, 32, fun _ => 0⟩
def VNT_SARG_ARG : Fld := ⟨0xE808, 0x0, 0, 32, fun _ => 0⟩
def VNT_START_ENG : Fld := ⟨0xE80C, 0x0, 0, 3, fun _ => 0⟩
def VNT_START_ADDR : Fld := ⟨0xE80C, 0x0, 4, 10, fun _ => 0⟩
def VNT_SRES_RES : Fld := ⟨0xE810, 0x0, 0, 2, fun _ => 0⟩
def VNT_POST_POST : Fld := ⟨0xE814, 0x0, 0, 16, fun _ => 0⟩
def VNT_XOVR_FREQ : Fld := ⟨0xE818, 0x0, 0, 16, fun _ => 0⟩
def VNT_XOVR_AMP : Fld := ⟨0xE818, 0x0, 16, 16, fun _ => 0⟩

/-! Table 11-7, R323 of 11_winding_temperature.md. -/
def TMP_CFG_EN : Fld := ⟨0xF000, 0x40, 0, 1, fun _ => 0⟩
def TMP_CFG_WIRE : Fld := ⟨0xF000, 0x40, 1, 2, fun _ => 2⟩
def TMP_CFG_TYPE : Fld := ⟨0xF000, 0x40, 3, 3, fun _ => 1⟩
def TMP_CFG_STEP : Fld := ⟨0xF000, 0x40, 8, 4, fun _ => 12⟩
def TMP_CFG_RREF : Fld := ⟨0xF000, 0x40, 12, 3, fun _ => 2⟩
def TMP_CFG_ASET : Fld := ⟨0xF000, 0x40, 16, 10, fun _ => 100⟩
def TMP_PINS_PIN0 : Fld := ⟨0xF004, 0x40, 0, 6, fun _ => 0⟩
def TMP_PINS_PIN1 : Fld := ⟨0xF004, 0x40, 8, 6, fun _ => 0⟩
def TMP_PINS_PIN2 : Fld := ⟨0xF004, 0x40, 16, 6, fun _ => 0⟩
def TMP_PINS_PIN3 : Fld := ⟨0xF004, 0x40, 24, 6, fun _ => 0⟩
def TMP_RLEAD_RLEAD : Fld := ⟨0xF008, 0x40, 0, 20, fun _ => 0⟩
def TMP_K0_K : Fld := ⟨0xF00C, 0x40, 0, 32, fun _ => 0⟩
def TMP_K1_K : Fld := ⟨0xF010, 0x40, 0, 32, fun _ => 0⟩
def TMP_K2_K : Fld := ⟨0xF014, 0x40, 0, 32, fun _ => 0⟩
def TMP_ALM_HI : Fld := ⟨0xF018, 0x40, 0, 16, fun _ => 32767⟩
def TMP_ALM_LO : Fld := ⟨0xF018, 0x40, 16, 16, fun _ => 32768⟩
def TMP_TEMP_TEMP : Fld := ⟨0xF01C, 0x40, 0, 16, fun _ => 0⟩
def TMP_TEMP_STATUS : Fld := ⟨0xF01C, 0x40, 16, 8, fun _ => 0⟩
def TMP_TEMP_EPOCH : Fld := ⟨0xF01C, 0x40, 24, 8, fun _ => 0⟩
def TMP_TEMPW_TEMPW : Fld := ⟨0xF020, 0x40, 0, 32, fun _ => 0⟩
def TMP_RES_RES : Fld := ⟨0xF024, 0x40, 0, 32, fun _ => 0⟩
def TMP_TS_TS32 : Fld := ⟨0xF028, 0x40, 0, 32, fun _ => 0⟩
def TMP_SETT_SETTLE : Fld := ⟨0xF02C, 0x40, 0, 16, fun _ => 1375⟩
def TMP_SETT_PHMAX : Fld := ⟨0xF02C, 0x40, 16, 16, fun _ => 0⟩
def TMP_STAT_PHASE : Fld := ⟨0xF030, 0x40, 0, 2, fun _ => 0⟩
def TMP_STAT_ACT : Fld := ⟨0xF030, 0x40, 2, 1, fun _ => 0⟩
def TMP_STAT_QLEN : Fld := ⟨0xF030, 0x40, 3, 3, fun _ => 0⟩
def TMP_STAT_LIVE : Fld := ⟨0xF030, 0x40, 8, 8, fun _ => 0⟩
def TMP_STAT_CFGBAD : Fld := ⟨0xF030, 0x40, 16, 1, fun _ => 0⟩
def TMP_STKY_BITS : Fld := ⟨0xF034, 0x40, 0, 8, fun _ => 0⟩
def TMP_STKY_CFGBAD : Fld := ⟨0xF034, 0x40, 8, 1, fun _ => 0⟩
def TMP_STKY_QOVF : Fld := ⟨0xF034, 0x40, 9, 1, fun _ => 0⟩
def TMP_MISSCNT_COUNT : Fld := ⟨0xF038, 0x40, 0, 24, fun _ => 0⟩
def TMP_MISSCNT_SAT : Fld := ⟨0xF038, 0x40, 31, 1, fun _ => 0⟩

/-! Table 11-8, R324 of 11_winding_temperature.md. -/
def TMPG_CTRL_EN : Fld := ⟨0xF800, 0x0, 0, 1, fun _ => 0⟩
def TMPG_CTRL_TWSH : Fld := ⟨0xF800, 0x0, 1, 1, fun _ => 0⟩
def TMPG_CTRL_GEN : Fld := ⟨0xF800, 0x0, 4, 4, fun _ => 0⟩
def TMPG_STKY_GRDOVL : Fld := ⟨0xF804, 0x0, 0, 4, fun _ => 0⟩

/-! Table 12-13, R359 of 12_safety_monitor.md. -/
def SAF_CTRL_TRKREQ : Fld := ⟨0x10000, 0x0, 0, 1, fun _ => 1⟩
def SAF_CTRL_FT_LATCH : Fld := ⟨0x10000, 0x0, 1, 1, fun _ => 0⟩
def SAF_CTRL_GAP_MAX : Fld := ⟨0x10000, 0x0, 8, 8, fun _ => 2⟩
def SAF_CTRL_XTOL : Fld := ⟨0x10000, 0x0, 16, 8, fun _ => 10⟩
def SAF_CTRL_SEQWIN : Fld := ⟨0x10000, 0x0, 24, 8, fun _ => 8⟩
def SAF_STAT_DEVF : Fld := ⟨0x10004, 0x0, 0, 1, fun _ => 0⟩
def SAF_STAT_PERM_A : Fld := ⟨0x10004, 0x0, 1, 1, fun _ => 0⟩
def SAF_STAT_PERM_B : Fld := ⟨0x10004, 0x0, 2, 1, fun _ => 0⟩
def SAF_STAT_FTRIP : Fld := ⟨0x10004, 0x0, 3, 1, fun _ => 1⟩
def SAF_STAT_PEND : Fld := ⟨0x10004, 0x0, 4, 1, fun _ => 0⟩
def SAF_STAT_KEYWIN : Fld := ⟨0x10004, 0x0, 5, 1, fun _ => 0⟩
def SAF_STAT_RUN_A : Fld := ⟨0x10004, 0x0, 8, 8, fun _ => 0⟩
def SAF_STAT_RUN_B : Fld := ⟨0x10004, 0x0, 16, 8, fun _ => 0⟩
def SAF_DFAULT_LATCHED : Fld := ⟨0x10008, 0x0, 0, 8, fun _ => 0⟩
def SAF_DFAULT_LIVE : Fld := ⟨0x10008, 0x0, 8, 8, fun _ => 0⟩
def SAF_STKY_DEVF : Fld := ⟨0x1000C, 0x0, 0, 1, fun _ => 0⟩
def SAF_STKY_CFG_OK : Fld := ⟨0x1000C, 0x0, 1, 1, fun _ => 0⟩
def SAF_STKY_CFG_REF : Fld := ⟨0x1000C, 0x0, 2, 1, fun _ => 0⟩
def SAF_STKY_KEYERR : Fld := ⟨0x1000C, 0x0, 3, 1, fun _ => 0⟩
def SAF_STKY_DISC : Fld := ⟨0x1000C, 0x0, 4, 8, fun _ => 0⟩
def SAF_STKY_SWAP : Fld := ⟨0x1000C, 0x0, 12, 1, fun _ => 0⟩
def SAF_STKY_INJ : Fld := ⟨0x1000C, 0x0, 13, 1, fun _ => 0⟩
def SAF_STKY_GAP : Fld := ⟨0x1000C, 0x0, 14, 1, fun _ => 0⟩
def SAF_STKY_FTRIP : Fld := ⟨0x1000C, 0x0, 15, 1, fun _ => 0⟩
def SAF_KEY_KEY : Fld := ⟨0x10010, 0x0, 0, 32, fun _ => 0⟩
def SAF_CFGCMD_APPLY : Fld := ⟨0x10014, 0x0, 0, 1, fun _ => 0⟩
def SAF_CFGCMD_DISCARD : Fld := ⟨0x10014, 0x0, 1, 1, fun _ => 0⟩
def SAF_CFGCRC_CRC : Fld := ⟨0x10018, 0x0, 0, 32, fun _ => 0⟩
def SAF_ACRC_CRC : Fld := ⟨0x1001C, 0x0, 0, 32, fun _ => Config.coldImageCrc⟩
def SAF_CFGRES_RES : Fld := ⟨0x10020, 0x0, 0, 2, fun _ => 0⟩
def SAF_CFGRES_BUSY : Fld := ⟨0x10020, 0x0, 2, 1, fun _ => 0⟩
def SAF_ACK_AXIS : Fld := ⟨0x10024, 0x0, 0, 8, fun _ => 0⟩
def SAF_ACK_DEV : Fld := ⟨0x10024, 0x0, 8, 1, fun _ => 0⟩
def SAF_ACK_DISC : Fld := ⟨0x10024, 0x0, 16, 8, fun _ => 0⟩
def SAF_CACK_CONN : Fld := ⟨0x10028, 0x0, 0, 8, fun _ => 0⟩
def SAF_CACK_ACK : Fld := ⟨0x10028, 0x0, 8, 1, fun _ => 0⟩
def SAF_KEYCNT_COUNT : Fld := ⟨0x1002C, 0x0, 0, 24, fun _ => 0⟩
def SAF_KEYCNT_SAT : Fld := ⟨0x1002C, 0x0, 31, 1, fun _ => 0⟩
def SAF_SI_SIA : Fld := ⟨0x10030, 0x0, 0, 8, fun _ => 0⟩
def SAF_SI_SIB : Fld := ⟨0x10030, 0x0, 8, 8, fun _ => 255⟩
def SAF_SI_DEM : Fld := ⟨0x10030, 0x0, 16, 8, fun _ => 255⟩
def SAF_SI_DISC : Fld := ⟨0x10030, 0x0, 24, 8, fun _ => 0⟩
def SAF_VINS_RUN : Fld := ⟨0x10034, 0x0, 0, 8, fun _ => 0⟩
def SAF_NOTE_SPORT : Fld := ⟨0x10038, 0x0, 0, 4, fun _ => 0⟩
def SAF_NOTE_SKIND : Fld := ⟨0x10038, 0x0, 4, 2, fun _ => 0⟩
def SAF_NOTE_SCNT : Fld := ⟨0x10038, 0x0, 8, 8, fun _ => 0⟩
def SAF_NOTE_IPORT : Fld := ⟨0x10038, 0x0, 16, 4, fun _ => 0⟩
def SAF_NOTE_IKIND : Fld := ⟨0x10038, 0x0, 20, 2, fun _ => 0⟩
def SAF_NOTE_IPASS : Fld := ⟨0x10038, 0x0, 22, 1, fun _ => 0⟩
def SAF_NOTE_ICNT : Fld := ⟨0x10038, 0x0, 24, 8, fun _ => 0⟩
def SAF_CSTKY_SINGLE : Fld := ⟨0x1003C, 0x0, 0, 1, fun _ => 0⟩
def SAF_CSTKY_FAULT : Fld := ⟨0x1003C, 0x0, 1, 1, fun _ => 0⟩
def SAF_CSTKY_CRC : Fld := ⟨0x1003C, 0x0, 2, 1, fun _ => 0⟩
def SAF_CSTKY_AGE : Fld := ⟨0x1003C, 0x0, 3, 1, fun _ => 0⟩
def SAF_CSTKY_SEQ : Fld := ⟨0x1003C, 0x0, 4, 1, fun _ => 0⟩
def SAF_CSTKY_MISM : Fld := ⟨0x1003C, 0x0, 5, 1, fun _ => 0⟩
def SAF_CSTKY_TXD : Fld := ⟨0x1003C, 0x0, 6, 1, fun _ => 0⟩
def SAF_CSTKY_SEQWRAP : Fld := ⟨0x1003C, 0x0, 7, 1, fun _ => 0⟩
def SAF_SI_CFG_EN : Fld := ⟨0x10040, 0x4, 0, 1, fun n => if n = 0 then 1 else 0⟩
def SAF_SI_CFG_RUNA : Fld := ⟨0x10040, 0x4, 1, 1, fun _ => 1⟩
def SAF_SI_CFG_RUNB : Fld := ⟨0x10040, 0x4, 2, 1, fun _ => 0⟩
def SAF_SI_CFG_FILT : Fld := ⟨0x10040, 0x4, 4, 6, fun _ => 20⟩
def SAF_SI_CFG_AXES : Fld := ⟨0x10040, 0x4, 12, 8, fun _ => 255⟩
def SAF_SI_CFG_DISC : Fld := ⟨0x10040, 0x4, 20, 8, fun _ => 50⟩
def SAF_SI_CFG_FUNC : Fld := ⟨0x10040, 0x4, 28, 3, fun _ => 1⟩
def SAF_VIN_CFG_EN : Fld := ⟨0x10060, 0x4, 0, 1, fun _ => 0⟩
def SAF_VIN_CFG_CONN : Fld := ⟨0x10060, 0x4, 8, 8, fun _ => 0⟩
def SAF_VIN_CFG_AXES : Fld := ⟨0x10060, 0x4, 16, 8, fun _ => 0⟩
def SAF_VIN_CFG_FUNC : Fld := ⟨0x10060, 0x4, 24, 3, fun _ => 0⟩
def SAF_CRCCNT_COUNT : Fld := ⟨0x10080, 0x0, 0, 24, fun _ => 0⟩
def SAF_CRCCNT_SAT : Fld := ⟨0x10080, 0x0, 31, 1, fun _ => 0⟩
def SAF_AGECNT_COUNT : Fld := ⟨0x10084, 0x0, 0, 24, fun _ => 0⟩
def SAF_AGECNT_SAT : Fld := ⟨0x10084, 0x0, 31, 1, fun _ => 0⟩
def SAF_SEQCNT_COUNT : Fld := ⟨0x10088, 0x0, 0, 24, fun _ => 0⟩
def SAF_SEQCNT_SAT : Fld := ⟨0x10088, 0x0, 31, 1, fun _ => 0⟩
def SAF_TXDCNT_COUNT : Fld := ⟨0x1008C, 0x0, 0, 24, fun _ => 0⟩
def SAF_TXDCNT_SAT : Fld := ⟨0x1008C, 0x0, 31, 1, fun _ => 0⟩
def SAF_CSEL_CONN : Fld := ⟨0x10400, 0x0, 0, 8, fun _ => 0⟩
def SAF_CCMD_SEND : Fld := ⟨0x10404, 0x0, 0, 1, fun _ => 0⟩
def SAF_CDATA_DATA : Fld := ⟨0x10410, 0x4, 0, 32, fun _ => 0⟩
def SAF_CDSTS_STATUS : Fld := ⟨0x10420, 0x0, 0, 8, fun _ => 0⟩
def SAF_CDSTS_SEQ : Fld := ⟨0x10420, 0x0, 16, 16, fun _ => 0⟩
def SAF_CDTS_TS32 : Fld := ⟨0x10424, 0x0, 0, 32, fun _ => 0⟩

/-! Table 12-14, R360 of 12_safety_monitor.md. -/
def AX_CFG_EN : Fld := ⟨0x10200, 0x40, 0, 1, fun n => if n = 0 then 1 else 0⟩
def AX_CFG_LOCAL : Fld := ⟨0x10200, 0x40, 1, 1, fun n => if n = 0 then 1 else 0⟩
def AX_CFG_AUTORST : Fld := ⟨0x10200, 0x40, 2, 1, fun n => if n = 0 then 1 else 0⟩
def AX_CFG_LEADF : Fld := ⟨0x10200, 0x40, 3, 1, fun _ => 0⟩
def AX_CFG_PROT : Fld := ⟨0x10200, 0x40, 4, 1, fun _ => 0⟩
def AX_CFG_NPORT : Fld := ⟨0x10200, 0x40, 5, 2, fun _ => 0⟩
def AX_CFG_P1 : Fld := ⟨0x10200, 0x40, 8, 4, fun _ => 0⟩
def AX_CFG_P2 : Fld := ⟨0x10200, 0x40, 12, 4, fun _ => 0⟩
def AX_CFG_AGREE : Fld := ⟨0x10200, 0x40, 16, 16, fun _ => 50⟩
def AX_K1_K : Fld := ⟨0x10204, 0x40, 0, 32, fun _ => 16777216⟩
def AX_K2_K : Fld := ⟨0x10208, 0x40, 0, 32, fun _ => 16777216⟩
def AX_SS1_DEC : Fld := ⟨0x1020C, 0x40, 0, 16, fun _ => 100⟩
def AX_SS1_MRG : Fld := ⟨0x1020C, 0x40, 16, 16, fun _ => 30⟩
def AX_SS1T_VSTO : Fld := ⟨0x10210, 0x40, 0, 16, fun _ => 50⟩
def AX_SS1T_TMAX : Fld := ⟨0x10210, 0x40, 16, 16, fun _ => 3000⟩
def AX_LIM_SLS_LIM : Fld := ⟨0x10214, 0x40, 0, 16, fun _ => 100⟩
def AX_LIM_SMAX : Fld := ⟨0x10214, 0x40, 16, 16, fun _ => 0⟩
def AX_SDI_SDI_TOL : Fld := ⟨0x10218, 0x40, 0, 16, fun _ => 655⟩
def AX_SDI_SLS_T : Fld := ⟨0x10218, 0x40, 16, 16, fun _ => 500⟩
def AX_STAT_STA : Fld := ⟨0x10220, 0x40, 0, 3, fun _ => 0⟩
def AX_STAT_RSTW : Fld := ⟨0x10220, 0x40, 3, 1, fun _ => 0⟩
def AX_STAT_STB : Fld := ⟨0x10220, 0x40, 4, 3, fun _ => 0⟩
def AX_STAT_SLS_ON : Fld := ⟨0x10220, 0x40, 7, 1, fun _ => 0⟩
def AX_STAT_SDI_ON : Fld := ⟨0x10220, 0x40, 8, 2, fun _ => 0⟩
def AX_STAT_CAUSE : Fld := ⟨0x10220, 0x40, 12, 4, fun _ => 0⟩
def AX_STAT_STS_A : Fld := ⟨0x10220, 0x40, 16, 8, fun _ => 0⟩
def AX_STAT_STS_B : Fld := ⟨0x10220, 0x40, 24, 8, fun _ => 0⟩
def AX_VA_V : Fld := ⟨0x10224, 0x40, 0, 32, fun _ => 0⟩
def AX_VB_V : Fld := ⟨0x10228, 0x40, 0, 32, fun _ => 0⟩
def AX_ENV_E : Fld := ⟨0x1022C, 0x40, 0, 32, fun _ => 0⟩
def AX_TS_TS32 : Fld := ⟨0x10230, 0x40, 0, 32, fun _ => 0⟩
def AX_STKY_FAULT : Fld := ⟨0x10234, 0x40, 0, 1, fun _ => 0⟩
def AX_STKY_STO : Fld := ⟨0x10234, 0x40, 1, 1, fun _ => 0⟩
def AX_STKY_SS1 : Fld := ⟨0x10234, 0x40, 2, 1, fun _ => 0⟩
def AX_STKY_LEAD : Fld := ⟨0x10234, 0x40, 3, 1, fun _ => 0⟩

/-! Table 12-15, R361 of 12_safety_monitor.md. -/
def SAFC_CFG_DIR : Fld := ⟨0x11000, 0x10, 0, 2, fun _ => 0⟩
def SAFC_CFG_SRC : Fld := ⟨0x11000, 0x10, 2, 2, fun _ => 0⟩
def SAFC_CFG_AGEM : Fld := ⟨0x11000, 0x10, 4, 1, fun _ => 0⟩
def SAFC_CFG_DLEN : Fld := ⟨0x11000, 0x10, 8, 5, fun _ => 0⟩
def SAFC_CFG_OBJ : Fld := ⟨0x11000, 0x10, 16, 7, fun _ => 0⟩
def SAFC_CFG_PID : Fld := ⟨0x11000, 0x10, 24, 8, fun _ => 0⟩
def SAFC_ID_ID : Fld := ⟨0x11004, 0x10, 0, 29, fun _ => 0⟩
def SAFC_ID_IDE : Fld := ⟨0x11004, 0x10, 29, 1, fun _ => 0⟩
def SAFC_TIM_AGE : Fld := ⟨0x11008, 0x10, 0, 8, fun _ => 10⟩
def SAFC_TIM_PAIR : Fld := ⟨0x11008, 0x10, 8, 8, fun _ => 20⟩
def SAFC_TIM_SINGLE : Fld := ⟨0x11008, 0x10, 16, 8, fun _ => 0⟩
def SAFC_TIM_PER : Fld := ⟨0x11008, 0x10, 24, 8, fun _ => 10⟩
def SAFC_STAT_STATE : Fld := ⟨0x1100C, 0x10, 0, 3, fun _ => 0⟩
def SAFC_STAT_LASTERR : Fld := ⟨0x1100C, 0x10, 4, 4, fun _ => 0⟩
def SAFC_STAT_SEQ : Fld := ⟨0x1100C, 0x10, 16, 16, fun _ => 0⟩

/-! Table 13-10, R393 of 13_can_fd.md. -/
def CAN_CFG_MODE : Fld := ⟨0x12000, 0x1000, 0, 3, fun _ => 0⟩
def CAN_CFG_ABORT_BO : Fld := ⟨0x12000, 0x1000, 3, 1, fun _ => 0⟩
def CAN_CFG_MANREC : Fld := ⟨0x12000, 0x1000, 4, 1, fun _ => 0⟩
def CAN_CFG_PXE : Fld := ⟨0x12000, 0x1000, 5, 1, fun _ => 1⟩
def CAN_CFG_TDC_EN : Fld := ⟨0x12000, 0x1000, 6, 1, fun _ => 1⟩
def CAN_CFG_COLL_N : Fld := ⟨0x12000, 0x1000, 8, 3, fun _ => 3⟩
def CAN_NBT_NBRP : Fld := ⟨0x12004, 0x1000, 0, 8, fun _ => 0⟩
def CAN_NBT_NTSEG1 : Fld := ⟨0x12004, 0x1000, 8, 8, fun _ => 126⟩
def CAN_NBT_NTSEG2 : Fld := ⟨0x12004, 0x1000, 16, 7, fun _ => 31⟩
def CAN_NBT_NSJW : Fld := ⟨0x12004, 0x1000, 24, 7, fun _ => 31⟩
def CAN_DBT_DBRP : Fld := ⟨0x12008, 0x1000, 0, 5, fun _ => 0⟩
def CAN_DBT_DTSEG1 : Fld := ⟨0x12008, 0x1000, 8, 5, fun _ => 28⟩
def CAN_DBT_DTSEG2 : Fld := ⟨0x12008, 0x1000, 16, 4, fun _ => 9⟩
def CAN_DBT_DSJW : Fld := ⟨0x12008, 0x1000, 24, 4, fun _ => 9⟩
def CAN_TDC_TDCO : Fld := ⟨0x1200C, 0x1000, 0, 7, fun _ => 30⟩
def CAN_TDC_TDCV : Fld := ⟨0x1200C, 0x1000, 16, 8, fun _ => 0⟩
def CAN_STAT_STATE : Fld := ⟨0x12010, 0x1000, 0, 3, fun _ => 0⟩
def CAN_STAT_LOM : Fld := ⟨0x12010, 0x1000, 3, 1, fun _ => 0⟩
def CAN_STAT_BT_PEND : Fld := ⟨0x12010, 0x1000, 4, 1, fun _ => 0⟩
def CAN_STAT_BT_BAD : Fld := ⟨0x12010, 0x1000, 5, 1, fun _ => 0⟩
def CAN_STAT_TXACT : Fld := ⟨0x12010, 0x1000, 6, 1, fun _ => 0⟩
def CAN_STAT_RXACT : Fld := ⟨0x12010, 0x1000, 7, 1, fun _ => 0⟩
def CAN_STAT_TEC : Fld := ⟨0x12010, 0x1000, 8, 8, fun _ => 0⟩
def CAN_STAT_REC : Fld := ⟨0x12010, 0x1000, 16, 8, fun _ => 0⟩
def CAN_STAT_LEC : Fld := ⟨0x12010, 0x1000, 24, 3, fun _ => 0⟩
def CAN_STKY_EWARN : Fld := ⟨0x12014, 0x1000, 0, 1, fun _ => 0⟩
def CAN_STKY_EPASS : Fld := ⟨0x12014, 0x1000, 1, 1, fun _ => 0⟩
def CAN_STKY_BOFF : Fld := ⟨0x12014, 0x1000, 2, 1, fun _ => 0⟩
def CAN_STKY_RECOV : Fld := ⟨0x12014, 0x1000, 3, 1, fun _ => 0⟩
def CAN_STKY_COLL : Fld := ⟨0x12014, 0x1000, 4, 1, fun _ => 0⟩
def CAN_STKY_WAKE : Fld := ⟨0x12014, 0x1000, 5, 1, fun _ => 0⟩
def CAN_STKY_RXDROP : Fld := ⟨0x12014, 0x1000, 6, 1, fun _ => 0⟩
def CAN_STKY_OVW : Fld := ⟨0x12014, 0x1000, 7, 1, fun _ => 0⟩
def CAN_STKY_TXREF : Fld := ⟨0x12014, 0x1000, 8, 1, fun _ => 0⟩
def CAN_STKY_SKIP : Fld := ⟨0x12014, 0x1000, 9, 1, fun _ => 0⟩
def CAN_STKY_ABORT : Fld := ⟨0x12014, 0x1000, 10, 1, fun _ => 0⟩
def CAN_STKY_PXE : Fld := ⟨0x12014, 0x1000, 11, 1, fun _ => 0⟩
def CAN_STKY_TDCERR : Fld := ⟨0x12014, 0x1000, 12, 1, fun _ => 0⟩
def CAN_CMD_RECOVER : Fld := ⟨0x12018, 0x1000, 0, 1, fun _ => 0⟩
def CAN_CMD_SLEEP : Fld := ⟨0x12018, 0x1000, 1, 1, fun _ => 0⟩
def CAN_CMD_WAKE : Fld := ⟨0x12018, 0x1000, 2, 1, fun _ => 0⟩
def CAN_CMD_RINGCAN : Fld := ⟨0x12018, 0x1000, 3, 1, fun _ => 0⟩
def CAN_WCFG_WMODE : Fld := ⟨0x1201C, 0x1000, 0, 1, fun _ => 0⟩
def CAN_WCFG_WIDE : Fld := ⟨0x1201C, 0x1000, 1, 1, fun _ => 0⟩
def CAN_WCFG_TWAKE : Fld := ⟨0x1201C, 0x1000, 8, 6, fun _ => 10⟩
def CAN_WCFG_WDMASK : Fld := ⟨0x1201C, 0x1000, 16, 8, fun _ => 0⟩
def CAN_WID_ID : Fld := ⟨0x12020, 0x1000, 0, 29, fun _ => 0⟩
def CAN_WMASK_ID : Fld := ⟨0x12024, 0x1000, 0, 29, fun _ => 0⟩
def CAN_WDATA0_DATA : Fld := ⟨0x12028, 0x1000, 0, 32, fun _ => 0⟩
def CAN_WDATA1_DATA : Fld := ⟨0x1202C, 0x1000, 0, 32, fun _ => 0⟩
def CAN_OCMD_OBJ : Fld := ⟨0x12030, 0x1000, 0, 7, fun _ => 0⟩
def CAN_OCMD_TXREQ : Fld := ⟨0x12030, 0x1000, 8, 1, fun _ => 0⟩
def CAN_OCMD_CANCEL : Fld := ⟨0x12030, 0x1000, 9, 1, fun _ => 0⟩
def CAN_OCMD_RESUME : Fld := ⟨0x12030, 0x1000, 10, 1, fun _ => 0⟩
def CAN_ORES_RES : Fld := ⟨0x12034, 0x1000, 0, 1, fun _ => 0⟩
def CAN_PEND_PEND (k : Nat) : Fld := ⟨0x12040 + 0x4 * (k % 4), 0x1000, 0, 32, fun _ => 0⟩
def CAN_SUSP_SUSP (k : Nat) : Fld := ⟨0x12050 + 0x4 * (k % 4), 0x1000, 0, 32, fun _ => 0⟩
def CAN_BERRCNT_COUNT : Fld := ⟨0x12060, 0x1000, 0, 24, fun _ => 0⟩
def CAN_BERRCNT_SAT : Fld := ⟨0x12060, 0x1000, 31, 1, fun _ => 0⟩
def CAN_BOCNT_COUNT : Fld := ⟨0x12064, 0x1000, 0, 24, fun _ => 0⟩
def CAN_BOCNT_SAT : Fld := ⟨0x12064, 0x1000, 31, 1, fun _ => 0⟩
def CAN_RXDROP_COUNT : Fld := ⟨0x12068, 0x1000, 0, 24, fun _ => 0⟩
def CAN_RXDROP_SAT : Fld := ⟨0x12068, 0x1000, 31, 1, fun _ => 0⟩
def CAN_COLLCNT_COUNT : Fld := ⟨0x1206C, 0x1000, 0, 24, fun _ => 0⟩
def CAN_COLLCNT_SAT : Fld := ⟨0x1206C, 0x1000, 31, 1, fun _ => 0⟩
def CAN_OWADDR_WORD : Fld := ⟨0x12080, 0x1000, 0, 12, fun _ => 0⟩
def CAN_OWADDR_RESULT : Fld := ⟨0x12080, 0x1000, 12, 2, fun _ => 0⟩
def CAN_OWDATA_DATA : Fld := ⟨0x12084, 0x1000, 0, 32, fun _ => 0⟩
def CAN_ORSEL_OBJ : Fld := ⟨0x12100, 0x1000, 0, 7, fun _ => 0⟩
def CAN_OR_WORD (k : Nat) : Fld := ⟨0x12200 + 0x4 * (k % 32), 0x1000, 0, 32, fun _ => 0⟩

/-! Table 14-12, R421 of 14_host_rings.md. -/
def HIF_STAT_SPEED : Fld := ⟨0x2000, 0x0, 0, 2, fun _ => 0⟩
def HIF_STAT_WIDTH : Fld := ⟨0x2000, 0x0, 2, 2, fun _ => 0⟩
def HIF_STAT_BME : Fld := ⟨0x2000, 0x0, 4, 1, fun _ => 0⟩
def HIF_STAT_MSIX : Fld := ⟨0x2000, 0x0, 5, 1, fun _ => 0⟩
def HIF_STAT_D3 : Fld := ⟨0x2000, 0x0, 6, 1, fun _ => 0⟩
def HIF_STAT_SOWN : Fld := ⟨0x2000, 0x0, 8, 5, fun _ => 0⟩
def HIF_STKY_RDROP : Fld := ⟨0x2004, 0x0, 0, 1, fun _ => 0⟩
def HIF_STKY_DBBAD : Fld := ⟨0x2004, 0x0, 1, 1, fun _ => 0⟩
def HIF_STKY_DMAERR : Fld := ⟨0x2004, 0x0, 2, 1, fun _ => 0⟩
def HIF_STKY_CFGBAD : Fld := ⟨0x2004, 0x0, 3, 1, fun _ => 0⟩
def HIF_STKY_SPICRC : Fld := ⟨0x2004, 0x0, 4, 1, fun _ => 0⟩
def HIF_STKY_SPIABT : Fld := ⟨0x2004, 0x0, 5, 1, fun _ => 0⟩
def HIF_STKY_HBTO : Fld := ⟨0x2004, 0x0, 8, 1, fun _ => 0⟩
def HIF_SBLKL_EN : Fld := ⟨0x2008, 0x0, 0, 1, fun _ => 0⟩
def HIF_SBLKL_ADDR : Fld := ⟨0x2008, 0x0, 7, 25, fun _ => 0⟩
def HIF_SBLKH_ADDR : Fld := ⟨0x200C, 0x0, 0, 32, fun _ => 0⟩
def HIF_ROUTE0_DEC : Fld := ⟨0x2010, 0x0, 0, 8, fun _ => 0⟩
def HIF_ROUTE0_SNAP : Fld := ⟨0x2010, 0x0, 8, 8, fun _ => 0⟩
def HIF_ROUTE0_EVENT : Fld := ⟨0x2010, 0x0, 16, 8, fun _ => 0⟩
def HIF_ROUTE0_SAFEPDU : Fld := ⟨0x2010, 0x0, 24, 8, fun _ => 0⟩
def HIF_ROUTE1_CANRX0 : Fld := ⟨0x2014, 0x0, 0, 8, fun _ => 0⟩
def HIF_ROUTE1_CANRX1 : Fld := ⟨0x2014, 0x0, 8, 8, fun _ => 0⟩
def HIF_ROUTE1_ASH : Fld := ⟨0x2014, 0x0, 16, 8, fun _ => 0⟩
def HIF_HBCFG_TMO : Fld := ⟨0x2018, 0x0, 0, 16, fun _ => 0⟩
def HIF_HBCFG_ACT : Fld := ⟨0x2018, 0x0, 16, 2, fun _ => 0⟩
def HIF_HBCFG_PCIE : Fld := ⟨0x2018, 0x0, 18, 1, fun _ => 1⟩
def HIF_HBCFG_SPI : Fld := ⟨0x2018, 0x0, 19, 1, fun _ => 1⟩
def HIF_HBEAT_BEAT : Fld := ⟨0x201C, 0x0, 0, 32, fun _ => 0⟩
def HIF_SPICRC_COUNT : Fld := ⟨0x2020, 0x0, 0, 24, fun _ => 0⟩
def HIF_SPICRC_SAT : Fld := ⟨0x2020, 0x0, 31, 1, fun _ => 0⟩
def HIF_SPIABT_COUNT : Fld := ⟨0x2024, 0x0, 0, 24, fun _ => 0⟩
def HIF_SPIABT_SAT : Fld := ⟨0x2024, 0x0, 31, 1, fun _ => 0⟩
def HIF_RING_BASEL_BASE : Fld := ⟨0x2100, 0x20, 12, 20, fun _ => 0⟩
def HIF_RING_BASEH_BASE : Fld := ⟨0x2104, 0x20, 0, 32, fun _ => 0⟩
def HIF_RING_CFG_EN : Fld := ⟨0x2108, 0x20, 0, 1, fun _ => 0⟩
def HIF_RING_CFG_SIZE : Fld := ⟨0x2108, 0x20, 1, 5, fun _ => 6⟩
def HIF_RING_CFG_CLASS : Fld := ⟨0x2108, 0x20, 6, 2, fun _ => 0⟩
def HIF_RING_CFG_VEC : Fld := ⟨0x2108, 0x20, 8, 5, fun _ => 0⟩
def HIF_RING_CFG_IEN : Fld := ⟨0x2108, 0x20, 13, 1, fun _ => 0⟩
def HIF_RING_CFG_CRING : Fld := ⟨0x2108, 0x20, 16, 5, fun _ => 0⟩
def HIF_RING_DB_TAIL : Fld := ⟨0x210C, 0x20, 0, 16, fun _ => 0⟩
def HIF_RING_HEAD_HEAD : Fld := ⟨0x2110, 0x20, 0, 16, fun _ => 0⟩
def HIF_RING_HEAD_WRAPS : Fld := ⟨0x2110, 0x20, 16, 16, fun _ => 0⟩
def HIF_RING_STAT_STOP : Fld := ⟨0x2114, 0x20, 0, 1, fun _ => 0⟩
def HIF_RING_STAT_ERR : Fld := ⟨0x2114, 0x20, 1, 2, fun _ => 0⟩
def HIF_RING_DROP_COUNT : Fld := ⟨0x2118, 0x20, 0, 24, fun _ => 0⟩
def HIF_RING_DROP_SAT : Fld := ⟨0x2118, 0x20, 31, 1, fun _ => 0⟩

/-! Table 14-13, R422 of 14_host_rings.md. -/
def EVT_CFG_EN : Fld := ⟨0x3000, 0x4, 0, 1, fun _ => 1⟩
def EVT_CFG_REC : Fld := ⟨0x3000, 0x4, 1, 1, fun _ => 1⟩
def EVT_CFG_VEN : Fld := ⟨0x3000, 0x4, 2, 1, fun _ => 1⟩
def EVT_CFG_PIN : Fld := ⟨0x3000, 0x4, 3, 1, fun _ => 1⟩
def EVT_CFG_VEC : Fld := ⟨0x3000, 0x4, 8, 5, fun _ => 0⟩
def EVT_CNT_COUNT : Fld := ⟨0x3400, 0x4, 0, 24, fun _ => 0⟩
def EVT_CNT_SAT : Fld := ⟨0x3400, 0x4, 31, 1, fun _ => 0⟩
def EVT_PEND_PEND : Fld := ⟨0x3800, 0x4, 0, 32, fun _ => 0⟩
def EVT_VEC_MTIME : Fld := ⟨0x3840, 0x4, 0, 10, fun _ => 0⟩
def EVT_VEC_MCNT : Fld := ⟨0x3840, 0x4, 16, 8, fun _ => 0⟩
def EVT_STAT_NPEND : Fld := ⟨0x38C0, 0x0, 0, 9, fun _ => 0⟩
def EVT_STAT_PIN : Fld := ⟨0x38C0, 0x0, 9, 1, fun _ => 0⟩

/-! Table 15-5, R451 of 15_chain_and_twin.md. -/
def CHN_CFG_EN : Fld := ⟨0x14000, 0x0, 0, 1, fun _ => 0⟩
def CHN_CFG_HEAD : Fld := ⟨0x14000, 0x0, 1, 1, fun _ => 0⟩
def CHN_CFG_SYNCN_EN : Fld := ⟨0x14000, 0x0, 2, 1, fun _ => 1⟩
def CHN_CFG_TPER : Fld := ⟨0x14000, 0x0, 8, 8, fun _ => 10⟩
def CHN_CFG_SLEAD : Fld := ⟨0x14000, 0x0, 16, 16, fun _ => 100⟩
def CHN_HOPW_W : Fld := ⟨0x14004, 0x0, 0, 16, fun _ => 0⟩
def CHN_STAT_UN : Fld := ⟨0x14008, 0x0, 0, 9, fun _ => 0⟩
def CHN_STAT_UNV : Fld := ⟨0x14008, 0x0, 9, 1, fun _ => 0⟩
def CHN_STAT_STATE : Fld := ⟨0x14008, 0x0, 10, 3, fun _ => 0⟩
def CHN_STAT_HOLD : Fld := ⟨0x14008, 0x0, 13, 1, fun _ => 0⟩
def CHN_STAT_RINGOK : Fld := ⟨0x14008, 0x0, 14, 1, fun _ => 0⟩
def CHN_ENUM_N : Fld := ⟨0x1400C, 0x0, 0, 10, fun _ => 0⟩
def CHN_CABLE_D : Fld := ⟨0x14010, 0x0, 0, 32, fun _ => 0⟩
def CHN_FWD_F : Fld := ⟨0x14014, 0x0, 0, 16, fun _ => 0⟩
def CHN_RING_TR : Fld := ⟨0x14018, 0x0, 0, 32, fun _ => 0⟩
def CHN_ERR_E : Fld := ⟨0x1401C, 0x0, 0, 32, fun _ => 0⟩
def CHN_FREQ_F : Fld := ⟨0x14020, 0x0, 0, 32, fun _ => 0⟩
def CHN_STKY_LOSS : Fld := ⟨0x14024, 0x0, 0, 1, fun _ => 0⟩
def CHN_STKY_RINGOPEN : Fld := ⟨0x14024, 0x0, 1, 1, fun _ => 0⟩
def CHN_STKY_OVERCNT : Fld := ⟨0x14024, 0x0, 2, 1, fun _ => 0⟩
def CHN_STKY_MULTIHEAD : Fld := ⟨0x14024, 0x0, 3, 1, fun _ => 0⟩
def CHN_STKY_CRCERR : Fld := ⟨0x14024, 0x0, 4, 1, fun _ => 0⟩
def CHN_STKY_HOLD : Fld := ⟨0x14024, 0x0, 5, 1, fun _ => 0⟩
def CHN_STKY_STEP : Fld := ⟨0x14024, 0x0, 6, 1, fun _ => 0⟩
def CHN_STKY_SLEW : Fld := ⟨0x14024, 0x0, 7, 1, fun _ => 0⟩
def CHN_STKY_SYNC : Fld := ⟨0x14024, 0x0, 8, 1, fun _ => 0⟩
def CHN_STKY_SYNCLATE : Fld := ⟨0x14024, 0x0, 9, 1, fun _ => 0⟩
def CHN_STKY_UNCHG : Fld := ⟨0x14024, 0x0, 10, 1, fun _ => 0⟩
def CHN_STKY_SYNCN : Fld := ⟨0x14024, 0x0, 11, 1, fun _ => 0⟩
def CHN_CRCCNT_COUNT : Fld := ⟨0x14028, 0x0, 0, 24, fun _ => 0⟩
def CHN_CRCCNT_SAT : Fld := ⟨0x14028, 0x0, 31, 1, fun _ => 0⟩
def CHN_ORIGIN_TAG : Fld := ⟨0x1402C, 0x0, 0, 16, fun _ => Config.originTag.toNat⟩
def CHN_CMDTL_T : Fld := ⟨0x14030, 0x0, 0, 32, fun _ => 0⟩
def CHN_CMDTH_T : Fld := ⟨0x14034, 0x0, 0, 32, fun _ => 0⟩
def CHN_CMD_CODE : Fld := ⟨0x14038, 0x0, 0, 8, fun _ => 0⟩
def CHN_CMD_SYNCRST : Fld := ⟨0x14038, 0x0, 8, 1, fun _ => 0⟩
def CHN_CMD_SLOTS : Fld := ⟨0x14038, 0x0, 9, 1, fun _ => 0⟩
def CHN_CMD_SEND : Fld := ⟨0x14038, 0x0, 10, 1, fun _ => 0⟩
def CHN_CMD_PULSE : Fld := ⟨0x14038, 0x0, 11, 1, fun _ => 0⟩
def CHN_CMD_ENUM : Fld := ⟨0x14038, 0x0, 12, 1, fun _ => 0⟩
def CHN_CMDRES_RES : Fld := ⟨0x1403C, 0x0, 0, 2, fun _ => 0⟩
def CHN_SYNCL_T : Fld := ⟨0x14040, 0x0, 0, 32, fun _ => 0⟩
def CHN_SYNCH_T : Fld := ⟨0x14044, 0x0, 0, 32, fun _ => 0⟩

/-! Table 15-6, R452 of 15_chain_and_twin.md. -/
def TWN_CFG_EN : Fld := ⟨0x15000, 0x0, 0, 1, fun _ => 0⟩
def TWN_CFG_POS : Fld := ⟨0x15000, 0x0, 1, 1, fun _ => 0⟩
def TWN_CFG_AUTO_TK : Fld := ⟨0x15000, 0x0, 2, 1, fun _ => 1⟩
def TWN_CFG_CRIT_HO : Fld := ⟨0x15000, 0x0, 3, 1, fun _ => 0⟩
def TWN_CFG_STUCKTK : Fld := ⟨0x15000, 0x0, 4, 1, fun _ => 0⟩
def TWN_CFG_HBTO : Fld := ⟨0x15000, 0x0, 8, 8, fun _ => 10⟩
def TWN_CFG_STWAIT : Fld := ⟨0x15000, 0x0, 16, 16, fun _ => 200⟩
def TWN_CRIT_PORTS : Fld := ⟨0x15004, 0x0, 0, 16, fun _ => 0⟩
def TWN_CMP_ANG_LIM : Fld := ⟨0x15008, 0x0, 0, 16, fun _ => 364⟩
def TWN_CMP_SPD_LIM : Fld := ⟨0x15008, 0x0, 16, 12, fun _ => 200⟩
def TWN_CMP_CMP_N : Fld := ⟨0x15008, 0x0, 28, 4, fun _ => 4⟩
def TWN_STAT_ROLE : Fld := ⟨0x1500C, 0x0, 0, 2, fun _ => 0⟩
def TWN_STAT_TOKEN : Fld := ⟨0x1500C, 0x0, 2, 1, fun _ => 0⟩
def TWN_STAT_TKNI : Fld := ⟨0x1500C, 0x0, 3, 1, fun _ => 1⟩
def TWN_STAT_LINK : Fld := ⟨0x1500C, 0x0, 4, 1, fun _ => 0⟩
def TWN_STAT_PHB : Fld := ⟨0x1500C, 0x0, 5, 1, fun _ => 0⟩
def TWN_STAT_OHB : Fld := ⟨0x1500C, 0x0, 6, 1, fun _ => 0⟩
def TWN_STAT_PROLE : Fld := ⟨0x1500C, 0x0, 7, 2, fun _ => 0⟩
def TWN_STAT_PPOS : Fld := ⟨0x1500C, 0x0, 9, 1, fun _ => 0⟩
def TWN_STAT_CLAIM : Fld := ⟨0x1500C, 0x0, 10, 1, fun _ => 0⟩
def TWN_STAT_REL : Fld := ⟨0x1500C, 0x0, 11, 1, fun _ => 0⟩
def TWN_STAT_DIVL : Fld := ⟨0x1500C, 0x0, 16, 16, fun _ => 0⟩
def TWN_STKY_LINKDN : Fld := ⟨0x15010, 0x0, 0, 1, fun _ => 0⟩
def TWN_STKY_PHBLOST : Fld := ⟨0x15010, 0x0, 1, 1, fun _ => 0⟩
def TWN_STKY_HBWIRE : Fld := ⟨0x15010, 0x0, 2, 1, fun _ => 0⟩
def TWN_STKY_TKFAIL : Fld := ⟨0x15010, 0x0, 3, 1, fun _ => 0⟩
def TWN_STKY_TKRACE : Fld := ⟨0x15010, 0x0, 4, 1, fun _ => 0⟩
def TWN_STKY_POSCONF : Fld := ⟨0x15010, 0x0, 5, 1, fun _ => 0⟩
def TWN_STKY_RELFAIL : Fld := ⟨0x15010, 0x0, 6, 1, fun _ => 0⟩
def TWN_STKY_DIV : Fld := ⟨0x15010, 0x0, 7, 1, fun _ => 0⟩
def TWN_STKY_SAFDIFF : Fld := ⟨0x15010, 0x0, 8, 1, fun _ => 0⟩
def TWN_STKY_GEYDIFF : Fld := ⟨0x15010, 0x0, 9, 1, fun _ => 0⟩
def TWN_STKY_CRC : Fld := ⟨0x15010, 0x0, 10, 1, fun _ => 0⟩
def TWN_STKY_TAKEOVER : Fld := ⟨0x15010, 0x0, 11, 1, fun _ => 0⟩
def TWN_STKY_YIELD : Fld := ⟨0x15010, 0x0, 12, 1, fun _ => 0⟩
def TWN_STKY_FORCED : Fld := ⟨0x15010, 0x0, 13, 1, fun _ => 0⟩
def TWN_DIVSTKY_PORTS : Fld := ⟨0x15014, 0x0, 0, 16, fun _ => 0⟩
def TWN_TKTS_TS32 : Fld := ⟨0x15018, 0x0, 0, 32, fun _ => 0⟩
def TWN_CMD_RELEASE : Fld := ⟨0x1501C, 0x0, 0, 1, fun _ => 0⟩
def TWN_CMD_TAKE : Fld := ⟨0x1501C, 0x0, 1, 1, fun _ => 0⟩
def TWN_CRCCNT_COUNT : Fld := ⟨0x15020, 0x0, 0, 24, fun _ => 0⟩
def TWN_CRCCNT_SAT : Fld := ⟨0x15020, 0x0, 31, 1, fun _ => 0⟩
def TWN_TKCNT_COUNT : Fld := ⟨0x15024, 0x0, 0, 24, fun _ => 0⟩
def TWN_TKCNT_SAT : Fld := ⟨0x15024, 0x0, 31, 1, fun _ => 0⟩
def TWN_DSEL_PORT : Fld := ⟨0x15028, 0x0, 0, 4, fun _ => 0⟩
def TWN_DIFF_DANG : Fld := ⟨0x1502C, 0x0, 0, 16, fun _ => 0⟩
def TWN_DIFF_DSPD : Fld := ⟨0x1502C, 0x0, 16, 16, fun _ => 0⟩

/-! Table 16-9, R482 of 16_reset_and_bringup.md. -/
def RST_CAUSE_POR : Fld := ⟨0x1000, 0x0, 0, 1, fun _ => 1⟩
def RST_CAUSE_BOR : Fld := ⟨0x1000, 0x0, 1, 1, fun _ => 0⟩
def RST_CAUSE_PIN : Fld := ⟨0x1000, 0x0, 2, 1, fun _ => 0⟩
def RST_CAUSE_WDT : Fld := ⟨0x1000, 0x0, 3, 1, fun _ => 0⟩
def RST_CAUSE_BUWDT : Fld := ⟨0x1000, 0x0, 4, 1, fun _ => 0⟩
def RST_CAUSE_SWRST : Fld := ⟨0x1000, 0x0, 5, 1, fun _ => 0⟩
def RST_CAUSE_CLKFAIL : Fld := ⟨0x1000, 0x0, 6, 1, fun _ => 0⟩
def RST_CAUSE_PERST : Fld := ⟨0x1000, 0x0, 7, 1, fun _ => 0⟩
def RST_CAUSE_PINSTUCK : Fld := ⟨0x1000, 0x0, 8, 1, fun _ => 0⟩
def RST_CAUSE_FSTART : Fld := ⟨0x1000, 0x0, 9, 1, fun _ => 0⟩
def RST_CAUSE_DSTRAP : Fld := ⟨0x1000, 0x0, 10, 1, fun _ => 0⟩
def RST_CAUSE_DREC : Fld := ⟨0x1000, 0x0, 11, 1, fun _ => 0⟩
def RST_CAUSE_DSW : Fld := ⟨0x1000, 0x0, 12, 1, fun _ => 0⟩
def RST_CAUSE_TLOST : Fld := ⟨0x1000, 0x0, 13, 1, fun _ => 0⟩
def RST_STAT_STEP : Fld := ⟨0x1004, 0x0, 0, 4, fun _ => 0⟩
def RST_STAT_FSC : Fld := ⟨0x1004, 0x0, 4, 3, fun _ => 0⟩
def RST_STAT_CONFIRMED : Fld := ⟨0x1004, 0x0, 7, 1, fun _ => 0⟩
def RST_STAT_BOOTSRC : Fld := ⟨0x1004, 0x0, 8, 2, fun _ => 0⟩
def RST_STAT_CLKSRC : Fld := ⟨0x1004, 0x0, 10, 2, fun _ => 0⟩
def RST_STAT_CLKQ : Fld := ⟨0x1004, 0x0, 12, 1, fun _ => 0⟩
def RST_STAT_PHYQ : Fld := ⟨0x1004, 0x0, 13, 1, fun _ => 0⟩
def RST_STAT_DLATCH : Fld := ⟨0x1004, 0x0, 14, 1, fun _ => 0⟩
def RST_STAT_OVR : Fld := ⟨0x1004, 0x0, 15, 1, fun _ => 0⟩
def RST_STAT_LAST : Fld := ⟨0x1004, 0x0, 16, 4, fun _ => 0⟩
def RST_STAT_RSTN : Fld := ⟨0x1004, 0x0, 20, 1, fun _ => 1⟩
def RST_BOOT_SEQ : Fld := ⟨0x1008, 0x0, 0, 16, fun _ => 0⟩
def RST_BOOT_COPY : Fld := ⟨0x1008, 0x0, 16, 1, fun _ => 0⟩
def RST_BOOT_AVAL : Fld := ⟨0x1008, 0x0, 17, 1, fun _ => 0⟩
def RST_BOOT_BVAL : Fld := ⟨0x1008, 0x0, 18, 1, fun _ => 0⟩
def RST_BOOT_ATORN : Fld := ⟨0x1008, 0x0, 19, 1, fun _ => 0⟩
def RST_BOOT_BTORN : Fld := ⟨0x1008, 0x0, 20, 1, fun _ => 0⟩
def RST_BOOT_USED : Fld := ⟨0x1008, 0x0, 21, 1, fun _ => 0⟩
def RST_BOOT_SBOOT : Fld := ⟨0x1008, 0x0, 22, 2, fun _ => 3⟩
def RST_BOOT_SCLK : Fld := ⟨0x1008, 0x0, 24, 2, fun _ => 3⟩
def RST_CMD_RUN_CONFIRM : Fld := ⟨0x100C, 0x0, 0, 1, fun _ => 0⟩
def RST_CMD_FULLRST : Fld := ⟨0x100C, 0x0, 1, 1, fun _ => 0⟩
def RST_CMD_DORMANT : Fld := ⟨0x100C, 0x0, 2, 1, fun _ => 0⟩
def RST_CMD_LEAVE : Fld := ⟨0x100C, 0x0, 3, 1, fun _ => 0⟩
def RST_CMD_OBOOT : Fld := ⟨0x100C, 0x0, 4, 2, fun _ => 0⟩
def RST_CMD_OPTLOAD : Fld := ⟨0x100C, 0x0, 6, 1, fun _ => 0⟩
def RST_CMD_NVBOOT : Fld := ⟨0x100C, 0x0, 7, 1, fun _ => 0⟩
def RST_CMD_NVSAFE : Fld := ⟨0x100C, 0x0, 8, 1, fun _ => 0⟩
def RST_CMD_KEY : Fld := ⟨0x100C, 0x0, 16, 16, fun _ => 0⟩
def RST_NVSTAT_BUSY : Fld := ⟨0x1010, 0x0, 0, 1, fun _ => 0⟩
def RST_NVSTAT_RES : Fld := ⟨0x1010, 0x0, 1, 2, fun _ => 0⟩
def RST_WDCFG_TMO : Fld := ⟨0x1014, 0x0, 0, 16, fun _ => 0⟩
def RST_WDKICK_KICK : Fld := ⟨0x1018, 0x0, 0, 32, fun _ => 0⟩
def RST_CLK_DEV : Fld := ⟨0x101C, 0x0, 0, 16, fun _ => 0⟩
def RST_STKY_BITS : Fld := ⟨0x1020, 0x0, 0, 14, fun _ => 0⟩
def RST_GLITCH_COUNT : Fld := ⟨0x1024, 0x0, 0, 24, fun _ => 0⟩
def RST_GLITCH_SAT : Fld := ⟨0x1024, 0x0, 31, 1, fun _ => 0⟩
def RST_OBUF_DATA : Fld := ⟨0x1100, 0x4, 0, 32, fun _ => 0⟩

/-! Table 17-8, R507 of 17_integrity_sinter.md. -/
def INT_CFG_AUTO_ADC : Fld := ⟨0x16000, 0x0, 0, 1, fun _ => 1⟩
def INT_CFG_AUTO_ENG : Fld := ⟨0x16000, 0x0, 1, 1, fun _ => 1⟩
def INT_CFG_AUTO_ROW : Fld := ⟨0x16000, 0x0, 2, 1, fun _ => 1⟩
def INT_CFG_ASH_EN : Fld := ⟨0x16000, 0x0, 3, 1, fun _ => 1⟩
def INT_CFG_WRFRZ : Fld := ⟨0x16000, 0x0, 4, 1, fun _ => 1⟩
def INT_ADCLIM_OFS_LIM : Fld := ⟨0x16004, 0x0, 0, 8, fun _ => 16⟩
def INT_ADCLIM_GAIN_LIM : Fld := ⟨0x16004, 0x0, 8, 8, fun _ => 50⟩
def INT_ADCLIM_RES_LIM : Fld := ⟨0x16004, 0x0, 16, 8, fun _ => 20⟩
def INT_AGELIM_RO_LIM : Fld := ⟨0x16008, 0x0, 0, 8, fun _ => 50⟩
def INT_AGELIM_BG_LIM : Fld := ⟨0x16008, 0x0, 8, 8, fun _ => 20⟩
def INT_AGELIM_REF_LIM : Fld := ⟨0x16008, 0x0, 16, 8, fun _ => 20⟩
def INT_STAT_SPADC : Fld := ⟨0x1600C, 0x0, 0, 2, fun _ => 3⟩
def INT_STAT_SPENG : Fld := ⟨0x1600C, 0x0, 2, 2, fun _ => 3⟩
def INT_STAT_SWRUN : Fld := ⟨0x1600C, 0x0, 4, 1, fun _ => 0⟩
def INT_STAT_SWKIND : Fld := ⟨0x1600C, 0x0, 5, 2, fun _ => 0⟩
def INT_STAT_SWTGT : Fld := ⟨0x1600C, 0x0, 7, 6, fun _ => 0⟩
def INT_STAT_QLEN : Fld := ⟨0x1600C, 0x0, 13, 3, fun _ => 0⟩
def INT_STAT_NVBUSY : Fld := ⟨0x1600C, 0x0, 16, 1, fun _ => 0⟩
def INT_STKY_CE : Fld := ⟨0x16010, 0x0, 0, 1, fun _ => 0⟩
def INT_STKY_UE : Fld := ⟨0x16010, 0x0, 1, 1, fun _ => 0⟩
def INT_STKY_DPMIS : Fld := ⟨0x16010, 0x0, 2, 1, fun _ => 0⟩
def INT_STKY_SWAP : Fld := ⟨0x16010, 0x0, 3, 1, fun _ => 0⟩
def INT_STKY_SWFAIL : Fld := ⟨0x16010, 0x0, 4, 1, fun _ => 0⟩
def INT_STKY_NOSPARE : Fld := ⟨0x16010, 0x0, 5, 1, fun _ => 0⟩
def INT_STKY_ROWQ : Fld := ⟨0x16010, 0x0, 6, 1, fun _ => 0⟩
def INT_STKY_ROWAPP : Fld := ⟨0x16010, 0x0, 7, 1, fun _ => 0⟩
def INT_STKY_BANKX : Fld := ⟨0x16010, 0x0, 8, 1, fun _ => 0⟩
def INT_STKY_AGE : Fld := ⟨0x16010, 0x0, 9, 1, fun _ => 0⟩
def INT_STKY_MAPDONE : Fld := ⟨0x16010, 0x0, 10, 1, fun _ => 0⟩
def INT_STKY_MAPFAIL : Fld := ⟨0x16010, 0x0, 11, 1, fun _ => 0⟩
def INT_STKY_MAPTORN : Fld := ⟨0x16010, 0x0, 12, 1, fun _ => 0⟩
def INT_STKY_ASHFRZ : Fld := ⟨0x16010, 0x0, 13, 1, fun _ => 0⟩
def INT_STKY_REGPAR : Fld := ⟨0x16010, 0x0, 14, 1, fun _ => 0⟩
def INT_STKY_HEALTH : Fld := ⟨0x16010, 0x0, 15, 1, fun _ => 0⟩
def INT_CECNT_COUNT : Fld := ⟨0x16014, 0x0, 0, 24, fun _ => 0⟩
def INT_CECNT_SAT : Fld := ⟨0x16014, 0x0, 31, 1, fun _ => 0⟩
def INT_UECNT_COUNT : Fld := ⟨0x16018, 0x0, 0, 24, fun _ => 0⟩
def INT_UECNT_SAT : Fld := ⟨0x16018, 0x0, 31, 1, fun _ => 0⟩
def INT_DPMCNT_COUNT : Fld := ⟨0x1601C, 0x0, 0, 24, fun _ => 0⟩
def INT_DPMCNT_SAT : Fld := ⟨0x1601C, 0x0, 31, 1, fun _ => 0⟩
def INT_CEADDR_WORD : Fld := ⟨0x16020, 0x0, 0, 18, fun _ => 0⟩
def INT_CEADDR_SYM : Fld := ⟨0x16020, 0x0, 21, 4, fun _ => 0⟩
def INT_UEADDR_WORD : Fld := ⟨0x16024, 0x0, 0, 18, fun _ => 0⟩
def INT_UEADDR_SYM : Fld := ⟨0x16024, 0x0, 21, 4, fun _ => 0⟩
def INT_SCRUB_PASS : Fld := ⟨0x16028, 0x0, 0, 16, fun _ => 0⟩
def INT_SLMAP_MAP : Fld := ⟨0x1602C, 0x0, 0, 32, fun _ => 16191⟩
def INT_ENGMAP_MAP : Fld := ⟨0x16030, 0x0, 0, 32, fun _ => 0⟩
def INT_SWCMD_KIND : Fld := ⟨0x16034, 0x0, 0, 2, fun _ => 0⟩
def INT_SWCMD_TGT : Fld := ⟨0x16034, 0x0, 8, 6, fun _ => 0⟩
def INT_SWCMD_LEG : Fld := ⟨0x16034, 0x0, 16, 2, fun _ => 0⟩
def INT_SWCMD_GO : Fld := ⟨0x16034, 0x0, 31, 1, fun _ => 0⟩
def INT_SWRES_RES : Fld := ⟨0x16038, 0x0, 0, 2, fun _ => 0⟩
def INT_ROWREQ_WORD : Fld := ⟨0x1603C, 0x0, 0, 18, fun _ => 0⟩
def INT_ROWREQ_GO : Fld := ⟨0x1603C, 0x0, 31, 1, fun _ => 0⟩
def INT_MAPCMD_COMMIT : Fld := ⟨0x16040, 0x0, 0, 1, fun _ => 0⟩
def INT_MAPSTAT_SEQ : Fld := ⟨0x16044, 0x0, 0, 16, fun _ => 0⟩
def INT_MAPSTAT_COPY : Fld := ⟨0x16044, 0x0, 16, 1, fun _ => 0⟩
def INT_MAPSTAT_VALID : Fld := ⟨0x16044, 0x0, 17, 1, fun _ => 0⟩
def INT_MAPSTAT_RES : Fld := ⟨0x16044, 0x0, 18, 2, fun _ => 0⟩
def INT_TJ_VAL : Fld := ⟨0x16048, 0x0, 0, 16, fun _ => 0⟩
def INT_TJ_STATUS : Fld := ⟨0x16048, 0x0, 16, 8, fun _ => 0⟩
def INT_BGAP_VAL : Fld := ⟨0x1604C, 0x0, 0, 16, fun _ => 0⟩
def INT_BGAP_STATUS : Fld := ⟨0x1604C, 0x0, 16, 8, fun _ => 0⟩
def INT_ADCREF_VAL : Fld := ⟨0x16050, 0x0, 0, 16, fun _ => 0⟩
def INT_ADCREF_STATUS : Fld := ⟨0x16050, 0x0, 16, 8, fun _ => 0⟩
def INT_RO_DRIFT : Fld := ⟨0x16060, 0x4, 0, 16, fun _ => 0⟩
def INT_RO_STATUS : Fld := ⟨0x16060, 0x4, 16, 8, fun _ => 0⟩
def INT_ROWB_USED : Fld := ⟨0x16080, 0x4, 0, 7, fun _ => 0⟩
def INT_ROWB_FULL : Fld := ⟨0x16080, 0x4, 7, 1, fun _ => 0⟩
def INT_ROWB_PEND : Fld := ⟨0x16080, 0x4, 8, 7, fun _ => 0⟩
def INT_HOURS_COUNT : Fld := ⟨0x160C0, 0x0, 0, 31, fun _ => 0⟩
def INT_HOURS_SAT : Fld := ⟨0x160C0, 0x0, 31, 1, fun _ => 0⟩
def INT_PCYC_COUNT : Fld := ⟨0x160C4, 0x0, 0, 31, fun _ => 0⟩
def INT_PCYC_SAT : Fld := ⟨0x160C4, 0x0, 31, 1, fun _ => 0⟩
def INT_WRST_COUNT : Fld := ⟨0x160C8, 0x0, 0, 31, fun _ => 0⟩
def INT_WRST_SAT : Fld := ⟨0x160C8, 0x0, 31, 1, fun _ => 0⟩
def INT_TJB_COUNT : Fld := ⟨0x160D0, 0x4, 0, 31, fun _ => 0⟩
def INT_TJB_SAT : Fld := ⟨0x160D0, 0x4, 31, 1, fun _ => 0⟩
def INT_ASHCFG_ASH_PER : Fld := ⟨0x16100, 0x0, 0, 16, fun _ => 100⟩
def INT_ASHCFG_ASH_PORTS : Fld := ⟨0x16100, 0x0, 16, 16, fun _ => 65535⟩
def INT_ASHTRIG_T_FTRIP : Fld := ⟨0x16104, 0x0, 0, 1, fun _ => 1⟩
def INT_ASHTRIG_T_DEVF : Fld := ⟨0x16104, 0x0, 1, 1, fun _ => 1⟩
def INT_ASHTRIG_T_AXF : Fld := ⟨0x16104, 0x0, 2, 1, fun _ => 1⟩
def INT_ASHTRIG_T_LOT : Fld := ⟨0x16104, 0x0, 3, 1, fun _ => 0⟩
def INT_ASHTRIG_T_EVT : Fld := ⟨0x16104, 0x0, 4, 1, fun _ => 0⟩
def INT_ASHTRIG_EVTNUM : Fld := ⟨0x16104, 0x0, 8, 8, fun _ => 0⟩
def INT_ASHTRIG_POST : Fld := ⟨0x16104, 0x0, 16, 15, fun _ => 16384⟩
def INT_ASHCMD_ARM : Fld := ⟨0x16108, 0x0, 0, 1, fun _ => 0⟩
def INT_ASHCMD_TRIG : Fld := ⟨0x16108, 0x0, 1, 1, fun _ => 0⟩
def INT_ASHSTAT_WPTR : Fld := ⟨0x1610C, 0x0, 0, 15, fun _ => 0⟩
def INT_ASHSTAT_WRAP : Fld := ⟨0x1610C, 0x0, 15, 1, fun _ => 0⟩
def INT_ASHSTAT_TPTR : Fld := ⟨0x1610C, 0x0, 16, 15, fun _ => 0⟩
def INT_ASHTCNT_COUNT : Fld := ⟨0x16110, 0x0, 0, 24, fun _ => 0⟩
def INT_ASHTCNT_CAUSE : Fld := ⟨0x16110, 0x0, 24, 4, fun _ => 0⟩
def INT_ASHTCNT_STATE : Fld := ⟨0x16110, 0x0, 28, 2, fun _ => 0⟩
def INT_ASHTCNT_SAT : Fld := ⟨0x16110, 0x0, 31, 1, fun _ => 0⟩

/-! Table 14-1, R394 of 14_host_rings.md. -/
def HIF_MTAL_ADDR : Fld := ⟨0x2800, 0x10, 0, 32, fun _ => 0⟩
def HIF_MTAH_ADDR : Fld := ⟨0x2804, 0x10, 0, 32, fun _ => 0⟩
def HIF_MTD_DATA : Fld := ⟨0x2808, 0x10, 0, 32, fun _ => 0⟩
def HIF_MTC_MASK : Fld := ⟨0x280C, 0x10, 0, 1, fun _ => 1⟩
def HIF_PBA_PEND : Fld := ⟨0x2A00, 0x4, 0, 32, fun _ => 0⟩

end F

end Sys2Proof.Machine
end

