-- ==== Sys2Proof/Machine/RegTable.lean ====
section
/-! DEFINITION. The register map of BAR0 (R48) as data: one row per register of the spec's tables, with the access type
of each field (R17, Table 0-3). The generic read and write of a register word go through it. -/

namespace Sys2Proof.Machine

/-- Access types of Table 0-3. -/
inductive Acc where
  | rw | ro | w1c | wo | rwk
deriving DecidableEq, Repr

/-- A field with its access type and the values a write may give it; a write of another value leaves the field (the
tables' "other values ignored"). -/
structure RegField where
  acc : Acc
  fld : Fld
  min : Nat
  max : Nat

/-- One register: its address for instance 0, the instance distance, the number of instances, its fields. -/
structure RegRow where
  base : Nat
  stride : Nat
  count : Nat
  fields : List RegField

namespace RegRow
def t1_9_0 : List RegRow := [
  ⟨0x0, 0x0, 1, [⟨.ro, F.GLB_ID_DEVICE, 0, 65535⟩, ⟨.ro, F.GLB_ID_FAMILY, 0, 255⟩, ⟨.ro, F.GLB_ID_STEP, 0, 255⟩]⟩,
  ⟨0x4, 0x0, 1, [⟨.ro, F.GLB_STATUS_MODE, 0, 7⟩, ⟨.ro, F.GLB_STATUS_ROLE, 0, 3⟩, ⟨.ro, F.GLB_STATUS_ERA, 0, 1⟩, ⟨.ro, F.GLB_STATUS_HOLDOVER, 0, 1⟩, ⟨.ro, F.GLB_STATUS_BUSY, 0, 1⟩]⟩,
  ⟨0x8, 0x0, 1, [⟨.wo, F.GLB_COMMIT_COMMIT, 0, 1⟩, ⟨.wo, F.GLB_COMMIT_DISCARD, 0, 1⟩]⟩,
  ⟨0xC, 0x0, 1, [⟨.ro, F.GLB_CSTAT_STAGED, 0, 4095⟩, ⟨.ro, F.GLB_CSTAT_BUSY, 0, 1⟩, ⟨.w1c, F.GLB_CSTAT_STAGE_OVF, 0, 1⟩, ⟨.w1c, F.GLB_CSTAT_TOO_BIG, 0, 1⟩, ⟨.w1c, F.GLB_CSTAT_REFUSED, 0, 1⟩, ⟨.ro, F.GLB_CSTAT_OWNER, 0, 3⟩]⟩,
  ⟨0x10, 0x0, 1, [⟨.ro, F.GLB_EPOCH_EPOCH, 0, 255⟩, ⟨.ro, F.GLB_EPOCH_FIRST, 0, 255⟩, ⟨.ro, F.GLB_EPOCH_LAST, 0, 255⟩]⟩,
  ⟨0x14, 0x0, 1, [⟨.rw, F.GLB_FRESH_OBS_LIM, 1, 10000⟩, ⟨.rw, F.GLB_FRESH_TMP_LIM, 100, 5000⟩]⟩,
  ⟨0x18, 0x0, 1, [⟨.rw, F.GLB_DIAG_SRAM_WR, 0, 1⟩]⟩]
/-- The registers of Table 1-9 (R52). -/
def t1_9 : List RegRow := t1_9_0

/-- Table 2-6, first part. LINE_TH, LINE_T, V_OPEN, W2W_TH, V_LOW, V_HIGH, CM_TH and the reserved codes of AX_USE carry a
range without 'other values ignored': every value is stored (DESIGN CHOICE, log entry 88). -/
def t2_6_0 : List RegRow := [
  ⟨0x4000, 0x100, 16, [⟨.rw, F.PRT_CFG_MODE, 0, 2⟩, ⟨.rw, F.PRT_CFG_AUTO, 0, 1⟩, ⟨.rw, F.PRT_CFG_RANGE_S, 0, 3⟩, ⟨.rw, F.PRT_CFG_RANGE_C, 0, 3⟩, ⟨.rw, F.PRT_CFG_AX_USE, 0, 3⟩, ⟨.rw, F.PRT_CFG_TERM_SN, 0, 1⟩, ⟨.rw, F.PRT_CFG_TERM_CS, 0, 1⟩, ⟨.rw, F.PRT_CFG_TERM_AX, 0, 1⟩]⟩,
  ⟨0x4004, 0x100, 16, [⟨.rw, F.PRT_CMP_SE, 0, 1⟩, ⟨.rw, F.PRT_CMP_SE_TH, 20, 150⟩, ⟨.rw, F.PRT_CMP_LINE_TH, 0, 255⟩, ⟨.rw, F.PRT_CMP_LINE_T, 0, 255⟩]⟩,
  ⟨0x4008, 0x100, 16, [⟨.rw, F.PRT_DIAG_IDIAG, 0, 3⟩, ⟨.rw, F.PRT_DIAG_PERSIST, 1, 15⟩, ⟨.rw, F.PRT_DIAG_V_OPEN, 0, 255⟩, ⟨.rw, F.PRT_DIAG_W2W_PER, 0, 255⟩, ⟨.rw, F.PRT_DIAG_W2W_TH, 0, 255⟩]⟩,
  ⟨0x400C, 0x100, 16, [⟨.rw, F.PRT_DTH_V_LOW, 0, 255⟩, ⟨.rw, F.PRT_DTH_V_HIGH, 0, 255⟩, ⟨.rw, F.PRT_DTH_CM_TH, 0, 255⟩]⟩,
  ⟨0x4010, 0x100, 16, [⟨.ro, F.PRT_STAT_CUR_S, 0, 3⟩, ⟨.ro, F.PRT_STAT_CUR_C, 0, 3⟩, ⟨.ro, F.PRT_STAT_PEND_S, 0, 1⟩, ⟨.ro, F.PRT_STAT_PEND_C, 0, 1⟩, ⟨.ro, F.PRT_STAT_BIAS, 0, 1⟩, ⟨.ro, F.PRT_STAT_INJ, 0, 1⟩, ⟨.ro, F.PRT_STAT_CLAMP, 0, 15⟩, ⟨.ro, F.PRT_STAT_CLAMPX, 0, 3⟩, ⟨.ro, F.PRT_STAT_LINE_SN, 0, 1⟩, ⟨.ro, F.PRT_STAT_LINE_CS, 0, 1⟩, ⟨.ro, F.PRT_STAT_LINE_AX, 0, 1⟩, ⟨.ro, F.PRT_STAT_W2W_RUN, 0, 1⟩]⟩,
  ⟨0x4014, 0x100, 16, [⟨.ro, F.PRT_LLIVE_LIVE, 0, 8191⟩]⟩,
  ⟨0x4018, 0x100, 16, [⟨.w1c, F.PRT_LSTKY_OPEN_SN, 0, 1⟩, ⟨.w1c, F.PRT_LSTKY_OPEN_CS, 0, 1⟩, ⟨.w1c, F.PRT_LSTKY_GND_SN, 0, 1⟩, ⟨.w1c, F.PRT_LSTKY_GND_CS, 0, 1⟩, ⟨.w1c, F.PRT_LSTKY_SUP_SN, 0, 1⟩, ⟨.w1c, F.PRT_LSTKY_SUP_CS, 0, 1⟩, ⟨.w1c, F.PRT_LSTKY_CMS_SN, 0, 1⟩, ⟨.w1c, F.PRT_LSTKY_CMS_CS, 0, 1⟩, ⟨.w1c, F.PRT_LSTKY_W2W, 0, 1⟩, ⟨.w1c, F.PRT_LSTKY_GND_EX, 0, 1⟩, ⟨.w1c, F.PRT_LSTKY_SUP_EX, 0, 1⟩, ⟨.w1c, F.PRT_LSTKY_GND_AX, 0, 1⟩, ⟨.w1c, F.PRT_LSTKY_SUP_AX, 0, 1⟩]⟩,
  ⟨0x401C, 0x100, 16, [⟨.w1c, F.PRT_ISTKY_OVR_S, 0, 1⟩, ⟨.w1c, F.PRT_ISTKY_OVR_C, 0, 1⟩, ⟨.w1c, F.PRT_ISTKY_RANGE_CHG, 0, 1⟩, ⟨.w1c, F.PRT_ISTKY_RANGE_IMM, 0, 1⟩, ⟨.w1c, F.PRT_ISTKY_CLAMP, 0, 1⟩, ⟨.w1c, F.PRT_ISTKY_LINE_SN, 0, 1⟩, ⟨.w1c, F.PRT_ISTKY_LINE_CS, 0, 1⟩, ⟨.w1c, F.PRT_ISTKY_LINE_AX, 0, 1⟩]⟩,
  ⟨0x4020, 0x100, 16, [⟨.ro, F.PRT_OVRCNT_COUNT, 0, 16777215⟩, ⟨.w1c, F.PRT_OVRCNT_SAT, 0, 1⟩]⟩,
  ⟨0x4024, 0x100, 16, [⟨.ro, F.PRT_RCHG_COUNT, 0, 65535⟩, ⟨.w1c, F.PRT_RCHG_SAT, 0, 1⟩]⟩]
def t2_6_1 : List RegRow := [
  ⟨0x4048, 0x100, 16, [⟨.wo, F.PRT_CMD_RESTART, 0, 1⟩, ⟨.wo, F.PRT_CMD_W2W_NOW, 0, 1⟩]⟩]
/-- The registers of Table 2-6 (R81). -/
def t2_6 : List RegRow := t2_6_0 ++ t2_6_1 ++ ((List.range 8).map fun k => ⟨0x4028 + 0x4 * k, 0x100, 16, [⟨.ro, F.PRT_LMON_VOLT k, 0, 65535⟩, ⟨.ro, F.PRT_LMON_STATUS k, 0, 255⟩]⟩)

/-- Table 3-5, first part. PH_TOL, PH_JMP, IOPEN, ZSHORT and LEG_TH carry a range without 'other values ignored': every
value is stored (DESIGN CHOICE, log entry 88). -/
def t3_5_0 : List RegRow := [
  ⟨0x5000, 0x80, 16, [⟨.rw, F.EXC_CFG_ENABLE, 0, 1⟩, ⟨.rw, F.EXC_CFG_OWN_FREQ, 0, 1⟩, ⟨.rw, F.EXC_CFG_AMP_REG, 0, 1⟩, ⟨.rw, F.EXC_CFG_SETTLE_P, 1, 15⟩, ⟨.rw, F.EXC_CFG_LIM_N, 1, 15⟩, ⟨.rw, F.EXC_CFG_ILIM, 20, 150⟩, ⟨.rw, F.EXC_CFG_H3, 0, 255⟩]⟩,
  ⟨0x5004, 0x80, 16, [⟨.rw, F.EXC_FREQ_FREQ, 2000000, 20000000⟩]⟩,
  ⟨0x5008, 0x80, 16, [⟨.rw, F.EXC_AMP_AMP, 500, 7500⟩]⟩,
  ⟨0x500C, 0x80, 16, [⟨.rw, F.EXC_PHCFG_PHOFS, 0, 65535⟩, ⟨.rw, F.EXC_PHCFG_PH_INIT, 0, 65535⟩]⟩,
  ⟨0x5010, 0x80, 16, [⟨.rw, F.EXC_PTRK_TAU, 10, 60000⟩, ⟨.rw, F.EXC_PTRK_PH_TOL, 0, 255⟩, ⟨.rw, F.EXC_PTRK_PH_JMP, 0, 255⟩]⟩,
  ⟨0x5014, 0x80, 16, [⟨.rw, F.EXC_DTH_IOPEN, 0, 255⟩, ⟨.rw, F.EXC_DTH_ZSHORT, 0, 255⟩, ⟨.rw, F.EXC_DTH_LEG_TH, 0, 255⟩]⟩,
  ⟨0x5018, 0x80, 16, [⟨.ro, F.EXC_STAT_STATE, 0, 7⟩, ⟨.ro, F.EXC_STAT_LOCKED, 0, 1⟩, ⟨.ro, F.EXC_STAT_LIMITING, 0, 1⟩, ⟨.ro, F.EXC_STAT_REG_ACT, 0, 1⟩, ⟨.ro, F.EXC_STAT_PH_SRC, 0, 1⟩, ⟨.ro, F.EXC_STAT_PEND_F, 0, 1⟩, ⟨.ro, F.EXC_STAT_PEND_A, 0, 1⟩, ⟨.ro, F.EXC_STAT_LEGS, 0, 7⟩, ⟨.ro, F.EXC_STAT_PH_DRIFT, 0, 1⟩, ⟨.ro, F.EXC_STAT_THERM_W, 0, 1⟩]⟩,
  ⟨0x501C, 0x80, 16, [⟨.w1c, F.EXC_STKY_OPEN_EX, 0, 1⟩, ⟨.w1c, F.EXC_STKY_SHORT_EX, 0, 1⟩, ⟨.w1c, F.EXC_STKY_OVERLOAD, 0, 1⟩, ⟨.w1c, F.EXC_STKY_THERM_WARN, 0, 1⟩, ⟨.w1c, F.EXC_STKY_THERM_OFF, 0, 1⟩, ⟨.w1c, F.EXC_STKY_LEG_WORN, 0, 1⟩, ⟨.w1c, F.EXC_STKY_LEGS_LOW, 0, 1⟩, ⟨.w1c, F.EXC_STKY_VEXC_LOW, 0, 1⟩, ⟨.w1c, F.EXC_STKY_PH_DRIFT, 0, 1⟩, ⟨.w1c, F.EXC_STKY_PH_JUMP, 0, 1⟩, ⟨.w1c, F.EXC_STKY_LOCK_LOST, 0, 1⟩, ⟨.w1c, F.EXC_STKY_FREQ_MIS, 0, 1⟩, ⟨.w1c, F.EXC_STKY_REG_SAT, 0, 1⟩, ⟨.w1c, F.EXC_STKY_COLD_TAKE, 0, 1⟩]⟩,
  ⟨0x5020, 0x80, 16, [⟨.ro, F.EXC_PHEST_PH, 0, 65535⟩, ⟨.ro, F.EXC_PHEST_STATUS, 0, 255⟩]⟩,
  ⟨0x5024, 0x80, 16, [⟨.ro, F.EXC_VSENSE_VRMS, 0, 65535⟩, ⟨.ro, F.EXC_VSENSE_STATUS, 0, 255⟩]⟩]
def t3_5_1 : List RegRow := [
  ⟨0x5028, 0x80, 16, [⟨.ro, F.EXC_ISENSE_IRMS, 0, 65535⟩, ⟨.ro, F.EXC_ISENSE_STATUS, 0, 255⟩]⟩,
  ⟨0x502C, 0x80, 16, [⟨.ro, F.EXC_VFAR_VRMS, 0, 65535⟩, ⟨.ro, F.EXC_VFAR_STATUS, 0, 255⟩]⟩,
  ⟨0x5030, 0x80, 16, [⟨.ro, F.EXC_DTEMP_TEMP, 0, 65535⟩, ⟨.ro, F.EXC_DTEMP_STATUS, 0, 255⟩]⟩,
  ⟨0x5044, 0x80, 16, [⟨.ro, F.EXC_INCI_INCI, 0, 4294967295⟩]⟩,
  ⟨0x5048, 0x80, 16, [⟨.ro, F.EXC_INCR_INCR, 0, 16777215⟩]⟩,
  ⟨0x504C, 0x80, 16, [⟨.ro, F.EXC_LIMCNT_COUNT, 0, 16777215⟩, ⟨.w1c, F.EXC_LIMCNT_SAT, 0, 1⟩]⟩,
  ⟨0x5050, 0x80, 16, [⟨.wo, F.EXC_CMD_RESTART_DRV, 0, 1⟩, ⟨.wo, F.EXC_CMD_PH_REACQ, 0, 1⟩]⟩]
/-- The registers of Table 3-5 (R108). -/
def t3_5 : List RegRow := t3_5_0 ++ t3_5_1 ++ ((List.range 4).map fun k => ⟨0x5034 + 0x4 * k, 0x80, 16, [⟨.ro, F.EXC_LEG_RES k, 0, 65535⟩, ⟨.ro, F.EXC_LEG_LSTATE k, 0, 3⟩, ⟨.ro, F.EXC_LEG_STATUS k, 0, 255⟩]⟩)

def t3_6_0 : List RegRow := [
  ⟨0x5800, 0x0, 1, [⟨.rw, F.EXC_CTRL_PLAN, 0, 3⟩]⟩,
  ⟨0x5804, 0x0, 1, [⟨.ro, F.EXC_CSTAT_PLAN_IN, 0, 3⟩, ⟨.ro, F.EXC_CSTAT_MIXED, 0, 1⟩]⟩,
  ⟨0x5808, 0x0, 1, [⟨.ro, F.EXC_VEXC_VEXC, 0, 65535⟩, ⟨.ro, F.EXC_VEXC_STATUS, 0, 255⟩]⟩]
/-- The registers of Table 3-6 (R109). -/
def t3_6 : List RegRow := t3_6_0 ++ ((List.range 4).map fun k => ⟨0x5900 + 0x40 * k, 0x4, 16, [⟨.rw, F.EXC_PLAN_FREQ k, 2000000, 20000000⟩]⟩)

def t4_6_0 : List RegRow := [
  ⟨0x6000, 0x100, 16, [⟨.rw, F.ACQ_CFG_MED, 0, 3⟩, ⟨.rw, F.ACQ_CFG_NOTCH, 0, 2⟩, ⟨.rw, F.ACQ_CFG_BLK_EN, 0, 1⟩, ⟨.rw, F.ACQ_CFG_OVR_BLK, 0, 1⟩, ⟨.rw, F.ACQ_CFG_XC_EN, 0, 1⟩, ⟨.rw, F.ACQ_CFG_REC_EN, 0, 1⟩, ⟨.rw, F.ACQ_CFG_ENV_FT, 0, 1⟩]⟩,
  ⟨0x6004, 0x100, 16, [⟨.rw, F.ACQ_DEC_R, 8, 2000⟩, ⟨.rw, F.ACQ_DEC_SET, 0, 7⟩, ⟨.rw, F.ACQ_DEC_REC_DIV, 1, 255⟩]⟩,
  ⟨0x6008, 0x100, 16, [⟨.rw, F.ACQ_ENV_ENV_LO, 0, 4095⟩, ⟨.rw, F.ACQ_ENV_ENV_HI, 0, 4095⟩, ⟨.rw, F.ACQ_ENV_ENV_N, 1, 15⟩]⟩,
  ⟨0x600C, 0x100, 16, [⟨.ro, F.ACQ_GD_OBS_GD, 0, 4294967295⟩]⟩,
  ⟨0x6010, 0x100, 16, [⟨.ro, F.ACQ_GD_DEC_GD, 0, 4294967295⟩]⟩,
  ⟨0x6014, 0x100, 16, [⟨.ro, F.ACQ_GAP_L, 0, 262143⟩]⟩,
  ⟨0x6018, 0x100, 16, [⟨.ro, F.ACQ_DSIN_VAL, 0, 16777215⟩, ⟨.ro, F.ACQ_DSIN_STATUS, 0, 255⟩]⟩,
  ⟨0x601C, 0x100, 16, [⟨.ro, F.ACQ_DCOS_VAL, 0, 16777215⟩, ⟨.ro, F.ACQ_DCOS_STATUS, 0, 255⟩]⟩,
  ⟨0x6020, 0x100, 16, [⟨.ro, F.ACQ_ENVL_VAL, 0, 16777215⟩, ⟨.ro, F.ACQ_ENVL_STATUS, 0, 255⟩]⟩,
  ⟨0x6024, 0x100, 16, [⟨.ro, F.ACQ_DTS_TS32, 0, 4294967295⟩]⟩]
def t4_6_1 : List RegRow := [
  ⟨0x6028, 0x100, 16, [⟨.ro, F.ACQ_DEP_EPOCH, 0, 255⟩]⟩,
  ⟨0x602C, 0x100, 16, [⟨.ro, F.ACQ_RMS_S_RMS, 0, 16777215⟩, ⟨.ro, F.ACQ_RMS_S_STATUS, 0, 255⟩]⟩,
  ⟨0x6030, 0x100, 16, [⟨.ro, F.ACQ_RMS_C_RMS, 0, 16777215⟩, ⟨.ro, F.ACQ_RMS_C_STATUS, 0, 255⟩]⟩,
  ⟨0x6034, 0x100, 16, [⟨.ro, F.ACQ_PEAK_S_PEAK, 0, 16777215⟩, ⟨.ro, F.ACQ_PEAK_S_STATUS, 0, 255⟩]⟩,
  ⟨0x6038, 0x100, 16, [⟨.ro, F.ACQ_PEAK_C_PEAK, 0, 16777215⟩, ⟨.ro, F.ACQ_PEAK_C_STATUS, 0, 255⟩]⟩,
  ⟨0x603C, 0x100, 16, [⟨.ro, F.ACQ_DC_S_DC, 0, 65535⟩, ⟨.ro, F.ACQ_DC_S_STATUS, 0, 255⟩]⟩,
  ⟨0x6040, 0x100, 16, [⟨.ro, F.ACQ_DC_C_DC, 0, 65535⟩, ⟨.ro, F.ACQ_DC_C_STATUS, 0, 255⟩]⟩,
  ⟨0x6044, 0x100, 16, [⟨.ro, F.ACQ_XCMAX_PPM, 0, 65535⟩, ⟨.ro, F.ACQ_XCMAX_NBR, 0, 15⟩]⟩,
  ⟨0x6048, 0x100, 16, [⟨.ro, F.ACQ_STAT_GAP, 0, 1⟩, ⟨.ro, F.ACQ_STAT_FADE, 0, 1⟩, ⟨.ro, F.ACQ_STAT_NSETTLE, 0, 1⟩, ⟨.ro, F.ACQ_STAT_XC_FRZ, 0, 1⟩, ⟨.ro, F.ACQ_STAT_ENV_HI, 0, 1⟩, ⟨.ro, F.ACQ_STAT_ENV_LO, 0, 1⟩, ⟨.ro, F.ACQ_STAT_ENV_ARM, 0, 1⟩]⟩,
  ⟨0x604C, 0x100, 16, [⟨.w1c, F.ACQ_STKY_ENV_HI, 0, 1⟩, ⟨.w1c, F.ACQ_STKY_ENV_LO, 0, 1⟩, ⟨.w1c, F.ACQ_STKY_GAP, 0, 1⟩, ⟨.w1c, F.ACQ_STKY_HELD, 0, 1⟩, ⟨.w1c, F.ACQ_STKY_FADE_DONE, 0, 1⟩, ⟨.w1c, F.ACQ_STKY_XC_BIG, 0, 1⟩, ⟨.w1c, F.ACQ_STKY_DEC_RST, 0, 1⟩]⟩]
def t4_6_2 : List RegRow := [
  ⟨0x6050, 0x100, 16, [⟨.ro, F.ACQ_BLKCNT_COUNT, 0, 16777215⟩, ⟨.w1c, F.ACQ_BLKCNT_SAT, 0, 1⟩]⟩,
  ⟨0x6054, 0x100, 16, [⟨.ro, F.ACQ_HELDCNT_COUNT, 0, 16777215⟩, ⟨.w1c, F.ACQ_HELDCNT_SAT, 0, 1⟩]⟩,
  ⟨0x6058, 0x100, 16, [⟨.wo, F.ACQ_CMD_PK_CLR, 0, 1⟩, ⟨.wo, F.ACQ_CMD_XC_CLR, 0, 1⟩]⟩]
/-- The registers of Table 4-6 (R145). -/
def t4_6 : List RegRow := t4_6_0 ++ t4_6_1 ++ t4_6_2

def t4_7_0 : List RegRow := [
  ⟨0x7000, 0x0, 1, [⟨.rw, F.ACQ_FLADDR_WORD, 0, 255⟩, ⟨.rw, F.ACQ_FLADDR_BANK, 0, 1⟩, ⟨.rw, F.ACQ_FLADDR_SET, 0, 7⟩, ⟨.ro, F.ACQ_FLADDR_RESULT, 0, 3⟩]⟩,
  ⟨0x7004, 0x0, 1, [⟨.wo, F.ACQ_FLDATA_DATA, 0, 4294967295⟩]⟩,
  ⟨0x7008, 0x0, 1, [⟨.wo, F.ACQ_FSWAP_SET, 0, 7⟩, ⟨.wo, F.ACQ_FSWAP_FM1, 0, 255⟩]⟩,
  ⟨0x700C, 0x0, 1, [⟨.ro, F.ACQ_FSRES_RES, 0, 3⟩]⟩,
  ⟨0x7010, 0x0, 1, [⟨.w1c, F.ACQ_FSTKY_BUSY_W, 0, 1⟩, ⟨.w1c, F.ACQ_FSTKY_BUSY_S, 0, 1⟩, ⟨.w1c, F.ACQ_FSTKY_BAD_S, 0, 1⟩]⟩,
  ⟨0x7014, 0x0, 1, [⟨.rw, F.ACQ_XC_XC_TAU, 20, 2000⟩, ⟨.rw, F.ACQ_XC_XC_GUARD, 5, 100⟩]⟩,
  ⟨0x7018, 0x0, 1, [⟨.rw, F.ACQ_XCLIM_LIM, 0, 65535⟩]⟩,
  ⟨0x701C, 0x0, 1, [⟨.rw, F.ACQ_XCSEL_PORT, 0, 15⟩, ⟨.rw, F.ACQ_XCSEL_NBR, 0, 15⟩, ⟨.rw, F.ACQ_XCSEL_INPUT, 0, 1⟩]⟩,
  ⟨0x7020, 0x0, 1, [⟨.ro, F.ACQ_XCRD_A, 0, 65535⟩, ⟨.ro, F.ACQ_XCRD_B, 0, 65535⟩]⟩,
  ⟨0x7024, 0x0, 1, [⟨.ro, F.ACQ_CALSTAT_SLICE, 0, 63⟩, ⟨.ro, F.ACQ_CALSTAT_HOLD, 0, 1⟩, ⟨.ro, F.ACQ_CALSTAT_DRIFT, 0, 1⟩]⟩]
def t4_7_1 : List RegRow := [
  ⟨0x7040, 0x4, 8, [⟨.ro, F.ACQ_FSET_INFO_LIVE, 0, 1⟩, ⟨.ro, F.ACQ_FSET_INFO_FADING, 0, 1⟩, ⟨.ro, F.ACQ_FSET_INFO_NTAPS, 0, 127⟩, ⟨.ro, F.ACQ_FSET_INFO_G, 0, 16383⟩]⟩]
/-- The registers of Table 4-7 (R146). -/
def t4_7 : List RegRow := t4_7_0 ++ t4_7_1

def t5_7_0 : List RegRow := [
  ⟨0x8000, 0x100, 18, [⟨.rw, F.OBS_CFG_COMP, 0, 2⟩, ⟨.rw, F.OBS_CFG_GAIN_SRC, 0, 1⟩, ⟨.rw, F.OBS_CFG_REACQ, 0, 1⟩, ⟨.rw, F.OBS_CFG_COAST_BLK, 0, 1⟩, ⟨.rw, F.OBS_CFG_OVS_FT, 0, 1⟩, ⟨.rw, F.OBS_CFG_LOS_FT, 0, 1⟩, ⟨.rw, F.OBS_CFG_PPR, 1, 32⟩, ⟨.rw, F.OBS_CFG_MPP, 1, 64⟩]⟩,
  ⟨0x8004, 0x100, 18, [⟨.rw, F.OBS_LOOP_BW, 50, 6000⟩, ⟨.rw, F.OBS_LOOP_ZETA, 512, 2048⟩]⟩,
  ⟨0x8008, 0x100, 18, [⟨.rw, F.OBS_K1_K, 0, 4294967295⟩]⟩,
  ⟨0x800C, 0x100, 18, [⟨.rw, F.OBS_K2_K, 0, 4294967295⟩]⟩,
  ⟨0x8010, 0x100, 18, [⟨.rw, F.OBS_K3_K, 0, 4294967295⟩]⟩,
  ⟨0x8014, 0x100, 18, [⟨.ro, F.OBS_KE1_K, 0, 4294967295⟩]⟩,
  ⟨0x8018, 0x100, 18, [⟨.ro, F.OBS_KE2_K, 0, 4294967295⟩]⟩,
  ⟨0x801C, 0x100, 18, [⟨.ro, F.OBS_KE3_K, 0, 4294967295⟩]⟩,
  ⟨0x8020, 0x100, 18, [⟨.rw, F.OBS_LIM_LOT_TH, 1, 65535⟩, ⟨.rw, F.OBS_LIM_LOT_T, 1, 255⟩]⟩,
  ⟨0x8024, 0x100, 18, [⟨.rw, F.OBS_PROT_OVS_LIM, 1, 2047⟩, ⟨.rw, F.OBS_PROT_LOS_TH, 1, 15⟩, ⟨.rw, F.OBS_PROT_LOS_N, 1, 15⟩]⟩]
def t5_7_1 : List RegRow := [
  ⟨0x8028, 0x100, 18, [⟨.rw, F.OBS_COAST_COAST_T, 1, 1000⟩]⟩,
  ⟨0x802C, 0x100, 18, [⟨.rw, F.OBS_EOFS_EOFS, 0, 4294967295⟩]⟩,
  ⟨0x8030, 0x100, 18, [⟨.ro, F.OBS_STAT_STATE, 0, 7⟩, ⟨.ro, F.OBS_STAT_MIDX_UNK, 0, 1⟩, ⟨.ro, F.OBS_STAT_TURN_UNK, 0, 1⟩, ⟨.ro, F.OBS_STAT_LOS, 0, 1⟩, ⟨.ro, F.OBS_STAT_OVS, 0, 1⟩, ⟨.ro, F.OBS_STAT_BW_LIM, 0, 1⟩, ⟨.ro, F.OBS_STAT_BW_EFF, 0, 8191⟩]⟩,
  ⟨0x8034, 0x100, 18, [⟨.w1c, F.OBS_STKY_LOT, 0, 1⟩, ⟨.w1c, F.OBS_STKY_LOS, 0, 1⟩, ⟨.w1c, F.OBS_STKY_OVS, 0, 1⟩, ⟨.w1c, F.OBS_STKY_RANGE_X, 0, 1⟩, ⟨.w1c, F.OBS_STKY_TWRAP, 0, 1⟩, ⟨.w1c, F.OBS_STKY_GAIN_BAD, 0, 1⟩, ⟨.w1c, F.OBS_STKY_BW_LIM, 0, 1⟩]⟩,
  ⟨0x8038, 0x100, 18, [⟨.ro, F.OBS_MAP_ENG, 0, 31⟩, ⟨.ro, F.OBS_MAP_PORT, 0, 15⟩, ⟨.ro, F.OBS_MAP_INSERV, 0, 1⟩]⟩,
  ⟨0x803C, 0x100, 18, [⟨.ro, F.OBS_ERR_ERMS, 0, 65535⟩, ⟨.ro, F.OBS_ERR_CONF, 0, 255⟩, ⟨.ro, F.OBS_ERR_STATUS, 0, 255⟩]⟩,
  ⟨0x8040, 0x100, 18, [⟨.rw, F.OBS_PREQ_TS, 0, 4294967295⟩]⟩,
  ⟨0x8044, 0x100, 18, [⟨.rw, F.OBS_TSETV_TURN, 0, 4294967295⟩]⟩,
  ⟨0x8048, 0x100, 18, [⟨.wo, F.OBS_CMD_ACQ, 0, 1⟩, ⟨.wo, F.OBS_CMD_MSET, 0, 1⟩, ⟨.wo, F.OBS_CMD_MIDX, 0, 255⟩]⟩,
  ⟨0x804C, 0x100, 18, [⟨.ro, F.OBS_LOTCNT_COUNT, 0, 65535⟩, ⟨.w1c, F.OBS_LOTCNT_SAT, 0, 1⟩]⟩]
def t5_7_2 : List RegRow := [
  ⟨0x8050, 0x100, 18, [⟨.ro, F.OBS_RANG_ANG, 0, 4294967295⟩]⟩,
  ⟨0x8054, 0x100, 18, [⟨.ro, F.OBS_MANG_ANG, 0, 4294967295⟩]⟩,
  ⟨0x8058, 0x100, 18, [⟨.ro, F.OBS_EANG_ANG, 0, 4294967295⟩]⟩,
  ⟨0x805C, 0x100, 18, [⟨.ro, F.OBS_VEL_VEL, 0, 4294967295⟩]⟩,
  ⟨0x8060, 0x100, 18, [⟨.ro, F.OBS_ACC_ACC, 0, 4294967295⟩]⟩,
  ⟨0x8064, 0x100, 18, [⟨.ro, F.OBS_ACCW_ACC, 0, 4294967295⟩]⟩,
  ⟨0x8068, 0x100, 18, [⟨.ro, F.OBS_TURN_TURN, 0, 4294967295⟩]⟩,
  ⟨0x806C, 0x100, 18, [⟨.ro, F.OBS_PSTAT_STATUS, 0, 255⟩, ⟨.ro, F.OBS_PSTAT_EPOCH, 0, 255⟩, ⟨.ro, F.OBS_PSTAT_MIDX, 0, 255⟩, ⟨.ro, F.OBS_PSTAT_MSTATUS, 0, 255⟩]⟩,
  ⟨0x8070, 0x100, 18, [⟨.ro, F.OBS_PTS_TS32, 0, 4294967295⟩]⟩,
  ⟨0x8074, 0x100, 18, [⟨.ro, F.OBS_COASTCNT_COUNT, 0, 16777215⟩, ⟨.w1c, F.OBS_COASTCNT_SAT, 0, 1⟩]⟩]
def t5_7_3 : List RegRow := [
  ⟨0x8080, 0x100, 18, [⟨.ro, F.OBS_PRANG_W, 0, 4294967295⟩]⟩,
  ⟨0x8084, 0x100, 18, [⟨.ro, F.OBS_PMANG_W, 0, 4294967295⟩]⟩,
  ⟨0x8088, 0x100, 18, [⟨.ro, F.OBS_PEANG_W, 0, 4294967295⟩]⟩,
  ⟨0x808C, 0x100, 18, [⟨.ro, F.OBS_PVEL_W, 0, 4294967295⟩]⟩,
  ⟨0x8090, 0x100, 18, [⟨.ro, F.OBS_PACCW_W, 0, 4294967295⟩]⟩,
  ⟨0x8094, 0x100, 18, [⟨.ro, F.OBS_PTURN_W, 0, 4294967295⟩]⟩,
  ⟨0x8098, 0x100, 18, [⟨.ro, F.OBS_PPSTAT_W, 0, 4294967295⟩]⟩,
  ⟨0x809C, 0x100, 18, [⟨.ro, F.OBS_PPTS_W, 0, 4294967295⟩]⟩]
/-- The registers of Table 5-7 (R184). -/
def t5_7 : List RegRow := t5_7_0 ++ t5_7_1 ++ t5_7_2 ++ t5_7_3

def t5_8_0 : List RegRow := [
  ⟨0x9400, 0x40, 16, [⟨.ro, F.DIV_ANG_ANG, 0, 4294967295⟩]⟩,
  ⟨0x9404, 0x40, 16, [⟨.ro, F.DIV_SPD_SPD, 0, 4294967295⟩]⟩,
  ⟨0x9408, 0x40, 16, [⟨.ro, F.DIV_STS_STATUS, 0, 255⟩, ⟨.ro, F.DIV_STS_CMP, 0, 1⟩, ⟨.ro, F.DIV_STS_DIVL, 0, 1⟩, ⟨.ro, F.DIV_STS_ALIM, 0, 1⟩, ⟨.ro, F.DIV_STS_SLIM, 0, 1⟩, ⟨.ro, F.DIV_STS_WHLD, 0, 1⟩, ⟨.ro, F.DIV_STS_EPOCH, 0, 255⟩]⟩,
  ⟨0x940C, 0x40, 16, [⟨.ro, F.DIV_TS_TS32, 0, 4294967295⟩]⟩,
  ⟨0x9410, 0x40, 16, [⟨.ro, F.DIV_DIFF_DANG, 0, 65535⟩, ⟨.ro, F.DIV_DIFF_DSPD, 0, 65535⟩]⟩,
  ⟨0x9414, 0x40, 16, [⟨.w1c, F.DIV_STKY_DIVERGE, 0, 1⟩, ⟨.w1c, F.DIV_STKY_AMB, 0, 1⟩, ⟨.w1c, F.DIV_STKY_NOCMP, 0, 1⟩]⟩,
  ⟨0x9418, 0x40, 16, [⟨.ro, F.DIV_CNT_COUNT, 0, 16777215⟩, ⟨.w1c, F.DIV_CNT_SAT, 0, 1⟩]⟩]
/-- The registers of Table 5-8 (R185). -/
def t5_8 : List RegRow := t5_8_0

def t5_9_0 : List RegRow := [
  ⟨0x9C00, 0x0, 1, [⟨.rw, F.DIVG_CFG_ANG_LIM, 1, 65535⟩, ⟨.rw, F.DIVG_CFG_DIV_N, 1, 15⟩]⟩,
  ⟨0x9C04, 0x0, 1, [⟨.rw, F.DIVG_SPD_SPD_LIM, 1, 65535⟩, ⟨.rw, F.DIVG_SPD_DIV_TAU, 1, 10000⟩]⟩]
/-- The registers of Table 5-9 (R186). -/
def t5_9 : List RegRow := t5_9_0

def t6_6_0 : List RegRow := [
  ⟨0xA000, 0x80, 16, [⟨.rw, F.LRN_CFG_MODE, 0, 3⟩, ⟨.rw, F.LRN_CFG_TBL_BASE, 0, 1⟩, ⟨.rw, F.LRN_CFG_NVLOAD, 0, 1⟩, ⟨.rw, F.LRN_CFG_NHARM, 3, 32⟩, ⟨.rw, F.LRN_CFG_NAVG, 1, 8⟩, ⟨.rw, F.LRN_CFG_ACONF, 0, 255⟩, ⟨.rw, F.LRN_CFG_OCONF, 0, 255⟩]⟩,
  ⟨0xA004, 0x80, 16, [⟨.rw, F.LRN_WIN_VMIN, 0, 2047⟩, ⟨.rw, F.LRN_WIN_VMAX, 0, 2047⟩]⟩,
  ⟨0xA008, 0x80, 16, [⟨.rw, F.LRN_LIM_AMAX, 1, 65535⟩, ⟨.rw, F.LRN_LIM_EMAX, 1, 65535⟩]⟩,
  ⟨0xA00C, 0x80, 16, [⟨.rw, F.LRN_BND0_OFS_BND, 1, 65535⟩, ⟨.rw, F.LRN_BND0_RAT_BND, 1, 65535⟩]⟩,
  ⟨0xA010, 0x80, 16, [⟨.rw, F.LRN_BND1_QE_BND, 1, 65535⟩, ⟨.rw, F.LRN_BND1_HAR_BND, 1, 511⟩]⟩,
  ⟨0xA014, 0x80, 16, [⟨.rw, F.LRN_STEP_ESTEP, 0, 1023⟩, ⟨.rw, F.LRN_STEP_ASTEP, 0, 1023⟩]⟩,
  ⟨0xA018, 0x80, 16, [⟨.rw, F.LRN_APL_APL_T, 10, 1000⟩, ⟨.rw, F.LRN_APL_SMIN, 1, 255⟩]⟩,
  ⟨0xA01C, 0x80, 16, [⟨.ro, F.LRN_STAT_ACT, 0, 1⟩, ⟨.ro, F.LRN_STAT_CYC, 0, 1⟩, ⟨.ro, F.LRN_STAT_DEGR, 0, 1⟩, ⟨.ro, F.LRN_STAT_TWSRC, 0, 1⟩, ⟨.ro, F.LRN_STAT_NVBUSY, 0, 1⟩, ⟨.ro, F.LRN_STAT_GATE, 0, 15⟩, ⟨.ro, F.LRN_STAT_OUTB, 0, 15⟩]⟩,
  ⟨0xA020, 0x80, 16, [⟨.w1c, F.LRN_STKY_OUTB, 0, 15⟩, ⟨.w1c, F.LRN_STKY_NV_DONE, 0, 1⟩, ⟨.w1c, F.LRN_STKY_NV_FAIL, 0, 1⟩, ⟨.w1c, F.LRN_STKY_NV_TORN, 0, 1⟩, ⟨.w1c, F.LRN_STKY_NV_MISM, 0, 1⟩, ⟨.w1c, F.LRN_STKY_NV_LOADED, 0, 1⟩, ⟨.w1c, F.LRN_STKY_TW_DIFF, 0, 1⟩, ⟨.w1c, F.LRN_STKY_WR_BUSY, 0, 1⟩]⟩,
  ⟨0xA024, 0x80, 16, [⟨.ro, F.LRN_EOS_VAL, 0, 4294967295⟩]⟩]
def t6_6_1 : List RegRow := [
  ⟨0xA028, 0x80, 16, [⟨.ro, F.LRN_EOC_VAL, 0, 4294967295⟩]⟩,
  ⟨0xA02C, 0x80, 16, [⟨.ro, F.LRN_ER_VAL, 0, 4294967295⟩]⟩,
  ⟨0xA030, 0x80, 16, [⟨.ro, F.LRN_EQ_VAL, 0, 4294967295⟩]⟩,
  ⟨0xA034, 0x80, 16, [⟨.ro, F.LRN_AOS_VAL, 0, 4294967295⟩]⟩,
  ⟨0xA038, 0x80, 16, [⟨.ro, F.LRN_AOC_VAL, 0, 4294967295⟩]⟩,
  ⟨0xA03C, 0x80, 16, [⟨.ro, F.LRN_AR_VAL, 0, 4294967295⟩]⟩,
  ⟨0xA040, 0x80, 16, [⟨.ro, F.LRN_AQ_VAL, 0, 4294967295⟩]⟩,
  ⟨0xA044, 0x80, 16, [⟨.ro, F.LRN_CONF_OFS, 0, 255⟩, ⟨.ro, F.LRN_CONF_RAT, 0, 255⟩, ⟨.ro, F.LRN_CONF_QUAD, 0, 255⟩, ⟨.ro, F.LRN_CONF_TBL, 0, 255⟩]⟩,
  ⟨0xA048, 0x80, 16, [⟨.ro, F.LRN_GEN_GEN, 0, 65535⟩, ⟨.ro, F.LRN_GEN_STATUS, 0, 255⟩, ⟨.ro, F.LRN_GEN_EPOCH, 0, 255⟩]⟩,
  ⟨0xA04C, 0x80, 16, [⟨.ro, F.LRN_CYCCNT_COUNT, 0, 16777215⟩, ⟨.w1c, F.LRN_CYCCNT_SAT, 0, 1⟩]⟩]
def t6_6_2 : List RegRow := [
  ⟨0xA050, 0x80, 16, [⟨.ro, F.LRN_REJCNT_COUNT, 0, 16777215⟩, ⟨.w1c, F.LRN_REJCNT_SAT, 0, 1⟩]⟩,
  ⟨0xA058, 0x80, 16, [⟨.ro, F.LRN_NVCNT_COUNT, 0, 16777215⟩, ⟨.w1c, F.LRN_NVCNT_SAT, 0, 1⟩]⟩,
  ⟨0xA054, 0x80, 16, [⟨.ro, F.LRN_NVINFO_SEQ, 0, 65535⟩, ⟨.ro, F.LRN_NVINFO_COPY, 0, 1⟩, ⟨.ro, F.LRN_NVINFO_VALID, 0, 1⟩]⟩,
  ⟨0xA05C, 0x80, 16, [⟨.wo, F.LRN_CMD_CLR, 0, 1⟩, ⟨.wo, F.LRN_CMD_LOADNV, 0, 1⟩]⟩]
/-- The registers of Table 6-6 (R207). -/
def t6_6 : List RegRow := t6_6_0 ++ t6_6_1 ++ t6_6_2

def t6_7_0 : List RegRow := [
  ⟨0xA800, 0x0, 1, [⟨.wo, F.LRN_NVCMD_PORTS, 0, 65535⟩, ⟨.wo, F.LRN_NVCMD_COMMIT, 0, 1⟩]⟩,
  ⟨0xA804, 0x0, 1, [⟨.ro, F.LRN_NVSTAT_BUSY, 0, 1⟩, ⟨.ro, F.LRN_NVSTAT_RES, 0, 3⟩, ⟨.ro, F.LRN_NVSTAT_PEND, 0, 65535⟩]⟩,
  ⟨0xA808, 0x0, 1, [⟨.rw, F.LRN_TLADDR_WORD, 0, 1023⟩, ⟨.rw, F.LRN_TLADDR_PORT, 0, 15⟩, ⟨.ro, F.LRN_TLADDR_RESULT, 0, 3⟩]⟩,
  ⟨0xA80C, 0x0, 1, [⟨.wo, F.LRN_TLDATA_DATA, 0, 4294967295⟩]⟩]
/-- The registers of Table 6-7 (R208). -/
def t6_7 : List RegRow := t6_7_0

def t7_3_0 : List RegRow := [
  ⟨0xB000, 0x80, 16, [⟨.rw, F.DFB_CFG_TYPE, 0, 3⟩, ⟨.rw, F.DFB_CFG_IDXMODE, 0, 2⟩, ⟨.rw, F.DFB_CFG_QINFER, 0, 1⟩, ⟨.rw, F.DFB_CFG_DIR, 0, 1⟩, ⟨.rw, F.DFB_CFG_FILT_N, 0, 63⟩, ⟨.rw, F.DFB_CFG_ZGATE, 0, 7⟩]⟩,
  ⟨0xB004, 0x80, 16, [⟨.rw, F.DFB_LINES_LINES, 1, 65536⟩]⟩,
  ⟨0xB008, 0x80, 16, [⟨.rw, F.DFB_IDX_ZREF, 0, 262143⟩, ⟨.rw, F.DFB_IDX_ZTOL, 0, 63⟩]⟩,
  ⟨0xB00C, 0x80, 16, [⟨.rw, F.DFB_QLOSS_ILL_M, 1, 255⟩, ⟨.rw, F.DFB_QLOSS_ILL_WIN, 1, 65535⟩]⟩,
  ⟨0xB010, 0x80, 16, [⟨.rw, F.DFB_HALL_HOFS, 0, 65535⟩]⟩,
  ⟨0xB014, 0x80, 16, [⟨.rw, F.DFB_SFMT_ST_BITS, 0, 63⟩, ⟨.rw, F.DFB_SFMT_MT_BITS, 0, 63⟩, ⟨.rw, F.DFB_SFMT_GRAY, 0, 1⟩, ⟨.rw, F.DFB_SFMT_ERRB, 0, 2⟩, ⟨.rw, F.DFB_SFMT_DBL, 0, 1⟩]⟩,
  ⟨0xB018, 0x80, 16, [⟨.rw, F.DFB_STIM_CLKDIV, 0, 4095⟩, ⟨.rw, F.DFB_STIM_TO_MAX, 4, 255⟩, ⟨.rw, F.DFB_STIM_MONO, 1, 255⟩]⟩,
  ⟨0xB01C, 0x80, 16, [⟨.rw, F.DFB_SREQ_PERIOD, 10, 65535⟩, ⟨.rw, F.DFB_SREQ_TRIG, 0, 1⟩, ⟨.rw, F.DFB_SREQ_SLOT, 0, 255⟩]⟩,
  ⟨0xB020, 0x80, 16, [⟨.rw, F.DFB_LATCH_LATCH_DLY, 0, 65535⟩]⟩,
  ⟨0xB024, 0x80, 16, [⟨.ro, F.DFB_STAT_ZFOUND, 0, 1⟩, ⟨.ro, F.DFB_STAT_QLOSS, 0, 1⟩, ⟨.ro, F.DFB_STAT_LINE, 0, 1⟩, ⟨.ro, F.DFB_STAT_HALL_ILL, 0, 1⟩, ⟨.ro, F.DFB_STAT_FRAME, 0, 1⟩, ⟨.ro, F.DFB_STAT_SENS_E, 0, 1⟩, ⟨.ro, F.DFB_STAT_SENS_W, 0, 1⟩, ⟨.ro, F.DFB_STAT_DEGR, 0, 1⟩, ⟨.ro, F.DFB_STAT_HSECT, 0, 7⟩]⟩]
def t7_3_1 : List RegRow := [
  ⟨0xB028, 0x80, 16, [⟨.w1c, F.DFB_STKY_QERR, 0, 1⟩, ⟨.w1c, F.DFB_STKY_QLOSS, 0, 1⟩, ⟨.w1c, F.DFB_STKY_ZDEV, 0, 1⟩, ⟨.w1c, F.DFB_STKY_ZMISS, 0, 1⟩, ⟨.w1c, F.DFB_STKY_HALL_ILL, 0, 1⟩, ⟨.w1c, F.DFB_STKY_HALL_SKIP, 0, 1⟩, ⟨.w1c, F.DFB_STKY_CRC, 0, 1⟩, ⟨.w1c, F.DFB_STKY_NOSTART, 0, 1⟩, ⟨.w1c, F.DFB_STKY_SKIP, 0, 1⟩, ⟨.w1c, F.DFB_STKY_SENS_E, 0, 1⟩, ⟨.w1c, F.DFB_STKY_SENS_W, 0, 1⟩, ⟨.w1c, F.DFB_STKY_LINE, 0, 1⟩, ⟨.w1c, F.DFB_STKY_CLKMON, 0, 1⟩, ⟨.w1c, F.DFB_STKY_CNTWRAP, 0, 1⟩]⟩,
  ⟨0xB02C, 0x80, 16, [⟨.ro, F.DFB_POS_POS, 0, 4294967295⟩]⟩,
  ⟨0xB030, 0x80, 16, [⟨.ro, F.DFB_CNT_CNT, 0, 4294967295⟩]⟩,
  ⟨0xB034, 0x80, 16, [⟨.ro, F.DFB_PSTS_STATUS, 0, 255⟩, ⟨.ro, F.DFB_PSTS_EPOCH, 0, 255⟩]⟩,
  ⟨0xB038, 0x80, 16, [⟨.ro, F.DFB_PTS_TS32, 0, 4294967295⟩]⟩,
  ⟨0xB03C, 0x80, 16, [⟨.ro, F.DFB_MT_MT, 0, 4294967295⟩]⟩,
  ⟨0xB040, 0x80, 16, [⟨.ro, F.DFB_ZDEV_DEV, 0, 65535⟩, ⟨.ro, F.DFB_ZDEV_ZSEEN, 0, 65535⟩]⟩,
  ⟨0xB044, 0x80, 16, [⟨.ro, F.DFB_ILLCNT_COUNT, 0, 16777215⟩, ⟨.w1c, F.DFB_ILLCNT_SAT, 0, 1⟩]⟩,
  ⟨0xB048, 0x80, 16, [⟨.ro, F.DFB_ERRCNT_COUNT, 0, 16777215⟩, ⟨.w1c, F.DFB_ERRCNT_SAT, 0, 1⟩]⟩,
  ⟨0xB04C, 0x80, 16, [⟨.ro, F.DFB_SKIPCNT_COUNT, 0, 16777215⟩, ⟨.w1c, F.DFB_SKIPCNT_SAT, 0, 1⟩]⟩]
def t7_3_2 : List RegRow := [
  ⟨0xB050, 0x80, 16, [⟨.ro, F.DFB_GD_GD, 0, 4294967295⟩]⟩,
  ⟨0xB054, 0x80, 16, [⟨.wo, F.DFB_CMD_ZCLR, 0, 1⟩, ⟨.wo, F.DFB_CMD_CLRDEG, 0, 1⟩, ⟨.wo, F.DFB_CMD_QCLR, 0, 1⟩]⟩,
  ⟨0xB058, 0x80, 16, [⟨.ro, F.DFB_MTH_MT, 0, 127⟩]⟩,
  ⟨0xB05C, 0x80, 16, [⟨.ro, F.DFB_ZDEVW_DEV, 0, 4294967295⟩]⟩]
/-- The registers of Table 7-3 (R234). -/
def t7_3 : List RegRow := t7_3_0 ++ t7_3_1 ++ t7_3_2

def t8_3_0 : List RegRow := [
  ⟨0xC000, 0x80, 8, [⟨.rw, F.EMU_CFG_ENABLE, 0, 1⟩, ⟨.rw, F.EMU_CFG_ASEL, 0, 2⟩, ⟨.rw, F.EMU_CFG_OPENL, 0, 1⟩, ⟨.rw, F.EMU_CFG_RESUME, 0, 1⟩, ⟨.rw, F.EMU_CFG_DIR, 0, 1⟩, ⟨.rw, F.EMU_CFG_ZSRC, 0, 1⟩, ⟨.rw, F.EMU_CFG_HYST, 0, 3⟩, ⟨.rw, F.EMU_CFG_SRC, 0, 15⟩]⟩,
  ⟨0xC004, 0x80, 8, [⟨.rw, F.EMU_LINES_LINES, 1, 65536⟩]⟩,
  ⟨0xC008, 0x80, 8, [⟨.rw, F.EMU_ZPOS_ZPOS, 0, 4294967295⟩]⟩,
  ⟨0xC00C, 0x80, 8, [⟨.rw, F.EMU_LEAD_LEAD, 0, 65535⟩]⟩,
  ⟨0xC010, 0x80, 8, [⟨.ro, F.EMU_STAT_STATE, 0, 7⟩, ⟨.ro, F.EMU_STAT_LIMITING, 0, 1⟩, ⟨.ro, F.EMU_STAT_AB, 0, 3⟩, ⟨.ro, F.EMU_STAT_Z, 0, 1⟩, ⟨.ro, F.EMU_STAT_LASTDIR, 0, 1⟩]⟩,
  ⟨0xC014, 0x80, 8, [⟨.w1c, F.EMU_STKY_SAT, 0, 1⟩, ⟨.w1c, F.EMU_STKY_OVF, 0, 1⟩, ⟨.w1c, F.EMU_STKY_FROZE, 0, 1⟩, ⟨.w1c, F.EMU_STKY_RESYNC, 0, 1⟩, ⟨.w1c, F.EMU_STKY_EWRAP, 0, 1⟩]⟩,
  ⟨0xC020, 0x80, 8, [⟨.ro, F.EMU_EPOS_E, 0, 4294967295⟩]⟩,
  ⟨0xC024, 0x80, 8, [⟨.ro, F.EMU_BKLOG_B, 0, 262143⟩]⟩,
  ⟨0xC028, 0x80, 8, [⟨.ro, F.EMU_ETS_TS32, 0, 4294967295⟩]⟩,
  ⟨0xC02C, 0x80, 8, [⟨.ro, F.EMU_ESTS_STATUS, 0, 255⟩, ⟨.ro, F.EMU_ESTS_EPOCH, 0, 255⟩, ⟨.ro, F.EMU_ESTS_CQ, 0, 65535⟩]⟩]
def t8_3_1 : List RegRow := [
  ⟨0xC030, 0x80, 8, [⟨.ro, F.EMU_BKMAX_MAX, 0, 131071⟩, ⟨.w1c, F.EMU_BKMAX_SAT, 0, 1⟩]⟩,
  ⟨0xC034, 0x80, 8, [⟨.ro, F.EMU_SATCNT_COUNT, 0, 16777215⟩, ⟨.w1c, F.EMU_SATCNT_SAT, 0, 1⟩]⟩,
  ⟨0xC038, 0x80, 8, [⟨.ro, F.EMU_RSDIFF_DIFF, 0, 4294967295⟩]⟩,
  ⟨0xC03C, 0x80, 8, [⟨.wo, F.EMU_CMD_ALIGN, 0, 1⟩, ⟨.wo, F.EMU_CMD_REARM, 0, 1⟩]⟩]
/-- The registers of Table 8-3 (R251). -/
def t8_3 : List RegRow := t8_3_0 ++ t8_3_1

def t9_9_0 : List RegRow := [
  ⟨0xD000, 0x0, 1, [⟨.rw, F.GEY_CFG_EN, 0, 1⟩, ⟨.rw, F.GEY_CFG_AS_EN, 0, 1⟩]⟩,
  ⟨0xD004, 0x0, 1, [⟨.ro, F.GEY_STAT_NARMED, 0, 511⟩, ⟨.ro, F.GEY_STAT_NCOMMIT, 0, 511⟩]⟩,
  ⟨0xD008, 0x0, 1, [⟨.w1c, F.GEY_STKY_MISSED, 0, 1⟩, ⟨.w1c, F.GEY_STKY_REVCAN, 0, 1⟩, ⟨.w1c, F.GEY_STKY_LATE, 0, 1⟩, ⟨.w1c, F.GEY_STKY_LOSTTRK, 0, 1⟩, ⟨.w1c, F.GEY_STKY_STRM_DROP, 0, 1⟩, ⟨.w1c, F.GEY_STKY_PWMS_LOST, 0, 15⟩, ⟨.w1c, F.GEY_STKY_BUSY_W, 0, 1⟩, ⟨.w1c, F.GEY_STKY_GBUSY, 0, 1⟩, ⟨.w1c, F.GEY_STKY_BADSLOT, 0, 1⟩, ⟨.w1c, F.GEY_STKY_VBUSY, 0, 1⟩, ⟨.w1c, F.GEY_STKY_GDONE, 0, 1⟩, ⟨.w1c, F.GEY_STKY_FWRAP, 0, 1⟩]⟩,
  ⟨0xD00C, 0x0, 1, [⟨.w1c, F.GEY_USTKY_USER, 0, 255⟩]⟩,
  ⟨0xD010, 0x0, 1, [⟨.rw, F.GEY_LADDR_WORD, 0, 2047⟩]⟩,
  ⟨0xD014, 0x0, 1, [⟨.rw, F.GEY_LDATA_DATA, 0, 4294967295⟩]⟩,
  ⟨0xD018, 0x0, 1, [⟨.rw, F.GEY_SHADDR_WORD, 0, 1023⟩, ⟨.ro, F.GEY_SHADDR_RESULT, 0, 3⟩]⟩,
  ⟨0xD01C, 0x0, 1, [⟨.wo, F.GEY_SHDATA_DATA, 0, 4294967295⟩]⟩,
  ⟨0xD020, 0x0, 1, [⟨.wo, F.GEY_GCMD_GROUP, 0, 63⟩, ⟨.wo, F.GEY_GCMD_COPY, 0, 1⟩]⟩,
  ⟨0xD024, 0x0, 1, [⟨.ro, F.GEY_GSTAT_RES, 0, 3⟩]⟩]
def t9_9_1 : List RegRow := [
  ⟨0xD028, 0x0, 1, [⟨.ro, F.GEY_GPEND0_PEND, 0, 4294967295⟩]⟩,
  ⟨0xD02C, 0x0, 1, [⟨.ro, F.GEY_GPEND1_PEND, 0, 4294967295⟩]⟩,
  ⟨0xD030, 0x0, 1, [⟨.rw, F.GEY_SSEL_SLOT, 0, 255⟩]⟩,
  ⟨0xD034, 0x0, 1, [⟨.ro, F.GEY_SST_STATE, 0, 7⟩, ⟨.ro, F.GEY_SST_PRED, 0, 1⟩, ⟨.ro, F.GEY_SST_LOCK, 0, 1⟩, ⟨.ro, F.GEY_SST_LATE, 0, 1⟩, ⟨.ro, F.GEY_SST_MISS, 0, 1⟩, ⟨.ro, F.GEY_SST_SLOT, 0, 255⟩, ⟨.ro, F.GEY_SST_EPOCH, 0, 255⟩]⟩,
  ⟨0xD038, 0x0, 1, [⟨.ro, F.GEY_SFTL_FT, 0, 4294967295⟩]⟩,
  ⟨0xD03C, 0x0, 1, [⟨.ro, F.GEY_SFTH_FT, 0, 4294967295⟩]⟩,
  ⟨0xD040, 0x0, 1, [⟨.ro, F.GEY_SCNT_COUNT, 0, 4294967295⟩]⟩,
  ⟨0xD044, 0x0, 1, [⟨.ro, F.GEY_STGT_TGT, 0, 4294967295⟩]⟩,
  ⟨0xD050, 0x0, 1, [⟨.ro, F.GEY_MISSCNT_COUNT, 0, 16777215⟩, ⟨.w1c, F.GEY_MISSCNT_SAT, 0, 1⟩]⟩,
  ⟨0xD054, 0x0, 1, [⟨.ro, F.GEY_LATECNT_COUNT, 0, 16777215⟩, ⟨.w1c, F.GEY_LATECNT_SAT, 0, 1⟩]⟩]
def t9_9_2 : List RegRow := [
  ⟨0xD058, 0x0, 1, [⟨.ro, F.GEY_REVCNT_COUNT, 0, 16777215⟩, ⟨.w1c, F.GEY_REVCNT_SAT, 0, 1⟩]⟩,
  ⟨0xD05C, 0x0, 1, [⟨.ro, F.GEY_ASDROP_COUNT, 0, 16777215⟩, ⟨.w1c, F.GEY_ASDROP_SAT, 0, 1⟩]⟩,
  ⟨0xD080, 0x4, 16, [⟨.rw, F.GEY_GT_EN, 0, 1⟩, ⟨.rw, F.GEY_GT_PW, 4, 255⟩]⟩,
  ⟨0xD0C0, 0x4, 4, [⟨.rw, F.GEY_PWMS_CFG_EN, 0, 1⟩, ⟨.rw, F.GEY_PWMS_CFG_FILT, 0, 15⟩, ⟨.rw, F.GEY_PWMS_CFG_TO, 0, 65535⟩]⟩,
  ⟨0xD0D0, 0x4, 4, [⟨.ro, F.GEY_PWMS_PER_PER, 0, 16777215⟩, ⟨.ro, F.GEY_PWMS_PER_LOST, 0, 1⟩]⟩,
  ⟨0xD0E0, 0x4, 4, [⟨.ro, F.GEY_PWMS_TS_TS32, 0, 4294967295⟩]⟩,
  ⟨0xD100, 0x4, 16, [⟨.rw, F.GEY_ASP_SDIV, 0, 65535⟩, ⟨.rw, F.GEY_ASP_ASEL, 0, 2⟩]⟩,
  ⟨0xD140, 0x0, 1, [⟨.ro, F.GEY_ASSTAT_LEVEL, 0, 127⟩, ⟨.ro, F.GEY_ASSTAT_ACT, 0, 1⟩]⟩]
/-- The registers of Table 9-9 (R281). -/
def t9_9 : List RegRow := t9_9_0 ++ t9_9_1 ++ t9_9_2

def t10_13_0 : List RegRow := [
  ⟨0xE000, 0x80, 7, [⟨.rw, F.VNT_CFG_EN, 0, 1⟩, ⟨.rw, F.VNT_CFG_PENTRY, 0, 1023⟩]⟩,
  ⟨0xE004, 0x80, 7, [⟨.rw, F.VNT_PER_PER_US, 0, 65535⟩]⟩,
  ⟨0xE008, 0x80, 7, [⟨.rw, F.VNT_LIM_BUDGET, 16, 1024⟩, ⟨.rw, F.VNT_LIM_WMAX, 1, 65535⟩]⟩,
  ⟨0xE00C, 0x80, 7, [⟨.ro, F.VNT_STAT_STATE, 0, 7⟩, ⟨.ro, F.VNT_STAT_PEND, 0, 1⟩, ⟨.ro, F.VNT_STAT_PC, 0, 1023⟩, ⟨.ro, F.VNT_STAT_FLAGS, 0, 63⟩]⟩,
  ⟨0xE010, 0x80, 7, [⟨.w1c, F.VNT_STKY_BUDGET, 0, 1⟩, ⟨.w1c, F.VNT_STKY_BADOP, 0, 1⟩, ⟨.w1c, F.VNT_STKY_ADDR, 0, 1⟩, ⟨.w1c, F.VNT_STKY_PCOUT, 0, 1⟩, ⟨.w1c, F.VNT_STKY_ECC, 0, 1⟩, ⟨.w1c, F.VNT_STKY_OVRUN, 0, 1⟩, ⟨.w1c, F.VNT_STKY_REFUSED, 0, 1⟩, ⟨.w1c, F.VNT_STKY_WAITTO, 0, 1⟩]⟩,
  ⟨0xE014, 0x80, 7, [⟨.ro, F.VNT_FPC_PC, 0, 1023⟩]⟩,
  ⟨0xE018, 0x80, 7, [⟨.ro, F.VNT_FINS_INS, 0, 4294967295⟩]⟩,
  ⟨0xE01C, 0x80, 7, [⟨.ro, F.VNT_ACTCNT_COUNT, 0, 16777215⟩, ⟨.w1c, F.VNT_ACTCNT_SAT, 0, 1⟩]⟩,
  ⟨0xE020, 0x80, 7, [⟨.ro, F.VNT_BUDCNT_COUNT, 0, 16777215⟩, ⟨.w1c, F.VNT_BUDCNT_SAT, 0, 1⟩]⟩,
  ⟨0xE024, 0x80, 7, [⟨.ro, F.VNT_OVRCNT_COUNT, 0, 16777215⟩, ⟨.w1c, F.VNT_OVRCNT_SAT, 0, 1⟩]⟩]
def t10_13_1 : List RegRow := [
  ⟨0xE028, 0x80, 7, [⟨.wo, F.VNT_CMD_CLRF, 0, 1⟩, ⟨.wo, F.VNT_CMD_STOP, 0, 1⟩, ⟨.wo, F.VNT_CMD_CLRW, 0, 1⟩]⟩]
/-- The registers of Table 10-13 (R307). -/
def t10_13 : List RegRow := t10_13_0 ++ t10_13_1 ++ ((List.range 8).map fun k => ⟨0xE040 + 0x4 * k, 0x80, 7, [⟨.ro, F.VNT_W_W k, 0, 4294967295⟩]⟩)

def t10_14_0 : List RegRow := [
  ⟨0xE800, 0x0, 1, [⟨.rw, F.VNT_LADDR_WORD, 0, 8191⟩, ⟨.ro, F.VNT_LADDR_RESULT, 0, 3⟩]⟩,
  ⟨0xE804, 0x0, 1, [⟨.rw, F.VNT_LDATA_DATA, 0, 4294967295⟩]⟩,
  ⟨0xE808, 0x0, 1, [⟨.rw, F.VNT_SARG_ARG, 0, 4294967295⟩]⟩,
  ⟨0xE80C, 0x0, 1, [⟨.wo, F.VNT_START_ENG, 0, 7⟩, ⟨.wo, F.VNT_START_ADDR, 0, 1023⟩]⟩,
  ⟨0xE810, 0x0, 1, [⟨.ro, F.VNT_SRES_RES, 0, 3⟩]⟩,
  ⟨0xE814, 0x0, 1, [⟨.w1c, F.VNT_POST_POST, 0, 65535⟩]⟩,
  ⟨0xE818, 0x0, 1, [⟨.ro, F.VNT_XOVR_FREQ, 0, 65535⟩, ⟨.ro, F.VNT_XOVR_AMP, 0, 65535⟩]⟩]
/-- The registers of Table 10-14 (R308). -/
def t10_14 : List RegRow := t10_14_0

def t11_7_0 : List RegRow := [
  ⟨0xF000, 0x40, 16, [⟨.rw, F.TMP_CFG_EN, 0, 1⟩, ⟨.rw, F.TMP_CFG_WIRE, 0, 2⟩, ⟨.rw, F.TMP_CFG_TYPE, 0, 4⟩, ⟨.rw, F.TMP_CFG_STEP, 0, 15⟩, ⟨.rw, F.TMP_CFG_RREF, 0, 7⟩, ⟨.rw, F.TMP_CFG_ASET, 1, 1000⟩]⟩,
  ⟨0xF004, 0x40, 16, [⟨.rw, F.TMP_PINS_PIN0, 0, 63⟩, ⟨.rw, F.TMP_PINS_PIN1, 0, 63⟩, ⟨.rw, F.TMP_PINS_PIN2, 0, 63⟩, ⟨.rw, F.TMP_PINS_PIN3, 0, 63⟩]⟩,
  ⟨0xF008, 0x40, 16, [⟨.rw, F.TMP_RLEAD_RLEAD, 0, 1048575⟩]⟩,
  ⟨0xF00C, 0x40, 16, [⟨.rw, F.TMP_K0_K, 0, 4294967295⟩]⟩,
  ⟨0xF010, 0x40, 16, [⟨.rw, F.TMP_K1_K, 0, 4294967295⟩]⟩,
  ⟨0xF014, 0x40, 16, [⟨.rw, F.TMP_K2_K, 0, 4294967295⟩]⟩,
  ⟨0xF018, 0x40, 16, [⟨.rw, F.TMP_ALM_HI, 0, 65535⟩, ⟨.rw, F.TMP_ALM_LO, 0, 65535⟩]⟩,
  ⟨0xF01C, 0x40, 16, [⟨.ro, F.TMP_TEMP_TEMP, 0, 65535⟩, ⟨.ro, F.TMP_TEMP_STATUS, 0, 255⟩, ⟨.ro, F.TMP_TEMP_EPOCH, 0, 255⟩]⟩,
  ⟨0xF020, 0x40, 16, [⟨.ro, F.TMP_TEMPW_TEMPW, 0, 4294967295⟩]⟩,
  ⟨0xF024, 0x40, 16, [⟨.ro, F.TMP_RES_RES, 0, 4294967295⟩]⟩]
def t11_7_1 : List RegRow := [
  ⟨0xF028, 0x40, 16, [⟨.ro, F.TMP_TS_TS32, 0, 4294967295⟩]⟩,
  ⟨0xF02C, 0x40, 16, [⟨.ro, F.TMP_SETT_SETTLE, 0, 65535⟩, ⟨.ro, F.TMP_SETT_PHMAX, 0, 65535⟩]⟩,
  ⟨0xF030, 0x40, 16, [⟨.ro, F.TMP_STAT_PHASE, 0, 3⟩, ⟨.ro, F.TMP_STAT_ACT, 0, 1⟩, ⟨.ro, F.TMP_STAT_QLEN, 0, 7⟩, ⟨.ro, F.TMP_STAT_LIVE, 0, 255⟩, ⟨.ro, F.TMP_STAT_CFGBAD, 0, 1⟩]⟩,
  ⟨0xF034, 0x40, 16, [⟨.w1c, F.TMP_STKY_BITS, 0, 255⟩, ⟨.w1c, F.TMP_STKY_CFGBAD, 0, 1⟩, ⟨.w1c, F.TMP_STKY_QOVF, 0, 1⟩]⟩,
  ⟨0xF038, 0x40, 16, [⟨.ro, F.TMP_MISSCNT_COUNT, 0, 16777215⟩, ⟨.w1c, F.TMP_MISSCNT_SAT, 0, 1⟩]⟩]
/-- The registers of Table 11-7 (R323). -/
def t11_7 : List RegRow := t11_7_0 ++ t11_7_1

def t11_8_0 : List RegRow := [
  ⟨0xF800, 0x0, 1, [⟨.rw, F.TMPG_CTRL_EN, 0, 1⟩, ⟨.rw, F.TMPG_CTRL_TWSH, 0, 1⟩, ⟨.rw, F.TMPG_CTRL_GEN, 0, 15⟩]⟩,
  ⟨0xF804, 0x0, 1, [⟨.w1c, F.TMPG_STKY_GRDOVL, 0, 15⟩]⟩]
/-- The registers of Table 11-8 (R324). -/
def t11_8 : List RegRow := t11_8_0

def t12_13_0 : List RegRow := [
  ⟨0x10000, 0x0, 1, [⟨.rwk, F.SAF_CTRL_TRKREQ, 0, 1⟩, ⟨.rwk, F.SAF_CTRL_FT_LATCH, 0, 1⟩, ⟨.rwk, F.SAF_CTRL_GAP_MAX, 0, 255⟩, ⟨.rwk, F.SAF_CTRL_XTOL, 0, 255⟩, ⟨.rwk, F.SAF_CTRL_SEQWIN, 0, 255⟩]⟩,
  ⟨0x10004, 0x0, 1, [⟨.ro, F.SAF_STAT_DEVF, 0, 1⟩, ⟨.ro, F.SAF_STAT_PERM_A, 0, 1⟩, ⟨.ro, F.SAF_STAT_PERM_B, 0, 1⟩, ⟨.ro, F.SAF_STAT_FTRIP, 0, 1⟩, ⟨.ro, F.SAF_STAT_PEND, 0, 1⟩, ⟨.ro, F.SAF_STAT_KEYWIN, 0, 1⟩, ⟨.ro, F.SAF_STAT_RUN_A, 0, 255⟩, ⟨.ro, F.SAF_STAT_RUN_B, 0, 255⟩]⟩,
  ⟨0x10008, 0x0, 1, [⟨.ro, F.SAF_DFAULT_LATCHED, 0, 255⟩, ⟨.ro, F.SAF_DFAULT_LIVE, 0, 255⟩]⟩,
  ⟨0x1000C, 0x0, 1, [⟨.w1c, F.SAF_STKY_DEVF, 0, 1⟩, ⟨.w1c, F.SAF_STKY_CFG_OK, 0, 1⟩, ⟨.w1c, F.SAF_STKY_CFG_REF, 0, 1⟩, ⟨.w1c, F.SAF_STKY_KEYERR, 0, 1⟩, ⟨.w1c, F.SAF_STKY_DISC, 0, 255⟩, ⟨.w1c, F.SAF_STKY_SWAP, 0, 1⟩, ⟨.w1c, F.SAF_STKY_INJ, 0, 1⟩, ⟨.w1c, F.SAF_STKY_GAP, 0, 1⟩, ⟨.w1c, F.SAF_STKY_FTRIP, 0, 1⟩]⟩,
  ⟨0x10010, 0x0, 1, [⟨.wo, F.SAF_KEY_KEY, 0, 4294967295⟩]⟩,
  ⟨0x10014, 0x0, 1, [⟨.rwk, F.SAF_CFGCMD_APPLY, 0, 1⟩, ⟨.rwk, F.SAF_CFGCMD_DISCARD, 0, 1⟩]⟩,
  ⟨0x10018, 0x0, 1, [⟨.rwk, F.SAF_CFGCRC_CRC, 0, 4294967295⟩]⟩,
  ⟨0x1001C, 0x0, 1, [⟨.ro, F.SAF_ACRC_CRC, 0, 4294967295⟩]⟩,
  ⟨0x10020, 0x0, 1, [⟨.ro, F.SAF_CFGRES_RES, 0, 3⟩, ⟨.ro, F.SAF_CFGRES_BUSY, 0, 1⟩]⟩,
  ⟨0x10024, 0x0, 1, [⟨.rwk, F.SAF_ACK_AXIS, 0, 255⟩, ⟨.rwk, F.SAF_ACK_DEV, 0, 1⟩, ⟨.rwk, F.SAF_ACK_DISC, 0, 255⟩]⟩]
def t12_13_1 : List RegRow := [
  ⟨0x10028, 0x0, 1, [⟨.rwk, F.SAF_CACK_CONN, 0, 255⟩, ⟨.rwk, F.SAF_CACK_ACK, 0, 1⟩]⟩,
  ⟨0x1002C, 0x0, 1, [⟨.ro, F.SAF_KEYCNT_COUNT, 0, 16777215⟩, ⟨.w1c, F.SAF_KEYCNT_SAT, 0, 1⟩]⟩,
  ⟨0x10030, 0x0, 1, [⟨.ro, F.SAF_SI_SIA, 0, 255⟩, ⟨.ro, F.SAF_SI_SIB, 0, 255⟩, ⟨.ro, F.SAF_SI_DEM, 0, 255⟩, ⟨.ro, F.SAF_SI_DISC, 0, 255⟩]⟩,
  ⟨0x10034, 0x0, 1, [⟨.ro, F.SAF_VINS_RUN, 0, 255⟩]⟩,
  ⟨0x10038, 0x0, 1, [⟨.ro, F.SAF_NOTE_SPORT, 0, 15⟩, ⟨.ro, F.SAF_NOTE_SKIND, 0, 3⟩, ⟨.ro, F.SAF_NOTE_SCNT, 0, 255⟩, ⟨.ro, F.SAF_NOTE_IPORT, 0, 15⟩, ⟨.ro, F.SAF_NOTE_IKIND, 0, 3⟩, ⟨.ro, F.SAF_NOTE_IPASS, 0, 1⟩, ⟨.ro, F.SAF_NOTE_ICNT, 0, 255⟩]⟩,
  ⟨0x1003C, 0x0, 1, [⟨.w1c, F.SAF_CSTKY_SINGLE, 0, 1⟩, ⟨.w1c, F.SAF_CSTKY_FAULT, 0, 1⟩, ⟨.w1c, F.SAF_CSTKY_CRC, 0, 1⟩, ⟨.w1c, F.SAF_CSTKY_AGE, 0, 1⟩, ⟨.w1c, F.SAF_CSTKY_SEQ, 0, 1⟩, ⟨.w1c, F.SAF_CSTKY_MISM, 0, 1⟩, ⟨.w1c, F.SAF_CSTKY_TXD, 0, 1⟩, ⟨.w1c, F.SAF_CSTKY_SEQWRAP, 0, 1⟩]⟩,
  ⟨0x10040, 0x4, 8, [⟨.rwk, F.SAF_SI_CFG_EN, 0, 1⟩, ⟨.rwk, F.SAF_SI_CFG_RUNA, 0, 1⟩, ⟨.rwk, F.SAF_SI_CFG_RUNB, 0, 1⟩, ⟨.rwk, F.SAF_SI_CFG_FILT, 0, 63⟩, ⟨.rwk, F.SAF_SI_CFG_AXES, 0, 255⟩, ⟨.rwk, F.SAF_SI_CFG_DISC, 2, 255⟩, ⟨.rwk, F.SAF_SI_CFG_FUNC, 0, 5⟩]⟩,
  ⟨0x10060, 0x4, 8, [⟨.rwk, F.SAF_VIN_CFG_EN, 0, 1⟩, ⟨.rwk, F.SAF_VIN_CFG_CONN, 0, 255⟩, ⟨.rwk, F.SAF_VIN_CFG_AXES, 0, 255⟩, ⟨.rwk, F.SAF_VIN_CFG_FUNC, 0, 5⟩]⟩,
  ⟨0x10080, 0x0, 1, [⟨.ro, F.SAF_CRCCNT_COUNT, 0, 16777215⟩, ⟨.w1c, F.SAF_CRCCNT_SAT, 0, 1⟩]⟩,
  ⟨0x10084, 0x0, 1, [⟨.ro, F.SAF_AGECNT_COUNT, 0, 16777215⟩, ⟨.w1c, F.SAF_AGECNT_SAT, 0, 1⟩]⟩]
def t12_13_2 : List RegRow := [
  ⟨0x10088, 0x0, 1, [⟨.ro, F.SAF_SEQCNT_COUNT, 0, 16777215⟩, ⟨.w1c, F.SAF_SEQCNT_SAT, 0, 1⟩]⟩,
  ⟨0x1008C, 0x0, 1, [⟨.ro, F.SAF_TXDCNT_COUNT, 0, 16777215⟩, ⟨.w1c, F.SAF_TXDCNT_SAT, 0, 1⟩]⟩,
  ⟨0x10400, 0x0, 1, [⟨.rw, F.SAF_CSEL_CONN, 0, 255⟩]⟩,
  ⟨0x10404, 0x0, 1, [⟨.wo, F.SAF_CCMD_SEND, 0, 1⟩]⟩,
  ⟨0x10410, 0x4, 4, [⟨.rw, F.SAF_CDATA_DATA, 0, 4294967295⟩]⟩,
  ⟨0x10420, 0x0, 1, [⟨.ro, F.SAF_CDSTS_STATUS, 0, 255⟩, ⟨.ro, F.SAF_CDSTS_SEQ, 0, 65535⟩]⟩,
  ⟨0x10424, 0x0, 1, [⟨.ro, F.SAF_CDTS_TS32, 0, 4294967295⟩]⟩]
/-- The registers of Table 12-13 (R359). -/
def t12_13 : List RegRow := t12_13_0 ++ t12_13_1 ++ t12_13_2

def t12_14_0 : List RegRow := [
  ⟨0x10200, 0x40, 8, [⟨.rwk, F.AX_CFG_EN, 0, 1⟩, ⟨.rwk, F.AX_CFG_LOCAL, 0, 1⟩, ⟨.rwk, F.AX_CFG_AUTORST, 0, 1⟩, ⟨.rwk, F.AX_CFG_LEADF, 0, 1⟩, ⟨.rwk, F.AX_CFG_PROT, 0, 1⟩, ⟨.rwk, F.AX_CFG_NPORT, 0, 2⟩, ⟨.rwk, F.AX_CFG_P1, 0, 15⟩, ⟨.rwk, F.AX_CFG_P2, 0, 15⟩, ⟨.rwk, F.AX_CFG_AGREE, 0, 65535⟩]⟩,
  ⟨0x10204, 0x40, 8, [⟨.rwk, F.AX_K1_K, 0, 4294967295⟩]⟩,
  ⟨0x10208, 0x40, 8, [⟨.rwk, F.AX_K2_K, 0, 4294967295⟩]⟩,
  ⟨0x1020C, 0x40, 8, [⟨.rwk, F.AX_SS1_DEC, 1, 65535⟩, ⟨.rwk, F.AX_SS1_MRG, 0, 65535⟩]⟩,
  ⟨0x10210, 0x40, 8, [⟨.rwk, F.AX_SS1T_VSTO, 0, 65535⟩, ⟨.rwk, F.AX_SS1T_TMAX, 1, 65535⟩]⟩,
  ⟨0x10214, 0x40, 8, [⟨.rwk, F.AX_LIM_SLS_LIM, 0, 65535⟩, ⟨.rwk, F.AX_LIM_SMAX, 0, 65535⟩]⟩,
  ⟨0x10218, 0x40, 8, [⟨.rwk, F.AX_SDI_SDI_TOL, 0, 65535⟩, ⟨.rwk, F.AX_SDI_SLS_T, 0, 65535⟩]⟩,
  ⟨0x10220, 0x40, 8, [⟨.ro, F.AX_STAT_STA, 0, 7⟩, ⟨.ro, F.AX_STAT_RSTW, 0, 1⟩, ⟨.ro, F.AX_STAT_STB, 0, 7⟩, ⟨.ro, F.AX_STAT_SLS_ON, 0, 1⟩, ⟨.ro, F.AX_STAT_SDI_ON, 0, 3⟩, ⟨.ro, F.AX_STAT_CAUSE, 0, 15⟩, ⟨.ro, F.AX_STAT_STS_A, 0, 255⟩, ⟨.ro, F.AX_STAT_STS_B, 0, 255⟩]⟩,
  ⟨0x10224, 0x40, 8, [⟨.ro, F.AX_VA_V, 0, 4294967295⟩]⟩,
  ⟨0x10228, 0x40, 8, [⟨.ro, F.AX_VB_V, 0, 4294967295⟩]⟩]
def t12_14_1 : List RegRow := [
  ⟨0x1022C, 0x40, 8, [⟨.ro, F.AX_ENV_E, 0, 4294967295⟩]⟩,
  ⟨0x10230, 0x40, 8, [⟨.ro, F.AX_TS_TS32, 0, 4294967295⟩]⟩,
  ⟨0x10234, 0x40, 8, [⟨.w1c, F.AX_STKY_FAULT, 0, 1⟩, ⟨.w1c, F.AX_STKY_STO, 0, 1⟩, ⟨.w1c, F.AX_STKY_SS1, 0, 1⟩, ⟨.w1c, F.AX_STKY_LEAD, 0, 1⟩]⟩]
/-- The registers of Table 12-14 (R360). -/
def t12_14 : List RegRow := t12_14_0 ++ t12_14_1

def t12_15_0 : List RegRow := [
  ⟨0x11000, 0x10, 256, [⟨.rwk, F.SAFC_CFG_DIR, 0, 2⟩, ⟨.rwk, F.SAFC_CFG_SRC, 0, 2⟩, ⟨.rwk, F.SAFC_CFG_AGEM, 0, 1⟩, ⟨.rwk, F.SAFC_CFG_DLEN, 0, 31⟩, ⟨.rwk, F.SAFC_CFG_OBJ, 0, 127⟩, ⟨.rwk, F.SAFC_CFG_PID, 0, 255⟩]⟩,
  ⟨0x11004, 0x10, 256, [⟨.rwk, F.SAFC_ID_ID, 0, 536870911⟩, ⟨.rwk, F.SAFC_ID_IDE, 0, 1⟩]⟩,
  ⟨0x11008, 0x10, 256, [⟨.rwk, F.SAFC_TIM_AGE, 0, 255⟩, ⟨.rwk, F.SAFC_TIM_PAIR, 0, 255⟩, ⟨.rwk, F.SAFC_TIM_SINGLE, 0, 255⟩, ⟨.rwk, F.SAFC_TIM_PER, 0, 255⟩]⟩,
  ⟨0x1100C, 0x10, 256, [⟨.ro, F.SAFC_STAT_STATE, 0, 7⟩, ⟨.ro, F.SAFC_STAT_LASTERR, 0, 15⟩, ⟨.ro, F.SAFC_STAT_SEQ, 0, 65535⟩]⟩]
/-- The registers of Table 12-15 (R361). -/
def t12_15 : List RegRow := t12_15_0

/-- Table 13-10, first part. NTSEG1 = 0 lies outside its range, without 'other values ignored': it is stored (DESIGN CHOICE,
log entry 88). -/
def t13_10_0 : List RegRow := [
  ⟨0x12000, 0x1000, 2, [⟨.rw, F.CAN_CFG_MODE, 0, 4⟩, ⟨.rw, F.CAN_CFG_ABORT_BO, 0, 1⟩, ⟨.rw, F.CAN_CFG_MANREC, 0, 1⟩, ⟨.rw, F.CAN_CFG_PXE, 0, 1⟩, ⟨.rw, F.CAN_CFG_TDC_EN, 0, 1⟩, ⟨.rw, F.CAN_CFG_COLL_N, 1, 7⟩]⟩,
  ⟨0x12004, 0x1000, 2, [⟨.rw, F.CAN_NBT_NBRP, 0, 255⟩, ⟨.rw, F.CAN_NBT_NTSEG1, 0, 255⟩, ⟨.rw, F.CAN_NBT_NTSEG2, 0, 127⟩, ⟨.rw, F.CAN_NBT_NSJW, 0, 127⟩]⟩,
  ⟨0x12008, 0x1000, 2, [⟨.rw, F.CAN_DBT_DBRP, 0, 31⟩, ⟨.rw, F.CAN_DBT_DTSEG1, 0, 31⟩, ⟨.rw, F.CAN_DBT_DTSEG2, 0, 15⟩, ⟨.rw, F.CAN_DBT_DSJW, 0, 15⟩]⟩,
  ⟨0x1200C, 0x1000, 2, [⟨.rw, F.CAN_TDC_TDCO, 0, 127⟩, ⟨.ro, F.CAN_TDC_TDCV, 0, 255⟩]⟩,
  ⟨0x12010, 0x1000, 2, [⟨.ro, F.CAN_STAT_STATE, 0, 7⟩, ⟨.ro, F.CAN_STAT_LOM, 0, 1⟩, ⟨.ro, F.CAN_STAT_BT_PEND, 0, 1⟩, ⟨.ro, F.CAN_STAT_BT_BAD, 0, 1⟩, ⟨.ro, F.CAN_STAT_TXACT, 0, 1⟩, ⟨.ro, F.CAN_STAT_RXACT, 0, 1⟩, ⟨.ro, F.CAN_STAT_TEC, 0, 255⟩, ⟨.ro, F.CAN_STAT_REC, 0, 255⟩, ⟨.ro, F.CAN_STAT_LEC, 0, 7⟩]⟩,
  ⟨0x12014, 0x1000, 2, [⟨.w1c, F.CAN_STKY_EWARN, 0, 1⟩, ⟨.w1c, F.CAN_STKY_EPASS, 0, 1⟩, ⟨.w1c, F.CAN_STKY_BOFF, 0, 1⟩, ⟨.w1c, F.CAN_STKY_RECOV, 0, 1⟩, ⟨.w1c, F.CAN_STKY_COLL, 0, 1⟩, ⟨.w1c, F.CAN_STKY_WAKE, 0, 1⟩, ⟨.w1c, F.CAN_STKY_RXDROP, 0, 1⟩, ⟨.w1c, F.CAN_STKY_OVW, 0, 1⟩, ⟨.w1c, F.CAN_STKY_TXREF, 0, 1⟩, ⟨.w1c, F.CAN_STKY_SKIP, 0, 1⟩, ⟨.w1c, F.CAN_STKY_ABORT, 0, 1⟩, ⟨.w1c, F.CAN_STKY_PXE, 0, 1⟩, ⟨.w1c, F.CAN_STKY_TDCERR, 0, 1⟩]⟩,
  ⟨0x12018, 0x1000, 2, [⟨.wo, F.CAN_CMD_RECOVER, 0, 1⟩, ⟨.wo, F.CAN_CMD_SLEEP, 0, 1⟩, ⟨.wo, F.CAN_CMD_WAKE, 0, 1⟩, ⟨.wo, F.CAN_CMD_RINGCAN, 0, 1⟩]⟩,
  ⟨0x1201C, 0x1000, 2, [⟨.rw, F.CAN_WCFG_WMODE, 0, 1⟩, ⟨.rw, F.CAN_WCFG_WIDE, 0, 1⟩, ⟨.rw, F.CAN_WCFG_TWAKE, 5, 50⟩, ⟨.rw, F.CAN_WCFG_WDMASK, 0, 255⟩]⟩,
  ⟨0x12020, 0x1000, 2, [⟨.rw, F.CAN_WID_ID, 0, 536870911⟩]⟩,
  ⟨0x12024, 0x1000, 2, [⟨.rw, F.CAN_WMASK_ID, 0, 536870911⟩]⟩]
def t13_10_1 : List RegRow := [
  ⟨0x12028, 0x1000, 2, [⟨.rw, F.CAN_WDATA0_DATA, 0, 4294967295⟩]⟩,
  ⟨0x1202C, 0x1000, 2, [⟨.rw, F.CAN_WDATA1_DATA, 0, 4294967295⟩]⟩,
  ⟨0x12030, 0x1000, 2, [⟨.wo, F.CAN_OCMD_OBJ, 0, 127⟩, ⟨.wo, F.CAN_OCMD_TXREQ, 0, 1⟩, ⟨.wo, F.CAN_OCMD_CANCEL, 0, 1⟩, ⟨.wo, F.CAN_OCMD_RESUME, 0, 1⟩]⟩,
  ⟨0x12034, 0x1000, 2, [⟨.ro, F.CAN_ORES_RES, 0, 1⟩]⟩,
  ⟨0x12060, 0x1000, 2, [⟨.ro, F.CAN_BERRCNT_COUNT, 0, 16777215⟩, ⟨.w1c, F.CAN_BERRCNT_SAT, 0, 1⟩]⟩,
  ⟨0x12064, 0x1000, 2, [⟨.ro, F.CAN_BOCNT_COUNT, 0, 16777215⟩, ⟨.w1c, F.CAN_BOCNT_SAT, 0, 1⟩]⟩,
  ⟨0x12068, 0x1000, 2, [⟨.ro, F.CAN_RXDROP_COUNT, 0, 16777215⟩, ⟨.w1c, F.CAN_RXDROP_SAT, 0, 1⟩]⟩,
  ⟨0x1206C, 0x1000, 2, [⟨.ro, F.CAN_COLLCNT_COUNT, 0, 16777215⟩, ⟨.w1c, F.CAN_COLLCNT_SAT, 0, 1⟩]⟩,
  ⟨0x12080, 0x1000, 2, [⟨.rw, F.CAN_OWADDR_WORD, 0, 4095⟩, ⟨.ro, F.CAN_OWADDR_RESULT, 0, 3⟩]⟩,
  ⟨0x12084, 0x1000, 2, [⟨.wo, F.CAN_OWDATA_DATA, 0, 4294967295⟩]⟩]
def t13_10_2 : List RegRow := [
  ⟨0x12100, 0x1000, 2, [⟨.rw, F.CAN_ORSEL_OBJ, 0, 127⟩]⟩]
/-- The registers of Table 13-10 (R393). -/
def t13_10 : List RegRow := t13_10_0 ++ t13_10_1 ++ t13_10_2 ++ ((List.range 4).map fun k => ⟨0x12040 + 0x4 * k, 0x1000, 2, [⟨.ro, F.CAN_PEND_PEND k, 0, 4294967295⟩]⟩) ++ ((List.range 4).map fun k => ⟨0x12050 + 0x4 * k, 0x1000, 2, [⟨.ro, F.CAN_SUSP_SUSP k, 0, 4294967295⟩]⟩) ++ ((List.range 32).map fun k => ⟨0x12200 + 0x4 * k, 0x1000, 2, [⟨.ro, F.CAN_OR_WORD k, 0, 4294967295⟩]⟩)

def t14_12_0 : List RegRow := [
  ⟨0x2000, 0x0, 1, [⟨.ro, F.HIF_STAT_SPEED, 0, 3⟩, ⟨.ro, F.HIF_STAT_WIDTH, 0, 3⟩, ⟨.ro, F.HIF_STAT_BME, 0, 1⟩, ⟨.ro, F.HIF_STAT_MSIX, 0, 1⟩, ⟨.ro, F.HIF_STAT_D3, 0, 1⟩, ⟨.ro, F.HIF_STAT_SOWN, 0, 31⟩]⟩,
  ⟨0x2004, 0x0, 1, [⟨.w1c, F.HIF_STKY_RDROP, 0, 1⟩, ⟨.w1c, F.HIF_STKY_DBBAD, 0, 1⟩, ⟨.w1c, F.HIF_STKY_DMAERR, 0, 1⟩, ⟨.w1c, F.HIF_STKY_CFGBAD, 0, 1⟩, ⟨.w1c, F.HIF_STKY_SPICRC, 0, 1⟩, ⟨.w1c, F.HIF_STKY_SPIABT, 0, 1⟩, ⟨.w1c, F.HIF_STKY_HBTO, 0, 1⟩]⟩,
  ⟨0x2008, 0x0, 1, [⟨.rw, F.HIF_SBLKL_EN, 0, 1⟩, ⟨.rw, F.HIF_SBLKL_ADDR, 0, 33554431⟩]⟩,
  ⟨0x200C, 0x0, 1, [⟨.rw, F.HIF_SBLKH_ADDR, 0, 4294967295⟩]⟩,
  ⟨0x2010, 0x0, 1, [⟨.rw, F.HIF_ROUTE0_DEC, 0, 255⟩, ⟨.rw, F.HIF_ROUTE0_SNAP, 0, 255⟩, ⟨.rw, F.HIF_ROUTE0_EVENT, 0, 255⟩, ⟨.rw, F.HIF_ROUTE0_SAFEPDU, 0, 255⟩]⟩,
  ⟨0x2014, 0x0, 1, [⟨.rw, F.HIF_ROUTE1_CANRX0, 0, 255⟩, ⟨.rw, F.HIF_ROUTE1_CANRX1, 0, 255⟩, ⟨.rw, F.HIF_ROUTE1_ASH, 0, 255⟩]⟩,
  ⟨0x2018, 0x0, 1, [⟨.rw, F.HIF_HBCFG_TMO, 0, 65535⟩, ⟨.rw, F.HIF_HBCFG_ACT, 0, 3⟩, ⟨.rw, F.HIF_HBCFG_PCIE, 0, 1⟩, ⟨.rw, F.HIF_HBCFG_SPI, 0, 1⟩]⟩,
  ⟨0x201C, 0x0, 1, [⟨.wo, F.HIF_HBEAT_BEAT, 0, 4294967295⟩]⟩,
  ⟨0x2020, 0x0, 1, [⟨.ro, F.HIF_SPICRC_COUNT, 0, 16777215⟩, ⟨.w1c, F.HIF_SPICRC_SAT, 0, 1⟩]⟩,
  ⟨0x2024, 0x0, 1, [⟨.ro, F.HIF_SPIABT_COUNT, 0, 16777215⟩, ⟨.w1c, F.HIF_SPIABT_SAT, 0, 1⟩]⟩]
def t14_12_1 : List RegRow := [
  ⟨0x2100, 0x20, 32, [⟨.rw, F.HIF_RING_BASEL_BASE, 0, 1048575⟩]⟩,
  ⟨0x2104, 0x20, 32, [⟨.rw, F.HIF_RING_BASEH_BASE, 0, 4294967295⟩]⟩,
  ⟨0x2108, 0x20, 32, [⟨.rw, F.HIF_RING_CFG_EN, 0, 1⟩, ⟨.rw, F.HIF_RING_CFG_SIZE, 6, 16⟩, ⟨.rw, F.HIF_RING_CFG_CLASS, 0, 3⟩, ⟨.rw, F.HIF_RING_CFG_VEC, 0, 31⟩, ⟨.rw, F.HIF_RING_CFG_IEN, 0, 1⟩, ⟨.rw, F.HIF_RING_CFG_CRING, 0, 31⟩]⟩,
  ⟨0x210C, 0x20, 32, [⟨.rw, F.HIF_RING_DB_TAIL, 0, 65535⟩]⟩,
  ⟨0x2110, 0x20, 32, [⟨.ro, F.HIF_RING_HEAD_HEAD, 0, 65535⟩, ⟨.ro, F.HIF_RING_HEAD_WRAPS, 0, 65535⟩]⟩,
  ⟨0x2114, 0x20, 32, [⟨.ro, F.HIF_RING_STAT_STOP, 0, 1⟩, ⟨.ro, F.HIF_RING_STAT_ERR, 0, 3⟩]⟩,
  ⟨0x2118, 0x20, 32, [⟨.ro, F.HIF_RING_DROP_COUNT, 0, 16777215⟩, ⟨.w1c, F.HIF_RING_DROP_SAT, 0, 1⟩]⟩]
/-- The registers of Table 14-12 (R421). -/
def t14_12 : List RegRow := t14_12_0 ++ t14_12_1

def t14_13_0 : List RegRow := [
  ⟨0x3000, 0x4, 256, [⟨.rw, F.EVT_CFG_EN, 0, 1⟩, ⟨.rw, F.EVT_CFG_REC, 0, 1⟩, ⟨.rw, F.EVT_CFG_VEN, 0, 1⟩, ⟨.rw, F.EVT_CFG_PIN, 0, 1⟩, ⟨.rw, F.EVT_CFG_VEC, 0, 31⟩]⟩,
  ⟨0x3400, 0x4, 256, [⟨.ro, F.EVT_CNT_COUNT, 0, 16777215⟩, ⟨.w1c, F.EVT_CNT_SAT, 0, 1⟩]⟩,
  ⟨0x3800, 0x4, 8, [⟨.w1c, F.EVT_PEND_PEND, 0, 4294967295⟩]⟩,
  ⟨0x3840, 0x4, 32, [⟨.rw, F.EVT_VEC_MTIME, 0, 1023⟩, ⟨.rw, F.EVT_VEC_MCNT, 0, 255⟩]⟩,
  ⟨0x38C0, 0x0, 1, [⟨.ro, F.EVT_STAT_NPEND, 0, 511⟩, ⟨.ro, F.EVT_STAT_PIN, 0, 1⟩]⟩]
/-- The registers of Table 14-13 (R422). -/
def t14_13 : List RegRow := t14_13_0

def t15_5_0 : List RegRow := [
  ⟨0x14000, 0x0, 1, [⟨.rw, F.CHN_CFG_EN, 0, 1⟩, ⟨.rw, F.CHN_CFG_HEAD, 0, 1⟩, ⟨.rw, F.CHN_CFG_SYNCN_EN, 0, 1⟩, ⟨.rw, F.CHN_CFG_TPER, 5, 100⟩, ⟨.rw, F.CHN_CFG_SLEAD, 10, 60000⟩]⟩,
  ⟨0x14004, 0x0, 1, [⟨.rw, F.CHN_HOPW_W, 0, 65535⟩]⟩,
  ⟨0x14008, 0x0, 1, [⟨.ro, F.CHN_STAT_UN, 0, 511⟩, ⟨.ro, F.CHN_STAT_UNV, 0, 1⟩, ⟨.ro, F.CHN_STAT_STATE, 0, 7⟩, ⟨.ro, F.CHN_STAT_HOLD, 0, 1⟩, ⟨.ro, F.CHN_STAT_RINGOK, 0, 1⟩]⟩,
  ⟨0x1400C, 0x0, 1, [⟨.ro, F.CHN_ENUM_N, 0, 1023⟩]⟩,
  ⟨0x14010, 0x0, 1, [⟨.ro, F.CHN_CABLE_D, 0, 4294967295⟩]⟩,
  ⟨0x14014, 0x0, 1, [⟨.ro, F.CHN_FWD_F, 0, 65535⟩]⟩,
  ⟨0x14018, 0x0, 1, [⟨.ro, F.CHN_RING_TR, 0, 4294967295⟩]⟩,
  ⟨0x1401C, 0x0, 1, [⟨.ro, F.CHN_ERR_E, 0, 4294967295⟩]⟩,
  ⟨0x14020, 0x0, 1, [⟨.ro, F.CHN_FREQ_F, 0, 4294967295⟩]⟩,
  ⟨0x14024, 0x0, 1, [⟨.w1c, F.CHN_STKY_LOSS, 0, 1⟩, ⟨.w1c, F.CHN_STKY_RINGOPEN, 0, 1⟩, ⟨.w1c, F.CHN_STKY_OVERCNT, 0, 1⟩, ⟨.w1c, F.CHN_STKY_MULTIHEAD, 0, 1⟩, ⟨.w1c, F.CHN_STKY_CRCERR, 0, 1⟩, ⟨.w1c, F.CHN_STKY_HOLD, 0, 1⟩, ⟨.w1c, F.CHN_STKY_STEP, 0, 1⟩, ⟨.w1c, F.CHN_STKY_SLEW, 0, 1⟩, ⟨.w1c, F.CHN_STKY_SYNC, 0, 1⟩, ⟨.w1c, F.CHN_STKY_SYNCLATE, 0, 1⟩, ⟨.w1c, F.CHN_STKY_UNCHG, 0, 1⟩, ⟨.w1c, F.CHN_STKY_SYNCN, 0, 1⟩]⟩]
def t15_5_1 : List RegRow := [
  ⟨0x14028, 0x0, 1, [⟨.ro, F.CHN_CRCCNT_COUNT, 0, 16777215⟩, ⟨.w1c, F.CHN_CRCCNT_SAT, 0, 1⟩]⟩,
  ⟨0x1402C, 0x0, 1, [⟨.ro, F.CHN_ORIGIN_TAG, 0, 65535⟩]⟩,
  ⟨0x14030, 0x0, 1, [⟨.rw, F.CHN_CMDTL_T, 0, 4294967295⟩]⟩,
  ⟨0x14034, 0x0, 1, [⟨.rw, F.CHN_CMDTH_T, 0, 4294967295⟩]⟩,
  ⟨0x14038, 0x0, 1, [⟨.wo, F.CHN_CMD_CODE, 0, 255⟩, ⟨.wo, F.CHN_CMD_SYNCRST, 0, 1⟩, ⟨.wo, F.CHN_CMD_SLOTS, 0, 1⟩, ⟨.wo, F.CHN_CMD_SEND, 0, 1⟩, ⟨.wo, F.CHN_CMD_PULSE, 0, 1⟩, ⟨.wo, F.CHN_CMD_ENUM, 0, 1⟩]⟩,
  ⟨0x1403C, 0x0, 1, [⟨.ro, F.CHN_CMDRES_RES, 0, 3⟩]⟩,
  ⟨0x14040, 0x0, 1, [⟨.ro, F.CHN_SYNCL_T, 0, 4294967295⟩]⟩,
  ⟨0x14044, 0x0, 1, [⟨.ro, F.CHN_SYNCH_T, 0, 4294967295⟩]⟩]
/-- The registers of Table 15-5 (R451). -/
def t15_5 : List RegRow := t15_5_0 ++ t15_5_1

def t15_6_0 : List RegRow := [
  ⟨0x15000, 0x0, 1, [⟨.rw, F.TWN_CFG_EN, 0, 1⟩, ⟨.rw, F.TWN_CFG_POS, 0, 1⟩, ⟨.rw, F.TWN_CFG_AUTO_TK, 0, 1⟩, ⟨.rw, F.TWN_CFG_CRIT_HO, 0, 1⟩, ⟨.rw, F.TWN_CFG_STUCKTK, 0, 1⟩, ⟨.rw, F.TWN_CFG_HBTO, 4, 255⟩, ⟨.rw, F.TWN_CFG_STWAIT, 1, 65535⟩]⟩,
  ⟨0x15004, 0x0, 1, [⟨.rw, F.TWN_CRIT_PORTS, 0, 65535⟩]⟩,
  ⟨0x15008, 0x0, 1, [⟨.rw, F.TWN_CMP_ANG_LIM, 1, 65535⟩, ⟨.rw, F.TWN_CMP_SPD_LIM, 1, 4095⟩, ⟨.rw, F.TWN_CMP_CMP_N, 1, 15⟩]⟩,
  ⟨0x1500C, 0x0, 1, [⟨.ro, F.TWN_STAT_ROLE, 0, 3⟩, ⟨.ro, F.TWN_STAT_TOKEN, 0, 1⟩, ⟨.ro, F.TWN_STAT_TKNI, 0, 1⟩, ⟨.ro, F.TWN_STAT_LINK, 0, 1⟩, ⟨.ro, F.TWN_STAT_PHB, 0, 1⟩, ⟨.ro, F.TWN_STAT_OHB, 0, 1⟩, ⟨.ro, F.TWN_STAT_PROLE, 0, 3⟩, ⟨.ro, F.TWN_STAT_PPOS, 0, 1⟩, ⟨.ro, F.TWN_STAT_CLAIM, 0, 1⟩, ⟨.ro, F.TWN_STAT_REL, 0, 1⟩, ⟨.ro, F.TWN_STAT_DIVL, 0, 65535⟩]⟩,
  ⟨0x15010, 0x0, 1, [⟨.w1c, F.TWN_STKY_LINKDN, 0, 1⟩, ⟨.w1c, F.TWN_STKY_PHBLOST, 0, 1⟩, ⟨.w1c, F.TWN_STKY_HBWIRE, 0, 1⟩, ⟨.w1c, F.TWN_STKY_TKFAIL, 0, 1⟩, ⟨.w1c, F.TWN_STKY_TKRACE, 0, 1⟩, ⟨.w1c, F.TWN_STKY_POSCONF, 0, 1⟩, ⟨.w1c, F.TWN_STKY_RELFAIL, 0, 1⟩, ⟨.w1c, F.TWN_STKY_DIV, 0, 1⟩, ⟨.w1c, F.TWN_STKY_SAFDIFF, 0, 1⟩, ⟨.w1c, F.TWN_STKY_GEYDIFF, 0, 1⟩, ⟨.w1c, F.TWN_STKY_CRC, 0, 1⟩, ⟨.w1c, F.TWN_STKY_TAKEOVER, 0, 1⟩, ⟨.w1c, F.TWN_STKY_YIELD, 0, 1⟩, ⟨.w1c, F.TWN_STKY_FORCED, 0, 1⟩]⟩,
  ⟨0x15014, 0x0, 1, [⟨.w1c, F.TWN_DIVSTKY_PORTS, 0, 65535⟩]⟩,
  ⟨0x15018, 0x0, 1, [⟨.ro, F.TWN_TKTS_TS32, 0, 4294967295⟩]⟩,
  ⟨0x1501C, 0x0, 1, [⟨.wo, F.TWN_CMD_RELEASE, 0, 1⟩, ⟨.wo, F.TWN_CMD_TAKE, 0, 1⟩]⟩,
  ⟨0x15020, 0x0, 1, [⟨.ro, F.TWN_CRCCNT_COUNT, 0, 16777215⟩, ⟨.w1c, F.TWN_CRCCNT_SAT, 0, 1⟩]⟩,
  ⟨0x15024, 0x0, 1, [⟨.ro, F.TWN_TKCNT_COUNT, 0, 16777215⟩, ⟨.w1c, F.TWN_TKCNT_SAT, 0, 1⟩]⟩]
def t15_6_1 : List RegRow := [
  ⟨0x15028, 0x0, 1, [⟨.rw, F.TWN_DSEL_PORT, 0, 15⟩]⟩,
  ⟨0x1502C, 0x0, 1, [⟨.ro, F.TWN_DIFF_DANG, 0, 65535⟩, ⟨.ro, F.TWN_DIFF_DSPD, 0, 65535⟩]⟩]
/-- The registers of Table 15-6 (R452). -/
def t15_6 : List RegRow := t15_6_0 ++ t15_6_1

def t16_9_0 : List RegRow := [
  ⟨0x1000, 0x0, 1, [⟨.w1c, F.RST_CAUSE_POR, 0, 1⟩, ⟨.w1c, F.RST_CAUSE_BOR, 0, 1⟩, ⟨.w1c, F.RST_CAUSE_PIN, 0, 1⟩, ⟨.w1c, F.RST_CAUSE_WDT, 0, 1⟩, ⟨.w1c, F.RST_CAUSE_BUWDT, 0, 1⟩, ⟨.w1c, F.RST_CAUSE_SWRST, 0, 1⟩, ⟨.w1c, F.RST_CAUSE_CLKFAIL, 0, 1⟩, ⟨.w1c, F.RST_CAUSE_PERST, 0, 1⟩, ⟨.w1c, F.RST_CAUSE_PINSTUCK, 0, 1⟩, ⟨.w1c, F.RST_CAUSE_FSTART, 0, 1⟩, ⟨.w1c, F.RST_CAUSE_DSTRAP, 0, 1⟩, ⟨.w1c, F.RST_CAUSE_DREC, 0, 1⟩, ⟨.w1c, F.RST_CAUSE_DSW, 0, 1⟩, ⟨.w1c, F.RST_CAUSE_TLOST, 0, 1⟩]⟩,
  ⟨0x1004, 0x0, 1, [⟨.ro, F.RST_STAT_STEP, 0, 15⟩, ⟨.ro, F.RST_STAT_FSC, 0, 7⟩, ⟨.ro, F.RST_STAT_CONFIRMED, 0, 1⟩, ⟨.ro, F.RST_STAT_BOOTSRC, 0, 3⟩, ⟨.ro, F.RST_STAT_CLKSRC, 0, 3⟩, ⟨.ro, F.RST_STAT_CLKQ, 0, 1⟩, ⟨.ro, F.RST_STAT_PHYQ, 0, 1⟩, ⟨.ro, F.RST_STAT_DLATCH, 0, 1⟩, ⟨.ro, F.RST_STAT_OVR, 0, 1⟩, ⟨.ro, F.RST_STAT_LAST, 0, 15⟩, ⟨.ro, F.RST_STAT_RSTN, 0, 1⟩]⟩,
  ⟨0x1008, 0x0, 1, [⟨.ro, F.RST_BOOT_SEQ, 0, 65535⟩, ⟨.ro, F.RST_BOOT_COPY, 0, 1⟩, ⟨.ro, F.RST_BOOT_AVAL, 0, 1⟩, ⟨.ro, F.RST_BOOT_BVAL, 0, 1⟩, ⟨.ro, F.RST_BOOT_ATORN, 0, 1⟩, ⟨.ro, F.RST_BOOT_BTORN, 0, 1⟩, ⟨.ro, F.RST_BOOT_USED, 0, 1⟩, ⟨.ro, F.RST_BOOT_SBOOT, 0, 3⟩, ⟨.ro, F.RST_BOOT_SCLK, 0, 3⟩]⟩,
  ⟨0x100C, 0x0, 1, [⟨.wo, F.RST_CMD_RUN_CONFIRM, 0, 1⟩, ⟨.wo, F.RST_CMD_FULLRST, 0, 1⟩, ⟨.wo, F.RST_CMD_DORMANT, 0, 1⟩, ⟨.wo, F.RST_CMD_LEAVE, 0, 1⟩, ⟨.wo, F.RST_CMD_OBOOT, 0, 3⟩, ⟨.wo, F.RST_CMD_OPTLOAD, 0, 1⟩, ⟨.wo, F.RST_CMD_NVBOOT, 0, 1⟩, ⟨.wo, F.RST_CMD_NVSAFE, 0, 1⟩, ⟨.wo, F.RST_CMD_KEY, 0, 65535⟩]⟩,
  ⟨0x1010, 0x0, 1, [⟨.ro, F.RST_NVSTAT_BUSY, 0, 1⟩, ⟨.ro, F.RST_NVSTAT_RES, 0, 3⟩]⟩,
  ⟨0x1014, 0x0, 1, [⟨.rw, F.RST_WDCFG_TMO, 0, 65535⟩]⟩,
  ⟨0x1018, 0x0, 1, [⟨.wo, F.RST_WDKICK_KICK, 0, 4294967295⟩]⟩,
  ⟨0x101C, 0x0, 1, [⟨.ro, F.RST_CLK_DEV, 0, 65535⟩]⟩,
  ⟨0x1020, 0x0, 1, [⟨.w1c, F.RST_STKY_BITS, 0, 16383⟩]⟩,
  ⟨0x1024, 0x0, 1, [⟨.ro, F.RST_GLITCH_COUNT, 0, 16777215⟩, ⟨.w1c, F.RST_GLITCH_SAT, 0, 1⟩]⟩]
def t16_9_1 : List RegRow := [
  ⟨0x1100, 0x4, 32, [⟨.rw, F.RST_OBUF_DATA, 0, 4294967295⟩]⟩]
/-- The registers of Table 16-9 (R482). -/
def t16_9 : List RegRow := t16_9_0 ++ t16_9_1

def t17_8_0 : List RegRow := [
  ⟨0x16000, 0x0, 1, [⟨.rw, F.INT_CFG_AUTO_ADC, 0, 1⟩, ⟨.rw, F.INT_CFG_AUTO_ENG, 0, 1⟩, ⟨.rw, F.INT_CFG_AUTO_ROW, 0, 1⟩, ⟨.rw, F.INT_CFG_ASH_EN, 0, 1⟩, ⟨.rw, F.INT_CFG_WRFRZ, 0, 1⟩]⟩,
  ⟨0x16004, 0x0, 1, [⟨.rw, F.INT_ADCLIM_OFS_LIM, 1, 255⟩, ⟨.rw, F.INT_ADCLIM_GAIN_LIM, 1, 255⟩, ⟨.rw, F.INT_ADCLIM_RES_LIM, 1, 255⟩]⟩,
  ⟨0x16008, 0x0, 1, [⟨.rw, F.INT_AGELIM_RO_LIM, 0, 255⟩, ⟨.rw, F.INT_AGELIM_BG_LIM, 0, 255⟩, ⟨.rw, F.INT_AGELIM_REF_LIM, 0, 255⟩]⟩,
  ⟨0x1600C, 0x0, 1, [⟨.ro, F.INT_STAT_SPADC, 0, 3⟩, ⟨.ro, F.INT_STAT_SPENG, 0, 3⟩, ⟨.ro, F.INT_STAT_SWRUN, 0, 1⟩, ⟨.ro, F.INT_STAT_SWKIND, 0, 3⟩, ⟨.ro, F.INT_STAT_SWTGT, 0, 63⟩, ⟨.ro, F.INT_STAT_QLEN, 0, 7⟩, ⟨.ro, F.INT_STAT_NVBUSY, 0, 1⟩]⟩,
  ⟨0x16010, 0x0, 1, [⟨.w1c, F.INT_STKY_CE, 0, 1⟩, ⟨.w1c, F.INT_STKY_UE, 0, 1⟩, ⟨.w1c, F.INT_STKY_DPMIS, 0, 1⟩, ⟨.w1c, F.INT_STKY_SWAP, 0, 1⟩, ⟨.w1c, F.INT_STKY_SWFAIL, 0, 1⟩, ⟨.w1c, F.INT_STKY_NOSPARE, 0, 1⟩, ⟨.w1c, F.INT_STKY_ROWQ, 0, 1⟩, ⟨.w1c, F.INT_STKY_ROWAPP, 0, 1⟩, ⟨.w1c, F.INT_STKY_BANKX, 0, 1⟩, ⟨.w1c, F.INT_STKY_AGE, 0, 1⟩, ⟨.w1c, F.INT_STKY_MAPDONE, 0, 1⟩, ⟨.w1c, F.INT_STKY_MAPFAIL, 0, 1⟩, ⟨.w1c, F.INT_STKY_MAPTORN, 0, 1⟩, ⟨.w1c, F.INT_STKY_ASHFRZ, 0, 1⟩, ⟨.w1c, F.INT_STKY_REGPAR, 0, 1⟩, ⟨.w1c, F.INT_STKY_HEALTH, 0, 1⟩]⟩,
  ⟨0x16014, 0x0, 1, [⟨.ro, F.INT_CECNT_COUNT, 0, 16777215⟩, ⟨.w1c, F.INT_CECNT_SAT, 0, 1⟩]⟩,
  ⟨0x16018, 0x0, 1, [⟨.ro, F.INT_UECNT_COUNT, 0, 16777215⟩, ⟨.w1c, F.INT_UECNT_SAT, 0, 1⟩]⟩,
  ⟨0x1601C, 0x0, 1, [⟨.ro, F.INT_DPMCNT_COUNT, 0, 16777215⟩, ⟨.w1c, F.INT_DPMCNT_SAT, 0, 1⟩]⟩,
  ⟨0x16020, 0x0, 1, [⟨.ro, F.INT_CEADDR_WORD, 0, 262143⟩, ⟨.ro, F.INT_CEADDR_SYM, 0, 15⟩]⟩,
  ⟨0x16024, 0x0, 1, [⟨.ro, F.INT_UEADDR_WORD, 0, 262143⟩, ⟨.ro, F.INT_UEADDR_SYM, 0, 15⟩]⟩]
def t17_8_1 : List RegRow := [
  ⟨0x16028, 0x0, 1, [⟨.ro, F.INT_SCRUB_PASS, 0, 65535⟩]⟩,
  ⟨0x1602C, 0x0, 1, [⟨.ro, F.INT_SLMAP_MAP, 0, 4294967295⟩]⟩,
  ⟨0x16030, 0x0, 1, [⟨.ro, F.INT_ENGMAP_MAP, 0, 4294967295⟩]⟩,
  ⟨0x16034, 0x0, 1, [⟨.wo, F.INT_SWCMD_KIND, 0, 3⟩, ⟨.wo, F.INT_SWCMD_TGT, 0, 63⟩, ⟨.wo, F.INT_SWCMD_LEG, 0, 3⟩, ⟨.wo, F.INT_SWCMD_GO, 0, 1⟩]⟩,
  ⟨0x16038, 0x0, 1, [⟨.ro, F.INT_SWRES_RES, 0, 3⟩]⟩,
  ⟨0x1603C, 0x0, 1, [⟨.wo, F.INT_ROWREQ_WORD, 0, 262143⟩, ⟨.wo, F.INT_ROWREQ_GO, 0, 1⟩]⟩,
  ⟨0x16040, 0x0, 1, [⟨.wo, F.INT_MAPCMD_COMMIT, 0, 1⟩]⟩,
  ⟨0x16044, 0x0, 1, [⟨.ro, F.INT_MAPSTAT_SEQ, 0, 65535⟩, ⟨.ro, F.INT_MAPSTAT_COPY, 0, 1⟩, ⟨.ro, F.INT_MAPSTAT_VALID, 0, 1⟩, ⟨.ro, F.INT_MAPSTAT_RES, 0, 3⟩]⟩,
  ⟨0x16048, 0x0, 1, [⟨.ro, F.INT_TJ_VAL, 0, 65535⟩, ⟨.ro, F.INT_TJ_STATUS, 0, 255⟩]⟩,
  ⟨0x1604C, 0x0, 1, [⟨.ro, F.INT_BGAP_VAL, 0, 65535⟩, ⟨.ro, F.INT_BGAP_STATUS, 0, 255⟩]⟩]
def t17_8_2 : List RegRow := [
  ⟨0x16050, 0x0, 1, [⟨.ro, F.INT_ADCREF_VAL, 0, 65535⟩, ⟨.ro, F.INT_ADCREF_STATUS, 0, 255⟩]⟩,
  ⟨0x16060, 0x4, 8, [⟨.ro, F.INT_RO_DRIFT, 0, 65535⟩, ⟨.ro, F.INT_RO_STATUS, 0, 255⟩]⟩,
  ⟨0x16080, 0x4, 12, [⟨.ro, F.INT_ROWB_USED, 0, 127⟩, ⟨.ro, F.INT_ROWB_FULL, 0, 1⟩, ⟨.ro, F.INT_ROWB_PEND, 0, 127⟩]⟩,
  ⟨0x160C0, 0x0, 1, [⟨.ro, F.INT_HOURS_COUNT, 0, 2147483647⟩, ⟨.ro, F.INT_HOURS_SAT, 0, 1⟩]⟩,
  ⟨0x160C4, 0x0, 1, [⟨.ro, F.INT_PCYC_COUNT, 0, 2147483647⟩, ⟨.ro, F.INT_PCYC_SAT, 0, 1⟩]⟩,
  ⟨0x160C8, 0x0, 1, [⟨.ro, F.INT_WRST_COUNT, 0, 2147483647⟩, ⟨.ro, F.INT_WRST_SAT, 0, 1⟩]⟩,
  ⟨0x160D0, 0x4, 5, [⟨.ro, F.INT_TJB_COUNT, 0, 2147483647⟩, ⟨.ro, F.INT_TJB_SAT, 0, 1⟩]⟩,
  ⟨0x16100, 0x0, 1, [⟨.rw, F.INT_ASHCFG_ASH_PER, 1, 65535⟩, ⟨.rw, F.INT_ASHCFG_ASH_PORTS, 0, 65535⟩]⟩,
  ⟨0x16104, 0x0, 1, [⟨.rw, F.INT_ASHTRIG_T_FTRIP, 0, 1⟩, ⟨.rw, F.INT_ASHTRIG_T_DEVF, 0, 1⟩, ⟨.rw, F.INT_ASHTRIG_T_AXF, 0, 1⟩, ⟨.rw, F.INT_ASHTRIG_T_LOT, 0, 1⟩, ⟨.rw, F.INT_ASHTRIG_T_EVT, 0, 1⟩, ⟨.rw, F.INT_ASHTRIG_EVTNUM, 0, 255⟩, ⟨.rw, F.INT_ASHTRIG_POST, 0, 32767⟩]⟩,
  ⟨0x16108, 0x0, 1, [⟨.wo, F.INT_ASHCMD_ARM, 0, 1⟩, ⟨.wo, F.INT_ASHCMD_TRIG, 0, 1⟩]⟩]
def t17_8_3 : List RegRow := [
  ⟨0x1610C, 0x0, 1, [⟨.ro, F.INT_ASHSTAT_WPTR, 0, 32767⟩, ⟨.ro, F.INT_ASHSTAT_WRAP, 0, 1⟩, ⟨.ro, F.INT_ASHSTAT_TPTR, 0, 32767⟩]⟩,
  ⟨0x16110, 0x0, 1, [⟨.ro, F.INT_ASHTCNT_COUNT, 0, 16777215⟩, ⟨.ro, F.INT_ASHTCNT_CAUSE, 0, 15⟩, ⟨.ro, F.INT_ASHTCNT_STATE, 0, 3⟩, ⟨.w1c, F.INT_ASHTCNT_SAT, 0, 1⟩]⟩]
/-- The registers of Table 17-8 (R507). -/
def t17_8 : List RegRow := t17_8_0 ++ t17_8_1 ++ t17_8_2 ++ t17_8_3

def t14_1_0 : List RegRow := [
  ⟨0x2800, 0x10, 32, [⟨.rw, F.HIF_MTAL_ADDR, 0, 4294967295⟩]⟩,
  ⟨0x2804, 0x10, 32, [⟨.rw, F.HIF_MTAH_ADDR, 0, 4294967295⟩]⟩,
  ⟨0x2808, 0x10, 32, [⟨.rw, F.HIF_MTD_DATA, 0, 4294967295⟩]⟩,
  ⟨0x280C, 0x10, 32, [⟨.rw, F.HIF_MTC_MASK, 0, 1⟩]⟩,
  ⟨0x2A00, 0x4, 2, [⟨.ro, F.HIF_PBA_PEND, 0, 4294967295⟩]⟩]
/-- The registers of Table 14-1 (R394). -/
def t14_1 : List RegRow := t14_1_0

end RegRow

/-- Every register of BAR0. -/
def regTable : List RegRow :=
  RegRow.t1_9 ++ RegRow.t2_6 ++ RegRow.t3_5 ++ RegRow.t3_6 ++ RegRow.t4_6 ++ RegRow.t4_7 ++ RegRow.t5_7 ++ RegRow.t5_8 ++ RegRow.t5_9 ++ RegRow.t6_6 ++ RegRow.t6_7 ++ RegRow.t7_3 ++ RegRow.t8_3 ++ RegRow.t9_9 ++ RegRow.t10_13 ++ RegRow.t10_14 ++ RegRow.t11_7 ++ RegRow.t11_8 ++ RegRow.t12_13 ++ RegRow.t12_14 ++ RegRow.t12_15 ++ RegRow.t13_10 ++ RegRow.t14_12 ++ RegRow.t14_13 ++ RegRow.t15_5 ++ RegRow.t15_6 ++ RegRow.t16_9 ++ RegRow.t17_8 ++ RegRow.t14_1

end Sys2Proof.Machine
end

