-- ==== Sys2Proof/Machine/SMap.lean ====
section
/-! DEFINITION. Sparse maps in one canonical form: a list of (key, value) pairs, keys strictly rising, no entry equal to
what an unlisted key reads as (`d`). SRAM, NVM and the register fields are held so; equal contents are equal lists. -/

namespace Sys2Proof.Machine

variable {β : Type}

/-- The value at key `k`, `d` where none is listed. -/
def SMap.get (d : β) : List (Nat × β) → Nat → β
  | [], _ => d
  | (j, v) :: m, k => if j = k then v else SMap.get d m k

/-- Removes every entry of key `k`. -/
def SMap.erase : List (Nat × β) → Nat → List (Nat × β)
  | [], _ => []
  | (j, v) :: m, k => if j = k then SMap.erase m k else (j, v) :: SMap.erase m k

/-- Inserts an entry before the first greater key. -/
def SMap.ins : List (Nat × β) → Nat → β → List (Nat × β)
  | [], k, v => [(k, v)]
  | (j, w) :: m, k, v => if k < j then (k, v) :: (j, w) :: m else (j, w) :: SMap.ins m k v

/-- Writes `v` at key `k`; a value equal to the default removes the entry. -/
def SMap.set [DecidableEq β] (d : β) (m : List (Nat × β)) (k : Nat) (v : β) : List (Nat × β) :=
  if v = d then SMap.erase m k else SMap.ins (SMap.erase m k) k v

/-- The canonical form: keys strictly rising, no entry equal to the default. -/
def SMap.wf [DecidableEq β] (d : β) : List (Nat × β) → Bool
  | [] => true
  | [(_, v)] => decide (v ≠ d)
  | (j, v) :: (k, w) :: m => decide (v ≠ d) && decide (j < k) && SMap.wf d ((k, w) :: m)

end Sys2Proof.Machine
end

