-- ==== Sys2Proof/Machine/State.lean ====
section
/-! DEFINITION. The state of the VT1614 as plain data: everything the spec gives the device. Every register field of the
register tables lives in `fields` (see Machine/Regs.lean and Machine/Ops.lean); the structures below hold what the rules
give the device beside its registers: timers, counters inside engines, histories, queues, pin levels. -/

namespace Sys2Proof.Machine

/-- Why a step stops with a fault. No meaning raises one: the spec gives every command of this block an effect or lets
the device ignore it (see NOTES.md, Stops). The one constructor names a state no run reaches and is SAFE. -/
inductive Fault where
  /-- never raised; it keeps the type inhabited -/
  | unreachable
deriving DecidableEq, Repr, Inhabited

/-- Why a command has no meaning. -/
inductive Refusal where
  /-- raised by a dispatch arm whose meaning is not written; SAFE, the model stops -/
  | notModelled (mnemonic : String)
deriving DecidableEq, Repr, Inhabited

/-! ### What leaves the device -/

/-- What an observer outside the package sees beside levels: written records and words, messages, frames, edges, and
the words that reads return. Newest first in `State.outbox`. -/
inductive Output where
  /-- a record written into D2H ring `ring` (R407), its first unit at host address `addr` (R398) -/
  | record (ring : Nat) (addr : Nat) (bytes : List Byte)
  /-- the status-block word of ring `ring` (R400) -/
  | statusWord (ring : Nat) (addr : Nat) (word : Nat)
  /-- an MSI-X message of a vector (R414) -/
  | msix (vec : Nat) (addr : Nat) (data : Nat)
  /-- the words a read returned over a path -/
  | readWords (path : Path) (words : List Nat)
  /-- the bytes of an SPI response from STATUS on (R418) -/
  | spi (bytes : List Byte)
  /-- a 16-byte record on the Angle Stream lanes (R276) -/
  | stream (bytes : List Byte)
  /-- a chain frame on `CHN_OP`/`CHN_ON`: its data bytes and CRC (R423) -/
  | chain (bytes : List Byte)
  /-- a mirror frame sent on the twin link (R437) -/
  | mirror (bytes : List Byte)
  /-- a CAN frame whose transmission ended (R378): controller, identifier word, control word, data -/
  | can (ctrl : Nat) (hdr0 hdr1 : Nat) (data : List Byte)
  /-- edges of an encoder output in one window: output, instants (2.5 ns units into the window) with levels Z:B:A -/
  | edges (out : Nat) (at' : List (Nat × Nat))
  /-- a pulse or level change on a ball: name code, level, instant -/
  | ball (name : String) (level : Nat) (t : Nat)
deriving DecidableEq, Repr, Inhabited

/-! ### Chapter 1: staging and snapshots -/

/-- What a staged write changes (R37, R403): a register, or a word of SRAM. -/
inductive Target where
  | reg (addr : Nat)
  | sram (off : Nat)
deriving DecidableEq, Repr, Inhabited

/-- One write in the staging set; `did` numbers the SRAMWR descriptor it came with. -/
structure StagedItem where
  tgt : Target
  value : Nat
  did : Option Nat
deriving DecidableEq, Repr, Inhabited

/-- The groups of a commit (R40, R403). -/
inductive Group where
  | port (n : Nat)
  | exc | div | emu | gey | vnt | tmp | can0 | can1 | chn | twn | int
  /-- registers the order of R40 does not name: an observer instance that serves no port -/
  | rest
  | sram
deriving DecidableEq, Repr, Inhabited

/-- A committed set that the device is applying (R39 to R43). -/
structure Commit where
  /-- the instant it reached the device -/
  at' : Nat
  /-- groups still to be applied, in the order of R40 -/
  groups : List (Group × List StagedItem)
  /-- EPOCH of the first boundary that applied a group -/
  first : Option Nat
deriving DecidableEq, Repr, Inhabited

/-! ### Chapter 14: host interface -/

/-- What a deferred completion waits for (R402). -/
inductive Await where
  | commitDone
  | words (did left refused : Nat)
  | fence
  /-- the last ASH record of the ring -/
  | ash
deriving DecidableEq, Repr, Inhabited

/-- A completion that an executed descriptor still owes (R402). -/
structure Deferred where
  ring : Nat
  op : Nat
  tag : Nat
  cmpl : Bool
  wait : Await
  /-- result and VALUE once known, and the instant that fixed them -/
  ready : Option (Nat × Nat)
  doneAt : Nat := 0
deriving DecidableEq, Repr, Inhabited

/-- An interrupt vector (R414): causes since its last message, the instant of the first of them, its PBA bit is a
register. -/
structure VecSt where
  causes : Nat := 0
  first : Nat := 0
deriving DecidableEq, Repr, Inhabited

/-- The host link beside its registers: PCI Express configuration bits, the heartbeat watchdog, an SPI frame. -/
structure HostSt where
  /-- MSI-X enable bit and function mask bit of configuration space -/
  msixEn : Bool := false
  msixMask : Bool := false
  /-- subsystem vendor and system IDs (Table 14-1) -/
  ssid : Nat := 0
  maxPayload : Nat := 0
  maxRead : Nat := 2
  /-- the link is released and may train; it is up -/
  released : Bool := false
  up : Bool := false
  /-- link training may start (R395): instant of release -/
  relAt : Nat := 0
  vecs : Vector VecSt 32 := Vector.replicate 32 {}
  deferred : List Deferred := []
  /-- completions and ASH records that wait for room: H2D ring or 32 for ASH, D2H ring, bytes -/
  owed : List (Nat × Nat × List Byte) := []
  /-- number of the next SRAMWR descriptor -/
  nextDid : Nat := 0
  /-- rings whose later descriptors wait for a fence -/
  fences : List Nat := []
  /-- heartbeat: running, instant of its last restart, expired and in effect -/
  hbRun : Bool := false
  hbAt : Nat := 0
  hbExp : Bool := false
  /-- instant of the last TIME records, plus 1 -/
  lastTime : Nat := 0
deriving DecidableEq, Repr, Inhabited

/-! ### Chapters 2 to 5: a port's analog chain, its carrier, its observer -/

/-- The lead monitor, range changes and line checks of a port (chapter 2). -/
structure PortSt where
  /-- pending range of each input with the instant from which no crossing is waited for (R64, R65) -/
  pendS : Option (Nat × Nat) := none
  pendC : Option (Nat × Nat) := none
  /-- the next sample carries the tag RNG (R63) -/
  rngS : Bool := false
  rngC : Bool := false
  /-- samples still to carry the tag RNGI (R64) -/
  immS : Nat := 0
  immC : Nat := 0
  /-- largest absolute sample of each input in this carrier period (R68) -/
  pkS : Nat := 0
  pkC : Nat := 0
  /-- carrier periods in succession at or below 80 % of the next lower full scale -/
  low : Nat := 0
  /-- next ball of the lead monitor -/
  ball : Nat := 0
  /-- consecutive sets that met, and that did not meet, the condition of each fault bit (R70) -/
  hits : Vector Nat 13 := Vector.replicate 13 0
  miss : Vector Nat 13 := Vector.replicate 13 0
  /-- instant of the last change of role (R71), and whether there was one -/
  roleAt : Option Nat := none
  /-- winding test (R72): stepped pair while running (0 sine, 1 cosine), its start, baseline, readings of the last 50 ms -/
  wPair : Nat := 0
  wStart : Nat := 0
  wBase : Int := 0
  wSum : Int := 0
  wCnt : Nat := 0
  /-- instant the checks of the stepped pair resume -/
  wUntil : Option Nat := none
  /-- failures in succession, instant of the last test -/
  wFails : Nat := 0
  wLast : Nat := 0
  /-- consecutive samples (pairs SN, CS) and readings (AX) below the line level (R79) -/
  lineS : Nat := 0
  lineC : Nat := 0
  lineX : Nat := 0
deriving DecidableEq, Repr, Inhabited

/-- A change of amplitude under way: from and to (2⁻¹⁶ mVrms), start instant, length in STIME units. -/
structure Ramp where
  src : Int
  dst : Int
  t0 : Nat
  len : Nat
deriving DecidableEq, Repr, Inhabited

/-- The carrier oscillator, the driver and the phase estimate of a port (chapter 3). -/
structure ExcSt where
  /-- NCO runs; it starts at the next sample, which has the phase below (R83); its phase (BAM32), remainder accumulator,
  the PHOFS last applied (R82, R83) -/
  nco : Bool := false
  fresh : Bool := false
  /-- the step to this sample passed phase 0 (R111, R119) -/
  wrap : Bool := false
  ph : Nat := 0
  racc : Nat := 0
  ofs : Nat := 0
  /-- effective frequency in force, mHz -/
  freq : Nat := 9000000
  /-- pending frequency and amplitude changes (R92) -/
  reqF : Option Nat := none
  reqA : Option Nat := none
  /-- Vent overrides (R301) -/
  vFreq : Option Nat := none
  vAmp : Option Nat := none
  /-- amplitude now (2⁻¹⁶ mVrms), target in force (mVrms), ramp under way -/
  amp : Int := 0
  target : Nat := 0
  ramp : Option Ramp := none
  /-- a change window runs (R91); phase advance left until its end, BAM; instant the soft start began -/
  win : Bool := false
  left : Nat := 0
  softAt : Nat := 0
  /-- a frequency change is in this window: the estimate tracks with factor ½ (R98) -/
  fast : Bool := false
  /-- the plan change this port still has to start (R96) -/
  mixed : Bool := false
  /-- both drivers held off until this instant after a change of mode (R54) -/
  hold : Nat := 0
  /-- PH_EST (BAM32), whether VALID, instant of its last update -/
  phEst : Nat := 0
  phVal : Bool := false
  phAt : Nat := 0
  phStale : Bool := false
  /-- the crossing that begins the soft start or the stop has passed -/
  begun : Bool := false
  /-- initial results of a soft start with the ends of their periods, newest first -/
  avgL : List (Nat × Nat) := []
  /-- periods left of a PH_REACQ, sum and number of its results -/
  reOn : Bool := false
  reacq : Nat := 0
  reSum : Int := 0
  reN : Nat := 0
  /-- consecutive periods beyond PH_JMP, below IOPEN, with current limit -/
  jump : Nat := 0
  openN : Nat := 0
  limN : Nat := 0
  /-- the current limit acted in this period -/
  limNow : Bool := false
  /-- accumulators of the carrier period (R97): angle-referenced I, Q; initial I, Q of each winding; samples used,
  samples of them for which the observer qualified -/
  accI : Int := 0
  accQ : Int := 0
  sI : Int := 0
  sQ : Int := 0
  cI : Int := 0
  cQ : Int := 0
  used : Nat := 0
  refd : Nat := 0
  /-- the supply falls short of the amplitude (R88) -/
  short : Bool := false
  /-- far-end regulation: drive above AMP in 2⁻¹⁶ (R101) -/
  reg : Nat := 0
  /-- DAC codes of the eight 40 MHz points from the newest sample on, while the driver drives (R84) -/
  wave : List Int := []
  /-- lock to the partner's carrier (R105): periods below and above the error limits, correction of the increment -/
  good : Nat := 0
  bad : Nat := 0
  trim : Int := 0
  /-- consecutive averages of each leg above the wear limit (R103) -/
  legN : Vector Nat 4 := Vector.replicate 4 0
  /-- a retirement waits for its crossing: leg, instant of the notice -/
  retire : Option (Nat × Nat) := none
  /-- the takeover crossing is awaited: t_TK, and whether this device becomes active (R448) -/
  take : Option (Nat × Bool) := none
  /-- index of the sample of the last period end -/
  perAt : Nat := 0
deriving DecidableEq, Repr, Inhabited

/-- A normalized sample of both inputs with its tags and the NCO phase of its instant (R60, R111). -/
structure Samp where
  xs : Int := 0
  xc : Int := 0
  /-- blanked (R115) -/
  bs : Bool := false
  bc : Bool := false
  /-- tag RNG of each input; the NCO passed phase 0 since the sample before -/
  rngS : Bool := false
  rngC : Bool := false
  per : Bool := false
  ph : Nat := 0
  /-- drive amplitude of the port at the sample, µV peak (R120) -/
  amp : Int := 0
  /-- SETTLING, DEGRADED and HOLDOVER of the sample -/
  sett : Bool := false
  deg : Bool := false
  hold : Bool := false
deriving DecidableEq, Repr, Inhabited

/-- One input of the decimation chain: three integrators, three comb stores (R129). -/
structure Cic where
  i1 : Int := 0
  i2 : Int := 0
  i3 : Int := 0
  z1 : Int := 0
  z2 : Int := 0
  z3 : Int := 0
deriving DecidableEq, Repr, Inhabited

/-- Couplings of one neighbour onto both inputs (a and b of R120), in 2⁻³² ppm. -/
structure Coup where
  sa : Int := 0
  sb : Int := 0
  ca : Int := 0
  cb : Int := 0
deriving DecidableEq, Repr, Inhabited

/-- The acquisition chain of a port (chapter 4). Signals after stage 4 are held in 2⁻⁸ µV. -/
structure AcqSt where
  /-- the last seven normalized samples, newest first -/
  hist : List Samp := []
  /-- last output and last unblanked sample of each input (R116, R117), µV -/
  outS : Int := 0
  outC : Int := 0
  goodS : Int := 0
  goodC : Int := 0
  /-- stage-4 outputs in µV, newest first -/
  s4S : List Int := []
  s4C : List Int := []
  /-- DC estimates, 2⁻⁸ µV; whether a first result was loaded (R119) -/
  mS : Int := 0
  mC : Int := 0
  mLdS : Bool := false
  mLdC : Bool := false
  /-- demodulated samples, newest first (R128) -/
  dS : List Int := []
  dC : List Int := []
  /-- notch outputs of the newest sample -/
  yS : Int := 0
  yC : Int := 0
  /-- there is a notch output at this sample; its tags and status -/
  has : Bool := false
  blank : Bool := false
  held : Bool := false
  rng : Bool := false
  ySett : Bool := false
  yDeg : Bool := false
  yHold : Bool := false
  /-- stage-4 outputs since one with SETTLING, DEGRADED, HOLDOVER, of each input with the tag HELD, with BLANK or HELD, and
  since a pre-notch output that was settling -/
  sSett : Nat := 0
  sDeg : Nat := 0
  sHold : Nat := 0
  sHeldS : Nat := 0
  sHeldC : Nat := 0
  sBHs : Nat := 0
  sBHc : Nat := 0
  sPre : Nat := 0
  /-- notch settling and pre-notch settling left, in samples (R128, R129) -/
  setN : Nat := 0
  setP : Nat := 0
  /-- frequency (mHz), notch mode and median code in force, to find the sample a change acts from -/
  fIn : Nat := 0
  mode : Nat := 0
  med : Nat := 1
  /-- MINPHASE filter stores in 2⁻³² µV, four for each input: the last two outputs of the first biquad, then of the second -/
  mp : Vector Int 8 := Vector.replicate 8 0
  /-- samples in the pre-notch's history since its restart -/
  pre : Nat := 0
  cicS : Cic := {}
  cicC : Cic := {}
  /-- last 64 CIC outputs, newest first -/
  coS : List Int := []
  coC : List Int := []
  /-- index of the sample of the last restart of the decimator; a gap runs since then (R136, R137); what the coming sample
  has to report: 1 a restart, 2 a synchronising reset (R138) -/
  rst : Nat := 0
  gap : Bool := false
  note : Nat := 0
  /-- index of the sample of the last output -/
  lastOut : Option Nat := none
  /-- outputs delivered in the fade under way, and its length F (0 none); its set -/
  fadeI : Nat := 0
  fadeF : Nat := 0
  fadeS : Nat := 0
  /-- taps of the path in force (R135) -/
  ntaps : Nat := 8
  /-- consecutive outputs beyond and within each envelope bound (R140) -/
  hiN : Nat := 0
  hiOk : Nat := 0
  loN : Nat := 0
  loOk : Nat := 0
  /-- the last VALID envelope, µV (R149) -/
  env : Nat := 0
  envOk : Bool := false
  /-- the last decimated output, µV, and the instant of its newest sample -/
  oS : Int := 0
  oC : Int := 0
  oAt : Nat := 0
  /-- RANG and velocity at that sample, for the Ash record -/
  oObs : Nat × Nat := (0, 0)
  oSett : Bool := false
  oDeg : Bool := false
  /-- outputs since the last DEC record -/
  recN : Nat := 0
  xc : Vector Coup 16 := Vector.replicate 16 {}
  /-- largest absolute normalized samples since `PK_CLR` (R142) -/
  pkS : Nat := 0
  pkC : Nat := 0
deriving DecidableEq, Repr, Inhabited

/-- An observer engine (chapter 5): state of R152, timers and runs, turn and index, confidence. -/
structure ObsSt where
  /-- angle in 2⁻⁴⁸ turn, velocity in 2⁻³² rev/s, acceleration in 2⁻¹⁶ rev/s² -/
  th : Int := 0
  w : Int := 0
  a : Int := 0
  /-- instant of the newest measurement that entered by an update (R172); none since reset -/
  upd : Option Nat := none
  /-- FRESH of the outputs (R30) at the newest sample -/
  fresh : Bool := false
  /-- D_obs in force, STIME units (R157) -/
  dObs : Nat := 0
  /-- unusable run, usable run, in-band run, run beyond LOT_TH -/
  coast : Nat := 0
  usable : Nat := 0
  lock : Nat := 0
  lot : Nat := 0
  /-- runs below and at or above the loss level (R166) -/
  losN : Nat := 0
  losOk : Nat := 0
  midx : Nat := 0
  turn : Int := 0
  /-- TURN and MIDX to load at the next sample (R169) -/
  mset : Option (Nat × Nat) := none
  /-- the newest error in 2⁻⁴⁸ turn, whether it is one of this sample, the predicted angle (BAM32) and MIDX it was formed with -/
  e : Int := 0
  ok : Bool := false
  pred : Nat := 0
  predMi : Nat := 0
  /-- squares of the last 5000 usable errors, 2⁻⁹⁶ turn², newest first, and their sum (R176) -/
  sq : List Nat := []
  sqSum : Nat := 0
  /-- SETTLING, DEGRADED, HOLDOVER of the newest input, ERA of the sample -/
  sett : Bool := false
  deg : Bool := false
  hold : Bool := false
  era : Bool := false
  /-- instant t_k of the state -/
  tk : Nat := 0
  /-- accepted gains before the limit, binary32, and their bandwidth in mHz (R153, R154); limit in force, mHz (R155) -/
  b1 : Nat := 0
  b2 : Nat := 0
  b3 : Nat := 0
  bw : Nat := 0
  lim : Nat := 0
  /-- consecutive datapath mismatches; mismatches and start of the running one-second window (R490) -/
  misRun : Nat := 0
  misCnt : Nat := 0
  /-- the engine has failed hard and stays in LOT (R490) -/
  dead : Bool := false
  misAt : Nat := 0
deriving DecidableEq, Repr, Inhabited

/-- The diverse angle path of a port (R177 to R182, R538). -/
structure DivSt where
  /-- θ_d (BAM32), ω_d and ω_f (2⁻³² rev/s) -/
  th : Nat := 0
  wd : Int := 0
  wf : Int := 0
  /-- VALID outputs in succession, sum of their differences (BAM) -/
  run : Nat := 0
  sum : Int := 0
  /-- outputs without SETTLING in succession (R160) -/
  clean : Nat := 0
  /-- instant of the newest sample of θ_d, and its delay -/
  at' : Nat := 0
  dd : Nat := 0
  /-- the restart of the decimator that the speed has seen -/
  rst : Nat := 0
  /-- consecutive compared outputs beyond and within limits; the last output was compared -/
  outN : Nat := 0
  inN : Nat := 0
  cmp : Bool := false
  /-- the engine was in TRACK or COAST at the last output, ω_f is loaded -/
  trk : Bool := false
  /-- an output has come since the start of the mode -/
  any : Bool := false
deriving DecidableEq, Repr, Inhabited

/-- The background calibration of one slice (R113, R114): correction of offset (2⁻⁸ LSB) and gain (10⁻⁶). -/
structure CalSt where
  off : Int := 0
  gain : Int := 0
deriving DecidableEq, Repr, Inhabited

/-- The sums of a calibration step (R113) over the samples since its start: the calibrating spare's code x (corrected,
2⁻⁸ LSB) and the slice's code y; in the spare's own step the sums of its codes at 0 V, +0.9 and −0.9 of full scale. -/
structure CalAcc where
  /-- the spare, 0 or 1; samples -/
  sp : Nat := 0
  n : Nat := 0
  x : Int := 0
  y : Int := 0
  xx : Int := 0
  xy : Int := 0
  yy : Int := 0
  r0 : Int := 0
  rp : Int := 0
  rm : Int := 0
deriving DecidableEq, Repr, Inhabited

/-- What a completed learning cycle leaves for its end (R193): samples, sums of e cos and e sin for k = 1 to 32 (2⁻⁷⁸),
sum of w (2⁻³² rev/s). -/
structure LrnSum where
  n : Nat := 0
  re : List Int := List.replicate 32 0
  im : List Int := List.replicate 32 0
  w : Int := 0
deriving DecidableEq, Repr, Inhabited

/-- Online learning of a port (chapter 6) beside its SRAM region. Estimates are numbered 0 o_s, 1 o_c, 2 r, 3 q, then
4 + 2 (k − 1) a_k and 5 + 2 (k − 1) b_k. -/
structure LrnSt where
  /-- cycle in progress, its direction, its sums; the gains and the corrections in force it runs under -/
  cyc : Bool := false
  fwd : Bool := true
  sum : LrnSum := {}
  gk : Nat × Nat × Nat := (0, 0, 0)
  inf : List Nat := []
  /-- table angle of the last sample -/
  φ : Option Nat := none
  /-- a completed cycle that waits for its end -/
  fin : Option LrnSum := none
  /-- last measurement and σ² (2⁻¹⁶ units²) of each estimate, n_g of the groups -/
  prev : List (Option Int) := List.replicate 68 none
  sig : List Nat := List.replicate 68 0
  ng : List Nat := [0, 0, 0, 0]
  /-- an accepted cycle or a load has come; instant of the last accepted cycle -/
  any : Bool := false
  accAt : Option Nat := none
  /-- instant of the last update of the applied set; the boundary that applies APPLY updates at once (R198) -/
  aplAt : Nat := 0
  aplNow : Bool := false
  /-- a load from NVM waits for the next boundary (R205) -/
  load : Bool := false
  /-- `LRNn_EOS` to `LRNn_GEN` as they stood at the last boundary (R207) -/
  shown : List Nat := []
deriving DecidableEq, Repr, Inhabited

/-- One decoding path of a port in DIGITAL mode (chapter 7, R231). -/
structure DfbPath where
  /-- filtered levels -/
  a : Bool := false
  b : Bool := false
  z : Bool := false
  /-- count within the cycle and measuring counter (R213) -/
  pos : Nat := 0
  cnt : Int := 0
  /-- illegal transitions in this window (R215), one of them since the last clear, live loss -/
  ill : Nat := 0
  illNew : Bool := false
  qloss : Bool := false
  /-- reference found; the gate condition held in the last cycle; count at the last index; ZMISS may be set again -/
  zfound : Bool := false
  gate : Bool := false
  lastIdx : Int := 0
  zarm : Bool := false
  /-- DEGRADED after a line loss (R221) -/
  degr : Bool := false
  /-- Hall: filtered code seen last, last legal sector (7 none), position without offset (BAM32), the position is a centre -/
  hCode : Option Nat := none
  hSec : Nat := 7
  hPos : Nat := 0
  hCen : Bool := true
  /-- serial: position, latch instant, whether any, sensor error and warning -/
  sPos : Nat := 0
  tf : Nat := 0
  sAny : Bool := false
  sErr : Bool := false
  sWarn : Bool := false
deriving DecidableEq, Repr, Inhabited

/-- The decoder of a port. -/
structure DfbSt where
  p0 : DfbPath := {}
  p1 : DfbPath := {}
  /-- samples since the port restart, and samples into the window of R215 -/
  smp : Nat := 0
  win : Nat := 0
  /-- first clock edge of the frame that runs, instant before which no request is made (R226, R229) -/
  tr : Nat := 0
  recover : Nat := 0
  /-- a frame is asked for at this instant (R223); LINE_SN or LINE_CS was live at the last sample -/
  req : Option Nat := none
  low : Bool := false
  /-- the last frame was clocked by the partner (R230) -/
  mon : Bool := false
  /-- `DFBn_POS` to `DFBn_MTH` as the newest sample left them (R232) -/
  shown : List Nat := []
deriving DecidableEq, Repr, Inhabited
/-- An encoder emulation output (chapter 8) beside its registers. -/
structure EmuSt where
  /-- internal state: 0 OFF, 1 WAIT, 2 RUN, 3 FROZEN, 5 FAULT; STANDBY is what the role makes of it (R248) -/
  st : Nat := 0
  /-- P in 2⁻³² counts modulo 2⁶⁴, the target count of the last sample modulo 2³² -/
  p : Nat := 0
  tgt : Nat := 0
  cq : Nat := 0
  /-- projected α of the last sample, `LINES` of the last alignment -/
  α : Nat := 0
  lines : Nat := 1024
  /-- a realignment is asked for: at the next sample in RUN, at the next sample in any state, at the return from the freeze -/
  align : Bool := false
  chg : Bool := false
  back : Bool := false
  rearm : Bool := false
  /-- last edge on A or B, in 2.5 ns units from the start of this sample's window -/
  last : Int := -1000
  /-- instant of the latest Geyser firing while Z is 1; firings (true) and edges that come after the newest sample (R244) -/
  zAt : Option Nat := none
  zev : List (Nat × Bool) := []
  /-- levels of A and B, and of Z, at the entry to FROZEN (R245) -/
  held : Nat × Bool := (0, false)
deriving DecidableEq, Repr, Inhabited

/-- A commitment of a slot (R259, R260): its instant, whether the firing is on time (0), late (1) or of a missed target
(2), and the entry it fires under where the slot has got a new one since (R273). -/
structure Commitment where
  at' : Nat := 0
  kind : Nat := 0
  words : Option (List Nat) := none
deriving DecidableEq, Repr, Inhabited

/-- A Geyser slot beside its SRAM entry (chapter 9). -/
structure SlotSt where
  /-- code of Table 9-3; the state before HELD -/
  st : Nat := 0
  frm : Nat := 1
  com : Option Commitment := none
  /-- a commitment under the entry before the last change (R273) -/
  keep : Option Commitment := none
  /-- the next evaluation is a recording evaluation; ψ of the last FRESH evaluation -/
  first : Bool := true
  ψ : Nat := 0
  /-- target in force and last target, BAM32; next instant of a PERIOD slot -/
  tgt : Nat := 0
  base : Nat := 0
  next : Nat := 0
  /-- predicted instant; instant of the last firing -/
  pred : Option Nat := none
  fired : Nat := 0
  /-- the angle is not FRESH; it was not VALID at some sample of the gap; a re-arming waits for a locked commitment -/
  gap : Bool := false
  lost : Bool := false
  reArm : Bool := false
  late : Bool := false
  miss : Bool := false
  cnt : Nat := 0
  edges : Nat := 0
  /-- the entry in force acts from this instant on; until then an EDGE or CHAIN slot goes on under the words and the count
  of the one before (R273) -/
  armAt : Option Nat := none
  old : Option (List Nat × Nat) := none
deriving DecidableEq, Repr, Inhabited

/-- A PWM sync input: level, last rising edge since `EN` became 1, start of the loss timer (R269). -/
structure PwmsSt where
  lvl : Bool := false
  rise : Option Nat := none
  base : Nat := 0
deriving DecidableEq, Repr, Inhabited

/-- A GTRIG output: the pulse under way ends then; end of the last pulse (R271). -/
structure GtSt where
  low : Option Nat := none
  high : Option Nat := none
deriving DecidableEq, Repr, Inhabited

/-- The Angle Stream (R276, R278): queue of (class 0 FIRE, 1 TIME, 2 SAMPLE; bytes), oldest first; start of driving;
first TIME record sent; end of the record on the lanes. -/
structure StreamSt where
  q : List (Nat × List Byte) := []
  drive : Option Nat := none
  began : Bool := false
  busy : Nat := 0
deriving DecidableEq, Repr, Inhabited

/-- What the previous sample left of an engine, for instants before t_k + 200 ns (R537): its state, the state code, the
unknown bits of MIDX and TURN. -/
structure ObsOld where
  o : ObsSt := {}
  st : Nat := 0
  mu : Bool := false
  tu : Bool := false
deriving DecidableEq, Repr, Inhabited

/-- A start of a Vent engine (Table 10-3): source 0 host, 1 Geyser, 2 period; slot; argument; entry address; t_0. -/
structure VStart where
  src : Nat := 0
  slot : Nat := 0
  arg : Nat := 0
  entry : Nat := 0
  t0 : Nat := 0
deriving DecidableEq, Repr, Inhabited

/-- What a waiting engine waits for (Table 10-7, ZWAIT). -/
inductive VWait where
  | delay (until' : Nat)
  | instant (t : Nat)
  | angle (target port : Nat) (rev : Bool) (asel : Nat)
  | event (e : Nat)
  | zero (port : Nat)
deriving DecidableEq, Repr, Inhabited

/-- A Vent engine beside its registers (chapter 10). -/
structure VntSt where
  /-- instant at which the next instruction issues -/
  due : Nat := 0
  /-- the start of the activation, a pending one; the instants at which requests brought them about (R287) -/
  start : VStart := {}
  pend : Option VStart := none
  acc : Option Nat := none
  pacc : Option Nat := none
  /-- the last store to the private data area: its word in the region, its instant (R299) -/
  stAt : Option (Nat × Nat) := none
  budget : Nat := 0
  /-- the wait, its issue, the event it waits for, the instant its condition was met; last FRESH angle of an ANGLE wait -/
  wait : Option VWait := none
  issued : Nat := 0
  waitEv : Option Nat := none
  met : Option Nat := none
  ψ : Option Nat := none
  /-- latches of the window: upper half of STIME; observer groups by port -/
  hi : Nat := 0
  grp : List (Nat × List Nat) := []
  /-- the pending PULSE: outputs, instant -/
  pulse : Option (Nat × Nat) := none
  /-- selected message object -/
  sel : Nat := 0
  /-- last scheduled instant of the period timer that was taken -/
  per : Option Nat := none
deriving DecidableEq, Repr, Inhabited

/-- A diagnostic injection (R302) and the last result. -/
structure InjSt where
  run : Bool := false
  port : Nat := 0
  kind : Nat := 0
  total : Nat := 0
  /-- samples since the issue; consecutive inputs beyond the bound; instant of the first sample -/
  smp : Nat := 0
  cnt : Nat := 0
  at' : Nat := 0
  done : Bool := false
  pass : Bool := false
  dec : Nat := 0
deriving DecidableEq, Repr, Inhabited

/-- The settings of a temperature channel that act by a swap (R315). -/
structure TmpSet where
  en : Bool := false
  wire : Nat := 2
  step : Nat := 12
  rref : Nat := 2
  aset : Nat := 100
  pins : List Nat := [0, 0, 0, 0]
deriving DecidableEq, Repr, Inhabited

/-- A temperature channel (chapter 11). -/
structure TmpSt where
  /-- settings in force; the configuration checked last was refused by itself (R311) -/
  set : TmpSet := {}
  own : Bool := false
  /-- request queue: none is ADV, some is CHG with its settings -/
  q : List (Option TmpSet) := []
  /-- 0 idle, 1 pre-driving, 2 in a phase; the phase 0 to 3 -/
  st : Nat := 0
  ph : Nat := 0
  /-- start of the slot, of the phase, of the pre-drive -/
  slot : Nat := 0
  start : Nat := 0
  drive : Nat := 0
  /-- filter outputs since the slot start; sum (2⁻²¹ · 625⁻³) and number of the settled ones -/
  outs : Nat := 0
  sum : Int := 0
  cnt : Nat := 0
  /-- ratios of the phases taken, 2⁻⁴⁰, newest first; compliance, open sense lines, in any phase -/
  r : List Int := []
  cmpl : Bool := false
  sopen : Bool := false
  /-- this phase is extended; one was in this frame; longest phase of this sequence, µs -/
  ext : Bool := false
  exts : Bool := false
  long : Nat := 0
deriving DecidableEq, Repr, Inhabited

/-- The order-3 sinc filter of a temperature slice (R314): three integrators, and the third one's values at the last three
instants of the slot's 125 µs grid, newest first. -/
structure SincSt where
  i1 : BitVec 64 := 0
  i2 : BitVec 64 := 0
  i3 : BitVec 64 := 0
  old : List (BitVec 64) := [0, 0, 0]
deriving DecidableEq, Repr, Inhabited

/-- What a source pair does (R310, R313, R319): the ball and the current in µA of source A and of source B, where each is
on; the ball of the return node and its resistor in Ω; whether the slice's reference inputs are exchanged; its guard: high
impedance, at V_RB, or at the voltage of a ball. -/
structure SrcSt where
  a : Option (Nat × Int) := none
  b : Option (Nat × Int) := none
  ret : Option Nat := none
  rref : Nat := 0
  xchg : Bool := false
  grd : Option (Option Nat) := none
deriving DecidableEq, Repr, Inhabited

/-- The frame of a temperature slice (R309, R316): its start, the delay carried, channels whose slot is to come, the
channel in its slot, a deferred frame start. -/
structure TslSt where
  base : Option Nat := none
  delay : Nat := 0
  todo : Nat := 0
  run : Option Nat := none
  defer' : Option Nat := none
deriving DecidableEq, Repr, Inhabited

/-- What one safety channel keeps of an axis beside its registers (R327 to R338). Speeds in 2⁻⁵⁶ rev/s, positions in 2⁻⁵⁶
turns, both of the axis. -/
structure AxCh where
  /-- state of Table 12-3 and cause of the last fault -/
  st : Nat := 0
  cause : Nat := 0
  v : Int := 0
  /-- speed at the start of SS1, and its instant -/
  v0 : Int := 0
  t0 : Nat := 0
  /-- positions of the two bound ports, their largest and smallest since SDI last became active, the last angles -/
  x : List Int := [0, 0]
  hi : List Int := [0, 0]
  lo : List Int := [0, 0]
  ang : List (Option Nat) := [none, none]
  /-- SDI at the last evaluation (1 forbids negative, 2 positive motion), SLS then; SLS became active at -/
  sdi : Nat := 0
  sls : Bool := false
  slsAt : Nat := 0
  /-- the bound ports disagree since -/
  dis : Option Nat := none
deriving DecidableEq, Repr, Inhabited

/-- Key sequence of an access path (R346): 0 idle, 1 first key written, 2 window open; since. -/
structure KeySt where
  ph : Nat := 0
  at' : Nat := 0
deriving DecidableEq, Repr, Inhabited

/-- A copy of a PDU that waits for its pair (R353): controller, bytes, arrival. -/
structure PduCopy where
  ctrl : Nat
  bytes : List Byte
  at' : Nat
deriving DecidableEq, Repr, Inhabited

/-- A safe connection beside its registers (R348 to R354). -/
structure ConnSt where
  /-- last delivered data, status, sequence number, TS32; the send buffer of a host connection -/
  data : List Byte := List.replicate 16 0#8
  status : Nat := 0
  seq : Nat := 0
  ts : Nat := 0
  buf : List Byte := List.replicate 16 0#8
  /-- copies that wait for their pairs, oldest first; in SINGLE since; last delivery -/
  wait : List PduCopy := []
  single : Nat := 0
  last : Nat := 0
  /-- instant from which the age of the last delivered PDU counts (R30, R351): its generation, with `AGEM` the arrival of
  its first copy -/
  since : Nat := 0
  /-- per controller: generation of the PDU in the object, a waiting PDU with its generation -/
  sent : List (Option Nat) := [none, none]
  next : List (Option (List Byte × Nat)) := [none, none]
  /-- last scheduled generation -/
  gen : Option Nat := none
deriving DecidableEq, Repr, Inhabited

/-- The entry at the head of a host transmit ring, held by its controller (R405). -/
structure CanEntry where
  ring : Nat
  cmpl : Bool
  tag : Nat
  hdr0 : Nat
  hdr1 : Nat
  data : List Byte
  colln : Nat := 0
  /-- cancelled while in transmission -/
  cancel : Bool := false
  /-- its ring was disabled or reset -/
  gone : Bool := false
deriving DecidableEq, Repr, Inhabited

/-- A CAN controller beside its registers and its message memory (chapter 13). -/
structure CanSt where
  /-- mode in force -/
  mode : Nat := 0
  /-- error counters, not limited to 255 -/
  tec : Nat := 0
  rec' : Nat := 0
  /-- the frame in transmission: 0 to 127 an object, 128 the ring entry; its data and start of frame -/
  tx : Option Nat := none
  txData : List Byte := []
  sof : Nat := 0
  entry : Option CanEntry := none
  /-- ring entries still to complete with the result -/
  purge : Nat := 0
  purgeRes : Nat := 0
  /-- recovery from bus-off runs -/
  recov : Bool := false
  /-- `SLEEP` waits for the idle bus; `SLEEP` was written after the last `WAKE` -/
  toSleep : Bool := false
  slept : Bool := false
  /-- bit timing in force: NBT, DBT, TDC words -/
  bt : Nat × Nat × Nat := (0x1F1F7E00, 0x09091C00, 30)
  /-- staged object words that wait for the end of a frame: SRAM offset, value -/
  late : List (Nat × Nat) := []
deriving DecidableEq, Repr, Inhabited


/-- The sync chain beside its registers (chapter 15). Instants are STIME. -/
structure ChnSt where
  /-- the chain input carried a valid frame since `EN` became 1; instant of the last one, or of `EN` -/
  seen : Bool := false
  lastIn : Nat := 0
  /-- LOSS, or RINGOPEN at the head, is live -/
  loss : Bool := false
  /-- an enumeration is asked for; instant of the last one; the TOKEN under way left then -/
  enumDue : Bool := false
  enumAt : Nat := 0
  tokAt : Option Nat := none
  /-- accumulators of the last TOKEN as received: forwarding, weight, zero weights -/
  fUp : Nat := 0
  wUp : Nat := 0
  zUp : Nat := 0
  /-- holdover; consecutive TIME frames within 100 ns; the PLL runs at −200 ppm -/
  hold : Bool := false
  good : Nat := 0
  slew : Bool := false
  /-- commands to act on: instant, code, flags (bit 0 SYNCRST, bit 1 SLOTS) -/
  cmds : List (Nat × Nat × Nat) := []
  /-- the output is taken until; a frame of its own is inserted then -/
  busy : Nat := 0
  ins : Nat := 0
  /-- the last TIME frame was sent for this instant -/
  timeAt : Option Nat := none
  /-- instants t_s of `SYNC_N` edges with `EN` = 0; the end of the pulse on `SYNC_N` -/
  syncs : List Nat := []
  pulse : Nat := 0
  /-- index of the sample of the last synchronising reset -/
  syncK : Option Nat := none
deriving DecidableEq, Repr, Inhabited

/-- The twin link and the drive token beside their registers (chapter 15). -/
structure TwnSt where
  /-- entry to RUN; `TKN_O` is driven low; the heartbeat runs -/
  runAt : Nat := 0
  tko : Bool := false
  /-- claim under way: t_c and whether `TKN_I` was high then; earliest instant of a further claim; first failure since the
  conditions of a claim hold; the first claim of R444 was made -/
  claim : Option (Nat × Bool) := none
  retry : Nat := 0
  failAt : Option Nat := none
  first : Bool := false
  /-- the holder saw `TKN_I` fall -/
  fall : Option Nat := none
  /-- `RELEASE` acted at; own heartbeat still for 1 ms after the device became STANDBY at -/
  relAt : Nat := 0
  hbHold : Option Nat := none
  /-- t_TK of the last takeover; its output enables are still to come: `GTRIG` and stream, encoder outputs -/
  tk : Nat := 0
  gtDue : Bool := false
  emDue : Bool := false
  /-- last edge on `TWHB_I`; the loss was declared: the partner is gone, the wire is broken -/
  hbAt : Nat := 0
  hbGone : Bool := false
  hbWire : Bool := false
  /-- level of `TWHB_O`, and its last edge -/
  hbo : Bool := true
  hbEdge : Nat := 0
  /-- valid frames in succession, end of the last one, HB of it, its `POS` equals this device's -/
  linkN : Nat := 0
  linkAt : Nat := 0
  phb : Bool := false
  conf : Bool := false
  /-- a race was seen in the claim under way -/
  race : Bool := false
  /-- the boundary whose frame is still to be sent, its bytes; sequence, rotation; learning port and part, GEN and image -/
  tb : Option Nat := none
  frm : List Byte := []
  seq : Nat := 0
  rot : Nat := 0
  lp : Nat := 0
  lpart : Nat := 0
  lgen : Nat := 0
  limg : List Byte := []
  /-- frames beyond and within the limits by port; last angle difference (BAM32, signed) and velocity difference (Q16.16) -/
  out : List Nat := List.replicate 16 0
  ok : List Nat := List.replicate 16 0
  diff : List (Int × Int) := List.replicate 16 (0, 0)
  /-- ports whose TURN and MIDX were loaded since their engine entered TRACK -/
  loaded : Nat := 0
  /-- the partner's ports: `STATUS`, observer state; set parts under way: port, GEN, bytes, next part; complete sets -/
  pst : List (Nat × Nat) := List.replicate 16 (0, 0)
  rx : Option (Nat × Nat × List Byte × Nat) := none
  sets : List (Nat × Nat × List Byte) := []
  /-- `STA` of an axis differs from the partner's since -/
  xsta : List (Option Nat) := List.replicate 8 none
deriving DecidableEq, Repr, Inhabited
/-- Reset, clocks and bring-up beside the RST registers (chapter 16). -/
structure RstSt where
  /-- a warm reset is asserted; it ends no earlier than; `RESET_N` or `PERST_N` holds it -/
  warm : Bool := false
  endAt : Nat := 0
  byPin : Bool := false
  byPerst : Bool := false
  /-- start of the bring-up step under way; release of the reset that began this start; entry to RUN -/
  stepAt : Nat := 0
  relAt : Nat := 0
  runAt : Nat := 0
  /-- the next start follows a cold reset: memory initialization zeroes the Ash region and loads the map -/
  cold : Bool := true
  /-- the failed start is shown at the next entry to RUN -/
  fstart : Bool := false
  /-- boot override of the next start (R465): 0 record, 1 host-loaded, 2 stand-alone -/
  ovr : Option Nat := none
  /-- the record in force, and its fields as they count in this start -/
  record : Option (List Byte) := none
  perst : Bool := false
  confirm : Bool := false
  buwd : Nat := 0
  safe : Bool := false
  expCrc : Nat := 0
  /-- the device waits for OPTLOAD (R473) -/
  wait : Bool := false
  /-- bring-up watchdog: runs, since; system watchdog: runs, since -/
  buOn : Bool := false
  buAt : Nat := 0
  wdOn : Bool := false
  wdAt : Nat := 0
  /-- levels of `RESET_N`, `PERST_N`; `RESET_N` is masked; it has been high since -/
  resetN : Bool := true
  perstN : Bool := true
  masked : Bool := false
  highAt : Nat := 0
  /-- both PHY rails are within range (R516) -/
  phyOk : Bool := true
  /-- every engine serving a port in RESOLVER or DIGITAL mode has been in TRACK since (R460) -/
  trackAt : Option Nat := none
  /-- the reference of the core clock has lost qualification: STIME restarts at the next one (R454) -/
  lost : Bool := false
  /-- images of waiting writes of the boot record and the safety image (R480) -/
  imgBoot : List Byte := []
  imgSafe : List Byte := []
deriving DecidableEq, Repr, Inhabited
/-- A swap of Sinter (R492): kind 0 slice, 1 engine, 2 leg; slice or port; leg; whether an engine failed hard. -/
structure Swap where
  kind : Nat := 0
  tgt : Nat := 0
  leg : Nat := 0
  hard : Bool := false
deriving DecidableEq, Repr, Inhabited

/-- The swap under way: its spare, its phase and that phase's instant (a sample index for an engine), whether it is the
retry; the state of a spare engine that runs beside the serving one, once they differ. -/
structure SwapRun where
  sw : Swap := {}
  spare : Nat := 0
  phase : Nat := 0
  at' : Nat := 0
  again : Bool := false
  sh : Option ObsSt := none
deriving DecidableEq, Repr, Inhabited

/-- Sinter, the scrubber, the aging monitors and the Ash record beside the INT registers (chapter 17). -/
structure IntSt where
  /-- requests queued, the swap under way -/
  q : List Swap := []
  run : Option SwapRun := none
  /-- failed slices, failed engines 0 to 15 -/
  badSl : Nat := 0
  badEng : Nat := 0
  /-- slices: cycles in succession with a residual beyond the limit, the last residual was within it -/
  resBad : List Nat := List.replicate 36 0
  resOk : List Bool := List.replicate 36 true
  /-- an update of this calibration cycle was cut short (R114) -/
  calLeft : Bool := false
  /-- samples of a port are degraded after a slice swap until (R493); last swap of slices 34 and 35 -/
  deg : List (Nat × Nat) := []
  tmpSwap : List Nat := [0, 0]
  /-- rows queued (bank, row); spare rows by 64 × bank + spare, as Table 17-3 codes them -/
  rows : List (Nat × Nat) := []
  rowMap : List (Nat × Nat) := []
  /-- start of the pass; words corrected in the last passes: word, symbol, passes in succession -/
  scrubAt : Nat := 0
  hist : List (Nat × Nat × Nat) := []
  /-- a change came while the map was being written; the image that is being written -/
  again : Bool := false
  image : List Byte := []
  /-- start of the running day, and measurements in succession beyond their limits: ring oscillators, bandgap, reference -/
  dayAt : Nat := 0
  age : List Nat := List.replicate 10 0
  /-- consecutive worn legs are counted in the ports; instant of the last leg averages -/
  legAt : List Nat := List.replicate 16 0
  /-- Ash: entry sequence, entries left after the trigger, the freeze waits for its event, instant of the last DEC and
  TIME entries (plus 1) -/
  seq : Nat := 0
  left : Nat := 0
  frz : Bool := false
  decAt : Nat := 0
  timeAt : Nat := 0
deriving DecidableEq, Repr, Inhabited
/-- The test access port (R528): its instruction, and the boundary cells it drives. -/
structure TapSt where
  ir : BitVec 4 := 2#4
deriving DecidableEq, Repr, Inhabited

/-! ### The device -/

/-- The state of one VT1614. -/
structure State where
  /-- STIME at the newest sample instant (R9) -/
  now : Nat := 0
  /-- STIME of the step under way or last taken -/
  t : Nat := 0
  /-- every register field that differs from its cold-reset value: by its key (`Fld.key`), value XOR reset -/
  fields : List (Nat × Nat) := []
  /-- SRAM (BAR2) bytes that differ from 0 -/
  sram : List Host.Cell := []
  /-- NVM bytes that differ from 0xFF -/
  nvm : List Host.Cell := []
  /-- the model's own count of free values drawn -/
  free : Nat := 0
  /-- the STIME wrap after the newest sample has been taken (R10) -/
  wrapped : Bool := false
  /-- the ADC array is released (Table 16-5); index of the next sample since then; its boundary was taken -/
  adcOn : Bool := false
  k : Nat := 0
  bDone : Bool := false
  /-- epoch boundaries fall where (k − kB) is a multiple of 25 (R26); sample s₀ of R130 -/
  kB : Nat := 0
  s0 : Nat := 0
  /-- the staging set in staged order, and whether it has overflowed (R37) -/
  staged : List StagedItem := []
  overflow : Bool := false
  /-- the committed set under way -/
  commit : Option Commit := none
  /-- EPOCH recorded for each source: ports 0 to 15, then the blocks (R42) -/
  epochs : List (Nat × Nat) := []
  /-- snapshot latches: (path class, address) to word (R33, R404) -/
  latches : List (Nat × Nat × Nat) := []
  /-- `OBS_LIM` as it acts: the one of the newest sample instant (Table 1-9) -/
  obsLim : Nat := 500
  prt : Vector PortSt 16 := Vector.replicate 16 {}
  exc : Vector ExcSt 16 := Vector.ofFn fun n => { freq := 9000000 + 150000 * (8 * (n.val % 2) + n.val / 2) }
  acq : Vector AcqSt 16 := Vector.replicate 16 {}
  obs : Vector ObsSt 18 := Vector.replicate 18 {}
  div : Vector DivSt 16 := Vector.replicate 16 {}
  /-- slice corrections; the step of the calibration cycle, 0 to 34 (R113) -/
  cal : Vector CalSt 36 := Vector.replicate 36 {}
  calStep : Nat := 0
  /-- sums of the calibration step under way, and of the phase of a slice swap under way (R493) -/
  calAcc : CalAcc := {}
  swpAcc : CalAcc := {}
  /-- instants (plus 1) at which registers with a STATUS field got their value, by address (R30) -/
  stamps : List (Nat × Nat) := []
  lrn : Vector LrnSt 16 := Vector.replicate 16 {}
  /-- requests of the NVM controller in order of arrival, the first one running (R480): 0 boot record, 1 safety image,
  2 learning commit, 3 Sinter map -/
  nvq : List Nat := []
  /-- ports of a learning commit that waits for its snapshot, and the records still to be written (R203) -/
  nvPorts : Nat := 0
  nvBuf : List (Nat × List Byte) := []
  dfb : Vector DfbSt 16 := Vector.replicate 16 {}
  emu : Vector EmuSt 8 := Vector.replicate 8 {}
  /-- the drivers of enabled outputs are not held in STANDBY (R248) -/
  emuDrv : Bool := true
  /-- blanking windows (R115): port mask, start and end instants -/
  blankWin : List (Nat × Nat × Nat) := []
  obsOld : Vector ObsOld 18 := Vector.replicate 18 {}
  /-- slots that differ from an idle one, by number -/
  slots : List (Nat × SlotSt) := []
  /-- group copies requested: group, instant of the request (R275) -/
  copies : List (Nat × Nat) := []
  pwms : Vector PwmsSt 4 := Vector.replicate 4 {}
  gt : Vector GtSt 16 := Vector.replicate 16 {}
  stream : StreamSt := {}
  /-- the GTRIG drivers and the Angle Stream are not held off by the twin role (R279) -/
  geyDrv : Bool := true
  vnt : Vector VntSt 7 := Vector.replicate 7 {}
  /-- Vent requests that act at the next sample (R301): port, kind (0 frequency, 1 amplitude, 2 FREL), value -/
  ventReq : List (Nat × Nat × Nat) := []
  inj : InjSt := {}
  /-- ends of injections by port, plus 1 (R302) -/
  injEnd : List (Nat × Nat) := []
  /-- poisoned SRAM words, by 64-bit word index, byte offset / 8 (R485) -/
  poison : List Nat := []
  ashDue : Nat := 0
  tmp : Vector TmpSt 16 := Vector.replicate 16 {}
  tsl : Vector TslSt 2 := Vector.replicate 2 {}
  sinc : Vector SincSt 2 := Vector.replicate 2 {}
  tsrc : Vector SrcSt 4 := Vector.replicate 4 {}
  /-- end of each source pair's last slot; frames start no earlier than this instant (R320) -/
  pairEnd : Vector Nat 4 := Vector.replicate 4 0
  tmpFrom : Option Nat := none
  /-- the active images of SM-A and SM-B (R347), coded as `fields`; the expected CRC and the pending image are registers -/
  actA : List (Nat × Nat) := []
  actB : List (Nat × Nat) := []
  axA : Vector AxCh 8 := Vector.replicate 8 {}
  axB : Vector AxCh 8 := Vector.replicate 8 {}
  /-- filtered levels of `SIA` and `SIB` in SM-B; those of SM-A are in `SAF_SI` -/
  siB : Nat × Nat := (0, 255)
  /-- discrepancy counts and latches of both channels -/
  discA : List Nat := List.replicate 8 0
  discB : List Nat := List.replicate 8 0
  latA : Nat := 0
  latB : Nat := 0
  /-- keys of the three access paths -/
  keys : Vector KeySt 3 := Vector.replicate 3 {}
  /-- STA and STB of an axis differ since (R342) -/
  xst : List (Option Nat) := List.replicate 8 none
  /-- the accepted image that waits for the SM-B tick (R347) -/
  appWait : Option (List (Nat × Nat)) := none
  /-- a parity error stands in a configuration register of SAF (R488) -/
  safPar : Bool := false
  /-- first rising edges of the permits `TPA` and `TPB` that toggle (R339) -/
  permAt : Nat × Nat := (0, 0)
  /-- a protection request has been live since the last acknowledge (R343) -/
  ftLat : Bool := false
  /-- suspension of the port conditions after a slice swap: port, end (R345) -/
  susp : List (Nat × Nat) := []
  /-- ports in a synchronising-reset gap for SM-B (R345): port, start, ω_d and status from before -/
  gapAt : List (Nat × Nat × Int × Nat) := []
  /-- the safety monitor is released (R326) -/
  smOn : Bool := false
  conns : List (Nat × ConnSt) := []
  can : Vector CanSt 2 := Vector.replicate 2 {}
  /-- start of frame of the last frame stored in each receive object, by 128 c + k, plus 1 (R384) -/
  canAt : List (Nat × Nat) := []
  /-- level of `CAN_WAKE` (R390) -/
  canWake : Bool := true
  /-- changes of HOLDOVER (bit 0) and ERA (bit 1) of `GLB_STATUS`, newest first: instant, the bits before (R384) -/
  flagHist : List (Nat × Nat) := []
  chn : ChnSt := {}
  twn : TwnSt := {}
  rst : RstSt := {}
  snt : IntSt := {}
  tap : TapSt := {}
  host : HostSt := {}
  /-- the commands waiting, first in, first out -/
  pending : List Instr := []
  /-- what left the device, newest first -/
  outbox : List Output := []
deriving DecidableEq, Repr, Inhabited

/-- The device right after a cold reset by power-on (R453, R459), before its first step. -/
def State.reset : State := {}

end Sys2Proof.Machine
end

