-- ==== Sys2Proof/Machine/Ops.lean ====
section
/-! DEFINITION. The shared operations: register fields, saturating counters, sticky bits with their events, SRAM and NVM,
host records and completions, event raising, the status byte, snapshot latches, free values. -/

namespace Sys2Proof.Machine

/-! ### Register fields -/

/-- The key of a field of instance `n`: the bit address of instance 0 and, above it, the instance. Fields of different
registers or instances never share a key. -/
def Fld.key (f : Fld) (n : Nat) : Nat := 4194304 * n + 32 * f.base + f.lo

/-- The byte address of instance 0, the instance and the 4 KiB block of a key. -/
def keyBase (k : Nat) : Nat := k % 4194304 / 32
def keyInst (k : Nat) : Nat := k / 4194304
def keyPage (k : Nat) : Nat := k % 4194304 / 131072

/-- The value of a register field. -/
def State.g (s : State) (f : Fld) (n : Nat := 0) : Nat :=
  (SMap.get 0 s.fields (f.key n) ^^^ f.rst n) % 2 ^ f.width

/-- Writes a register field (modulo its width). -/
def State.w (s : State) (f : Fld) (n : Nat) (v : Nat) : State :=
  { s with fields := SMap.set 0 s.fields (f.key n) ((v % 2 ^ f.width) ^^^ f.rst n) }

/-- A one-bit field as a Boolean. -/
def State.gb (s : State) (f : Fld) (n : Nat := 0) : Bool := decide (s.g f n ≠ 0)

/-- Writes a one-bit field. -/
def State.wb (s : State) (f : Fld) (n : Nat) (b : Bool) : State := s.w f n (b2n b)

/-- A field read as a signed number (R5). -/
def State.gi (s : State) (f : Fld) (n : Nat := 0) : Int := sgn f.width (s.g f n)

/-- The SAT flag beside a COUNT field (R46). -/
def Fld.sat (f : Fld) : Fld := { f with lo := 31, width := 1, rst := fun _ => 0 }

/-- One event into a saturating counter (R46): the count stops at its maximum, and SAT is set by the first event that
it cannot record. -/
def State.bump (s : State) (f : Fld) (n : Nat := 0) : State :=
  if s.g f n = 2 ^ f.width - 1 then s.w f.sat n 1 else s.w f n (s.g f n + 1)

/-- The row and the instance of it that lies at an address, where one does. -/
def regAt (addr : Nat) (r : RegRow) : Option (RegRow × Nat) :=
  if addr < r.base then none
  else if r.stride = 0 then (if addr = r.base then some (r, 0) else none)
  else if (addr - r.base) % r.stride = 0 ∧ (addr - r.base) / r.stride < r.count then
    some (r, (addr - r.base) / r.stride)
  else none

/-- The row and instance of the register at a BAR0 address. -/
def findReg (addr : Nat) : Option (RegRow × Nat) := regTable.findSome? (regAt addr)

/-- The 32-bit word of the register at an address (R17): WO fields and reserved bits read 0. -/
def State.regWord (s : State) (addr : Nat) : Nat :=
  match findReg addr with
  | none => 0
  | some (r, n) => r.fields.foldl
      (fun acc f => if f.acc = .wo then acc else acc ||| s.g f.fld n * 2 ^ f.fld.lo) 0

/-! ### SRAM and NVM -/

/-- Bytes in SRAM (BAR2, 2 MiB window) and NVM (64 KiB). -/
abbrev sramSize : Nat := 0x180000
abbrev nvmSize : Nat := 0x10000

/-- What an unwritten NVM byte reads as: erased (log entry 7). -/
abbrev nvmErased : Byte := 0xFF#8

/-- The canonical form of SRAM (`d` = 0x00) and of NVM (`d` = 0xFF): addresses strictly rising, no entry equal to what an
unlisted address reads as. -/
def Memory.wf (d : Byte) (m : List Host.Cell) : Bool := SMap.wf d m

def State.sramByte (s : State) (a : Nat) : Byte := SMap.get 0#8 s.sram a
/-- Writes a byte; the word that holds it is a code word again (R485). -/
def State.setSramByte (s : State) (a : Nat) (v : Byte) : State :=
  { s with sram := SMap.set 0#8 s.sram a v, poison := s.poison.filter fun w => w ≠ a / 8 }
def State.nvmByte (s : State) (a : Nat) : Byte := SMap.get nvmErased s.nvm a
def State.setNvmByte (s : State) (a : Nat) (v : Byte) : State := { s with nvm := SMap.set nvmErased s.nvm a v }

/-- The 32-bit word at an SRAM byte offset, little-endian (R16). -/
def State.sram32 (s : State) (a : Nat) : Nat :=
  (s.sramByte a).toNat + 256 * (s.sramByte (a + 1)).toNat + 65536 * (s.sramByte (a + 2)).toNat +
    16777216 * (s.sramByte (a + 3)).toNat

/-- A word of 64 bits that holds the byte at an SRAM offset is poisoned (R485). -/
def State.poisoned (s : State) (a : Nat) : Bool := s.poison.contains (a / 8)

/-- A poisoned word lies in [lo, hi). -/
def State.poisonIn (s : State) (lo hi : Nat) : Bool := s.poison.any fun w => lo ≤ 8 * w && 8 * w < hi

/-- Writes the 32-bit word at an SRAM byte offset. -/
def State.setSram32 (s : State) (a : Nat) (v : Nat) : State :=
  (((s.setSramByte a (BitVec.ofNat 8 v)).setSramByte (a + 1) (BitVec.ofNat 8 (v / 256))).setSramByte (a + 2)
    (BitVec.ofNat 8 (v / 65536))).setSramByte (a + 3) (BitVec.ofNat 8 (v / 16777216))

/-- Bytes from an NVM address on. -/
def State.nvmBytes (s : State) (a len : Nat) : List Byte := (List.range len).map fun i => s.nvmByte (a + i)

/-- Writes bytes into NVM from an address on. -/
def State.setNvmBytes (s : State) (a : Nat) : List Byte → State
  | [] => s
  | b :: bs => (s.setNvmByte a b).setNvmBytes (a + 1) bs

/-- Bytes from an SRAM offset on. -/
def State.sramBytes (s : State) (a len : Nat) : List Byte := (List.range len).map fun i => s.sramByte (a + i)

/-- Writes bytes into SRAM from an offset on. -/
def State.setSramBytes (s : State) (a : Nat) : List Byte → State
  | [] => s
  | b :: bs => (s.setSramByte a b).setSramBytes (a + 1) bs

/-- Zeroes the SRAM bytes in [lo, hi). -/
def State.zeroSram (s : State) (lo hi : Nat) : State :=
  { s with sram := s.sram.filter fun c => c.1 < lo || hi ≤ c.1,
           poison := s.poison.filter fun w => 8 * w < lo || hi ≤ 8 * w }

/-! ### Time, status byte, free values -/

/-- The instant of an access: the newest sample plus the access's place after it. -/
def State.at (s : State) (src : Src) : State := { s with t := tadd s.now src.sub }

/-- A free value: the next of the model's own count (never evaluated by any proof). -/
def State.draw (s : State) (site : Nat) : BitVec 64 × State :=
  (Config.freeValue site s.free, { s with free := s.free + 1 })

/-- The device's mode is RUN (Table 1-8). -/
def State.inRun (s : State) : Bool := s.g F.GLB_STATUS_MODE = 1
/-- The device's twin role is STANDBY. -/
def State.standby (s : State) : Bool := s.g F.GLB_STATUS_ROLE = 2

/-- Bring-up has released the blocks of step `k` (Table 16-5). -/
def State.released (s : State) (k : Nat) : Bool :=
  s.inRun || (s.g F.GLB_STATUS_MODE = 0 && !s.rst.warm && k ≤ s.g F.RST_STAT_STEP)

/-- The block at a BAR0 address answers the host: no reset is asserted, bring-up has released the host link and the SPI port
(R469, R473), and outside RUN and the last bring-up steps only GLB, RST, HIF and EVT do (R464). -/
def State.reaches (s : State) (addr : Nat) : Bool :=
  !s.rst.warm && s.host.released && (addr < 0x4000 || s.released 4)

/-- An access of a path to the block at `addr` acts, where the block answers. -/
def State.via (s : State) (src : Src) (addr : Nat) (k : State → State) : State :=
  let s := s.at src
  if s.reaches addr then k s else s

/-- The status byte of Table 0-2. FRESH never stands without VALID, and LOT holds VALID at 0 (R15). -/
def statusByte (valid fresh coast settling lot holdover degraded era : Bool) : Nat :=
  let v := valid && !lot
  b2n v + 2 * b2n (v && fresh) + 4 * b2n coast + 8 * b2n settling + 16 * b2n lot + 32 * b2n holdover +
    64 * b2n degraded + 128 * b2n era

def State.era (s : State) : Bool := s.gb F.GLB_STATUS_ERA
def State.holdover (s : State) : Bool := s.gb F.GLB_STATUS_HOLDOVER

/-- HOLDOVER and ERA of `GLB_STATUS` as they were at an instant. -/
def State.flagsAt (s : State) (t : Nat) : Bool × Bool :=
  match (s.flagHist.filter fun h => tdiff t h.1 < 0).getLast? with
  | some h => (bitOf h.2 0, bitOf h.2 1)
  | none => (s.holdover, s.era)

/-- ERA at a value's own sample instant (R31). -/
def State.eraAt (s : State) (t : Nat) : Bool := (s.flagsAt t).2

/-- The status byte of records and events that the device itself makes: VALID, FRESH, HOLDOVER, ERA. -/
def State.ownStatus (s : State) : Nat := statusByte true true false false false s.holdover false s.era

/-! ### Epochs -/

/-- The number under which a source records its EPOCH (R42): ports 0 to 15, then the blocks. -/
def Group.source : Group → Nat
  | .port n => n
  | .exc => 16 | .div => 17 | .emu => 18 | .gey => 19 | .vnt => 20 | .tmp => 21 | .can0 => 22 | .can1 => 23
  | .chn => 24 | .twn => 25 | .int => 26 | .rest => 27 | .sram => 28

/-- The EPOCH recorded for a source. -/
def State.epochOf (s : State) (src : Nat) : Nat := SMap.get 0 s.epochs src

/-! ### Host records -/

/-- The device may read and write host memory (R396): Bus Master Enable, D0. -/
def State.master (s : State) : Bool := s.gb F.HIF_STAT_BME && !s.gb F.HIF_STAT_D3

/-- The entries of ring `r` (R398). -/
def State.ringSize (s : State) (r : Nat) : Nat := 2 ^ s.g F.HIF_RING_CFG_SIZE r

/-- Ring `r` is an enabled D2H ring. -/
def State.d2h (s : State) (r : Nat) : Bool := 8 ≤ r && r < 32 && s.gb F.HIF_RING_CFG_EN r

/-- Free units of a D2H ring (R399). -/
def State.freeUnits (s : State) (r : Nat) : Nat :=
  (s.g F.HIF_RING_DB_TAIL r + s.ringSize r - s.g F.HIF_RING_HEAD_HEAD r - 1) % s.ringSize r

/-- Descriptors available in an H2D ring (R399). -/
def State.avail (s : State) (r : Nat) : Nat :=
  (s.g F.HIF_RING_DB_TAIL r + s.ringSize r - s.g F.HIF_RING_HEAD_HEAD r) % s.ringSize r

/-- A cause into a vector (R414). -/
def State.cause (s : State) (v : Nat) : State :=
  { s with host := { s.host with vecs := vupd s.host.vecs v fun c =>
      { causes := c.causes + 1, first := if c.causes = 0 then s.t else c.first } } }

/-- Writes ring `r`'s word of the status block (R400). -/
def State.statusBlock (s : State) (r : Nat) : State :=
  if s.gb F.HIF_SBLKL_EN && s.master then
    let addr := s.g F.HIF_SBLKH_ADDR * 2 ^ 32 + s.g F.HIF_SBLKL_ADDR * 128 + 4 * r
    let word := s.g F.HIF_RING_HEAD_HEAD r + 65536 * s.g F.HIF_RING_HEAD_WRAPS r
    { s with outbox := .statusWord r addr word :: s.outbox }
  else s

/-- Advances a ring's head by `n` entries: HEAD, WRAPS (R45), status block. -/
def State.advance (s : State) (r n : Nat) : State :=
  let h := s.g F.HIF_RING_HEAD_HEAD r + n
  let s' := s.w F.HIF_RING_HEAD_HEAD r (h % s.ringSize r)
  let s' := if s.ringSize r ≤ h then s'.w F.HIF_RING_HEAD_WRAPS r (s.g F.HIF_RING_HEAD_WRAPS r + 1) else s'
  s'.statusBlock r

/-- Sets bit `f` of a sticky register; on a change from 0 to 1 the given action follows. -/
def State.stick (s : State) (f : Fld) (n : Nat) (k : State → State) : State :=
  if s.gb f n then s else k (s.w f n 1)

/-- The header of a record (R406). -/
def header (ty src st ep : Nat) (t : Nat) : List Byte :=
  leBytes 1 ty ++ leBytes 1 src ++ leBytes 1 st ++ leBytes 1 ep ++ leBytes 4 (ts32 t)

/-- The units a record of these bytes takes. -/
def unitsOf (bs : List Byte) : Nat := (bs.length + 15) / 16

/-- Writes the units of a record that fits, moves the head, adds the ring's cause (R399, R410, R414). -/
def State.putRecord (s : State) (r : Nat) (bs : List Byte) : State :=
  let n := unitsOf bs
  let addr := s.g F.HIF_RING_BASEH_BASE r * 2 ^ 32 + s.g F.HIF_RING_BASEL_BASE r * 4096 + 16 * s.g F.HIF_RING_HEAD_HEAD r
  let s := { s with outbox := .record r addr (padTo (16 * n) bs) :: s.outbox }
  let s := s.advance r n
  if s.gb F.HIF_RING_CFG_IEN r then s.cause (s.g F.HIF_RING_CFG_VEC r) else s

/-- The room and the host memory access that a record needs. -/
def State.room (s : State) (r : Nat) (bs : List Byte) : Bool :=
  s.master && !s.gb F.HIF_RING_STAT_STOP r && unitsOf bs ≤ s.freeUnits r

/-- Counts a dropped record (R396, R408), without the event of `RDROP`. -/
def State.dropCount (s : State) (r : Nat) : State := s.bump F.HIF_RING_DROP_COUNT r

/-- A poisoned word of the record, ring and mirror buffers takes one record or mirror frame with it (Table 17-1). -/
def State.bufBad (s : State) : Bool := s.poisonIn 0x130000 0x180000
def State.bufClear (s : State) : State := { s with poison := s.poison.filter fun w => 8 * w < 0x130000 }

/-- Writes an EVENT record; one that finds no room is counted and sets `RDROP` (R408), whose own event `raise` adds. -/
def State.recordQuiet (s : State) (r : Nat) (bs : List Byte) : State :=
  if !s.d2h r then s
  else if s.room r bs && !s.bufBad then s.putRecord r bs
  else
    let s := s.bufClear.dropCount r
    if s.master then s.w F.HIF_STKY_RDROP 0 1 else s

/-- A trigger cause of the Ash record came about (Table 17-6); `f` enables it. -/
def State.ashNote (s : State) (code : Nat) (f : Fld) : State :=
  if s.gb f then { s with ashDue := s.ashDue ||| 2 ^ code } else s

/-- The EVENT waits on event `e` are met (R294). -/
def State.endWaits (s : State) (e : Nat) : State :=
  { s with vnt := s.vnt.map fun v => if v.waitEv = some e && v.met.isNone then { v with met := some s.t } else v }

/-- The command-site, Vent and Ash consumers of a raised event `e` (R294, R503). -/
def State.noteEvent (s : State) (e : Nat) : State :=
  let s := s.endWaits e
  if s.g F.INT_ASHTRIG_EVTNUM = e then s.ashNote 5 F.INT_ASHTRIG_T_EVT else s

/-- Writes an entry of the Ash record with its sequence and CRC-8 (R501, R502). -/
def State.ashWrite (s : State) (bs : List Byte) : State :=
  let i := s.g F.INT_ASHSTAT_WPTR
  let body := padTo 30 bs ++ leBytes 1 s.snt.seq
  let s := s.setSramBytes (32 * i) (body ++ leBytes 1 (crc8 body))
  let s := s.w F.INT_ASHSTAT_WPTR 0 (i + 1)
  let s := if i = 32767 then s.w F.INT_ASHSTAT_WRAP 0 1 else s
  { s with snt := { s.snt with seq := (s.snt.seq + 1) % 256 } }

/-- The Ash record is written: from the end of bring-up step 3 on, never in DORMANT (R504). -/
def State.ashOpen (s : State) : Bool :=
  !s.rst.warm && (s.inRun || (s.g F.GLB_STATUS_MODE = 0 && (4 ≤ s.g F.RST_STAT_STEP || s.rst.wait)))

/-- An entry of the Ash record (R501 to R503): written while recording or in POST; the last one after a trigger freezes
the record. -/
def State.ashPut (s : State) (bs : List Byte) : State :=
  let st := s.g F.INT_ASHTCNT_STATE
  if s.ashOpen && (st = 1 || st = 2) then
    let s := s.ashWrite bs
    let last := st = 2 && s.snt.left ≤ 1
    let s := { s with snt := { s.snt with left := if st = 2 then s.snt.left - 1 else s.snt.left,
                                          frz := s.snt.frz || last } }
    if last then s.w F.INT_ASHTCNT_STATE 0 3 else s
  else s

/-- Counts event `e`, writes its Ash entry, sets it pending, writes its record and adds its cause (R411, R501). -/
def State.raise1 (s : State) (e ctx : Nat) : State :=
  let s := (s.bump F.EVT_CNT_COUNT e).noteEvent e
  let cnt := s.g F.EVT_CNT_COUNT e + 2 ^ 31 * s.g F.EVT_CNT_SAT e
  let entry := header 5 e s.ownStatus (s.g F.GLB_EPOCH_EPOCH) s.t ++ leBytes 4 cnt ++ leBytes 4 ctx
  let s := s.ashPut entry
  if !s.gb F.EVT_CFG_EN e then s
  else
    let s := s.w F.EVT_PEND_PEND (e / 32) (setBit (s.g F.EVT_PEND_PEND (e / 32)) (e % 32) true)
    let s := if s.gb F.EVT_CFG_REC e then s.recordQuiet (s.g F.HIF_ROUTE0_EVENT) entry else s
    if s.gb F.EVT_CFG_VEN e then s.cause (s.g F.EVT_CFG_VEC e) else s

/-- The freeze of the Ash record raises its event (R503, R506). -/
def State.ashFlush (s : State) : State :=
  if s.snt.frz then
    ({ s with snt := { s.snt with frz := false } } : State).stick F.INT_STKY_ASHFRZ 0 fun s => s.raise1 252 (s.regWord 0x16010)
  else s

/-- Raises event `e` with context word `ctx` (R411). Where its record was dropped and `RDROP` changed to 1, event 238
follows (R413). -/
def State.raise (s : State) (e ctx : Nat) : State :=
  let s' := s.raise1 e ctx
  (if s'.gb F.HIF_STKY_RDROP && !s.gb F.HIF_STKY_RDROP then s'.raise1 238 (s'.regWord 0x2004) else s').ashFlush

/-- Raises event `e` with the register at `addr` as its context, read at the raising. -/
def State.raiseReg (s : State) (e addr : Nat) : State := s.raise e (s.regWord addr)

/-- Sets a sticky bit and raises event `e` when it changes from 0 to 1; the context is the register the bit is in
(log entry 9). -/
def State.stickEv (s : State) (f : Fld) (n e : Nat) : State :=
  s.stick f n fun s => s.raiseReg e (f.base + f.stride * n)

/-- A read of the word at an SRAM offset: an uncorrectable one is counted, recorded and reported (R485). -/
def State.eccSeen (s : State) (a : Nat) : State :=
  if s.poisoned a then
    (((s.bump F.INT_UECNT_COUNT).w F.INT_UEADDR_WORD 0 (a / 8)).w F.INT_UEADDR_SYM 0 15).stickEv F.INT_STKY_UE 0 245
  else s

/-- Sets bits of a multi-bit sticky field; event `e` is raised once for every bit that changes. -/
def State.stickBits (s : State) (f : Fld) (n m e : Nat) : State :=
  (List.range f.width).foldl (fun s i =>
    if m.testBit i && !(s.g f n).testBit i then
      (s.w f n (setBit (s.g f n) i true)).raiseReg e (f.base + f.stride * n)
    else s) s

/-- Writes a record to ring `r` (R408): a ring that is not an enabled D2H ring discards it without count; one without
room, or a device that may not write host memory, drops and counts it. -/
def State.record (s : State) (r : Nat) (bs : List Byte) : State :=
  if !s.d2h r then s
  else if s.room r bs && !s.bufBad then s.putRecord r bs
  else
    let s := s.bufClear.dropCount r
    if s.master then s.stickEv F.HIF_STKY_RDROP 0 238 else s

/-- The TIME record (Table 14-8). -/
def State.timeRec (s : State) (t : Nat) : List Byte :=
  header 1 0 s.ownStatus (s.g F.GLB_EPOCH_EPOCH) t ++ leBytes 8 t

/-- The CMPL record of a descriptor (Table 14-8). -/
def State.cmplRec (s : State) (ring op result tag value : Nat) (hdr : List Byte) : List Byte :=
  header 7 ring (statusByte true true false false false false false false) (s.g F.GLB_EPOCH_EPOCH) s.t ++
    leBytes 1 op ++ leBytes 1 result ++ leBytes 2 tag ++ leBytes 4 value ++ padTo 16 hdr

/-- A record that is never dropped for want of room (R408): it goes out, or waits; without host memory it is counted. -/
def State.recordWait (s : State) (src r : Nat) (bs : List Byte) : State :=
  if !s.d2h r then s
  else if !s.master then s.dropCount r
  else if s.room r bs && !s.host.owed.any (fun o => o.2.1 = r) then s.putRecord r bs
  else { s with host := { s.host with owed := s.host.owed ++ [(src, r, bs)] } }

/-- The CMPL record of ring `ring`'s descriptor, where it asked for one. -/
def State.complete (s : State) (ring op : Nat) (cmpl : Bool) (result tag value : Nat) (hdr : List Byte) : State :=
  if cmpl then s.recordWait ring (s.g F.HIF_RING_CFG_CRING ring) (s.cmplRec ring op result tag value hdr) else s

/-- Writes the waiting records of ring `r` that now find room. -/
def State.flushOwed (s : State) (r : Nat) : State :=
  s.host.owed.foldl (fun s o =>
    if o.2.1 = r && s.room r o.2.2 && (s.host.owed.find? fun p => p.2.1 = r) = some o then
      { s with host := { s.host with owed := s.host.owed.erase o } }.putRecord r o.2.2
    else s) s

/-! ### Snapshot latches -/

/-- The three latch sets: BAR0, the COMMAND rings together, SPI (R404). -/
def pathCls : Path → Nat
  | .bar0 => 0 | .ring _ => 1 | .spi => 2

/-- Path of the code in `GLB_CSTAT.OWNER`. -/
def pathOwner : Path → Nat
  | .bar0 => 1 | .ring _ => 2 | .spi => 3

/-- The ring number of a path, 0 for the others. -/
def pathRing : Path → Nat
  | .ring r => r.val | _ => 0

/-- Latches words of a group. -/
def State.latch (s : State) (p : Path) (ws : List (Nat × Nat)) : State :=
  { s with latches := ws.map (fun w => (pathCls p, w)) ++
      s.latches.filter fun l => !(l.1 = pathCls p && ws.any fun w => w.1 = l.2.1) }

/-- The latched word of a register, if any. -/
def State.latched (s : State) (p : Path) (addr : Nat) : Option Nat :=
  (s.latches.find? fun l => l.1 = pathCls p ∧ l.2.1 = addr).map fun l => l.2.2

/-! ### Per-instance state -/

def State.prt! (s : State) (n : Nat) : PortSt := vget s.prt n
def State.exc! (s : State) (n : Nat) : ExcSt := vget s.exc n
def State.acq! (s : State) (n : Nat) : AcqSt := vget s.acq n
def State.obs! (s : State) (m : Nat) : ObsSt := vget s.obs m
def State.div! (s : State) (n : Nat) : DivSt := vget s.div n
def State.updPrt (s : State) (n : Nat) (f : PortSt → PortSt) : State := { s with prt := vupd s.prt n f }
def State.updExc (s : State) (n : Nat) (f : ExcSt → ExcSt) : State := { s with exc := vupd s.exc n f }
def State.updAcq (s : State) (n : Nat) (f : AcqSt → AcqSt) : State := { s with acq := vupd s.acq n f }
def State.updObs (s : State) (m : Nat) (f : ObsSt → ObsSt) : State := { s with obs := vupd s.obs m f }
def State.updDiv (s : State) (n : Nat) (f : DivSt → DivSt) : State := { s with div := vupd s.div n f }

/-- Runs an action for every number below `n`, in rising order. -/
def State.each (s : State) (n : Nat) (f : State → Nat → State) : State := (List.range n).foldl f s

/-- Port `n` is in RESOLVER mode, in DIGITAL mode (R53). -/
def State.resolver (s : State) (n : Nat) : Bool := s.g F.PRT_CFG_MODE n = 1
def State.digital (s : State) (n : Nat) : Bool := s.g F.PRT_CFG_MODE n = 2

/-- The engine that serves port `n` (R148). -/
def State.engine (s : State) (n : Nat) : Nat := s.g F.OBS_MAP_ENG n
/-- The port an engine serves, if it is in service. -/
def State.portOf (s : State) (m : Nat) : Option Nat :=
  (List.range 16).find? fun n => s.g F.OBS_MAP_ENG n = m

/-! ### Diagnostic injections (R302) -/

/-- An injection of `kind` replaces the input of port `n`'s check at this sample. -/
def State.injActive (s : State) (n kind : Nat) : Bool :=
  s.inj.run && s.inj.port = n && s.inj.kind = kind && 1 ≤ s.inj.smp && s.inj.smp ≤ s.inj.total

/-- The injected check saw its input: beyond its bound or not; it decides after `k` in succession. -/
def State.injInput (s : State) (beyond : Bool) (k : Nat) : State :=
  let c := if beyond then s.inj.cnt + 1 else 0
  let hit := beyond && k ≤ c && !s.inj.pass
  { s with inj := { s.inj with cnt := c, pass := s.inj.pass || hit, dec := if hit then s.inj.smp else s.inj.dec } }

/-- The balls on which a command changes a level leave a mark in the outbox. -/
def State.emit (s : State) (o : Output) : State := { s with outbox := o :: s.outbox }

end Sys2Proof.Machine
end

