-- ==== Sys2Proof/Machine/Carrier.lean ====
section
/-! DEFINITION. The carrier oscillator of a port (R82, R83), its zero crossings and its drive amplitude, and the instants
and status bytes of detector outputs (R30), shared by chapters 2 to 5. -/

namespace Sys2Proof.Machine

/-- Divisor of the increment: 5¹⁰ (R82). -/
abbrev incDiv : Nat := 9765625

/-- Integer part and remainder of the increment of a frequency in mHz (R82). -/
def incI (f : Nat) : Nat := f * 2 ^ 23 / incDiv
def incR (f : Nat) : Nat := f * 2 ^ 23 % incDiv

/-- The phase step to the next sample: the integer part, one more where the remainder accumulator wraps, and in SENSE
the lock loop's correction (R82, R105). -/
def ExcSt.step (e : ExcSt) : Nat :=
  enc 32 ((incI e.freq : Int) + (if incDiv ≤ e.racc + incR e.freq then 1 else 0) + e.trim)

/-- One sample of the NCO; the sample of a start has the start phase itself (R83). -/
def ExcSt.advance (e : ExcSt) : ExcSt :=
  if e.fresh then { e with fresh := false, wrap := false }
  else if e.nco then
    { e with ph := (e.ph + e.step) % 2 ^ 32, racc := (e.racc + incR e.freq) % incDiv,
             wrap := decide (2 ^ 32 ≤ e.ph + e.step) }
  else { e with wrap := false }

/-- The phase, seen with lag `lag`, passes 0 or ½ turn after this sample and no later than the next (R63). -/
def ExcSt.halfCrossing (e : ExcSt) (lag : Nat) : Bool :=
  e.nco && !e.fresh && 2 ^ 31 ≤ (e.ph + 2 ^ 32 - lag) % 2 ^ 31 + e.step

/-- The NCO phase passes 0 after this sample and no later than the next. -/
def ExcSt.periodCrossing (e : ExcSt) : Bool := e.nco && !e.fresh && 2 ^ 32 ≤ e.ph + e.step

/-- The carrier period in STIME units, its last place open. -/
def periodU (f : Nat) : Nat := (rdiv 1 64000000000000 f).toNat

/-- Shows the increment in force (`EXCn_INCI`, `EXCn_INCR`): 0 while the NCO is stopped. -/
def State.showInc (s : State) (n : Nat) : State :=
  let e := s.exc! n
  (s.w F.EXC_INCI_INCI n (if e.nco then incI e.freq else 0)).w F.EXC_INCR_INCR n (if e.nco then incR e.freq else 0)

/-- A zero crossing of the port's inputs is predicted (R64). -/
def State.predicted (s : State) (n : Nat) : Bool :=
  (s.exc! n).nco && s.gb F.EXC_CFG_ENABLE n && (!s.standby || s.gb F.EXC_STAT_LOCKED n)

/-- The ramped amplitude at instant `t` (2⁻¹⁶ mVrms), linear in time (R87, R90). -/
def Ramp.at (r : Ramp) (t : Nat) : Int :=
  let d := tdiff t r.t0
  if r.len = 0 ∨ (r.len : Int) ≤ d then r.dst else if d ≤ 0 then r.src else r.src + rdiv 2 ((r.dst - r.src) * d) r.len

/-- The driver drives: SOFT, RUN, CHANGING or STOPPING (Table 3-1). -/
def State.drives (s : State) (n : Nat) : Bool :=
  let c := s.g F.EXC_STAT_STATE n
  c = 1 || c = 2 || c = 3 || c = 4

/-- The drive amplitude A_m in µV peak (R120): √2 times the ramped amplitude, or the sensed one in SENSE when locked. -/
def State.driveAmp (s : State) (n : Nat) : Int :=
  let rms : Int :=
    if s.drives n then (s.exc! n).amp * 1000 / 65536
    else if s.g F.EXC_STAT_STATE n = 5 && s.gb F.EXC_STAT_LOCKED n then (s.g F.EXC_VSENSE_VRMS n : Int) * 1000
    else 0
  rdiv 3 (rms * 1518500250) (2 ^ 30)

/-- Gives a register with a STATUS field a new measured value's status and instant (R30). -/
def State.measured (s : State) (st : Fld) (n status : Nat) : State :=
  let s := s.w st n status
  { s with stamps := SMap.set 0 s.stamps (st.base + st.stride * n) (s.t + 1) }

/-- The status of a detector output: VALID, FRESH, SETTLING, DEGRADED, with HOLDOVER and ERA. -/
def State.detStatus (s : State) (sett deg : Bool) : Nat := statusByte true true false sett false s.holdover deg s.era

/-- The output period of the register at an address, in STIME units (R30, Table 1-3): lead readings 8 ms, per-period
measurements one carrier period, decimated and diverse outputs one output, decoder positions a sample or a frame, driver temperature and VEXC 1 ms, legs 1 s, peaks one sample. -/
def State.detPeriod (s : State) (addr : Nat) : Nat :=
  if 0x4000 ≤ addr && addr < 0x5000 then 8 * msU
  else if addr = 0x5808 then msU
  else if 0x5000 ≤ addr && addr < 0x5800 then
    let o := addr % 0x80
    if o = 0x30 then msU else if 0x34 ≤ o then 1000 * msU else periodU (s.exc! ((addr - 0x5000) / 0x80)).freq
  else if 0x6000 ≤ addr && addr < 0x7000 then
    let n := (addr - 0x6000) / 0x100
    let o := addr % 0x100
    if o = 0x34 || o = 0x38 then sampleU else if o ≤ 0x20 then s.g F.ACQ_DEC_R n * sampleU
    else periodU (s.exc! n).freq
  else if 0x9400 ≤ addr && addr < 0x9800 then
    let n := (addr - 0x9400) / 0x40
    (if s.digital n then 25 else s.g F.ACQ_DEC_R n) * sampleU
  else if 0xB000 ≤ addr && addr < 0xB800 then
    let n := (addr - 0xB000) / 0x80
    (if s.g F.DFB_CFG_TYPE n < 2 then 1 else s.g F.DFB_SREQ_PERIOD n) * sampleU
  else 60 * 1000 * msU

end Sys2Proof.Machine
end

