-- ==== Sys2Proof/Machine/Port.lean ====
section
/-! DEFINITION. Feedback ports (chapter 2): normalization, range changes, automatic ranging, the lead monitor, the winding
test, clamps and line levels. -/

namespace Sys2Proof.Machine

/-! ### Ranges -/

/-- Full scale of a range code in µV peak (Table 2-2). -/
def fullScale (r : Nat) : Nat :=
  match r with
  | 0 => 500000 | 1 => 1250000 | 2 => 3000000 | _ => 7500000

/-- The field of the range in force, of the pending flag and of the request, by input. -/
def curFld : Input → Fld
  | .sin => F.PRT_STAT_CUR_S | .cos => F.PRT_STAT_CUR_C
def pendFld : Input → Fld
  | .sin => F.PRT_STAT_PEND_S | .cos => F.PRT_STAT_PEND_C

/-- The pending change of an input. -/
def PortSt.pend (p : PortSt) : Input → Option (Nat × Nat)
  | .sin => p.pendS | .cos => p.pendC

def PortSt.setPend (p : PortSt) (i : Input) (v : Option (Nat × Nat)) : PortSt :=
  match i with
  | .sin => { p with pendS := v } | .cos => { p with pendC := v }

/-- Replaces or discards the pending change of an input. -/
def State.putPend (s : State) (n : Nat) (i : Input) (v : Option (Nat × Nat)) : State :=
  (s.updPrt n fun p => p.setPend i v).wb (pendFld i) n v.isSome

/-- A request for a range (R65): the range in force cancels a pending change, any other replaces it. It is held with the
instant from which no crossing is waited for (R64): two carrier periods on, at once where none is predicted. -/
def State.requestRange (s : State) (n : Nat) (i : Input) (r : Nat) : State :=
  if r = s.g (curFld i) n then s.putPend n i none
  else s.putPend n i (some (r, if s.predicted n then tadd s.t (2 * periodU (s.exc! n).freq) else s.t))

/-- Puts a range in force: counts it, sets RANGE_CHG (R65), clears the 16-period history (R68). -/
def State.applyRange (s : State) (n : Nat) (i : Input) (r : Nat) : State :=
  let s := (s.w (curFld i) n r).putPend n i none
  let s := s.updPrt n fun p => { p with low := 0 }
  (s.bump F.PRT_RCHG_COUNT n).stickEv F.PRT_ISTKY_RANGE_CHG n (17 + 2 * n)

/-- Sets a gain stage without flagging a sample (R65). -/
def State.forceRange (s : State) (n : Nat) (i : Input) (r : Nat) : State :=
  (s.w (curFld i) n r).putPend n i none

/-- The gain stages at the sample at which port `n` enters or restarts in RESOLVER mode, or is in another mode
(R62, R65): with AUTO the ranges in force stay. No sample is flagged, and the 16-period history begins anew (R68). -/
def State.restartRanges (s : State) (n : Nat) : State :=
  let s := s.updPrt n fun p =>
    { p with rngS := false, rngC := false, immS := 0, immC := 0, low := 0, pkS := 0, pkC := 0 }
  if s.resolver n then
    if s.gb F.PRT_CFG_AUTO n then (s.putPend n .sin none).putPend n .cos none
    else (s.forceRange n .sin (s.g F.PRT_CFG_RANGE_S n)).forceRange n .cos (s.g F.PRT_CFG_RANGE_C n)
  else (s.forceRange n .sin 3).forceRange n .cos 3

/-- The corrected carrier phase of port `n` crosses 0 or ½ turn before the next sample (R63). -/
def State.inputCrossing (s : State) (n : Nat) : Bool := (s.exc! n).halfCrossing (s.exc! n).phEst

/-- R63: at a predicted crossing every pending change of the port is applied from the next sample, tagged RNG. -/
def doRangeChange (n : Nat) (s : State) : State :=
  let s := { s with t := s.now }
  let p := s.prt! n
  if (p.pendS.isSome || p.pendC.isSome) && s.predicted n && s.inputCrossing n then
    let s := match p.pendS with
      | some (r, _) => (s.applyRange n .sin r).updPrt n fun p => { p with rngS := true }
      | none => s
    match p.pendC with
    | some (r, _) => (s.applyRange n .cos r).updPrt n fun p => { p with rngC := true }
    | none => s
  else s

def execRangeChange (n : Fin 16) (s : State) : Host.Outcome State Fault Refusal := .next (doRangeChange n s)

/-- A pending change is due without a crossing: none was predicted at its request, or none came within two carrier
periods of it (R64). -/
def State.rangeDue (s : State) : Option (Nat × Nat) → Bool
  | none => false
  | some (_, u) => 0 ≤ tdiff (tadd s.now sampleU) u

/-- R64: the change is applied at the next sample; it and the next four carry the tag RNGI. -/
def doRangeImmediate (n : Nat) (s : State) : State :=
  let s := { s with t := s.now }
  let p := s.prt! n
  let dS := s.rangeDue p.pendS
  let dC := s.rangeDue p.pendC
  let s := match dS, p.pendS with
    | true, some (r, _) => (s.applyRange n .sin r).updPrt n fun p => { p with immS := 5 }
    | _, _ => s
  let s := match dC, p.pendC with
    | true, some (r, _) => (s.applyRange n .cos r).updPrt n fun p => { p with immC := 5 }
    | _, _ => s
  if dS || dC then s.stickEv F.PRT_ISTKY_RANGE_IMM n (17 + 2 * n) else s

def execRangeImmediate (n : Fin 16) (s : State) : Host.Outcome State Fault Refusal := .next (doRangeImmediate n s)

/-- Automatic ranging at the end of a carrier period (R68): A² against 90 % of the full scale in force and 80 % of the
next lower one. While `CUR_S` and `CUR_C` still differ, `CUR_S` counts as the range in force (log entry 90); a period without
an evaluation ends the 16-period history. -/
def State.autoRange (s : State) (n : Nat) : State :=
  let p := s.prt! n
  let a2 := p.pkS * p.pkS + p.pkC * p.pkC
  let s := s.updPrt n fun p => { p with pkS := 0, pkC := 0 }
  if s.resolver n && s.gb F.PRT_CFG_AUTO n && s.predicted n then
    let r := s.g F.PRT_STAT_CUR_S n
    let up := 100 * a2 ≥ 81 * (fullScale r * fullScale r)
    let dn := r ≠ 0 ∧ 100 * a2 ≤ 64 * (fullScale (r - 1) * fullScale (r - 1))
    let low := if dn then p.low + 1 else 0
    let s := s.updPrt n fun p => { p with low := low }
    if up ∧ r < 3 then (s.requestRange n .sin (r + 1)).requestRange n .cos (r + 1)
    else if 16 ≤ low then (s.requestRange n .sin (r - 1)).requestRange n .cos (r - 1)
    else s
  else s.updPrt n fun p => { p with low := 0 }

/-! ### Normalization -/

/-- The slice that works for a slice number: a spare in service takes its place (R112; layout of `INT_SLMAP`). -/
def State.sliceOf (s : State) (i : Nat) : Nat :=
  let m := s.g F.INT_SLMAP_MAP
  if bitsOf m 0 6 = i then 32 else if bitsOf m 8 6 = i then 33 else i

/-- The code of a slice with its corrections of offset and gain, in 2⁻⁸ LSB. -/
def CalSt.apply (c : CalSt) (code : Int) : Int := rdiv 18 ((code * 256 - c.off) * (1000000 + c.gain)) 1000000

/-- Nominal normalization factor of a range code in nV per code (Table 2-2). -/
def nominal (r : Nat) : Nat :=
  match r with
  | 0 => 61035 | 1 => 152590 | 2 => 366210 | _ => 915530

/-- The normalized sample of a code (R60): nominal factor of the range, factory trim, slice calibration; 24-bit signed µV. -/
def State.normalize (s : State) (n : Nat) (i : Nat) (r : Nat) (code : Int) : Int :=
  let c := vget s.cal (s.sliceOf (2 * n + i))
  satS 24 (rdiv 4
    ((code * 256 - c.off) * nominal r * (2 ^ 24 + Config.gainTrim n i r) * (1000000 + c.gain))
    (1000 * 256 * 2 ^ 24 * 1000000))

/-- A code at an end value is overrange (R61). -/
def overrange (code : Int) : Bool := code = -8192 || code = 8191

/-! ### Lead monitor -/

/-- The reading of ball `k` in mV. -/
def State.lead (s : State) (n k : Nat) : Int := s.gi (F.PRT_LMON_VOLT k) n

/-- Bit `i` of a one-bit-per-fault register, given its first bit. -/
def Fld.bit (f : Fld) (i : Nat) : Fld := { f with lo := i % 32, width := 1 }

/-- The checks of a pair whose P ball is `b` (Table 2-4): open, ground, supply. -/
def State.pairOpen (s : State) (n b : Nat) : Bool :=
  s.g F.PRT_DIAG_IDIAG n ≠ 0 && (s.g F.PRT_DIAG_V_OPEN n : Int) * 10 ≤ (s.lead n b - s.lead n (b + 1)).natAbs
def State.pairLow (s : State) (n b : Nat) : Bool :=
  let v : Int := s.g F.PRT_DTH_V_LOW n * 10
  s.lead n b < v || s.lead n (b + 1) < v
def State.pairHigh (s : State) (n b : Nat) : Bool :=
  let v : Int := s.g F.PRT_DTH_V_HIGH n * 25
  v < s.lead n b || v < s.lead n (b + 1)
def State.pairCms (s : State) (n b : Nat) : Bool :=
  (s.g F.PRT_DTH_CM_TH n : Int) * 20 < (s.lead n b + s.lead n (b + 1) - 5000).natAbs

/-- The condition of fault bit `i` on the newest complete set of readings (Table 2-4). `none`: the bit is not checked. -/
def State.leadCond (s : State) (n i : Nat) : Option Bool :=
  let live := s.g F.PRT_LLIVE_LIVE n
  let cm : Int := s.g F.EXC_VEXC_VEXC / 2
  let ax := s.g F.PRT_CFG_AX_USE n = 1 && s.gb F.EXC_CFG_ENABLE n
  match i with
  | 0 => some (s.pairOpen n 2)
  | 1 => some (s.pairOpen n 4)
  | 2 => some (s.pairLow n 2)
  | 3 => some (s.pairLow n 4)
  | 4 => some (s.pairHigh n 2)
  | 5 => some (s.pairHigh n 4)
  | 6 => some (s.pairCms n 2 && !bitOf live 2 && !bitOf live 4)
  | 7 => some (s.pairCms n 4 && !bitOf live 3 && !bitOf live 5)
  | 9 => some (s.drives n && (s.lead n 0 < cm - 1500 || s.lead n 1 < cm - 1500))
  | 10 => some (s.drives n && (cm + 1500 < s.lead n 0 || cm + 1500 < s.lead n 1))
  | 11 => some (ax && s.pairLow n 6)
  | 12 => some (ax && s.pairHigh n 6)
  | _ => none

/-- The checks of the stepped pair are suspended during a winding test and for 20 ms after it (R72). -/
def State.leadSuspended (s : State) (n i : Nat) : Bool :=
  let p := s.prt! n
  let running := s.gb F.PRT_STAT_W2W_RUN n || (match p.wUntil with | some u => 0 < tdiff u s.t | none => false)
  running && (if p.wPair = 0 then i = 2 || i = 4 || i = 6 else i = 3 || i = 5 || i = 7)

/-- The live bit of a lead fault changes; on a rise its sticky bit and event 16 + 2n follow (R70, R80). -/
def State.setLead (s : State) (n i : Nat) (b : Bool) : State :=
  let old := s.g F.PRT_LLIVE_LIVE n
  let s := s.w F.PRT_LLIVE_LIVE n (setBit old i b)
  if b && !bitOf old i then s.stickEv (F.PRT_LSTKY_OPEN_SN.bit i) n (16 + 2 * n) else s

/-- One fault bit after a complete set (R70): PERSIST sets in succession raise or clear its live bit. -/
def State.leadBit (s : State) (n i : Nat) : State :=
  match s.leadCond n i with
  | none => s
  | some c =>
    if s.leadSuspended n i then s
    else
      let p := s.prt! n
      let h := if c then vget p.hits i + 1 else 0
      let m := if c then 0 else vget p.miss i + 1
      let s := s.updPrt n fun p => { p with hits := vupd p.hits i fun _ => h, miss := vupd p.miss i fun _ => m }
      let k := s.g F.PRT_DIAG_PERSIST n
      if k ≤ h then s.setLead n i true else if k ≤ m then s.setLead n i false else s

/-- Live bits and persistence counts are held for 100 ms after a change of role (R71). -/
def State.leadHeld (s : State) (n : Nat) : Bool :=
  match (s.prt! n).roleAt with | some t0 => tdiff s.t t0 < 100 * msU | none => false

/-- The lead checks of a port in RESOLVER mode (R70). Live bits and counts outlive a restart and the end of RESOLVER mode
(log entry 91). -/
def State.leadCheck (s : State) (n : Nat) : State :=
  if s.resolver n && !s.leadHeld n then s.each 13 fun s i => s.leadBit n i else s

/-- The winding test takes the common-mode readings of the other pair over the last 50 ms of the hold (R72). -/
def State.windingReading (s : State) (n b : Nat) : State :=
  let p := s.prt! n
  let other := if p.wPair = 0 then 5 else 3
  if s.gb F.PRT_STAT_W2W_RUN n && b = other && 51 * msU ≤ tdiff s.t p.wStart && tdiff s.t p.wStart ≤ 101 * msU then
    s.updPrt n fun p => { p with wSum := p.wSum + s.lead n (other - 1) + s.lead n other, wCnt := p.wCnt + 1 }
  else s

/-- The AX pair's line check on its readings in DIGITAL mode: below 100 mV three times in succession (R79); a reading
above ends it. -/
def State.axLine (s : State) (n b : Nat) : State :=
  if s.digital n && b = 7 then
    if (s.lead n 6 - s.lead n 7).natAbs < 100 then s.updPrt n fun p => { p with lineX := p.lineX + 1 }
    else (s.updPrt n fun p => { p with lineX := 0 }).w F.PRT_STAT_LINE_AX n 0
  else s

/-- R70: one reading of the lead monitor; the eighth completes a set. -/
def doLeadReading (n : Nat) (mv : Nat) (s : State) : State :=
  let s := { s with t := s.now }
  let b := (s.prt! n).ball
  let s := s.w (F.PRT_LMON_VOLT b) n mv
  let s := s.measured (F.PRT_LMON_STATUS b) n (s.detStatus false false)
  let s := s.updPrt n fun p => { p with ball := (b + 1) % 8 }
  let s := (s.windingReading n b).axLine n b
  if b = 7 then s.leadCheck n else s

def execLeadReading (n : Fin 16) (mv : BitVec 16) (s : State) : Host.Outcome State Fault Refusal :=
  .next (doLeadReading n mv.toNat s)

/-! ### Winding test -/

/-- A winding test may run: RESOLVER mode, role not STANDBY, none running, no range change waiting without a crossing. -/
def State.windingAllowed (s : State) (n : Nat) : Bool :=
  let p := s.prt! n
  s.resolver n && !s.standby && !s.gb F.PRT_STAT_W2W_RUN n &&
    !((p.pendS.isSome || p.pendC.isSome) && !s.predicted n)

/-- The start of a winding test (R72, steps 1 and 2): pairs alternate, the baseline is the other pair's last common
mode (twice its value). The interval `W2W_PER` counts from every start, that of `W2W_NOW` too (log entry 89). -/
def State.windingStart (s : State) (n : Nat) : State :=
  let b := if (s.prt! n).wPair = 0 then 2 else 4
  let base := s.lead n b + s.lead n (b + 1)
  let go (p : PortSt) : PortSt :=
    { p with wPair := 1 - p.wPair, wStart := s.t, wLast := s.t, wSum := 0, wCnt := 0, wBase := base }
  (s.updPrt n go).w F.PRT_STAT_W2W_RUN n 1

def doWindingTestStart (n : Nat) (s : State) : State :=
  let s := { s with t := s.now }
  let per := s.g F.PRT_DIAG_W2W_PER n
  if s.windingAllowed n && per ≠ 0 && per * 1000 * msU ≤ tdiff s.t (s.prt! n).wLast then s.windingStart n else s

def execWindingTestStart (n : Fin 16) (s : State) : Host.Outcome State Fault Refusal :=
  .next (doWindingTestStart n s)

/-- `PRTn_CMD.W2W_NOW` (R72); while tests are suspended it is dropped (log entry 89). -/
def State.w2wNow (s : State) (n : Nat) : State := if s.windingAllowed n then s.windingStart n else s

def execW2wNow (src : Src) (n : Fin 16) (s : State) : Host.Outcome State Fault Refusal :=
  .next (s.via src 0x4000 fun s => s.w2wNow n)

/-- A running test ends unjudged when the port's role becomes STANDBY (R72). -/
def State.windingStop (s : State) (n : Nat) : State :=
  if s.gb F.PRT_STAT_W2W_RUN n then
    (s.w F.PRT_STAT_W2W_RUN n 0).updPrt n fun p => { p with wUntil := some (tadd s.t (20 * msU)) }
  else s

/-- R72, steps 3 and 4: 1 ms of ramp, 100 ms of hold and 1 ms back; then the test is judged, but within 100 ms of a change
of role (R71). Two failures in succession set W2W. -/
def doWindingTestEnd (n : Nat) (s : State) : State :=
  let s := { s with t := s.now }
  let p := s.prt! n
  if s.gb F.PRT_STAT_W2W_RUN n && 102 * msU ≤ tdiff s.t p.wStart then
    -- mean − baseline > W2W_TH % of 1000 mV, on sums of two balls and wCnt readings
    let fails := p.wCnt ≠ 0 ∧ (s.g F.PRT_DIAG_W2W_TH n : Int) * 20 * p.wCnt < p.wSum - p.wBase * p.wCnt
    let s := s.w F.PRT_STAT_W2W_RUN n 0
    let s := s.updPrt n fun p => { p with wUntil := some (tadd s.t (20 * msU)) }
    if s.leadHeld n then s
    else
      let s := s.updPrt n fun p => { p with wFails := if fails then p.wFails + 1 else 0 }
      if fails then (if 1 ≤ p.wFails then s.setLead n 8 true else s) else s.setLead n 8 false
  else s

def execWindingTestEnd (n : Fin 16) (s : State) : Host.Outcome State Fault Refusal :=
  .next (doWindingTestEnd n s)

/-! ### Clamps and line levels -/

/-- R58: the balls whose clamps conduct (SNP, SNN, CSP, CSN, AXP, AXN from bit 0). -/
def doClampConduct (n : Nat) (balls : Nat) (s : State) : State :=
  let s := { s with t := s.now }
  let s := (s.w F.PRT_STAT_CLAMP n (balls % 16)).w F.PRT_STAT_CLAMPX n (balls / 16)
  if balls = 0 then s else s.stickEv F.PRT_ISTKY_CLAMP n (17 + 2 * n)

def execClampConduct (n : Fin 16) (balls : BitVec 6) (s : State) : Host.Outcome State Fault Refusal :=
  .next (doClampConduct n balls.toNat s)

/-- One sample of a pair in DIGITAL mode (R79): counts samples below LINE_TH; a sample at or above ends the condition. Counts
and live bits outlive DIGITAL mode (log entry 91). -/
def State.lineSample (s : State) (n : Nat) (sine : Bool) (x : Int) : State :=
  if x.natAbs < s.g F.PRT_CMP_LINE_TH n * 20000 then
    s.updPrt n fun p => if sine then { p with lineS := p.lineS + 1 } else { p with lineC := p.lineC + 1 }
  else
    (s.updPrt n fun p => if sine then { p with lineS := 0 } else { p with lineC := 0 }).w
      (if sine then F.PRT_STAT_LINE_SN else F.PRT_STAT_LINE_CS) n 0

/-- A pair has stayed below its line level long enough (R79). -/
def State.lineLow (s : State) (n : Nat) : Pair → Bool
  | .sn => s.g F.PRT_CMP_LINE_T n < (s.prt! n).lineS
  | .cs => s.g F.PRT_CMP_LINE_T n < (s.prt! n).lineC
  | .ax => 3 ≤ (s.prt! n).lineX

/-- The live and sticky bits of a low line (R79), with event 17 + 2n. -/
def State.lineSet (s : State) (n : Nat) (p : Pair) : State :=
  match p with
  | .sn => (s.w F.PRT_STAT_LINE_SN n 1).stickEv F.PRT_ISTKY_LINE_SN n (17 + 2 * n)
  | .cs => (s.w F.PRT_STAT_LINE_CS n 1).stickEv F.PRT_ISTKY_LINE_CS n (17 + 2 * n)
  | .ax => (s.w F.PRT_STAT_LINE_AX n 1).stickEv F.PRT_ISTKY_LINE_AX n (17 + 2 * n)

/-- The bias network and the diagnostic injection of a port (R56, R57, R69) as its mode and the role give them. -/
def State.showBias (s : State) (n : Nat) : State :=
  let b := s.g F.PRT_CFG_MODE n ≠ 0 && !s.standby
  (s.wb F.PRT_STAT_BIAS n b).wb F.PRT_STAT_INJ n (b && s.resolver n && s.g F.PRT_DIAG_IDIAG n ≠ 0)

/-- A live lead fault of the sine or cosine pair: the port's samples carry DEGRADED (R73). -/
def State.leadDegraded (s : State) (n : Nat) : Bool := s.g F.PRT_LLIVE_LIVE n % 512 ≠ 0

end Sys2Proof.Machine
end

