-- ==== Sys2Proof/Machine/Excite.lean ====
section
/-! DEFINITION. Resolver excitation (chapter 3): driver states, requests and changes at zero crossings, the carrier phase
estimate, driver protection, the sense lock. -/

namespace Sys2Proof.Machine

/-! ### Driver states (Table 3-1) -/

abbrev dOff : Nat := 0
abbrev dSoft : Nat := 1
abbrev dRun : Nat := 2
abbrev dChanging : Nat := 3
abbrev dStopping : Nat := 4
abbrev dSense : Nat := 5
abbrev dFault : Nat := 6

def State.drv (s : State) (n : Nat) : Nat := s.g F.EXC_STAT_STATE n

/-- The checks of the envelope are armed (R140). -/
def State.envArmed (s : State) (n : Nat) : Bool :=
  let d := s.drv n
  s.resolver n && !(s.acq! n).gap && (d = dRun || d = dChanging || (d = dSense && s.gb F.EXC_STAT_LOCKED n))

/-- `ENV_ARM` follows at every change of the driver, of `LOCKED` or of the gap; while not armed, the live bits are 0 and
nothing is counted (R140). -/
def State.showArm (s : State) (n : Nat) : State :=
  let s := s.wb F.ACQ_STAT_ENV_ARM n (s.envArmed n)
  if s.envArmed n then s
  else ((s.w F.ACQ_STAT_ENV_HI n 0).w F.ACQ_STAT_ENV_LO n 0).updAcq n fun a =>
    { a with hiN := 0, hiOk := 0, loN := 0, loOk := 0 }

def State.setDrv (s : State) (n c : Nat) : State := (s.w F.EXC_STAT_STATE n c).showArm n
def State.setLocked (s : State) (n : Nat) (b : Bool) : State := (s.wb F.EXC_STAT_LOCKED n b).showArm n

/-- Effective frequency of a port (R93): a Vent override, its own frequency, or the selected plan's entry. -/
def State.effFreq (s : State) (n : Nat) : Nat :=
  match (s.exc! n).vFreq with
  | some f => f
  | none =>
    if s.gb F.EXC_CFG_OWN_FREQ n then s.g F.EXC_FREQ_FREQ n
    else s.g (F.EXC_PLAN_FREQ (s.g F.EXC_CTRL_PLAN)) n

/-- Effective amplitude of a port: a Vent override (R301) or `AMP`. -/
def State.effAmp (s : State) (n : Nat) : Nat :=
  match (s.exc! n).vAmp with
  | some a => a
  | none => s.g F.EXC_AMP_AMP n

/-- Shows the pending requests and `EXC_CSTAT.MIXED` (R92, R96). -/
def State.showPend (s : State) (n : Nat) : State :=
  let e := s.exc! n
  let s := (s.wb F.EXC_STAT_PEND_F n e.reqF.isSome).wb F.EXC_STAT_PEND_A n e.reqA.isSome
  s.wb F.EXC_CSTAT_MIXED 0 ((List.range 16).any fun p => (s.exc! p).mixed)

/-- The driver output disconnected: no ramp, no window, amplitude 0. -/
def ExcSt.undrive (e : ExcSt) : ExcSt :=
  { e with amp := 0, ramp := none, win := false, left := 0, fast := false, begun := false, avgL := [], reg := 0,
           limNow := false, wave := [], trim := 0 }

/-- Shows `PH_EST` in BAM16; the rounding from BAM32 is left open. -/
def State.showPhase (s : State) (n : Nat) : State :=
  s.w F.EXC_PHEST_PH n (rdiv 10 (s.exc! n).phEst 65536 % 65536).toNat

def State.phInit (s : State) (n : Nat) : Nat := s.g F.EXC_PHCFG_PH_INIT n * 65536

/-- Live and sticky drift (R100). -/
def State.checkDrift (s : State) (n : Nat) : State :=
  let d := (mdiff 32 (s.exc! n).phEst (s.phInit n)).natAbs
  let b := decide (s.g F.EXC_PTRK_PH_TOL n * 2 ^ 32 < d * 3600)
  let s := s.wb F.EXC_STAT_PH_DRIFT n b
  if b then s.stickEv F.EXC_STKY_PH_DRIFT n (48 + n) else s

/-- Drift is judged anew wherever `PH_EST`, `PH_INIT` or `PH_TOL` may have changed (R100). -/
def State.showLag (s : State) (n : Nat) : State := (s.showPhase n).checkDrift n

/-- Loads a phase estimate as an update (R98, R99, R30). -/
def State.setPhase (s : State) (n ph : Nat) : State :=
  let s := s.updExc n fun e => { e with phEst := ph % 2 ^ 32, phVal := true, phAt := s.t, phStale := false }
  let s := (s.showPhase n).measured F.EXC_PHEST_STATUS n (s.detStatus false false)
  s.checkDrift n

/-- Passes the frequency in force to the NCO (R82): no phase step. -/
def State.putFreq (s : State) (n f : Nat) : State :=
  (s.updExc n fun e => { e with freq := f, reqF := none, mixed := false }).showInc n

/-- FAULT (R102): high impedance, nothing limits or regulates. -/
def State.faultDrv (s : State) (n : Nat) : State :=
  let s := (s.setDrv n dFault).updExc n fun e => { e.undrive with mixed := false }
  ((s.w F.EXC_STAT_LIMITING n 0).w F.EXC_STAT_REG_ACT n 0).showPend n

/-- FAULT by a cause of Table 3-4 with a sticky bit. -/
def State.driverFault (s : State) (n : Nat) (cause : Fld) : State := (s.stickEv cause n (48 + n)).faultDrv n

/-- One leg or none: the driver cannot drive, and FAULT stays (R104, R535). -/
def State.legsGone (s : State) (n : Nat) : Bool := s.g F.EXC_STAT_LEGS n < 2

/-- Entry to SOFT (Table 3-1). From OFF the `PHOFS` in force replaces the offset last applied (R83). Stored requests take
effect (Table 3-2); `PH_EST` restarts at `PH_INIT`, not VALID (R98). A driver with one leg or none enters FAULT (R104). -/
def State.enterSoft (s : State) (n : Nat) (fromOff : Bool) : State :=
  if s.legsGone n then s.faultDrv n
  else
  let e := s.exc! n
  let ofs := if fromOff then s.g F.EXC_PHCFG_PHOFS n * 65536 else e.ofs
  let s := match e.reqF with
    | some f => s.putFreq n f
    | none => s
  let s := s.updExc n fun e =>
    { e.undrive with
      ph := (e.ph + ofs + 2 ^ 32 - e.ofs) % 2 ^ 32, ofs := ofs, target := e.reqA.getD (s.effAmp n), reqA := none,
      phEst := s.phInit n, phVal := false, phStale := false, openN := 0, limN := 0, limNow := false, jump := 0 }
  (((s.setDrv n dSoft).showPhase n).w F.EXC_PHEST_STATUS n 0).wb F.EXC_STAT_PH_DRIFT n false |>.showPend n

/-- A device of a twin that has not entered RUN holds no token and so drives nothing (R443, R444). -/
def State.awaitsRole (s : State) : Bool := s.g F.GLB_STATUS_MODE = 0 && s.gb F.TWN_CFG_EN

/-- The device drives its outputs: alone, or with the drive token in role ACTIVE (R443, R446). -/
def State.holdsToken (s : State) : Bool :=
  !s.awaitsRole && (s.g F.GLB_STATUS_ROLE = 0 || (s.g F.GLB_STATUS_ROLE = 1 && s.gb F.TWN_STAT_TOKEN))

/-- OFF is left when `ENABLE` is 1 in RESOLVER mode, the role not STANDBY, the drivers not held off (Table 3-1, R54). -/
def State.checkOff (s : State) (n : Nat) : State :=
  let e := s.exc! n
  if s.released 5 && s.drv n = dOff && s.gb F.EXC_CFG_ENABLE n && s.resolver n && !s.standby && !s.awaitsRole && 0 ≤ tdiff s.t e.hold &&
      e.nco then
    s.enterSoft n true
  else s

/-- The driver goes to OFF at once, without ramping. -/
def State.driverOff (s : State) (n : Nat) : State :=
  let s := (s.setDrv n dOff).updExc n fun e => { e.undrive with mixed := false }
  ((s.w F.EXC_STAT_LIMITING n 0).w F.EXC_STAT_REG_ACT n 0).showPend n

/-- Role STANDBY: SENSE, at once and without ramping (R105, R106). -/
def State.enterSense (s : State) (n : Nat) : State :=
  if s.resolver n then
    let s := (s.setDrv n dSense).updExc n fun e => { e.undrive with mixed := false, good := 0, bad := 0, trim := 0 }
    let s := (s.w F.EXC_STAT_LIMITING n 0).w F.EXC_STAT_REG_ACT n 0
    (s.setLocked n false).showPend n
  else s

/-- SENSE left without a takeover: to SOFT if `ENABLE` is 1, else OFF (Table 3-1). -/
def State.leaveSense (s : State) (n : Nat) : State :=
  if s.drv n = dSense then
    let s := (s.setLocked n false).updExc n fun e => { e with trim := 0 }
    if s.gb F.EXC_CFG_ENABLE n then s.enterSoft n false else s.driverOff n
  else s

/-- The NCO and the driver at a port restart or a change of mode (R54, R83, R92): OFF at once, pending requests discarded,
the NCO started at `PHOFS` in RESOLVER mode, stopped in the others. In role STANDBY a port in RESOLVER mode goes on to SENSE
at once and any other stays OFF (log entry 92). -/
def State.excRestart (s : State) (n : Nat) (modeChange : Bool) : State :=
  let s := s.updExc n fun e =>
    { e with reqF := none, reqA := none, vFreq := none, vAmp := none, reOn := false, reacq := 0, openN := 0, limN := 0,
             limNow := false, jump := 0, used := 0, refd := 0, accI := 0, accQ := 0, sI := 0, sQ := 0, cI := 0,
             cQ := 0, hold := if modeChange then tadd s.t usU else e.hold }
  let s := s.driverOff n
  let ofs := s.g F.EXC_PHCFG_PHOFS n * 65536
  let run := s.resolver n
  let s := s.updExc n fun e =>
    { e with nco := run, fresh := run, ph := if run then ofs else e.ph, ofs := ofs, racc := 0, trim := 0,
             freq := s.effFreq n, target := s.effAmp n, perAt := s.k }
  let s := (s.showInc n).setLocked n false
  if run && s.standby then s.enterSense n else s.checkOff n

/-- The measured VEXC falls short of what the amplitude needs (R88): √2 · AMP + 0.8 V > VEXC. -/
def State.vexcShort (s : State) (n : Nat) : Bool :=
  let v : Int := (s.g F.EXC_VEXC_VEXC : Int) - 800
  let a : Int := (s.exc! n).target
  s.drives n && bitOf (s.g F.EXC_VEXC_STATUS) 0 && (v ≤ 0 || v * v < 2 * a * a)

/-- The largest amplitude (2⁻¹⁶ mVrms) that VEXC allows (R88). -/
def State.vexcAmp (s : State) : Int :=
  let v := s.g F.EXC_VEXC_VEXC - 800
  sqrtF 7 (v * v * 2 ^ 31)

/-- The amplitude at an instant without the far-end correction: soft-start ramp, ramp of a change, or the target. -/
def State.baseAt (s : State) (n t : Nat) : Int :=
  let e := s.exc! n
  if s.drv n = dSoft then
    if e.begun then
      let el := tdiff t e.softAt
      if 10 * msU ≤ el then e.target * 65536 else if el ≤ 0 then 0 else rdiv 8 (e.target * 65536 * el) (10 * msU)
    else 0
  else
    match e.ramp with
    | some r => r.at t
    | none => e.target * 65536

/-- The amplitude driven at an instant: the base with the far-end correction (R101), within the limit of R88. -/
def State.ampAt (s : State) (n t : Nat) : Int :=
  let a := s.baseAt n t + (s.exc! n).reg
  if s.vexcShort n then min a s.vexcAmp else a

/-! ### The drive waveform (R84) -/

/-- Point `i` of the 1024-point sine table, in 2⁻³⁰; its width is left open (log entry 5). -/
def sineTable (i : Nat) : Int := sinQ 24 (i % 1024 * 2 ^ 22)

/-- The sine table with linear interpolation between its points. -/
def sineInterp (ph : Nat) : Int :=
  let i := ph / 2 ^ 22
  sineTable i + (sineTable (i + 1) - sineTable i) * (ph % 2 ^ 22 : Nat) / 2 ^ 22

/-- The waveform at an NCO phase, in 2⁻³⁰ of the amplitude: the fundamental and H3 × sin(3 · 2π · phase), `H3` in 0.05 %. -/
def waveOf (ph : Nat) (h3 : Int) : Int := sineInterp ph + h3 * sinQ 25 (3 * ph % 2 ^ 32) / 2000

/-- The NCO phase interpolated to point `j` of 8 after the newest sample. -/
def ExcSt.phaseAt (e : ExcSt) (j : Nat) : Nat := (e.ph + e.step * j / 8) % 2 ^ 32

/-- The code of the 16-bit DAC for point `j`; full scale is 7.5 Vrms (R88, log entry 94). -/
def State.dacCode (s : State) (n j : Nat) : Int :=
  let a := s.ampAt n (tadd s.now (j * 1600))
  satS 16 (rdiv 17 (a * waveOf ((s.exc! n).phaseAt j) (s.gi F.EXC_CFG_H3 n) * 32767) (7500 * 65536 * 2 ^ 30))

/-- The points of the drive waveform from point `j` of this sample period on. -/
def State.putWave (s : State) (n j : Nat) : State :=
  if s.drives n then
    s.updExc n fun e => { e with wave := (e.wave ++ List.replicate 8 0).take j ++ ((List.range 8).drop j).map fun i => s.dacCode n i }
  else s.updExc n fun e => { e with wave := [] }

/-- The first point at or after the coming crossing. -/
def ExcSt.crossPoint (e : ExcSt) : Nat := if e.step = 0 then 0 else (8 * (2 ^ 31 - e.ph % 2 ^ 31) + e.step - 1) / e.step

/-- `ENABLE` was written (Table 3-1): 1 leaves OFF, 0 in SOFT, RUN or CHANGING begins STOPPING. In SOFT the amplitude
reached is held until the crossing from which it ramps to 0 (R87). -/
def State.enableChanged (s : State) (n : Nat) : State :=
  let d := s.drv n
  if !s.gb F.EXC_CFG_ENABLE n && (d = dSoft || d = dRun || d = dChanging) then
    let a := s.baseAt n s.t
    ((s.setDrv n dStopping).updExc n fun e =>
      { e with begun := false, mixed := false, ramp := if d = dSoft then some ⟨a, a, s.t, 0⟩ else e.ramp }).showPend n
  else s.checkOff n

/-! ### Requests (R92, R93) -/

/-- A frequency request. `plan`: it comes from a plan change (R96). -/
def State.requestFreq (s : State) (n f : Nat) (plan : Bool) : State :=
  let e := s.exc! n
  if !e.nco then s.updExc n fun e => { e with freq := f }
  else
    let pend := if f = e.freq then none else some f
    let d := s.drv n
    (s.updExc n fun e =>
      { e with reqF := pend,
               mixed := if pend.isNone then false
                 else e.mixed || (plan && (d = dSoft || d = dRun || d = dChanging)) }).showPend n

/-- An amplitude request; in SOFT the target changes at once (R87). -/
def State.requestAmp (s : State) (n a : Nat) : State :=
  let e := s.exc! n
  if !e.nco then s.updExc n fun e => { e with target := a }
  else if s.drv n = dSoft then (s.updExc n fun e => { e with target := a, reqA := none }).showPend n
  else (s.updExc n fun e => { e with reqA := if a = e.target then none else some a }).showPend n

/-! ### Crossings -/

/-- BAM from the newest sample to the next crossing of 0 or ½ turn. -/
def ExcSt.toCross (e : ExcSt) : Nat := 2 ^ 31 - e.ph % 2 ^ 31

/-- The instant of the next crossing. -/
def State.crossAt (s : State) (n : Nat) : Nat :=
  let e := s.exc! n
  if e.step = 0 then s.now else tadd s.now (rdiv 6 (e.toCross * sampleU) e.step)

/-- The port's NCO crosses before the next sample. -/
def State.crossing (s : State) (n : Nat) : Bool := (s.exc! n).halfCrossing 0

/-- A window of `p` carrier periods opens at the coming crossing (R91). -/
def ExcSt.openWin (e : ExcSt) (p : Nat) : ExcSt := { e with win := true, left := e.toCross + p * 2 ^ 32 }

/-- A window that has run for its periods ends before the next sample. -/
def ExcSt.winEnds (e : ExcSt) : Bool := e.win && e.nco && e.left ≤ e.step

/-- R87: the first crossing in SOFT begins the ramp and its SETTLING. -/
def doSoftStartBegin (n : Nat) (s : State) : State :=
  if s.drv n = dSoft && !(s.exc! n).begun && s.crossing n then
    let t := s.crossAt n
    let j := (s.exc! n).crossPoint
    ({ s with t := t }.updExc n fun e => { e with begun := true, win := true, softAt := t, avgL := [] }).putWave n j
  else s

def execSoftStartBegin (n : Fin 16) (s : State) : Host.Outcome State Fault Refusal := .next (doSoftStartBegin n s)

/-- The mean of BAM values around a reference, as a BAM value. -/
def meanAround (ref : Nat) (l : List Nat) : Nat :=
  enc 32 ((ref : Int) + rdiv 11 ((l.map fun v => mdiff 32 v ref).foldl (· + ·) 0) l.length)

/-- R87, R98: the first crossing at or after 10 ms ends the soft start; the initial results of its last 5 ms give
`PH_EST`. -/
def doSoftStartEnd (n : Nat) (s : State) : State :=
  let e := s.exc! n
  let t := s.crossAt n
  if s.drv n = dSoft && e.begun && s.crossing n && 10 * msU ≤ tdiff t e.softAt then
    let res := (e.avgL.filter fun r => tdiff t r.1 ≤ 5 * msU).map Prod.snd
    let s := { s with t := t }
    let s := (s.setDrv n dRun).updExc n fun e =>
      { e with begun := false, win := false, avgL := [], phAt := t, amp := e.target * 65536 }
    if res.isEmpty then s else s.setPhase n (meanAround (s.phInit n) res)
  else s

def execSoftStartEnd (n : Fin 16) (s : State) : Host.Outcome State Fault Refusal := .next (doSoftStartEnd n s)

/-- R87: the next crossing begins the ramp to 0 over four carrier periods. -/
def doStopBegin (n : Nat) (s : State) : State :=
  let e := s.exc! n
  if s.drv n = dStopping && !e.begun && s.crossing n then
    let t := s.crossAt n
    let a := s.ampAt n t
    ({ s with t := t }.updExc n fun e =>
      { e.openWin 4 with begun := true, fast := false, reg := 0, ramp := some ⟨a, 0, t, 4 * periodU e.freq⟩ }).putWave n
      e.crossPoint
  else s

def execStopBegin (n : Fin 16) (s : State) : Host.Outcome State Fault Refusal := .next (doStopBegin n s)

/-- The end of STOPPING: OFF, and SOFT where `ENABLE` is 1 again (Table 3-1). -/
def doStopEnd (n : Nat) (s : State) : State :=
  let e := s.exc! n
  if s.drv n = dStopping && e.begun && e.winEnds then
    let s := { s with t := if e.step = 0 then s.now else tadd s.now (rdiv 6 (e.left * sampleU) e.step) }
    (s.driverOff n).checkOff n
  else s

def execStopEnd (n : Fin 16) (s : State) : Host.Outcome State Fault Refusal := .next (doStopEnd n s)

/-- The increment changes at the coming crossing, the phase runs on without a step (R89); a lock loop's correction ends. -/
def State.stepAtCrossing (s : State) (n f : Nat) : State :=
  let e := s.exc! n
  let d := e.toCross
  let old := e.step
  let s := (s.putFreq n f).updExc n fun e' => { e' with trim := 0 }
  s.updExc n fun e' =>
    { e' with ph := enc 32 ((e.ph : Int) + d - (if old = 0 then 0 else rdiv 13 (d * e'.step) old)) }

/-- The frequency takes effect at the coming crossing (R89); the lag estimate scales with the frequency (R98). -/
def State.freqAtCrossing (s : State) (n f : Nat) : State :=
  let e := s.exc! n
  let lag := rdiv 12 (mdiff 32 e.phEst 0 * f) e.freq
  ((s.stepAtCrossing n f).updExc n fun e' => { e' with phEst := enc 32 lag, fast := true }).showLag n

/-- Starts the pending changes at the coming crossing (R89, R90, Table 3-2). -/
def State.startChanges (s : State) (n : Nat) : State :=
  let e := s.exc! n
  let t := s.crossAt n
  let s := { s with t := t }
  let s := match e.reqF with
    | some f => s.freqAtCrossing n f
    | none => s
  let p := max (if e.reqA.isSome then 4 else 0) (if e.reqF.isSome then s.g F.EXC_CFG_SETTLE_P n else 0)
  let b := s.baseAt n t
  let s := s.updExc n fun e' =>
    let e' := e'.openWin p
    match e.reqA with
    | some a => { e' with target := a, reqA := none, ramp := some ⟨b, a * 65536, t, 4 * periodU e'.freq⟩ }
    | none => e'
  ((s.setDrv n dChanging).showPend n).putWave n e.crossPoint

/-- R89: a pending frequency change starts at the crossing, an amplitude change pending with it. -/
def doFrequencyChangeStart (n : Nat) (s : State) : State :=
  if s.drv n = dRun && (s.exc! n).reqF.isSome && s.crossing n then s.startChanges n else s

def execFrequencyChangeStart (n : Fin 16) (s : State) : Host.Outcome State Fault Refusal :=
  .next (doFrequencyChangeStart n s)

/-- R90: a pending amplitude change starts at the crossing. -/
def doAmplitudeChangeStart (n : Nat) (s : State) : State :=
  if s.drv n = dRun && (s.exc! n).reqA.isSome && s.crossing n then s.startChanges n else s

def execAmplitudeChangeStart (n : Fin 16) (s : State) : Host.Outcome State Fault Refusal :=
  .next (doAmplitudeChangeStart n s)

/-- R91: the end of a change window. -/
def doChangeWindowEnd (n : Nat) (s : State) : State :=
  let e := s.exc! n
  if s.drv n = dChanging && e.winEnds then
    let s := { s with t := if e.step = 0 then s.now else tadd s.now (rdiv 6 (e.left * sampleU) e.step) }
    (s.setDrv n dRun).updExc n fun e => { e with win := false, left := 0, ramp := none, fast := false }
  else s

def execChangeWindowEnd (n : Fin 16) (s : State) : Host.Outcome State Fault Refusal := .next (doChangeWindowEnd n s)

/-! ### One sample of the driver (R82, R84, R87, R88, R90) -/

/-- The NCO, the amplitude and the shortfall of VEXC at a new sample (R82, R87 to R90). -/
def State.excSample (s : State) (n : Nat) : State :=
  let s := s.updExc n fun e => { e.advance with left := if e.nco then e.left - e.step else e.left }
  let s := s.checkOff n
  if s.drives n then
    let sh := s.vexcShort n
    let s := (s.updExc n fun e => { e with amp := s.ampAt n s.now, short := sh }).putWave n 0
    if sh then s.stickEv F.EXC_STKY_VEXC_LOW n (48 + n) else s
  else s.updExc n fun e => { e with amp := 0, short := false, wave := [] }

/-- SETTLING that the excitation gives the samples of a port (R91, R105). -/
def State.excSettling (s : State) (n : Nat) : Bool :=
  (s.exc! n).win || (s.drv n = dSense && !s.gb F.EXC_STAT_LOCKED n)

/-- DEGRADED that the excitation gives them (R88, R99, R102, R104). -/
def State.excDegraded (s : State) (n : Nat) : Bool :=
  let e := s.exc! n
  e.short || (s.drives n && (e.limNow || s.gb F.EXC_STAT_LIMITING n)) || (s.drives n && 4 ≤ e.openN) || e.phStale || (s.resolver n && s.g F.EXC_STAT_LEGS n = 2) ||
    s.snt.deg.any fun (d : Nat × Nat) => d.1 = n && 0 ≤ tdiff d.2 s.now

/-! ### The carrier period (R97 to R102, R105) -/

/-- One sample into the sums of the carrier period (R97): `ang`, the observer's angle where it qualifies. -/
def State.lagSample (s : State) (n : Nat) (xs xc : Int) (ang : Option Nat) : State :=
  s.updExc n fun e =>
    let sn := sinQ 20 e.ph
    let cn := cosQ 20 e.ph
    let e := { e with sI := e.sI + xs * sn, sQ := e.sQ + xs * cn, cI := e.cI + xc * sn, cQ := e.cQ + xc * cn,
                      used := e.used + 1 }
    match ang with
    | some a =>
      let u := xs * sinQ 21 a + xc * cosQ 21 a
      { e with accI := e.accI + u * sn / 2 ^ 30, accQ := e.accQ + u * cn / 2 ^ 30, refd := e.refd + 1 }
    | none => e

/-- The initial estimator (R97): of λ and λ + ½ the one nearer to `PH_INIT`; none without a carrier. -/
def ExcSt.initial (e : ExcSt) (phInit : Nat) : Option Nat :=
  let c := e.sI * e.sI - e.sQ * e.sQ + e.cI * e.cI - e.cQ * e.cQ
  let q := -2 * (e.sI * e.sQ + e.cI * e.cQ)
  if e.used = 0 ∨ (c = 0 ∧ q = 0) then none
  else
    let l := atan2B 22 32 q c / 2
    let l' := (l + 2 ^ 31) % 2 ^ 32
    some (if (mdiff 32 l' phInit).natAbs < (mdiff 32 l phInit).natAbs then l' else l)

/-- The angle-referenced estimator (R97): every sample used had a qualifying angle. -/
def ExcSt.referenced (e : ExcSt) : Option Nat :=
  if e.used = 0 ∨ e.refd ≠ e.used ∨ (e.accI = 0 ∧ e.accQ = 0) then none
  else some (atan2B 23 32 (-e.accQ) e.accI)

/-- The lag of the period and the phase estimate (R97, R98, R100). -/
def State.phasePeriod (s : State) (n : Nat) : State :=
  let e := s.exc! n
  let d := s.drv n
  let init := e.initial (s.phInit n)
  if !(s.drives n || d = dSense) then s
  else if d = dSoft || e.reOn then
    let s := s.updExc n fun e => { e with reacq := e.reacq - 1 }
    match init with
    | some l => (s.w F.EXC_STAT_PH_SRC n 0).updExc n fun e =>
        { e with avgL := if d = dSoft then (s.t, l) :: e.avgL else e.avgL,
                 reSum := if e.reOn then e.reSum + mdiff 32 l e.phEst else e.reSum,
                 reN := if e.reOn then e.reN + 1 else e.reN }
    | none => s
  else
    let r := e.referenced
    match (match r with | some l => some l | none => init) with
    | none => s
    | some l =>
      let s := s.wb F.EXC_STAT_PH_SRC n r.isSome
      let df := mdiff 32 l e.phEst
      let j := if s.g F.EXC_PTRK_PH_JMP n * 2 ^ 32 < df.natAbs * 3600 then e.jump + 1 else 0
      let s := s.updExc n fun e => { e with jump := j }
      let s := if 8 ≤ j then s.stickEv F.EXC_STKY_PH_JUMP n (48 + n) else s
      let st := if e.fast then rdiv 14 df 2 else rdiv 14 (df * 1000000) (e.freq * s.g F.EXC_PTRK_TAU n)
      s.setPhase n (enc 32 ((e.phEst : Int) + st))

/-- `AX_USE` is not 1: `EXCn_VFAR` is not VALID and nothing is regulated (R101, Table 3-5). -/
def State.farOff (s : State) (n : Nat) : State :=
  if s.g F.PRT_CFG_AX_USE n = 1 then s
  else ((s.w F.EXC_VFAR_STATUS n 0).w F.EXC_STAT_REG_ACT n 0).updExc n fun e => { e with reg := 0 }

/-- Far-end measurement and regulation (R101). SOFT, STOPPING and the ramp of an amplitude change are linear (R87, R90), so the
loop rests in them (log entry 95). -/
def State.farEnd (s : State) (n vfar : Nat) : State :=
  if s.g F.PRT_CFG_AX_USE n = 1 then
    let s := (s.w F.EXC_VFAR_VRMS n (min vfar 65535)).measured F.EXC_VFAR_STATUS n (s.detStatus false false)
    let act := s.gb F.EXC_CFG_AMP_REG n && (s.drv n = dRun || s.drv n = dChanging)
    let s := s.wb F.EXC_STAT_REG_ACT n act
    if act && (s.exc! n).ramp.isNone then
      let e := s.exc! n
      let amp : Int := e.target
      let c := (e.reg : Int) + rdiv 15 ((amp - vfar) * 65536 * 1000000) (e.freq * 200)
      let lim := max 0 (min (amp * 65536 / 4)
        (if bitOf (s.g F.EXC_VEXC_STATUS) 0 then s.vexcAmp - amp * 65536 else amp * 65536 / 4))
      let s := s.updExc n fun e => { e with reg := (clampI 0 lim c).toNat }
      if lim ≤ c then s.stickEv F.EXC_STKY_REG_SAT n (48 + n) else s
    else s.updExc n fun e => { e with reg := if act then e.reg else 0 }
  else s.farOff n

/-- Voltage, current and the tests of Table 3-4 that a period decides (R102). -/
def State.protect (s : State) (n : Nat) (m : PeriodIn) : State :=
  let v := min m.vsense 65535
  let i := min m.isense 65535
  let s := (s.w F.EXC_VSENSE_VRMS n v).measured F.EXC_VSENSE_STATUS n (s.detStatus false false)
  let s := (s.w F.EXC_ISENSE_IRMS n i).measured F.EXC_ISENSE_STATUS n (s.detStatus false false)
  if s.drives n then
    let e := s.exc! n
    let op := i < s.g F.EXC_DTH_IOPEN n * 10 ∧ 500 * 65536 ≤ e.amp
    let k := if op then e.openN + 1 else 0
    let s := s.updExc n fun e => { e with openN := k }
    let s := if 4 ≤ k then s.stickEv F.EXC_STKY_OPEN_EX n (48 + n) else s
    let s := s.wb F.EXC_STAT_LIMITING n e.limNow
    let lim := if e.limNow then e.limN + 1 else 0
    let s := s.updExc n fun e => { e with limN := lim, limNow := false }
    let s := if e.limNow then s.bump F.EXC_LIMCNT_COUNT n else s
    let short := v * 100 < s.g F.EXC_DTH_ZSHORT n * i
    let s := if s.g F.EXC_CFG_LIM_N n ≤ lim then s.driverFault n F.EXC_STKY_OVERLOAD else s
    if short then s.driverFault n F.EXC_STKY_SHORT_EX else s
  else s

/-- The driver's own output delay at the port's frequency as a BAM32 phase, held in trim (R105). -/
def State.outDelay (s : State) (n : Nat) : Int :=
  rdiv 18 ((Config.outDelay n).toNat * (s.exc! n).freq * 2 ^ 32) 64000000000000

/-- The driver's own bias on the EXC pair is connected: in roles SOLO and ACTIVE but for OFF and FAULT (R105). -/
def State.excBias (s : State) (n : Nat) : Bool := !s.standby && s.drv n ≠ dOff && s.drv n ≠ dFault

/-- The correction of the increment in SENSE (R105): to the sensed frequency, and 2π × 20 Hz of the phase error, within
±0.2 % (log entry 12). -/
def ExcSt.lockTrim (e : ExcSt) (sfreq : Nat) (err : Int) : Int :=
  let lim : Int := incI e.freq / 500
  clampI (-lim) lim (rdiv 19 (((sfreq : Int) - e.freq) * 2 ^ 23) incDiv + rdiv 9 (err * 125663706) 5000000000000)

/-- The lock to the partner's carrier (R105): the error is that of the sensed phase, corrected by the output delay, against
the NCO's. -/
def State.senseLock (s : State) (n : Nat) (m : PeriodIn) : State :=
  if s.drv n = dSense then
    let e := s.exc! n
    let off := 2 * e.freq < ((m.sfreq : Int) - e.freq).natAbs * 1000
    let d := sgn 32 (enc 32 (m.sphase + s.outDelay n))
    let err := d.natAbs
    let good := if ¬off ∧ err * 1000 < 2 * 2 ^ 32 then e.good + 1 else 0
    let bad := if 2 ^ 32 < err * 100 then e.bad + 1 else 0
    let s := s.updExc n fun e =>
      { e with good := good, bad := bad, trim := if off then 0 else e.lockTrim m.sfreq d }
    let s := if off then s.stickEv F.EXC_STKY_FREQ_MIS n (48 + n) else s
    if s.gb F.EXC_STAT_LOCKED n then
      if 4 ≤ bad then (s.setLocked n false).stickEv F.EXC_STKY_LOCK_LOST n (48 + n) else s
    else if 16 ≤ good then s.setLocked n true else s
  else s

/-- The NCO passes phase 0 before the next sample, for the first time since the last period end. -/
def State.periodDue (s : State) (n : Nat) : Bool := (s.exc! n).periodCrossing && (s.exc! n).perAt ≠ s.k

/-- The excitation's part of a carrier-period end. -/
def State.excPeriod (s : State) (n : Nat) (m : PeriodIn) : State :=
  let s := s.phasePeriod n
  let s := s.farEnd n m.vfar
  let s := (s.protect n m).senseLock n m
  s.updExc n fun e =>
    { e with accI := 0, accQ := 0, sI := 0, sQ := 0, cI := 0, cQ := 0, used := 0, refd := 0, perAt := s.k }

/-! ### Commands and measurements -/

/-- R98: `PH_REACQ` runs the initial estimator over the next 32 periods. -/
def State.phReacq (s : State) (n : Nat) : State :=
  s.updExc n fun e => { e with reOn := true, reacq := 32, reSum := 0, reN := 0 }

def execPhReacq (src : Src) (n : Fin 16) (s : State) : Host.Outcome State Fault Refusal :=
  .next (s.via src 0x5000 fun s => s.phReacq n)

/-- R98: the average of the 32 periods is loaded. -/
def doPhReacqDone (n : Nat) (s : State) : State :=
  let e := s.exc! n
  if e.reOn && e.reacq = 0 then
    let s := { s with t := s.now }.updExc n fun e => { e with reOn := false }
    if e.reN = 0 then s else s.setPhase n (enc 32 ((e.phEst : Int) + rdiv 16 e.reSum e.reN))
  else s

def execPhReacqDone (n : Fin 16) (s : State) : Host.Outcome State Fault Refusal := .next (doPhReacqDone n s)

/-- R99: no update for 10 s in RUN degrades the samples until the next. -/
def doPhEstStale (n : Nat) (s : State) : State :=
  if s.drv n = dRun && 10000 * msU ≤ tdiff s.now (s.exc! n).phAt then
    { s with t := s.now }.updExc n fun e => { e with phStale := true }
  else s

def execPhEstStale (n : Fin 16) (s : State) : Host.Outcome State Fault Refusal := .next (doPhEstStale n s)

/-- The current limit in force in mA peak: with two legs at most 100 mA (R104). -/
def State.ilim (s : State) (n : Nat) : Nat :=
  if s.g F.EXC_STAT_LEGS n = 2 then min 100 (s.g F.EXC_CFG_ILIM n) else s.g F.EXC_CFG_ILIM n

/-- Table 3-4: the output current, of peak `peak` mA if it were not clipped, reaches the limit. -/
def doCurrentLimit (n peak : Nat) (s : State) : State :=
  if s.drives n && s.ilim n ≤ peak then
    ({ s with t := s.now }.updExc n fun e => { e with limNow := true }).w F.EXC_STAT_LIMITING n 1
  else s

def execCurrentLimit (m : LimitIn) (s : State) : Host.Outcome State Fault Refusal :=
  .next (doCurrentLimit m.port m.peak.toNat s)

/-- R102: the driver temperature, every 1 ms, with the hot and too-hot rows of Table 3-4. -/
def doDriverTempMeasure (n : Nat) (temp : Nat) (s : State) : State :=
  let s := { s with t := s.now }
  let s := (s.w F.EXC_DTEMP_TEMP n temp).measured F.EXC_DTEMP_STATUS n (s.detStatus false false)
  let t := sgn 16 temp
  let hot := s.drives n && 140 * 256 ≤ t
  let s := s.wb F.EXC_STAT_THERM_W n hot
  let s := if hot then s.stickEv F.EXC_STKY_THERM_WARN n (48 + n) else s
  if s.drives n && 155 * 256 ≤ t then s.driverFault n F.EXC_STKY_THERM_OFF else s

def execDriverTempMeasure (n : Fin 16) (temp : BitVec 16) (s : State) : Host.Outcome State Fault Refusal :=
  .next (doDriverTempMeasure n temp.toNat s)

/-- R88: VEXC, every 1 ms; a shortfall sets `VEXC_LOW` of the ports it meets. -/
def doVexcMeasure (mv : Nat) (s : State) : State :=
  let s := { s with t := s.now }
  let s := (s.w F.EXC_VEXC_VEXC 0 mv).measured F.EXC_VEXC_STATUS 0 (s.detStatus false false)
  s.each 16 fun s n =>
    let sh := s.vexcShort n
    let s := s.updExc n fun e => { e with short := sh }
    if sh then s.stickEv F.EXC_STKY_VEXC_LOW n (48 + n) else s

def execVexcMeasure (mv : BitVec 16) (s : State) : Host.Outcome State Fault Refusal :=
  .next (doVexcMeasure mv.toNat s)

/-- R535: FAULT is left where no cause is present: the temperature below 130 °C, two legs or more. -/
def State.restartDrv (s : State) (n : Nat) : State :=
  if s.drv n = dFault && s.gi F.EXC_DTEMP_TEMP n < 130 * 256 && 2 ≤ s.g F.EXC_STAT_LEGS n then
    if s.gb F.EXC_CFG_ENABLE n then s.enterSoft n false else s.driverOff n
  else s

def execRestartDrv (src : Src) (n : Fin 16) (s : State) : Host.Outcome State Fault Refusal :=
  .next (s.via src 0x5000 fun s => s.restartDrv n)

end Sys2Proof.Machine
end

