-- ==== Sys2Proof/Machine/Notch.lean ====
section
/-! DEFINITION. The half-period sum (R125) and the observer notch (Table 4-2): FAST, CLEAN, and MINPHASE as two biquads
with their zeros at 2f_c and 4f_c. The spec gives the poles of MINPHASE by what the filter has to meet: any pair of
poles that meets Table 4-2 may be the device's (log entry 13). -/

namespace Sys2Proof.Machine

/-! ### Half-period sums (R125) -/

/-- Samples in H, times mHz: 2 500 000 Hz for a half period, 5 000 000 Hz for a whole one. -/
abbrev halfN : Nat := 2500000000
abbrev fullN : Nat := 5000000000

/-- The sum of R125 over H = N/f samples, exact but for its last place. -/
def hps (nn f : Nat) (d : List Int) : Int :=
  let k := nn / f
  let r := nn % f
  let f2 : Int := f * f
  let mid := ((d.drop 1).take (k - 1)).foldl (· + ·) 0
  rdiv 30 (f2 * lget d 0 + 2 * f2 * mid + (f2 + 2 * r * f - r * r) * lget d k + (r : Int) * r * lget d (k + 1))
    (2 * f * nn)

/-- ⌈N/f⌉. -/
def ceilN (nn f : Nat) : Nat := (nn + f - 1) / f

/-- Settling length of the notch (R128): H, 2H, or four carrier periods. -/
def notchSettle (mode f : Nat) : Nat :=
  match mode with
  | 0 => ceilN halfN f
  | 1 => ceilN fullN f
  | _ => ceilN (4 * fullN) f

/-- Samples that enter one notch output (R126). -/
def notchSpan (mode f : Nat) : Nat :=
  match mode with
  | 0 => ceilN halfN f + 1
  | 1 => 2 * ceilN halfN f + 1
  | _ => ceilN (2 * fullN) f

/-! ### MINPHASE (Table 4-2)

A biquad with zeros on the unit circle at the angle ω₀ has the numerator 1 − 2 cos ω₀ z⁻¹ + z⁻², that is
(1 − z⁻¹)² + q z⁻¹ with q = 4 sin²(ω₀/2); with the denominator 1 + a₁ z⁻¹ + a₂ z⁻², p = 1 + a₁ + a₂ and r = 1 − a₂, its
gain at 0 Hz is 1 after the factor p/q and its delay there is r/p samples. q, p and r are held in 2⁻⁶⁰. -/

/-- q of the zeros at 2f_c (`m` = 1) or 4f_c (`m` = 2); ω₀/2 is m · 2π f_c T_s. -/
def mpZero (m f : Nat) : Int := 4 * sinQ 27 (m * incI f) * sinQ 27 (m * incI f)

/-- Zeros and poles of one biquad. -/
structure Biquad where
  q : Int
  p : Int
  r : Int
deriving DecidableEq, Repr, Inhabited

/-- Real and imaginary part of the denominator at an angle (2⁻⁶⁰, turned by one sample), from 4 sin²(ω/2), sin ω
(2⁻³⁰) of that angle. -/
def Biquad.den (b : Biquad) (x sn : Int) : Int × Int :=
  (b.p - (2 ^ 61 - b.r) * x / 2 ^ 61, b.r * sn / 2 ^ 30)

/-- Half an angle of BAM32 as q of that angle, and its sine. -/
def mpAngle (h : Nat) : Int × Int := (4 * sinQ 27 h * sinQ 27 h, sinQ 27 (2 * h))

/-- |H|² of a biquad at the angle of half-BAM `h`: numerator and denominator, in 2⁻⁶⁰ each. -/
def Biquad.gain2 (b : Biquad) (h : Nat) : Int × Int :=
  let (x, sn) := mpAngle h
  let (re, im) := b.den x sn
  let num := b.p * (b.q - x) / max 1 b.q
  (num * num / 2 ^ 60, (re * re + im * im) / 2 ^ 60)

/-- The group delay of a biquad at the angle of half-BAM `h`, in 2⁻³⁰ samples. -/
def Biquad.delay (b : Biquad) (h : Nat) : Int :=
  let (x, sn) := mpAngle h
  let (re, im) := b.den x sn
  let cs := cosQ 27 (2 * h)
  let num := b.r * cs / 2 ^ 30 * re + b.r * (2 ^ 61 - b.r) / 2 ^ 60 * sn / 2 ^ 30 * sn / 2 ^ 30 * 2 ^ 60
  num * 2 ^ 30 / max 1 (re * re + im * im)

/-- Delay of the pair at 0 Hz in 2⁻³⁰ samples. -/
def mpDelay0 (b c : Biquad) : Int := b.r * 2 ^ 30 / max 1 b.p + c.r * 2 ^ 30 / max 1 c.p

/-- The pair meets Table 4-2 at the carrier `f` (mHz): at least 40 dB at 0.99 and 1.01 of 2f_c and 4f_c, a delay at 0 Hz
within T_c/16 ± 10 %, between T_c/24 and T_c/10 at eight frequencies up to f_c/8; the poles lie inside the unit circle. -/
def mpMeets (f : Nat) (b c : Biquad) : Bool :=
  let tc : Int := fullN * 2 ^ 30 / f
  let stable (x : Biquad) : Bool := 0 < x.p && 0 < x.r && x.r < 2 ^ 60 && x.p < 2 ^ 61
  let deep (h : Nat) : Bool :=
    let (n1, d1) := b.gain2 h
    let (n2, d2) := c.gain2 h
    10000 * n1 * n2 ≤ d1 * d2
  let d0 := mpDelay0 b c
  stable b && stable c && deep (incI f * 99 / 100) && deep (incI f * 101 / 100) && deep (incI f * 198 / 100) &&
    deep (incI f * 202 / 100) && 9 * tc ≤ 160 * d0 && 160 * d0 ≤ 11 * tc &&
    (List.range 8).all fun i =>
      let d := b.delay (incI f * (i + 1) / 128) + c.delay (incI f * (i + 1) / 128)
      tc ≤ 24 * d && 10 * d ≤ tc

/-- A pair that meets Table 4-2 at every carrier of R96: poles at 0.4 and 0.6 of the zeros' frequencies, delays at 0 Hz of
0.0325 T_c and 0.03 T_c. -/
def mpRef (f : Nat) : Biquad × Biquad :=
  let q1 := mpZero 1 f
  let q2 := mpZero 2 f
  let p1 := q1 * 16 / 100
  let p2 := q2 * 36 / 100
  (⟨q1, p1, p1 * fullN * 325 / (f * 10000)⟩, ⟨q2, p2, p2 * fullN * 300 / (f * 10000)⟩)

/-- The device's pair: its own poles where they meet Table 4-2 (log entry 13). -/
def mpPair (f : Nat) : Biquad × Biquad :=
  let own (m i : Nat) : Biquad := ⟨mpZero m f, Config.mpPole f i, Config.mpPole f (i + 1)⟩
  if mpMeets f (own 1 0) (own 2 2) then (own 1 0, own 2 2) else mpRef f

/-- One sample of a biquad on signals in 2⁻³² µV: the newest inputs, the last two outputs. -/
def Biquad.run (b : Biquad) (x0 x1 x2 y1 y2 : Int) : Int :=
  rdiv 31 (b.p * ((x0 - 2 * x1 + x2) * 2 ^ 60 / max 1 b.q + x1) - (b.p - 2 ^ 61 + b.r) * y1 - (2 ^ 60 - b.r) * y2) (2 ^ 60)

/-- MINPHASE on one input: the demodulated samples (2⁻⁸ µV), the four stores from `z` on. -/
def minPhase (f : Nat) (d : List Int) (st : Vector Int 8) (z : Nat) : Int × Vector Int 8 :=
  let (b, c) := mpPair f
  let x (i : Nat) : Int := lget d i * 2 ^ 24
  let (u1, u2, y1, y2) := (vget st z, vget st (z + 1), vget st (z + 2), vget st (z + 3))
  let u := b.run (x 0) (x 1) (x 2) u1 u2
  let y := c.run u u1 u2 y1 y2
  let put (v : Vector Int 8) (i : Nat) (w : Int) := vupd v i fun _ => w
  (rdiv 31 y (2 ^ 24), put (put (put (put st z u) (z + 1) u1) (z + 2) y) (z + 3) y1)

/-! ### The notch modes -/

/-- The observer notch (Table 4-2) on one input: history, filter stores from `z` on. At a change of mode to MINPHASE the
stores hold what MINPHASE last left in them (log entry 98). -/
def AcqSt.notch (a : AcqSt) (d : List Int) (z : Nat) : Int × Vector Int 8 :=
  match a.mode with
  | 0 => (hps halfN a.fIn d, a.mp)
  | 1 => (hps halfN a.fIn ((List.range (halfN / a.fIn + 2)).map fun j => hps halfN a.fIn (d.drop j)), a.mp)
  | _ => minPhase a.fIn d a.mp z

/-- D_n of the notch mode in STIME units (Table 4-2); MINPHASE: its value at 0 Hz. -/
def notchDelay (mode f : Nat) : Nat :=
  match mode with
  | 0 => (rdiv 32 16000000000000 f).toNat
  | 1 => (rdiv 32 32000000000000 f).toNat
  | _ => (rdiv 32 (mpDelay0 (mpPair f).1 (mpPair f).2 * sampleU) (2 ^ 30)).toNat

/-- D_obs (R127). -/
def AcqSt.dObs (a : AcqSt) : Nat := a.med * sampleU + notchDelay a.mode a.fIn

end Sys2Proof.Machine
end

