-- ==== Sys2Proof/Machine/Acquire.lean ====
section
/-! DEFINITION. The acquisition chain (chapter 4): blanking and median, DC removal, canceller, demodulation, notch, the
decimation chain with its gaps and fades, the envelope and the detectors. -/

namespace Sys2Proof.Machine

/-! ### Stages 2 to 4 -/

/-- Insertion into a rising list. -/
def insertI (x : Int) : List Int → List Int
  | [] => [x]
  | y :: l => if x ≤ y then x :: y :: l else y :: insertI x l

def sortI (l : List Int) : List Int := l.foldr insertI []

/-- The median of R116: of an even number, the mean of the two middle values, rounded toward zero. -/
def median (l : List Int) : Int :=
  let s := sortI l
  let k := s.length
  if k % 2 = 1 then lget s (k / 2) else (lget s (k / 2 - 1) + lget s (k / 2)).tdiv 2

/-- One input of stage 4 (R116, R117): window with its blanked flags, whether the represented sample is blanked, what
replaces it when no sample is left. Output, BLANK, HELD. -/
def stage4 (win : List (Int × Bool)) (center : Bool) (last : Int) : Int × Bool × Bool :=
  let good := (win.filter fun x => !x.2).map Prod.fst
  if good.isEmpty then (last, false, true) else (median good, center, false)

/-- Half the median length: (N_m − 1)/2 of the code of `MED`. -/
abbrev medHalf (code : Nat) : Nat := code

/-- The sample instant lies inside a blanking window of the port (R115). -/
def State.inBlank (s : State) (n t : Nat) : Bool :=
  s.blankWin.any fun w => bitOf w.1 n && 0 ≤ tdiff t w.2.1 && tdiff t w.2.2 < 0

/-- Stages 1 to 3 of a port in RESOLVER mode: normalization, tags, counters, peaks, blanking. -/
def State.acqPush (s : State) (n : Nat) (codeS codeC : Int) : State :=
  let p := s.prt! n
  let xs := s.normalize n 0 (s.g F.PRT_STAT_CUR_S n) codeS
  let xc := s.normalize n 1 (s.g F.PRT_STAT_CUR_C n) codeC
  let oS := overrange codeS
  let oC := overrange codeC
  let s := if oS then (s.bump F.PRT_OVRCNT_COUNT n).stickEv F.PRT_ISTKY_OVR_S n (17 + 2 * n) else s
  let s := if oC then (s.bump F.PRT_OVRCNT_COUNT n).stickEv F.PRT_ISTKY_OVR_C n (17 + 2 * n) else s
  let win := s.gb F.ACQ_CFG_BLK_EN n && s.inBlank n s.now
  let ob := s.gb F.ACQ_CFG_OVR_BLK n
  let smp : Samp :=
    { xs := xs, xc := xc, bs := win || (oS && ob) || 0 < p.immS, bc := win || (oC && ob) || 0 < p.immC,
      rngS := p.rngS, rngC := p.rngC, per := (s.exc! n).wrap, ph := (s.exc! n).ph, amp := s.driveAmp n, sett := s.excSettling n,
      deg := s.excDegraded n || s.leadDegraded n, hold := s.holdover }
  let s := s.updPrt n fun p =>
    { p with rngS := false, rngC := false, immS := p.immS - 1, immC := p.immC - 1,
             pkS := max p.pkS xs.natAbs, pkC := max p.pkC xc.natAbs }
  let s := s.updAcq n fun a =>
    { a with hist := (smp :: a.hist).take 7, pkS := max a.pkS xs.natAbs, pkC := max a.pkC xc.natAbs,
             goodS := if smp.bs then a.goodS else xs, goodC := if smp.bc then a.goodC else xc }
  let a := s.acq! n
  let s := (s.w F.ACQ_PEAK_S_PEAK n (min a.pkS 0xFFFFFF)).measured F.ACQ_PEAK_S_STATUS n (s.detStatus false false)
  (s.w F.ACQ_PEAK_C_PEAK n (min a.pkC 0xFFFFFF)).measured F.ACQ_PEAK_C_STATUS n (s.detStatus false false)

/-- The sample may enter the lag measurement of R97: not blanked, RANGE or overrange. -/
def Samp.clean (x : Samp) (codeS codeC : Int) : Bool :=
  !(x.bs || x.bc || x.rngS || x.rngC || overrange codeS || overrange codeC)

/-! ### Canceller (R120, R121) -/

/-- Port `m` enters port `n`'s canceller: its effective frequency is not within 100 Hz (R120). -/
def State.xcIn (s : State) (n m : Nat) : Bool :=
  n ≠ m && 100000 < ((s.effFreq m : Int) - s.effFreq n).natAbs

/-- Regressors of port `m` at the sample `h` back: A sin and A cos in µV × 2³⁰. -/
def State.regressor (s : State) (m h : Nat) : Int × Int :=
  let x : Samp := lget (s.acq! m).hist h
  (x.amp * sinQ 33 x.ph, x.amp * cosQ 33 x.ph)

/-- The engine that serves the port lets the canceller learn: FRESH, neither COAST nor LOT. -/
def State.obsLearns (s : State) (n : Nat) : Bool :=
  let m := s.engine n
  let st := s.g F.OBS_STAT_STATE m
  (s.obs! m).fresh && (st = 2 || st = 3)

/-- The sideband guard of a neighbour (R121): | |v| − |f_m − f_n| | < XC_GUARD, in mHz × 2³². -/
def State.guarded (s : State) (n m : Nat) : Bool :=
  let v : Int := ((s.obs! (s.engine n)).w.natAbs * 1000 : Nat)
  let df : Int := ((((s.exc! m).freq : Int) - (s.exc! n).freq).natAbs * 2 ^ 32 : Nat)
  decide ((v - df).natAbs < s.g F.ACQ_XC_XC_GUARD * 1000 * 2 ^ 32)

/-- A term of the canceller, 2⁻⁸ µV. -/
def xcTerm (a b rs rc : Int) : Int := rdiv 34 ((a * rs + b * rc) * 2 ^ 8) (2 ^ 62 * 1000000)

/-- The step of a coefficient: μ × e × regressor, in 2⁻³² ppm. -/
def xcStep (tau : Nat) (e r : Int) : Int := rdiv 35 (4 * e * r) (tau * 640000000000)

/-- The square of a coupling's magnitude against a limit in ppm. -/
def couplingBig (a b : Int) (lim : Nat) : Bool := decide (((lim * 2 ^ 32 : Nat) : Int) ^ 2 < a ^ 2 + b ^ 2)

/-- `XC_BIG` (R121): the magnitude of some coupling of the port exceeds the limit. -/
def State.couplings (s : State) (n : Nat) : State :=
  let lim := s.g F.ACQ_XCLIM_LIM
  let big := (s.acq! n).xc.toList.any fun c => couplingBig c.sa c.sb lim || couplingBig c.ca c.cb lim
  if big then s.stickEv F.ACQ_STKY_XC_BIG n (65 + 2 * n) else s

/-- Stage 6 on both inputs (2⁻⁸ µV): subtracts the terms, then updates the couplings that are not held; `tagged`: the
sample carries BLANK, HELD or RNG on the input (R121). -/
def State.cancel (s : State) (n h : Nat) (xs xc : Int) (tagS tagC : Bool) : State × Int × Int :=
  if !s.gb F.ACQ_CFG_XC_EN n then ((s.w F.ACQ_STAT_XC_FRZ n 0).couplings n, xs, xc)
  else
    let a := s.acq! n
    let ms := (List.range 16).filter (s.xcIn n)
    let (es, ec) := ms.foldl (fun (e : Int × Int) m =>
      let c := vget a.xc m
      let (rs, rc) := s.regressor m h
      (e.1 - xcTerm c.sa c.sb rs rc, e.2 - xcTerm c.ca c.cb rs rc)) (xs, xc)
    let holdS := tagS || !s.obsLearns n
    let holdC := tagC || !s.obsLearns n
    let tau := s.g F.ACQ_XC_XC_TAU
    let upd := ms.filter fun m => !s.guarded n m
    let xcs := upd.foldl (fun (v : Vector Coup 16) m =>
      let (rs, rc) := s.regressor m h
      vupd v m fun c =>
        let c := if holdS then c else { c with sa := c.sa + xcStep tau es rs, sb := c.sb + xcStep tau es rc }
        if holdC then c else { c with ca := c.ca + xcStep tau ec rs, cb := c.cb + xcStep tau ec rc }) a.xc
    let s := (s.updAcq n fun a => { a with xc := xcs }).wb F.ACQ_STAT_XC_FRZ n (holdS || holdC || upd.length < ms.length)
    (s.couplings n, es, ec)

/-- A coupling in ppm, its last place open. -/
def ppm (a : Int) : Int := rdiv 36 a (2 ^ 32)

/-- `ACQ_XCRD` (Table 4-7): the selected coupling in signed ppm, saturating. -/
def State.xcRead (s : State) : Nat :=
  let c := vget (s.acq! (s.g F.ACQ_XCSEL_PORT)).xc (s.g F.ACQ_XCSEL_NBR)
  let (a, b) := if s.gb F.ACQ_XCSEL_INPUT then (c.ca, c.cb) else (c.sa, c.sb)
  enc 16 (satS 16 (ppm a)) + 65536 * enc 16 (satS 16 (ppm b))

/-- `ACQn_XCMAX`: the largest coupling magnitude of the port, saturating, and its neighbour. -/
def State.xcMax (s : State) (n : Nat) : Nat :=
  let mag (m : Nat) : Nat :=
    let c := vget (s.acq! n).xc m
    max (c.sa ^ 2 + c.sb ^ 2).toNat (c.ca ^ 2 + c.cb ^ 2).toNat
  let best := (List.range 16).foldl (fun b m => if mag b < mag m then m else b) 0
  min (ppm (sqrtF 37 (mag best))).toNat 65535 + 65536 * best

/-! ### Filter sets: what the delays need (R129 to R131) -/

/-- SRAM offset of a bank. -/
def bankBase (set bank : Nat) : Nat := 0x100000 + 0x800 * set + 0x400 * bank
def State.bankTaps (s : State) (set bank : Nat) : Nat := s.sram32 (bankBase set bank) % 128
def State.coef (s : State) (set bank j : Nat) : Int := sgn 18 (s.sram32 (bankBase set bank + 0x10 + 4 * j))

/-- S and Σ j h_j of a bank (R129, R131). -/
def State.bankSum (s : State) (set bank : Nat) : Int × Int :=
  (List.range (s.bankTaps set bank)).foldl
    (fun (p : Int × Int) j => (p.1 + s.coef set bank j, p.2 + j * s.coef set bank j)) (0, 0)

/-- The bank in force for a port: the live one of its set, in a fade still the former one (R135). -/
def State.bankOfPort (s : State) (n : Nat) : Nat :=
  let live := s.g F.ACQ_FSET_INFO_LIVE (s.g F.ACQ_DEC_SET n)
  if (s.acq! n).fadeF = 0 then live else 1 - live

/-- `ACQn_GD_DEC` (R131): D_dec of the bank, the median length and the frequency in force. A negative delay shows as 0
(log entry 96). -/
def State.showDec (s : State) (n : Nat) : State :=
  let (sm, sj) := s.bankSum (s.g F.ACQ_DEC_SET n) (s.bankOfPort n)
  let r := s.g F.ACQ_DEC_R n
  let gd : Int := (medHalf (s.g F.ACQ_CFG_MED n) * sampleU : Nat) + rdiv 32 16000000000000 (s.exc! n).freq +
    3 * ((r : Int) - 1) * 6400 + rdiv 42 (sj * r * sampleU) sm
  s.w F.ACQ_GD_DEC_GD n gd.toNat

/-! ### The carrier period of stage 4 (R119, R141) -/

/-- The DC estimate of one input at a period's end: none of a period with a BLANK or HELD sample; the first one is loaded. -/
def dcStep (f m : Int) (loaded ok : Bool) (l : List Int) : Int :=
  if ok then
    let x := hps fullN f.toNat (l.map (· * 256))
    if loaded then m + rdiv 47 ((x - m) * 10000) f else x
  else m

/-- DC estimates and RMS where the newest stage-4 output closes a carrier period: the NCO phase of its represented sample
has passed 0 (R111). -/
def State.acqPeriod (s : State) (n : Nat) : State :=
  let a := s.acq! n
  let f := a.fIn
  let w := ceilN fullN f + 1
  if f = 0 || a.s4S.length < w then s
  else
    let okS := decide (w ≤ a.sBHs)
    let okC := decide (w ≤ a.sBHc)
    let s := s.updAcq n fun a =>
      { a with mS := dcStep f a.mS a.mLdS okS a.s4S, mC := dcStep f a.mC a.mLdC okC a.s4C, mLdS := a.mLdS || okS, mLdC := a.mLdC || okC }
    let a := s.acq! n
    let st := s.detStatus (a.sSett < w) (a.sDeg < w)
    let dc (m : Int) : Nat := enc 16 (satS 16 (rdiv 48 m 2560))
    let s := if okS then (s.w F.ACQ_DC_S_DC n (dc a.mS)).measured F.ACQ_DC_S_STATUS n st else s
    let s := if okC then (s.w F.ACQ_DC_C_DC n (dc a.mC)).measured F.ACQ_DC_C_STATUS n st else s
    let rms (l : List Int) : Nat := min (sqrtF 49 (hps fullN f (l.map fun x => x * x)).toNat) 0xFFFFFF
    let st (held : Nat) : Nat := s.detStatus (a.sSett < w) (a.sDeg < w || held < w)
    let s := (s.w F.ACQ_RMS_S_RMS n (rms a.s4S)).measured F.ACQ_RMS_S_STATUS n (st a.sHeldS)
    (s.w F.ACQ_RMS_C_RMS n (rms a.s4C)).measured F.ACQ_RMS_C_STATUS n (st a.sHeldC)

/-! ### One sample of the chain -/

/-- The frequency, notch mode and median length that act from this sample (R127, R128, R131): the delays follow and the
filters settle. -/
def State.acqTake (s : State) (n : Nat) : State :=
  let a := s.acq! n
  let md := s.g F.ACQ_CFG_MED n
  let f := (s.exc! n).freq
  let mode := s.g F.ACQ_CFG_NOTCH n
  if a.fIn = f && a.mode = mode && a.med = md then s
  else
    let s := s.updAcq n fun a =>
      { a with setN := notchSettle mode f, setP := if a.fIn ≠ f || a.med ≠ md then ceilN halfN f else a.setP,
               fIn := f, mode := mode, med := md }
    (s.w F.ACQ_GD_OBS_GD n (s.acq! n).dObs).showDec n

/-- Stages 4 to 8 for the represented sample, and the pre-notch and CIC integrators of stages 9 and 10. -/
def State.acqStages (s : State) (n : Nat) : State :=
  let s := s.acqTake n
  let a := s.acq! n
  let h := medHalf a.med
  if a.hist.length ≤ h then s.updAcq n fun a => { a with has := false }
  else
    let j : Samp := lget a.hist h
    let win := a.hist.take (2 * h + 1)
    let (oS, bS, hS) := stage4 (win.map fun x => (x.xs, x.bs)) j.bs (if h = 0 then a.goodS else a.outS)
    let (oC, bC, hC) := stage4 (win.map fun x => (x.xc, x.bc)) j.bc (if h = 0 then a.goodC else a.outC)
    let blank := bS || bC
    let held := hS || hC
    let s := if blank || held then s.bump F.ACQ_BLKCNT_COUNT n else s
    let s := if held then (s.bump F.ACQ_HELDCNT_COUNT n).stickEv F.ACQ_STKY_HELD n (65 + 2 * n) else s
    -- stages 5 and 6
    let (s, es, ec) := s.cancel n h (oS * 256 - a.mS) (oC * 256 - a.mC) (bS || hS || j.rngS) (bC || hC || j.rngC)
    -- stage 7
    let ref := (j.ph + 2 ^ 32 - (s.exc! n).phEst) % 2 ^ 32
    let sn := sinQ 38 ref
    let dS := rdiv 39 (2 * es * sn) (2 ^ 30)
    let dC := rdiv 39 (2 * ec * sn) (2 ^ 30)
    let a := s.acq! n
    let setN := a.setN
    let since (b : Bool) (c : Nat) : Nat := if b then 0 else c + 1
    let a : AcqSt := { a with
      outS := oS, outC := oC, s4S := (oS :: a.s4S).take 2502, s4C := (oC :: a.s4C).take 2502,
      dS := (dS :: a.dS).take 2502, dC := (dC :: a.dC).take 2502,
      sSett := since j.sett a.sSett, sDeg := since j.deg a.sDeg, sHold := since j.hold a.sHold,
      sHeldS := since hS a.sHeldS, sHeldC := since hC a.sHeldC, sBHs := since (bS || hS) a.sBHs,
      sBHc := since (bC || hC) a.sBHc, sPre := since (0 < a.setP) a.sPre,
      blank := blank, held := held, rng := j.rngS || j.rngC, has := true, pre := a.pre + 1, setN := setN - 1,
      setP := a.setP - 1 }
    -- stage 8
    let (yS, z) := a.notch a.dS 0
    let (yC, z) := { a with mp := z }.notch a.dC 4
    let w := notchSpan a.mode a.fIn
    let a := { a with
      yS := yS, yC := yC, mp := z, ySett := a.sSett < w || 0 < setN, yDeg := a.sDeg < w, yHold := a.sHold < w }
    -- stages 9 and 10
    let pS := hps halfN a.fIn (a.dS.take a.pre)
    let pC := hps halfN a.fIn (a.dC.take a.pre)
    let integ (c : Cic) (x : Int) : Cic :=
      let i1 := c.i1 + x
      let i2 := c.i2 + i1
      { c with i1 := i1, i2 := i2, i3 := c.i3 + i2 }
    let a := { a with cicS := integ a.cicS pS, cicC := integ a.cicC pC }
    let s := (s.updAcq n fun _ => a).wb F.ACQ_STAT_NSETTLE n (0 < setN)
    -- stages 5 and 12 at the end of the represented carrier period
    if j.per then s.acqPeriod n else s

/-- The comb stages at an output instant of the CIC (R129): output in 2⁻⁸ µV. -/
def Cic.comb (c : Cic) (r : Nat) : Cic × Int :=
  let y1 := c.i3 - c.z1
  let y2 := y1 - c.z2
  let y3 := y2 - c.z3
  ({ c with z1 := c.i3, z2 := y1, z3 := y2 }, rdiv 40 y3 (r * r * r))

/-- The newest sample's index. -/
def State.kNow (s : State) : Nat := s.k - 1

/-- The newest sample is one of s₀ + m R (R130). -/
def State.decSample (s : State) (n : Nat) : Bool :=
  let r := s.g F.ACQ_DEC_R n
  r ≠ 0 && s.s0 ≤ s.kNow && (s.kNow - s.s0) % r = 0

/-- Stage 10 at the samples of R130. -/
def State.acqComb (s : State) (n : Nat) : State :=
  if s.decSample n then
    s.updAcq n fun a =>
      let (cs, ys) := a.cicS.comb (s.g F.ACQ_DEC_R n)
      let (cc, yc) := a.cicC.comb (s.g F.ACQ_DEC_R n)
      { a with cicS := cs, cicC := cc, coS := (ys :: a.coS).take 64, coC := (yc :: a.coC).take 64 }
  else s

/-! ### Filter sets (R132 to R135) -/

/-- The FIR output of a bank on a CIC history (R129), 2⁻⁸ µV. -/
def State.fir (s : State) (set bank : Nat) (c : List Int) : Int :=
  let y := (List.range (s.bankTaps set bank)).foldl (fun acc j => acc + s.coef set bank j * lget c j) 0
  rdiv 41 y (s.bankSum set bank).1

/-- A bank is live or fading, so not writable (R133). -/
def State.bankBusy (s : State) (set bank : Nat) : Bool :=
  s.g F.ACQ_FSET_INFO_LIVE set = bank || s.gb F.ACQ_FSET_INFO_FADING set

/-- A word of the bank is poisoned (Table 17-1). -/
def State.bankBad (s : State) (set bank : Nat) : Bool := s.poisonIn (bankBase set bank) (bankBase set bank + 0x400)

/-- The bank that an SRAM word lies in. -/
def bankOf (off : Nat) : Option (Nat × Nat) :=
  if 0x100000 ≤ off ∧ off < 0x104000 then some ((off - 0x100000) / 0x800, (off - 0x100000) / 0x400 % 2) else none

/-- R133: a word into the bank at `ACQ_FLADDR`. -/
def State.filterLoad (s : State) (v : Nat) : State :=
  let set := s.g F.ACQ_FLADDR_SET
  let bank := s.g F.ACQ_FLADDR_BANK
  let wd := s.g F.ACQ_FLADDR_WORD
  let s := if s.bankBusy set bank then (s.w F.ACQ_FLADDR_RESULT 0 1).w F.ACQ_FSTKY_BUSY_W 0 1
    else (s.setSram32 (bankBase set bank + 4 * wd) v).w F.ACQ_FLADDR_RESULT 0 0
  s.w F.ACQ_FLADDR_WORD 0 (wd + 1)

def execFilterLoad (src : Src) (value : Word) (s : State) : Host.Outcome State Fault Refusal :=
  .next (s.via src 0x7000 fun s => s.filterLoad value.toNat)

/-- Filter length L in samples (R130). -/
def State.decLen (s : State) (n : Nat) : Nat := (3 + (s.acq! n).ntaps) * s.g F.ACQ_DEC_R n

/-- The bank in force gives a port its length and delay (R131, R135). -/
def State.takeBank (s : State) (n : Nat) : State :=
  let s := s.updAcq n fun a => { a with ntaps := s.bankTaps (s.g F.ACQ_DEC_SET n) (s.bankOfPort n) }
  (s.showDec n).w F.ACQ_GAP_L n (s.decLen n)

/-- The ports that have not finished a fade of set `f`. -/
def State.fading (s : State) (f : Nat) : Bool :=
  (List.range 16).any fun n => (s.acq! n).fadeF ≠ 0 && (s.acq! n).fadeS = f

/-- A port's part in a fade ends (R135). -/
def State.fadeEnd (s : State) (n : Nat) : State :=
  if (s.acq! n).fadeF = 0 then s
  else
    let f := (s.acq! n).fadeS
    let s := s.updAcq n fun a => { a with fadeI := 0, fadeF := 0 }
    let s := (s.w F.ACQ_STAT_FADE n 0).stickEv F.ACQ_STKY_FADE_DONE n (65 + 2 * n)
    if s.fading f then s else s.w F.ACQ_FSET_INFO_FADING f 0

/-- R134: a swap request. `G` holds the low 14 bits of a G that is negative or too large for the field (log entry 96). -/
def State.filterSwap (s : State) (v : Nat) : State :=
  let f := bitsOf v 0 3
  let len := bitsOf v 8 8 + 1
  if s.gb F.ACQ_FSET_INFO_FADING f then (s.w F.ACQ_FSRES_RES 0 1).w F.ACQ_FSTKY_BUSY_S 0 1
  else
    let bank := 1 - s.g F.ACQ_FSET_INFO_LIVE f
    let nt := s.bankTaps f bank
    let (sm, sj) := s.bankSum f bank
    if nt < 8 ∨ 64 < nt ∨ sm.natAbs < 32768 then (s.w F.ACQ_FSRES_RES 0 2).w F.ACQ_FSTKY_BAD_S 0 1
    else
      let s := ((s.w F.ACQ_FSRES_RES 0 0).w F.ACQ_FSET_INFO_LIVE f bank).w F.ACQ_FSET_INFO_NTAPS f nt
      let s := s.w F.ACQ_FSET_INFO_G f (enc 14 (rdiv 43 (sj * 256) sm))
      let users := (List.range 16).filter fun n => s.resolver n && s.g F.ACQ_DEC_SET n = f
      let run := users.filter fun n => !(s.acq! n).gap
      let s := (users.filter fun n => (s.acq! n).gap).foldl (fun s n => s.takeBank n) s
      let s := run.foldl (fun s n =>
        (s.updAcq n fun a => { a with fadeI := 0, fadeF := len, fadeS := f }).w F.ACQ_STAT_FADE n 1) s
      s.wb F.ACQ_FSET_INFO_FADING f (!run.isEmpty)

def execFilterSwap (src : Src) (value : Word) (s : State) : Host.Outcome State Fault Refusal :=
  .next (s.via src 0x7000 fun s => s.filterSwap value.toNat)

/-! ### Restarts and gaps (R136 to R138, R455) -/

/-- The decimator of a port restarts at the next sample (index `k`). What is reported waits for that sample: a restart and a
synchronising reset at one sample count as one synchronising reset (R138). -/
def State.decRestart (s : State) (n : Nat) (sync : Bool) : State :=
  if !s.resolver n then s
  else
    let s := s.fadeEnd n
    let s := s.updAcq n fun a =>
      { a with cicS := {}, cicC := {}, coS := [], coC := [], pre := 0, gap := true, rst := s.k,
               note := if sync || a.note = 2 then 2 else 1 }
    ((s.takeBank n).w F.ACQ_STAT_GAP n 1).showArm n

/-- The sample of a restart or a synchronising reset: the SYNC_GAP record and the sticky bit (R136, R137). -/
def State.gapNote (s : State) (n : Nat) : State :=
  let c := (s.acq! n).note
  if c = 0 then s
  else
    let s := s.updAcq n fun a => { a with note := 0 }
    let s := s.record (s.g F.HIF_ROUTE0_DEC) (header 3 n
      (statusByte false false false true false s.holdover false s.era) (s.epochOf n) s.now ++
      leBytes 4 (s.decLen n) ++ leBytes 1 (if c = 2 then 0 else 1))
    if c = 2 then s.stickEv F.ACQ_STKY_GAP n (65 + 2 * n) else s.stickEv F.ACQ_STKY_DEC_RST n (65 + 2 * n)

/-- The chain of a port at a port restart or a change of mode (R455, R110): history, couplings and DC estimates cleared,
the decimator restarts; outside RESOLVER mode its registers lose VALID. -/
def State.acqRestart (s : State) (n : Nat) : State :=
  let s := s.fadeEnd n
  let a := s.acq! n
  let f := (s.exc! n).freq
  let mode := s.g F.ACQ_CFG_NOTCH n
  let md := s.g F.ACQ_CFG_MED n
  let far := 100000
  let s := s.updAcq n fun _ =>
    { fIn := f, mode := mode, med := md, setN := notchSettle mode f, setP := ceilN halfN f, sSett := far, sDeg := far,
      sHold := far, sHeldS := far, sHeldC := far, sBHs := far, sBHc := far, sPre := far, gap := a.gap, note := a.note, rst := a.rst,
      pkS := a.pkS, pkC := a.pkC, oS := a.oS, oC := a.oC, oAt := a.oAt, oObs := a.oObs }
  let s := (s.w F.ACQ_STAT_XC_FRZ n 0).w F.ACQ_STAT_NSETTLE n 0
  if s.resolver n then
    (s.w F.ACQ_GD_OBS_GD n (s.acq! n).dObs).decRestart n false
  else
    let s := ((s.w F.ACQ_DSIN_STATUS n 0).w F.ACQ_DCOS_STATUS n 0).w F.ACQ_ENVL_STATUS n 0
    let s := ((s.w F.ACQ_RMS_S_STATUS n 0).w F.ACQ_RMS_C_STATUS n 0).w F.ACQ_PEAK_S_STATUS n 0
    let s := ((s.w F.ACQ_PEAK_C_STATUS n 0).w F.ACQ_DC_S_STATUS n 0).w F.ACQ_DC_C_STATUS n 0
    ((s.w F.ACQ_STAT_GAP n 0).updAcq n fun a => { a with gap := false, note := 0 }).showArm n

/-! ### Decimated outputs (R130, R139, R140, R143) -/

/-- The output of the newest sample is due: a CIC output sample, not delivered yet, no gap left. -/
def State.outputDue (s : State) (n : Nat) : Bool :=
  let a := s.acq! n
  s.resolver n && s.decSample n && a.has && a.lastOut ≠ some s.kNow &&
    (!a.gap || a.rst + s.decLen n ≤ s.kNow)

/-- The envelope against its bounds (R140): counts, and the clearing of the live bits. -/
def State.envCheck (s : State) (n e : Nat) (sett : Bool) : State :=
  let s := s.showArm n
  if !s.envArmed n then s
  else
    let k := s.g F.ACQ_ENV_ENV_N n
    let hi := s.g F.ACQ_ENV_ENV_HI n * 10000 < e
    let lo := e < s.g F.ACQ_ENV_ENV_LO n * 10000
    let inj := s.injActive n 0
    let s := s.updAcq n fun a =>
      { a with hiN := if hi then a.hiN + 1 else 0, hiOk := if hi then 0 else a.hiOk + 1,
               loN := if sett || inj then a.loN else if lo then a.loN + 1 else 0,
               loOk := if sett || inj then a.loOk else if lo then 0 else a.loOk + 1 }
    let s := if inj && !sett then s.injInput (0 < s.g F.ACQ_ENV_ENV_LO n) k else s
    let a := s.acq! n
    let s := if k ≤ a.hiOk then s.w F.ACQ_STAT_ENV_HI n 0 else s
    if k ≤ a.loOk then s.w F.ACQ_STAT_ENV_LO n 0 else s

/-- The decimated output of the newest sample: filters, fade, status, envelope, record. The `REC_DIV` count runs on while
`REC_EN` is 0 (log entry 97). -/
def State.decOutput (s : State) (n : Nat) : State :=
  let a := s.acq! n
  let set := s.g F.ACQ_DEC_SET n
  let live := s.g F.ACQ_FSET_INFO_LIVE set
  let i := a.fadeI + 1
  let fd := a.fadeF ≠ 0
  let y (c : List Int) : Int :=
    let new := s.fir set live c
    if fd then rdiv 44 ((a.fadeF - i : Nat) * s.fir set (1 - live) c + i * new) a.fadeF else new
  let r := s.g F.ACQ_DEC_R n
  let span := (3 + (if fd ∧ i < a.fadeF then max a.ntaps (s.bankTaps set live) else s.bankTaps set live)) * r
  let sett := (fd && i < a.fadeF) || a.sSett < span || a.sPre < span ||
    s.kNow < a.rst + s.decLen n + ceilN halfN a.fIn
  let degS := a.sDeg < span || a.sHeldS < span
  let degC := a.sDeg < span || a.sHeldC < span
  let deg := degS || degC
  let dS := satS 24 (rdiv 45 (y a.coS) 256)
  let dC := satS 24 (rdiv 45 (y a.coC) 256)
  let e := min (sqrtF 46 (dS * dS + dC * dC).toNat) 0xFFFFFF
  let s := { s with t := s.now }
  let valid := !s.bankBad set live && !(fd && i < a.fadeF && s.bankBad set (1 - live))
  let status (deg : Bool) : Nat := statusByte valid true false sett false (a.sHold < span) deg s.era
  let st := status deg
  let s := (((s.w F.ACQ_DSIN_VAL n (enc 24 dS)).w F.ACQ_DCOS_VAL n (enc 24 dC)).w F.ACQ_ENVL_VAL n e).measured
    F.ACQ_DSIN_STATUS n (status degS)
  let s := (s.measured F.ACQ_DCOS_STATUS n (status degC)).measured F.ACQ_ENVL_STATUS n st
  let s := (s.w F.ACQ_DTS_TS32 n (ts32 s.now)).w F.ACQ_DEP_EPOCH n (s.epochOf n)
  let s := (s.updAcq n fun a =>
    { a with lastOut := some s.kNow, gap := false, oS := dS, oC := dC, oAt := s.now, oSett := sett, oDeg := deg,
             env := if valid then e else a.env, envOk := a.envOk || valid, fadeI := if fd then i else 0 }).w F.ACQ_STAT_GAP n 0
  let s := if fd ∧ a.fadeF ≤ i then (s.fadeEnd n).takeBank n else s
  let s := s.envCheck n e sett
  let k := (s.acq! n).recN + 1
  let due := s.g F.ACQ_DEC_REC_DIV n ≤ k
  let s := s.updAcq n fun a => { a with recN := if due then 0 else k }
  if s.gb F.ACQ_CFG_REC_EN n && due then
    s.record (s.g F.HIF_ROUTE0_DEC) (header 2 n st (s.epochOf n) s.now ++ leBytes 3 (enc 24 dS) ++
      leBytes 3 (enc 24 dC) ++ leBytes 2 (min (rnd e 256).toNat 0xFFFF))
  else s

/-! ### The carrier period and commands -/

/-- R97, R68, R101, R102, R105: the NCO passes phase 0 and the measurements of the period are formed; DC and RMS close their
periods where stage 4 represents the crossing (`State.acqPeriod`). -/
def doCarrierPeriodEnd (n : Nat) (m : PeriodIn) (s : State) : State :=
  if s.periodDue n then
    let s := { s with t := s.now }
    (s.autoRange n).excPeriod n m
  else s

def execCarrierPeriodEnd (n : Fin 16) (m : PeriodIn) (s : State) : Host.Outcome State Fault Refusal :=
  .next (doCarrierPeriodEnd n m s)

/-- R142: both peak holds restart. -/
def State.pkClr (s : State) (n : Nat) : State :=
  ((s.updAcq n fun a => { a with pkS := 0, pkC := 0 }).w F.ACQ_PEAK_S_PEAK n 0).w F.ACQ_PEAK_C_PEAK n 0

def execPkClr (src : Src) (n : Fin 16) (s : State) : Host.Outcome State Fault Refusal := .next (s.via src 0x6000 fun s => s.pkClr n)

/-- R120: every coupling of the port is set to 0. -/
def State.xcClr (s : State) (n : Nat) : State := s.updAcq n fun a => { a with xc := Vector.replicate 16 {} }

def execXcClr (src : Src) (n : Fin 16) (s : State) : Host.Outcome State Fault Refusal := .next (s.via src 0x6000 fun s => s.xcClr n)

/-- R132: the filter sets at the end of memory initialization: eight taps of 0.5 in bank 0, live; bank 1 zero. -/
def State.initFilters (s : State) : State :=
  let s := s.zeroSram 0x100000 0x104000
  s.each 8 fun s f =>
    let s := s.setSram32 (bankBase f 0) 8
    s.each 8 fun s j => s.setSram32 (bankBase f 0 + 0x10 + 4 * j) 0x10000

end Sys2Proof.Machine
end

