-- ==== Sys2Proof/Machine/Observe.lean ====
section
/-! DEFINITION. The tracking observers (chapter 5) with the learned correction of their input (R187, R188), the published
projection, and the diverse angle path. -/

namespace Sys2Proof.Machine

/-! ### Engines, ports, registers -/

/-- One turn in 2⁻⁴⁸. -/
abbrev turn48 : Int := 2 ^ 48

/-- Sets a sticky bit of an engine with event 96 + 2n of its port; an idle spare raises none (R183). -/
def State.obsStick (s : State) (m : Nat) (f : Fld) : State :=
  match s.portOf m with
  | some n => s.stickEv f m (96 + 2 * n)
  | none => s.w f m 1

def State.ost (s : State) (m : Nat) : Nat := s.g F.OBS_STAT_STATE m
def State.setOst (s : State) (m c : Nat) : State := s.w F.OBS_STAT_STATE m c

abbrev oOff : Nat := 0
abbrev oAcq : Nat := 1
abbrev oPullin : Nat := 2
abbrev oTrack : Nat := 3
abbrev oCoast : Nat := 4
abbrev oLot : Nat := 5

/-- The engine is in TRACK or COAST. -/
def State.tracking (s : State) (m : Nat) : Bool := s.ost m = oTrack || s.ost m = oCoast

/-! ### Prediction and publication (R152, R170) -/

/-- The state with what engine `m` has in force at `t` (R25, R170, R537): the one that the previous sample left, where `t`
lies before t_k + 200 ns. -/
def State.engAt (s : State) (m t : Nat) : State :=
  if tdiff t (tadd s.now sampleU) < 0 then
    let o := vget s.obsOld m
    (((s.updObs m fun _ => o.o).setOst m o.st).wb F.OBS_STAT_MIDX_UNK m o.mu).wb F.OBS_STAT_TURN_UNK m o.tu
  else s

/-- Keeps what the engines hold before a sample replaces it. -/
def State.keepObs (s : State) : State :=
  { s with obsOld := Vector.ofFn fun m =>
      { o := s.obs! m.val, st := s.ost m.val, mu := s.gb F.OBS_STAT_MIDX_UNK m.val, tu := s.gb F.OBS_STAT_TURN_UNK m.val } }

/-- Angle step of the prediction over `d` STIME units: w d + ½ a d², in 2⁻⁴⁸ turn. -/
def ObsSt.dTh (o : ObsSt) (d : Int) : Int :=
  rdiv 60 (o.w * d * 2 ^ 17 * 64000000000 + o.a * d * d * 2 ^ 32) (2 * 64000000000 * 64000000000)

/-- Velocity step of the prediction, in 2⁻³² rev/s. -/
def ObsSt.dW (o : ObsSt) (d : Int) : Int := rdiv 61 (o.a * d * 2 ^ 16) 64000000000

/-- Wraps an angle: turns passed through 0 (signed) and the angle within the turn. -/
def wrapTurn (th : Int) : Int × Int := (th / turn48, th % turn48)

/-- MIDX and TURN after `c` passages through 0 (R167, R168): MIDX counts modulo p, TURN its carries. -/
def turnStep (p midx : Nat) (turn c : Int) : Nat × Int :=
  let x : Int := midx + c
  if p = 0 then (midx, turn) else ((x % p).toNat, turn + x / p)

/-- A signed 32-bit value of a turn count, which wraps (R168). -/
def turn32 (x : Int) : Int := sgn 32 (enc 32 x)

/-- The published values at `d` units after the represented instant: th, MIDX, TURN, w, a. -/
def State.project (s : State) (m : Nat) (d : Int) : Int × Nat × Int × Int × Int :=
  let o := s.obs! m
  let (c, th) := wrapTurn (o.th + o.dTh d)
  let (mi, tu) := turnStep (s.g F.OBS_CFG_PPR m) o.midx o.turn c
  (th, mi, turn32 tu, o.w + o.dW d, o.a)

/-- RANG in BAM32, rounded to nearest. -/
def rang32 (th : Int) : Nat := enc 32 (rnd th (2 ^ 16))

/-- MANG of R167 in BAM32: (MIDX + RANG)/p. -/
def State.mang (s : State) (m : Nat) (th : Int) (mi : Nat) : Nat :=
  enc 32 (rnd (mi * turn48 + th) (2 ^ 16 * s.g F.OBS_CFG_PPR m))

/-- EANG of R167 in BAM32: q × MANG + EOFS. -/
def State.eang (s : State) (m : Nat) (th : Int) (mi : Nat) : Nat :=
  enc 32 (rnd (s.g F.OBS_CFG_MPP m * (mi * turn48 + th)) (2 ^ 16 * s.g F.OBS_CFG_PPR m) + s.g F.OBS_EOFS_EOFS m)

/-- FRESH of an engine's outputs at an instant (R30, R172). -/
def State.obsFresh (s : State) (m t : Nat) : Bool :=
  match (s.obs! m).upd with
  | some u => tdiff t u ≤ s.obsLim * usU
  | none => false

/-- `STATUS` of R172 at an instant. -/
def State.obsStatus (s : State) (m t : Nat) : Nat :=
  let o := s.obs! m
  statusByte (s.tracking m) (s.obsFresh m t) (s.ost m = oCoast) o.sett (s.ost m = oLot) o.hold o.deg o.era

/-- `MSTATUS` of R169, from `STATUS`. -/
def State.mStatus (s : State) (m st : Nat) : Nat :=
  if s.gb F.OBS_STAT_MIDX_UNK m then st / 4 * 4
  else if s.gb F.OBS_STAT_TURN_UNK m then st ||| 64 else st

/-- The nine words of the group of R171 for an instance served by engine `m`, projected to `tp`; `st` the status. -/
def State.obsWords (s : State) (m : Nat) (tp st : Nat) : List Nat :=
  let o := s.obs! m
  let (th, mi, tu, w, a) := s.project m (tdiff tp o.tk + o.dObs)
  let ep := match s.portOf m with | some n => s.epochOf n | none => s.epochOf Group.rest.source
  [rang32 th, s.mang m th mi, s.eang m th mi, enc 32 (satS 32 (rnd w (2 ^ 16))), enc 32 (satS 32 a),
    enc 32 (satS 32 (rnd a 256)), enc 32 tu, st + 256 * ep + 65536 * mi + 16777216 * s.mStatus m st, ts32 tp]

/-- The publication instant of Table 5-4. -/
def State.pubAt (s : State) (m : Nat) : Nat :=
  let o := s.obs! m
  match s.g F.OBS_CFG_COMP m with
  | 0 => tadd o.tk (-(o.dObs : Int))
  | 1 => o.tk
  | _ => tadd o.tk sampleU

/-- The default group (R171) from the state in force at the read; an engine in OFF publishes zeros with its EPOCH. -/
def State.obsGroup (s : State) (m : Nat) : List Nat :=
  let s := s.engAt m s.t
  if s.ost m = oOff then
    [0, 0, 0, 0, 0, 0, 0, 256 * (match s.portOf m with | some n => s.epochOf n | none => 0), 0]
  else s.obsWords m (s.pubAt m) (s.obsStatus m s.t)

/-- The requested-instant group (R173) from the state in force at the read: horizon ±1 ms, beyond it FRESH is cleared. -/
def State.predGroup (s : State) (m : Nat) : List Nat :=
  let s := s.engAt m s.t
  let o := s.obs! m
  let rep := tadd o.tk (-(o.dObs : Int))
  let tp := tadd (s.t / 64 * 64) (mdiff 32 (s.g F.OBS_PREQ_TS m) (ts32 s.t) * 64)
  let d := tdiff tp rep
  let far := (msU : Int) < d.natAbs
  let tp := if far then tadd rep (if 0 < d then msU else -(msU : Int)) else tp
  let st := s.obsStatus m s.t
  let st := if far && bitOf st 1 then st - 2 else st
  let g := s.obsWords m tp (if s.ost m = oOff then 0 else st)
  [lget g 0, lget g 1, lget g 2, lget g 3, lget g 5, lget g 6, lget g 7, lget g 8]

/-! ### Gains (R153 to R156) -/

/-- 2π in 2⁻⁶⁰. -/
abbrev twoPi60 : Nat := 7244019458077122842

/-- The gains of R153 at a bandwidth in mHz and ζ/1024, binary32. -/
def gains (bw zeta : Nat) : Nat × Nat × Nat :=
  let wn := bw * twoPi60
  let wd := 1000 * 2 ^ 60
  (b32Of (wn * (1024 + 2 * zeta)) (wd * 1024), b32Of (wn ^ 2 * (1024 + 2 * zeta)) (wd ^ 2 * 1024),
    b32Of (wn ^ 3) (wd ^ 3))

/-- The largest bandwidth in mHz below 2²⁴ whose (2πB)³ does not exceed k3, by bits from `i` down. -/
def cubeSearch (n d : Nat) : Nat → Nat → Nat
  | 0, b => b
  | i + 1, b =>
    let b' := b + 2 ^ i
    cubeSearch n d i (if (b' * twoPi60) ^ 3 * d ≤ n * (1000 * 2 ^ 60) ^ 3 then b' else b)

/-- A set of direct gains is accepted (R154). -/
def gainsOk (k1 k2 k3 : Nat) : Bool :=
  match b32Val k1, b32Val k2, b32Val k3 with
  | some (n1, d1), some (n2, d2), some (n3, d3) =>
    let (m1, m2, m3) := gains 6000000 2048
    let le (n : Int) (d : Nat) (m : Nat) : Bool :=
      match b32Val m with
      | some (p, q) => n * q ≤ p * d
      | none => false
    0 < n1 && 0 < n2 && 0 < n3 && n3 * (d1 * d2) < n1 * n2 * d3 && le n1 d1 m1 && le n2 d2 m2 && le n3 d3 m3
  | _, _, _ => false

/-- The bandwidth limit of Table 5-2 for a port, mHz. -/
def State.bwLimit (s : State) (n : Nat) : Nat :=
  let f := (s.exc! n).freq
  let l :=
    if s.digital n then
      (if s.g F.DFB_CFG_TYPE n < 2 then 6000000 else 500000000 / max 1 (s.g F.DFB_SREQ_PERIOD n))
    else match s.g F.ACQ_CFG_NOTCH n with
      | 0 => f / 4 | 1 => f / 8 | _ => f / 3
  min 6000000 (max 50000 l)

/-- Puts gains in force. `recheck`: a direct set was written and is examined (R154); `limit` in mHz (R155). -/
def State.gainUpdate (s : State) (m : Nat) (recheck : Bool) (limit : Nat) : State :=
  let z := s.g F.OBS_LOOP_ZETA m
  let s :=
    if s.gb F.OBS_CFG_GAIN_SRC m then
      if recheck then
        let k1 := s.g F.OBS_K1_K m
        let k2 := s.g F.OBS_K2_K m
        let k3 := s.g F.OBS_K3_K m
        if gainsOk k1 k2 k3 then
          let bw := match b32Val k3 with | some (n, d) => cubeSearch n.toNat d 24 0 | none => 0
          s.updObs m fun o => { o with b1 := k1, b2 := k2, b3 := k3, bw := bw }
        else s.obsStick m F.OBS_STKY_GAIN_BAD
      else s
    else
      let bw := s.g F.OBS_LOOP_BW m * 1000
      let (k1, k2, k3) := gains bw z
      s.updObs m fun o => { o with b1 := k1, b2 := k2, b3 := k3, bw := bw }
  let o := s.obs! m
  let beyond := limit < o.bw
  let (k1, k2, k3) := if beyond then gains limit z else (o.b1, o.b2, o.b3)
  let s := ((s.w F.OBS_KE1_K m k1).w F.OBS_KE2_K m k2).w F.OBS_KE3_K m k3
  let s := (s.wb F.OBS_STAT_BW_LIM m beyond).w F.OBS_STAT_BW_EFF m ((if beyond then limit else o.bw) / 1000)
  let s := s.updObs m fun o => { o with lim := limit }
  if beyond then s.obsStick m F.OBS_STKY_BW_LIM else s

/-! ### Tracking states (R159 to R164) -/

/-- Entry to LOT (R163). -/
def State.enterLot (s : State) (m : Nat) : State :=
  let s := (s.setOst m oLot).bump F.OBS_LOTCNT_COUNT m
  let s := s.updObs m fun o => { o with usable := 0, lot := 0, lock := 0, coast := 0 }
  ((s.w F.OBS_STAT_OVS m 0).obsStick m F.OBS_STKY_LOT).ashNote 4 F.INT_ASHTRIG_T_LOT

/-- Entry to ACQ from OFF for MIDX and TURN (R169). -/
def State.newOrigin (s : State) (m : Nat) : State :=
  let s := s.updObs m fun o => { o with midx := 0, turn := 0, mset := none }
  (s.wb F.OBS_STAT_MIDX_UNK m (1 < s.g F.OBS_CFG_PPR m)).w F.OBS_STAT_TURN_UNK m 0

/-- The engine of a port at a port restart or a change of mode (R159, R455): OFF, then ACQ in RESOLVER or DIGITAL mode. -/
def State.obsRestart (s : State) (n : Nat) : State :=
  let m := s.engine n
  let o := s.obs! m
  let s := s.updObs m fun _ =>
    { b1 := o.b1, b2 := o.b2, b3 := o.b3, bw := o.bw, tk := s.now, dObs := o.dObs, misRun := o.misRun,
      misCnt := o.misCnt, misAt := o.misAt, dead := o.dead }
  let s := ((s.setOst m oOff).w F.OBS_STAT_LOS m 0).w F.OBS_STAT_OVS m 0
  let s := s.updDiv n fun _ => { rst := (s.acq! n).rst }
  if o.dead then s.setOst m oLot
  else if s.resolver n || s.digital n then
    ((s.setOst m oAcq).newOrigin m).gainUpdate m true (s.bwLimit n)
  else s

/-- From LOT back to ACQ (R164); an engine that failed hard stays in LOT (R490). -/
def State.reacquire (s : State) (m : Nat) : State :=
  if (s.obs! m).dead then s else
  let s := (s.setOst m oAcq).w F.OBS_STAT_TURN_UNK m 1
  if 1 < s.g F.OBS_CFG_PPR m then s.w F.OBS_STAT_MIDX_UNK m 1 else s

/-- R162: a coast, or a run of unusable samples in PULLIN, reaches t_coast. -/
def doCoastTimeout (m : Nat) (s : State) : State :=
  if (s.ost m = oCoast || s.ost m = oPullin) && s.g F.OBS_COAST_COAST_T m * 50 ≤ (s.obs! m).coast then
    { s with t := s.now }.enterLot m
  else s

def execCoastTimeout (m : Fin 18) (s : State) : Host.Outcome State Fault Refusal := .next (doCoastTimeout m s)

/-- R161: 5000 usable samples in succession inside the lock band. -/
def doLockDeclare (m : Nat) (s : State) : State :=
  if s.ost m = oPullin && 5000 ≤ (s.obs! m).lock then
    ({ s with t := s.now }.setOst m oTrack).updObs m fun o => { o with lot := 0, coast := 0 }
  else s

def execLockDeclare (m : Fin 18) (s : State) : Host.Outcome State Fault Refusal := .next (doLockDeclare m s)

/-- R163: the error has stayed beyond LOT_TH for the LOT time. -/
def doLotError (m : Nat) (s : State) : State :=
  if s.tracking m && s.g F.OBS_LIM_LOT_T m * 50 ≤ (s.obs! m).lot then { s with t := s.now }.enterLot m else s

def execLotError (m : Fin 18) (s : State) : Host.Outcome State Fault Refusal := .next (doLotError m s)

/-- R164: with REACQ = 1, after 1 ms of usable input. -/
def doReacquisition (m : Nat) (s : State) : State :=
  if s.ost m = oLot && s.gb F.OBS_CFG_REACQ m && 5000 ≤ (s.obs! m).usable then { s with t := s.now }.reacquire m else s

def execReacquisition (m : Fin 18) (s : State) : Host.Outcome State Fault Refusal := .next (doReacquisition m s)

/-- The engine that an instance of OBS reaches for a write (R148): the alias of a port, or an idle spare. -/
def State.obsTarget (s : State) (i : Nat) : Option Nat :=
  if i < 16 then some (s.engine i) else if (s.portOf i).isSome then none else some i

/-- R164: the command ACQ leaves LOT. -/
def State.obsAcq (s : State) (i : Nat) : State :=
  match s.obsTarget i with
  | some m => if s.ost m = oLot then s.reacquire m else s
  | none => s

def execObsAcq (src : Src) (m : Fin 18) (s : State) : Host.Outcome State Fault Refusal := .next (s.via src 0x8000 fun s => s.obsAcq m)

/-- R169: TURN and MIDX are loaded at the next sample; an index of p or more refuses the command. -/
def State.obsMset (s : State) (i midx : Nat) : State :=
  match s.obsTarget i with
  | some m =>
    if midx < s.g F.OBS_CFG_PPR m then
      s.updObs m fun o => { o with mset := some (s.g F.OBS_TSETV_TURN m, midx) }
    else s
  | none => s

def execMset (src : Src) (m : Fin 18) (midx : BitVec 8) (s : State) : Host.Outcome State Fault Refusal :=
  .next (s.via src 0x8000 fun s => s.obsMset m midx.toNat)

/-! ### The learned correction (R187, R188) -/

/-- SRAM offset of a port's learning region (R199). -/
abbrev lrnBase (n : Nat) : Nat := 0x110000 + 0x1000 * n

/-- An applied parameter: 0 o_s, 1 o_c, 2 r, 3 q. -/
def State.applied (s : State) (n i : Nat) : Int := sgn 32 (s.sram32 (lrnBase n + 4 * i))
/-- An entry of the applied table, 2⁻²² turn. -/
def State.appliedTbl (s : State) (n j : Nat) : Int := sgn 16 (s.sram32 (lrnBase n + 0x400 + 4 * (j % 256)))

/-- The learning mode a port acts in: OFF while its region holds a poisoned word (Table 17-1). -/
def State.lrnBad (s : State) (n : Nat) : Bool := s.poisonIn (lrnBase n) (lrnBase n + 0x1000)
def State.lrnMode (s : State) (n : Nat) : Nat := if s.lrnBad n then 0 else s.g F.LRN_CFG_MODE n

/-- The corrections are in force at the observer input (Table 6-1, R190, R201). -/
def State.correcting (s : State) (n : Nat) : Bool :=
  s.resolver n && !s.lrnBad n && (s.standby || 2 ≤ s.lrnMode n)

/-- The table angle φ of R188 in BAM32 for the predicted angle. -/
def State.tableAngle (s : State) (n : Nat) (th : Int) : Nat :=
  let m := s.engine n
  if s.gb F.LRN_CFG_TBL_BASE n then enc 32 ((((s.obs! m).midx : Int) * turn48 + th) / (2 ^ 16 * s.g F.OBS_CFG_PPR m))
  else enc 32 (th / 2 ^ 16)

/-- h(φ) as a BAM32 angle: linear interpolation between entries. -/
def State.tableAt (s : State) (n φ : Nat) : Int :=
  let j := φ / 2 ^ 24
  let f : Int := (φ % 2 ^ 24 : Nat)
  rdiv 62 (s.appliedTbl n j * (2 ^ 24 - f) + s.appliedTbl n (j + 1) * f) (2 ^ 14)

/-- The three steps of R187 on a notch output pair in 2⁻⁸ µV. -/
def State.correct (s : State) (n : Nat) (th : Int) (amp : Nat) (ys yc : Int) : Int × Int :=
  if !s.correcting n then (ys, yc)
  else
    let s1 := ys - rdiv 63 (amp * s.applied n 0) (2 ^ 16)
    let c1 := rdiv 64 ((yc - rdiv 63 (amp * s.applied n 1) (2 ^ 16)) * 2 ^ 24) (2 ^ 24 + s.applied n 2)
    let q := enc 32 (s.applied n 3)
    let cq := cosQ 65 q
    let c2 := if cq = 0 then (Config.freeValue 2 s.k).toInt else rdiv 66 (c1 * 2 ^ 30 + s1 * sinQ 65 q) cq
    if s.gb F.LRN_CFG_TBL_BASE n && s.gb F.OBS_STAT_MIDX_UNK (s.engine n) then (s1, c2)
    else
      let h := enc 32 (s.tableAt n (s.tableAngle n th))
      (rdiv 67 (s1 * cosQ 68 h - c2 * sinQ 68 h) (2 ^ 30), rdiv 67 (c2 * cosQ 68 h + s1 * sinQ 68 h) (2 ^ 30))

/-! ### One sample (R149 to R152, R157 to R168) -/

/-- The amplitude A_k of R149 in µV. -/
def State.ampK (s : State) (n : Nat) : Nat := max 10000 (if (s.acq! n).envOk then (s.acq! n).env else 0)

/-- The error e_k of R149 in 2⁻⁴⁸ turn. -/
def errK (ys yc th : Int) (amp : Nat) : Int :=
  let φ := enc 32 (th / 2 ^ 16)
  rdiv 69 ((ys * cosQ 70 φ - yc * sinQ 70 φ) * 2 ^ 70) (amp * twoPi60)

/-- The delay of the observer input: D_obs of R127, the decoder delay in DIGITAL mode (R157, R209). -/
def State.inDelay (s : State) (n : Nat) : Nat :=
  if s.digital n then (if s.g F.DFB_CFG_TYPE n < 2 then (s.g F.DFB_CFG_FILT_N n + 4) * 160 else 0)
  else s.g F.ACQ_GD_OBS_GD n

/-- Line levels of a port in DIGITAL mode that take VALID from its positions (R221). -/
def State.lineLow2 (s : State) (n : Nat) : Bool := s.gb F.PRT_STAT_LINE_SN n || s.gb F.PRT_STAT_LINE_CS n

/-- The sector of a code W V U (Table 7-2). -/
def hallSector (code : Nat) : Option Nat :=
  match code with
  | 1 => some 0 | 3 => some 1 | 2 => some 2 | 6 => some 3 | 4 => some 4 | 5 => some 5
  | _ => none

/-- The Hall code seen last names a sector (Table 7-2). -/
def DfbPath.hallLegal (p : DfbPath) : Bool := (p.hCode.bind hallSector).isSome

/-- The position of a decoding path (R209): θ_m in BAM32, VALID, DEGRADED, the instant it stands for. -/
def State.dfbPos (s : State) (n : Nat) (p : DfbPath) : Nat × Bool × Bool × Nat :=
  let low := s.lineLow2 n || p.qloss
  match s.g F.DFB_CFG_TYPE n with
  | 0 =>
    let l : Int := 4 * s.g F.DFB_LINES_LINES n
    (enc 32 (rnd ((2 * p.pos + 1) * 2 ^ 32) (2 * l)), !low,
      p.degr || (s.g F.DFB_CFG_IDXMODE n ≠ 0 && !p.zfound), s.now)
  | 1 => ((p.hPos + s.g F.DFB_HALL_HOFS n * 65536) % 2 ^ 32, !low && p.hallLegal, p.degr || p.hCen, s.now)
  | _ => (p.sPos, p.sAny && !p.sErr, p.sWarn, p.tf)

/-- θ_m of R150 in 2⁻⁴⁸ turn: a serial position is carried from t_f with the engine's own speed and acceleration. -/
def State.digitalTheta (s : State) (n m : Nat) (p : DfbPath) : Int :=
  let (θ, _, _, tf) := s.dfbPos n p
  if s.g F.DFB_CFG_TYPE n < 2 then θ * 2 ^ 16
  else (s.obs! m).dTh (tdiff s.now tf) + θ * 2 ^ 16

/-- The newest sample of a port is usable (R151). -/
def State.usableNow (s : State) (n m : Nat) : Bool :=
  if s.digital n then
    let (_, v, _, tf) := s.dfbPos n (vget s.dfb n).p0
    v && (s.g F.DFB_CFG_TYPE n < 2 || tdiff s.now tf ≤ 10 * s.g F.DFB_SREQ_PERIOD n * sampleU)
  else
    let a := s.acq! n
    a.has && !a.held && !a.ySett && !(a.blank && s.gb F.OBS_CFG_COAST_BLK m) && !s.gb F.OBS_STAT_LOS m

/-- Moves th by `d`, MIDX and TURN following it (R167, R168); in LOT they stand. -/
def State.moveTh (s : State) (m : Nat) (d : Int) : State :=
  let o := s.obs! m
  let (c, th) := wrapTurn (o.th + d)
  let (mi, tu) := if s.ost m = oLot then (o.midx, o.turn) else turnStep (s.g F.OBS_CFG_PPR m) o.midx o.turn c
  let s := s.updObs m fun o => { o with th := th, midx := mi, turn := turn32 tu }
  if turn32 tu = tu then s else s.obsStick m F.OBS_STKY_TWRAP

/-- The prediction of R152 over `d` STIME units. -/
def State.predictBy (s : State) (m : Nat) (d : Int) : State :=
  let o := s.obs! m
  (s.moveTh m (o.dTh d)).updObs m fun o' => { o' with w := o.w + o.dW d }

/-- A gain in force times T times e, with `sh` the change of unit. -/
def gainStep (site k : Nat) (e : Int) (sh : Nat) : Int :=
  match b32Val k with
  | some (n, d) => rdiv site (n * e) (d * 5000000 * 2 ^ sh)
  | none => 0

/-- The update of R152 with error `e`, whose measurement is of instant `t`. -/
def State.updateBy (s : State) (m : Nat) (e : Int) (t : Nat) : State :=
  let s := s.moveTh m (gainStep 71 (s.g F.OBS_KE1_K m) e 0)
  s.updObs m fun o =>
    let sq := e.natAbs ^ 2
    let l := (sq :: o.sq).take 5000
    { o with w := o.w + gainStep 72 (s.g F.OBS_KE2_K m) e 16, a := o.a + gainStep 73 (s.g F.OBS_KE3_K m) e 32,
             e := e, upd := some t, sq := l, sqSum := o.sqSum + sq - (if o.sq.length < 5000 then 0 else lget o.sq 4999) }

/-- Tracking range in 2⁻³² rev/s and 2⁻¹⁶ rev/s² (R163). -/
abbrev wMax : Int := 2048 * 2 ^ 32
abbrev aMax : Int := 2100000 * 2 ^ 16

/-- R163: the state at the tracking range is clamped; in PULLIN, TRACK or COAST the engine enters LOT with RANGE_X. -/
def State.rangeCheck (s : State) (m : Nat) : State :=
  let o := s.obs! m
  if wMax ≤ o.w.natAbs || aMax ≤ o.a.natAbs then
    let s := s.updObs m fun o => { o with w := clampI (-wMax) wMax o.w, a := clampI (-aMax) aMax o.a }
    let c := s.ost m
    if c = oPullin || c = oTrack || c = oCoast then (s.enterLot m).obsStick m F.OBS_STKY_RANGE_X else s
  else s

/-- R165: overspeed, live and sticky. -/
def State.overspeed (s : State) (m : Nat) : State :=
  let o := s.obs! m
  let lim := s.g F.OBS_PROT_OVS_LIM m * 2 ^ 32
  if (s.portOf m).any fun n => s.injActive n 2 then s.injInput (s.tracking m) 1
  else if !s.tracking m then s.w F.OBS_STAT_OVS m 0
  else if lim < o.w.natAbs then (s.w F.OBS_STAT_OVS m 1).obsStick m F.OBS_STKY_OVS
  else if o.w.natAbs * 50 ≤ lim * 49 then s.w F.OBS_STAT_OVS m 0 else s

/-- R166: runs of M_k below and at or above the loss level; the live bit clears after LOS_N samples. -/
def State.losCheck (s : State) (n m : Nat) : State :=
  if s.injActive n 1 && s.gb F.ACQ_STAT_ENV_ARM n then
    s.injInput (0 < s.g F.OBS_PROT_LOS_TH m * s.ampK n) (s.g F.OBS_PROT_LOS_N m)
  else if s.gb F.ACQ_STAT_ENV_ARM n && s.resolver n then
    let a := s.acq! n
    let below := ((a.yS * a.yS + a.yC * a.yC) * 400 : Int) < ((s.g F.OBS_PROT_LOS_TH m * s.ampK n * 256) ^ 2 : Nat)
    let s := s.updObs m fun o =>
      { o with losN := if below then o.losN + 1 else 0, losOk := if below then 0 else o.losOk + 1 }
    if s.g F.OBS_PROT_LOS_N m ≤ (s.obs! m).losOk then s.w F.OBS_STAT_LOS m 0 else s
  else (s.w F.OBS_STAT_LOS m 0).updObs m fun o => { o with losN := 0, losOk := 0 }

/-- R169: a load of TURN and MIDX at this sample. -/
def State.loadTurn (s : State) (m : Nat) : State :=
  match (s.obs! m).mset with
  | some (t, i) =>
    let s := s.updObs m fun o => { o with turn := sgn 32 t, midx := i, mset := none }
    (s.w F.OBS_STAT_MIDX_UNK m 0).w F.OBS_STAT_TURN_UNK m 0
  | none => s

/-- Status of the newest input of the engine (R172): notch output or decoder, with the learning status (R197). -/
def State.inStatus (s : State) (n : Nat) : Bool × Bool × Bool :=
  if s.digital n then
    let (_, _, d, _) := s.dfbPos n (vget s.dfb n).p0
    (false, d, s.holdover)
  else
    let a := s.acq! n
    (a.ySett, a.yDeg || s.gb F.LRN_STAT_DEGR n || s.lrnBad n, a.yHold || s.holdover)

/-- Counts and states after the sample's usability is known (R159 to R163). -/
def State.obsRuns (s : State) (m : Nat) (us : Bool) : State :=
  let o := s.obs! m
  let c := s.ost m
  let th := s.g F.OBS_LIM_LOT_TH m * 2 ^ 32
  let big := th < o.e.natAbs
  let band := o.e.natAbs * 4 ≤ th
  let s := s.updObs m fun o =>
    { o with usable := if us then o.usable + 1 else 0, coast := if us then 0 else o.coast + 1,
             lock := if c = oPullin then (if us && band then o.lock + 1 else 0) else 0,
             lot := if c = oTrack || c = oCoast then (if us then (if big then o.lot + 1 else 0) else o.lot) else 0 }
  if c = oTrack && !us then (s.setOst m oCoast).bump F.OBS_COASTCNT_COUNT m
  else if c = oCoast then (if us then s.setOst m oTrack else s.bump F.OBS_COASTCNT_COUNT m)
  else s

/-- The engine of port `n` at the newest sample. `upset`: its two copies differed, the sample is unusable (R489). -/
def State.obsSample (s : State) (n : Nat) (upset : Bool) : State :=
  let m := s.engine n
  if s.ost m = oOff || !(s.resolver n || s.digital n) then s
  else
    let s := s.loadTurn m
    let lim := s.bwLimit n
    let s := if lim = (s.obs! m).lim then s else s.gainUpdate m false lim
    -- R158, R152: the state is carried to the new represented instant
    let d := s.inDelay n
    let s := s.predictBy m ((s.obs! m).dObs - d)
    let s := s.predictBy m sampleU
    let (st, dg, hd) := s.inStatus n
    let s := s.updObs m fun o =>
      { o with dObs := d, tk := s.now, sett := st, deg := dg, hold := hd, era := s.era, pred := enc 32 (o.th / 2 ^ 16),
                 predMi := o.midx }
    let s := s.losCheck n m
    let us := s.usableNow n m && !upset
    let c := s.ost m
    let o := s.obs! m
    let s :=
      if s.digital n && c = oAcq && us then
        -- R160: the first usable sample
        let θ := s.digitalTheta n m (vget s.dfb n).p0
        (s.setOst m oPullin).updObs m fun o =>
          { o with th := θ % turn48, w := 0, a := 0, upd := some (s.dfbPos n (vget s.dfb n).p0).2.2.2, ok := false,
                   lock := 0, coast := 0, lot := 0 }
      else if us && (c = oPullin || c = oTrack || c = oCoast) then
        if s.digital n then
          let e := sgn 48 (enc 48 (s.digitalTheta n m (vget s.dfb n).p0 - o.th))
          (s.updateBy m e (s.dfbPos n (vget s.dfb n).p0).2.2.2).updObs m fun o => { o with ok := true }
        else
          let a := s.acq! n
          let (ys, yc) := s.correct n o.th (s.ampK n) a.yS a.yC
          (s.updateBy m (errK ys yc o.th (s.ampK n)) s.now).updObs m fun o => { o with ok := true }
      else s.updObs m fun o => { o with ok := false }
    let s := if c = oAcq && s.ost m = oPullin then s else s.obsRuns m us
    let s := (s.rangeCheck m).overspeed m
    let fr := s.obsFresh m s.now && s.tracking m
    s.updObs m fun o => { o with fresh := fr }

/-! ### Confidence (R176) -/

/-- The RMS error in 2⁻⁴⁸ turn. -/
def ObsSt.rmsE (o : ObsSt) : Nat := if o.sq.isEmpty then 0 else sqrtF 74 (o.sqSum / o.sq.length)

/-- CONF of R176. -/
def State.conf (s : State) (m : Nat) : Nat :=
  if s.tracking m then
    let l := s.g F.OBS_LIM_LOT_TH m * 2 ^ 32
    (255 * l - 1020 * (s.obs! m).rmsE) / max 1 l
  else 0

/-- The word of `OBSm_ERR` from the state in force at the read; `ERMS` is rounded to nearest (R152). -/
def State.obsErr (s : State) (m : Nat) : Nat :=
  let s := s.engAt m s.t
  min (rnd (s.obs! m).rmsE (2 ^ 32)).toNat 0xFFFF + 65536 * s.conf m + 16777216 * s.obsStatus m s.t

/-! ### The diverse path (R177 to R182, R538) -/

/-- The diverse speed of R178 from one more VALID difference `d` (BAM) over `r` samples. -/
def State.divSpeed (s : State) (n r : Nat) (d : Int) : State :=
  s.updDiv n fun v =>
    let run := min 9 (v.run + 1)
    if run = 1 then { v with run := 1, sum := 0, wd := 0 }
    else if run < 8 then { v with run := run, sum := v.sum + d, wd := 0 }
    else if run = 8 then { v with run := 8, sum := 0, wd := rdiv 75 ((v.sum + d) * 5000000) (7 * r) }
    else
      let tau := 50 * s.g F.DIVG_SPD_DIV_TAU
      { v with run := 9, wd := v.wd + rdiv 76 ((d * 5000000 - v.wd * r) * min r tau) (r * tau) }

/-- One output of the diverse path: angle, whether VALID and FRESH, its status flags, instant of its newest sample, D_dec, samples
per output (R177 to R182). -/
def State.divOutput (s : State) (n θ : Nat) (valid fresh sett deg hold era : Bool) (at' dd r : Nat) :
    State :=
  let m := s.engine n
  let v := s.div! n
  let s := if v.rst = (s.acq! n).rst then s else s.updDiv n fun v => { v with run := 0, wd := 0, rst := (s.acq! n).rst }
  let s := if valid then s.divSpeed n r (mdiff 32 θ v.th) else s.updDiv n fun v => { v with run := 0, wd := 0 }
  let held := (s.div! n).run < 8
  let sett := sett || held
  let first := !(s.div! n).any
  let s := s.updDiv n fun v =>
    { v with th := if valid then θ else v.th, at' := at', dd := dd, any := true,
             clean := if valid && !sett then v.clean + 1 else 0 }
  let v := s.div! n
  let o := s.obs! m
  let d := tdiff at' o.tk + o.dObs - dd
  let (tho, _, _, wo, _) := s.project m d
  let tr := s.tracking m
  -- ω_f (R180)
  let load := s.ost m = oTrack && !v.trk
  let tau := 50 * s.g F.DIVG_SPD_DIV_TAU
  let wf := if load then wo else if tr && v.trk then v.wf + rdiv 76 ((wo - v.wf) * min r tau) tau else v.wf
  let s := s.updDiv n fun v => { v with wf := wf, trk := tr && (v.trk || load) }
  let cmp := valid && fresh && tr && s.obsFresh m s.t && !sett && !o.sett &&
    ((dd : Int) - o.dObs).natAbs ≤ msU
  let da := mdiff 32 (rang32 tho) θ
  let ds := wf - v.wd
  let amb := cmp && (5000000 * 2 ^ 32 : Nat) < 4 * o.w.natAbs * r
  let al := cmp && s.g F.DIVG_CFG_ANG_LIM * 65536 < da.natAbs
  let sl := cmp && s.g F.DIVG_SPD_SPD_LIM * 2 ^ 32 < 10 * ds.natAbs
  let bad := amb || al || sl
  let st := statusByte valid fresh false sett false hold deg era
  let s := ((s.w F.DIV_ANG_ANG n (θ / 256 * 256)).w F.DIV_SPD_SPD n (enc 32 (satS 32 (rdiv 77 v.wd (2 ^ 16))))).measured
    F.DIV_STS_STATUS n st
  let s := (((s.wb F.DIV_STS_CMP n cmp).wb F.DIV_STS_ALIM n al).wb F.DIV_STS_SLIM n sl).wb F.DIV_STS_WHLD n held
  let s := (s.w F.DIV_STS_EPOCH n (s.epochOf n)).w F.DIV_TS_TS32 n (ts32 at')
  let s := if cmp then
      (s.w F.DIV_DIFF_DANG n (enc 16 (rdiv 78 da 65536))).w F.DIV_DIFF_DSPD n (enc 16 (satS 16 (rdiv 79 (ds * 10) (2 ^ 32))))
    else s
  let s := if amb then s.stickEv F.DIV_STKY_AMB n (97 + 2 * n) else s
  let s := if !cmp && (first || v.cmp) then s.stickEv F.DIV_STKY_NOCMP n (97 + 2 * n) else s
  let s := s.updDiv n fun v =>
    { v with cmp := cmp, outN := if cmp then (if bad then v.outN + 1 else 0) else v.outN,
             inN := if cmp then (if bad then 0 else v.inN + 1) else v.inN }
  if s.g F.DIVG_CFG_DIV_N ≤ (s.div! n).inN then s.w F.DIV_STS_DIVL n 0 else s

/-- R160: the coarse angle from the diverse path takes the engine from ACQ to PULLIN. -/
def State.coarseLoad (s : State) (n : Nat) : State :=
  let m := s.engine n
  let v := s.div! n
  if s.resolver n && s.ost m = oAcq && 9 ≤ v.clean then
    let o := s.obs! m
    let d := tdiff o.tk v.at' - o.dObs + v.dd
    let th := ((v.th * 2 ^ 16 : Nat) : Int) + rdiv 80 (v.wd * d * 2 ^ 16) 64000000000
    (s.setOst m oPullin).updObs m fun o =>
      { o with th := th % turn48, w := v.wd, a := 0, lock := 0, coast := 0, lot := 0 }
  else s

/-- The diverse path at a decimated output (R177). -/
def State.divDecimated (s : State) (n : Nat) : State :=
  let a := s.acq! n
  let θ := atan2B 81 24 a.oS a.oC
  let hold := bitOf (s.g F.ACQ_DSIN_STATUS n) 5
  let valid := bitOf (s.g F.ACQ_DSIN_STATUS n) 0
  let s := s.divOutput n θ valid valid a.oSett a.oDeg hold s.era a.oAt (s.g F.ACQ_GD_DEC_GD n) (s.g F.ACQ_DEC_R n)
  s.coarseLoad n

/-- R180: DIV_N compared outputs in succession beyond limits. -/
def doDiverge (n : Nat) (s : State) : State :=
  if s.g F.DIVG_CFG_DIV_N ≤ (s.div! n).outN && !s.gb F.DIV_STS_DIVL n then
    let s := ({ s with t := s.now }.w F.DIV_STS_DIVL n 1).bump F.DIV_CNT_COUNT n
    s.stickEv F.DIV_STKY_DIVERGE n (97 + 2 * n)
  else s

def execDiverge (n : Fin 16) (s : State) : Host.Outcome State Fault Refusal := .next (doDiverge n s)

end Sys2Proof.Machine
end

