-- ==== Sys2Proof/Machine/Emulate.lean ====
section
/-! DEFINITION. Encoder emulation (chapter 8): target position, emission with its rate limit, realignment, index, freeze,
output states. -/

namespace Sys2Proof.Machine

def State.emu! (s : State) (i : Nat) : EmuSt := vget s.emu i
def State.updEmu (s : State) (i : Nat) (f : EmuSt → EmuSt) : State := { s with emu := vupd s.emu i f }

abbrev eOff : Nat := 0
abbrev eWait : Nat := 1
abbrev eRun : Nat := 2
abbrev eFrozen : Nat := 3
abbrev eFault : Nat := 5

/-- Sets a bit of `EMUi_STKY` with event 160 + i (R250). -/
def State.emuStick (s : State) (i : Nat) (f : Fld) : State := s.stickEv f i (160 + i)

/-- The code of Table 8-2: role STANDBY shows 6 for every enabled output (R248), `OPENL` splits FROZEN (R245). -/
def State.emuCode (s : State) (i : Nat) : Nat :=
  let st := (s.emu! i).st
  if st = eOff then 0
  else if !s.emuDrv then 6
  else if st = eFrozen && s.gb F.EMU_CFG_OPENL i then 4
  else st

/-- Counts per turn of α. -/
def State.perTurn (s : State) (i : Nat) : Nat := 4 * s.g F.EMU_LINES_LINES i

/-- Levels (A in bit 0, B in bit 1) of Table 8-1. -/
def quadLevels (cq : Nat) (dir : Bool) : Nat :=
  match cq % 4 with
  | 0 => 0
  | 1 => if dir then 2 else 1
  | 2 => 3
  | _ => if dir then 1 else 2

/-- ZQ of R243. -/
def State.zq (s : State) (i : Nat) : Nat := s.g F.EMU_ZPOS_ZPOS i * s.perTurn i / 2 ^ 32

/-- The levels of A and B that CQ gives, and the level of Z that its source gives (R237, R243, R244). -/
def State.emuAB (s : State) (i : Nat) : Nat := quadLevels (s.emu! i).cq (s.gb F.EMU_CFG_DIR i)
def State.emuSrcZ (s : State) (i : Nat) : Bool :=
  if s.gb F.EMU_CFG_ZSRC i then (s.emu! i).zAt.isSome else (s.emu! i).cq = s.zq i

/-- The level of Z (R243, R244, R245, Table 8-2): in FROZEN the one held, inactive where it is not driven. -/
def State.emuZ (s : State) (i : Nat) : Bool :=
  let e := s.emu! i
  if e.st = eFrozen then s.emuCode i ≠ 4 && e.held.2 else e.st = eRun && s.emuSrcZ i

/-- Writes the state and the levels into the registers; in FROZEN the levels are held (R245). -/
def State.showEmu (s : State) (i : Nat) : State :=
  let e := s.emu! i
  let s := s.w F.EMU_STAT_STATE i (s.emuCode i)
  (s.w F.EMU_STAT_AB i (if e.st = eFrozen then e.held.1 else s.emuAB i)).wb F.EMU_STAT_Z i (s.emuZ i)

/-- α and its status, projected to `d` units after the sample the observer stands at (R235, R236). -/
def State.emuAlpha (s : State) (i : Nat) (d : Int) : Nat × Nat :=
  let m := s.engine (s.g F.EMU_CFG_SRC i)
  let st := if s.ost m = oOff then 0 else s.obsStatus m s.t
  let (th, mi, _, _, _) := s.project m (d + (s.obs! m).dObs)
  match s.g F.EMU_CFG_ASEL i with
  | 0 => (s.mang m th mi, s.mStatus m st)
  | 1 => (rang32 th, st)
  | _ => (s.eang m th mi, s.mStatus m st)

/-- 400 ns + `LEAD` in STIME units. -/
def State.emuLead (s : State) (i : Nat) : Int := (400 + s.gi F.EMU_LEAD_LEAD i) * 64

/-- The backlog B = T − E (R237). -/
def State.backlog (s : State) (i : Nat) : Int := mdiff 32 (s.emu! i).tgt (s.g F.EMU_EPOS_E i)

/-- Realignment from α (R242). -/
def State.realign (s : State) (i α : Nat) : State :=
  let e := s.emu! i
  let l := s.g F.EMU_LINES_LINES i
  let m : Int := 4 * l * 2 ^ 32
  let old := s.gi F.EMU_EPOS_E i
  let base : Int := α * (4 * l)
  let n := (2 * (old * l * 2 ^ 32 - base * e.lines) + m * e.lines) / (2 * m * e.lines)
  let p := base + n * m
  let t : Nat := enc 32 (p / 2 ^ 32)
  let c : Nat := α * (4 * l) / 2 ^ 32
  let r := (((c : Int) - e.cq) % 4).toNat
  let d : Int := if r = 3 then -1 else r
  let en := enc 32 ((t : Int) - d)
  let s := (s.w F.EMU_EPOS_E i en).w F.EMU_RSDIFF_DIFF i (enc 32 ((en : Int) - old))
  let s := s.updEmu i fun e =>
    { e with p := enc 64 p, tgt := t, cq := (((c : Int) - d) % (4 * l)).toNat, α := α, lines := l, align := false,
             chg := false, back := false }
  s.emuStick i F.EMU_STKY_RESYNC

/-- The first alignment after `ENABLE` (R242). -/
def State.firstAlign (s : State) (i α : Nat) : State :=
  let l := s.g F.EMU_LINES_LINES i
  let p := α * (4 * l)
  let t := p / 2 ^ 32
  (s.w F.EMU_EPOS_E i t).updEmu i fun e =>
    { e with st := eRun, p := p, tgt := t, cq := t, α := α, lines := l, align := false, chg := false,
             back := false }

/-- Advances P by the projected motion, and T under the hysteresis of R241. -/
def State.emuTarget (s : State) (i α : Nat) : State :=
  let e := s.emu! i
  let p := enc 64 ((e.p : Int) + mdiff 32 α e.α * s.perTurn i)
  let f := p / 2 ^ 32
  let d := mdiff 32 f (s.g F.EMU_EPOS_E i)
  let h : Int := s.g F.EMU_CFG_HYST i
  let hold := if s.gb F.EMU_STAT_LASTDIR i then 0 < d && d ≤ h else d < 0 && -d ≤ h
  s.updEmu i fun e => { e with p := p, tgt := if hold then s.g F.EMU_EPOS_E i else f, α := α }

/-- An event of Z into a list in order of time. -/
def zInsert (x : Nat × Bool) : List (Nat × Bool) → List (Nat × Bool)
  | [] => [x]
  | y :: ys => if 0 ≤ tdiff x.1 y.1 then y :: zInsert x ys else x :: y :: ys

/-- The firings and edges before `lim` make the pulse on Z (R244): a firing raises it, or restarts it; an edge at least 50 ns
after the latest firing ends it. -/
def State.zRun (s : State) (i lim : Nat) : List (Nat × Bool) → State
  | [] => s.updEmu i fun e => { e with zev := [] }
  | (t, fire) :: r =>
    if 0 ≤ tdiff t lim then s.updEmu i fun e => { e with zev := (t, fire) :: r }
    else
      let z := (s.emu! i).zAt
      let s := if fire then
          let s := s.updEmu i fun e => { e with zAt := some t }
          if z.isNone then s.emit (.ball "EMUZ" (2 * i + 1) t) else s
        else match z with
          | some z0 =>
            if (50 * nsU : Int) ≤ tdiff t z0 then (s.updEmu i fun e => { e with zAt := none }).emit (.ball "EMUZ" (2 * i) t)
            else s
          | none => s
      s.zRun i lim r

def State.zSettle (s : State) (i lim : Nat) : State := s.zRun i lim (s.emu! i).zev

/-- One edge of an output: E, CQ, its wrap (R237); it may end a Geyser pulse on Z (R244). -/
def State.oneEdge (s : State) (i : Nat) (fwd : Bool) (at' : Nat) : State :=
  let e := s.g F.EMU_EPOS_E i
  let step : Int := if fwd then 1 else -1
  let s' := (s.w F.EMU_EPOS_E i (enc 32 ((e : Int) + step))).wb F.EMU_STAT_LASTDIR i (!fwd)
  let z := s.gb F.EMU_CFG_ZSRC i
  let s' := s'.updEmu i fun x =>
    { x with cq := (((x.cq : Int) + step) % s.perTurn i).toNat,
             zev := if z then zInsert (tadd s.now (at' * 160 + 12800), false) x.zev else x.zev }
  if (fwd && e = 2 ^ 31 - 1) || (!fwd && e = 2 ^ 31) then s'.emuStick i F.EMU_STKY_EWRAP else s'

/-- The edges of one window (R238): at most `n` more; `p0` and `t0` are P and T of the last sample; edges are kept newest
first with their place in 2.5 ns units. -/
def State.emitEdges (s : State) (i p0 t0 : Nat) : Nat → List (Nat × Nat) → State × List (Nat × Nat)
  | 0, acc => (s, acc)
  | n + 1, acc =>
    let e := s.emu! i
    let b := s.backlog i
    if b = 0 then (s, acc)
    else
      let fwd := decide (0 < b)
      let en := s.g F.EMU_EPOS_E i
      let bound := if fwd then (en + 1) % 2 ^ 32 else en
      let fresh : Bool := if fwd then decide (0 < mdiff 32 bound t0) else decide (mdiff 32 bound t0 ≤ 0)
      let dp := mdiff 64 e.p p0
      let place := if fresh && dp ≠ 0 then max 0 (rnd (80 * mdiff 64 (bound * 2 ^ 32) p0 * dp.sign) dp.natAbs) else 0
      let place := max place (e.last + 20)
      if 80 ≤ place then (s, acc)
      else
        let s := (s.oneEdge i fwd place.toNat).updEmu i fun e => { e with last := place }
        s.emitEdges i p0 t0 n ((place.toNat, s.emuAB i + 4 * b2n (s.emuSrcZ i)) :: acc)

/-- Puts the emission of a window into the outbox where the output drives. -/
def State.emuWindow (s : State) (i p0 t0 : Nat) : State :=
  let (s, es) := s.emitEdges i p0 t0 4 []
  if es.isEmpty || s.emuCode i ≠ 2 then s else s.emit (.edges i es.reverse)

/-- A sample begins: the last edge's place counts from the new window, what happened to Z before the sample is settled, and a
pulse of which 10 µs have passed in a freeze is over once the freeze is (R238, R244, R245). -/
def State.emuBegin (s : State) (i : Nat) : State :=
  (s.zSettle i s.now).updEmu i fun e => { e with last := max (-1000) (e.last - 80) }
def EmuSt.thaw (e : EmuSt) (now : Nat) : EmuSt :=
  { e with st := eRun, zAt := match e.zAt with
      | some z => if 10 * usU ≤ tdiff now z then none else some z
      | none => none }

/-- The backlog after a sample, beside the one after the sample before: `LIMITING`, `SAT`, `BKMAX` (R240). -/
def State.emuBacklog (s : State) (i : Nat) : State :=
  let b := s.backlog i
  let b0 := s.g F.EMU_BKLOG_B i
  let s := (s.w F.EMU_BKLOG_B i (enc 18 (satS 18 b))).wb F.EMU_STAT_LIMITING i (b ≠ 0)
  let s := s.w F.EMU_BKMAX_MAX i (max (s.g F.EMU_BKMAX_MAX i) (satU 17 b.natAbs))
  if b ≠ 0 && b0 = 0 then (s.bump F.EMU_SATCNT_COUNT i).emuStick i F.EMU_STKY_SAT else s

/-- Overflow in RUN (R240). -/
def State.emuOverflow (s : State) (i : Nat) : State :=
  if (s.emu! i).st = eRun && 65535 < (s.backlog i).natAbs then
    ((s.updEmu i fun e => { e with st := eFault, rearm := false, zAt := none, zev := [] }).w F.EMU_BKMAX_SAT i 1).emuStick i
      F.EMU_STKY_OVF
  else s

/-- A sample at which the output emits: a realignment or the advance of P, its window, the backlog, an overflow. -/
def State.emuEmit (s : State) (i α : Nat) (re : Bool) : State :=
  let e := s.emu! i
  let s := if re then s.realign i α else s.emuTarget i α
  ((s.emuWindow i e.p (if re then (s.emu! i).tgt else e.tgt)).emuBacklog i).emuOverflow i

/-- A sample at which it does not emit: P advances where `go`, a committed change of source or scale realigns (R242). -/
def State.emuHold (s : State) (i α : Nat) (go : Bool) : State :=
  let e := s.emu! i
  let s := if e.chg then s.realign i α else if go then s.emuTarget i α else s.updEmu i fun x => { x with α := α }
  s.emuBacklog i

/-- One sample of an output (R236 to R246), after the observers. -/
def State.emuSample (s : State) (i : Nat) : State :=
  if (s.emu! i).st = eOff then s
  else
    let (α, status) := s.emuAlpha i (s.emuLead i)
    let valid := bitOf status 0
    let fresh := bitOf status 1
    let s := s.emuBegin i
    let e := s.emu! i
    let s := ((s.w F.EMU_ETS_TS32 i (ts32 (tadd s.now (s.emuLead i)))).w F.EMU_ESTS_STATUS i status).w
      F.EMU_ESTS_EPOCH i (s.epochOf Group.emu.source)
    let s :=
      if e.st = eWait then
        if fresh then (s.firstAlign i α).emuBacklog i else s
      else if e.st = eRun then
        if fresh then s.emuEmit i α (e.align || e.chg)
        else
          let held := (s.emuAB i, s.emuZ i)
          let s := (s.emuHold i α valid).updEmu i fun x =>
            { x with st := eFrozen, back := x.back || e.align || !valid, align := false, held := held }
          s.emuStick i F.EMU_STKY_FROZE
      else if e.st = eFrozen then
        if fresh then
          (s.updEmu i fun x => x.thaw s.now).emuEmit i α (e.back || e.chg || s.gb F.EMU_CFG_RESUME i)
        else
          (s.emuHold i α valid).updEmu i fun x => { x with back := x.back || e.back || !valid }
      else if e.rearm && fresh then
        (s.updEmu i fun x => { x with st := eRun, rearm := false }).emuEmit i α true
      else s.emuHold i α true
    let s := s.w F.EMU_ESTS_CQ i ((s.emu! i).cq % 65536)
    s.showEmu i

/-- What a boundary does to an output, given `ENABLE`, `SRC`, `ASEL` and `LINES` before it (R242, R247): the realignment of a
change of source or scale is made in the boundary's own sample. -/
def State.emuApply (s : State) (i : Nat) (en : Bool) (src asel lines : Nat) : State :=
  let on := s.gb F.EMU_CFG_ENABLE i
  let s :=
    if !on || !en then
      (s.updEmu i fun _ => { st := if on then eWait else eOff, tgt := s.g F.EMU_EPOS_E i }).emuBacklog i
    else if s.g F.EMU_CFG_SRC i = src && s.g F.EMU_CFG_ASEL i = asel && s.g F.EMU_LINES_LINES i = lines then s
    else if (s.emu! i).st = eWait then s
    else s.updEmu i fun e => { e with chg := true }
  s.showEmu i

/-- A Geyser firing on output `i` at instant `t` (R244). -/
def State.emuFire (s : State) (i t : Nat) : State :=
  if s.emuCode i = 2 && s.gb F.EMU_CFG_ZSRC i then s.updEmu i fun e => { e with zev := zInsert (t, true) e.zev } else s

/-- `EMUi_CMD.ALIGN` (R242): at the next sample in RUN and STANDBY, at the return to RUN in FROZEN. -/
def State.emuAlign (s : State) (i : Nat) : State :=
  let st := (s.emu! i).st
  if s.emuCode i = 6 && st ≠ eWait then s.updEmu i fun e => { e with chg := true }
  else if st = eRun then s.updEmu i fun e => { e with align := true }
  else if st = eFrozen then s.updEmu i fun e => { e with back := true }
  else s

def execAlign (src : Src) (i : Fin 8) (s : State) : Host.Outcome State Fault Refusal :=
  .next (s.via src 0xC000 fun s => s.emuAlign i)

/-- `EMUi_CMD.REARM` (R240). -/
def State.emuRearm (s : State) (i : Nat) : State :=
  if (s.emu! i).st = eFault then s.updEmu i fun e => { e with rearm := true } else s

def execRearm (src : Src) (i : Fin 8) (s : State) : Host.Outcome State Fault Refusal :=
  .next (s.via src 0xC000 fun s => s.emuRearm i)

/-- R244: 10 µs after the latest firing the pulse on Z ends, where no edge ended it before; in FROZEN Z is held (R245). -/
def doZemuPulseEnd (i : Nat) (s : State) : State :=
  match (s.emu! i).zAt with
  | some z =>
    let t := tadd z (10 * usU)
    if s.emuCode i = 2 && tdiff t (tadd s.now sampleU) ≤ 0 then
      let s := { s with t := t }.zSettle i t
      if (s.emu! i).zAt = some z then
        ((s.updEmu i fun e => { e with zAt := none }).emit (.ball "EMUZ" (2 * i) t)).showEmu i
      else s.showEmu i
    else s
  | none => s

def execZemuPulseEnd (i : Fin 8) (s : State) : Host.Outcome State Fault Refusal := .next (doZemuPulseEnd i s)

/-- R248: the drivers of the standby outputs may drive, 5 µs after the device came to hold the drive token. -/
def State.emuDrivers (s : State) (on : Bool) : State := ({ s with emuDrv := on }).each 8 State.showEmu

end Sys2Proof.Machine
end

