-- ==== Sys2Proof/Machine/Learn.lean ====
section
/-! DEFINITION. Online learning of sensor errors (chapter 6): gates, cycles, estimates, confidence, application, loading
by the host, NVM records. -/

namespace Sys2Proof.Machine

def State.lrn! (s : State) (n : Nat) : LrnSt := vget s.lrn n
def State.updLrn (s : State) (n : Nat) (f : LrnSt → LrnSt) : State := { s with lrn := vupd s.lrn n f }

/-! ### The learning region (Table 6-4) -/

def State.lrnWord (s : State) (n off : Nat) : Nat := s.sram32 (lrnBase n + off)
def State.setLrnWord (s : State) (n off v : Nat) : State := s.setSram32 (lrnBase n + off) (v % 2 ^ 32)
/-- An estimate: 0 to 3 the parameters, then the coefficients. -/
def State.estimate (s : State) (n i : Nat) : Int :=
  sgn 32 (s.lrnWord n (if i < 4 then 0x20 + 4 * i else 0x100 + 4 * (i - 4)))
def State.setEstimate (s : State) (n i : Nat) (v : Int) : State :=
  s.setLrnWord n (if i < 4 then 0x20 + 4 * i else 0x100 + 4 * (i - 4)) (enc 32 (satS 32 v))
def State.lrnGen (s : State) (n : Nat) : Nat := s.lrnWord n 0x10 % 65536
def State.bumpGen (s : State) (n : Nat) : State := s.setLrnWord n 0x10 ((s.lrnGen n + 1) % 65536)
def State.estTbl (s : State) (n j : Nat) : Int := sgn 16 (s.lrnWord n (0x800 + 4 * j))
def State.lrnConf (s : State) (n g : Nat) : Nat := bitsOf (s.lrnWord n 0x30) (8 * g) 8

/-- The cycles per RANG turn in one table cycle: 1, or p. -/
def State.lrnP (s : State) (n : Nat) : Nat :=
  if s.gb F.LRN_CFG_TBL_BASE n then s.g F.OBS_CFG_PPR (s.engine n) else 1

/-- The bound of estimate `i` in its own unit (R197): 2⁻²⁴ for o_s, o_c, r; 2⁻³² turn for q and the coefficients. -/
def State.bound (s : State) (n i : Nat) : Int :=
  if i < 2 then rdiv 90 (s.g F.LRN_BND0_OFS_BND n * 2 ^ 24) 100000
  else if i = 2 then rdiv 90 (s.g F.LRN_BND0_RAT_BND n * 2 ^ 24) 100000
  else if i = 3 then s.g F.LRN_BND1_QE_BND n * 65536
  else s.g F.LRN_BND1_HAR_BND n * 65536

/-- The bound of a table entry, 2⁻²² turn. -/
def State.tblBound (s : State) (n : Nat) : Int := s.g F.LRN_BND1_HAR_BND n * 64

/-- Harmonic `k` feeds the table (Table 6-3). -/
def State.tblHarm (s : State) (n k : Nat) : Bool :=
  1 ≤ k && k ≤ s.g F.LRN_CFG_NHARM n &&
    (if s.gb F.LRN_CFG_TBL_BASE n then k ≠ s.lrnP n && k ≠ 2 * s.lrnP n else 3 ≤ k)

/-- Estimate numbers of a group: 0 offsets, 1 ratio, 2 quadrature, 3 table. -/
def State.groupEst (s : State) (n g : Nat) : List Nat :=
  match g with
  | 0 => [0, 1] | 1 => [2] | 2 => [3]
  | _ => ((List.range 33).filter (s.tblHarm n)).flatMap fun k => [2 + 2 * k, 3 + 2 * k]

/-- A word of port `n`'s region as it is read: the coefficients of an unused k read 0 (Table 6-4). -/
def State.lrnRead (s : State) (n off : Nat) : Nat :=
  if 0x100 ≤ off && off < 0x200 && !s.tblHarm n ((off - 0x100) / 8 + 1) then 0 else s.lrnWord n off

/-- The harmonics a group is measured from. -/
def State.groupHarm (s : State) (n g : Nat) : List Nat :=
  match g with
  | 0 => [s.lrnP n] | 1 => [2 * s.lrnP n] | 2 => [2 * s.lrnP n]
  | _ => (List.range 33).filter (s.tblHarm n)

/-- Rebuilds the estimate table from the coefficients (R195). -/
def State.rebuildTbl (s : State) (n : Nat) : State :=
  s.each 256 fun s j =>
    let v := (List.range 33).foldl (fun acc k =>
      if s.tblHarm n k then
        let φ := k * j * 2 ^ 24 % 2 ^ 32
        acc + s.estimate n (2 + 2 * k) * cosQ 91 φ + s.estimate n (3 + 2 * k) * sinQ 91 φ
      else acc) 0
    s.setLrnWord n (0x800 + 4 * j) (enc 16 (satS 16 (rdiv 92 v (2 ^ 40))))

/-! ### Conditions and cycles (R191, R192) -/

/-- The code of the first condition of Table 6-2 that fails, 0 when all are met. A port outside RESOLVER mode whose `MODE`
is OFF or FROZEN shows 1, the first that fails: DEDUCED (log entry 100). -/
def State.lrnGate (s : State) (n : Nat) : Nat :=
  let m := s.engine n
  let o := s.obs! m
  let md := s.lrnMode n
  if !(md = 1 || md = 2) then 1
  else if !s.resolver n then 2
  else if !(s.ost m = oTrack && o.fresh) then 3
  else if o.w.natAbs < s.g F.LRN_WIN_VMIN n * 2 ^ 32 || s.g F.LRN_WIN_VMAX n * 2 ^ 32 < o.w.natAbs then 4
  else if s.g F.LRN_LIM_AMAX n * 2 ^ 16 < o.a.natAbs then 5
  else if s.g F.LRN_LIM_EMAX n * 2 ^ 32 < o.e.natAbs || s.conf m < s.g F.LRN_CFG_OCONF n then 6
  else if s.gb F.LRN_CFG_TBL_BASE n && s.gb F.OBS_STAT_MIDX_UNK m then 7
  else 0

/-- The gains in force of a port's engine. -/
def State.gainsIn (s : State) (n : Nat) : Nat × Nat × Nat :=
  let m := s.engine n
  (s.g F.OBS_KE1_K m, s.g F.OBS_KE2_K m, s.g F.OBS_KE3_K m)

/-- The corrections in force (R187): the applied words, none where they are all zero or not used. -/
def State.inForceSet (s : State) (n : Nat) : List Nat :=
  let l := (List.range 4).map (fun i => s.lrnWord n (4 * i)) ++ (List.range 256).map fun j => s.lrnWord n (0x400 + 4 * j)
  if !s.correcting n || l.all (· = 0) then [] else l

/-- Discards the cycle in progress (R192, R200). -/
def State.lrnDiscard (s : State) (n : Nat) : State :=
  if (s.lrn! n).cyc then
    ((s.updLrn n fun l => { l with cyc := false, sum := {} }).bump F.LRN_REJCNT_COUNT n).w F.LRN_STAT_CYC n 0
  else s

/-- One sample into the sums of a cycle (R193). -/
def LrnSum.add (l : LrnSum) (nh φ : Nat) (e w : Int) : LrnSum :=
  { n := l.n + 1, w := l.w + w,
    re := l.re.mapIdx fun i x => if i < nh then x + e * cosQ 93 ((i + 1) * φ % 2 ^ 32) else x,
    im := l.im.mapIdx fun i x => if i < nh then x - e * sinQ 93 ((i + 1) * φ % 2 ^ 32) else x }

/-- Learning at one sample: gate, passage of φ through 0, start, discard and completion of a cycle. `mset`: a new index
was loaded at this sample. -/
def State.lrnSample (s : State) (n : Nat) (mset : Bool) : State :=
  let m := s.engine n
  let o := s.obs! m
  let l := s.lrn! n
  let g := s.lrnGate n
  let s := (s.w F.LRN_STAT_GATE n g).wb F.LRN_STAT_ACT n (g = 0)
  let φ := if s.gb F.LRN_CFG_TBL_BASE n then (o.predMi * 2 ^ 32 + o.pred) / max 1 (s.g F.OBS_CFG_PPR m) else o.pred
  let d : Int := match l.φ with | some p => mdiff 32 φ p | none => 0
  let pass := match l.φ with | some p => (decide (0 < d) && φ < p) || (decide (d < 0) && p < φ) | none => false
  let fwd := decide (0 < d)
  let s := s.updLrn n fun l => { l with φ := some φ }
  let gk := s.gainsIn n
  let bad := l.cyc && (g ≠ 0 || mset || l.gk ≠ gk || l.inf ≠ s.inForceSet n || (d ≠ 0 && fwd ≠ l.fwd) || 5000000 < l.sum.n)
  let s :=
    if l.cyc then
      if bad then s.lrnDiscard n
      else if pass then
        (s.updLrn n fun l => { l with cyc := false, sum := {}, fin := some l.sum }).w F.LRN_STAT_CYC n 0
      else s
    else s
  let s :=
    if !(s.lrn! n).cyc && pass && g = 0 then
      (s.updLrn n fun l => { l with cyc := true, fwd := fwd, sum := {}, gk := gk, inf := s.inForceSet n }).w
        F.LRN_STAT_CYC n 1
    else s
  if (s.lrn! n).cyc then
    s.updLrn n fun l => { l with sum := l.sum.add (s.g F.LRN_CFG_NHARM n) φ o.e o.w }
  else s

/-! ### Measurements and estimates (R193 to R197) -/

/-- Harmonic `k` of the corrections in force (R193): a_k and b_k in 2⁻³² turn. -/
def State.inForce (s : State) (n k : Nat) : Int × Int :=
  if !s.correcting n then (0, 0)
  else
    let p := s.lrnP n
    let sum (f : Nat → Int) : Int :=
      rdiv 94 ((List.range 256).foldl (fun acc j => acc + s.appliedTbl n j * f (k * j * 2 ^ 24 % 2 ^ 32)) 0) (2 ^ 27)
    let (a, b) := (sum (cosQ 95), sum (sinQ 95))
    if k = p then
      (a + rdiv 96 (s.applied n 0 * 2 ^ 68) twoPi60, b - rdiv 96 (s.applied n 1 * 2 ^ 68) twoPi60)
    else if k = 2 * p then (a - rdiv 96 (s.applied n 3) 2, b - rdiv 96 (s.applied n 2 * 2 ^ 67) twoPi60)
    else (a, b)

/-- The measurement of harmonic `k` (R193): a_k, b_k in 2⁻³² turn; none where |S_k| is below the gate. -/
def State.measure (s : State) (n k : Nat) (l : LrnSum) : Option (Int × Int) :=
  match b32Val (s.gainsIn n).1, b32Val (s.gainsIn n).2.1, b32Val (s.gainsIn n).2.2 with
  | some (n1, d1), some (n2, d2), some (n3, d3) =>
    -- X = 2πkv in 2⁻²⁰ rad/s, v the mean of w over p
    let x : Int := rdiv 97 (l.w * k * twoPi60) (l.n * s.lrnP n * 2 ^ 72)
    let a : Int := rdiv 98 (n3 * 2 ^ 60) d3 - rdiv 98 (n1 * x * x * 2 ^ 20) d1
    let b : Int := rdiv 98 (n2 * x * 2 ^ 40) d2 - x * x * x
    let sm := s.g F.LRN_APL_SMIN n
    if l.n = 0 || x = 0 || (x * x * x) ^ 2 * 65536 < ((sm * sm : Nat) : Int) * (a * a + b * b) then none
    else
      let sr := lget l.re (k - 1)
      let si := lget l.im (k - 1)
      let den := l.n * 2 ^ 46 * (x * x * x)
      let (fa, fb) := s.inForce n k
      let q (v : Int) : Int := if 0 < den then rdiv 99 (2 * v) den else rdiv 99 (-2 * v) (-den)
      -- c = c_F + j M den / X³, with c = a − j b
      some (fa + q (-(sr * b) - si * a), fb - q (sr * a - si * b))
  | _, _, _ => none

/-- The measurement of an estimate from its harmonic (Table 6-3). -/
def State.measEst (s : State) (n i : Nat) (ms : Nat → Option (Int × Int)) : Option Int :=
  let p := s.lrnP n
  match i with
  | 0 => (ms p).map fun c => rdiv 100 (c.1 * twoPi60) (2 ^ 68)
  | 1 => (ms p).map fun c => -rdiv 100 (c.2 * twoPi60) (2 ^ 68)
  | 2 => (ms (2 * p)).map fun c => -rdiv 100 (c.2 * twoPi60) (2 ^ 67)
  | 3 => (ms (2 * p)).map fun c => -2 * c.1
  | _ => (ms ((i - 2) / 2)).map fun c => if i % 2 = 0 then c.1 else c.2

/-- One estimate after an accepted cycle (R195) and, where its group counts the cycle, its noise (R196). -/
def State.learnOne (s : State) (n i : Nat) (counted : Bool) (m : Int) : State :=
  let av := s.g F.LRN_CFG_NAVG n
  let lim := rdiv 101 (s.g F.LRN_STEP_ESTEP n * s.bound n i) 1024
  let x := s.estimate n i
  let s := s.setEstimate n i (x + clampI (-lim) lim (rdiv 102 (m - x) (2 ^ av)))
  if !counted then s
  else s.updLrn n fun l =>
    let sg := match lget l.prev i with
      | some p =>
        let q : Int := (m - p) * (m - p) * 2 ^ 15
        (((lget l.sig i : Nat) : Int) + rdiv 103 (q - lget l.sig i) (2 ^ av)).toNat
      | none => lget l.sig i
    { l with prev := l.prev.set i (some m), sig := l.sig.set i sg }

/-- The confidence of a group (R196). -/
def State.groupConf (s : State) (n g : Nat) : Nat :=
  let l := s.lrn! n
  let es := s.groupEst n g
  let b := (s.bound n (if g = 0 then 0 else g + 1)).toNat
  let sm := es.foldl (fun a i => max a (sqrtF 104 (lget l.sig i))) 0
  let ng := min (lget l.ng g) (2 ^ s.g F.LRN_CFG_NAVG n)
  if b = 0 then 0 else 255 * ng * (b * 256 - 4 * sm) / (2 ^ s.g F.LRN_CFG_NAVG n * b * 256)

/-- Stores the four confidence figures. -/
def State.putConf (s : State) (n : Nat) : State :=
  s.setLrnWord n 0x30 (s.groupConf n 0 + 256 * s.groupConf n 1 + 65536 * s.groupConf n 2 + 16777216 * s.groupConf n 3)

/-- The largest magnitude of a group against its bound, as (value, bound) (R197). -/
def State.groupMag (s : State) (n g : Nat) : Nat × Nat :=
  if g = 3 then
    ((List.range 256).foldl (fun a j => max a (s.estTbl n j).natAbs) 0, (s.tblBound n).natAbs)
  else
    ((s.groupEst n g).foldl (fun a i => max a (s.estimate n i).natAbs) 0, (s.bound n (if g = 0 then 0 else g + 1)).natAbs)

/-- Live and sticky OUTB bits and DEGR (R197). -/
def State.checkBounds (s : State) (n : Nat) : State :=
  let s := s.each 4 fun s g =>
    let (v, b) := s.groupMag n g
    let live := s.g F.LRN_STAT_OUTB n
    if b < v then
      (s.w F.LRN_STAT_OUTB n (setBit live g true)).stickBits F.LRN_STKY_OUTB n (2 ^ g) (128 + n)
    else if 10 * v ≤ 9 * b then s.w F.LRN_STAT_OUTB n (setBit live g false) else s
  s.wb F.LRN_STAT_DEGR n (s.g F.LRN_STAT_OUTB n ≠ 0)

/-- R201: an own estimate of sufficient confidence differs from the partner's applied value by more than ¼ bound. -/
def State.twinDiff (s : State) (n : Nat) : Bool :=
  (List.range 4).any fun g =>
    s.g F.LRN_CFG_ACONF n ≤ s.lrnConf n g &&
      (if g = 3 then (List.range 256).any fun j =>
          s.tblBound n < 4 * (s.estTbl n j - s.appliedTbl n j).natAbs
        else (s.groupEst n g).any fun i => s.bound n i < 4 * (s.estimate n i - s.applied n i).natAbs)

/-- R201: in STANDBY a difference from the partner's set is reported. -/
def State.twinCheck (s : State) (n : Nat) : State :=
  if s.standby && s.twinDiff n then s.stickEv F.LRN_STKY_TW_DIFF n (128 + n) else s

/-- R193 to R197: a completed cycle is measured and the estimates move. -/
def doLearningCycleEnd (n : Nat) (s : State) : State :=
  match (s.lrn! n).fin with
  | none => s
  | some l =>
    let s := { s with t := s.now }.updLrn n fun x => { x with fin := none, any := true, accAt := some s.now }
    let s := s.bump F.LRN_CYCCNT_COUNT n
    let ms := (List.range 33).map fun k => if k = 0 || s.g F.LRN_CFG_NHARM n < k then none else s.measure n k l
    let get (k : Nat) : Option (Int × Int) := (ms[k]?).getD none
    let counted (g : Nat) : Bool := (s.groupHarm n g).all fun k => (get k).isSome
    let s := (List.range 68).foldl (fun s i =>
      if i < 4 || s.tblHarm n ((i - 2) / 2) then
        match s.measEst n i get with
        | some m => s.learnOne n i (counted (if i < 2 then 0 else if i < 4 then i - 1 else 3)) m
        | none => s
      else s) s
    let full := 2 ^ s.g F.LRN_CFG_NAVG n
    let s := s.updLrn n fun x => { x with ng := x.ng.mapIdx fun g c => if counted g then min (c + 1) full else c }
    (((s.rebuildTbl n).putConf n).checkBounds n).twinCheck n

def execLearningCycleEnd (n : Fin 16) (s : State) : Host.Outcome State Fault Refusal := .next (doLearningCycleEnd n s)

/-- A value moved towards its estimate by at most ASTEP/1024 of its bound, within the bound (R198, R197). -/
def moveTo (x goal bound : Int) (step : Nat) : Int :=
  let lim := rdiv 105 (step * bound) 1024
  clampI (-bound) bound (x + clampI (-lim) lim (clampI (-bound) bound goal - x))

/-- R198: one update of the applied set. -/
def State.applyUpdate (s : State) (n : Nat) : State :=
  let st := s.g F.LRN_STEP_ASTEP n
  let ok (g : Nat) : Bool := s.g F.LRN_CFG_ACONF n ≤ s.lrnConf n g
  let s' := (List.range 4).foldl (fun a i =>
    if ok (if i < 2 then 0 else i - 1) then
      a.setLrnWord n (4 * i) (enc 32 (moveTo (s.applied n i) (s.estimate n i) (s.bound n i) st))
    else a) s
  let s' := if ok 3 then
      s'.each 256 fun a j =>
        a.setLrnWord n (0x400 + 4 * j) (enc 16 (moveTo (s.appliedTbl n j) (s.estTbl n j) (s.tblBound n) st))
    else s'
  if s'.sram = s.sram then s' else s'.bumpGen n

/-- R198: due at the boundary that applies APPLY and at the first one after each APL_T ms. -/
def doApplyUpdate (n : Nat) (s : State) : State :=
  let l := s.lrn! n
  let tb := tadd s.now sampleU
  if s.bDone && s.resolver n && !s.standby && s.lrnMode n = 2 &&
      (l.aplNow || s.g F.LRN_APL_APL_T n * msU ≤ tdiff tb l.aplAt) then
    ({ s with t := tb }.updLrn n fun l => { l with aplAt := tb, aplNow := false }).applyUpdate n
  else s

def execApplyUpdate (n : Fin 16) (s : State) : Host.Outcome State Fault Refusal := .next (doApplyUpdate n s)

/-! ### Host loading and clearing (R199, R200) -/

/-- What a word of the region takes from the host: 0 nothing, 1 estimates, 2 the applied set. -/
def lrnWritable (off : Nat) : Nat :=
  if off < 0x10 ∨ (0x400 ≤ off ∧ off < 0x800) then 2
  else if (0x20 ≤ off ∧ off < 0x30) ∨ (0x100 ≤ off ∧ off < 0x200) then 1 else 0

/-- The port accepts a write of its region: learning mode OFF or LEARN_ONLY (R199); outside RESOLVER mode it acts as in OFF
(R190). -/
def State.lrnOpen (s : State) (n : Nat) : Bool := !s.resolver n || s.lrnMode n < 2

/-- A word written into the region of port `n`: false where it is refused. -/
def State.lrnPut (s : State) (n off v : Nat) : State × Bool :=
  if !s.lrnOpen n then (s.stickEv F.LRN_STKY_WR_BUSY n (128 + n), false)
  else
    let v := if 0x400 ≤ off ∧ off < 0x800 then v % 65536 else v
    match lrnWritable off with
    | 0 => (s, true)
    | 1 =>
      -- a coefficient of an unused k reads 0, whatever is written
      if 0x100 ≤ off && !s.tblHarm n ((off - 0x100) / 8 + 1) then (s, true)
      else (((s.setLrnWord n off v).checkBounds n).twinCheck n, true)
    | _ => ((s.setLrnWord n off v).bumpGen n, true)

def State.learnTableWrite (s : State) (v : Nat) : State :=
  let wd := s.g F.LRN_TLADDR_WORD
  let (s', ok) := s.lrnPut (s.g F.LRN_TLADDR_PORT) (4 * wd) v
  (s'.w F.LRN_TLADDR_RESULT 0 (if ok then 0 else 1)).w F.LRN_TLADDR_WORD 0 (wd + 1)

def execLearnTableWrite (src : Src) (value : Word) (s : State) : Host.Outcome State Fault Refusal :=
  .next (s.via src 0xA000 fun s => s.learnTableWrite value.toNat)

/-- R200: estimates, applied set and confidences to 0, GEN + 1. -/
def State.lrnClr (s : State) (n : Nat) : State :=
  let g := s.lrnGen n
  let s := (s.zeroSram (lrnBase n) (lrnBase n + 0x1000)).setLrnWord n 0x10 ((g + 1) % 65536)
  let s := s.updLrn n fun l =>
    { l with prev := List.replicate 68 none, sig := List.replicate 68 0, ng := [0, 0, 0, 0] }
  s.checkBounds n

def execLrnClr (src : Src) (n : Fin 16) (s : State) : Host.Outcome State Fault Refusal := .next (s.via src 0xA000 fun s => s.lrnClr n)

/-- The registers of a port change under R200: `NHARM` clears the coefficients above it. -/
def State.clearHarm (s : State) (n : Nat) : State :=
  s.each 33 fun s k =>
    if s.g F.LRN_CFG_NHARM n < k then (s.setEstimate n (2 + 2 * k) 0).setEstimate n (3 + 2 * k) 0 else s

/-! ### NVM records (R203 to R205) -/

/-- NVM address of a copy of a port's record (Table 16-7). -/
def lrnCopy (n c : Nat) : Nat := 0x4000 + 0x800 * n + 0x400 * c

/-- The record of Table 6-5 with a sequence number. -/
def State.lrnRecord (s : State) (n seq : Nat) : List Byte :=
  let w (off : Nat) : List Byte := leBytes 4 (s.lrnWord n off)
  let words (l : List Nat) : List Byte := l.flatMap w
  let body := leBytes 1 0x4C ++ leBytes 1 n ++ leBytes 2 seq ++
    leBytes 4 (s.g F.LRN_CFG_TBL_BASE n + 256 * s.g F.OBS_CFG_PPR (s.engine n) + 65536 * s.g F.LRN_CFG_NHARM n) ++
    leBytes 4 (s.effFreq n) ++ leBytes 4 (s.lrnGen n) ++ words [0, 4, 8, 12, 0x20, 0x24, 0x28, 0x2C, 0x30] ++
    padTo 12 [] ++ (List.range 256).flatMap (fun j => leBytes 2 (s.lrnWord n (0x400 + 4 * j))) ++
    (List.range 64).flatMap (fun i => leBytes 4 (s.lrnRead n (0x100 + 4 * i))) ++ padTo 28 []
  body ++ leBytes 4 (crc32 body)

/-- A learning record whose CRC holds. -/
def lrnOk (b : List Byte) : Bool := leNat (b.drop 860) = crc32 (b.take 860)

/-- A copy: none empty, `some none` torn, `some (some bytes)` valid. -/
def State.lrnExam (s : State) (n c : Nat) : Option (Option (List Byte)) :=
  let b := s.nvmBytes (lrnCopy n c) 864
  if b.all (· = 0xFF#8) then none
  else if lrnOk b then some (some b) else some none

/-- A little-endian field of a byte list. -/
def fieldAt (b : List Byte) (off len : Nat) : Nat := leNat ((b.drop off).take len)

/-- The copy in force: its number and bytes (R205). -/
def State.lrnForce (s : State) (n : Nat) : Option (Nat × List Byte) :=
  match s.lrnExam n 0, s.lrnExam n 1 with
  | some (some a), some (some b) =>
    if 0 < mdiff 16 (fieldAt b 2 2) (fieldAt a 2 2) then some (1, b) else some (0, a)
  | some (some a), _ => some (0, a)
  | _, some (some b) => some (1, b)
  | _, _ => none

/-- Shows the copy in force. -/
def State.showNv (s : State) (n : Nat) : State :=
  match s.lrnForce n with
  | some (c, b) => ((s.w F.LRN_NVINFO_SEQ n (fieldAt b 2 2)).w F.LRN_NVINFO_COPY n c).w F.LRN_NVINFO_VALID n 1
  | none => ((s.w F.LRN_NVINFO_SEQ n 0).w F.LRN_NVINFO_COPY n 0).w F.LRN_NVINFO_VALID n 0

/-- A word of port `n`'s region from a record. -/
def State.lrnTake (s : State) (n : Nat) (b : List Byte) (off src : Nat) : State := s.setLrnWord n off (fieldAt b src 4)

/-- R205: the copies are examined and the one in force is loaded where it matches. -/
def State.lrnLoad (s : State) (n : Nat) : State :=
  let torn := s.lrnExam n 0 = some none || s.lrnExam n 1 = some none
  let s := if torn then s.stickEv F.LRN_STKY_NV_TORN n (128 + n) else s
  let s := s.showNv n
  match s.lrnForce n with
  | none => s
  | some (_, b) =>
    let f := s.effFreq n
    let rf := fieldAt b 8 4
    if fieldAt b 1 1 = n ∧ fieldAt b 5 1 = s.g F.OBS_CFG_PPR (s.engine n) ∧
        fieldAt b 4 1 % 2 = s.g F.LRN_CFG_TBL_BASE n ∧ ((rf : Int) - f).natAbs * 20 ≤ f then
      let s := s.each 4 fun s i =>
        (s.lrnTake n b (4 * i) (0x10 + 4 * i)).lrnTake n b (0x20 + 4 * i) (0x20 + 4 * i)
      let s := (s.lrnTake n b 0x30 0x30).setLrnWord n 0x10 (fieldAt b 0xC 2)
      let s := s.each 256 fun s j => s.setLrnWord n (0x400 + 4 * j) (fieldAt b (0x40 + 2 * j) 2)
      let s := s.each 64 fun s i => s.lrnTake n b (0x100 + 4 * i) (0x240 + 4 * i)
      let s := s.rebuildTbl n
      let full := 2 ^ s.g F.LRN_CFG_NAVG n
      let sig (i : Nat) : Nat :=
        let g := if i < 2 then 0 else if i < 4 then i - 1 else 3
        ((s.bound n i).toNat * (255 - s.lrnConf n g) / 1020) ^ 2 * 65536
      let s := s.updLrn n fun l => { l with any := true, ng := [full, full, full, full], sig := (List.range 68).map sig }
      ((s.checkBounds n).twinCheck n).stickEv F.LRN_STKY_NV_LOADED n (128 + n)
    else s.stickEv F.LRN_STKY_NV_MISM n (128 + n)

/-- A learning commit runs or waits. -/
def State.nvLearning (s : State) : Bool := s.gb F.LRN_NVSTAT_BUSY

/-- R205: `LOADNV` loads at the next boundary; refused while a commit runs. -/
def State.loadNv (s : State) (n : Nat) : State :=
  if s.nvLearning then s else s.updLrn n fun l => { l with load := true }

def execLoadNv (src : Src) (n : Fin 16) (s : State) : Host.Outcome State Fault Refusal := .next (s.via src 0xA000 fun s => s.loadNv n)

/-- R203: a commit of the ports of a mask. -/
def State.lrnCommit (s : State) (ports : Nat) : State :=
  if s.nvLearning || ports = 0 then s.w F.LRN_NVSTAT_RES 0 1
  else
    let s := ((s.w F.LRN_NVSTAT_RES 0 0).w F.LRN_NVSTAT_BUSY 0 1).w F.LRN_NVSTAT_PEND 0 ports
    let s := s.each 16 fun s n => if bitOf ports n then s.w F.LRN_STAT_NVBUSY n 1 else s
    { s with nvq := s.nvq ++ [2], nvPorts := ports, nvBuf := [] }

def execLrnNvCommit (src : Src) (ports : BitVec 16) (s : State) : Host.Outcome State Fault Refusal :=
  .next (s.via src 0xA000 fun s => s.lrnCommit ports.toNat)

/-- R203: the snapshot of every selected port at the boundary after the command. -/
def State.lrnSnapshot (s : State) : State :=
  if s.nvPorts = 0 then s
  else
    let ps := (List.range 16).filter fun n => bitOf s.nvPorts n
    { s with nvPorts := 0, nvBuf := ps.map fun n =>
        (n, s.lrnRecord n (match s.lrnForce n with | some (_, b) => (fieldAt b 2 2 + 1) % 65536 | none => 1)) }

/-- Bytes that nothing determines: FREE VALUES. -/
def State.freeBytes (s : State) (site len : Nat) : List Byte :=
  (List.range len).map fun i => (Config.freeValue site (s.free + i)).setWidth 8

/-- Bytes that a broken or failed write leaves: FREE VALUES among those that are torn, neither empty nor a valid record of
the form `ok` (R203, R205). -/
def State.tornBytes (s : State) (site len : Nat) (ok : List Byte → Bool) : List Byte :=
  let f := s.freeBytes site len
  if f.all (· = 0xFF#8) || ok f then List.replicate len 0 else f

/-- R203: the write of one port's record ended; `ok`: it was verified. -/
def doLrnNvWriteDone (ok : Bool) (s : State) : State :=
  match s.nvq, s.nvBuf with
  | 2 :: q, (n, rec) :: more =>
    let s := { s with t := s.now }
    let c := match s.lrnForce n with | some (c, _) => 1 - c | none => 0
    let s := if ok then
        let s := (s.setNvmBytes (lrnCopy n c) rec).showNv n
        (s.bump F.LRN_NVCNT_COUNT n).stickEv F.LRN_STKY_NV_DONE n (128 + n)
      else
        let s := { s.setNvmBytes (lrnCopy n c) (s.tornBytes 3 864 lrnOk) with free := s.free + 864 }
        (s.w F.LRN_NVSTAT_RES 0 2).stickEv F.LRN_STKY_NV_FAIL n (128 + n)
    let s := s.w F.LRN_NVSTAT_PEND 0 (setBit (s.g F.LRN_NVSTAT_PEND) n false)
    let s := { s with nvBuf := more }
    if more.isEmpty then { (s.each 16 fun s n => s.w F.LRN_STAT_NVBUSY n 0).w F.LRN_NVSTAT_BUSY 0 0 with nvq := q } else s
  | _, _ => s

def execLrnNvWriteDone (ok : Bool) (s : State) : Host.Outcome State Fault Refusal := .next (doLrnNvWriteDone ok s)

/-- Learning of a port at a port restart (R200): the cycle in progress is discarded; on entry to RESOLVER mode with
`NVLOAD` the record is loaded (R205). -/
def State.lrnRestart (s : State) (n : Nat) (entering : Bool) : State :=
  let s := (s.lrnDiscard n).updLrn n fun l => { l with φ := none, fin := none }
  if entering && s.resolver n && s.gb F.LRN_CFG_NVLOAD n then s.lrnLoad n else s

/-- The words of `LRNn_EOS` to `LRNn_GEN` (R207) as they stand now. -/
def State.lrnWords (s : State) (n : Nat) : List Nat :=
  let l := s.lrn! n
  let fr := match l.accAt with | some u => decide (tdiff s.t u ≤ 10000 * msU) | none => false
  let st := statusByte l.any fr false false false s.holdover (s.gb F.LRN_STAT_DEGR n) s.era
  [s.lrnWord n 0x20, s.lrnWord n 0x24, s.lrnWord n 0x28, s.lrnWord n 0x2C, s.lrnWord n 0, s.lrnWord n 4, s.lrnWord n 8,
    s.lrnWord n 12, s.lrnWord n 0x30, s.lrnGen n + 65536 * st + 16777216 * s.epochOf n]

/-- At a boundary the words that reads find until the next one are taken (R207: a group from one boundary). -/
def State.lrnShow (s : State) (n : Nat) : State := s.updLrn n fun l => { l with shown := s.lrnWords n }

/-- The words of the group of R207 as a read finds them. -/
def State.lrnGroup (s : State) (n : Nat) : List Nat := (List.range 10).map (lget (s.lrn! n).shown)

end Sys2Proof.Machine
end

