-- ==== Sys2Proof/Machine/Temp.lean ====
section
/-! DEFINITION. The winding and bearing temperature front end (chapter 11): frames, slots, phases, the request queue,
results and conversion. -/

namespace Sys2Proof.Machine

def State.tmp! (s : State) (c : Nat) : TmpSt := vget s.tmp c
def State.updTmp (s : State) (c : Nat) (f : TmpSt → TmpSt) : State := { s with tmp := vupd s.tmp c f }
def State.tsl! (s : State) (x : Nat) : TslSt := vget s.tsl x
def State.updTsl (s : State) (x : Nat) (f : TslSt → TslSt) : State := { s with tsl := vupd s.tsl x f }

/-- Table 11-1, µA and Ω. -/
def stepUA (k : Nat) : Nat := lget [10, 20, 30, 50, 75, 100, 150, 200, 300, 400, 500, 750, 1000, 1250, 1500, 2000] k
def rrefOhm (k : Nat) : Nat := lget [200, 500, 1000, 2000, 5000, 10000, 50000, 200000] k

/-- Source pair of a channel (R309). -/
def pairOf (c : Nat) : Nat := c / 8 + 2 * (c % 2)

/-! ### The sinc filter (R314) -/

def SincSt.push (f : SincSt) (y : Int) : SincSt :=
  let i1 := f.i1 + BitVec.ofInt 64 y
  let i2 := f.i2 + i1
  { f with i1 := i1, i2 := i2, i3 := f.i3 + i2 }

/-- An instant of the grid has come. -/
def SincSt.mark (f : SincSt) : SincSt := { f with old := f.i3 :: f.old.take 2 }

/-- The filter's output: the third difference over 625 samples each, 625³ times the weighted mean of 1875 samples. -/
def SincSt.out (f : SincSt) : Int := (f.i3 - 3 * lget f.old 0 + 3 * lget f.old 1 - lget f.old 2).toInt

/-- One sample of the slices 34 and 35, with the slice's corrections, enters its filter in 2⁻⁸ LSB. -/
def State.tmpSample (s : State) (inp : SampleIn) : State :=
  s.each 2 fun s x =>
    let i := s.sliceOf (34 + x)
    { s with sinc := vupd s.sinc x fun f => f.push ((vget s.cal i).apply (vget inp.codes i).toInt) }

def State.sincMark (s : State) (x : Nat) : State := { s with sinc := vupd s.sinc x SincSt.mark }

abbrev slotU : Nat := 12500000 * nsU
abbrev phaseU : Nat := 3125000 * nsU
abbrev frameU : Nat := 100000000 * nsU
abbrev outU : Nat := 125000 * nsU

/-- Sets a sticky bit of a channel with its event of Table 11-6. -/
def State.tmpStick (s : State) (c i : Nat) : State :=
  let e := match i with
    | 0 | 1 => 192 | 2 | 3 => 193 | 4 => 198 | 5 => 194 | 6 => 195 | _ => 196
  s.stickBits F.TMP_STKY_BITS c (2 ^ i) e

/-- Sets or clears live bit `i` of Table 11-4; setting it sets the sticky bit. -/
def State.tmpLive (s : State) (c i : Nat) (b : Bool) : State :=
  let v := s.g F.TMP_STAT_LIVE c
  let s := s.w F.TMP_STAT_LIVE c (setBit v i b)
  if b && !v.testBit i then s.tmpStick c i else s

/-- The settings of the last accepted request to change them; without one in the queue, those in force (R315). -/
def TmpSt.told (u : TmpSt) : TmpSet := ((u.q.filterMap id).getLast?).getD u.set

/-- The channel converts: enabled in the settings in force, its configuration not refused; a refused one whose request to
change the settings still waits goes on until that is popped. -/
def State.tmpOn (s : State) (c : Nat) : Bool :=
  let u := s.tmp! c
  u.set.en && (!s.gb F.TMP_STAT_CFGBAD c || (u.st ≠ 0 && u.q.any Option.isSome))

/-- The front end runs (R320, R321). -/
def State.tmpRuns (s : State) : Bool :=
  s.gb F.TMPG_CTRL_EN && s.inRun && !(s.gb F.TMPG_CTRL_TWSH && s.standby)

/-- The sources A and B, the return node and the reference inputs in phase `ph` (0 to 3) of a connection (R310, Tables 11-2
and 11-3). -/
def TmpSet.drives (t : TmpSet) (ph : Nat) : SrcSt :=
  let i : Int := if ph < 2 then stepUA t.step else -stepUA t.step
  let first : Option (Nat × Int) := some (lget t.pins 0, i)
  let second : Option (Nat × Int) := if t.wire = 1 then some (lget t.pins 1, i) else none
  { a := if ph % 2 = 0 then first else second, b := if ph % 2 = 0 then second else first,
    ret := some (lget t.pins (if t.wire = 1 then 2 else 1)), rref := rrefOhm t.rref, xchg := 2 ≤ ph }

/-- Sets what pair `p` drives, and its guard, by the channel that it serves (R313, R319). -/
def State.showPair (s : State) (p : Nat) : State :=
  let on := (List.range 16).find? fun d => pairOf d = p && (s.tmp! d).st ≠ 0
  let x : SrcSt := match on with | some d => (s.tmp! d).set.drives (s.tmp! d).ph | none => {}
  let ball := on.map fun d => lget (s.tmp! d).set.pins (if (s.tmp! d).set.wire = 2 then 2 else 0)
  let x := { x with grd := if (s.g F.TMPG_CTRL_GEN).testBit p && s.tmpRuns then some ball else none }
  { s with tsrc := vupd s.tsrc p fun _ => x }

/-- What a `TM` ball does (R312): a source drives it, the return node stands at it, an enabled channel names it, or it is at
high impedance. -/
inductive TmBall where
  | force (uA : Int)
  | ret
  | named
  | highZ
deriving DecidableEq, Repr

/-- Shows phase, drive and queue. -/
def State.showTmp (s : State) (c : Nat) : State :=
  let u := s.tmp! c
  let s := ((s.w F.TMP_STAT_PHASE c u.ph).wb F.TMP_STAT_ACT c (u.st ≠ 0)).w F.TMP_STAT_QLEN c u.q.length
  (s.w F.TMP_SETT_SETTLE c (10 * u.set.aset + 375)).showPair (pairOf c)

/-! ### Configuration (R311) and requests (R315) -/

/-- The settings that the registers hold. -/
def State.tmpRegs (s : State) (c : Nat) : TmpSet :=
  { en := s.gb F.TMP_CFG_EN c, wire := s.g F.TMP_CFG_WIRE c, step := s.g F.TMP_CFG_STEP c, rref := s.g F.TMP_CFG_RREF c,
    aset := s.g F.TMP_CFG_ASET c,
    pins := [s.g F.TMP_PINS_PIN0 c, s.g F.TMP_PINS_PIN1 c, s.g F.TMP_PINS_PIN2 c, s.g F.TMP_PINS_PIN3 c] }

/-- The pins a connection uses. -/
def TmpSet.used (t : TmpSet) : List Nat := t.pins.take (t.wire + 2)

/-- A configuration refused by itself: reference voltage outside 0.5 to 2.0 V, a ball named twice. -/
def TmpSet.bad (t : TmpSet) : Bool :=
  let uv := (if t.wire = 1 then 2 else 1) * stepUA t.step * rrefOhm t.rref
  uv < 500000 || 2000000 < uv || !decide t.used.Nodup

/-- Balls with a current-carrying role: (ball, shareable return). -/
def TmpSet.roles (t : TmpSet) : List (Nat × Bool) :=
  match t.wire with
  | 0 => [(lget t.pins 0, false), (lget t.pins 1, false)]
  | 1 => [(lget t.pins 0, false), (lget t.pins 1, false), (lget t.pins 2, true)]
  | _ => [(lget t.pins 0, false), (lget t.pins 1, true)]

/-- Two channels claim one ball. -/
def TmpSet.clash (a b : TmpSet) : Bool :=
  a.roles.any fun x => b.roles.any fun y => x.1 = y.1 && !(x.2 && y.2)

/-- The state of ball `j` (R312). -/
def State.tmBall (s : State) (j : Nat) : TmBall :=
  match s.tsrc.toList.findSome? fun x => ([x.a, x.b].filterMap id).find? fun y => y.1 = j with
  | some y => .force y.2
  | none =>
    if s.tsrc.toList.any fun x => x.ret = some j then .ret
    else if s.tmpRuns && (List.range 16).any fun c => s.tmpOn c && (s.tmp! c).set.used.contains j then .named
    else .highZ

/-- A request into the queue of a channel. -/
def State.tmpPost (s : State) (c : Nat) (r : Option TmpSet) : State :=
  if 4 ≤ (s.tmp! c).q.length then s.stickEv F.TMP_STKY_QOVF c 197
  else s.updTmp c fun u => { u with q := u.q ++ [r] }

/-- Currents off: the phases taken and the queued ADV requests go. -/
def TmpSt.stop (u : TmpSt) : TmpSt :=
  { u with st := 0, ph := 0, r := [], sum := 0, cnt := 0, cmpl := false, sopen := false, ext := false,
           q := u.q.filter Option.isSome }

/-- The channel's slot on its slice is over at instant `t`. -/
def State.tmpSlotOver (s : State) (c t : Nat) : State :=
  let s := { s with pairEnd := vupd s.pairEnd (pairOf c) fun _ => t }
  let s := s.updTsl (c / 8) fun x => { x with run := if x.run = some c then none else x.run }
  s.emit (.ball "GRD" (2 * pairOf c) t)

/-- The new settings of a CHG request act. -/
def State.tmpChange (s : State) (c : Nat) (t : TmpSet) (at' : Nat) : State :=
  let on := (s.tmp! c).st ≠ 0
  let s := s.updTmp c fun u => { u.stop with set := t }
  (if on then s.tmpSlotOver c at' else s).showTmp c

/-- The requests of an idle channel act at once: no phase is in force that they would have to wait for. -/
def State.tmpIdle (s : State) (c : Nat) : State :=
  let u := s.tmp! c
  if u.st = 0 && !u.q.isEmpty then (s.updTmp c fun u => { u with q := [] }).tmpChange c u.told s.t else s

/-- An applied configuration of a channel, given the registers' settings before the boundary: the request to change them; one
refused for a full queue leaves the previous settings in force. -/
def State.tmpApply (s : State) (c : Nat) (old : TmpSet) : State :=
  let t := s.tmpRegs c
  if t = old then s
  else if 4 ≤ (s.tmp! c).q.length then s.tmpPost c (some t)
  else (((s.updTmp c fun u => { u with own := t.bad }).tmpPost c (some t)).tmpIdle c).showTmp c

/-! ### Frames and slots (R309, R316) -/

/-- A frame begins on slice `x` at instant `t`: slots that did not come are missed. -/
def State.tmpFrame (s : State) (x t : Nat) : State :=
  let old := s.tsl! x
  let s := s.each 8 fun s i =>
    let c := 8 * x + i
    let s := if old.base.isSome && old.todo.testBit i && s.tmpOn c then s.bump F.TMP_MISSCNT_COUNT c else s
    let s := if (s.tmp! c).exts then s else s.tmpLive c 7 false
    s.updTmp c fun u => { u with exts := false }
  s.updTsl x fun y => { y with base := some t, delay := 0, todo := 255, defer' := none }

/-- The frame start at or after the newest sample. -/
def State.frameAt (s : State) : Nat := gridAt s.now frameU

def doTmpFrameStart (x : Nat) (s : State) : State :=
  let t := s.frameAt
  let early := match s.tmpFrom with
    | some f => tdiff t f < 0
    | none => false
  if s.tmpRuns && !early && tdiff t (tadd s.now sampleU) < 0 && (s.tsl! x).base ≠ some t then
    let s := { s with t := t }
    if (s.tsl! x).run.isSome then s.updTsl x fun y => { y with defer' := some t } else s.tmpFrame x t
  else s

/-- R309: a frame starts on a slice, or is deferred until its slot in progress ends (R316). -/
def execTmpFrameStart (x : Fin 2) (s : State) : Host.Outcome State Fault Refusal := .next (doTmpFrameStart x s)

/-- The start of a channel's slot in the frame of its slice, where it is still to come. -/
def State.slotAt (s : State) (c : Nat) : Option Nat :=
  let y := s.tsl! (c / 8)
  match y.base with
  | some b => if y.todo.testBit (c % 8) then some (tadd b (c % 8 * slotU + y.delay)) else none
  | none => none

/-- Begins the pre-drive of phase 1 at instant `t`. -/
def State.tmpDrive (s : State) (c t : Nat) : State :=
  let s := s.updTmp c fun u => { u.stop with st := 1, drive := t, long := 0 }
  (s.emit (.ball "GRD" (2 * pairOf c + 1) t)).showTmp c

/-- Later of the end of the pair's previous slot and `ASET` before the slot. -/
def State.driveAt (s : State) (c slot : Nat) : Nat :=
  let a := tadd slot (-((s.tmp! c).set.aset * 10 * usU : Nat))
  let b := vget s.pairEnd (pairOf c)
  if tdiff a b < 0 then b else a

/-- Another channel uses the source pair. -/
def State.pairBusy (s : State) (c : Nat) : Bool :=
  (List.range 16).any fun d => d ≠ c && pairOf d = pairOf c && (s.tmp! d).st ≠ 0

def doTmpPredrive (c : Nat) (s : State) : State :=
  match s.slotAt c with
  | some b =>
    let t := s.driveAt c b
    if s.tmpOn c && s.tmpRuns && (s.tmp! c).st = 0 && !s.pairBusy c && tdiff t (tadd s.now sampleU) < 0 then
      { s with t := t }.tmpDrive c t
    else s
  | none => s

/-- R314: the pair of a channel starts the phase-1 currents. -/
def execTmpPredrive (c : Fin 16) (s : State) : Host.Outcome State Fault Refusal := .next (doTmpPredrive c s)

def doTmpSlotStart (c : Nat) (s : State) : State :=
  match s.slotAt c with
  | some b =>
    if s.tmpRuns && (s.tsl! (c / 8)).run.isNone && tdiff b (tadd s.now sampleU) < 0 then
      let s := { s with t := b }.updTsl (c / 8) fun y => { y with todo := setBit y.todo (c % 8) false }
      let s := s.tmpIdle c
      if !s.tmpOn c then s
      else
        let s := if (s.tmp! c).st = 0 then s.tmpDrive c (s.driveAt c b) else s
        let s := s.updTsl (c / 8) fun y => { y with run := some c }
        let s := (s.sincMark (c / 8)).updTmp c fun u => { u with st := 2, ph := 0, slot := b, start := b, outs := 0, sum := 0, cnt := 0 }
        (s.tmpPost c none).showTmp c
    else s
  | none => s

/-- R309: a channel's slot starts; the slot of a disabled channel passes idle. -/
def execTmpSlotStart (c : Fin 16) (s : State) : Host.Outcome State Fault Refusal := .next (doTmpSlotStart c s)

/-! ### Conversion (R318) -/

/-- The largest value below `lo` + 2^i·… whose image does not exceed the target, for a rising `f`. -/
def bisect (f : Int → Bool) : Nat → Int → Int
  | 0, t => t
  | i + 1, t => bisect f i (if f (t + 2 ^ i) then t + 2 ^ i else t)

/-- Platinum: T in 2⁻¹⁶ °C from R and R₀ in µΩ, on the branch that rises with T; none above its summit at 3383.8 °C. -/
def platinum (r r0 : Int) : Option Int :=
  let f (t : Int) : Int :=
    10 ^ 15 * 2 ^ 64 + 39083 * 10 ^ 8 * t * 2 ^ 48 - 5775 * 10 ^ 5 * t ^ 2 * 2 ^ 32 -
      (if t < 0 then 4183 * (t - 100 * 2 ^ 16) * t ^ 3 else 0)
  let top : Int := 39083000 * 65536 / 11550
  let le (t : Int) : Bool := t ≤ top && f t * r0 ≤ r * (10 ^ 15 * 2 ^ 64)
  if r0 * (231000000 + 39083 ^ 2) < r * 231000000 then none else some (bisect le 30 (-(2 ^ 29)))

/-- Distance of a temperature from a range, 2⁻¹⁶ °C. -/
def away (lo hi t : Int) : Nat := if t < lo * 65536 then (lo * 65536 - t).toNat else if hi * 65536 < t then (t - hi * 65536).toNat else 0

/-- Silicon PTC: the root in −60 to +300 °C, or the one nearer to it; of two in range the one nearer 0 °C. -/
def silicon (r k0 k1 k2 : Int) : Option Int :=
  if k0 = 0 then none
  else if k2 = 0 then (if k1 = 0 then none else some (rdiv 130 ((r - k0) * 2 ^ 52 * k1.sign) (k0 * k1.natAbs)))
  else
    let d := k1 * k1 * k0 - 4 * k2 * 2 ^ 28 * (k0 - r)
    if d < 0 then none
    else
      let sq : Int := sqrtF 131 (d.toNat * 2 ^ 64 / k0.toNat)
      let root (sg : Int) : Int := rdiv 132 ((128 * 2 ^ 16 * (-k1 * 2 ^ 32 + sg * sq)) * k2.sign) (2 ^ 32 * k2.natAbs)
      let a := root 1
      let b := root (-1)
      let da := away (-60) 300 a
      let db := away (-60) 300 b
      some (if da < db then a else if db < da then b else if a.natAbs ≤ b.natAbs then a else b)

/-- Σ z^(2i+1)/(2i+1) in 2⁻⁶⁴ for z in 2⁻⁶⁴, `n` terms. -/
def atanhSum (z2 : Int) : Nat → Int → Nat → Int
  | 0, _, _ => 0
  | n + 1, p, i => p / (2 * i + 1) + atanhSum z2 n (p * z2 / 2 ^ 64) (i + 1)

/-- ln(n/d) in 2⁻⁴⁸, n and d positive. -/
def lnQ (n d : Nat) : Int :=
  let e : Int := (Nat.log2 n : Int) - Nat.log2 d
  let y : Int := if 0 ≤ e then (n * 2 ^ 64 / (d * 2 ^ e.toNat) : Nat) else (n * 2 ^ ((-e).toNat + 64) / d : Nat)
  let z := (y - 2 ^ 64) * 2 ^ 64 / (y + 2 ^ 64)
  (e * 12786308645202655660 + 2 * atanhSum (z * z / 2 ^ 64) 24 z 0) / 2 ^ 16

/-- NTC: T in 2⁻¹⁶ °C from R, K0 and B in 0.001 K. -/
def ntc (r k0 : Int) (b : Nat) : Option Int :=
  if r ≤ 0 || k0 ≤ 0 || b = 0 then none
  else
    let l := lnQ r.toNat k0.toNat
    let den := 100 * b * 2 ^ 48 + 29815000 * l
    if den ≤ 0 then none else some (29815 * b * 2 ^ 64 / den - 17901158)

/-- Lower and upper limits of a type, µΩ. -/
def tmpLimits (ty : Nat) (k0 : Int) : Option (Int × Int) :=
  match ty with
  | 1 => some (10000000, 500000000)
  | 2 => some (100000000, 5000000000)
  | 3 => some (k0 / 5, 5 * k0)
  | 4 => some (k0 / 200, 200 * k0)
  | _ => none

/-- Range of a type's equation, °C. -/
def tmpRange (ty : Nat) : Int × Int :=
  match ty with
  | 3 => (-60, 300) | 4 => (-55, 200) | _ => (-200, 850)

/-- The temperature of a resistance in µΩ by a channel's equation, with the departure R318 allows; where the equation
gives none, a free value. -/
def State.tmpConvert (s : State) (c : Nat) (r : Int) : Int × Bool × State :=
  let ty := s.g F.TMP_CFG_TYPE c
  let k0 : Int := s.g F.TMP_K0_K c * 1000
  let t := match ty with
    | 1 => platinum r 100000000
    | 2 => platinum r 1000000000
    | 3 => silicon r k0 (s.gi F.TMP_K1_K c) (s.gi F.TMP_K2_K c)
    | _ => ntc r k0 (s.g F.TMP_K1_K c)
  match t with
  | some t => (t + ((Config.tempDev ty r).val : Int) - 64, 0 < away (tmpRange ty).1 (tmpRange ty).2 t, s)
  | none =>
    let (v, s) := s.draw 130
    (sgn 32 v.toNat, true, s)

/-! ### Results (R317) -/

/-- The result of a sequence that completed its four phases at the present instant. -/
def State.tmpResult (s : State) (c : Nat) : State :=
  let u := s.tmp! c
  let r (i : Nat) : Int := lget u.r (3 - i)
  let sum := r 0 + r 1 - r 2 - r 3
  let rref : Int := rrefOhm u.set.rref * 1000000
  let rx := rdiv 133 (sum * rref) ((if u.set.wire = 1 then 2 else 4) * 2 ^ 40)
  let rx := if u.set.wire = 0 then rx - s.g F.TMP_RLEAD_RLEAD c * 1000 else rx
  let ty := s.g F.TMP_CFG_TYPE c
  let k0 : Int := s.g F.TMP_K0_K c * 1000
  let (above, below) : Bool × Bool := match tmpLimits ty k0 with
    | some (l, h) => (decide (h < rx), decide (rx < l))
    | none => (false, false)
  let opn := u.cmpl || above
  let sopn := u.set.wire = 2 && u.sopen
  let ovr := !opn && !sopn && u.r.any fun x => 2 ^ 40 ≤ x.natAbs
  let emf := 4 * 2 ^ 40 < 200 * (r 0 + r 1 + r 2 + r 3).natAbs
  let (t, far, s) := if ty = 0 then ((0 : Int), false, s) else s.tmpConvert c rx
  let valid := !opn && !sopn && !ovr && !below
  let s := ((((s.tmpLive c 0 opn).tmpLive c 1 sopn).tmpLive c 2 ovr).tmpLive c 3 below).tmpLive c 4 emf
  let hi := s.gi F.TMP_ALM_HI c * 4096
  let lo := s.gi F.TMP_ALM_LO c * 4096
  let s := if !valid then s
    else if hi < t then s.tmpLive c 5 true
    else if t ≤ hi - 65536 then s.tmpLive c 5 false else s
  let s := if !valid then s
    else if t < lo then s.tmpLive c 6 true
    else if lo + 65536 ≤ t then s.tmpLive c 6 false else s
  let s := ((s.w F.TMP_TEMPW_TEMPW c (enc 32 (satS 32 t))).w F.TMP_TEMP_TEMP c (enc 16 (satS 16 (rdiv 134 t 256)))).w F.TMP_RES_RES c
    (satU 32 (rdiv 135 rx 1000))
  let far := far && s.g F.TMP_STAT_LIVE c % 128 = 0
  let u0 := lget s.snt.tmpSwap (c / 8)
  let swapped : Bool := u0 ≠ 0 && 0 ≤ tdiff (u0 - 1) u.slot
  let s := (s.w F.TMP_TS_TS32 c (ts32 s.t)).w F.TMP_TEMP_EPOCH c (s.epochOf Group.tmp.source)
  let s := s.measured F.TMP_TEMP_STATUS c (statusByte valid true false false false s.holdover (emf || far || swapped) s.era)
  s.w F.TMP_SETT_PHMAX c (min u.long 65535)

/-! ### Phases (R314 to R316) -/

/-- End of the settle time of the phase in force. -/
def TmpSt.settled (u : TmpSt) : Nat :=
  let a := u.set.aset * 10 * usU
  if u.ph = 0 then
    let x := tadd u.slot (375 * usU)
    let y := tadd u.drive (a + 375 * usU : Nat)
    if tdiff x y < 0 then y else x
  else tadd u.start (a + 375 * usU : Nat)

/-- The sequence is over at instant `t`. -/
def State.tmpEnd (s : State) (c t : Nat) : State :=
  let s := (s.updTmp c TmpSt.stop).tmpSlotOver c t
  match (s.tsl! (c / 8)).defer' with
  | some f => if (s.tsl! (c / 8)).run.isNone then s.tmpFrame (c / 8) (if tdiff f t < 0 then t else f) else s
  | none => s

/-- The configurations that stand: of two enabled channels that claim one ball the higher-numbered one is refused (R311). A
refusal, new or of a configuration applied just now (`chg`), sets the sticky bit; a refused channel is as one disabled: with
no request of its own left that would end its currents, they go off. -/
def State.tmpCheck (s : State) (chg : Nat → Bool) : State :=
  s.each 16 fun s c =>
    let t := (s.tmp! c).told
    let hit := t.en && (List.range c).any fun d =>
      (s.tmp! d).told.en && !s.gb F.TMP_STAT_CFGBAD d && t.clash (s.tmp! d).told
    let bad := (s.tmp! c).own || hit
    let new : Bool := bad && (chg c || !s.gb F.TMP_STAT_CFGBAD c)
    let s := s.wb F.TMP_STAT_CFGBAD c bad
    let s := if new then s.stickEv F.TMP_STKY_CFGBAD c 197 else s
    if bad && (s.tmp! c).st ≠ 0 && !s.tmpOn c then (s.tmpEnd c s.t).showTmp c else s

/-- The settled sample of the phase has been taken at instant `t`: one request is popped (R315). -/
def State.tmpPop (s : State) (c t : Nat) : State :=
  let u := s.tmp! c
  let late := (tdiff t (tadd u.start phaseU)).toNat
  let s := s.updTsl (c / 8) fun y => { y with delay := y.delay + late }
  let s := s.updTmp c fun u =>
    { u with r := rdiv 136 (u.sum * 2 ^ 19) (u.cnt * 625 ^ 3) :: u.r, sum := 0, cnt := 0, ext := false, q := u.q.drop 1,
             long := max u.long ((tdiff t u.start).toNat / usU) }
  match u.q with
  | some n :: _ => (s.tmpChange c n t).tmpEnd c t
  | _ =>
    if u.ph = 3 then ((s.tmpResult c).tmpEnd c t).tmpIdle c
    else (s.updTmp c fun u => { u with ph := u.ph + 1, start := t }).tmpPost c none

/-- No output qualified by the end of the phase: it goes on (R316). -/
def State.tmpExtend (s : State) (c : Nat) : State :=
  ((s.updTmp c fun u => { u with ext := true, exts := true }).tmpLive c 7 true).tmpStick c 7

/-- A driving source cannot hold its current: a driven ball lies outside the compliance range, 0.3 to 4.5 V (R317, R522). -/
def TmpSet.complies (t : TmpSet) (m : TmpIn) : Bool :=
  (List.range (if t.wire = 1 then 2 else 1)).all fun i => 300000 ≤ vget m.pins i && vget m.pins i ≤ 4500000

/-- 4-wire: the mean of the sense balls lies outside the span of the force balls, widened by 50 mV (Table 11-4). -/
def TmpSet.senseOpen (t : TmpSet) (m : TmpIn) : Bool :=
  let v (i : Nat) : Int := vget m.pins i
  t.wire = 2 && (v 2 + v 3 < 2 * (min (v 0) (v 1) - 50000) || 2 * (max (v 0) (v 1) + 50000) < v 2 + v 3)

def doTmpFilterOutput (c : Nat) (m : TmpIn) (s : State) : State :=
  let u := s.tmp! c
  let t := tadd u.slot ((u.outs + 1) * outU)
  if u.st = 2 && tdiff t (tadd s.now sampleU) < 0 then
    let fin := tadd u.start phaseU
    let s := { s with t := t }
    let s := if 0 < tdiff t fin && u.cnt = 0 && !u.ext then s.tmpExtend c else s
    let ok := 0 ≤ tdiff t u.settled
    let y := (vget s.sinc (c / 8)).out
    let s := (s.sincMark (c / 8)).updTmp c fun u =>
      { u with outs := u.outs + 1, sum := if ok then u.sum + y else u.sum, cnt := if ok then u.cnt + 1 else u.cnt,
               cmpl := u.cmpl || !u.set.complies m, sopen := u.sopen || u.set.senseOpen m }
    (if 0 ≤ tdiff t fin && 0 < (s.tmp! c).cnt then s.tmpPop c t else s).showTmp c
  else s

/-- R314: an output of the sinc filter on the 125 µs grid of the slot. -/
def execTmpFilterOutput (c : Fin 16) (m : TmpIn) (s : State) : Host.Outcome State Fault Refusal :=
  .next (doTmpFilterOutput c m s)

def doPhaseExtend (c : Nat) (s : State) : State :=
  let u := s.tmp! c
  if u.st = 2 && !u.ext && u.cnt = 0 && 0 ≤ tdiff (tadd u.slot (u.outs * outU)) (tadd u.start phaseU) then
    { s with t := tadd u.start phaseU }.tmpExtend c
  else s

/-- R316: no filter output qualified by the scheduled end of the phase. -/
def execPhaseExtend (c : Fin 16) (s : State) : Host.Outcome State Fault Refusal := .next (doPhaseExtend c s)

def doGuardOverload (g : Nat) (s : State) : State :=
  if (s.g F.TMPG_CTRL_GEN).testBit g && s.tmpRuns then { s with t := s.now }.stickBits F.TMPG_STKY_GRDOVL 0 (2 ^ g) 199
  else s

/-- R319: a guard's current has stood at its limit for 1 ms. -/
def execGuardOverload (g : Fin 4) (s : State) : Host.Outcome State Fault Refusal := .next (doGuardOverload g s)

/-! ### Off and takeover (R320, R321) -/

/-- All sources and guards off; frames end. -/
def State.tmpOff (s : State) : State :=
  let s := s.each 16 fun s c => ((s.updTmp c TmpSt.stop).tmpIdle c).showTmp c
  { s with tsl := Vector.replicate 2 {} }

/-- The front end stops where `EN`, the mode or the role no longer let it run; shared results then lose VALID. -/
def State.tmpRecheck (s : State) : State :=
  let s := (if s.tmpRuns then s else s.tmpOff).each 4 State.showPair
  if s.gb F.TMPG_CTRL_TWSH && s.standby then
    s.each 16 fun s c => s.w F.TMP_TEMP_STATUS c (s.g F.TMP_TEMP_STATUS c / 4 * 4)
  else s

/-- A takeover with shared sensors: the first frame comes at least 20 ms after `t`. -/
def State.tmpTake (s : State) (t : Nat) : State :=
  if s.gb F.TMPG_CTRL_TWSH then { s with tmpFrom := some (tadd t (20 * msU)) } else s

end Sys2Proof.Machine
end

