-- ==== Sys2Proof/Machine/Can.lean ====
section
/-! DEFINITION. The CAN FD controllers (chapter 13): message objects, requests and cancels, selection, completions, error
counters and states, modes, sleep; and the loading of safe PDUs into their objects (R350, R381). The rows themselves are
in Machine/CanBus.lean, after the safe connections that received frames feed. -/

namespace Sys2Proof.Machine

def State.can! (s : State) (c : Nat) : CanSt := vget s.can c
def State.updCan (s : State) (c : Nat) (f : CanSt → CanSt) : State := { s with can := vupd s.can c f }
def State.conn! (s : State) (k : Nat) : ConnSt := SMap.get {} s.conns k
def State.updConn (s : State) (k : Nat) (f : ConnSt → ConnSt) : State :=
  { s with conns := SMap.set {} s.conns k (f (s.conn! k)) }

/-- The state at the instant of the newest sample, for a row that names no place between samples. -/
def State.here (s : State) : State := { s with t := s.now }

/-! ### What other blocks and the register views share -/

/-- A status byte as it reads now: FRESH falls when the age of the value passes its limit (R30). -/
def State.aged (s : State) (addr status : Nat) : Nat :=
  let u := SMap.get 0 s.stamps addr
  let limit := if 0xF000 ≤ addr && addr < 0xF400 then s.g F.GLB_FRESH_TMP_LIM * msU else 2 * s.detPeriod addr
  if bitOf status 1 && (u = 0 || (limit : Int) < tdiff s.t (u - 1)) then status - 2 else status

/-- A field of the active image of SM-A (`b` false) or SM-B (R347). -/
def State.ga (s : State) (b : Bool) (f : Fld) (n : Nat := 0) : Nat :=
  (SMap.get 0 (if b then s.actB else s.actA) (f.key n) ^^^ f.rst n) % 2 ^ f.width

/-- A one-bit field of the active image. -/
def State.gab (s : State) (b : Bool) (f : Fld) (n : Nat := 0) : Bool := decide (s.ga b f n ≠ 0)

/-- The sending connection that object `k` serves (R381). -/
def State.safeConn (s : State) (k : Nat) : Option Nat :=
  (List.range 256).find? fun i => s.ga false F.SAFC_CFG_DIR i = 1 && s.ga false F.SAFC_CFG_OBJ i = k

/-! ### Message objects (R372, R373) -/

/-- SRAM offset of word `j` of object `k` of controller `c`. -/
def objAt (c k j : Nat) : Nat := 0x120000 + 0x4000 * c + 0x80 * k + 4 * j

def State.objW (s : State) (c k j : Nat) : Nat := s.sram32 (objAt c k j)
def State.setObjW (s : State) (c k j v : Nat) : State := s.setSram32 (objAt c k j) (v % 2 ^ 32)

/-- KIND: 0 OFF, 1 SEND, 2 RECEIVE; 3 acts as OFF. -/
def State.objKind (s : State) (c k : Nat) : Nat :=
  let v := bitsOf (s.objW c k 0) 0 2
  if v = 3 then 0 else v

/-- A bit of the status word `OSTAT`. -/
def State.ostat (s : State) (c k i : Nat) : Bool := bitOf (s.objW c k 4) i
def State.setOstat (s : State) (c k i : Nat) (b : Bool) : State := s.setObjW c k 4 (setBit (s.objW c k 4) i b)
/-- Writes `OSTAT.RES`. -/
def State.setRes (s : State) (c k r : Nat) : State := s.setObjW c k 4 (s.objW c k 4 / 16 * 16 + r)
def State.colln (s : State) (c k : Nat) : Nat := bitsOf (s.objW c k 4) 8 3
def State.setColln (s : State) (c k v : Nat) : State :=
  let w := s.objW c k 4
  s.setObjW c k 4 (w - 256 * bitsOf w 8 3 + 256 * (v % 8))

abbrev bPend : Nat := 4
abbrev bTxact : Nat := 5
abbrev bSusp : Nat := 6
abbrev bCanreq : Nat := 7
abbrev bNew : Nat := 11
abbrev bOvw : Nat := 12

/-- `CANc_PEND` and `CANc_SUSP`: objects 32 i to 32 i + 31 with that bit of `OSTAT`. -/
def State.objMask (s : State) (c i b : Nat) : Nat :=
  (List.range 32).foldl (fun m j => m + 2 ^ j * b2n (s.ostat c (32 * i + j) b)) 0

/-- A bit of `CANc_STKY` with its event (Table 13-9). -/
def State.canStick (s : State) (c : Nat) (f : Fld) : State :=
  let e := if f.lo < 2 then 224 else if f.lo < 4 then 225 else if f.lo = 4 then 226 else if f.lo = 5 then 227
    else if f.lo < 8 then 228 else 229
  s.stickEv f c (e + 6 * c)

/-- One more in the saturating counter `SKIP` of an object (R46). -/
def State.bumpSkip (s : State) (c k : Nat) : State :=
  let v := s.objW c k 6
  s.setObjW c k 6 (if v % 2 ^ 24 = 2 ^ 24 - 1 then v ||| 2 ^ 31 else v + 1)

/-! ### Modes (R367, R391) -/

abbrev cConfig : Nat := 0
abbrev cIntegrating : Nat := 1
abbrev cActive : Nat := 2
abbrev cPassive : Nat := 3
abbrev cBusOff : Nat := 4
abbrev cSleep : Nat := 5

def State.cst (s : State) (c : Nat) : Nat := s.g F.CAN_STAT_STATE c

/-- The mode a controller acts in: LISTEN in role STANDBY, else the mode in force. -/
def State.canMode (s : State) (c : Nat) : Nat := if s.standby then 3 else (s.can! c).mode

/-- Mode and role let the controller transmit. -/
def State.mayTx (s : State) (c : Nat) : Bool :=
  (s.canMode c = 1 || s.canMode c = 4) && s.cst c ≠ cSleep && s.cst c ≠ cConfig

/-- The controller takes part in the bus. -/
def State.onBus (s : State) (c : Nat) : Bool := s.cst c = cActive || s.cst c = cPassive

/-- `CANc_STAT`: LOM, TXACT, TEC and REC as they stand. -/
def State.showCan (s : State) (c : Nat) : State :=
  let d := s.can! c
  (((s.wb F.CAN_STAT_LOM c s.standby).wb F.CAN_STAT_TXACT c d.tx.isSome).w F.CAN_STAT_TEC c (min d.tec 255)).w
    F.CAN_STAT_REC c (min d.rec' 255)

/-- `CAN_WAKE` (R390). -/
def State.showWake (s : State) : State :=
  let rest (c : Nat) : Bool := s.cst c = cSleep || (s.cst c = cConfig && (s.can! c).slept)
  { s with canWake := !(rest 0 && rest 1) }

/-! ### Ring entries (R377, R405) -/

/-- The host transmit ring of a controller (R397). -/
def State.canRing (s : State) (c : Nat) : Option Nat :=
  (List.range 8).find? fun r => s.gb F.HIF_RING_CFG_EN r && s.g F.HIF_RING_CFG_CLASS r = 1 + c

/-- One descriptor of a ring is consumed (R399, R414). -/
def State.consume1 (s : State) (r : Nat) : State :=
  let s := s.advance r 1
  if s.gb F.HIF_RING_CFG_IEN r then s.cause (s.g F.HIF_RING_CFG_VEC r) else s

/-- Bits 5:0 of a CAN header's second word, its controller, no matching object, the result (Table 13-8). -/
def canHdr1 (c w res : Nat) : Nat := w % 64 + 64 * c + 127 * 256 + 65536 * res

/-- The ring entry of a controller completes with a result of Table 13-6: the ring advances. -/
def State.entryDone (s : State) (c res : Nat) : State :=
  match (s.can! c).entry with
  | none => s
  | some e =>
    if e.gone then s.updCan c fun d => { d with entry := none }
    else
    let sof := if res = 2 || res = 4 then (s.can! c).sof else s.t
    let s := (s.updCan c fun d => { d with entry := none }).consume1 e.ring
    let t := s.t
    let s := { s with t := sof }.complete e.ring 0xC0 e.cmpl res e.tag 0
      (leBytes 4 e.hdr0 ++ leBytes 4 (canHdr1 c e.hdr1 res))
    { s with t := t }

/-- Every entry of the ring that is not in transmission completes with a result, those behind the head as their
descriptors are fetched. -/
def State.ringPurge (s : State) (c res : Nat) : State :=
  match s.canRing c with
  | none => s
  | some r =>
    let d := s.can! c
    if d.tx = some 128 then
      s.updCan c fun d => { d with purge := s.avail r - 1, purgeRes := res, entry := d.entry.map fun e => { e with cancel := true } }
    else
      let s := s.entryDone c res
      s.updCan c fun d => { d with purge := s.avail r, purgeRes := res }

/-! ### Requests, completions, cancels (R375, R378, R379, R380) -/

/-- Object `k` takes a transmit request; the safety monitor's requests concern safe objects, all others those that are
none. -/
def State.canTakes (s : State) (c k : Nat) (monitor : Bool) : Bool :=
  s.objKind c k = 1 && !s.ostat c k bSusp && !s.ostat c k bPend && (s.safeConn k).isSome = monitor && s.mayTx c

/-- A transmit request on object `k`. Second: the request was accepted. -/
def State.canReq (s : State) (c k : Nat) (monitor : Bool) : State × Bool :=
  if s.canTakes c k monitor then ((s.setOstat c k bPend true).setRes c k 1, true)
  else (s.canStick c F.CAN_STKY_TXREF, false)

/-- The data bytes 0 to 63 of an object from a list, the rest 0. -/
def State.setObjData (s : State) (c k : Nat) (bs : List Byte) : State :=
  s.setSramBytes (objAt c k 16) (padTo 64 bs)

/-- Loads a PDU, or keeps it waiting: object `k` of controller `c` is free and takes the request, or the monitor holds the
PDU (R350, R381). -/
def State.safeLoad (s : State) (c k i : Nat) (pdu : List Byte) (gen : Nat) : State :=
  let (s', ok) := if s.ostat c k bPend || (s.can! c).tx = some k then (s, false) else s.canReq c k true
  if ok then
    (s'.setObjData c k pdu).updConn i fun n => { n with sent := n.sent.set c (some gen), next := n.next.set c none }
  else s'.updConn i fun n => { n with next := n.next.set c (some (pdu, gen)) }

/-- Object `k` may take a waiting PDU. -/
def State.safeNext (s : State) (c k : Nat) : State :=
  match s.safeConn k with
  | none => s
  | some i =>
    match (s.conn! i).next.getD c none with
    | some (pdu, gen) => if s.canTakes c k true && (s.can! c).tx ≠ some k then s.safeLoad c k i pdu gen else s
    | none => s

/-- The request of object `k` completes with a result. -/
def State.canDone (s : State) (c k res : Nat) : State :=
  let s := (((s.setOstat c k bPend false).setOstat c k bTxact false).setOstat c k bCanreq false).setRes c k res
  match s.safeConn k with
  | some i => (s.updConn i fun n => { n with sent := n.sent.set c none }).safeNext c k
  | none => s

/-- Every pending object that is not in transmission completes with a result. -/
def State.objPurge (s : State) (c res : Nat) : State :=
  let l := (List.range 128).filter fun k => s.ostat c k bPend && (s.can! c).tx ≠ some k
  l.foldl (fun s k => s.canDone c k res) s

/-- A cancel of object `k` (R379). Second: it was accepted. -/
def State.canCancel (s : State) (c k : Nat) (monitor : Bool) : State × Bool :=
  if !s.ostat c k bPend || ((s.safeConn k).isSome && !monitor) then (s, false)
  else if (s.can! c).tx = some k then (s.setOstat c k bCanreq true, true)
  else (s.canDone c k 3, true)

/-- `RESUME`: the suspension and the count of collisions end (R380). -/
def State.canResume (s : State) (c k : Nat) : State :=
  ((s.setOstat c k bSusp false).setColln c k 0).safeNext c k

/-- `CANc_OCMD`: request, cancel, resume, and `CANc_ORES`. -/
def State.canOcmd (s : State) (c k : Nat) (txreq cancel resume : Bool) : State :=
  let (s, a) := if txreq then s.canReq c k false else (s, true)
  let (s, b) := if cancel then s.canCancel c k false else (s, true)
  let s := if resume then s.canResume c k else s
  s.w F.CAN_ORES_RES c (b2n !(a && b))

/-- A write of a data word of an object (R373). Second: it was refused. -/
def State.canDataWrite (s : State) (c word v : Nat) : State × Bool :=
  let k := word / 32
  let j := word % 32
  if j < 16 then (s, false)
  else if s.ostat c k bPend || (s.can! c).tx = some k || (s.safeConn k).isSome then (s.canStick c F.CAN_STKY_TXREF, true)
  else (s.setObjW c k j v, false)

/-- Writable bits of words 0x00 to 0x0C. -/
def objBits (j : Nat) : Nat := match j with | 0 => 0xFFFF0FFF | 1 => 0xFFFFFFFF | 2 => 0x1F | _ => 0x1FFFFFFF

/-- A boundary applies a staged word 0x00 to 0x0C of an object (R373). -/
def State.canObjApply (s : State) (c off v : Nat) : State :=
  let k := (off - objAt c 0 0) / 128
  let j := (off - objAt c 0 0) % 128 / 4
  if (s.can! c).tx = some k then s.updCan c fun d => { d with late := d.late ++ [(off, v)] }
  else
    let s := if s.ostat c k bPend then s.canDone c k 8 else s
    (s.setObjW c k j (v &&& objBits j)).safeNext c k

/-! ### Modes and bit timing (R366, R367) -/

/-- The bit timing of the registers. -/
def State.canTiming (s : State) (c : Nat) : Nat × Nat × Nat :=
  (s.regWord (0x12004 + 0x1000 * c), s.regWord (0x12008 + 0x1000 * c), s.g F.CAN_TDC_TDCO c)

/-- The rates the timing gives are allowed: cycles of a nominal and of a data bit. -/
def timingOk (bt : Nat × Nat × Nat) : Bool :=
  let n := (bt.1 % 256 + 1) * (3 + bitsOf bt.1 8 8 + bitsOf bt.1 16 7)
  let d := (bt.2.1 % 32 + 1) * (3 + bitsOf bt.2.1 8 5 + bitsOf bt.2.1 16 4)
  80 ≤ n && 10 ≤ d && d ≤ n

/-- Enters CONFIG: counters 0, every request and ring entry completes with MODE. -/
def State.enterConfig (s : State) (c : Nat) : State :=
  let s := (s.updCan c fun d => { d with mode := 0, tec := 0, rec' := 0, recov := false, toSleep := false }).w F.CAN_STAT_STATE c cConfig
  ((s.objPurge c 8).ringPurge c 8).showCan c

/-- Takes the registers' timing where it is allowed and begins bus integration; else the controller stays in CONFIG. -/
def State.leaveConfig (s : State) (c m : Nat) : State :=
  let bt := s.canTiming c
  let s := (s.updCan c fun d => { d with bt := bt }).w F.CAN_STAT_BT_PEND c 0
  if timingOk bt then
    ((s.updCan c fun d => { d with mode := m }).w F.CAN_STAT_BT_BAD c 0).w F.CAN_STAT_STATE c cIntegrating
  else s.w F.CAN_STAT_BT_BAD c 1

/-- Brings the mode in force to `CANc_CFG.MODE` and the role, unless a frame is in transmission (R367, R391). -/
def State.canModeCheck (s : State) (c : Nat) : State :=
  let d := s.can! c
  let m := s.g F.CAN_CFG_MODE c
  if d.tx.isSome then s.showCan c
  else
    let s :=
      if d.mode = 0 && m ≠ 0 then s.leaveConfig c m
      else if d.mode ≠ 0 && m = 0 then
        if s.standby then s.updCan c fun d => { d with mode := 0 } else s.enterConfig c
      else s.updCan c fun d => { d with mode := m }
    -- in STANDBY the controller acts as LISTEN whatever MODE holds
    let s :=
      if s.standby && s.cst c = cConfig && s.g F.CAN_CFG_MODE c = 0 then
        let bt := s.canTiming c
        if timingOk bt then ((s.updCan c fun d => { d with bt := bt }).w F.CAN_STAT_BT_PEND c 0).w F.CAN_STAT_STATE c cIntegrating
        else s.w F.CAN_STAT_BT_BAD c 1
      else if !s.standby && (s.can! c).mode = 0 && s.cst c ≠ cConfig then s.enterConfig c
      else s
    let s := if s.mayTx c || s.cst c = cSleep || s.cst c = cConfig then s else (s.objPurge c 8).ringPurge c 8
    ((List.range 128).foldl (fun s k => if (s.safeConn k).isSome then s.safeNext c k else s) (s.showCan c)).showWake

/-- A boundary applied the group of controller `c` (R366). -/
def State.canApply (s : State) (c : Nat) : State :=
  let s := if (s.can! c).mode = 0 && s.cst c = cConfig then (s.updCan c fun d => { d with bt := s.canTiming c }).w F.CAN_STAT_BT_PEND c 0
    else if (s.can! c).bt = s.canTiming c then s.w F.CAN_STAT_BT_PEND c 0 else s.w F.CAN_STAT_BT_PEND c 1
  s.canModeCheck c

/-! ### Error counters and states (R368, R369, R370) -/

/-- Enters BUS_OFF. -/
def State.busOff (s : State) (c : Nat) : State :=
  let s := (((s.w F.CAN_STAT_STATE c cBusOff).canStick c F.CAN_STKY_BOFF).bump F.CAN_BOCNT_COUNT c).updCan c
    fun d => { d with recov := !s.gb F.CAN_CFG_MANREC c, toSleep := false }
  if s.gb F.CAN_CFG_ABORT_BO c then ((s.objPurge c 5).ringPurge c 5).canStick c F.CAN_STKY_ABORT else s

/-- The state that the counters give, with its sticky bits; `tec0`, `rec0` are the counters before. -/
def State.canCounters (s : State) (c tec0 rec0 : Nat) : State :=
  let d := s.can! c
  let s := if (tec0 < 96 && 96 ≤ d.tec) || (rec0 < 96 && 96 ≤ d.rec') then s.canStick c F.CAN_STKY_EWARN else s
  let s :=
    if 255 < d.tec then s.busOff c
    else if 128 ≤ d.tec || 128 ≤ d.rec' then
      if s.cst c = cPassive then s else (s.w F.CAN_STAT_STATE c cPassive).canStick c F.CAN_STKY_EPASS
    else s.w F.CAN_STAT_STATE c cActive
  s.showCan c

/-- The counters count in NORMAL and LOOPBACK (Table 13-2). -/
def State.counts (s : State) (c : Nat) : Bool := s.canMode c = 1 || s.canMode c = 4

/-- Changes the counters. -/
def State.countBy (s : State) (c : Nat) (f : CanSt → CanSt) : State :=
  let d := s.can! c
  if s.counts c then (s.updCan c f).canCounters c d.tec d.rec' else s

/-! ### Frames -/

/-- Data bytes of a data length code (ISO 11898-1; R363). -/
def dlcLen (fd : Bool) (dlc : Nat) : Nat :=
  if dlc ≤ 8 then dlc else if !fd then 8
  else match dlc with | 9 => 12 | 10 => 16 | 11 => 20 | 12 => 24 | 13 => 32 | 14 => 48 | _ => 64

/-- Smallest data length code of an FD frame that holds `n` bytes. -/
def fdDlc (n : Nat) : Nat := ((List.range 16).find? fun d => n ≤ dlcLen true d).getD 15

/-- The priority key of a frame (R376). -/
def canKey (hdr0 : Nat) : Nat :=
  let base := bitsOf hdr0 18 11 * 2 ^ 19
  if bitOf hdr0 29 then base + 2 ^ 18 + bitsOf hdr0 0 18 * 2 + b2n (bitOf hdr0 30) else base + 2 ^ 18 * b2n (bitOf hdr0 30)

/-- Length of the PDU of a connection (Table 12-8). -/
def State.pduLen (s : State) (i : Nat) : Nat :=
  (if s.ga false F.SAFC_CFG_SRC i = 2 then 16 else s.ga false F.SAFC_CFG_DLEN i) + 12

/-- The header words of the frame of object `k`: its own, or those of its connection (R381). ESI of an FD frame is the error
state (R362). -/
def State.objHdr (s : State) (c k : Nat) : Nat × Nat :=
  let w1 := s.objW c k 1
  let esi := s.cst c = cPassive && (bitOf w1 30 || (s.safeConn k).isSome)
  let tail (brs : Bool) : Nat := 16 * b2n brs + 32 * b2n esi + 64 * c
  match s.safeConn k with
  | some i =>
    (s.ga false F.SAFC_ID_ID i + 2 ^ 29 * s.ga false F.SAFC_ID_IDE i + 2 ^ 31, fdDlc (s.pduLen i) + tail (bitOf w1 31))
  | none =>
    let fd := bitOf w1 30
    (w1 % 2 ^ 30 + 2 ^ 31 * b2n fd, s.objW c k 2 % 16 + tail (fd && bitOf w1 31))

/-- The fill data of an object and whether its source is FRESH (R374, Table 13-5). -/
def State.objFill (s : State) (c k : Nat) : Option (List Byte × Bool) :=
  let w := s.objW c k 0
  let src := bitsOf w 8 4
  match bitsOf w 2 3 with
  | 1 =>
    let g := s.obsGroup (s.engine src)
    let sel := bitsOf w 6 2
    let ang := lget g (match sel with | 0 => 1 | 2 => 2 | _ => 0)
    let st := if sel = 0 || sel = 2 then bitsOf (lget g 7) 24 8 else lget g 7 % 256
    some (leBytes 4 ang ++ leBytes 4 (lget g 3) ++ leBytes 1 st ++ leBytes 1 (lget g 7 / 256) ++ leBytes 4 (lget g 8),
      bitOf st 1)
  | 2 =>
    let st := s.aged (0xF01C + 0x40 * src) (s.g F.TMP_TEMP_STATUS src)
    some (leBytes 4 (s.g F.TMP_TEMPW_TEMPW src) ++ leBytes 4 (s.g F.TMP_TS_TS32 src) ++ leBytes 1 st ++
      leBytes 1 (s.g F.TMP_TEMP_EPOCH src), bitOf st 1)
  | _ => none

/-- The candidates of a selection with their keys: 0 to 127 objects, 128 the ring entry. -/
def State.canCands (s : State) (c : Nat) : List (Nat × Nat) :=
  ((List.range 128).filter fun k => s.ostat c k bPend && s.objKind c k = 1).map (fun k => (k, canKey (s.objHdr c k).1)) ++
    match (s.can! c).entry with | some e => [(128, canKey e.hdr0)] | none => []

/-- The candidate with the lowest key; the first of equal ones. -/
def lowest : List (Nat × Nat) → Option (Nat × Nat)
  | [] => none
  | a :: l => match lowest l with
    | some b => if a.2 ≤ b.2 then some a else some b
    | none => some a

/-- The frame of `k` is offered: its start of frame is driven. -/
def State.startTx (s : State) (c k : Nat) (data : List Byte) : State :=
  let s := s.updCan c fun d => { d with tx := some k, txData := data, sof := s.t }
  (if k < 128 then s.setOstat c k bTxact true else s).showCan c

/-- The ring entry is offered, with the controller's own ESI in an FD frame (R362). -/
def State.startEntry (s : State) (c : Nat) : State :=
  match (s.can! c).entry with
  | some e =>
    let h1 := e.hdr1 % 32 + 32 * b2n (s.cst c = cPassive && bitOf e.hdr0 31)
    (s.updCan c fun d => { d with entry := some { e with hdr1 := h1 } }).startTx c 128 e.data
  | none => s

/-- A word of object `k` is poisoned (Table 17-1). -/
def State.objBad (s : State) (c k : Nat) : Bool := s.poisonIn (objAt c k 0) (objAt c k 0 + 128)

/-- A selection instant (R376): the frame with the lowest key starts; a filled one without a FRESH source is skipped. -/
def State.canSelect (s : State) (c : Nat) : State :=
  if !(s.onBus c && s.mayTx c && (s.can! c).tx.isNone && !(s.can! c).toSleep) then s
  else match lowest (s.canCands c) with
    | none => s
    | some (k, _) =>
      if k = 128 then s.startEntry c
      else if s.objBad c k then s.canDone c k 9
      else
        let (h0, h1) := s.objHdr c k
        let len := dlcLen (bitOf h0 31) (h1 % 16)
        match (if (s.safeConn k).isSome then none else s.objFill c k) with
        | some (bs, true) =>
          let d := padTo 64 (padTo len bs)
          (s.setObjData c k d).startTx c k (d.take len)
        | some (_, false) => ((s.canDone c k 7).bumpSkip c k).canStick c F.CAN_STKY_SKIP
        | none => s.startTx c k (s.sramBytes (objAt c k 16) len)

/-- A frame in transmission ended: changes that waited for it act (R367, R373, R391). -/
def State.canFrameEnd (s : State) (c : Nat) : State :=
  let k := (s.can! c).tx
  let late := (s.can! c).late
  let s := s.updCan c fun d => { d with tx := none, txData := [], late := [] }
  let s := match k with
    | some k => if k < 128 then s.setOstat c k bTxact false else s
    | none => s
  (late.foldl (fun s w => s.canObjApply c w.1 w.2) s).canModeCheck c

/-- The frame in transmission was sent without error (R365, R378). -/
def State.canSent (s : State) (c delay : Nat) : State :=
  match (s.can! c).tx with
  | none => s
  | some k =>
    let d := s.can! c
    let s := s.countBy c fun d => { d with tec := d.tec - 1 }
    let (h0, h1) := if k = 128 then (match d.entry with | some e => (e.hdr0, e.hdr1 % 64 + 64 * c) | none => (0, 0))
      else s.objHdr c k
    let s := if s.canMode c = 4 then s else s.emit (.can c h0 h1 d.txData)
    let s := if s.gb F.CAN_CFG_TDC_EN c && bitOf h0 31 && bitOf h1 4 then
        let s := s.w F.CAN_TDC_TDCV c (min delay 255)
        if 127 < delay then s.canStick c F.CAN_STKY_TDCERR else s
      else s
    let s :=
      if k = 128 then
        s.entryDone c (if (d.entry.map fun e => e.cancel).getD false then 4 else 2)
      else
        let r := if s.ostat c k bCanreq then 4 else 2
        let s := ((s.setColln c k 0).setObjW c k 5 (ts32 d.sof)).setObjW c k 7 (s.objW c k 7 + 1)
        (s.updCan c fun d => { d with tx := none }).canDone c k r
    s.canFrameEnd c

/-- Code of `CANc_STAT.LEC`. -/
def lecCode : CanErr → Nat
  | .arbitrationLost => 0 | .stuff => 1 | .form => 2 | .ack => 3 | .bit1 => 4 | .bit0 => 5 | .crc => 6

/-- The frame of this controller ended without success: collisions, cancel, one shot (R378, R379, R380). -/
def State.canTxFail (s : State) (c : Nat) (err : CanErrIn) : State :=
  let d := s.can! c
  let hit : Bool := err.late && (err.kind = .bit1 || err.kind = .bit0)
  let lim := s.g F.CAN_CFG_COLL_N c
  match d.tx with
  | none => s
  | some 128 =>
    let n := match d.entry with | some e => if hit then e.colln + 1 else e.colln | none => 0
    let s := if hit then s.bump F.CAN_COLLCNT_COUNT c else s
    let s := s.updCan c fun d => { d with tx := none, entry := d.entry.map fun e => { e with colln := n } }
    if hit && lim ≤ n then (s.canStick c F.CAN_STKY_COLL).entryDone c 6
    else if (d.entry.map fun e => e.cancel).getD false then s.entryDone c 3
    else s
  | some k =>
    let n := s.colln c k + 1
    let s := if hit then (s.bump F.CAN_COLLCNT_COUNT c).setColln c k n else s
    let s := (s.updCan c fun d => { d with tx := none }).setOstat c k bTxact false
    if hit && lim ≤ n then ((s.setOstat c k bSusp true).canStick c F.CAN_STKY_COLL).canDone c k 6
    else if s.ostat c k bCanreq then s.canDone c k 3
    else if bitOf (s.objW c k 0) 5 then s.canDone c k 9
    else s

/-- An arbitration loss or a protocol error ends a frame (R368, R378). -/
def State.canErr (s : State) (c : Nat) (err : CanErrIn) : State :=
  if !s.onBus c then s
  else
    let tx : Bool := (s.can! c).tx.isSome
    let late := (s.can! c).late
    if err.kind = .arbitrationLost then
      if tx then
        let s := (s.canTxFail c err).updCan c fun d => { d with late := [] }
        (late.foldl (fun s w => s.canObjApply c w.1 w.2) (s.updCan c fun d => { d with tx := none })).canModeCheck c
      else s
    else if s.canMode c = 4 && !tx then s
    else
      let s := s.w F.CAN_STAT_LEC c (lecCode err.kind)
      let s := if s.counts c then s.bump F.CAN_BERRCNT_COUNT c else s
      let s := if tx then (s.canTxFail c err).updCan c fun d => { d with tx := none, txData := [], late := [] } else s
      let s := s.countBy c fun d =>
        if tx then { d with tec := if err.exempt then d.tec else d.tec + 8 }
        else { d with rec' := d.rec' + (if err.heavy then 8 else 1) }
      (late.foldl (fun s w => s.canObjApply c w.1 w.2) s).canModeCheck c

/-! ### Reception (R382, R383, R384) -/

/-- The instant of a start of frame `age` units before the newest sample. -/
def State.sofOf (s : State) (age : Nat) : Nat := tadd s.now (-(age : Int))

/-- The first RECEIVE object that matches a data frame (R383). -/
def State.canMatch (s : State) (c : Nat) (h0 : Nat) : Option Nat :=
  if bitOf h0 30 then none
  else (List.range 128).find? fun k =>
    let w1 := s.objW c k 1
    s.objKind c k = 2 && bitOf h0 29 = bitOf w1 29 &&
      ((h0 % 2 ^ 29) ^^^ (w1 % 2 ^ 29)) &&& (s.objW c k 3 % 2 ^ 29) = 0 &&
      (!bitOf (s.objW c k 2) 4 || bitOf h0 31 = bitOf w1 30)

/-- Status of a stored or received frame: VALID, FRESH, HOLDOVER and ERA of its start of frame (R384). -/
def State.canStatus (s : State) (sof : Nat) (fresh : Bool) : Nat :=
  statusByte true fresh false false false (s.flagsAt sof).1 false (s.flagsAt sof).2

/-- Stores a frame in object `k` (R383). -/
def State.canStore (s : State) (c k : Nat) (f : CanFrame) (sof : Nat) : State :=
  let h0 := f.hdr0.toNat
  let h1 := f.hdr1.toNat
  let had := s.ostat c k bNew
  let s := (s.setObjW c k 1 (h0 % 2 ^ 30 + 2 ^ 30 * b2n (bitOf h0 31) + 2 ^ 31 * b2n (bitOf h1 4))).setObjW c k 2
    (s.objW c k 2 / 16 * 16 + h1 % 16)
  let s := ((s.setObjData c k f.data).setObjW c k 5 (ts32 sof)).setObjW c k 7 (s.objW c k 7 + 1)
  let s := s.setOstat c k bNew true
  let s := s.setObjW c k 4 (s.objW c k 4 % 65536 + 65536 * s.canStatus sof true)
  let s := { s with canAt := SMap.set 0 s.canAt (128 * c + k) (sof + 1),
                    poison := s.poison.filter fun w => !(objAt c k 0 ≤ 8 * w && 8 * w < objAt c k 0 + 128) }
  if had then (s.setOstat c k bOvw true).canStick c F.CAN_STKY_OVW else s

/-- `OSTAT` as it reads now: FRESH by the age of the stored frame (R384), no VALID with a poisoned word. -/
def State.ostatNow (s : State) (c k : Nat) : Nat :=
  let w := s.objW c k 4
  let w := if s.objBad c k then w - 65536 * bitsOf w 16 2 else w
  let u := SMap.get 0 s.canAt (128 * c + k)
  let lim := max 1 (bitsOf (s.objW c k 0) 16 16) * msU
  if bitOf w 17 && (u = 0 || (lim : Int) < tdiff s.t (u - 1)) then w - 2 ^ 17 else w

/-- The CANRX record of a frame; one that cannot be delivered counts in `CANc_RXDROP` (R382, R407, R408). -/
def State.canDeliver (s : State) (c : Nat) (f : CanFrame) (sof : Nat) (obj : Option Nat) (wake : Bool) : State :=
  let r := if c = 0 then s.g F.HIF_ROUTE1_CANRX0 else s.g F.HIF_ROUTE1_CANRX1
  let h1 := f.hdr1.toNat % 64 + 64 * c + 256 * obj.getD 127 + 32768 * b2n obj.isSome + 2 ^ 20 * b2n wake
  let bs := header 6 c (s.canStatus sof true) (s.epochOf (21 + 1 + c)) sof ++ leBytes 4 f.hdr0.toNat ++ leBytes 4 h1 ++ f.data
  let lost : Bool := !s.d2h r || !s.room r bs
  let s := s.record r bs
  if lost then (s.bump F.CAN_RXDROP_COUNT c).canStick c F.CAN_STKY_RXDROP else s

/-- The controller receives frames from the bus. -/
def State.receives (s : State) (c : Nat) : Bool := s.onBus c && s.canMode c ≠ 0 && s.canMode c ≠ 4

/-- A received frame without the safe-frame matcher: counters, objects, host ring. -/
def State.canRx (s : State) (c : Nat) (f : CanFrame) : State :=
  let sof := s.sofOf f.age
  let (v, s) := if s.canMode c = 1 && 127 < (s.can! c).rec' then s.draw 140 else (0#64, s)
  let s := if s.canMode c = 1 then
      s.countBy c fun d => { d with rec' := if 127 < d.rec' then 119 + v.toNat % 9 else d.rec' - 1 }
    else s
  let o := s.canMatch c f.hdr0.toNat
  let s := match o with | some k => s.canStore c k f sof | none => s
  s.canDeliver c f sof o false

/-! ### Sleep (R388, R389) -/

def State.canSleep (s : State) (c : Nat) : State :=
  let ok : Bool := (s.can! c).mode ≠ 0 && s.cst c ≠ cConfig && s.cst c ≠ cBusOff && s.cst c ≠ cSleep
  (s.updCan c fun d => { d with toSleep := d.toSleep || ok, slept := true }).showWake

/-- A sleeping controller wakes: it integrates, then takes up the mode in force. -/
def State.canWakeUp (s : State) (c : Nat) : State :=
  if s.cst c = cSleep then
    (((s.w F.CAN_STAT_STATE c cIntegrating).updCan c fun d => { d with slept := false }).canStick c F.CAN_STKY_WAKE).canModeCheck c
  else s

/-- `RECOVER` (R369). -/
def State.canRecover (s : State) (c : Nat) : State :=
  if s.cst c = cBusOff then s.updCan c fun d => { d with recov := true } else s

/-- `RINGCAN` (R379). -/
def State.canRingcan (s : State) (c : Nat) : State := s.ringPurge c 3

/-- `CANc_CMD`. -/
def State.canCmd (s : State) (c v : Nat) : State :=
  let s := if bitOf v 0 then s.canRecover c else s
  let s := if bitOf v 1 then s.canSleep c else s
  let s := if bitOf v 2 then (s.canWakeUp c).updCan c fun d => { d with slept := false } else s
  let s := if bitOf v 3 then s.canRingcan c else s
  s.showWake

/-- The latch of `CANc_OR0` (R386): words 0x00 to 0x7F of the selected object; it clears `NEW`. -/
def State.canLatch (s : State) (c : Nat) : List Nat × State :=
  let k := s.g F.CAN_ORSEL_OBJ c
  ((List.range 32).map fun j => if j = 4 then s.ostatNow c k else s.objW c k j, s.setOstat c k bNew false)

end Sys2Proof.Machine
end

