-- ==== Sys2Proof/Machine/Fields.lean ====
section
/-! DEFINITION. The write of a register word field by field (R17, R18): each field takes its bits where the access type
lets it and the value is one the register's table allows; the rules that tie several fields of one word together. -/

namespace Sys2Proof.Machine

/-- The write of a whole word is one its register takes: rules over several fields or over the state
(`ACQn_ENV`, `LRNn_WIN`, R228, R229, the fixed plan 0 of R94). -/
def State.wordOk (s : State) (base n v : Nat) : Bool :=
  if base = 0x6008 then bitsOf v 0 12 < bitsOf v 12 12
  else if base = 0xA004 then bitsOf v 0 11 < bitsOf v 16 11
  else if base = 0xB014 then
    let bits := bitsOf v 0 6 + bitsOf v 6 6
    let ty := s.g F.DFB_CFG_TYPE n
    let st := bitsOf v 0 6
    1 ≤ st && st ≤ 40 && bitsOf v 6 6 ≤ 39 && (ty ≠ 2 || (8 ≤ bits && bits ≤ 40)) && (ty ≠ 3 || (10 ≤ bits && bits ≤ 32))
  else base ≠ 0x5900

/-- The value of one field is one the field takes, beside its range in the register map. -/
def fieldOk (base lo v : Nat) : Bool :=
  if base = 0x5000 && lo = 24 then v ≠ 128
  else if base = 0xB000 && lo = 16 then v = 0 || 4 ≤ v
  else if base = 0xC00C && lo = 0 then v ≤ 20000 || 45536 ≤ v
  else if base = 0xE004 && lo = 0 then v = 0 || 10 ≤ v
  else true

/-- `PRTn_CFG`: while `AUTO` is 1 in RESOLVER mode, the range fields of a write that leaves it at 1 are ignored (R62, R67). -/
def State.autoKeeps (s : State) (base n lo v : Nat) : Bool :=
  base = F.PRT_CFG_AUTO.base && s.resolver n && s.gb F.PRT_CFG_AUTO n && bitOf v F.PRT_CFG_AUTO.lo &&
    (lo = F.PRT_CFG_RANGE_S.lo || lo = F.PRT_CFG_RANGE_C.lo)

/-- Writes the fields of one access type of the register at an address. -/
def State.writeFields (s : State) (addr v : Nat) (acc : Acc) : State :=
  match findReg addr with
  | none => s
  | some (r, n) =>
    if !s.wordOk r.base n v then s
    else r.fields.foldl (fun s' f =>
      let x := bitsOf v f.fld.lo f.fld.width
      if f.acc = acc && f.min ≤ x && x ≤ f.max && fieldOk r.base f.fld.lo x && !s.autoKeeps r.base n f.fld.lo v then
        s'.w f.fld n x
      else s') s

/-- Writes the W1C bits of the register at an address: 1 clears (R17); 1 to SAT also clears its COUNT (R46). -/
def State.writeClear (s : State) (addr v : Nat) : State :=
  match findReg addr with
  | none => s
  | some (r, n) => r.fields.foldl (fun s f =>
      if f.acc = .w1c then
        let m := bitsOf v f.fld.lo f.fld.width
        let s' := s.w f.fld n (s.g f.fld n &&& (2 ^ f.fld.width - 1 - m))
        if m ≠ 0 && f.fld.lo = 31 then
          r.fields.foldl (fun s g => if g.acc = .ro && g.fld.lo = 0 then s.w g.fld n 0 else s) s'
        else s'
      else s) s

/-- The register at an address has a field of an access type. -/
def hasAcc (addr : Nat) (acc : Acc) : Bool :=
  match findReg addr with
  | some (r, _) => r.fields.any fun f => f.acc = acc
  | none => false

end Sys2Proof.Machine
end

