-- ==== Sys2Proof/Machine/Monitor.lean ====
section
/-! DEFINITION. The safety monitor (chapter 12): safe inputs, axes and their functions in the two channels, permits,
`FTRIP`, device faults, notices, keys and the configuration image. A channel is a Boolean: false SM-A, true SM-B. Speeds
are in 2⁻⁵⁶ rev/s and positions in 2⁻⁵⁶ turns of the axis. -/

namespace Sys2Proof.Machine

/-- An axis in a channel. -/
def State.ax! (s : State) (b : Bool) (a : Nat) : AxCh := vget (if b then s.axB else s.axA) a
def State.updAx (s : State) (b : Bool) (a : Nat) (f : AxCh → AxCh) : State :=
  if b then { s with axB := vupd s.axB a f } else { s with axA := vupd s.axA a f }

abbrev xSto : Nat := 0
abbrev xRun : Nat := 1
abbrev xSs1 : Nat := 2
abbrev xFault : Nat := 3

/-! ### Safe inputs and demands (R330 to R334) -/

/-- The filtered level of `SIAx` (line 0) or `SIBx` (line 1) in a channel. -/
def State.siLevel (s : State) (b : Bool) (line x : Nat) : Bool :=
  let l := if b then s.siB else (s.g F.SAF_SI_SIA, s.g F.SAF_SI_SIB)
  bitOf (if line = 0 then l.1 else l.2) x

/-- The line requests run. -/
def State.siRun (s : State) (b : Bool) (line x : Nat) : Bool :=
  s.siLevel b line x = s.gab b (if line = 0 then F.SAF_SI_CFG_RUNA else F.SAF_SI_CFG_RUNB) x

/-- The pair is in demand. -/
def State.siDemand (s : State) (b : Bool) (x : Nat) : Bool :=
  !(s.siRun b 0 x && s.siRun b 1 x) || bitOf (if b then s.latB else s.latA) x

/-- Virtual input `v` requests run (R333). -/
def State.vinRun (s : State) (b : Bool) (v : Nat) : Bool :=
  let c := s.ga b F.SAF_VIN_CFG_CONN v
  let st := s.g F.SAFC_STAT_STATE c
  s.gab b F.SAF_VIN_CFG_EN v && (st = 2 || st = 3) && ((s.conn! c).data.getD 0 0#8).toNat % 2 = 1

/-- The functions in demand on axis `a` in a channel, as a mask of the codes of Table 12-2. -/
def State.axDemand (s : State) (b : Bool) (a : Nat) : Nat :=
  let m := (List.range 8).foldl (fun m x =>
    if s.gab b F.SAF_SI_CFG_EN x && s.siDemand b x && bitOf (s.ga b F.SAF_SI_CFG_AXES x) a then
      m ||| 2 ^ s.ga b F.SAF_SI_CFG_FUNC x else m) 0
  let m := (List.range 8).foldl (fun m v =>
    if s.gab b F.SAF_VIN_CFG_EN v && !s.vinRun b v && bitOf (s.ga b F.SAF_VIN_CFG_AXES v) a then
      m ||| 2 ^ s.ga b F.SAF_VIN_CFG_FUNC v else m) m
  if s.ga b F.AX_CFG_NPORT a = 0 then m &&& 2 else m

/-! ### Speed and position (R327 to R329) -/

/-- The bound ports of an axis with their factors K (Q8.24). -/
def State.axPorts (s : State) (b : Bool) (a : Nat) : List (Nat × Int) :=
  ([(s.ga b F.AX_CFG_P1 a, sgn 32 (s.ga b F.AX_K1_K a)), (s.ga b F.AX_CFG_P2 a, sgn 32 (s.ga b F.AX_K2_K a))]).take
    (s.ga b F.AX_CFG_NPORT a)

/-- Speed of a port (2⁻³² rev/s), its status, and whether ω_d is held, as a channel sees them (R174, R181, R345). -/
def State.portSpeed (s : State) (b : Bool) (p : Nat) : Int × Nat × Bool :=
  if b then
    match s.gapAt.find? fun g => g.1 = p with
    | some (_, t0, w, st) =>
      if tdiff s.t t0 ≤ s.ga true F.SAF_CTRL_GAP_MAX * msU && bitOf st 0 then (w, st ||| 2, false)
      else (w, setBit st 1 false, false)
    | none => ((s.div! p).wd, s.aged (0x9408 + 0x40 * p) (s.g F.DIV_STS_STATUS p), s.gb F.DIV_STS_WHLD p)
  else
    let m := s.engine p
    let (_, _, _, w, _) := s.project m (tdiff (s.pubAt m) (s.obs! m).tk + (s.obs! m).dObs)
    (w, s.obsStatus m s.t, false)

/-- VALID and FRESH. -/
def vf (st : Nat) : Bool := st % 4 = 3

/-- The status combined from several (R31). -/
def combine (era : Bool) : List Nat → Nat
  | [] => 0
  | l => statusByte (l.all fun x => bitOf x 0) (l.all fun x => bitOf x 1) (l.any fun x => bitOf x 2) (l.any fun x => bitOf x 3)
      (l.any fun x => bitOf x 4) (l.any fun x => bitOf x 5) (l.any fun x => bitOf x 6) era

/-- The conditions of a port are suspended after a slice swap (R345). -/
def State.suspended (s : State) (p : Nat) : Bool := s.susp.any fun x => x.1 = p && tdiff s.t x.2 < 0

/-- The source of a port is OK for an axis in a channel (R328). -/
def State.portOk (s : State) (b : Bool) (a p : Nat) : Bool :=
  let (_, st, held) := s.portSpeed b p
  vf st && !held && (!s.gb F.DIV_STS_DIVL p || s.suspended p) &&
    (b || !s.gab b F.AX_CFG_LEADF a || s.g F.PRT_LLIVE_LIVE p % 512 = 0)

/-- The axis speed of a channel: the port speed of larger magnitude. -/
def State.axSpeed (s : State) (b : Bool) (a : Nat) : Int :=
  match (s.axPorts b a).map fun p => p.2 * (s.portSpeed b p.1).1 with
  | [v] => v
  | [v, u] => if v.natAbs < u.natAbs then u else v
  | _ => 0

/-- The two bound ports of an axis differ by more than `AGREE`. -/
def State.axDiffers (s : State) (b : Bool) (a : Nat) : Bool :=
  match s.axPorts b a with
  | [p, q] =>
    let d := p.2 * (s.portSpeed b p.1).1 - q.2 * (s.portSpeed b q.1).1
    s.ga b F.AX_CFG_AGREE a * 2 ^ 56 < 10 * d.natAbs && !s.suspended p.1 && !s.suspended q.1
  | _ => false

/-- Position of one bound port: the signed difference of successive angles enters (R329; log entry 104). -/
def AxCh.move (x : AxCh) (i : Nat) (k : Int) (bam : Nat) : AxCh :=
  let p := match x.ang.getD i none with
    | some u => x.x.getD i 0 + k * mdiff 32 bam u
    | none => x.x.getD i 0
  { x with x := x.x.set i p, hi := x.hi.set i (max (x.hi.getD i 0) p), lo := x.lo.set i (min (x.lo.getD i 0) p),
           ang := x.ang.set i (some bam) }

/-- The positions of every axis bound to port `p` in a channel. -/
def State.posUpdate (s : State) (b : Bool) (p bam : Nat) : State :=
  s.each 8 fun s a => ((s.axPorts b a).zipIdx).foldl (fun s q =>
    if q.1.1 = p then s.updAx b a fun x => x.move q.2 q.1.2 bam else s) s

/-! ### Protection requests and FTRIP (R140, R165, R166, R343) -/

/-- A protection request of a port is live. -/
def State.protReq (s : State) (p : Nat) : Bool :=
  let m := s.engine p
  (s.gb F.ACQ_CFG_ENV_FT p && (s.gb F.ACQ_STAT_ENV_HI p || s.gb F.ACQ_STAT_ENV_LO p)) ||
    (s.gb F.OBS_CFG_OVS_FT m && s.gb F.OBS_STAT_OVS m) || (s.gb F.OBS_CFG_LOS_FT m && s.gb F.OBS_STAT_LOS m)

def State.protAny (s : State) : Bool := (List.range 16).any s.protReq

/-- A safety sticky bit with its event (Table 12-12). -/
def State.safStick (s : State) (f : Fld) (e : Nat) : State := s.stickEv f 0 e

/-- The test access port holds the permits, `FTRIP` and the drivers: EXTEST, CLAMP or HIGHZ is loaded (R528). -/
def State.tapHolds (s : State) : Bool := s.tap.ir = 0#4 || s.tap.ir = 4#4 || s.tap.ir = 5#4

/-- The conditions of `FTRIP`, its result, its sticky bit and its ball (R343, R355). Outside RUN the result stays high. -/
def State.ftrip (s : State) : State :=
  let live := s.protAny
  let s := if live then { s with ftLat := true } else s
  let r : Bool := !s.inRun || live || s.g F.SAF_DFAULT_LATCHED ≠ 0 || (s.gab false F.SAF_CTRL_FT_LATCH && s.ftLat)
  if !s.smOn || r = s.gb F.SAF_STAT_FTRIP then s
  else
    let s := s.wb F.SAF_STAT_FTRIP 0 r
    let s := if r then (s.safStick F.SAF_STKY_FTRIP 212).ashNote 1 F.INT_ASHTRIG_T_FTRIP else s
    if s.standby || s.tapHolds then s else s.emit (.ball "FTRIP" (b2n r) s.t)

/-- Level of `FTRIP` (R355). -/
def State.ftripLevel (s : State) : Bool := s.tapHolds || !s.smOn || (!s.standby && s.gb F.SAF_STAT_FTRIP)

/-- `FAULT_N` is released (R512). -/
def State.faultN (s : State) : Bool := s.inRun && !s.gb F.SAF_STAT_DEVF

/-! ### Axis states (R335 to R338) -/

/-- e(t) of R336 times 64·10⁹, in 2⁻⁵⁶ rev/s. -/
def State.envelope (s : State) (b : Bool) (a : Nat) (x : AxCh) (t : Nat) : Int :=
  max (x.v0 * 64000000000 - s.ga b F.AX_SS1_DEC a * tdiff t x.t0 * 2 ^ 56) 0 + s.ga b F.AX_SS1_MRG a * 6400000000 * 2 ^ 56

/-- The causes of R338 that hold, in the order of Table 12-4; `ok` the speed but for agreement, `dis` disagreement. -/
def State.axCauses (s : State) (b : Bool) (a : Nat) (x : AxCh) (v : Nat) (ok dis : Bool) : List Nat :=
  let tol : Int := s.ga b F.AX_SDI_SDI_TOL a * 2 ^ 40
  let smax := s.ga b F.AX_LIM_SMAX a
  let ports := s.axPorts b a
  let moved := (List.range ports.length).any fun i =>
    (bitOf x.sdi 0 && tol < x.hi.getD i 0 - x.x.getD i 0) || (bitOf x.sdi 1 && tol < x.x.getD i 0 - x.lo.getD i 0)
  (if x.st = xSs1 && s.envelope b a x s.t < v * 64000000000 then [1] else []) ++
  (if x.sls && (s.ga b F.AX_SDI_SLS_T a * msU : Int) ≤ tdiff s.t x.slsAt && s.ga b F.AX_LIM_SLS_LIM a * 2 ^ 56 < 10 * v then [2] else []) ++
  (if moved then [3] else []) ++
  (if smax ≠ 0 && smax * 2 ^ 56 < 10 * v then [4] else []) ++
  (if !ok then [5] else if dis then [6] else []) ++
  (if !b && s.gab b F.AX_CFG_PROT a && ports.any (fun p => s.protReq p.1) then [7] else [])

/-- The axis enters a state, with its sticky bit and event. -/
def State.axTo (s : State) (b : Bool) (a st cause : Nat) : State :=
  if (s.ax! b a).st = st then s
  else
    let s := s.updAx b a fun x => { x with st := st, cause := cause }
    if st = xFault then (s.stickEv F.AX_STKY_FAULT a (200 + a)).ashNote 3 F.INT_ASHTRIG_T_AXF
    else if st = xSto then s.stickEv F.AX_STKY_STO a (200 + a)
    else if st = xSs1 then s.stickEv F.AX_STKY_SS1 a (200 + a)
    else s

/-- The ports a channel's `TRKREQ` looks at are VALID and FRESH (R340). -/
def State.trkOk (s : State) (b : Bool) : Bool :=
  !s.gab b F.SAF_CTRL_TRKREQ ||
    (List.range 16).all fun p => s.g F.PRT_CFG_MODE p = 0 || vf (s.portSpeed b p).2.1

/-- The bound ports have differed by more than `AGREE` for `XTOL` (R328). -/
def State.disagrees (s : State) (b : Bool) (x : AxCh) : Bool :=
  match x.dis with
  | some t0 => decide ((s.ga b F.SAF_CTRL_XTOL * msU : Int) ≤ tdiff s.t t0)
  | none => false

/-- One evaluation of an axis in a channel; `ack`: `SAF_ACK.AXIS` names it now. -/
def State.axEval (s : State) (b : Bool) (a : Nat) (ack : Bool) : State :=
  if !s.gab b F.AX_CFG_EN a then s.axTo b a xSto 0
  else
    let m := s.axDemand b a
    let x0 := s.ax! b a
    let sdi := b2n (bitOf m 4) + 2 * b2n (bitOf m 5)
    -- each direction's displacement counts from where SDI forbade it last
    let x := { x0 with hi := if bitOf sdi 0 && !bitOf x0.sdi 0 then x0.x else x0.hi,
                       lo := if bitOf sdi 1 && !bitOf x0.sdi 1 then x0.x else x0.lo }
    let differs := s.axDiffers b a
    let dis := if differs then some (x.dis.getD s.t) else none
    let v := s.axSpeed b a
    let x := { x with sdi := sdi, slsAt := if bitOf m 3 && !x.sls then s.t else x.slsAt, sls := bitOf m 3, v := v, dis := dis }
    let s := s.updAx b a fun _ => x
    let s := if !b && (s.axPorts b a).any (fun p => s.g F.PRT_LLIVE_LIVE p.1 % 512 ≠ 0) then s.stickEv F.AX_STKY_LEAD a (200 + a) else s
    let ok := (s.axPorts b a).all fun p => s.portOk b a p.1
    let disagree := s.disagrees b x
    let causes := s.axCauses b a x v.natAbs ok disagree
    if s.g F.SAF_DFAULT_LATCHED ≠ 0 then (s.axTo b a xFault 8).updAx b a fun x => { x with cause := 8 }
    else if x.st = xFault then (if ack && !causes.contains x.cause then s.axTo b a xSto 0 else s)
    else if x.st = xSto then
      if !bitOf m 1 && !bitOf m 2 && ok && !disagree && s.trkOk b && (s.gab b F.AX_CFG_AUTORST a || ack) then s.axTo b a xRun 0
      else s
    else match causes with
      | c :: _ => s.axTo b a xFault c
      | [] =>
        if bitOf m 1 then s.axTo b a xSto 0
        else if x.st = xSs1 then
          if 100 * v.natAbs ≤ s.ga b F.AX_SS1T_VSTO a * 2 ^ 56 || (s.ga b F.AX_SS1T_TMAX a * msU : Int) ≤ tdiff s.t x.t0 then
            s.axTo b a xSto 0
          else s
        else if bitOf m 2 then (s.updAx b a fun x => { x with v0 := v.natAbs, t0 := s.t }).axTo b a xSs1 0
        else s

/-! ### Permits (R339, R340) -/

/-- The axes that govern the outputs in a channel. -/
def State.localAxes (s : State) (b : Bool) : List Nat :=
  (List.range 8).filter fun a => s.gab b F.AX_CFG_EN a && s.gab b F.AX_CFG_LOCAL a

/-- A channel permits. -/
def State.permits (s : State) (b : Bool) : Bool :=
  s.smOn && s.inRun && !s.standby && s.g F.SAF_DFAULT_LATCHED = 0 && !(s.localAxes b).isEmpty &&
    (s.localAxes b).all (fun a => (s.ax! b a).st = xRun || (s.ax! b a).st = xSs1) && s.trkOk b

/-- The next point of the 10 µs grid of SM-A. -/
def nextGrid (t : Nat) : Nat := gridAt t 640000

/-- The permit bit of a channel. -/
def permFld (b : Bool) : Fld := if b then F.SAF_STAT_PERM_B else F.SAF_STAT_PERM_A

/-- The first rising edge of `TPB` at or after an instant: 5 µs after a rising edge of `TPA`, one of which comes every 20 µs
from `a` on. -/
def afterTpa (a t : Nat) : Nat :=
  let first := tadd a 320000
  let d := tdiff t first
  if d ≤ 0 then first else tadd first ((d + 1279999) / 1280000 * 1280000)

/-- A permit ball takes a level, unless the boundary-scan chain holds the balls (R475). -/
def State.tpBall (s : State) (b : Bool) (level t : Nat) : State :=
  if s.tapHolds then s else s.emit (.ball (if b then "TPB" else "TPA") level t)

/-- The first rising edge of a permit output from `s.t` on: SM-A on its 10 µs grid; SM-B behind `TPA` while that toggles, on a
grid of free phase while it does not. -/
def State.tpRise (s : State) (b : Bool) : State × Nat :=
  if !b then (s, nextGrid s.t)
  else if s.gb F.SAF_STAT_PERM_A then (s, afterTpa s.permAt.1 s.t)
  else
    let (v, s) := s.draw 142
    (s, tadd s.t (v.toNat % 640000))

/-- Brings a permit output to the channel's decision: toggling from its first rising edge, or static low (R339). `TPB`
follows `TPA` from `TPA`'s first edge on. -/
def State.permit (s : State) (b : Bool) : State :=
  let p := s.permits b
  if p = s.gb (permFld b) then s
  else
    let s := s.wb (permFld b) 0 p
    if !p then s.tpBall b 0 s.t
    else
      let (s, at') := s.tpRise b
      let s := { s with permAt := if b then (s.permAt.1, at') else (at', s.permAt.2) }.tpBall b 2 at'
      if !b && s.gb F.SAF_STAT_PERM_B then
        { s with permAt := (at', afterTpa at' s.t) }.tpBall true 2 (afterTpa at' s.t)
      else s

/-- Evaluates the axes that `sel` names in a channel, those of `acks` with an acknowledge, and its permit. -/
def State.evalCh (s : State) (b : Bool) (sel : Nat → Bool) (acks : Nat) : State :=
  if !s.smOn then s
  else (s.each 8 fun s a => if sel a then s.axEval b a (bitOf acks a) else s).permit b

def anyAx (_ : Nat) : Bool := true
/-- Axes with bound ports. -/
def State.withPorts (s : State) (b : Bool) (a : Nat) : Bool := s.ga b F.AX_CFG_NPORT a ≠ 0

/-! ### Device faults (R342) -/

/-- The other effects of latched device faults: every axis, the permits, `FTRIP`. -/
def State.devFault (s : State) (cause : Nat) : State :=
  let s := s.w F.SAF_DFAULT_LIVE 0 (setBit (s.g F.SAF_DFAULT_LIVE) cause true)
  if bitOf (s.g F.SAF_DFAULT_LATCHED) cause then s
  else
    let s := (s.w F.SAF_DFAULT_LATCHED 0 (setBit (s.g F.SAF_DFAULT_LATCHED) cause true)).w F.SAF_STAT_DEVF 0 1
    let s := (s.safStick F.SAF_STKY_DEVF 208).ashNote 2 F.INT_ASHTRIG_T_DEVF
    ((s.evalCh false anyAx 0).evalCh true anyAx 0).ftrip

/-- A cause is no longer live. -/
def State.devCalm (s : State) (cause : Nat) : State :=
  s.w F.SAF_DFAULT_LIVE 0 (setBit (s.g F.SAF_DFAULT_LIVE) cause false)

/-- `XSTATE`: the states of an axis in the two channels differ for `XTOL` (Table 12-5). -/
def State.xstate (s : State) : State :=
  let diff (a : Nat) : Bool := s.gab false F.AX_CFG_EN a && (s.ax! false a).st ≠ (s.ax! true a).st
  let s := { s with xst := (List.range 8).map fun a => if diff a then some ((s.xst.getD a none).getD s.t) else none }
  if s.xst.any (fun x => match x with
      | some t0 => decide ((s.ga false F.SAF_CTRL_XTOL * msU : Int) ≤ tdiff s.t t0)
      | none => false) then s.devFault 0
  else s.devCalm 0

/-- One evaluation instant of a channel. -/
def State.smEval (s : State) (b : Bool) (sel : Nat → Bool) (acks : Nat) : State :=
  if s.smOn then (s.evalCh b sel acks).xstate else s

/-- Both channels evaluate every axis: an input, the mode or the role changed. -/
def State.smBoth (s : State) : State := (s.smEval false anyAx 0).smEval true anyAx 0

/-- SM-A at a sample: positions, then the axes with ports (Table 12-1). -/
def State.smSample (s : State) : State :=
  if !s.smOn then s
  else
    let s := s.each 16 fun s p =>
      let m := s.engine p
      let (th, _, _, _, _) := s.project m (tdiff (s.pubAt m) (s.obs! m).tk + (s.obs! m).dObs)
      s.posUpdate false p (rang32 th)
    (s.smEval false (s.withPorts false) 0).ftrip

/-- SM-A and `FTRIP` take up a request of this sample (R25). -/
def State.smNow (s : State) : State := (s.smEval false (s.withPorts false) 0).ftrip

/-- R140: the band count has been reached; live and sticky bits, event 64 + 2n; the request reaches `FTRIP` with the deciding
output (R25). -/
def doEnvelopeBandFault (n : Nat) (upper : Bool) (s : State) : State :=
  let a := s.acq! n
  let k := s.g F.ACQ_ENV_ENV_N n
  if s.envArmed n && !(s.injActive n 0 && !upper) && k ≤ (if upper then a.hiN else a.loN) then
    let s := { s with t := s.now }
    (if upper then (s.w F.ACQ_STAT_ENV_HI n 1).stickEv F.ACQ_STKY_ENV_HI n (64 + 2 * n)
      else (s.w F.ACQ_STAT_ENV_LO n 1).stickEv F.ACQ_STKY_ENV_LO n (64 + 2 * n)).smNow
  else s

def execEnvelopeBandFault (n : Fin 16) (upper : Bool) (s : State) : Host.Outcome State Fault Refusal :=
  .next (doEnvelopeBandFault n upper s)

/-- R166: the signal has stayed below the loss level. The request reaches the axes and `FTRIP` with this sample (R25). -/
def doLossOfSignal (m : Nat) (s : State) : State :=
  let n := (s.portOf m).getD 16
  if s.gb F.ACQ_STAT_ENV_ARM n && s.resolver n && !s.injActive n 1 && s.g F.OBS_PROT_LOS_N m ≤ (s.obs! m).losN then
    (({ s with t := s.now }.w F.OBS_STAT_LOS m 1).obsStick m F.OBS_STKY_LOS).smNow
  else s

def execLossOfSignal (m : Fin 18) (s : State) : Host.Outcome State Fault Refusal := .next (doLossOfSignal m s)

/-- Port `p` is bound to an enabled axis in a channel. -/
def State.smBound (s : State) (b : Bool) (p : Nat) : Bool :=
  (List.range 8).any fun a => s.gab b F.AX_CFG_EN a && (s.axPorts b a).any fun q => q.1 = p

/-- SM-B at a decimated output of port `p` (Table 12-1); the first output with ω_d not held ends the gap (R345). -/
def State.smOutput (s : State) (p : Nat) : State :=
  let s := if s.gb F.DIV_STS_WHLD p then s else { s with gapAt := s.gapAt.filter fun g => g.1 ≠ p }
  if !s.smOn then s
  else
    let s := s.posUpdate true p (s.g F.DIV_ANG_ANG p)
    (if s.smBound true p then s.smEval true (s.withPorts true) 0 else s).ftrip

/-! ### Ticks and discrepancy (R331, R332) -/

/-- The counts of disagreeing lines in a channel at its tick. -/
def State.discCount (s : State) (b : Bool) : State :=
  let l := (List.range 8).map fun x =>
    if s.gab b F.SAF_SI_CFG_EN x && s.siRun b 0 x ≠ s.siRun b 1 x then (if b then s.discB else s.discA).getD x 0 + 1 else 0
  if b then { s with discB := l } else { s with discA := l }

/-- `SAF_SI.DISC`. -/
def State.showDisc (s : State) : State := s.w F.SAF_SI_DISC 0 (s.latA ||| s.latB)

def doDiscrepancyFault (b : Bool) (x : Nat) (s : State) : State :=
  let n := (if b then s.discB else s.discA).getD x 0
  if s.smOn && s.ga b F.SAF_SI_CFG_DISC x ≤ n && !bitOf (if b then s.latB else s.latA) x then
    let s := if b then { s with latB := setBit s.latB x true } else { s with latA := setBit s.latA x true }
    (((s.here).stickBits F.SAF_STKY_DISC 0 (2 ^ x) 210).showDisc).smEval b anyAx 0
  else s

/-- The count of a channel reached `DISC` (R331). -/
def execDiscrepancyFault (ch : Fin 2) (x : Fin 8) (s : State) : Host.Outcome State Fault Refusal :=
  .next (doDiscrepancyFault (ch = 1) x s)

/-- `SAF_ACK.DISC` (R332): the two filtered lines are in the same state in both channels. -/
def State.discAck (s : State) (pairs : Nat) : State :=
  let ok (x : Nat) : Bool := bitOf pairs x && s.siRun false 0 x = s.siRun false 1 x && s.siRun true 0 x = s.siRun true 1 x
  let keep (m : Nat) : Nat := (List.range 8).foldl (fun m x => if ok x then setBit m x false else m) m
  ({ s with latA := keep s.latA, latB := keep s.latB }.showDisc).smBoth

/-! ### Keys (R346) -/

def State.key! (s : State) (p : Path) : KeySt := vget s.keys (pathCls p)
def State.setKey (s : State) (p : Path) (ph : Nat) : State :=
  { s with keys := vupd s.keys (pathCls p) fun _ => { ph := ph, at' := s.t } }

/-- Key phase in force: first key and window last 100 µs. -/
def State.keyPhase (s : State) (p : Path) : Nat :=
  if (s.key! p).ph ≠ 0 && tdiff s.t (s.key! p).at' ≤ 100 * usU then (s.key! p).ph else 0

/-- A refused keyed write. -/
def State.keyErr (s : State) : State := (s.bump F.SAF_KEYCNT_COUNT).safStick F.SAF_STKY_KEYERR 209

/-- A write of `SAF_KEY`. -/
def State.safKey (s : State) (p : Path) (v : Nat) : State :=
  match s.keyPhase p with
  | 0 => if v = 0xC5A1 then s.setKey p 1 else (s.setKey p 0).keyErr
  | 1 => if v = 0x3A5E then s.setKey p 2 else (s.setKey p 0).keyErr
  | _ => (s.setKey p 0).keyErr

def execSafKey (src : Src) (value : Word) (s : State) : Host.Outcome State Fault Refusal :=
  .next (s.via src 0x10000 fun s => s.safKey src.path value.toNat)

def doKeyWindowLapse (p : Path) (s : State) : State := if s.here.keyPhase p = 0 then s.here.setKey p 0 else s

/-- A first key or a window lapses after 100 µs without count (R346). -/
def execKeyWindowLapse (path : Path) (s : State) : Host.Outcome State Fault Refusal := .next (doKeyWindowLapse path s)

/-- A write to an RWK register of SAF: through an open window of the path, which it closes, or refused and counted.
Second: it was accepted. -/
def State.keyed (s : State) (p : Path) (k : State → State) : State × Bool :=
  if s.keyPhase p = 2 then (k (s.setKey p 0), true) else (s.keyErr, false)

/-! ### The configuration image (R347) -/

/-- The register at an address belongs to the image. -/
def inImage (addr : Nat) : Bool :=
  addr = 0x10000 || (0x10040 ≤ addr && addr < 0x10080) ||
    (0x10200 ≤ addr && addr < 0x10400 && addr % 0x40 ≤ 0x18) || (0x11000 ≤ addr && addr < 0x12000 && addr % 16 ≤ 8)

/-- The addresses of the image, ascending. -/
def imageAddrs : List Nat :=
  [0x10000] ++ (List.range 16).map (fun x => 0x10040 + 4 * x) ++
    (List.range 8).flatMap (fun a => (List.range 7).map fun j => 0x10200 + 0x40 * a + 4 * j) ++
    (List.range 256).flatMap (fun c => (List.range 3).map fun j => 0x11000 + 16 * c + 4 * j)

/-- The pending image as it stands in the registers. -/
def State.pendImage (s : State) : List (Nat × Nat) := s.fields.filter fun f => inImage (keyBase f.1)

/-- The word of an image at an address; Tables 12-13 to 12-15 have its registers. -/
def imageWord (img : List (Nat × Nat)) (addr : Nat) : Nat :=
  match (RegRow.t12_13 ++ RegRow.t12_14 ++ RegRow.t12_15).findSome? (regAt addr) with
  | none => 0
  | some (r, n) => r.fields.foldl (fun acc f =>
      acc ||| (SMap.get 0 img (f.fld.key n) ^^^ f.fld.rst n) % 2 ^ f.fld.width * 2 ^ f.fld.lo) 0

/-- The CRC-32C of an image (R352). -/
def imageCrc (img : List (Nat × Nat)) : Nat := crc32c (imageAddrs.flatMap fun a => leBytes 4 (imageWord img a))

/-- The pending image breaks a rule: SS1, SLS or SDI on an enabled axis without ports. -/
def State.imageBad (s : State) : Bool :=
  let bad (en f m : Nat) : Bool := en ≠ 0 && 2 ≤ f && f ≤ 5 &&
    (List.range 8).any fun a => bitOf m a && s.gb F.AX_CFG_EN a && s.g F.AX_CFG_NPORT a = 0
  (List.range 8).any fun x =>
    bad (s.g F.SAF_SI_CFG_EN x) (s.g F.SAF_SI_CFG_FUNC x) (s.g F.SAF_SI_CFG_AXES x) ||
      bad (s.g F.SAF_VIN_CFG_EN x) (s.g F.SAF_VIN_CFG_FUNC x) (s.g F.SAF_VIN_CFG_AXES x)

/-- Every axis enabled in the active or the pending image is in STO or FAULT in both channels. -/
def State.axesAtRest (s : State) : Bool :=
  (List.range 8).all fun a =>
    !(s.gab false F.AX_CFG_EN a || s.gb F.AX_CFG_EN a) ||
      [false, true].all fun b => (s.ax! b a).st = xSto || (s.ax! b a).st = xFault

/-- `SAF_CFGCMD.APPLY`. -/
def State.safApply (s : State) : State :=
  let res := if s.imageBad then 3 else if imageCrc s.pendImage ≠ s.g F.SAF_CFGCRC_CRC then 2
    else if !s.axesAtRest then 1 else 0
  let s := s.w F.SAF_CFGRES_RES 0 res
  if res ≠ 0 then s.safStick F.SAF_STKY_CFG_REF 209
  else { s with appWait := some s.pendImage }.w F.SAF_CFGRES_BUSY 0 1

/-- `SAF_CFGCMD.DISCARD`: the pending image is the active one again. -/
def State.safDiscard (s : State) : State :=
  let img := s.actA.filter fun f => inImage (keyBase f.1)
  { s with fields := img.foldl (fun m f => SMap.set 0 m f.1 f.2) (s.fields.filter fun f => !inImage (keyBase f.1)) }

/-- Connection `c` after an apply (Table 12-9). -/
def State.connApply (s : State) (c oldDir : Nat) : State :=
  let dir := s.ga false F.SAFC_CFG_DIR c
  if dir = 1 && oldDir = 1 then s
  else
    let st := if dir = 1 then 5 else if dir = 2 then 1 else 0
    let s := s.w F.SAFC_STAT_STATE c st
    if dir = 0 && oldDir = 0 then s
    else s.updConn c fun n => { n with wait := [], single := s.t, last := s.t, next := [none, none], gen := none }

/-- Both channels take an image as active: every axis enters STO, every connection takes the state its `DIR` gives. -/
def State.takeImage (s : State) (img : List (Nat × Nat)) : State :=
  let old (c : Nat) : Nat := s.ga false F.SAFC_CFG_DIR c
  let s' := { s with actA := img, actB := img, appWait := none, safPar := false, xst := List.replicate 8 none }
  let s' := s'.each 8 fun s a => [false, true].foldl (fun s b => (s.axTo b a xSto 0).updAx b a fun _ => {}) s
  let s' := s'.w F.SAF_ACRC_CRC 0 (imageCrc img)
  (s'.each 256 fun s c => s.connApply c (old c))

/-- An accepted image acts at the SM-B tick. -/
def State.imageTick (s : State) : State :=
  match s.appWait with
  | some img =>
    ((((s.takeImage img).w F.SAF_CFGRES_BUSY 0 0).w F.SAF_CFGRES_RES 0 0).safStick F.SAF_STKY_CFG_OK 209).evalCh false anyAx 0
  | none => s

def doConfigCrcCompare (s : State) : State :=
  if s.smOn && (s.safPar || imageCrc s.actA ≠ imageCrc s.actB) then s.here.devFault 1 else s

/-- SM-B compares the CRCs of the two active copies (R347); a parity error in one of them makes them differ (R488). -/
def execConfigCrcCompare (s : State) : Host.Outcome State Fault Refusal := .next (doConfigCrcCompare s)

def doSmATick (s : State) : State :=
  if !s.smOn then s else (s.here.discCount false).smEval false (fun a => !s.withPorts false a) 0

/-- The tick of SM-A: pairs, and the axes without ports (R331, R335). -/
def execSmATick (s : State) : Host.Outcome State Fault Refusal := .next (doSmATick s)

def doSmBTick (s : State) : State :=
  if !s.smOn then s else ((s.here.discCount true).imageTick).smEval true anyAx 0

/-- The tick of SM-B (R331, R335); an accepted image acts (R347). -/
def execSmBTick (s : State) : Host.Outcome State Fault Refusal := .next (doSmBTick s)

def doSafeInputFiltered (b : Bool) (line x : Nat) (level : Bool) (held : Nat) (s : State) : State :=
  if s.smOn && s.ga b F.SAF_SI_CFG_FILT x * 50 * usU ≤ held then
    let s := s.here
    let s :=
      if b then
        { s with siB := if line = 0 then (setBit s.siB.1 x level, s.siB.2) else (s.siB.1, setBit s.siB.2 x level) }
      else if line = 0 then s.w F.SAF_SI_SIA 0 (setBit (s.g F.SAF_SI_SIA) x level)
      else s.w F.SAF_SI_SIB 0 (setBit (s.g F.SAF_SI_SIB) x level)
    s.smEval b anyAx 0
  else s

/-- A safe input ball has held a level for a time in a channel; from `FILT` × 50 µs on, the line takes it (R330). -/
def execSafeInputFiltered (ch line : Fin 2) (x : Fin 8) (m : LineIn) (s : State) : Host.Outcome State Fault Refusal :=
  .next (doSafeInputFiltered (ch = 1) line x m.level m.held s)

/-- The filters start at the demand levels of their lines (R330). -/
def State.siStart (s : State) : State :=
  let lvl (f : Fld) : Nat := (List.range 8).foldl (fun m x => setBit m x (!s.gab false f x)) 0
  let a := lvl F.SAF_SI_CFG_RUNA
  let b := lvl F.SAF_SI_CFG_RUNB
  { (s.w F.SAF_SI_SIA 0 a).w F.SAF_SI_SIB 0 b with siB := (a, b) }

/-! ### Acknowledges and faults from outside -/

/-- `SAF_ACK.AXIS` (R335): both channels evaluate the named axes with the acknowledge. -/
def State.axisAck (s : State) (axes : Nat) : State :=
  (s.smEval false (fun a => bitOf axes a) axes).smEval true (fun a => bitOf axes a) axes

/-- `SAF_ACK.DEV` (R342, R343). -/
def State.devAck (s : State) : State :=
  let lat := s.g F.SAF_DFAULT_LATCHED
  let live := s.g F.SAF_DFAULT_LIVE
  let lat := [0, 2, 3].foldl (fun m c => if bitOf live c then m else setBit m c false) lat
  let s := (s.w F.SAF_DFAULT_LATCHED 0 lat).wb F.SAF_STAT_DEVF 0 (lat ≠ 0)
  ({ s with ftLat := s.protAny }.ftrip).smBoth

/-- A cause is live, or no longer. -/
def State.devLive (s : State) (cause : Nat) (live : Bool) : State := if live then s.devFault cause else s.devCalm cause

/-- The cause that a monitor watches, and whether its reading makes it live (Table 12-5). -/
def monCause (us : Nat) : MonIn → Nat × Bool
  | .clock dev => (5, 500 < dev.natAbs && 1000 ≤ us)
  | .supply outside => (6, outside && 10 ≤ us)
  | .beat _ => (7, 50 ≤ us)

def doDeviceFault (m : MonIn) (us : Nat) (s : State) : State :=
  if s.smOn then s.here.devLive (monCause us m).1 (monCause us m).2 else s

/-- A reading of the clock, supply and heartbeat monitors that has stood for `us` µs (R342). -/
def execDeviceFault (m : MonIn) (us : Nat) (s : State) : Host.Outcome State Fault Refusal := .next (doDeviceFault m us s)

/-- A permit output toggles, or is driven static low. -/
def State.toggles (s : State) (b : Bool) : Bool := s.gb (permFld b) && !s.tapHolds
def State.staticLow (s : State) (b : Bool) : Bool := !s.toggles b && !s.standby

/-- The cause that a readback of the permit balls bears on, and whether it is live (R341): 2 `TPA_FB`, 3 `TPB_FB`, 4 `TPX`. -/
def State.readCause (s : State) (ns : Nat) : ReadIn → Nat × Bool
  | .still ch => (2 + ch.val, s.toggles (ch = 1) && 15000 ≤ ns)
  | .moves ch => (2 + ch.val, s.staticLow (ch = 1))
  | .equal => (4, s.toggles false && s.toggles true && 7000 ≤ ns)
  | .apart => (4, s.toggles false && s.toggles true && ns < 2000)

def doPermitReadbackFault (m : ReadIn) (ns : Nat) (s : State) : State :=
  if s.smOn then s.here.devLive (s.readCause ns m).1 (s.readCause ns m).2 else s

/-- The readback of the permit balls, times in ns (R341). -/
def execPermitReadbackFault (m : ReadIn) (ns : Nat) (s : State) : Host.Outcome State Fault Refusal :=
  .next (doPermitReadbackFault m ns s)

/-! ### Notices (R345) -/

/-- A swap notice: 0 slice, 1 engine, 2 leg; a slice swap suspends conditions of the port for 1 ms. -/
def State.noticeSwap (s : State) (kind port : Nat) : State :=
  let s := ((s.w F.SAF_NOTE_SPORT 0 port).w F.SAF_NOTE_SKIND 0 kind).w F.SAF_NOTE_SCNT 0 (s.g F.SAF_NOTE_SCNT + 1)
  let s := if kind = 0 then { s with susp := (port, tadd s.t msU) :: s.susp.filter fun x => x.1 ≠ port } else s
  s.safStick F.SAF_STKY_SWAP 211

/-- An injection notice. -/
def State.noticeInj (s : State) (port kind : Nat) (pass : Bool) : State :=
  let s := (((s.w F.SAF_NOTE_IPORT 0 port).w F.SAF_NOTE_IKIND 0 kind).wb F.SAF_NOTE_IPASS 0 pass).w F.SAF_NOTE_ICNT 0
    (s.g F.SAF_NOTE_ICNT + 1)
  s.safStick F.SAF_STKY_INJ 211

/-- The notice of a synchronising-reset gap on the named ports, from the present instant. -/
def State.noticeGap (s : State) (ports : List Nat) : State :=
  let new : List (Nat × Nat × Int × Nat) := ports.map fun p => (p, s.t, (s.div! p).wd, s.g F.DIV_STS_STATUS p)
  { s with gapAt := new ++ s.gapAt.filter fun (g : Nat × Nat × Int × Nat) => !ports.contains g.1 }.safStick F.SAF_STKY_GAP 211

/-! ### Views of the registers (Tables 12-13, 12-14) -/

/-- `SAF_STAT`. -/
def State.safStat (s : State) : Nat :=
  let runs (b : Bool) : Nat := (List.range 8).foldl (fun m a =>
    m + 2 ^ a * b2n ((s.ax! b a).st = xRun || (s.ax! b a).st = xSs1)) 0
  s.g F.SAF_STAT_DEVF + 2 * s.g F.SAF_STAT_PERM_A + 4 * s.g F.SAF_STAT_PERM_B + 8 * s.g F.SAF_STAT_FTRIP +
    16 * b2n (s.pendImage ≠ s.actA) + 32 * b2n (s.keyPhase .bar0 = 2 || s.keyPhase (.ring 0) = 2 || s.keyPhase .spi = 2) +
    256 * runs false + 65536 * runs true

/-- `SAF_SI`. -/
def State.safSi (s : State) : Nat :=
  s.g F.SAF_SI_SIA + 256 * s.g F.SAF_SI_SIB +
    65536 * (List.range 8).foldl (fun m x => m + 2 ^ x * b2n (s.siDemand false x || s.siDemand true x)) 0 +
    16777216 * (s.latA ||| s.latB)

/-- `SAF_VINS`. -/
def State.safVins (s : State) : Nat := (List.range 8).foldl (fun m v => m + 2 ^ v * b2n (s.vinRun false v)) 0

/-- The group of `SAFa_STAT`: STAT, VA, VB, ENV, TS (R360). -/
def State.axGroup (s : State) (a : Nat) : List Nat :=
  let x := s.ax! false a
  let y := s.ax! true a
  let sts (b : Bool) : Nat := combine s.era ((s.axPorts b a).map fun p => (s.portSpeed b p.1).2.1)
  let m := s.axDemand false a
  let rstw := x.st = xSto && s.gab false F.AX_CFG_EN a && !s.gab false F.AX_CFG_AUTORST a && !bitOf m 1 && !bitOf m 2 &&
    s.trkOk false && !s.disagrees false x && (s.axPorts false a).all fun p => s.portOk false a p.1
  let cause := if x.cause ≠ 0 then x.cause else y.cause
  let q (v : Int) : Nat := enc 32 (satS 32 (rnd v (2 ^ 40)))
  [x.st + 8 * b2n rstw + 16 * y.st + 128 * b2n x.sls + 256 * x.sdi + 4096 * cause + 65536 * sts false + 16777216 * sts true,
    q x.v, q y.v, if x.st = xSs1 then q (rdiv 150 (s.envelope false a x s.now) 64000000000) else 0, ts32 s.now]

end Sys2Proof.Machine
end

