-- ==== Sys2Proof/Machine/Conn.lean ====
section
/-! DEFINITION. Safe connections (R348 to R354): PDUs generated, sent and aged; copies received, paired, delivered. -/

namespace Sys2Proof.Machine

/-- A bit of `SAF_CSTKY` with its event. -/
def State.connStick (s : State) (f : Fld) : State := s.safStick f (213 + f.lo)

/-- `LASTERR` of a connection. -/
def State.connErr (s : State) (c e : Nat) : State := s.w F.SAFC_STAT_LASTERR c e

/-- Configured data length. -/
def State.connLen (s : State) (c : Nat) : Nat := s.pduLen c - 12

/-! ### Sending (R348 to R350) -/

/-- The bytes of a PDU (Table 12-8), padded to the CAN FD length that holds it. -/
def State.pdu (s : State) (c seq t : Nat) (data : List Byte) : List Byte :=
  let n := s.connLen c
  let body := leBytes 1 (s.ga false F.SAFC_CFG_PID c) ++ leBytes 1 n ++ leBytes 2 seq ++ leBytes 4 (ts32 t) ++ padTo n data
  padTo (dlcLen true (fdDlc (12 + n))) (body ++ leBytes 4 (crc32c body))

/-- The data of an axis-status connection (R349). -/
def State.axisData (s : State) : List Byte :=
  let runs (b : Bool) (a : Nat) : Bool := (s.ax! b a).st = xRun || (s.ax! b a).st = xSs1
  ((List.range 8).map fun a =>
    let x := s.ax! false a
    BitVec.ofNat 8 (b2n (runs false a && runs true a) + 2 * x.st + 16 * b2n x.sls + 32 * b2n (x.sdi ≠ 0) +
      64 * b2n (s.gb F.SAF_STAT_DEVF))) ++
  leBytes 1 (s.safSi / 65536) ++ leBytes 1 (s.safSi / 16777216) ++ leBytes 1 s.safVins ++
  leBytes 1 (s.g F.SAF_STAT_PERM_A + 2 * s.g F.SAF_STAT_PERM_B + 4 * s.g F.SAF_STAT_FTRIP) ++ leBytes 4 (s.g F.SAF_ACRC_CRC)

/-- A PDU is dropped before it was sent: counted, `TXD` (R350). -/
def State.sendDropped (s : State) (c : Nat) : State :=
  ((s.bump F.SAF_TXDCNT_COUNT).connStick F.SAF_CSTKY_TXD).connErr c 7

/-- The next sequence number of a sending connection; its wrap sets `SEQWRAP` (R349, R45). -/
def State.nextSeq (s : State) (c : Nat) : State :=
  let seq := (s.g F.SAFC_STAT_SEQ c + 1) % 65536
  let s := s.w F.SAFC_STAT_SEQ c seq
  if seq = 0 then s.connStick F.SAF_CSTKY_SEQWRAP else s

/-- A sending connection generates a PDU at the present instant and loads it on both controllers. -/
def State.generate (s : State) (c : Nat) (data : List Byte) : State :=
  let s := s.nextSeq c
  let pdu := s.pdu c (s.g F.SAFC_STAT_SEQ c) s.t data
  let k := s.ga false F.SAFC_CFG_OBJ c
  s.each 2 fun s ctrl =>
    let s := if ((s.conn! c).next.getD ctrl none).isSome then s.sendDropped c else s
    s.safeLoad ctrl k c pdu s.t

/-- The connection sends: state SEND, not in role STANDBY. -/
def State.sends (s : State) (c : Nat) : Bool := s.g F.SAFC_STAT_STATE c = 5 && !s.standby

/-- An expiry of the host heartbeat stops the host connections (R416). -/
def State.hostMute (s : State) : Bool := s.host.hbExp && bitOf (s.g F.HIF_HBCFG_ACT) 1

/-- The scheduled generation at or after the newest sample. -/
def State.genAt (s : State) (per : Nat) : Nat := gridAt s.now (max 1 per * msU)

/-- The scheduled generation comes before the next sample. -/
def State.genDue (s : State) (per : Nat) : Bool := tdiff (s.genAt per) (tadd s.now sampleU) < 0

def doPduGenerate (c : Nat) (s : State) : State :=
  let src := s.ga false F.SAFC_CFG_SRC c
  let per := s.ga false F.SAFC_TIM_PER c
  if s.genDue per && s.sends c && (src = 0 || src = 2) && (s.conn! c).gen ≠ some (s.genAt per) &&
      !(src = 0 && s.hostMute) then
    let s := { s with t := s.genAt per }.updConn c fun n => { n with gen := some (s.genAt per) }
    s.generate c (if src = 2 then s.axisData else (s.conn! c).buf)
  else s

/-- A sending connection generates a PDU at a multiple of its period (R349). -/
def execPduGenerate (c : Fin 256) (s : State) : Host.Outcome State Fault Refusal := .next (doPduGenerate c s)

/-- `SAF_CCMD.SEND` on the selected host connection (R349). -/
def State.safSend (s : State) : State :=
  let c := s.g F.SAF_CSEL_CONN
  if s.sends c && s.ga false F.SAFC_CFG_SRC c = 0 && !s.hostMute then s.generate c (s.conn! c).buf else s

def execSend (src : Src) (s : State) : Host.Outcome State Fault Refusal := .next (s.via src 0x10000 fun s => s.safSend)

/-- The verb SAFETX (R303): a PDU of a Vent connection; the spec states no source of its data, which are free bytes.
Second: accepted. -/
def State.safeTx (s : State) (c : Nat) : State × Bool :=
  if s.sends c && s.ga false F.SAFC_CFG_SRC c = 1 then
    (({ s with free := s.free + s.connLen c } : State).generate c (s.freeBytes 141 (s.connLen c)), true)
  else (s, false)

def doPduAgeExpiry (c ctrl : Nat) (s : State) : State :=
  let lim : Nat := s.ga false F.SAFC_TIM_AGE c * msU
  let k := s.ga false F.SAFC_CFG_OBJ c
  let old (g : Nat) : Bool := tdiff (tadd g lim) (tadd s.now sampleU) ≤ 0
  let s := match (s.conn! c).next.getD ctrl none with
    | some (_, g) =>
      if old g then ({ s with t := tadd g lim }.sendDropped c).updConn c fun n => { n with next := n.next.set ctrl none } else s
    | none => s
  match (s.conn! c).sent.getD ctrl none with
  | some g =>
    if old g && !s.ostat ctrl k bCanreq then (({ s with t := tadd g lim }.sendDropped c).canCancel ctrl k true).1 else s
  | none => s

/-- A PDU in an object or a waiting PDU reaches its age limit (R350). -/
def execPduAgeExpiry (c : Fin 256) (ctrl : Fin 2) (s : State) : Host.Outcome State Fault Refusal :=
  .next (doPduAgeExpiry c ctrl s)

/-! ### Receiving (R351 to R354) -/

/-- The connection enters FAULT. -/
def State.connFault (s : State) (c err : Nat) : State :=
  (((s.w F.SAFC_STAT_STATE c 4).connStick F.SAF_CSTKY_FAULT).connErr c err).updConn c (fun n => { n with wait := [] })

/-- The sequence number of a PDU and its TS32. -/
def pduSeq (b : List Byte) : Nat := leNat ((b.drop 2).take 2)
def pduTs (b : List Byte) : Nat := leNat ((b.drop 4).take 4)

/-- The sequence number passes the window after the last accepted one. -/
def State.seqOk (s : State) (c seq : Nat) : Bool :=
  let d := (seq + 65536 - s.g F.SAFC_STAT_SEQ c) % 65536
  s.g F.SAFC_STAT_STATE c = 1 || (1 ≤ d && d ≤ s.ga false F.SAF_CTRL_SEQWIN)

/-- The PDU is within its age limit (R351): by its TS32, or from the arrival of the first copy. -/
def State.ageOk (s : State) (c : Nat) (b : List Byte) (first : Nat) : Bool :=
  let lim : Int := s.ga false F.SAFC_TIM_AGE c
  if s.gab false F.SAFC_CFG_AGEM c then tdiff s.t first ≤ lim * msU
  else
    let age := mdiff 32 (ts32 s.t) (pduTs b)
    age ≤ lim * 1000000 && -100000 ≤ age

/-- Counts a discarded copy with its sticky bit. -/
def State.discard1 (s : State) (c : Nat) (cnt sticky : Fld) (err : Nat) : State :=
  ((s.bump cnt).connStick sticky).connErr c err

/-- Delivers a PDU: to the host, to the virtual inputs; the connection's state (R353, R354). -/
def State.deliver (s : State) (c : Nat) (b : List Byte) (first : Nat) (single : Bool) : State :=
  if !s.ageOk c b first then s.discard1 c F.SAF_AGECNT_COUNT F.SAF_CSTKY_AGE 2
  else
    let seq := pduSeq b
    let st := statusByte true true false false false s.holdover single s.era
    let data := padTo 16 ((b.drop 8).take (s.connLen c))
    let was := s.g F.SAFC_STAT_STATE c
    let born := if s.gab false F.SAFC_CFG_AGEM c then first else tadd s.t (-(mdiff 32 (ts32 s.t) (pduTs b) * nsU))
    let s := (s.w F.SAFC_STAT_SEQ c seq).w F.SAFC_STAT_STATE c (if single then 3 else 2)
    let s := s.updConn c fun n =>
      { n with data := data, status := st, seq := seq, ts := pduTs b, last := s.t, since := born, single := if single && was ≠ 3 then s.t else n.single }
    let s := if single && was ≠ 3 then s.connStick F.SAF_CSTKY_SINGLE else s
    let s := s.updConn c fun n => { n with wait := n.wait.filter fun w => s.seqOk c (pduSeq w.bytes) }
    let s := s.record (s.g F.HIF_ROUTE0_SAFEPDU)
      (header 8 c st (s.g F.GLB_EPOCH_EPOCH) s.t ++ b.take 8 ++ data)
    s.smBoth

/-- A copy that the safe-frame matcher assigned to connection `c` (R351, R353). -/
def State.safeCopy (s : State) (c ctrl : Nat) (b : List Byte) : State :=
  let n := s.connLen c
  let body := b.take (8 + n)
  if b.length < 12 + n || leNat ((b.drop (8 + n)).take 4) ≠ crc32c body ||
      (b.getD 0 0#8).toNat ≠ s.ga false F.SAFC_CFG_PID c || (b.getD 1 0#8).toNat ≠ n then
    s.discard1 c F.SAF_CRCCNT_COUNT F.SAF_CSTKY_CRC 1
  else if !s.gab false F.SAFC_CFG_AGEM c && !s.ageOk c b s.t then s.discard1 c F.SAF_AGECNT_COUNT F.SAF_CSTKY_AGE 2
  else if !s.seqOk c (pduSeq b) then s.discard1 c F.SAF_SEQCNT_COUNT F.SAF_CSTKY_SEQ 3
  else
    let w := (s.conn! c).wait
    match w.find? fun x => x.ctrl ≠ ctrl && pduSeq x.bytes = pduSeq b with
    | some x =>
      let s := s.updConn c fun n => { n with wait := n.wait.erase x }
      if x.bytes = b then s.deliver c b x.at' false
      else ((s.connStick F.SAF_CSTKY_MISM).connFault c 4).smBoth
    | none =>
      if w.any fun x => x.ctrl = ctrl && pduSeq x.bytes = pduSeq b then s
      else s.updConn c fun n => { n with wait := n.wait ++ [{ ctrl := ctrl, bytes := b, at' := s.t }] }

/-- The receiving connections to which the matcher assigns a frame (R385). -/
def State.safeMatch (s : State) (hdr0 : Nat) : List Nat :=
  (List.range 256).filter fun c =>
    s.ga false F.SAFC_CFG_DIR c = 2 && bitOf hdr0 31 && !bitOf hdr0 30 &&
      hdr0 % 2 ^ 29 = s.ga false F.SAFC_ID_ID c && b2n (bitOf hdr0 29) = s.ga false F.SAFC_ID_IDE c &&
      1 ≤ s.g F.SAFC_STAT_STATE c && s.g F.SAFC_STAT_STATE c ≤ 3

/-- A received frame goes to every connection that it matches. -/
def State.safeRx (s : State) (ctrl : Nat) (f : CanFrame) : State :=
  (s.safeMatch f.hdr0.toNat).foldl (fun s c => s.safeCopy c ctrl f.data) s

def doPairTimeout (c : Nat) (s : State) : State :=
  let lim := s.ga false F.SAFC_TIM_PAIR c * 6400000
  match (s.conn! c).wait with
  | w :: l =>
    let e := tadd w.at' lim
    if tdiff e (tadd s.now sampleU) ≤ 0 then
      let s := { s.updConn c fun n => { n with wait := l } with t := e }
      if s.g F.SAFC_STAT_STATE c = 1 || s.ga false F.SAFC_TIM_SINGLE c = 0 then s else s.deliver c w.bytes w.at' true
    else s
  | [] => s

/-- t_pair of the oldest waiting copy expires (R353). -/
def execPairTimeout (c : Fin 256) (s : State) : Host.Outcome State Fault Refusal := .next (doPairTimeout c s)

def doSingleTimeout (c : Nat) (s : State) : State :=
  let e := tadd (s.conn! c).single (s.ga false F.SAFC_TIM_SINGLE c * 10 * msU)
  if s.g F.SAFC_STAT_STATE c = 3 && tdiff e (tadd s.now sampleU) ≤ 0 then ({ s with t := e }.connFault c 6).smBoth else s

/-- A connection stays in SINGLE for t_single (R353). -/
def execSingleTimeout (c : Fin 256) (s : State) : Host.Outcome State Fault Refusal := .next (doSingleTimeout c s)

def doConnectionTimeout (c : Nat) (s : State) : State :=
  let st := s.g F.SAFC_STAT_STATE c
  let e := tadd (s.conn! c).last (s.ga false F.SAFC_TIM_PER c * msU)
  if (st = 2 || st = 3) && tdiff e (tadd s.now sampleU) ≤ 0 then ({ s with t := e }.connFault c 5).smBoth else s

/-- No delivery for `TMO` (R353). -/
def execConnectionTimeout (c : Fin 256) (s : State) : Host.Outcome State Fault Refusal := .next (doConnectionTimeout c s)

/-- `SAF_CACK` (Table 12-9). -/
def State.connAck (s : State) (c : Nat) : State :=
  if s.g F.SAFC_STAT_STATE c = 4 then (s.w F.SAFC_STAT_STATE c 1).updConn c fun n => { n with wait := [] } else s

/-! ### Views (Table 12-13) -/

/-- The group of `SAF_CDATA0`: CDATA0 to 3, CDSTS, CDTS of the selected connection (R359). -/
def State.cdata (s : State) : List Nat :=
  let c := s.g F.SAF_CSEL_CONN
  let n := s.conn! c
  let host := s.ga false F.SAFC_CFG_DIR c = 1 && s.ga false F.SAFC_CFG_SRC c = 0
  let d := if host then n.buf else n.data
  let lim : Int := s.ga false F.SAFC_TIM_AGE c
  let fresh : Bool := decide (tdiff s.t n.since ≤ lim * msU)
  let status := if fresh then n.status else setBit n.status 1 false
  (List.range 4).map (fun i => leNat ((d.drop (4 * i)).take 4)) ++ [status + 65536 * n.seq, n.ts]

/-- A write of `SAF_CDATAi`: the send buffer of a host connection. -/
def State.setCdata (s : State) (i v : Nat) : State :=
  let c := s.g F.SAF_CSEL_CONN
  if s.ga false F.SAFC_CFG_DIR c = 1 && s.ga false F.SAFC_CFG_SRC c = 0 then
    s.updConn c fun n => { n with buf := n.buf.take (4 * i) ++ leBytes 4 v ++ n.buf.drop (4 * i + 4) }
  else s

end Sys2Proof.Machine
end

