-- ==== Sys2Proof/Machine/CanBus.lean ====
section
/-! DEFINITION. The commands of the CAN controllers (chapter 13, R405): selections, frames and errors on the bus, host
commands, sleep and wake, the descriptors of the host transmit rings. `OBJECT_WRITE` is in Machine/Bus.lean, because
it may stage. -/

namespace Sys2Proof.Machine

def doCanSelection (c : Nat) (s : State) : State := s.here.canSelect c

/-- A selection instant: the frame with the lowest key is offered (R374, R376). -/
def execCanSelection (c : Fin 2) (s : State) : Host.Outcome State Fault Refusal := .next (doCanSelection c s)

def doCanFrameSent (c delay : Nat) (s : State) : State := s.here.canSent c delay

/-- The frame in transmission was sent without error; `delay`: the measured loop delay (R365, R378). -/
def execCanFrameSent (c : Fin 2) (delay : Nat) (s : State) : Host.Outcome State Fault Refusal := .next (doCanFrameSent c delay s)

def doCanError (c : Nat) (err : CanErrIn) (s : State) : State := s.here.canErr c err

/-- A loss of arbitration or a protocol error ends a frame (R368, R378 to R380). -/
def execCanError (c : Fin 2) (err : CanErrIn) (s : State) : Host.Outcome State Fault Refusal := .next (doCanError c err s)

def doCanFrameReceived (c : Nat) (f : CanFrame) (s : State) : State :=
  if s.receives c then (s.here.canRx c f).safeRx c f else s

/-- A frame is received without error (R351, R382 to R385). -/
def execCanFrameReceived (c : Fin 2) (f : CanFrame) (s : State) : Host.Outcome State Fault Refusal :=
  .next (doCanFrameReceived c f s)

def doProtocolException (c : Nat) (s : State) : State :=
  if !s.receives c || (s.can! c).tx.isSome then s
  else if s.gb F.CAN_CFG_PXE c then (s.here.w F.CAN_STAT_STATE c cIntegrating).canStick c F.CAN_STKY_PXE
  else s.here.canErr c { kind := .form, late := false, exempt := false, heavy := false }

/-- A recessive res bit in an FD frame: protocol exception, or a form error with `PXE` = 0 (R371). -/
def execProtocolException (c : Fin 2) (s : State) : Host.Outcome State Fault Refusal := .next (doProtocolException c s)

def doRecoveryEnd (c : Nat) (s : State) : State :=
  if s.cst c = cBusOff && (s.can! c).recov then
    let s := s.here.updCan c fun d => { d with tec := 0, rec' := 0, recov := false }
    ((s.w F.CAN_STAT_STATE c cActive).canStick c F.CAN_STKY_RECOV).canModeCheck c
  else s

/-- 128 times eleven recessive bits have passed in recovery (R369). -/
def execRecoveryEnd (c : Fin 2) (s : State) : Host.Outcome State Fault Refusal := .next (doRecoveryEnd c s)

def doIntegrationEnd (c : Nat) (s : State) : State :=
  if s.cst c = cIntegrating then s.here.canCounters c (s.can! c).tec (s.can! c).rec' else s

/-- Eleven recessive bits end bus integration (R367). -/
def execIntegrationEnd (c : Fin 2) (s : State) : Host.Outcome State Fault Refusal := .next (doIntegrationEnd c s)

/-- `CANc_OCMD.TXREQ` (R375). -/
def execTxreq (src : Src) (c : Fin 2) (obj : Fin 128) (s : State) : Host.Outcome State Fault Refusal :=
  .next (s.via src 0x12000 fun s => s.canOcmd c obj true false false)

/-- `CANc_OCMD.CANCEL` (R379). -/
def execCancel (src : Src) (c : Fin 2) (obj : Fin 128) (s : State) : Host.Outcome State Fault Refusal :=
  .next (s.via src 0x12000 fun s => s.canOcmd c obj false true false)

/-- `CANc_OCMD.RESUME` (R380). -/
def execResume (src : Src) (c : Fin 2) (obj : Fin 128) (s : State) : Host.Outcome State Fault Refusal :=
  .next (s.via src 0x12000 fun s => s.canOcmd c obj false false true)

/-- `CANc_CMD.RECOVER` (R369). -/
def execRecover (src : Src) (c : Fin 2) (s : State) : Host.Outcome State Fault Refusal := .next (s.via src 0x12000 fun s => s.canCmd c 1)

/-- `CANc_CMD.SLEEP` (R388). -/
def execSleep (src : Src) (c : Fin 2) (s : State) : Host.Outcome State Fault Refusal := .next (s.via src 0x12000 fun s => s.canCmd c 2)

/-- `CANc_CMD.WAKE` (R389). -/
def execWake (src : Src) (c : Fin 2) (s : State) : Host.Outcome State Fault Refusal := .next (s.via src 0x12000 fun s => s.canCmd c 4)

/-- `CANc_CMD.RINGCAN` (R379). -/
def execRingcan (src : Src) (c : Fin 2) (s : State) : Host.Outcome State Fault Refusal := .next (s.via src 0x12000 fun s => s.canCmd c 8)

def doSleepEntry (c : Nat) (s : State) : State :=
  if (s.can! c).toSleep && (s.can! c).tx.isNone then
    let s := (s.here.w F.CAN_STAT_STATE c cSleep).updCan c fun d => { d with toSleep := false }
    (((s.objPurge c 8).ringPurge c 8).showCan c).showWake
  else s

/-- The idle bus: a controller asked to sleep ends its activity (R388). -/
def execSleepEntry (c : Fin 2) (s : State) : Host.Outcome State Fault Refusal := .next (doSleepEntry c s)

def doWakePulse (c ns : Nat) (taken : Bool) (s : State) : State :=
  let lim := 100 * s.g F.CAN_WCFG_TWAKE c
  if !s.gb F.CAN_WCFG_WMODE c && (lim < ns || (taken && lim ≤ ns + 100)) then (s.here.canWakeUp c).showWake else s

/-- `RXD` has been dominant: longer than t_wake wakes, up to 0.1 µs less may (R389). -/
def execWakePulse (m : WakeIn) (s : State) : Host.Outcome State Fault Refusal :=
  .next (doWakePulse m.ctl m.ns m.taken s)

/-- The frame is the wake frame of a controller (R389). -/
def State.wakeMatch (s : State) (c : Nat) (f : CanFrame) : Bool :=
  let h0 := f.hdr0.toNat
  let wd := leBytes 4 (s.g F.CAN_WDATA0_DATA c) ++ leBytes 4 (s.g F.CAN_WDATA1_DATA c)
  bitOf h0 29 = s.gb F.CAN_WCFG_WIDE c && ((h0 % 2 ^ 29) ^^^ s.g F.CAN_WID_ID c) &&& s.g F.CAN_WMASK_ID c = 0 &&
    (List.range 8).all fun j => !bitOf (s.g F.CAN_WCFG_WDMASK c) j ||
      (j < f.data.length && f.data.getD j 0#8 = wd.getD j 0#8)

def doWakeFrame (c : Nat) (f : CanFrame) (s : State) : State :=
  if s.cst c = cSleep && s.gb F.CAN_WCFG_WMODE c && s.wakeMatch c f then
    ((s.here.canDeliver c f (s.sofOf f.age) none true).canWakeUp c).showWake
  else s

/-- A frame without error reaches a sleeping controller (R389). -/
def execWakeFrame (c : Fin 2) (f : CanFrame) (s : State) : Host.Outcome State Fault Refusal := .next (doWakeFrame c f s)

/-! ### Descriptors of the host transmit rings (R377, R405) -/

/-- The ring runs: enabled, host memory reachable, not stopped, no completion of it waits for room, and its CAN class is
not held by an expiry of the host heartbeat (R396, R402, R416). -/
def State.ringRuns (s : State) (r : Nat) : Bool :=
  s.gb F.HIF_RING_CFG_EN r && s.master && !s.gb F.HIF_RING_STAT_STOP r && 1 ≤ s.avail r && !s.host.owed.any (fun o => o.1 = r)

/-- An entry that is never offered completes at once with a result. -/
def State.entryRefused (s : State) (c : Nat) (e : CanEntry) (res : Nat) : State :=
  (s.updCan c fun d => { d with entry := some e }).entryDone c res

def doCantxDescriptor (d : Desc) (op : Byte) (f : CanFrame) (s : State) : State :=
  let r := d.ring.val
  let cls := s.g F.HIF_RING_CFG_CLASS r
  let c := cls - 1
  let s := s.here
  if !(s.ringRuns r && (cls = 1 || cls = 2) && (s.can! c).entry.isNone && ((s.can! c).purge ≠ 0 || !(s.host.hbExp && bitOf (s.g F.HIF_HBCFG_ACT) 0))) then s
  else
    let h0 := f.hdr0.toNat
    let fd := bitOf h0 31
    let len := if bitOf h0 30 then 0 else dlcLen fd (f.hdr1.toNat % 16)
    let e : CanEntry := { ring := r, cmpl := d.cmpl, tag := d.tag.toNat, hdr0 := h0, hdr1 := f.hdr1.toNat % 64, data := padTo len f.data }
    if op.toNat ≠ 0xC0 then (s.consume1 r).complete r op.toNat d.cmpl 4 d.tag.toNat 0 []
    else if 0 < (s.can! c).purge then
      (s.updCan c fun x => { x with purge := x.purge - 1 }).entryRefused c e (s.can! c).purgeRes
    else if !s.mayTx c || (fd && bitOf h0 30) then s.entryRefused c e 8
    else s.updCan c fun x => { x with entry := some e }

/-- A descriptor at the head of a CANTX ring: it becomes the candidate of its controller, or completes at once (R363,
R367, R379, R405); entries that a cancel or the heartbeat expiry purged complete as refused ones (R416). -/
def execCantxDescriptor (d : Desc) (op : Byte) (f : CanFrame) (s : State) : Host.Outcome State Fault Refusal :=
  .next (doCantxDescriptor d op f s)

end Sys2Proof.Machine
end

