-- ==== Sys2Proof/Machine/Ecc.lean ====
section
/-! DEFINITION. The symbol code of an SRAM word (R484): a shortened Reed–Solomon code over GF(2⁸), 8 data and 3 check
symbols. A code word is the list of its 11 symbols, the coefficients of x⁰ to x¹⁰: check symbols, then d₀ to d₇. -/

namespace Sys2Proof.Machine

/-- Multiplication by α, a root of x⁸ + x⁴ + x³ + x² + 1. -/
def gfAlpha (a : Byte) : Byte := (a <<< 1) ^^^ (if a.msb then 0x1D#8 else 0#8)

/-- The product of two elements of GF(2⁸). -/
def gfMul (a b : Byte) : Byte :=
  (List.range 8).foldr (fun i r => if b.getLsbD i then gfAlpha r ^^^ a else gfAlpha r) 0#8

/-- α to the power `n`. -/
def gfPow : Nat → Byte
  | 0 => 1#8
  | n + 1 => gfAlpha (gfPow n)

/-- The value of a polynomial (coefficients from x⁰ on) at `x`. -/
def gfEval (x : Byte) : List Byte → Byte
  | [] => 0#8
  | c :: cs => c ^^^ gfMul x (gfEval x cs)

/-- The check symbols of data bytes d₀ …: the remainder of their polynomial, times x³, divided by the generator
x³ + 7x² + 14x + 8, which is (x + 1)(x + α)(x + α²). -/
def eccCheck : List Byte → Byte × Byte × Byte
  | [] => (0#8, 0#8, 0#8)
  | d :: ds =>
    let (c0, c1, c2) := eccCheck ds
    let f := d ^^^ c2
    (gfMul 8#8 f, c0 ^^^ gfMul 14#8 f, c1 ^^^ gfMul 7#8 f)

/-- The code word of data bytes. -/
def eccEncode (d : List Byte) : List Byte :=
  let (c0, c1, c2) := eccCheck d
  c0 :: c1 :: c2 :: d

/-- What decoding a word gives (R485): no error, one symbol corrected (which, and the word), or no correction. -/
inductive Decoded where
  | clean
  | fixed (sym : Nat) (word : List Byte)
  | bad
deriving DecidableEq, Repr

/-- Decodes 11 symbols by the values at 1, α and α²: an error `e` in symbol `i` alone gives e, eαⁱ and eα²ⁱ. -/
def eccDecode (w : List Byte) : Decoded :=
  let s0 := gfEval 1#8 w
  let s1 := gfEval (gfPow 1) w
  let s2 := gfEval (gfPow 2) w
  if s0 = 0#8 && s1 = 0#8 && s2 = 0#8 then .clean
  else
    match (List.range 11).find? fun i => s0 ≠ 0#8 && s1 = gfMul s0 (gfPow i) && s2 = gfMul s1 (gfPow i) with
    | some i => .fixed i (w.set i (w.getD i 0#8 ^^^ s0))
    | none => .bad

/-- A word of SRAM as a read finds it after a disturbance `err` (bits 8i + 7 to 8i at symbol i). -/
def State.eccRead (s : State) (word : Nat) (err : BitVec 88) : Decoded :=
  eccDecode ((List.range 11).map fun i =>
    (eccEncode (s.sramBytes (8 * word) 8)).getD i 0#8 ^^^ err.extractLsb' (8 * i) 8)

end Sys2Proof.Machine
end

