-- ==== Sys2Proof/Machine/Digital.lean ====
section
/-! DEFINITION. Encoder, Hall and serial decoders of ports in DIGITAL mode (chapter 7). Each decoder has two paths; the
registers show the first, the second feeds the diverse path (R231). -/

namespace Sys2Proof.Machine

def State.dfb! (s : State) (n : Nat) : DfbSt := vget s.dfb n
def State.updDfb (s : State) (n : Nat) (f : DfbSt → DfbSt) : State := { s with dfb := vupd s.dfb n f }
def State.dpath (s : State) (n p : Nat) : DfbPath := if p = 0 then (s.dfb! n).p0 else (s.dfb! n).p1
def State.updPath (s : State) (n p : Nat) (f : DfbPath → DfbPath) : State :=
  s.updDfb n fun d => if p = 0 then { d with p0 := f d.p0 } else { d with p1 := f d.p1 }

/-- A sticky bit of the decoder with event 144 + n (R233); the second path has no registers. -/
def State.dfbStick (s : State) (n p : Nat) (f : Fld) : State := if p = 0 then s.stickEv f n (144 + n) else s

/-- Counts within the sensor cycle of an ABZ port. -/
def State.cycle (s : State) (n : Nat) : Nat := 4 * s.g F.DFB_LINES_LINES n

/-- Shows the first path's counter and live bits. -/
def State.showDfb (s : State) (n : Nat) : State :=
  let p := s.dpath n 0
  let s := (s.w F.DFB_CNT_CNT n (enc 32 p.cnt)).wb F.DFB_STAT_ZFOUND n p.zfound
  let s := s.wb F.DFB_STAT_QLOSS n p.qloss
  let (_, _, dg, _) := s.dfbPos n p
  s.wb F.DFB_STAT_DEGR n dg

/-- R211: the instant at which a change of the synchronized levels, `sub` units after the newest sample at the ball, passes
the edge filter; none for a pulse shorter than the filter. -/
def State.filtered (s : State) (n : Nat) (sub : Int) (held : Nat) : Option Nat :=
  let f := s.g F.DFB_CFG_FILT_N n
  if held < f then none else some (tadd s.now (sub + (f + 2 : Nat) * 160))

/-! ### Counting (R213, R214) -/

/-- Position of a pair of levels in the sequence 00, 10, 11, 01 (A, B). -/
def quadPhase (a b : Bool) : Nat := if a then (if b then 2 else 1) else (if b then 3 else 0)

/-- The counters of a path change by `d` counts. -/
def State.count (s : State) (n p : Nat) (d : Int) : State :=
  let x := s.dpath n p
  let c := x.cnt + d
  let cy : Int := s.cycle n
  let s := s.updPath n p fun x => { x with cnt := sgn 32 (enc 32 c), pos := if cy = 0 then x.pos else ((x.pos + d) % cy).toNat }
  if sgn 32 (enc 32 c) = c then s else s.dfbStick n p F.DFB_STKY_CNTWRAP

/-- An illegal transition is counted (R214, R215, R222). -/
def State.illegal (s : State) (n p : Nat) : State :=
  let s := s.updPath n p fun x => { x with ill := x.ill + 1, illNew := true }
  if p = 0 then s.bump F.DFB_ILLCNT_COUNT n else s

/-- R220: no index for more than a turn plus ZTOL. -/
def State.zmiss (s : State) (n p : Nat) : State :=
  let x := s.dpath n p
  if x.zfound && x.zarm && s.cycle n + s.g F.DFB_IDX_ZTOL n < (mdiff 32 (enc 32 x.cnt) (enc 32 x.lastIdx)).natAbs then
    (s.updPath n p fun x => { x with zarm := false }).dfbStick n p F.DFB_STKY_ZMISS
  else s

/-- The index condition of R217 on the filtered levels. -/
def State.gateCond (s : State) (n : Nat) (x : DfbPath) : Bool :=
  let g := s.g F.DFB_CFG_ZGATE n
  x.z && (g = 0 || g = 4 + 2 * b2n x.b + b2n x.a)

/-- R213, R214, R220: a change of filtered A or B. A fall of Z in its cycle is seen too; a rise is an INDEX. -/
def doQuadratureEdge (n : Nat) (e : EdgeIn) (s : State) : State :=
  match s.filtered n e.sub e.held with
  | none => s
  | some t =>
  if !(s.digital n && s.g F.DFB_CFG_TYPE n = 0) then s
  else
    let s := { s with t := t }
    let p := e.path.val
    let x := s.dpath n p
    let s := s.updPath n p fun x => { x with a := e.a, b := e.b, z := x.z && e.z }
    let s := s.updPath n p fun x => if s.gateCond n x then x else { x with gate := false }
    let dA := x.a != e.a
    let dB := x.b != e.b
    let s :=
      if dA && dB then
        let s := (s.illegal n p).dfbStick n p F.DFB_STKY_QERR
        let m := s.engine n
        let w : Int := (s.obs! m).w
        if s.gb F.DFB_CFG_QINFER n && s.ost m = oTrack && w ≠ 0 then s.count n p (if 0 < w then 2 else -2) else s
      else if dA || dB then
        let up := (quadPhase x.a x.b + 1) % 4 = quadPhase e.a e.b
        s.count n p (if up != s.gb F.DFB_CFG_DIR n then 1 else -1)
      else s
    (s.zmiss n p).showDfb n

def execQuadratureEdge (n : Fin 16) (e : EdgeIn) (s : State) : Host.Outcome State Fault Refusal :=
  .next (doQuadratureEdge n e s)

/-- R215: more illegal transitions in this window than ILL_M. -/
def doQuadratureLoss (n : Nat) (s : State) : State :=
  if !s.digital n then s
  else
    let s := { s with t := s.now }
    let due (x : DfbPath) : Bool := s.g F.DFB_QLOSS_ILL_M n < x.ill && x.illNew && !x.qloss
    let s' := if due (s.dpath n 1) then s.updPath n 1 fun x => { x with qloss := true, illNew := false } else s
    if due (s.dpath n 0) then
      let s := s'.updPath n 0 fun x => { x with qloss := true, illNew := false }
      let s := (s.dfbStick n 0 F.DFB_STKY_QLOSS).showDfb n
      let m := s.engine n
      if s.ost m = oOff || s.ost m = oLot then s else s.enterLot m
    else s'

def execQuadratureLoss (n : Fin 16) (s : State) : Host.Outcome State Fault Refusal := .next (doQuadratureLoss n s)

/-- A live loss ends; the next index is the reference (R218). -/
def DfbPath.endLoss (x : DfbPath) : DfbPath :=
  if x.qloss then { x with qloss := false, zfound := false } else x

/-- R215: the end of a window of ILL_WIN ms; a window without illegal transitions ends a loss. -/
def doIllWindowEnd (n : Nat) (s : State) : State :=
  if s.digital n && s.g F.DFB_QLOSS_ILL_WIN n * 5000 ≤ (s.dfb! n).win then
    let s := { s with t := s.now }
    let close (x : DfbPath) : DfbPath := let x := if x.ill = 0 then x.endLoss else x; { x with ill := 0, illNew := false }
    (s.updDfb n fun d => { d with win := 0, p0 := close d.p0, p1 := close d.p1 }).showDfb n
  else s

def execIllWindowEnd (n : Fin 16) (s : State) : Host.Outcome State Fault Refusal := .next (doIllWindowEnd n s)

/-! ### Index (R217 to R221) -/

/-- Deviation of POS from ZREF in −2·LINES to 2·LINES − 1 (R219). -/
def State.deviation (s : State) (n : Nat) (pos : Nat) : Int :=
  let c : Int := s.cycle n
  if c = 0 then 0 else ((pos : Int) - s.g F.DFB_IDX_ZREF n + c / 2) % c - c / 2

/-- POS is set to ZREF; the first path shifts th by the step that POS made, in BAM32 (R218). -/
def State.setRef (s : State) (n p : Nat) : State :=
  let c := s.cycle n
  let dev := s.deviation n (s.dpath n p).pos
  let s := s.updPath n p fun x => { x with pos := s.g F.DFB_IDX_ZREF n % max 1 c }
  if p = 0 then
    s.updObs (s.engine n) fun o => { o with th := (o.th + rdiv 110 (-dev * 2 ^ 32) (max 1 c) * 2 ^ 16) % turn48 }
  else s

/-- R217 to R221: the index of a path, evaluated after the counting of its cycle. -/
def doIndex (n : Nat) (e : EdgeIn) (s : State) : State :=
  match s.filtered n e.sub e.held with
  | none => s
  | some t =>
  if !(s.digital n && s.g F.DFB_CFG_TYPE n = 0) then s
  else
    let s := { s with t := t }
    let p := e.path.val
    let x := { s.dpath n p with z := e.z }
    let now := s.gateCond n x
    let s := s.updPath n p fun _ => { x with gate := now }
    let im := s.g F.DFB_CFG_IDXMODE n
    if !(now && !x.gate) || im = 0 || s.lineLow2 n || x.qloss || s.gb F.PRT_STAT_LINE_AX n then s
    else
      let s := s.updPath n p fun x => { x with lastIdx := x.cnt, zarm := true }
      if !x.zfound then
        let s := (s.setRef n p).updPath n p fun x => { x with zfound := true, degr := if im = 2 then false else x.degr }
        let s := if p = 0 then s.w F.DFB_ZDEV_ZSEEN n 0 else s
        s.showDfb n
      else
        let dev := s.deviation n x.pos
        let tol := s.g F.DFB_IDX_ZTOL n
        let s := if p = 0 then
            ((s.w F.DFB_ZDEVW_DEV n (enc 32 dev)).w F.DFB_ZDEV_DEV n (enc 16 (satS 16 dev))).w F.DFB_ZDEV_ZSEEN n
              (s.g F.DFB_ZDEV_ZSEEN n + 1)
          else s
        let s := if tol < dev.natAbs then s.dfbStick n p F.DFB_STKY_ZDEV else s
        let s := if im = 2 then s.setRef n p else s
        let s := if im = 2 || dev.natAbs ≤ tol then s.updPath n p fun x => { x with degr := false } else s
        s.showDfb n

def execIndex (n : Fin 16) (e : EdgeIn) (s : State) : Host.Outcome State Fault Refusal := .next (doIndex n e s)

/-- R218: the reference is forgotten. -/
def State.zclr (s : State) (n : Nat) : State :=
  (s.updDfb n fun d => { d with p0 := { d.p0 with zfound := false }, p1 := { d.p1 with zfound := false } }).showDfb n

def execZclr (src : Src) (n : Fin 16) (s : State) : Host.Outcome State Fault Refusal := .next (s.via src 0xB000 fun s => s.zclr n)

/-- R221: DEGRADED after a line loss ends, in IGNORE. -/
def State.clrdeg (s : State) (n : Nat) : State :=
  if s.g F.DFB_CFG_IDXMODE n = 0 then
    (s.updDfb n fun d => { d with p0 := { d.p0 with degr := false }, p1 := { d.p1 with degr := false } }).showDfb n
  else s

def execClrdeg (src : Src) (n : Fin 16) (s : State) : Host.Outcome State Fault Refusal := .next (s.via src 0xB000 fun s => s.clrdeg n)

/-- R215: a live loss is cleared. -/
def State.qclr (s : State) (n : Nat) : State :=
  (s.updDfb n fun d =>
    { d with p0 := { d.p0.endLoss with illNew := false }, p1 := { d.p1.endLoss with illNew := false } }).showDfb n

def execQclr (src : Src) (n : Fin 16) (s : State) : Host.Outcome State Fault Refusal := .next (s.via src 0xB000 fun s => s.qclr n)

/-! ### Hall (R222) -/

/-- A sixth of a turn, its last place open, in BAM32; a twelfth likewise. -/
def sixth (k : Nat) : Nat := (rdiv 111 (k * 2 ^ 32) 6).toNat % 2 ^ 32
def twelfth (k : Nat) : Nat := (rdiv 111 (k * 2 ^ 32) 12).toNat % 2 ^ 32

/-- The registers of a Hall decoder show path 0. -/
def State.showHall (s : State) (n p : Nat) : State :=
  if p = 0 then
    let x := s.dpath n 0
    let s := s.w F.DFB_STAT_HSECT n (if x.hallLegal then x.hSec else 7)
    (s.wb F.DFB_STAT_HALL_ILL n (x.hCode.isSome && !x.hallLegal)).showDfb n
  else s

/-- The position at the centre of sector `k`. -/
def DfbPath.hallCentre (x : DfbPath) (k : Nat) : DfbPath := { x with hSec := k, hPos := twelfth (2 * k + 1), hCen := true }

/-- A path enters the legal sector `k` (R222): from no sector its centre, from a neighbour the boundary between, else a
skip. A fault code holds the sector it followed, so the next legal code is a move from that one (log entry 102). -/
def State.hallMove (s : State) (n p k : Nat) : State :=
  let x := s.dpath n p
  if x.hSec = 7 then s.updPath n p fun x => x.hallCentre k
  else if k = x.hSec then s
  else if k = (x.hSec + 1) % 6 || x.hSec = (k + 1) % 6 then
    let up := k = (x.hSec + 1) % 6
    let s := s.count n p (if up != s.gb F.DFB_CFG_DIR n then 1 else -1)
    s.updPath n p fun x => { x with hSec := k, hPos := sixth ((if up then x.hSec else k) + 1), hCen := false }
  else ((s.illegal n p).dfbStick n p F.DFB_STKY_HALL_SKIP).updPath n p fun x => x.hallCentre k

/-- R222: a change of the filtered Hall code. -/
def doHallEdge (n : Nat) (e : HallIn) (s : State) : State :=
  match s.filtered n e.sub e.held with
  | none => s
  | some t =>
  let p := e.path.val
  if !(s.digital n && s.g F.DFB_CFG_TYPE n = 1) || (s.dpath n p).hCode = some e.code.toNat then s
  else
    let s := { s with t := t }.updPath n p fun x => { x with hCode := some e.code.toNat }
    let s := match hallSector e.code.toNat with
      | none => if p = 0 then (s.bump F.DFB_ILLCNT_COUNT n).dfbStick n 0 F.DFB_STKY_HALL_ILL else s
      | some k => s.hallMove n p k
    s.showHall n p

def execHallEdge (n : Fin 16) (e : HallIn) (s : State) : Host.Outcome State Fault Refusal := .next (doHallEdge n e s)

/-! ### Serial sensors (R223 to R230) -/

/-- A port in DIGITAL mode with a serial decoder. -/
def State.serial (s : State) (n : Nat) : Bool := s.digital n && 2 ≤ s.g F.DFB_CFG_TYPE n

/-- The device may clock its serial sensors: it holds the drive token, and its driver has been high impedance for 1 µs after
a change of `MODE` or `TYPE` (R230, R54). -/
def State.clockDrives (s : State) (n : Nat) : Bool := s.holdsToken && 0 ≤ tdiff s.t (s.exc! n).hold

/-- R223, R230: a frame request at its instant; `idle`: the data line is at its idle level. In STANDBY the request is the
partner's first clock edge, `sub` units after the newest sample. A request that comes while the clock driver must not drive,
or to a new active device before `MONO` has passed since the partner's last edge, is not made (log entry 101). -/
def doFrameRequest (n : Nat) (idle : Bool) (sub : Nat) (s : State) : State :=
  if !s.serial n then s
  else if s.standby then
    if s.gb F.DFB_STAT_FRAME n then s
    else
      let t := tadd s.now sub
      ({ s with t := t }.updDfb n fun d => { d with tr := t, req := none, mon := true }).w F.DFB_STAT_FRAME n 1
  else
    match (s.dfb! n).req with
    | none => s
    | some t =>
      let s := { s with t := t }.updDfb n fun d => { d with req := none }
      let busy := s.gb F.DFB_STAT_FRAME n || tdiff t (s.dfb! n).recover < 0
      if !s.clockDrives n || (busy && (s.dfb! n).mon) then s
      else if busy || !idle then (s.bump F.DFB_SKIPCNT_COUNT n).stickEv F.DFB_STKY_SKIP n (144 + n)
      else (s.updDfb n fun d => { d with tr := t, mon := false }).w F.DFB_STAT_FRAME n 1

def execFrameRequest (n : Fin 16) (idle : Bool) (sub : Nat) (s : State) : Host.Outcome State Fault Refusal :=
  .next (doFrameRequest n idle sub s)

/-- CRC-6 of R227 over bits, MSB first: polynomial x⁶ + x + 1, initial value 0. -/
def crc6 (bits : List Bool) : Nat :=
  bits.foldl (fun c b => if (32 ≤ c) != b then (2 * c) % 64 ^^^ 3 else 2 * c % 64) 0

/-- The low `w` bits of a number, MSB first. -/
def bitsMSB (v w : Nat) : List Bool := ((List.range w).map fun i => v.testBit i).reverse

/-- Gray code to binary over `w` bits (R229). -/
def grayToBin (v w : Nat) : Nat :=
  (bitsMSB v w).foldl (fun (acc : Nat × Bool) b => let c := b != acc.2; (2 * acc.1 + b2n c, c)) (0, false) |>.1

/-- θ_m of a single-turn value (R225). -/
def State.serialTheta (s : State) (n st : Nat) : Nat :=
  let b := s.g F.DFB_SFMT_ST_BITS n
  if b ≤ 32 then st * 2 ^ (32 - b) % 2 ^ 32 else st / 2 ^ (b - 32) % 2 ^ 32

/-- A frame that is discarded for a failed check (R227, R229). -/
def State.badFrame (s : State) (n p : Nat) : State :=
  if p = 0 then (s.bump F.DFB_ERRCNT_COUNT n).stickEv F.DFB_STKY_CRC n (144 + n) else s

/-- A good frame delivers its position (R225, R227, R229). -/
def State.dfbDeliver (s : State) (n p word : Nat) (e w : Bool) : State :=
  let sb := s.g F.DFB_SFMT_ST_BITS n
  let tf := tadd (s.dfb! n).tr (s.g F.DFB_LATCH_LATCH_DLY n * nsU)
  let s := s.updPath n p fun x =>
    { x with sPos := s.serialTheta n (word % 2 ^ sb), tf := tf, sAny := true, sErr := e, sWarn := w }
  if p ≠ 0 then s
  else
    let mt := word / 2 ^ sb
    let s := (s.w F.DFB_MT_MT n mt).w F.DFB_MTH_MT n (mt / 2 ^ 32)
    let s := (s.wb F.DFB_STAT_SENS_E n e).wb F.DFB_STAT_SENS_W n w
    let s := if e then s.stickEv F.DFB_STKY_SENS_E n (144 + n) else s
    if w then s.stickEv F.DFB_STKY_SENS_W n (144 + n) else s

/-- The frame that runs has ended; recovery runs from its last clock edge (R226, R229). -/
def State.frameOver (s : State) (n : Nat) (age : Int) : State :=
  (s.w F.DFB_STAT_FRAME n 0).updDfb n fun d =>
    { d with recover := tadd s.now (s.g F.DFB_STIM_MONO n * usU - age) }

/-- R226 to R230: a frame has been read by a path. -/
def doFrameEnd (n : Nat) (f : SerialIn) (s : State) : State :=
  if !(s.serial n && (s.gb F.DFB_STAT_FRAME n || f.path.val = 1)) then s
  else
    let s := { s with t := s.now }
    let p := f.path.val
    let s := if p = 0 then s.frameOver n f.age else s
    let nb := s.g F.DFB_SFMT_MT_BITS n + s.g F.DFB_SFMT_ST_BITS n
    let word := f.data % 2 ^ nb
    let eb := s.g F.DFB_SFMT_ERRB n
    let e0 := f.err.toNat.testBit 0
    let e1 := f.err.toNat.testBit 1
    if !f.clockOk && !s.standby then s.dfbStick n p F.DFB_STKY_CLKMON
    else if s.g F.DFB_CFG_TYPE n = 2 then
      let es := if eb = 0 then [] else if eb = 1 then [e0] else [e0, e1]
      if crc6 (bitsMSB word nb ++ es) ^^^ 63 = f.check % 64 then
        s.dfbDeliver n p word (1 ≤ eb && !e0) (2 ≤ eb && !e1)
      else s.badFrame n p
    else if s.gb F.DFB_SFMT_DBL n && f.check ≠ word then s.badFrame n p
    else s.dfbDeliver n p (if s.gb F.DFB_SFMT_GRAY n then grayToBin word nb else word) (1 ≤ eb && e0) false

def execFrameEnd (n : Fin 16) (f : SerialIn) (s : State) : Host.Outcome State Fault Refusal := .next (doFrameEnd n f s)

/-- T_clk of a serial port in STIME units (R224). -/
def State.serialClk (s : State) (n : Nat) : Nat :=
  2 * (max (s.g F.DFB_STIM_CLKDIV n) (if s.g F.DFB_CFG_TYPE n = 2 then 19 else 99) + 1) * 160

/-- R226: no start bit by the `TO_MAX`-th rising edge of MA: clocking stops there, the frame is discarded. The first edge, at
t_r, falls. -/
def doNoStart (n p : Nat) (s : State) : State :=
  let te := tadd (s.dfb! n).tr ((2 * s.g F.DFB_STIM_TO_MAX n - 1) * s.serialClk n / 2 : Nat)
  if s.digital n && s.g F.DFB_CFG_TYPE n = 2 && s.gb F.DFB_STAT_FRAME n && p = 0 && tdiff te (tadd s.now sampleU) < 0 then
    ({ s with t := te }.frameOver n (tdiff s.now te)).stickEv F.DFB_STKY_NOSTART n (144 + n)
  else s

def execNoStart (n : Fin 16) (path : Fin 2) (s : State) : Host.Outcome State Fault Refusal := .next (doNoStart n path s)

/-! ### Lines, one sample, restarts -/

/-- `DFBn_STAT.LINE` follows the live line bits; its rise is sticky (R221). A cleared loss leaves DEGRADED. -/
def State.lineState (s : State) (n : Nat) : State :=
  let low := s.lineLow2 n
  let any := low || s.gb F.PRT_STAT_LINE_AX n
  let s := if any && !s.gb F.DFB_STAT_LINE n then s.stickEv F.DFB_STKY_LINE n (144 + n) else s
  let s := s.wb F.DFB_STAT_LINE n any
  let back := (s.dfb! n).low && !low
  s.updDfb n fun d =>
    if back then { d with low := low, p0 := { d.p0 with degr := true }, p1 := { d.p1 with degr := true } }
    else { d with low := low }

/-- R79: a pair has stayed below its line level. -/
def doLineLevelLow (n : Nat) (pair : Pair) (s : State) : State :=
  if s.digital n && s.lineLow n pair then ({ s with t := s.now }.lineSet n pair).lineState n else s

def execLineLevelLow (n : Fin 16) (pair : Pair) (s : State) : Host.Outcome State Fault Refusal :=
  .next (doLineLevelLow n pair s)

/-- The position registers of the first path (R232). -/
def State.showPos (s : State) (n : Nat) : State :=
  let (θ, v, dg, tf) := s.dfbPos n (s.dpath n 0)
  let fresh : Bool := decide (tdiff s.now tf ≤ 2 * s.detPeriod (0xB000 + 0x80 * n))
  let s := ((s.w F.DFB_POS_POS n θ).w F.DFB_PTS_TS32 n (ts32 tf)).w F.DFB_PSTS_EPOCH n (s.epochOf n)
  let s := s.w F.DFB_PSTS_STATUS n (statusByte v fresh false false false s.holdover dg (s.eraAt tf))
  let s : State := { s with stamps := SMap.set 0 s.stamps (0xB034 + 0x80 * n) (tf + 1) }
  let b := 0xB000 + 0x80 * n
  s.updDfb n fun d => { d with shown := [0x2C, 0x30, 0x34, 0x38, 0x3C, 0x58].map fun o => s.regWord (b + o) }

/-- A port in DIGITAL mode at a sample: line levels, windows, self-timed requests, the position shown. -/
def State.dfbSample (s : State) (n : Nat) (xs xc : Int) : State :=
  let s := (s.lineSample n true xs).lineSample n false xc
  let s := s.lineState n
  let d := s.dfb! n
  let per := s.g F.DFB_SREQ_PERIOD n
  let req := s.serial n && !s.standby && !s.gb F.DFB_SREQ_TRIG n && per ≠ 0 && d.smp % per = 0
  let s := s.updDfb n fun d =>
    { d with smp := d.smp + 1, win := d.win + 1, req := if req then some s.now else d.req }
  (s.showDfb n).showPos n

/-- R182, R231: the second path delivers its position to the diverse path at a boundary sample; ERA is that of the instant it
stands for (R31). -/
def State.dfbSecond (s : State) (n : Nat) : State :=
  if !s.digital n then s
  else
    let tb := s.now
    let x := s.dpath n 1
    let (θ, v, dg, tf) := s.dfbPos n x
    let ser := s.serial n
    let fresh := !ser || tdiff tb tf ≤ 2 * s.g F.DFB_SREQ_PERIOD n * sampleU
    s.divOutput n θ v fresh false dg s.holdover (s.eraAt tf) (if ser then tf else tb) 0 25

/-- A decoding path at a port restart: what its lines carry stays known, a Hall path stands at the centre of its sector
(R222). -/
def DfbPath.restart (x : DfbPath) : DfbPath :=
  let y : DfbPath := { a := x.a, b := x.b, z := x.z, gate := x.gate, hCode := x.hCode }
  match x.hCode.bind hallSector with
  | some k => y.hallCentre k
  | none => y

/-- The decoder at a port restart (R213, R218, R222, R455). -/
def State.dfbRestart (s : State) (n : Nat) : State :=
  let s := s.updDfb n fun d => { p0 := d.p0.restart, p1 := d.p1.restart, recover := d.recover, mon := d.mon, shown := d.shown }
  let s := ((s.w F.DFB_CNT_CNT n 0).w F.DFB_STAT_ZFOUND n 0).w F.DFB_STAT_QLOSS n 0
  let s := ((s.w F.DFB_STAT_FRAME n 0).w F.DFB_STAT_DEGR n 0).w F.DFB_STAT_HALL_ILL n 0
  let s := if s.digital n && s.g F.DFB_CFG_TYPE n = 1 then s.showHall n 0 else s
  let s := s.w F.DFB_GD_GD n (if s.digital n then s.inDelay n else s.g F.DFB_GD_GD n)
  if s.digital n then s
  else ((s.w F.DFB_PSTS_STATUS n 0).w F.DFB_STAT_LINE n 0).w F.DFB_STAT_SENS_E n 0

end Sys2Proof.Machine
end

