-- ==== Sys2Proof/Machine/Geyser.lean ====
section
/-! DEFINITION. Geyser, the angle-domain scheduler (chapter 9): slot entries and states, evaluation and prediction,
group copies, PWM sync inputs, GTRIG pulses, the Angle Stream. The firing of a slot is in Fire.lean. -/

namespace Sys2Proof.Machine

/-! ### Slots and their entries (R252 to R256) -/

abbrev liveBase : Nat := 0x104000
abbrev shadowBase : Nat := 0x106000
abbrev firingBase : Nat := 0x107000

abbrev gIdle : Nat := 0
abbrev gArmed : Nat := 1
abbrev gComm : Nat := 2
abbrev gPass : Nat := 3
abbrev gDone : Nat := 4
abbrev gHeld : Nat := 5
abbrev gBad : Nat := 6

def State.slot! (s : State) (j : Nat) : SlotSt := SMap.get {} s.slots j
def State.setSlot (s : State) (j : Nat) (v : SlotSt) : State := { s with slots := SMap.set {} s.slots j v }
def State.updSlot (s : State) (j : Nat) (f : SlotSt → SlotSt) : State := s.setSlot j (f (s.slot! j))

/-- Word `i` of the live entry of slot `j`. -/
def State.live (s : State) (j i : Nat) : Nat := s.sram32 (liveBase + 32 * j + 4 * i)
/-- The eight words of the live entry. -/
def State.entry (s : State) (j : Nat) : List Nat := (List.range 8).map fun i => s.live j i
/-- `GROUP` of the shadow entry of slot `j`. -/
def State.shadowGroup (s : State) (j : Nat) : Nat := bitsOf (s.sram32 (shadowBase + 16 * j)) 16 6

def State.slotKind (s : State) (j : Nat) : Nat := bitsOf (s.live j 0) 0 3
def State.slotRepeat (s : State) (j : Nat) : Bool :=
  match s.slotKind j with
  | 2 => false
  | 3 => true
  | _ => bitOf (s.live j 0) 4
def State.slotDir (s : State) (j : Nat) : Int := if bitOf (s.live j 0) 5 then -1 else 1
def State.slotPort (s : State) (j : Nat) : Nat := bitsOf (s.live j 0) 12 4

/-- A time in STIME units taken to the nearest 0.625 ns, ties going later (R253). -/
def round40 (t : Nat) : Nat := (t + 20) / 40 * 40 % 2 ^ 64

/-- The START of a TIME or PERIOD slot. -/
def State.slotStart (s : State) (j : Nat) : Nat := round40 (s.live j 1 + 2 ^ 32 * s.live j 2)

/-- The checks of R255; a poisoned word makes the entry bad too (Table 17-1). -/
def State.slotInvalid (s : State) (j : Nat) : Bool :=
  let w0 := s.live j 0
  let k := bitsOf w0 0 3
  let w4 := s.live j 4
  s.poisonIn (liveBase + 32 * j) (liveBase + 32 * j + 32) || 6 ≤ k || (bitsOf w0 10 2 = 3 && (k = 1 || bitOf w4 17 || bitOf w4 18)) || (k = 4 && bitsOf w0 8 2 = 0) ||
    (k = 3 && s.live j 3 < 1600)

/-- Sets a bit of `GEY_STKY` with its event of Table 9-8. -/
def State.geyStick (s : State) (f : Fld) (e : Nat) : State := s.stickEv f 0 e

/-! ### Angles (R257, R537) -/

/-- The state in force at `t` for port `n`. -/
def State.stateAt (s : State) (n t : Nat) : State := s.engAt (s.engine n) t

/-- An angle of port `n` projected to `tp`: BAM32, its velocity as numerator (2⁻³² rev/s) and denominator, its
acceleration numerator (2⁻¹⁶ rev/s²) over the same denominator, its status. `asel` 3 selects RANG. -/
def State.angleAt (s : State) (n asel tp : Nat) : Nat × Int × Int × Nat × Nat :=
  let m := s.engine n
  let st := if s.ost m = oOff then 0 else s.obsStatus m s.t
  let (th, mi, _, w, a) := s.project m (tdiff tp (s.obs! m).tk + (s.obs! m).dObs)
  let p := s.g F.OBS_CFG_PPR m
  let q : Int := s.g F.OBS_CFG_MPP m
  match asel with
  | 0 => (s.mang m th mi, w, a, p, s.mStatus m st)
  | 2 => (s.eang m th mi, q * w, q * a, p, s.mStatus m st)
  | _ => (rang32 th, w, a, 1, st)

/-- A velocity as Q16.16 rev/s. -/
def vel1616 (w : Int) (p : Nat) : Nat := enc 32 (satS 32 (rnd w (2 ^ 16 * (max p 1 : Nat))))

/-! ### Crossings and prediction (R258, R261) -/

/-- A crossing of `a` in direction `d` between the evaluation angles `u` and `v`; with `own`, a position 0 does not count:
the slot served it by the firing that made `a` its target again. -/
def crossed (d : Int) (a u v : Nat) (own : Bool) : Bool :=
  let Δ := mdiff 32 v u
  if d = 1 then
    let x := enc 32 ((a : Int) - u)
    0 < Δ && 0 < x && (x : Int) ≤ Δ
  else
    let x := enc 32 ((u : Int) - a)
    Δ < 0 && (x : Int) < -Δ && !(own && x = 0)

/-- The prediction of R258 from ψ at `te`: whether a crossing lies ahead, and the predicted instant within 1 ms. -/
def predict (d : Int) (a ψ : Nat) (w acc : Int) (p te : Nat) : Bool × Option Nat :=
  let x := enc 32 (d * ((a : Int) - ψ))
  let dd : Nat := if x = 0 then 2 ^ 32 else x
  let Ω := d * w
  let Λ := d * acc
  let disc := Ω * Ω + 2 ^ 17 * p * Λ * dd
  if disc < 0 || (Ω ≤ 0 && disc ≤ Ω * Ω) then (false, none)
  else
    let den := Ω * 2 ^ 32 + (sqrtF 120 (disc.toNat * 2 ^ 64) : Int)
    let num : Nat := 2 * p * dd * 64000000000 * 2 ^ 32
    if den ≤ 0 then (true, none)
    else if (num : Int) ≤ msU * den then
      let d' : Nat := den.toNat
      (true, some ((2 * (te * d' + num) + 40 * d') / (2 * 40 * d') * 40 % 2 ^ 64))
    else (true, none)

/-! ### Outcomes (R262 to R264) -/

/-- A target served or consumed: DONE, or PASS with the next target (R264); PERIOD goes to its next instant (R266). -/
def State.consume (s : State) (j : Nat) : State :=
  let v := s.slot! j
  let k := s.slotKind j
  if !s.slotRepeat j then s.setSlot j { v with st := gDone, com := none, pred := none }
  else if k = 1 then
    let v := { v with com := none, pred := none, base := v.tgt,
                      tgt := enc 32 ((v.tgt : Int) + s.slotDir j * s.live j 2) }
    s.setSlot j (if v.gap then { v with st := gHeld, frm := gPass } else { v with st := gPass })
  else if k = 3 then
    -- after a step of STIME `next` is already the first instant behind it (R266)
    let late : Bool := match v.com with | some c => c.kind = 2 | none => false
    s.setSlot j { v with st := gArmed, com := none, next := if late then v.next else tadd v.next (s.live j 3 * 40) }
  else s.setSlot j { v with st := gArmed, com := none }

/-- Loads a commitment. -/
def State.commitSlot (s : State) (j t kind : Nat) : State :=
  s.updSlot j fun v => { v with st := gComm, com := some { at' := t, kind := kind } }

/-- A missed target (R262), with its firing at `te` where `FLATE` is 1. -/
def State.missed (s : State) (j te : Nat) : State :=
  let s := (s.updSlot j fun v => { v with miss := true }).bump F.GEY_MISSCNT_COUNT
  let s := s.geyStick F.GEY_STKY_MISSED 168
  if bitOf (s.live j 0) 7 then s.commitSlot j te 2 else s.consume j

/-- A crossing that no firing served (R262). -/
def State.unserved (s : State) (j ψ te : Nat) : State :=
  let v := s.slot! j
  if v.st = gComm && s.slotDir j * mdiff 32 ψ v.tgt ≤ bitsOf (s.live j 3) 0 16 * 65536 then
    let s := ((s.updSlot j fun v => { v with late := true }).bump F.GEY_LATECNT_COUNT).geyStick F.GEY_STKY_LATE 170
    s.commitSlot j te 1
  else s.missed j te

/-- The commitment can no longer be reloaded (R259). -/
def State.locked (s : State) (v : SlotSt) : Bool :=
  match v.com with
  | some c => tdiff c.at' (tadd s.now (2 * sampleU)) < 0
  | none => false

/-- Predicts an ARMED or reloadable slot and commits, reloads, or withdraws (R258, R259, R263). -/
def State.slotPredict (s : State) (j ψ : Nat) (w a : Int) (p te : Nat) : State :=
  let v := s.slot! j
  let (ahead, tf) := predict (s.slotDir j) v.tgt ψ w a p te
  let soon : Bool := match tf with
    | some t => decide (tdiff t (tadd te usU) ≤ 0)
    | none => false
  let s := s.updSlot j fun v => { v with pred := tf }
  if soon then s.updSlot j fun v => { v with st := gComm, com := some { at' := tf.getD 0, kind := 0 } }
  else if v.st = gComm then
    if ahead || bitOf (s.live j 0) 6 then s.updSlot j fun v => { v with st := gArmed, com := none }
    else
      (((s.updSlot j fun v => { v with miss := false }).bump F.GEY_REVCNT_COUNT).geyStick F.GEY_STKY_REVCAN 169).consume j
  else s

/-- The states of an ANGLE slot whose angle is FRESH, over the interval from `u` to ψ; no crossing is checked at a
recording evaluation. -/
def State.slotStates (s : State) (j u ψ : Nat) (w a : Int) (p te : Nat) (first : Bool) : State :=
  let v := s.slot! j
  let d := s.slotDir j
  if v.st = gPass then
    if bitsOf (s.live j 3) 16 16 * 65536 < d * mdiff 32 ψ v.base then
      let s := s.updSlot j fun v => { v with st := gArmed }
      if crossed d v.tgt v.base ψ (v.tgt = v.base) then s.unserved j ψ te else s.slotPredict j ψ w a p te
    else s
  else if v.st = gArmed || (v.st = gComm && !s.locked v) then
    if !first && crossed d v.tgt u ψ false then s.unserved j ψ te else s.slotPredict j ψ w a p te
  else s

/-- The evaluation of an ANGLE slot at a sample (R257 to R265). -/
def State.angleEval (s : State) (j : Nat) : State :=
  let v := s.slot! j
  let te := tadd s.now sampleU
  let (ψ, w, a, p, st) := s.angleAt (s.slotPort j) (bitsOf (s.live j 0) 10 2) te
  if bitOf st 1 then
    let s := s.setSlot j { v with ψ := ψ, first := false, gap := false, lost := false }
    if v.gap && v.lost then
      let s := s.geyStick F.GEY_STKY_LOSTTRK 171
      if v.st = gComm && s.locked v then s.updSlot j fun v => { v with reArm := true }
      else
        let s := s.updSlot j fun v => { v with st := gArmed, com := none }
        s.slotPredict j ψ w a p te
    else
      let s := if v.st = gHeld then s.updSlot j fun x => { x with st := v.frm } else s
      if v.reArm && (s.slot! j).st ≠ gComm then
        let s := s.updSlot j fun x => { x with reArm := false, st := if x.st = gDone then gDone else gArmed }
        if (s.slot! j).st = gDone then s else s.slotPredict j ψ w a p te
      else s.slotStates j v.ψ ψ w a p te v.first
  else
    let v := { v with gap := true, lost := v.lost || !bitOf st 0, pred := none }
    s.setSlot j (if v.st = gArmed || v.st = gPass then { v with st := gHeld, frm := v.st } else v)

/-- TIME and PERIOD slots commit when their instant lies within 1 µs (R266). -/
def State.timeEval (s : State) (j : Nat) : State :=
  let v := s.slot! j
  if v.st = gArmed && tdiff v.next (tadd s.now (sampleU + usU)) ≤ 0 then s.commitSlot j v.next 0 else s

/-- Once a changed entry acts, what stood before it is forgotten. -/
def State.geyForget (s : State) : State :=
  s.slots.foldl (fun s e => match e.2.armAt with
    | some t => if 0 ≤ tdiff s.now t then s.updSlot e.1 fun v => { v with armAt := none, old := none } else s
    | none => s) s

/-- The evaluation of every slot at a sample. -/
def State.geySample (s : State) : State :=
  let s := s.geyForget
  if !s.gb F.GEY_CFG_EN then s
  else s.slots.foldl (fun s e =>
    let st := e.2.st
    if st = gIdle || st = gDone || st = gBad then s
    else match s.slotKind e.1 with
      | 1 => s.angleEval e.1
      | 2 | 3 => s.timeEval e.1
      | _ => s) s

/-! ### Arming (R254, R255, R266, R273) -/

/-- First instant of a PERIOD slot at or after `t`. -/
def periodFirst (start per t : Nat) : Nat :=
  let d := tdiff t start
  if d ≤ 0 then start else tadd start ((d + per - 1) / per * per)

/-- Arms a slot at instant `t` under the entry now in the live table. -/
def State.arm (s : State) (j t : Nat) : State :=
  let v := s.slot! j
  if s.slotInvalid j then
    (s.setSlot j { v with st := gBad, com := none, pred := none }).geyStick F.GEY_STKY_BADSLOT 174
  else
    let v := { v with st := gArmed, first := true, gap := false, lost := false, reArm := false, pred := none, edges := 0,
                      tgt := if s.slotKind j = 1 then s.live j 1 else 0 }
    match s.slotKind j with
    | 2 =>
      let s := s.setSlot j { v with next := s.slotStart j }
      if tdiff (s.slotStart j) t < 0 then s.missed j t else s.timeEval j
    | 3 => (s.setSlot j { v with next := periodFirst (s.slotStart j) (40 * s.live j 3) t }).timeEval j
    | _ => s.setSlot j v

/-- An entry applied at the boundary instant `tb`, with the words before it (R254, R273): a commitment to an instant
before t_b + 200 ns keeps the old words, a later one is withdrawn. -/
def State.entryApplied (s : State) (j tb : Nat) (old : List Nat) : State :=
  let v := s.slot! j
  let new := s.entry j
  let armed := v.st = gArmed || v.st = gComm || v.st = gPass || v.st = gHeld
  if armed && new = old then s
  else if !s.gb F.GEY_CFG_EN then s
  else
    let t := tadd tb sampleU
    let keep := match v.com with
      | some c => if tdiff c.at' t < 0 then some { c with words := some old } else none
      | none => none
    let goesOn := v.st = gArmed || (v.st = gComm && bitOf (lget old 0) 4)
    let s := s.setSlot j { v with com := none, keep := keep, armAt := some t,
                                  old := if goesOn then some (old, v.edges) else none }
    if bitOf (s.live j 0) 3 then s.arm j t
    else s.updSlot j fun v => { v with st := gIdle, pred := none }

/-- A change of `GEY_CFG.EN` at the boundary instant `tb`. -/
def State.geyEnable (s : State) (tb : Nat) : State :=
  if s.gb F.GEY_CFG_EN then
    s.each 256 fun s j => if bitOf (s.live j 0) 3 then s.arm j (tadd tb sampleU) else s
  else
    s.slots.foldl (fun s e => s.updSlot e.1 fun v =>
      { fired := v.fired, late := v.late, miss := v.miss, cnt := v.cnt }) s

/-- A step of STIME from `t0` to `t1` past an instant of a TIME or PERIOD slot (R266). -/
def State.geyStep (s : State) (t0 t1 : Nat) : State :=
  s.slots.foldl (fun s e =>
    let v := s.slot! e.1
    let k := s.slotKind e.1
    if (v.st = gArmed || v.st = gComm) && (k = 2 || k = 3) && 0 ≤ tdiff v.next t0 && tdiff v.next t1 < 0 then
      let s := s.updSlot e.1 fun v => { v with com := none }
      let s := s.missed e.1 (tadd t1 sampleU)
      if k = 3 then s.updSlot e.1 fun v => { v with next := periodFirst (s.slotStart e.1) (40 * s.live e.1 3) t1 } else s
    else s) s

/-! ### Shadow table and group copies (R274, R275) -/

def State.copyPending (s : State) (g : Nat) : Bool := s.copies.any fun c => c.1 = g

/-- A write of a shadow word (R274), and whether it was refused. -/
def State.shadowWrite (s : State) (word v : Nat) : State × Bool :=
  let j := word / 4
  if s.copyPending (s.shadowGroup j) || (word % 4 = 0 && s.copyPending (bitsOf v 16 6)) then
    ((s.w F.GEY_SHADDR_RESULT 0 1).geyStick F.GEY_STKY_BUSY_W 174, true)
  else ((s.setSram32 (shadowBase + 4 * word) v).w F.GEY_SHADDR_RESULT 0 0, false)

/-- `GEY_SHDATA`: the word goes in at once and the address advances. -/
def State.shadowData (s : State) (v : Nat) : State :=
  let word := s.g F.GEY_SHADDR_WORD
  ((s.shadowWrite word v).1).w F.GEY_SHADDR_WORD 0 ((word + 1) % 1024)

def execShadowWrite (src : Src) (value : Word) (s : State) : Host.Outcome State Fault Refusal :=
  .next (s.via src 0xD000 fun s => s.shadowData value.toNat)

/-- Shows the pending groups. -/
def State.showPending (s : State) : State :=
  let m := s.copies.foldl (fun m c => m ||| 2 ^ c.1) 0
  (s.w F.GEY_GPEND0_PEND 0 (m % 2 ^ 32)).w F.GEY_GPEND1_PEND 0 (m / 2 ^ 32)

/-- A request for a copy of group `g` (R275), and whether it was accepted. -/
def State.requestCopy (s : State) (g : Nat) : State × Bool :=
  if g = 0 then (s.w F.GEY_GSTAT_RES 0 2, false)
  else if s.copyPending g then ((s.w F.GEY_GSTAT_RES 0 1).geyStick F.GEY_STKY_GBUSY 174, false)
  else (({ s with copies := s.copies ++ [(g, s.t)] }.w F.GEY_GSTAT_RES 0 0).showPending, true)

/-- `GEY_GCMD`. -/
def State.groupCommand (s : State) (v : Nat) : State := if bitOf v 8 then (s.requestCopy (v % 64)).1 else s

def execGroupCopyRequest (src : Src) (value : Word) (s : State) : Host.Outcome State Fault Refusal :=
  .next (s.via src 0xD000 fun s => s.groupCommand value.toNat)

/-- The groups due at the boundary instant `tb`, ascending. -/
def State.copiesDue (s : State) (tb : Nat) : List Nat :=
  (List.range 64).filter fun g => s.copies.any fun c => c.1 = g && 0 ≤ tdiff tb (tadd c.2 sampleU)

/-- Copies the shadow words of group `g` into the live table. -/
def State.copyGroup (s : State) (g : Nat) : State :=
  let s := s.each 256 fun s j =>
    if s.shadowGroup j = g then
      let s := (List.range 4).foldl (fun s i =>
        s.setSram32 (liveBase + 32 * j + 4 * i) (s.sram32 (shadowBase + 16 * j + 4 * i))) s
      -- a poisoned shadow word stays poisoned in the live table (Table 17-1)
      (List.range 2).foldl (fun s i =>
        if s.poisoned (shadowBase + 16 * j + 8 * i) then
          { s.eccSeen (shadowBase + 16 * j + 8 * i) with poison := s.poison ++ [(liveBase + 32 * j + 8 * i) / 8] }
        else s) s
    else s
  ({ s with copies := s.copies.filter fun c => c.1 ≠ g }.showPending).geyStick F.GEY_STKY_GDONE 175

/-! ### PWM sync inputs (R267, R269) -/

/-- A firing edge or chain command for a repeating slot that still holds a commitment (R267, R268). -/
def State.overtaken (s : State) (j : Nat) : State :=
  ((s.updSlot j fun v => { v with miss := true }).bump F.GEY_MISSCNT_COUNT).geyStick F.GEY_STKY_MISSED 168

/-- A firing of the entry before a change, at `tf`: it takes place where that lies before the new entry acts (R273). -/
def State.oldFire (s : State) (j tf kind : Nat) (w : List Nat) : State :=
  let v := s.slot! j
  match v.armAt with
  | some a =>
    if 0 ≤ tdiff tf a then s
    else if v.keep.isSome then s.overtaken j
    else s.updSlot j fun v => { v with keep := some { at' := tf, kind := kind, words := some w } }
  | none => s

/-- The instant lies before the one from which the slot's entry acts. -/
def SlotSt.early (v : SlotSt) (t : Nat) : Bool :=
  match v.armAt with | some a => tdiff t a < 0 | none => false

/-- The firing instant of an edge at `t` (R267). -/
def State.edgeFires (s : State) (w : List Nat) (p t : Nat) : Nat :=
  tadd t (max (40 * lget w 1) ((s.g F.GEY_PWMS_CFG_FILT p + 8) * 160) : Nat)

/-- A qualifying edge at instant `t` for an EDGE slot. -/
def State.slotEdge (s : State) (j p t : Nat) : State :=
  let v := s.slot! j
  if v.st = gArmed || (v.st = gComm && s.slotRepeat j) then
    let n := bitsOf (s.live j 2) 8 8 + 1
    let c := v.edges + 1
    let s := s.setSlot j { v with edges := c % n }
    if c % n ≠ 0 then s
    else if v.st = gComm then s.overtaken j
    else s.commitSlot j (s.edgeFires (s.entry j) p t) 0
  else s

/-- The same for an edge before a changed entry acts: the old entry counts it. -/
def State.oldEdge (s : State) (j p t : Nat) (w : List Nat) (e : Nat) : State :=
  let n := bitsOf (lget w 2) 8 8 + 1
  let c := e + 1
  let go := c % n ≠ 0 || bitOf (lget w 0) 4
  let s := s.updSlot j fun v => { v with old := if go then some (w, c % n) else none }
  if c % n ≠ 0 then s else s.oldFire j (s.edgeFires w p t) 0 w

/-- The words of an EDGE slot name the edge: input and direction (R267). -/
def edgeNamed (w : List Nat) (p : Nat) (level : Bool) : Bool :=
  bitsOf (lget w 0) 0 3 = 4 && lget w 2 % 4 = p && bitOf (bitsOf (lget w 0) 8 2) (if level then 0 else 1)

/-- An edge at `t` for slot `j`, under the entry that acts then. -/
def State.edgeFor (s : State) (j p t : Nat) (level : Bool) : State :=
  let v := s.slot! j
  if v.early t then
    match v.old with
    | some (w, e) => if edgeNamed w p level then s.oldEdge j p t w e else s
    | none => s
  else if edgeNamed (s.entry j) p level then s.slotEdge j p t else s

/-- The edge filter of an input that delivers edges lets a change through that holds for `FILT` cycles (R269, R211). -/
def State.pwmsPasses (s : State) (p held : Nat) : Bool := !s.gb F.GEY_PWMS_CFG_EN p || s.g F.GEY_PWMS_CFG_FILT p ≤ held

def doPwmsEdge (p : Nat) (level : Bool) (sub held : Nat) (s : State) : State :=
  let u := vget s.pwms p
  if u.lvl = level || !s.pwmsPasses p held then s
  else
    let t := round40 (tadd s.now sub)
    let s := { s with t := t, pwms := vupd s.pwms p fun u => { u with lvl := level } }
    if !s.gb F.GEY_PWMS_CFG_EN p then s
    else
      let s :=
        if level then
          let s := match u.rise with
            | some r => s.w F.GEY_PWMS_PER_PER p (satU 24 (tdiff t r / 40))
            | none => s
          let s := (s.w F.GEY_PWMS_TS_TS32 p (ts32 t)).w F.GEY_PWMS_PER_LOST p 0
          { s with pwms := vupd s.pwms p fun u => { u with rise := some t, base := t } }
        else s
      if !s.gb F.GEY_CFG_EN then s
      else s.slots.foldl (fun s e => s.edgeFor e.1 p t level) s

/-- R269: a change of the synchronized level of a PWM sync input, at the ball `sub` units after the newest sample, that holds
for some cycles; the edge filter decides whether it is an edge. -/
def execPwmsEdge (p : Fin 4) (line : LineIn) (sub : Nat) (s : State) : Host.Outcome State Fault Refusal :=
  .next (doPwmsEdge p line.level sub line.held s)

def doPwmsLost (p : Nat) (s : State) : State :=
  let limit := s.g F.GEY_PWMS_CFG_TO p
  let t := tadd (vget s.pwms p).base (limit * usU)
  if s.gb F.GEY_PWMS_CFG_EN p && limit ≠ 0 && tdiff t (tadd s.now sampleU) ≤ 0 then
    ({ s with t := t }.w F.GEY_PWMS_PER_LOST p 1).stickBits F.GEY_STKY_PWMS_LOST 0 (2 ^ p) 173
  else s

/-- R269: no rising edge for `TO` µs. -/
def execPwmsLost (p : Fin 4) (s : State) : Host.Outcome State Fault Refusal := .next (doPwmsLost p s)

/-- An applied change of `EN` or `TO` of an input. -/
def State.pwmsApply (s : State) (p : Nat) (en : Bool) : State :=
  let on := s.gb F.GEY_PWMS_CFG_EN p
  let s := { s with pwms := vupd s.pwms p fun u => { u with base := s.t, rise := if on && !en then none else u.rise } }
  if on && s.g F.GEY_PWMS_CFG_TO p ≠ 0 then s else s.w F.GEY_PWMS_PER_LOST p 0

/-! ### Chain commands (R268) -/

/-- The words of a CHAIN slot carry the code. -/
def codeNamed (w : List Nat) (c : Nat) : Bool := bitsOf (lget w 0) 0 3 = 5 && lget w 2 % 256 = c

/-- A chain command with code `c` for slot `j`, at s.t under the entry that acts then: it fires at the instant `t` it names
plus DELAY, or is missed (R268, R434). -/
def State.chainFor (s : State) (j c t : Nat) (miss : Bool) : State :=
  let v := s.slot! j
  let fires (w : List Nat) : Nat := round40 (tadd t (40 * lget w 1))
  let te := tadd s.now sampleU
  if v.early s.t then
    match v.old with
    | some (w, _) =>
      if !codeNamed w c then s
      else
        let s := if bitOf (lget w 0) 4 then s else s.updSlot j fun v => { v with old := none }
        if !miss then s.oldFire j (fires w) 0 w
        else
          let s := s.overtaken j
          if bitOf (lget w 0) 7 then s.oldFire j te 2 w else s
    | none => s
  else if codeNamed (s.entry j) c && (v.st = gArmed || (v.st = gComm && s.slotRepeat j)) then
    if v.st = gComm then s.overtaken j
    else if miss then s.missed j te
    else s.commitSlot j (fires (s.entry j)) 0
  else s

/-- A chain command with code `c` that names the instant `t`; `miss`: it came too late or too early (R434). -/
def State.geyChain (s : State) (c t : Nat) (miss : Bool) : State :=
  if !s.gb F.GEY_CFG_EN then s else s.slots.foldl (fun s e => s.chainFor e.1 c t miss) s

/-! ### GTRIG outputs (R271) -/

/-- The output's level is driven now: `EN`, and not held off by the twin role. -/
def State.gtDriven (s : State) (o : Nat) : Bool := s.gb F.GEY_GT_EN o && s.geyDrv

/-- A firing on an output at instant `t`. -/
def State.gtPulse (s : State) (o t : Nat) : State :=
  if !s.gtDriven o then s
  else
    let u := vget s.gt o
    let joined : Bool := match u.low.or u.high with | some h => tdiff t h < 5 * nsU | none => false
    let e := tadd t (s.g F.GEY_GT_PW o * 160)
    let s := { s with gt := vupd s.gt o fun u => { u with low := some e } }
    if joined then s
    else
      -- a pulse that was over is shown to end first
      let s := match u.low with | some h => s.emit (.ball "GTRIG" (2 * o + 1) h) | none => s
      s.emit (.ball "GTRIG" (2 * o) t)

/-! ### The Angle Stream (R276 to R278) -/

/-- The lanes are driven. -/
def State.driving (s : State) : Bool := s.stream.drive.isSome

/-- Shows the queue and the drive. -/
def State.showStream (s : State) : State :=
  (s.w F.GEY_ASSTAT_LEVEL 0 s.stream.q.length).wb F.GEY_ASSTAT_ACT 0 s.driving

/-- Starts or ends driving as `AS_EN` and the role say. -/
def State.streamDrive (s : State) : State :=
  let on := s.gb F.GEY_CFG_AS_EN && s.geyDrv && !s.standby
  (if on && !s.driving then { s with stream := { drive := some s.t } }
    else if !on && s.driving then { s with stream := {} }
    else s).showStream

/-- A record with its CRC. -/
def streamRec (bs : List Byte) : List Byte := bs ++ leBytes 1 (crc8 bs)

/-- Drops the first SAMPLE record of a queue. -/
def dropSample : List (Nat × List Byte) → List (Nat × List Byte)
  | [] => []
  | r :: q => if r.1 = 2 then q else r :: dropSample q

/-- The queue of the stream is `q`. -/
def State.setQueue (s : State) (q : List (Nat × List Byte)) : State :=
  { s with stream := { s.stream with q := q } }.showStream

/-- A record arrives at the queue (R278): class and 15 bytes. -/
def State.streamPut (s : State) (cls : Nat) (bs : List Byte) : State :=
  if !s.driving then s
  else
    let r := (cls, streamRec bs)
    let q := s.stream.q
    if q.length < 64 then s.setQueue (q ++ [r])
    else
      let s := (s.bump F.GEY_ASDROP_COUNT).geyStick F.GEY_STKY_STRM_DROP 172
      if q.any fun x => x.1 = 2 then s.setQueue (dropSample q ++ [r]) else s

/-- The TIME record of Table 9-7, without its CRC. -/
def State.streamTime (s : State) : List Byte :=
  leBytes 1 0x20 ++ leBytes 1 (3 + 32 * b2n s.holdover + 128 * b2n s.era) ++ leBytes 4 (s.now / 2 ^ 32) ++
    leBytes 4 (s.g F.CHN_STAT_UN) ++ leBytes 4 (ts32 s.now) ++ leBytes 1 (s.epochOf Group.gey.source)

/-- The SAMPLE and TIME records of a sample with index `k` (Table 9-6). -/
def State.streamSample (s : State) (k : Nat) : State :=
  let s := s.each 16 fun s n =>
    let d := s.g F.GEY_ASP_SDIV n
    if d ≠ 0 && k % d = 0 then
      let te := tadd s.now sampleU
      let (α, w, _, p, st) := s.angleAt n (s.g F.GEY_ASP_ASEL n) te
      s.streamPut 2 (leBytes 1 (16 + n) ++ leBytes 1 st ++ leBytes 4 α ++ leBytes 4 (vel1616 w p) ++ leBytes 4 (ts32 te) ++
        leBytes 1 (s.epochOf n))
    else s
  if k % 5000 = 0 then s.streamPut 1 s.streamTime else s

def doStreamStart (s : State) : State :=
  match s.stream.drive with
  | some t0 =>
    if !s.stream.began && 2 * usU ≤ tdiff s.now t0 then
      { s with t := s.now, stream := { s.stream with began := true, busy := tadd s.now 14400 } }.emit
        (.stream (streamRec s.streamTime))
    else s
  | none => s

/-- R276: at the first sample at least 2 µs after driving starts, the first TIME record is sent. -/
def execStreamStart (s : State) : Host.Outcome State Fault Refusal := .next (doStreamStart s)

/-- The first record of the best class, and the queue without it. -/
def takeClass (cls : Nat) : List (Nat × List Byte) → Option (List Byte × List (Nat × List Byte))
  | [] => none
  | r :: q =>
    if r.1 = cls then some (r.2, q)
    else match takeClass cls q with
      | some (b, q') => some (b, r :: q')
      | none => none

def doStreamRecordSend (s : State) : State :=
  let q := s.stream.q
  if !s.stream.began || 0 < tdiff s.stream.busy (tadd s.now sampleU) then s
  else match (takeClass 0 q).orElse fun _ => (takeClass 1 q).orElse fun _ => takeClass 2 q with
    | some (b, q') =>
      let t := if tdiff s.stream.busy s.now < 0 then s.now else s.stream.busy
      ({ s with t := t, stream := { s.stream with q := q', busy := tadd t 14400 } }.emit (.stream b)).showStream
    | none => s

/-- R276, R278: the next record goes out once the lanes are free: FIRE before TIME before SAMPLE. -/
def execStreamRecordSend (s : State) : Host.Outcome State Fault Refusal := .next (doStreamRecordSend s)

/-! ### Registers read as views -/

/-- The word of `GEY_STAT`. -/
def State.geyStat (s : State) : Nat :=
  let n (p : SlotSt → Bool) : Nat := (s.slots.filter fun e => p e.2).length
  n (fun v => v.st = gArmed || v.st = gComm || v.st = gPass || v.st = gHeld) + 65536 * n (fun v => v.st = gComm)

/-- The group `GEY_SST` to `GEY_STGT` of the selected slot. -/
def State.geyGroup (s : State) : List Nat :=
  let j := s.g F.GEY_SSEL_SLOT
  let v := s.slot! j
  let lock := s.slotKind j = 1 && v.st = gComm && s.locked v
  let ft := match v.st, v.com, v.pred with
    | 2, some c, _ => c.at'
    | 1, _, some t => t
    | _, _, _ => v.fired
  [v.st + 8 * b2n v.pred.isSome + 16 * b2n lock + 32 * b2n v.late + 64 * b2n v.miss + 256 * j +
      65536 * s.epochOf Group.gey.source,
    ft % 2 ^ 32, ft / 2 ^ 32, v.cnt, if s.slotKind j = 1 then v.tgt else 0]

end Sys2Proof.Machine
end

