-- ==== Sys2Proof/Machine/Flags.lean ====
section
/-! DEFINITION. The flags of the Vent instructions (Table 10-5): Z, N, C and V of a result, and their places among the six
flag bits of `VNTe_STAT.FLAGS`: Z, N, C, V, T, S from bit 0 up. -/

namespace Sys2Proof.Machine

/-- The flags of an engine. -/
structure Flags where
  z : Bool := false
  n : Bool := false
  c : Bool := false
  v : Bool := false
  t : Bool := false
  s : Bool := false
deriving DecidableEq, Repr, Inhabited

/-- The flags held in six bits. -/
def Flags.ofBits (b : Nat) : Flags :=
  { z := b.testBit 0, n := b.testBit 1, c := b.testBit 2, v := b.testBit 3, t := b.testBit 4, s := b.testBit 5 }

/-- Six bits of flags. -/
def Flags.bits (f : Flags) : Nat :=
  f.z.toNat + 2 * f.n.toNat + 4 * f.c.toNat + 8 * f.v.toNat + 16 * f.t.toNat + 32 * f.s.toNat

/-- Z and N of a result; the others unchanged. -/
def Flags.result (f : Flags) (r : Word) : Flags := { f with z := r == 0, n := r.msb }

/-- Z, N, C and V of a + b: C the carry out of bit 31, V signed overflow. -/
def Flags.add (f : Flags) (a b : Word) : Flags :=
  { f.result (a + b) with c := decide (2 ^ 32 ≤ a.toNat + b.toNat),
                          v := decide ((a + b).toInt ≠ a.toInt + b.toInt) }

/-- Z, N, C and V of a − b: C when a is below b unsigned, V signed overflow. -/
def Flags.sub (f : Flags) (a b : Word) : Flags :=
  { f.result (a - b) with c := decide (a.toNat < b.toNat), v := decide ((a - b).toInt ≠ a.toInt - b.toInt) }

end Sys2Proof.Machine
end

