-- ==== Sys2Proof/Machine/Operands.lean ====
section
/-! DEFINITION. The operand forms of the Vent instructions (R289) and what its arithmetic computes (Table 10-5): a source
is a register or a 16-bit immediate, sign-extended for MOV, ADD, SUB and CMP, zero-extended for the others. -/

namespace Sys2Proof.Machine

/-- A source operand over the registers, its immediate sign-extended. -/
def VSrc.signed (src : VSrc) (w : BitVec 3 → Word) : Word :=
  match src with
  | .reg r => w r
  | .imm v => v.signExtend 32

/-- A source operand over the registers, its immediate zero-extended. -/
def VSrc.plain (src : VSrc) (w : BitVec 3 → Word) : Word :=
  match src with
  | .reg r => w r
  | .imm v => v.zeroExtend 32

/-- The source operand of an operation of format A. -/
def AluOp.source (op : AluOp) (src : VSrc) (w : BitVec 3 → Word) : Word :=
  match op with
  | .add | .sub => VSrc.signed src w
  | .and | .or | .xor | .shl | .shr | .sar => VSrc.plain src w

/-- The result of an operation of format A; shifts take bits 4:0 of the source. -/
def AluOp.result (op : AluOp) (a b : Word) : Word :=
  match op with
  | .add => a + b
  | .sub => a - b
  | .and => a &&& b
  | .or => a ||| b
  | .xor => a ^^^ b
  | .shl => a <<< (b.toNat % 32)
  | .shr => a >>> (b.toNat % 32)
  | .sar => a.sshiftRight (b.toNat % 32)

/-- The flags after an operation of format A. -/
def AluOp.flags (op : AluOp) (f : Flags) (a b : Word) : Flags :=
  match op with
  | .add => f.add a b
  | .sub => f.sub a b
  | .and | .or | .xor | .shl | .shr | .sar => f.result (AluOp.result op a b)

/-- Whether a condition of Table 10-6 holds. -/
def Cond.holds (c : Cond) (f : Flags) : Bool :=
  match c with
  | .al => true
  | .eq => f.z
  | .ne => !f.z
  | .lt => f.n != f.v
  | .ge => f.n == f.v
  | .lo => f.c
  | .hs => !f.c
  | .ts => f.t
  | .tc => !f.t
  | .ss => f.s
  | .sc => !f.s

end Sys2Proof.Machine
end

