-- ==== Sys2Proof/Machine/Vent.lean ====
section
/-! DEFINITION. The Vent sequencers (chapter 10): starts, the issue of an instruction, arithmetic, branches, waits, posts,
the end of an activation, faults, host commands, program memory. The windows and the site verbs are in VentSite.lean. -/

namespace Sys2Proof.Machine

/-! ### Engines -/

abbrev vOff : Nat := 0
abbrev vIdle : Nat := 1
abbrev vRun : Nat := 2
abbrev vWait : Nat := 3
abbrev vFault : Nat := 4

abbrev ventBase : Nat := 0x108000
abbrev ventData : Nat := 0x10F000

def State.vnt! (s : State) (e : Nat) : VntSt := vget s.vnt e
def State.updVnt (s : State) (e : Nat) (f : VntSt → VntSt) : State := { s with vnt := vupd s.vnt e f }
def State.vst (s : State) (e : Nat) : Nat := s.g F.VNT_STAT_STATE e
def State.setVst (s : State) (e c : Nat) : State := s.w F.VNT_STAT_STATE e c

/-- Working register `r`, and its write. -/
def State.vreg (s : State) (e : Nat) (r : BitVec 3) : Word := BitVec.ofNat 32 (s.g (F.VNT_W_W r.toNat) e)
def State.setVreg (s : State) (e : Nat) (r : BitVec 3) (v : Word) : State := s.w (F.VNT_W_W r.toNat) e v.toNat
def State.vflags (s : State) (e : Nat) : Flags := Flags.ofBits (s.g F.VNT_STAT_FLAGS e)
def State.setVflags (s : State) (e : Nat) (f : Flags) : State := s.w F.VNT_STAT_FLAGS e f.bits
def State.setT (s : State) (e : Nat) (b : Bool) : State := s.setVflags e { s.vflags e with t := b }

/-- The program word at the engine's PC. -/
def State.ventWord (s : State) (e : Nat) : Word :=
  BitVec.ofNat 32 (s.sram32 (ventBase + 4096 * e + 4 * s.g F.VNT_STAT_PC e))

/-- Sets a bit of `VNTe_STKY` with event 184 + e (R306). -/
def State.ventStick (s : State) (e : Nat) (f : Fld) : State := s.stickEv f e (184 + e)

/-- The site of an engine: 0 Geyser, 1 excitation, 2 CAN0, 3 CAN1 (Table 10-1). -/
def ventSite (e : Nat) : Nat := if e < 4 then 0 else e - 3

/-! ### Starts (R284 to R288) -/

/-- The registers and the engine of an activation that begins at instant `t` (R285, R288). -/
def State.ventLoads (s : State) (e : Nat) (b : VStart) (t : Nat) : State :=
  let s := (s.setVst e vRun).setVreg e 0 (BitVec.ofNat 32 b.arg)
  let s := (s.w F.VNT_STAT_PC e b.entry).w F.VNT_STAT_FLAGS e 0
  s.updVnt e fun v =>
    { v with due := tadd t (5 * nsU), start := b, budget := s.g F.VNT_LIM_BUDGET e, wait := none, waitEv := none,
             met := none }

/-- An activation begins at instant `t`. -/
def State.ventBegin (s : State) (e : Nat) (b : VStart) (t : Nat) : State :=
  ((s.ventLoads e b t).bump F.VNT_ACTCNT_COUNT e).updVnt e fun v => { v with acc := none }

/-- The rank of a start request among those of one cycle (R287): Geyser starts by slot, the host start, the period start. -/
def VStart.rank (b : VStart) : Nat := if b.src = 1 then b.slot else if b.src = 0 then 256 else 257

/-- The request that an earlier request of rank above `b`'s has met in the same 2.5 ns cycle comes after `b` (R287). -/
def displaces (b : VStart) (t : Nat) (old : VStart) (at' : Option Nat) : Bool :=
  match at' with
  | some u => u / 160 = t / 160 && b.rank < old.rank
  | none => false

/-- A refused start (R285): the sticky bits, and the result of a host start: 2 a start is pending, 3 OFF or FAULT. -/
def State.ventRefuse (s : State) (e : Nat) (b : VStart) (r : Nat) : State :=
  let s := s.ventStick e F.VNT_STKY_REFUSED
  if b.src = 1 then s.geyStick F.GEY_STKY_VBUSY 174 else s.w F.VNT_SRES_RES 0 r

/-- A period start that finds the engine busy is skipped (R286). -/
def State.ventSkip (s : State) (e : Nat) : State := (s.bump F.VNT_OVRCNT_COUNT e).ventStick e F.VNT_STKY_OVRUN

/-- A request to an engine in RUN or WAIT: held pending, or refused; a pending one of the same cycle that ranks behind it
gives way (R285, R287). -/
def State.ventHold (s : State) (e : Nat) (b : VStart) : State :=
  let v := s.vnt! e
  let put (s : State) : State :=
    let s := (s.updVnt e fun v => { v with pend := some b, pacc := some s.t }).w F.VNT_STAT_PEND e 1
    if b.src = 0 then s.w F.VNT_SRES_RES 0 1 else s
  match v.pend with
  | none => put s
  | some p => if displaces b s.t p v.pacc then (put s).ventRefuse e p 2 else s.ventRefuse e b 2

/-- A host or Geyser start request (R285, R287). -/
def State.ventStart (s : State) (e : Nat) (b : VStart) : State :=
  let c := s.vst e
  let v := s.vnt! e
  let accept (s : State) : State :=
    let s := s.updVnt e fun v => { v with acc := some s.t }
    if b.src = 0 then s.w F.VNT_SRES_RES 0 0 else s
  if c = vIdle then accept (s.ventBegin e b s.t)
  else if c = vRun || c = vWait then
    if c = vRun && displaces b s.t v.start v.acc then
      let s := accept (s.ventLoads e b s.t)
      if v.start.src = 2 then s.ventSkip e else s.ventHold e v.start
    else s.ventHold e b
  else s.ventRefuse e b 3

/-- The VENT action of a slot (Table 9-5). -/
def State.ventSlot (s : State) (e slot entry t : Nat) : State :=
  { s with t := t }.ventStart e { src := 1, slot := slot, arg := slot, entry := entry, t0 := t }

/-- A write of `VNT_START`; its result is in `VNT_SRES`. -/
def State.ventHost (s : State) (v : Nat) : State :=
  let e := v % 8
  if e = 7 then s else s.ventStart e { arg := s.g F.VNT_SARG_ARG, entry := bitsOf v 4 10, t0 := s.t }

def execVentHostStart (src : Src) (value : Word) (s : State) : Host.Outcome State Fault Refusal :=
  .next (s.via src 0xE000 fun s => s.ventHost value.toNat)

/-- The next instant of the period timer at or after the newest sample (R286). -/
def State.ventPeriodAt (s : State) (e : Nat) : Nat :=
  gridAt s.now (s.g F.VNT_PER_PER_US e * usU)

def doVentPeriodStart (e : Nat) (s : State) : State :=
  let t := s.ventPeriodAt e
  if s.g F.VNT_PER_PER_US e ≠ 0 && tdiff t (tadd s.now sampleU) < 0 && (s.vnt! e).per ≠ some t then
    let s := { s with t := t }.updVnt e fun v => { v with per := some t }
    if s.vst e = vIdle then
      (s.ventBegin e { src := 2, entry := s.g F.VNT_CFG_PENTRY e, t0 := t } t).updVnt e fun v => { v with acc := some t }
    else s.ventSkip e
  else s

/-- R286: STIME is a multiple of the period: a start, or a skipped one. -/
def execVentPeriodStart (e : Fin 7) (s : State) : Host.Outcome State Fault Refusal := .next (doVentPeriodStart e s)

/-! ### Issue and faults (R290, R296, R304) -/

/-- A fault of Table 10-12. -/
def State.ventFault (s : State) (e : Nat) (f : Fld) : State :=
  let s := ((s.w F.VNT_FPC_PC e (s.g F.VNT_STAT_PC e)).w F.VNT_FINS_INS e (s.ventWord e).toNat).setVst e vFault
  let s := (s.updVnt e fun v => { v with pend := none, wait := none, waitEv := none, met := none }).w F.VNT_STAT_PEND e 0
  let s := if f.lo = 0 then s.bump F.VNT_BUDCNT_COUNT e else s
  s.ventStick e f

/-- The engine goes on with the next instruction at instant `t`; beyond word 1023 it faults, at the instant at which the
instruction completes (R290). -/
def State.ventNext (s : State) (e t : Nat) : State :=
  let pc := s.g F.VNT_STAT_PC e
  if pc = 1023 then { s with t := t }.ventFault e F.VNT_STKY_PCOUT
  else (s.w F.VNT_STAT_PC e (pc + 1)).updVnt e fun v => { v with due := t }

/-- The instant `n` cycles of 2.5 ns after the issue under way. -/
def State.cycles (s : State) (n : Nat) : Nat := tadd s.t (n * 160)

/-- The fetch of an uncorrectable program word (R304, R485). -/
def State.ventEcc (s : State) (e : Nat) : State :=
  (s.eccSeen (ventBase + 4096 * e + 4 * s.g F.VNT_STAT_PC e)).ventFault e F.VNT_STKY_ECC

/-- Issues the instruction at the PC of engine `e` where it is one of opcode `op` and its instant lies before the next
sample: with its budget, under the faults of fetch and decode; `k` is what it does. -/
def State.issue (s : State) (e : Nat) (op : Nat) (want : VInstr → Bool) (k : VInstr → State → State) : State :=
  let v := s.vnt! e
  let w := s.ventWord e
  if s.vst e ≠ vRun || 0 < tdiff v.due (tadd s.now sampleU) || vOpcode w ≠ op then s
  else
    let s' := { s with t := v.due }
    match ventDecode w with
    | none =>
      if s.poisoned (ventBase + 4096 * e + 4 * s.g F.VNT_STAT_PC e) then s'.ventEcc e
      else if v.budget = 0 then s'.ventFault e F.VNT_STKY_BUDGET else s'.ventFault e F.VNT_STKY_BADOP
    | some i =>
      if !want i then s
      else if s.poisoned (ventBase + 4096 * e + 4 * s.g F.VNT_STAT_PC e) then s'.ventEcc e
      else if v.budget = 0 then s'.ventFault e F.VNT_STKY_BUDGET
      else k i (s'.updVnt e fun v => { v with budget := v.budget - 1 })

/-- Every instruction of the opcode is meant. -/
def anyInstr (_ : VInstr) : Bool := true

/-! ### Moves and arithmetic (Table 10-5) -/

/-- MOV: rd takes the source; Z and N. -/
def ventMov (e : Nat) (i : VInstr) (s : State) : State :=
  match i with
  | .mov rd src =>
    let r := VSrc.signed src (s.vreg e)
    ((s.setVreg e rd r).setVflags e ((s.vflags e).result r)).ventNext e (s.cycles 1)
  | _ => s

def execMov (e : Fin 7) (s : State) : Host.Outcome State Fault Refusal :=
  .next (s.issue e 0x01 anyInstr (ventMov e))

/-- MOVH: the upper half of rd takes the immediate; Z and N. -/
def ventMovh (e : Nat) (i : VInstr) (s : State) : State :=
  match i with
  | .movh rd imm =>
    let r := (imm ++ (s.vreg e rd).extractLsb' 0 16 : BitVec 32)
    ((s.setVreg e rd r).setVflags e ((s.vflags e).result r)).ventNext e (s.cycles 1)
  | _ => s

def execMovh (e : Fin 7) (s : State) : Host.Outcome State Fault Refusal :=
  .next (s.issue e 0x02 anyInstr (ventMovh e))

/-- The operations that write rd from ra and the source, with their flags. -/
def ventAlu (e : Nat) (i : VInstr) (s : State) : State :=
  match i with
  | .alu op rd ra src =>
    let a := s.vreg e ra
    let b := AluOp.source op src (s.vreg e)
    ((s.setVreg e rd (AluOp.result op a b)).setVflags e (AluOp.flags op (s.vflags e) a b)).ventNext e (s.cycles 1)
  | _ => s

def execAdd (e : Fin 7) (s : State) : Host.Outcome State Fault Refusal := .next (s.issue e 0x03 anyInstr (ventAlu e))
def execSub (e : Fin 7) (s : State) : Host.Outcome State Fault Refusal := .next (s.issue e 0x04 anyInstr (ventAlu e))
def execAnd (e : Fin 7) (s : State) : Host.Outcome State Fault Refusal := .next (s.issue e 0x05 anyInstr (ventAlu e))
def execOr (e : Fin 7) (s : State) : Host.Outcome State Fault Refusal := .next (s.issue e 0x06 anyInstr (ventAlu e))
def execXor (e : Fin 7) (s : State) : Host.Outcome State Fault Refusal := .next (s.issue e 0x07 anyInstr (ventAlu e))
def execShl (e : Fin 7) (s : State) : Host.Outcome State Fault Refusal := .next (s.issue e 0x08 anyInstr (ventAlu e))
def execShr (e : Fin 7) (s : State) : Host.Outcome State Fault Refusal := .next (s.issue e 0x09 anyInstr (ventAlu e))
def execSar (e : Fin 7) (s : State) : Host.Outcome State Fault Refusal := .next (s.issue e 0x0A anyInstr (ventAlu e))

/-- CMP: the flags of ra − src. -/
def ventCmp (e : Nat) (i : VInstr) (s : State) : State :=
  match i with
  | .cmp ra src =>
    (s.setVflags e ((s.vflags e).sub (s.vreg e ra) (VSrc.signed src (s.vreg e)))).ventNext e (s.cycles 1)
  | _ => s

def execCmp (e : Fin 7) (s : State) : Host.Outcome State Fault Refusal := .next (s.issue e 0x0B anyInstr (ventCmp e))

/-- BR: the PC takes the target when the condition holds; 2 cycles taken, 1 not. -/
def ventBr (e : Nat) (i : VInstr) (s : State) : State :=
  match i with
  | .br c t =>
    if Cond.holds c (s.vflags e) then
      (s.w F.VNT_STAT_PC e t.toNat).updVnt e fun v => { v with due := s.cycles 2 }
    else s.ventNext e (s.cycles 1)
  | _ => s

def execBr (e : Fin 7) (s : State) : Host.Outcome State Fault Refusal := .next (s.issue e 0x10 anyInstr (ventBr e))

/-! ### Waits (R294, R295) -/

/-- A wait begins at the issue under way. -/
def State.ventWaits (s : State) (e : Nat) (w : VWait) (ev : Option Nat) : State :=
  (s.setVst e vWait).updVnt e fun v =>
    { v with wait := some w, issued := s.t, waitEv := ev, met := none, ψ := none }

/-- A wait ends: the instruction after it issues at `t`. -/
def State.ventResume (s : State) (e t : Nat) (tflag : Bool) : State :=
  let s := ((s.setT e tflag).setVst e vRun).updVnt e fun v => { v with wait := none, waitEv := none, met := none }
  s.ventNext e t

/-- The wait modes of Table 10-7. -/
def ventWait (e : Nat) (i : VInstr) (s : State) : State :=
  match i with
  | .wait m ra imm =>
    let a := (s.vreg e ra).toNat
    match m.toNat with
    | 0 => s.ventWaits e (.delay (tadd s.t (imm.toNat * 640))) none
    | 1 =>
      let t := tadd (s.vnt! e).start.t0 (a * nsU)
      if tdiff t s.t < 0 then s.ventResume e (tadd s.t (5 * nsU)) true else s.ventWaits e (.instant t) none
    | 2 =>
      let w := imm.toNat
      if bitsOf w 5 2 = 3 then s.ventFault e F.VNT_STKY_BADOP
      else s.ventWaits e (.angle a (w % 16) (bitOf w 4) (bitsOf w 5 2)) none
    | _ => s.ventWaits e (.event (imm.toNat % 256)) (some (imm.toNat % 256))
  | _ => s

/-- The instruction is a WAIT of mode `m`. -/
def isWait (m : Nat) (i : VInstr) : Bool :=
  match i with
  | .wait m' _ _ => m'.toNat = m
  | _ => false

def execWaitDelay (e : Fin 7) (s : State) : Host.Outcome State Fault Refusal :=
  .next (s.issue e 0x18 (isWait 0) (ventWait e))
def execWaitUntil (e : Fin 7) (s : State) : Host.Outcome State Fault Refusal :=
  .next (s.issue e 0x18 (isWait 1) (ventWait e))
def execWaitAngle (e : Fin 7) (s : State) : Host.Outcome State Fault Refusal :=
  .next (s.issue e 0x18 (isWait 2) (ventWait e))
def execWaitEvent (e : Fin 7) (s : State) : Host.Outcome State Fault Refusal :=
  .next (s.issue e 0x18 (isWait 3) (ventWait e))

/-- The instant at which a wait's condition is met, where it is known. -/
def State.ventMet (s : State) (e : Nat) : Option Nat :=
  let v := s.vnt! e
  match v.wait with
  | some (.delay t) => some t
  | some (.instant t) => some t
  | some _ => v.met
  | none => none

/-- `WMAX` after the issue. -/
def State.ventLimit (s : State) (e : Nat) : Nat := tadd (s.vnt! e).issued (s.g F.VNT_LIM_WMAX e * usU)

def doWaitEnd (e : Nat) (s : State) : State :=
  match s.ventMet e with
  | some t =>
    if s.vst e = vWait && tdiff t (s.ventLimit e) ≤ 0 && tdiff t (tadd s.now sampleU) ≤ 0 then
      let i := tadd (s.vnt! e).issued (5 * nsU)
      let n := tadd t 160
      { s with t := t }.ventResume e (if tdiff n i < 0 then i else n) false
    else s
  | none => s

/-- R294: the condition is met within `WMAX`; the next instruction issues 2.5 ns later, at least 5 ns after the WAIT. -/
def execWaitEnd (e : Fin 7) (s : State) : Host.Outcome State Fault Refusal := .next (doWaitEnd e s)

def doWaitto (e : Nat) (s : State) : State :=
  let l := s.ventLimit e
  let late : Bool := match s.ventMet e with
    | some t => decide (0 < tdiff t l)
    | none => true
  if s.vst e = vWait && late && tdiff l (tadd s.now sampleU) ≤ 0 then
    ({ s with t := l }.ventStick e F.VNT_STKY_WAITTO).ventResume e (tadd l 160) true
  else s

/-- R294: the condition was not met within `WMAX`. -/
def execWaitto (e : Fin 7) (s : State) : Host.Outcome State Fault Refusal := .next (doWaitto e s)

/-- The ANGLE and ZWAIT waits at a sample (R295, R301). -/
def State.ventSample (s : State) : State :=
  s.each 7 fun s e =>
    let v := s.vnt! e
    if v.met.isSome then s
    else match v.wait with
      | some (.angle a n rev asel) =>
        let te := tadd s.now sampleU
        let (ψ, _, _, _, st) := s.angleAt n asel te
        if !bitOf st 1 then s
        else
          let hit := match v.ψ with
            | some u => crossed (if rev then -1 else 1) a u ψ false
            | none => false
          s.updVnt e fun v => { v with ψ := some ψ, met := if hit then some te else none }
      | _ => s

/-- The zero-crossing waits, before the NCO of the port advances from the last sample: `t` is the crossing; a wait is met
at the first sample at or after it (R301). -/
def State.ventZero (s : State) (n : Nat) (t : Nat) : State :=
  if s.crossing n then
    { s with vnt := s.vnt.map fun v =>
        if v.wait = some (.zero n) && v.met.isNone && tdiff v.issued t ≤ 0 then { v with met := some (tadd s.now sampleU) }
        else v }
  else s

/-! ### Posts and the end of an activation -/

/-- POST (R297): a bit that changes raises event 191; every POST ends the waits on 191. -/
def ventPost (e : Nat) (i : VInstr) (s : State) : State :=
  match i with
  | .post n =>
    let v := s.g F.VNT_POST_POST
    let s := if v.testBit n.toNat then s.endWaits 191
      else (s.w F.VNT_POST_POST 0 (v ||| 2 ^ n.toNat)).raiseReg 191 0xE814
    s.ventNext e (s.cycles 1)
  | _ => s

def execPost (e : Fin 7) (s : State) : Host.Outcome State Fault Refusal := .next (s.issue e 0x19 anyInstr (ventPost e))

/-- HALT: the activation ends, and a pending start begins (R284, R285). -/
def ventHalt (e : Nat) (_ : VInstr) (s : State) : State :=
  match (s.vnt! e).pend with
  | some b => ((s.updVnt e fun v => { v with pend := none }).w F.VNT_STAT_PEND e 0).ventBegin e b s.t
  | none => s.setVst e vIdle

def execHalt (e : Fin 7) (s : State) : Host.Outcome State Fault Refusal := .next (s.issue e 0x1F anyInstr (ventHalt e))

/-! ### Host commands, enable, program memory -/

/-- Abandons the activation and the pending start (R284). -/
def State.ventAbandon (s : State) (e : Nat) (st : Nat) : State :=
  ((s.updVnt e fun v => { v with pend := none, wait := none, waitEv := none, met := none }).w F.VNT_STAT_PEND e 0).setVst e st

def State.ventClearW (s : State) (e : Nat) : State :=
  (List.range 7).foldl (fun s r => s.w (F.VNT_W_W (r + 1)) e 0) s

/-- `CLRF`: FAULT to IDLE. -/
def State.ventClrf (s : State) (e : Nat) : State := if s.vst e = vFault then s.setVst e vIdle else s

def execClrf (src : Src) (e : Fin 7) (s : State) : Host.Outcome State Fault Refusal := .next (s.via src 0xE000 fun s => s.ventClrf e)

/-- `STOP`: a running or waiting engine abandons its activation and its pending start. -/
def State.ventStop (s : State) (e : Nat) : State :=
  if s.vst e = vRun || s.vst e = vWait then s.ventAbandon e vIdle else s

def execStop (src : Src) (e : Fin 7) (s : State) : Host.Outcome State Fault Refusal := .next (s.via src 0xE000 fun s => s.ventStop e)

/-- `CLRW`: w1 to w7 to 0, outside RUN and WAIT. -/
def State.ventClrw (s : State) (e : Nat) : State :=
  if s.vst e = vRun || s.vst e = vWait then s else s.ventClearW e

def execClrw (src : Src) (e : Fin 7) (s : State) : Host.Outcome State Fault Refusal := .next (s.via src 0xE000 fun s => s.ventClrw e)

/-- `VNTe_CMD`. -/
def State.ventCommand (s : State) (e v : Nat) : State :=
  let s := if bitOf v 0 then s.ventClrf e else s
  let s := if bitOf v 1 then s.ventStop e else s
  if bitOf v 2 then s.ventClrw e else s

/-- `EN` and the device mode decide whether an engine is OFF (Table 10-2). -/
def State.ventEnable (s : State) (e : Nat) : State :=
  let on := s.gb F.VNT_CFG_EN e && s.inRun
  if on && s.vst e = vOff then (s.ventClearW e).setVst e vIdle
  else if !on && s.vst e ≠ vOff then s.ventAbandon e vOff
  else s

/-- A write of a word of the Vent region, and whether it was refused (R305). -/
def State.ventWrite (s : State) (word v : Nat) : State × Bool :=
  if word < 7168 then
    let c := s.vst (word / 1024)
    if c = vOff || c = vFault then
      (s.setSram32 (ventBase + 4 * word) v, false)
    else (s, true)
  else if word < 8064 then
    -- in one cycle the engine's store comes after this write (R299)
    let later := (s.vnt! ((word - 7168) / 128)).stAt.any fun (x : Nat × Nat) => x.1 = word && x.2 / 160 = s.t / 160
    if later then (s, false) else (s.setSram32 (ventBase + 4 * word) v, false)
  else (s, false)

/-- `VNT_LDATA`: the word goes in at once and the address advances. -/
def State.ventLdata (s : State) (v : Nat) : State :=
  let word := s.g F.VNT_LADDR_WORD
  let (s, busy) := s.ventWrite word v
  (s.w F.VNT_LADDR_RESULT 0 (b2n busy)).w F.VNT_LADDR_WORD 0 ((word + 1) % 8192)

def execVentProgramWrite (src : Src) (value : Word) (s : State) : Host.Outcome State Fault Refusal :=
  .next (s.via src 0xE000 fun s => s.ventLdata value.toNat)

/-- `VNT_XOVR` (R308). -/
def State.xovr (s : State) : Nat :=
  (List.range 16).foldl (fun m n =>
    m + 2 ^ n * b2n (s.exc! n).vFreq.isSome + 2 ^ (16 + n) * b2n (s.exc! n).vAmp.isSome) 0

end Sys2Proof.Machine
end

