-- ==== Sys2Proof/Machine/VentSite.lean ====
section
/-! DEFINITION. What the Vent sequencers reach (chapter 10): the windows of LD and ST, the verbs of ACT at the three sites,
illegal words, the end of a diagnostic injection. -/

namespace Sys2Proof.Machine

/-! ### Window addresses (R289, R298) -/

/-- The window address of format M: the offset, plus ra when X is 1, an unsigned sum. -/
def State.ventAddr (s : State) (e : Nat) (ra : BitVec 3) (x : Bool) (offset : BitVec 10) : Nat :=
  offset.toNat + (if x then (s.vreg e ra).toNat else 0)

/-- S for a status byte: VALID or FRESH is 0 (R292). -/
def stale (st : Nat) : Bool := !(bitOf st 0 && bitOf st 1)

/-- The words of the observer group of port `n` in the order of Table 10-8. -/
def State.ventObs (s : State) (n : Nat) : List Nat :=
  let g := s.obsGroup (s.engine n)
  [lget g 0, lget g 1, lget g 2, lget g 3, lget g 5, lget g 6, lget g 7, lget g 8]

/-- The status of word `i` of a group: `MSTATUS` for MANG, EANG and TURN, `STATUS` for the others. -/
def obsWordStatus (g : List Nat) (i : Nat) : Nat :=
  let p := lget g 6
  if i = 1 || i = 2 || i = 5 then bitsOf p 24 8 else bitsOf p 0 8

/-- `INJRES` (Table 10-10): RUN while the injection runs; then DONE, with PASS and the sample count (R302). -/
def State.injres (s : State) : Nat :=
  let r := if s.inj.run then 256 else 64 * b2n s.inj.done + 128 * b2n s.inj.pass + 65536 * (min s.inj.dec 255)
  s.inj.port + 16 * s.inj.kind + r

/-- The controller of a CAN-site engine. -/
def ventCtrl (e : Nat) : Nat := e - 5

/-- An LD of engine `e` at window address `a`: word, S, and the latches it takes; `none` where no table defines `a`. -/
def State.ventLoad (s : State) (e a : Nat) : Option (Nat × Bool × State) :=
  let v := s.vnt! e
  let c := ventCtrl e
  if a < 0x80 then
    let off := ventData + 512 * e + 4 * a
    some (s.sram32 off, s.poisoned off, s.eccSeen off)
  else if a = 0x80 then some (v.start.src + 256 * v.start.slot, false, s)
  else if a = 0x81 then some (v.start.arg, false, s)
  else if a = 0x82 then some (v.start.t0 % 2 ^ 32, false, s)
  else if a = 0x83 then some (v.start.t0 / 2 ^ 32, false, s)
  else if a = 0x84 then some (s.t % 2 ^ 32, false, s.updVnt e fun v => { v with hi := s.t / 2 ^ 32 })
  else if a = 0x85 then some (v.hi, false, s)
  else if a = 0x86 then some (v.budget, false, s)
  else if a = 0x87 then some (s.g F.GLB_EPOCH_EPOCH + 65536 * s.g F.CHN_STAT_UN, false, s)
  else if a < 0x100 then none
  else if a < 0x180 then
    let n := (a - 0x100) / 8
    let i := (a - 0x100) % 8
    if i = 0 then
      let g := s.ventObs n
      some (lget g 0, stale (obsWordStatus g 0),
        s.updVnt e fun v => { v with grp := (n, g) :: v.grp.filter fun (x : Nat × List Nat) => x.1 ≠ n })
    else
      let g := match v.grp.find? fun (x : Nat × List Nat) => x.1 = n with
        | some x => x.2
        | none => s.ventObs n
      some (lget g i, stale (obsWordStatus g i), s)
  else if ventSite e = 0 then
    if a < 0x184 then some (s.g F.GEY_PWMS_TS_TS32 (a - 0x180), false, s)
    else if a < 0x188 then some (s.regWord (F.GEY_PWMS_PER_PER.base + 4 * (a - 0x184)), false, s)
    else if a = 0x188 then some (s.g F.GEY_GPEND0_PEND, false, s)
    else if a = 0x189 then some (s.g F.GEY_GPEND1_PEND, false, s)
    else if a = 0x18A then some (s.geyStat, false, s)
    else none
  else if ventSite e = 1 then
    if a < 0x190 then some (s.effFreq (a - 0x180), false, s)
    else if a < 0x1A0 then some ((s.exc! (a - 0x190)).target, false, s)
    else if a < 0x1B0 then some (s.regWord (F.EXC_STAT_STATE.base + F.EXC_STAT_STATE.stride * (a - 0x1A0)), false, s)
    else if a < 0x1C0 then
      let n := a - 0x1B0
      let reg := F.EXC_PHEST_PH.base + F.EXC_PHEST_PH.stride * n
      let st := s.aged reg (s.g F.EXC_PHEST_STATUS n)
      some (s.regWord reg - s.g F.EXC_PHEST_STATUS n * 2 ^ F.EXC_PHEST_STATUS.lo + st * 2 ^ F.EXC_PHEST_STATUS.lo,
        stale st, s)
    else if a = 0x1C0 then some (s.injres, false, s)
    else none
  else if a < 0x190 then
    let k := v.sel
    some (s.objW c k (16 + (a - 0x180)), s.objKind c k = 2 && stale (bitsOf (s.ostatNow c k) 16 8), s)
  else if a = 0x190 then some (s.ostatNow c v.sel / 256 * 256 + v.sel, false, s)
  else if a = 0x191 then some (s.regWord (F.CAN_STAT_STATE.base + F.CAN_STAT_STATE.stride * c), false, s)
  else none

/-- A frequency or amplitude request of the excitation site (R301). -/
def State.ventRequest (s : State) (n kind v : Nat) : State × Bool :=
  let ok := s.resolver n && (if kind = 0 then 2000000 ≤ v && v ≤ 20000000 else 500 ≤ v && v ≤ 7500)
  if ok then ({ s with ventReq := s.ventReq ++ [(n, kind, v)] }, false) else (s, true)

/-- An ST of engine `e` at window address `a`: the state and T; `none` where the window faults. -/
def State.ventStore (s : State) (e a v : Nat) : Option (State × Bool) :=
  if a < 0x80 then
    some ((s.setSram32 (ventData + 512 * e + 4 * a) v).updVnt e fun v => { v with stAt := some (7168 + 128 * e + a, s.t) }, false)
  else if ventSite e = 1 && 0x180 ≤ a && a < 0x190 then some (s.ventRequest (a - 0x180) 0 v)
  else if ventSite e = 1 && 0x190 ≤ a && a < 0x1A0 then some (s.ventRequest (a - 0x190) 1 v)
  else if 5 ≤ e && 0x180 ≤ a && a < 0x190 then
    some (s.canDataWrite (ventCtrl e) (32 * (s.vnt! e).sel + 16 + (a - 0x180)) v)
  else none

/-- LD (R292). -/
def ventLd (e : Nat) (i : VInstr) (s : State) : State :=
  match i with
  | .ld rd ra x offset =>
    match s.ventLoad e (s.ventAddr e ra x offset) with
    | none => s.ventFault e F.VNT_STKY_ADDR
    | some (v, st, s) =>
      ((s.setVreg e rd (BitVec.ofNat 32 v)).setVflags e { s.vflags e with s := st }).ventNext e (s.cycles 3)
  | _ => s

def execLd (e : Fin 7) (s : State) : Host.Outcome State Fault Refusal := .next (s.issue e 0x14 anyInstr (ventLd e))

/-- ST (R293). -/
def ventSt (e : Nat) (i : VInstr) (s : State) : State :=
  match i with
  | .st rs ra x offset =>
    match s.ventStore e (s.ventAddr e ra x offset) (s.vreg e rs).toNat with
    | none => s.ventFault e F.VNT_STKY_ADDR
    | some (s, t) => (s.setT e t).ventNext e (s.cycles 2)
  | _ => s

def execSt (e : Fin 7) (s : State) : Host.Outcome State Fault Refusal := .next (s.issue e 0x15 anyInstr (ventSt e))

/-- The engine whose pending PULSE comes first before `lim`. -/
def State.nextPulse (s : State) (lim : Nat) : Option Nat :=
  (List.range 4).foldl (fun b e =>
    match (s.vnt! e).pulse with
    | none => b
    | some (_, t) =>
      if 0 ≤ tdiff t lim then b
      else match b with
        | some f => match (s.vnt! f).pulse with
          | some (_, u) => if tdiff t u < 0 then some e else b
          | none => some e
        | none => some e) none

/-- The PULSE verbs whose instants lie before `lim` act, in order of time (R300): they combine with the firings under R271. -/
def State.ventPulses (s : State) (lim : Nat) : State :=
  s.each 4 fun s _ =>
    match s.nextPulse lim with
    | some e =>
      let (m, t) := (s.vnt! e).pulse.getD (0, 0)
      (s.each 16 fun s o => if bitOf m o then s.gtPulse o t else s).updVnt e fun v => { v with pulse := none }
    | none => s

/-! ### Verbs (Tables 10-9 to 10-11) -/

/-- The verbs of a site. -/
def siteVerb (e v : Nat) : Bool :=
  if ventSite e = 0 then 1 ≤ v && v ≤ 6 else if ventSite e = 1 then 0x10 ≤ v && v ≤ 0x12 else 0x20 ≤ v && v ≤ 0x23

/-- The instruction is an ACT of verb `v`, and `v` one of the engine's site. -/
def isAct (e v : Nat) (i : VInstr) : Bool :=
  match i with
  | .act v' _ _ _ => v'.toNat = v && siteVerb e v
  | _ => false

/-- An ACT ends: T says whether it was refused; the next instruction two cycles later. -/
def State.actDone (s : State) (e : Nat) (refused : Bool) : State := (s.setT e refused).ventNext e (s.cycles 2)

/-- The shape of every ACT: the verb's operation on ra, rb and imm14 gives the state and whether it was refused. -/
def ventAct (e : Nat) (k : Nat → Nat → Nat → State → State × Bool) (i : VInstr) (s : State) : State :=
  match i with
  | .act _ ra rb imm =>
    let (s, r) := k (s.vreg e ra).toNat (s.vreg e rb).toNat imm.toNat s
    s.actDone e r
  | _ => s

/-- PULSE: a pulse of the outputs in ra[15:0] at t_0 + rb × 0.625 ns. -/
def actPulse (e ra rb _imm : Nat) (s : State) : State × Bool :=
  let t := tadd (s.vnt! e).start.t0 (rb * 40)
  let d := tdiff t s.t
  let s := s.ventPulses s.t
  if d < 50 * nsU || msU < d || (s.vnt! e).pulse.isSome then (s, true)
  else (s.updVnt e fun v => { v with pulse := some (ra % 65536, t) }, false)

def execActPulse (e : Fin 7) (s : State) : Host.Outcome State Fault Refusal :=
  .next (s.issue e 0x1C (isAct e 1) (ventAct e (actPulse e)))

/-- BLANK: a blanking window for the ports in ra[15:0], from t_0 + rb × 25 ns (rb signed) for imm[7:0] × 25 ns. -/
def actBlank (e ra rb imm : Nat) (s : State) : State × Bool :=
  let t := tadd (s.vnt! e).start.t0 (sgn 32 rb * 1600)
  let len := imm % 256
  if tdiff t s.t < -(100 * nsU : Int) || len = 0 then (s, true)
  else ({ s with blankWin := (ra % 65536, t, tadd t (len * 1600)) :: s.blankWin }, false)

def execActBlank (e : Fin 7) (s : State) : Host.Outcome State Fault Refusal :=
  .next (s.issue e 0x1C (isAct e 2) (ventAct e (actBlank e)))

/-- CANREQ: a transmit request on object imm[6:0] of controller imm[7]. -/
def actCanreq (_ra _rb imm : Nat) (s : State) : State × Bool :=
  let (s, ok) := s.canReq (bitsOf imm 7 1) (imm % 128) false
  (s, !ok)

def execActCanreq (e : Fin 7) (s : State) : Host.Outcome State Fault Refusal :=
  .next (s.issue e 0x1C (isAct e 3) (ventAct e actCanreq))

/-- ZEMU: a Z pulse on the encoder outputs in imm[7:0] (R244). -/
def actZemu (_ra _rb imm : Nat) (s : State) : State × Bool :=
  (s.each 8 fun s i => if bitOf imm i then s.emuFire i s.t else s, false)

def execActZemu (e : Fin 7) (s : State) : Host.Outcome State Fault Refusal :=
  .next (s.issue e 0x1C (isAct e 4) (ventAct e actZemu))

/-- GCOPY: a request for a copy of group imm[5:0] (R275). -/
def actGcopy (_ra _rb imm : Nat) (s : State) : State × Bool :=
  let (s, ok) := s.requestCopy (imm % 64)
  (s, !ok)

def execActGcopy (e : Fin 7) (s : State) : Host.Outcome State Fault Refusal :=
  .next (s.issue e 0x1C (isAct e 5) (ventAct e actGcopy))

/-- Sets a bit of `GEY_USTKY` with its event (Table 9-8). -/
def State.userEvent (s : State) (u : Nat) : State := s.stickBits F.GEY_USTKY_USER 0 (2 ^ u) (176 + u)

/-- UEVENT: sets `GEY_USTKY[imm[2:0]]`. -/
def actUevent (_ra _rb imm : Nat) (s : State) : State × Bool := (s.userEvent (imm % 8), false)

def execActUevent (e : Fin 7) (s : State) : Host.Outcome State Fault Refusal :=
  .next (s.issue e 0x1C (isAct e 6) (ventAct e actUevent))

/-- ZWAIT: a wait for the next NCO zero crossing of port ra; refused where the port's driver neither drives nor senses. -/
def ventZwait (e : Nat) (i : VInstr) (s : State) : State :=
  match i with
  | .act _ ra _ _ =>
    let n := (s.vreg e ra).toNat
    if n < 16 && (s.drives n || s.drv n = dSense) then s.ventWaits e (.zero n) none else s.actDone e true
  | _ => s

def execActZwait (e : Fin 7) (s : State) : Host.Outcome State Fault Refusal :=
  .next (s.issue e 0x1C (isAct e 0x10) (ventZwait e))

/-- A Vent override of the port is in effect, or asked for at the next sample. -/
def State.overridden (s : State) (n : Nat) : Bool :=
  let later := s.ventReq.foldl (fun (b : Bool) (r : Nat × Nat × Nat) =>
    if r.1 = n then decide (r.2.1 ≠ 2) else b) ((s.exc! n).vFreq.isSome || (s.exc! n).vAmp.isSome)
  later

/-- FREL: ends the override of port ra. -/
def actFrel (ra _rb _imm : Nat) (s : State) : State × Bool :=
  if ra < 16 && s.overridden ra then ({ s with ventReq := s.ventReq ++ [(ra, 2, 0)] }, false) else (s, true)

def execActFrel (e : Fin 7) (s : State) : Host.Outcome State Fault Refusal :=
  .next (s.issue e 0x1C (isAct e 0x11) (ventAct e actFrel))

/-- The requests of engine 4 at a sample (R301): a stored value is the port's effective one from here on; FREL brings back
the configured values. -/
def State.ventRequests (s : State) : State :=
  let q := s.ventReq
  q.foldl (fun s (r : Nat × Nat × Nat) =>
    let n := r.1
    if r.2.1 = 0 then (s.updExc n fun e => { e with vFreq := some r.2.2 }).requestFreq n r.2.2 false
    else if r.2.1 = 1 then (s.updExc n fun e => { e with vAmp := some r.2.2 }).requestAmp n r.2.2
    else
      let s := s.updExc n fun e => { e with vFreq := none, vAmp := none }
      (s.requestFreq n (s.effFreq n) false).requestAmp n (s.effAmp n)) { s with ventReq := [] }

/-! ### Diagnostic injection (R302) -/

/-- The check of `kind` on port `n` is armed, and its live bit. -/
def State.injCheck (s : State) (n kind : Nat) : Bool × Bool :=
  let m := s.engine n
  match kind with
  | 0 => (s.gb F.ACQ_STAT_ENV_ARM n, s.gb F.ACQ_STAT_ENV_LO n)
  | 1 => (s.gb F.ACQ_STAT_ENV_ARM n, s.gb F.OBS_STAT_LOS m)
  | _ => (s.ost m = oTrack, s.gb F.OBS_STAT_OVS m)

/-- INJ: a diagnostic injection on port ra of kind imm[1:0] for rb samples. -/
def actInj (ra rb imm : Nat) (s : State) : State × Bool :=
  let kind := imm % 4
  let (armed, live) := s.injCheck ra kind
  let u := SMap.get 0 s.injEnd ra
  let recent : Bool := u ≠ 0 && decide (tdiff s.t (u - 1) < 10 * msU)
  if 16 ≤ ra || rb = 0 || 250 < rb || s.inj.run || !armed || live || recent || kind = 3 then (s, true)
  else ({ s with inj := { run := true, port := ra, kind := kind, total := rb } }.noticeInj ra kind false, false)

def execActInj (e : Fin 7) (s : State) : Host.Outcome State Fault Refusal :=
  .next (s.issue e 0x1C (isAct e 0x12) (ventAct e actInj))

def doInjectionEnd (n : Nat) (s : State) : State :=
  if s.inj.run && s.inj.port = n && s.inj.total ≤ s.inj.smp then
    let t := tadd s.now sampleU
    ({ s with t := t, inj := { s.inj with run := false, done := true },
              injEnd := SMap.set 0 s.injEnd n (t + 1) } : State).wb F.SAF_NOTE_IPASS 0 s.inj.pass
  else s

/-- R302: the injection ends after its samples; `INJRES` shows DONE, and PASS where the check decided. -/
def execInjectionEnd (n : Fin 16) (s : State) : Host.Outcome State Fault Refusal := .next (doInjectionEnd n s)

/-! ### CAN site -/

/-- SEL: selects object imm[6:0]. -/
def actSel (e _ra _rb imm : Nat) (s : State) : State × Bool :=
  (s.updVnt e fun v => { v with sel := imm % 128 }, false)

def execActSel (e : Fin 7) (s : State) : Host.Outcome State Fault Refusal :=
  .next (s.issue e 0x1C (isAct e 0x20) (ventAct e (actSel e)))

/-- TXREQ: a transmit request on object imm[6:0]. -/
def actTxreq (e _ra _rb imm : Nat) (s : State) : State × Bool :=
  let (s, ok) := s.canReq (ventCtrl e) (imm % 128) false
  (s, !ok)

def execActTxreq (e : Fin 7) (s : State) : Host.Outcome State Fault Refusal :=
  .next (s.issue e 0x1C (isAct e 0x21) (ventAct e (actTxreq e)))

/-- CANCEL: a cancel request on object imm[6:0]. -/
def actCancel (e _ra _rb imm : Nat) (s : State) : State × Bool :=
  let (s, ok) := s.canCancel (ventCtrl e) (imm % 128) false
  (s, !ok)

def execActCancel (e : Fin 7) (s : State) : Host.Outcome State Fault Refusal :=
  .next (s.issue e 0x1C (isAct e 0x22) (ventAct e (actCancel e)))

/-- SAFETX: sends the next PDU of safe connection ra[7:0]. -/
def actSafetx (ra _rb _imm : Nat) (s : State) : State × Bool :=
  let (s, ok) := s.safeTx (ra % 256)
  (s, !ok)

def execActSafetx (e : Fin 7) (s : State) : Host.Outcome State Fault Refusal :=
  .next (s.issue e 0x1C (isAct e 0x23) (ventAct e actSafetx))

/-! ### Illegal words (R304) -/

/-- The word is illegal for the engine: no instruction, or an ACT whose verb its site lacks. -/
def ventIllegal (e : Nat) (w : Word) : Bool :=
  match ventDecode w with
  | none => true
  | some (.act v _ _ _) => !siteVerb e v.toNat
  | some _ => false

def doIllegalOpcode (e : Nat) (s : State) : State :=
  let v := s.vnt! e
  if s.vst e ≠ vRun || 0 < tdiff v.due (tadd s.now sampleU) || !ventIllegal e (s.ventWord e) then s
  else
    let s := { s with t := v.due }
    if s.poisoned (ventBase + 4096 * e + 4 * s.g F.VNT_STAT_PC e) then s.ventEcc e
    else if v.budget = 0 then s.ventFault e F.VNT_STKY_BUDGET
    else s.ventFault e F.VNT_STKY_BADOP

/-- R304: an illegal instruction word faults with BADOP. -/
def execIllegalOpcode (e : Fin 7) (s : State) : Host.Outcome State Fault Refusal := .next (doIllegalOpcode e s)

end Sys2Proof.Machine
end

