-- ==== Sys2Proof/Machine/Fire.lean ====
section
/-! DEFINITION. The firing of a Geyser slot (R260, R270, R537): what the slot's actions do at the firing instant. -/

namespace Sys2Proof.Machine

/-- The FIRE record of slot words `w` at instant `t`, without its CRC (Table 9-7). -/
def State.fireRec (s : State) (w : List Nat) (t : Nat) : List Byte :=
  let n := bitsOf (lget w 0) 12 4
  let (α, ω, _, p, st) := (s.stateAt n t).angleAt n (bitsOf (lget w 0) 10 2) t
  leBytes 1 ((8 + bitsOf (lget w 4) 24 3) * 16 + n) ++ leBytes 1 st ++ leBytes 4 α ++ leBytes 4 (vel1616 ω p) ++
    leBytes 4 (ts32 t) ++ leBytes 1 (s.epochOf Group.gey.source)

/-- The SNAP record: the observer group of R171 of the port, projected to `t` (Table 14-8). -/
def State.snapRec (s : State) (n slot t : Nat) : List Byte :=
  let u := s.stateAt n t
  let m := u.engine n
  let g := if u.ost m = oOff then u.obsGroup m else u.obsWords m t (u.obsStatus m t)
  header 4 n (lget g 7 % 256) (s.epochOf n) t ++ (g.map fun v => leBytes 4 v).flatten ++ leBytes 4 slot

/-- The blanking window of a firing: `BSTART` in 25 ns units, no earlier than −4. -/
def fireWindow (w5 t : Nat) : Nat × Nat × Nat :=
  let b := max (-4) (sgn 8 (bitsOf w5 24 8))
  let t0 := tadd t (b * 1600)
  (w5 % 65536, t0, tadd t0 (bitsOf w5 16 8 * 1600))

/-- A serial port whose frames the firings of slot `j` request (R223). -/
def State.fireSerial (s : State) (j t : Nat) : State :=
  s.each 16 fun s n =>
    if s.serial n && !s.standby && s.gb F.DFB_SREQ_TRIG n && s.g F.DFB_SREQ_SLOT n = j then
      s.updDfb n fun d => { d with req := some t }
    else s

/-- The actions of Table 9-5 for the words `w` of slot `j` at instant `t`, with the firing record and the count. -/
def State.fireActions (s : State) (j : Nat) (w : List Nat) (t : Nat) : State :=
  let w4 := lget w 4
  let w6 := lget w 6
  let n := bitsOf (lget w 0) 12 4
  let r := s.fireRec w t
  let s := (s.setSramBytes (firingBase + 16 * j) (streamRec r)).updSlot j fun v =>
    { v with cnt := (v.cnt + 1) % 2 ^ 32, fired := t }
  let s := if (s.slot! j).cnt = 0 then s.geyStick F.GEY_STKY_FWRAP 175 else s
  let s := (s.ventPulses t).each 16 fun s o => if bitOf w4 o then s.gtPulse o t else s
  let s := if bitOf w4 16 && bitsOf (lget w 5) 16 8 ≠ 0 then
      { s with blankWin := fireWindow (lget w 5) t :: s.blankWin } else s
  let s := if bitOf w4 17 then s.record (s.g F.HIF_ROUTE0_SNAP) (s.snapRec n j t) else s
  let s := if bitOf w4 18 then s.streamPut 0 r else s
  let s := if bitOf w4 19 then s.each 8 fun s i => if bitOf w6 i then s.emuFire i t else s else s
  let s := if bitOf w4 20 then (s.canReq (bitsOf w6 15 1) (bitsOf w6 8 7) false).1 else s
  let s := if bitOf w4 21 then s.ventSlot (bitsOf w6 16 2) j (bitsOf w6 18 10) t else s
  let s := if bitOf w4 22 then s.userEvent (bitsOf w4 28 3) else s
  s.fireSerial j t

/-- The pulse of output `o` ends where its end has come. -/
def State.gtEnd (s : State) (o : Nat) : State :=
  match (vget s.gt o).low with
  | some e =>
    if tdiff e (tadd s.now (2 * sampleU)) ≤ 0 then
      { s with t := e, gt := vupd s.gt o fun _ => { low := none, high := some e } }.emit (.ball "GTRIG" (2 * o + 1) e)
    else s
  | none => s

/-- A Vent pulse before the end may prolong the pulse (R300). -/
def doGtrigPulseEnd (o : Nat) (s : State) : State :=
  match (vget s.gt o).low with
  | some e => if tdiff e (tadd s.now (2 * sampleU)) ≤ 0 then (s.ventPulses e).gtEnd o else s
  | none => s

/-- R271: a pulse ends and the output returns high. -/
def execGtrigPulseEnd (o : Fin 16) (s : State) : Host.Outcome State Fault Refusal := .next (doGtrigPulseEnd o s)

/-- The instant lies before the end of the next sample period. -/
def State.fireDue (s : State) (t : Nat) : Bool := tdiff t (tadd s.now (2 * sampleU)) < 0

def doSlotFire (j : Nat) (s : State) : State :=
  let v := s.slot! j
  match v.keep with
  | some c =>
    if s.fireDue c.at' then
      ({ s with t := c.at' }.updSlot j fun v =>
        { v with keep := none, late := c.kind = 1, miss := c.kind = 2 }).fireActions j (c.words.getD []) c.at'
    else s
  | none =>
    match v.com with
    | some c =>
      if v.st = gComm && s.fireDue c.at' then
        let s := { s with t := c.at' }.updSlot j fun v => { v with late := c.kind = 1, miss := c.kind = 2 }
        let s := (s.fireActions j (s.entry j) c.at').consume j
        if s.slotKind j = 1 && tdiff c.at' (tadd s.now sampleU) < 0 then s.angleEval j else s
      else s
    | none => s

/-- R260, R270: a slot fires at its committed instant; a commitment kept from before a change of its entry fires under the
old entry (R273). An ANGLE slot that fired before the evaluation of the newest sample has it after the firing. -/
def execSlotFire (k : Fin 256) (s : State) : Host.Outcome State Fault Refusal := .next (doSlotFire k s)

end Sys2Proof.Machine
end

