-- ==== Sys2Proof/Machine/Chain.lean ====
section
/-! DEFINITION. The sync chain (chapter 15): frames and their repetition, unit numbers, hop delays, the correction of STIME,
holdover, chain commands, the synchronising reset. -/

namespace Sys2Proof.Machine

/-! ### Flags of `GLB_STATUS` -/

/-- HOLDOVER and ERA take new values at the instant of the step; the change is kept for values dated before it. -/
def State.setFlags (s : State) (hold era : Bool) : State :=
  if s.holdover = hold && s.era = era then s
  else
    let old := b2n s.holdover + 2 * b2n s.era
    (({ s with flagHist := (s.t, old) :: s.flagHist } : State).wb F.GLB_STATUS_HOLDOVER 0 hold).wb F.GLB_STATUS_ERA 0 era

/-! ### Frames -/

def State.updChn (s : State) (f : ChnSt → ChnSt) : State := { s with chn := f s.chn }

/-- The chain is used, from bring-up step 8 on; the unit is its head (R425). -/
def State.chnOn (s : State) : Bool := s.gb F.CHN_CFG_EN && s.released 8
def State.chnHead (s : State) : Bool := s.chnOn && s.gb F.CHN_CFG_HEAD

/-- A bit of `CHN_STKY` with its event (Table 15-4). -/
def State.chnStick (s : State) (f : Fld) : State := s.stickEv f 0 (if f.lo < 5 then 240 else 241)

/-- Bytes `i` to `i + len − 1` of a frame as a number. -/
def frameNum (b : List Byte) (i len : Nat) : Nat := leNat ((b.drop i).take len)

/-- A frame on the wire: 18 characters of 10 bits at 250 Mb/s. -/
abbrev chainFrameU : Nat := 720 * nsU

/-- Sends a frame whose start character leaves at `t` (R423). -/
def State.chnEmit (s : State) (t : Nat) (b : List Byte) : State :=
  (s.emit (.chain (streamRec (padTo 16 b)))).updChn fun c => { c with busy := tadd t chainFrameU }

/-- The instant at which a frame of its own may be inserted (R424). -/
def State.chnSlot (s : State) : Nat := if tdiff s.chn.busy s.t < 0 then s.t else s.chn.busy

/-- Sends a frame of its own at the next place between repeated frames (R424). -/
def State.chnOwn (s : State) (b : List Byte) : State :=
  let t := s.chnSlot
  (s.updChn fun c => { c with ins := t }).chnEmit t b

/-- In Dormant mode the chain block only repeats frames, if its clock qualifies (R464). -/
def State.chnRepeats (s : State) : Bool := s.g F.GLB_STATUS_MODE = 2 && s.gb F.RST_STAT_CLKQ && s.gb F.CHN_CFG_EN

/-- Repeats a received frame with the forwarding delay (R424). -/
def State.repeatFrame (s : State) (b : List Byte) : State := s.chnEmit (tadd s.t (s.g F.CHN_FWD_F)) b

/-- `CHN_STAT` (Table 15-5). -/
def State.showChn (s : State) : State :=
  let c := s.chn
  let st :=
    if !s.chnOn then 0 else if s.chnHead then 5 else if c.loss || !c.seen then 1 else if c.slew then 4
    else if c.hold then 2 else 3
  (s.w F.CHN_STAT_STATE 0 st).wb F.CHN_STAT_HOLD 0 c.hold

/-- Holdover begins or ends (R431). -/
def State.setHold (s : State) (h : Bool) : State :=
  let was := s.chn.hold
  let s := (s.updChn fun c => { c with hold := h }).setFlags h s.era
  let s := if h && !was then s.chnStick F.CHN_STKY_HOLD else s
  s.showChn

/-- A valid frame reached the input (R426, R427). -/
def State.chnSeen (s : State) (own : Bool) : State :=
  let c := s.chn
  let closes := s.chnHead && c.loss && own
  let s := s.updChn fun c =>
    { c with lastIn := s.t, enumDue := c.enumDue || (s.chnHead && (!c.seen || closes)), seen := true,
             loss := c.loss && s.chnHead && !own }
  let s := if s.chnHead && own then s.w F.CHN_STAT_RINGOK 0 1 else s
  s.showChn

/-- A TOKEN as the unit forwards it, with the number `v` (R424, R426, R428). -/
def State.tokenOn (s : State) (b : List Byte) (v : Nat) : List Byte :=
  let w := s.g F.CHN_HOPW_W
  b.take 4 ++ leBytes 2 v ++ leBytes 4 (frameNum b 6 4 + s.g F.CHN_FWD_F) ++ leBytes 4 (frameNum b 10 4 + w) ++
    leBytes 2 (frameNum b 14 2 + b2n (w = 0))

/-- A TIME frame as the unit forwards it (R424). -/
def State.timeOn (s : State) (b : List Byte) : List Byte := b.take 12 ++ leBytes 4 (frameNum b 12 4 + s.g F.CHN_FWD_F)

/-- What a row for a received frame does first: the frame is of the row's type and the chain is used. In Dormant mode a
frame of another origin is repeated, a TOKEN with its number unchanged (R464). -/
def State.chainIn (s : State) (f : ChainIn) (ty : Nat) (k : Bool → State → State) : State :=
  let own : Bool := frameNum f.bytes 2 2 = s.g F.CHN_ORIGIN_TAG
  if frameNum f.bytes 0 1 ≠ ty then s
  else if s.chnOn then k own ({ s with t := tadd s.now f.sub }.chnSeen own)
  else if s.chnRepeats && !own then
    { s with t := tadd s.now f.sub }.repeatFrame
      (if ty = 1 then s.tokenOn f.bytes (frameNum f.bytes 4 2) else if ty = 2 then s.timeOn f.bytes else f.bytes)
  else s

/-- A head absorbs a foreign TOKEN, TIME or CAL frame (R427). -/
def State.foreign (s : State) (own : Bool) (k : State → State) : State :=
  if own then s else if s.chnHead then s.chnStick F.CHN_STKY_MULTIHEAD else k s

/-! ### Enumeration and hop delays (R426, R428) -/

/-- The head sends a TOKEN with the value 1. -/
def State.enumerate (s : State) : State :=
  if !s.chnHead then s
  else
    let s := s.updChn fun c => { c with enumDue := false, enumAt := s.t, tokAt := some s.chnSlot }
    s.chnOwn (leBytes 1 1 ++ leBytes 1 0 ++ leBytes 2 (s.g F.CHN_ORIGIN_TAG) ++ leBytes 2 1)

def doEnumeration (s : State) : State :=
  let s' := { s with t := s.now }
  if s.chnHead && (s.chn.enumDue || 100 * msU ≤ tdiff s.now s.chn.enumAt) then s'.enumerate else s

/-- R426: the head enumerates when its input first carries frames, when the ring closes, every 100 ms. -/
def execEnumeration (s : State) : Host.Outcome State Fault Refusal := .next (doEnumeration s)

/-- `CHN_CMD.ENUM`. -/
def execEnum (src : Src) (s : State) : Host.Outcome State Fault Refusal := .next (s.via src 0x14000 fun s => s.enumerate)

/-- The unit number of a unit that receives a TOKEN with `v`. -/
def State.takeNumber (s : State) (v : Nat) : State :=
  let un := if v < 512 then v else 0
  let changed := s.g F.CHN_STAT_UN ≠ un
  let s := (s.w F.CHN_STAT_UN 0 un).wb F.CHN_STAT_UNV 0 (v < 512)
  let s := if v < 512 then s else s.chnStick F.CHN_STKY_OVERCNT
  if changed then s.chnStick F.CHN_STKY_UNCHG else s

def doToken (f : ChainIn) (s : State) : State :=
  s.chainIn f 1 fun own s => s.foreign own fun s =>
    let v := frameNum f.bytes 4 2
    let acc := frameNum f.bytes 6 4
    let wt := frameNum f.bytes 10 4
    let z := frameNum f.bytes 14 2
    let s := (s.takeNumber v).updChn fun c => { c with fUp := acc, wUp := wt, zUp := z }
    s.repeatFrame (s.tokenOn f.bytes (if v < 512 then v + 1 else v))

/-- R426, R428: a TOKEN reaches a unit; a head absorbs a foreign one. -/
def execToken (f : ChainIn) (s : State) : Host.Outcome State Fault Refusal := .next (doToken f s)

def doTokenReturn (f : ChainIn) (s : State) : State :=
  s.chainIn f 1 fun own s =>
    match own && s.chnHead, s.chn.tokAt with
    | true, some t0 =>
      let n := frameNum f.bytes 4 2
      let w := s.g F.CHN_HOPW_W
      let tr := tdiff s.t t0
      let c := tr - frameNum f.bytes 6 4
      let s := (s.w F.CHN_RING_TR 0 (enc 32 tr)).w F.CHN_ENUM_N 0 n
      let s := if 512 < n then s.chnStick F.CHN_STKY_OVERCNT else s
      let s := s.updChn fun c => { c with tokAt := none }
      s.chnOwn (leBytes 1 4 ++ leBytes 1 0 ++ leBytes 2 (s.g F.CHN_ORIGIN_TAG) ++ leBytes 2 n ++
        leBytes 4 (enc 32 c) ++ leBytes 4 (frameNum f.bytes 10 4 + w) ++ leBytes 2 (frameNum f.bytes 14 2 + b2n (w = 0)))
    | _, _ => s

/-- R428: the TOKEN returns to the head, which takes N and T_R and sends CAL. -/
def execTokenReturn (f : ChainIn) (s : State) : Host.Outcome State Fault Refusal := .next (doTokenReturn f s)

/-- The cable delay from the head (R428), its last place open. -/
def State.cableUp (s : State) (n c w z : Nat) : Int :=
  let hop := s.chn.wUp + s.g F.CHN_HOPW_W
  if z = 0 && w ≠ 0 then rdiv 160 (c * hop) w else if n = 0 then 0 else rdiv 160 (c * s.g F.CHN_STAT_UN) n

def doCal (f : ChainIn) (s : State) : State :=
  s.chainIn f 4 fun own s => s.foreign own fun s =>
    let n := frameNum f.bytes 4 2
    let d := s.cableUp n (frameNum f.bytes 6 4) (frameNum f.bytes 10 4) (frameNum f.bytes 14 2)
    ((s.w F.CHN_CABLE_D 0 (enc 32 d)).w F.CHN_ENUM_N 0 n).repeatFrame f.bytes

/-- R428: a CAL frame gives the unit its cable delay from the head. -/
def execCal (f : ChainIn) (s : State) : Host.Outcome State Fault Refusal := .next (doCal f s)

/-! ### Time (R430 to R432) -/

/-- The first multiple of the TIME period at or after the newest sample. -/
def State.nextTime (s : State) : Nat :=
  gridAt s.now (s.g F.CHN_CFG_TPER * 10 * usU)

def doTimeSend (s : State) : State :=
  let t := s.nextTime
  if s.chnHead && tdiff t (tadd s.now sampleU) < 0 && s.chn.timeAt ≠ some t then
    let s := { s with t := t }
    let at' := s.chnSlot
    (s.updChn fun c => { c with timeAt := some t }).chnOwn
      (leBytes 1 2 ++ leBytes 1 (b2n s.era) ++ leBytes 2 (s.g F.CHN_ORIGIN_TAG) ++ leBytes 8 at')
  else s

/-- R430: the head sends a TIME frame every `TPER` × 10 µs. -/
def execTimeSend (s : State) : Host.Outcome State Fault Refusal := .next (doTimeSend s)

/-- STIME steps forward by whole sample periods (R430, R432); ERA comes from the frame. -/
def State.stepTime (s : State) (d : Nat) (era : Bool) : State :=
  let t0 := s.t
  let s := { s with now := tadd s.now d, t := tadd s.t d }
  ((s.setFlags s.holdover era).chnStick F.CHN_STKY_STEP).geyStep t0 s.t

/-- The action on an error (R430). The correction of the PI loop is a FREE VALUE within ±200 ppm (log entry 20). -/
def State.timeError (s : State) (e : Int) (era : Bool) : State :=
  let s := s.w F.CHN_ERR_E 0 (enc 32 (satS 32 e))
  let (v, s) := s.draw 160
  if usU < e then
    let s := (s.w F.CHN_FREQ_F 0 (enc 32 (clampI (-200000) 200000 v.toInt))).updChn fun c => { c with slew := false }
    s.stepTime (e / sampleU * sampleU).toNat era
  else if e < -(usU : Int) then
    let s := s.w F.CHN_FREQ_F 0 (enc 32 (-200000))
    let s := if s.chn.slew then s else s.chnStick F.CHN_STKY_SLEW
    s.updChn fun c => { c with slew := true }
  else (s.w F.CHN_FREQ_F 0 (enc 32 (clampI (-200000) 200000 v.toInt))).updChn fun c => { c with slew := false }

def doTime (f : ChainIn) (s : State) : State :=
  s.chainIn f 2 fun own s => s.foreign own fun s =>
    let acc := frameNum f.bytes 12 4
    let tx := tadd (frameNum f.bytes 4 8) ((acc : Int) + s.g F.CHN_CABLE_D)
    let e := tdiff tx s.t
    let s := s.repeatFrame (s.timeOn f.bytes)
    let s := s.timeError e (bitOf (frameNum f.bytes 1 1) 0)
    let good := if e.natAbs ≤ 100 * nsU then s.chn.good + 1 else 0
    let s := s.updChn fun c => { c with good := good }
    if usU < e.natAbs then s.setHold true else if 10 ≤ good && !s.chn.loss then s.setHold false else s.showChn

/-- R430, R431: a TIME frame reaches a unit, which forms its error and corrects, steps or slews STIME. -/
def execTime (f : ChainIn) (s : State) : Host.Outcome State Fault Refusal := .next (doTime f s)

/-- The loss time of R427. -/
def State.lossTime (s : State) : Nat := max (300 * usU) (3 * s.g F.CHN_CFG_TPER * 10 * usU)

def doChainLoss (s : State) : State :=
  if s.chnOn && !s.chn.loss && s.lossTime ≤ tdiff s.now s.chn.lastIn then
    let s := { s with t := s.now }.updChn fun c => { c with loss := true, good := 0 }
    if s.chnHead then ((s.w F.CHN_STAT_RINGOK 0 0).chnStick F.CHN_STKY_RINGOPEN).showChn
    else (s.chnStick F.CHN_STKY_LOSS).setHold true
  else s

/-- R427: no valid frame for the loss time. -/
def execChainLoss (s : State) : Host.Outcome State Fault Refusal := .next (doChainLoss s)

def doChainCrcError (sub : Nat) (s : State) : State :=
  if s.chnOn || s.chnRepeats then
    ({ s with t := tadd s.now sub }.bump F.CHN_CRCCNT_COUNT).chnStick F.CHN_STKY_CRCERR
  else s

/-- R424: a frame with a failed CRC is discarded. -/
def execChainCrcError (sub : Nat) (s : State) : Host.Outcome State Fault Refusal := .next (doChainCrcError sub s)

/-- `CHN_CFG.EN` or `HEAD` took a new value: `en` and `head` before (R424, R425, R431). -/
def State.chnApply (s : State) (en head : Bool) : State :=
  let on := s.chnOn
  if on && !en then
    let (v, s) := s.draw 161
    let s := { s with chn := { lastIn := s.t, enumAt := s.t, pulse := s.chn.pulse, syncK := s.chn.syncK } }
    let s := s.w F.CHN_FWD_F 0 v.toNat
    let s := if s.chnHead then (s.w F.CHN_STAT_UN 0 0).w F.CHN_STAT_UNV 0 1 else s
    s.setHold (!s.chnHead)
  else if !on && en then
    let s := (s.setHold false).updChn fun c => { lastIn := s.t, pulse := c.pulse, syncK := c.syncK }
    (((s.w F.CHN_STAT_UN 0 0).w F.CHN_STAT_UNV 0 0).w F.CHN_STAT_RINGOK 0 0).showChn
  else if on && head ≠ s.chnHead then
    let s := if s.chnHead then (s.w F.CHN_STAT_UN 0 0).w F.CHN_STAT_UNV 0 1 else s.w F.CHN_STAT_RINGOK 0 0
    (s.updChn fun c => { c with loss := false, seen := false, lastIn := s.t }).setHold (!s.chnHead)
  else s

/-! ### The synchronising reset (R136, R26, R434, R435) -/

/-- A synchronising reset at the coming sample s₀; several at one sample count as one. -/
def State.syncReset (s : State) : State :=
  if s.chn.syncK = some s.k then s
  else
    let t := tadd s.now sampleU
    let s := { s with t := t, kB := s.k, s0 := s.k }.updChn fun c => { c with syncK := some s.k }
    let ports := (List.range 16).filter fun n => s.resolver n
    let s := ports.foldl (fun s n => s.decRestart n true) s
    let s := (s.w F.CHN_SYNCL_T 0 (t % 2 ^ 32)).w F.CHN_SYNCH_T 0 (t / 2 ^ 32)
    if ports.isEmpty then s else s.noticeGap ports

/-- Instants whose sample is the coming one, or an earlier one. -/
def State.syncDue (s : State) (t : Nat) : Bool := tdiff t (tadd s.now sampleU) ≤ 0

/-- A command with SYNCRST acts at the coming sample. -/
def State.cmdSync (s : State) : Bool := s.chn.cmds.any fun (c : Nat × Nat × Nat) => s.syncDue c.1 && bitOf c.2.2 0

def doSynchronisingReset (s : State) : State :=
  if !s.adcOn then s
  else if s.chn.syncs.any s.syncDue then
    (s.updChn fun c => { c with syncs := c.syncs.filter fun t => !s.syncDue t }).syncReset
  else if s.cmdSync then s.syncReset.chnStick F.CHN_STKY_SYNC
  else s

/-- R136: a synchronising reset at the coming sample, from `SYNC_N` or from a chain command. -/
def execSynchronisingReset (s : State) : Host.Outcome State Fault Refusal := .next (doSynchronisingReset s)

/-! ### Chain commands (R433, R434) -/

/-- A CMD frame is taken: kept for its instant, or missed (R434). -/
def State.takeCmd (s : State) (inst code flags : Nat) : State :=
  let d := tdiff inst s.t
  if d < 0 || 10000 * msU < d then
    let s := if bitOf flags 0 then s.chnStick F.CHN_STKY_SYNCLATE else s
    if bitOf flags 1 then s.geyChain code inst true else s
  else s.updChn fun c => { c with cmds := c.cmds ++ [(inst, code, flags)] }

def doCmd (f : ChainIn) (s : State) : State :=
  s.chainIn f 3 fun own s =>
    if own then s
    else (s.repeatFrame f.bytes).takeCmd (frameNum f.bytes 4 8) (frameNum f.bytes 1 1) (frameNum f.bytes 12 1)

/-- R434: a CMD frame is received and repeated, and its action scheduled. -/
def execCmd (f : ChainIn) (s : State) : Host.Outcome State Fault Refusal := .next (doCmd f s)

def doChainCommandAct (s : State) : State :=
  let due := s.chn.cmds.filter fun (c : Nat × Nat × Nat) => s.syncDue c.1
  if due.isEmpty then s
  else
    let s := { s with t := tadd s.now sampleU }.updChn fun c =>
      { c with cmds := c.cmds.filter fun (x : Nat × Nat × Nat) => !s.syncDue x.1 }
    due.foldl (fun s (c : Nat × Nat × Nat) =>
      let s := if bitOf c.2.2 0 && s.adcOn then s.syncReset.chnStick F.CHN_STKY_SYNC else s
      if bitOf c.2.2 1 then s.geyChain c.2.1 c.1 false else s) s

/-- R434: at the first sample instant at or after a command's instant the unit acts on it. -/
def execChainCommandAct (s : State) : Host.Outcome State Fault Refusal := .next (doChainCommandAct s)

/-- Originates a CMD frame and takes its own command (R433). -/
def State.originate (s : State) (inst code flags : Nat) : State :=
  let s := s.chnOwn (leBytes 1 3 ++ leBytes 1 code ++
    leBytes 2 (s.g F.CHN_ORIGIN_TAG) ++ leBytes 8 inst ++ leBytes 1 flags)
  s.takeCmd inst code flags

/-- `CHN_CMD.SEND` (R433). -/
def State.chainSend (s : State) (v : Nat) : State :=
  let inst := s.g F.CHN_CMDTL_T + 2 ^ 32 * s.g F.CHN_CMDTH_T
  let d := tdiff inst s.t
  if !bitOf v 10 then s
  else if d < s.g F.CHN_CFG_SLEAD * 10 * usU || 10000 * msU < d || !s.chnOn || s.chn.hold then s.w F.CHN_CMDRES_RES 0 2
  else if 0 < tdiff s.chn.ins s.t then s.w F.CHN_CMDRES_RES 0 1
  else (s.w F.CHN_CMDRES_RES 0 0).originate inst (v % 256) (bitsOf v 8 2)

def execChainSend (src : Src) (value : Word) (s : State) : Host.Outcome State Fault Refusal :=
  .next (s.via src 0x14000 fun s => s.chainSend value.toNat)

/-! ### `SYNC_N` (R435) -/

/-- Pulls `SYNC_N` low for 1 µs. -/
def State.syncPulse (s : State) : State :=
  let e := tadd s.t usU
  ((s.updChn fun c => { c with pulse := e }).emit (.ball "SYNC_N" 0 s.t)).emit (.ball "SYNC_N" 1 e)

def execPulse (src : Src) (s : State) : Host.Outcome State Fault Refusal := .next (s.via src 0x14000 fun s => s.syncPulse)

def doSyncNEdge (sub : Nat) (s : State) : State :=
  if !s.gb F.CHN_CFG_SYNCN_EN || !s.released 8 then s
  else
    let s := { s with t := tadd s.now sub }.chnStick F.CHN_STKY_SYNCN
    let ts := tadd s.t (s.g F.CHN_CFG_SLEAD * 10 * usU)
    if s.chnHead then s.originate ts 0 1
    else if !s.chnOn then s.updChn fun c => { c with syncs := c.syncs ++ [ts] }
    else s

/-- R435: a falling edge of `SYNC_N`. -/
def execSyncNEdge (sub : Nat) (s : State) : Host.Outcome State Fault Refusal := .next (doSyncNEdge sub s)

/-- `CHN_CMD`: SEND, PULSE, ENUM. -/
def State.chnCommand (s : State) (v : Nat) : State :=
  let s := s.chainSend v
  let s := if bitOf v 11 then s.syncPulse else s
  if bitOf v 12 then s.enumerate else s

end Sys2Proof.Machine
end

