-- ==== Sys2Proof/Machine/Twin.lean ====
section
/-! DEFINITION. Twin operation (chapter 15): roles and the drive token, claims, the heartbeat, mirror frames. -/

namespace Sys2Proof.Machine

def State.updTwn (s : State) (f : TwnSt → TwnSt) : State := { s with twn := f s.twn }

/-- Twin operation is on and the mode is RUN. -/
def State.twnRun (s : State) : Bool := s.gb F.TWN_CFG_EN && s.inRun

/-- A bit of `TWN_STKY` with its event (Table 15-4). -/
def State.twnStick (s : State) (f : Fld) : State := s.stickEv f 0 (if f.lo < 11 then 243 else 242)

/-- `TKN_O` is driven low or high. -/
def State.setTko (s : State) (low : Bool) : State :=
  if s.twn.tko = low then s
  else (s.updTwn fun w => { w with tko := low }).emit (.ball "TKN_O" (b2n !low) s.t)

/-! ### Roles (R443, R448, Table 15-3) -/

/-- The role and its copy. -/
def State.putRole (s : State) (r : Nat) : State := (s.w F.GLB_STATUS_ROLE 0 r).w F.TWN_STAT_ROLE 0 r

/-- What every change of role brings: the lead checks restart their suspension (R71), a winding test of a STANDBY device ends
(R72), the bias networks follow but for ports that wait for their takeover crossing (R57), the CAN controllers and the front
end look at their modes, both safety channels evaluate. -/
def State.roleChanged (s : State) : State :=
  let s := s.each 16 fun s n =>
    let s := s.updPrt n fun p => { p with roleAt := some s.t }
    let s := if s.standby then s.windingStop n else s
    if (s.exc! n).take.isSome then s else s.showBias n
  let s := s.each 16 fun s n => s.wb F.LRN_STAT_TWSRC n s.standby
  (((s.canModeCheck 0).canModeCheck 1).tmpRecheck).smBoth

/-- Mirrored sequence numbers leave room for a PDU the former active device sent after its last frame (R355): the next
generation takes the mirrored number plus 2. -/
def State.skipSeq (s : State) : State :=
  s.each 256 fun s c =>
    if s.g F.SAFC_STAT_STATE c = 5 then s.nextSeq c else s

/-- The claimant takes role ACTIVE at t_TK (R446). -/
def State.becomeActive (s : State) (t : Nat) : State :=
  let s := { s with t := t }.updTwn fun w =>
    { w with claim := none, race := false, failAt := none, tk := t, gtDue := true, emDue := true, hbHold := none }
  let s := ((s.setTko true).putRole 1).w F.TWN_STAT_TOKEN 0 1
  let s := ((s.w F.TWN_STAT_CLAIM 0 0).w F.TWN_TKTS_TS32 0 (ts32 t)).bump F.TWN_TKCNT_COUNT
  let s := s.twnStick F.TWN_STKY_TAKEOVER
  let s := (s.skipSeq).tmpTake t
  let s := s.each 16 fun s n => if s.resolver n then s.updExc n fun e => { e with take := some (t, true) } else s
  s.roleChanged

/-- The former holder takes role STANDBY at its t_TK (R446, R448). -/
def State.becomeStandby (s : State) (t : Nat) : State :=
  let s := { s with t := t, geyDrv := false }.updTwn fun w =>
    { w with fall := none, tk := t, hbHold := some t, gtDue := false, emDue := false, loaded := 0 }
  let s := ((s.putRole 2).w F.TWN_STAT_TOKEN 0 0).w F.TWN_STAT_REL 0 0
  let s := s.w F.TWN_TKTS_TS32 0 (ts32 t)
  let s := s.each 16 fun s n => if s.resolver n then s.updExc n fun e => { e with take := some (t, false) } else s
  (s.streamDrive).roleChanged

/-- Entry to RUN (R444): with `EN` = 1 role STANDBY, else SOLO. A device that finds `TKN_I` low makes no first claim. -/
def State.twnEnter (s : State) : State :=
  let s := s.updTwn fun w => { w with runAt := s.t, hbAt := s.t, linkAt := s.t, first := !s.gb F.TWN_STAT_TKNI, hbEdge := s.t }
  if s.gb F.TWN_CFG_EN then
    let s := { (s.putRole 2).emuDrivers false with geyDrv := false }
    let s := s.each 16 fun s n => s.enterSense n
    (s.streamDrive).roleChanged
  else s

/-- `EN` became 0 in RUN: no partner, so role SOLO (Table 1-8). -/
def State.twnLeave (s : State) : State :=
  let was := s.g F.GLB_STATUS_ROLE
  let s := (s.updTwn fun w => { runAt := w.runAt, seq := w.seq, rot := w.rot, hbo := w.hbo, hbEdge := w.hbEdge }).setTko false
  let s := (s.putRole 0).w F.TWN_STAT_TOKEN 0 0
  let s := ((s.w F.TWN_STAT_LINK 0 0).w F.TWN_STAT_PHB 0 0).w F.TWN_STAT_OHB 0 0
  let s := (s.w F.TWN_STAT_CLAIM 0 0).w F.TWN_STAT_REL 0 0
  let s := { s with geyDrv := true }.emuDrivers true
  let s := s.each 16 fun s n => (s.updExc n fun e => { e with take := none }).leaveSense n
  let s := s.streamDrive
  if was = 0 then s else s.roleChanged

/-- A committed write of `TWN_CFG`: `en` before it. In RUN `EN` = 1 acts at the next entry to RUN. -/
def State.twnApply (s : State) (en : Bool) : State :=
  if en && !s.gb F.TWN_CFG_EN && s.inRun then s.twnLeave else s

/-- Table 3-4 has a live cause for port `n` in SENSE: the driver is too hot; or its legs are gone (R104). -/
def State.liveCause (s : State) (n : Nat) : Bool := decide (155 * 256 ≤ s.gi F.EXC_DTEMP_TEMP n) || s.legsGone n

/-- A LOCKED port drives at the takeover crossing at the amplitude sensed last (R106): the increment of the effective
frequency comes back with phase continuity, a request stored in SENSE is that frequency (Table 3-2); an amplitude more
than 1 % away is then a change under R90, and what was stored for the amplitude is part of it. -/
def State.takeDriven (s : State) (n t : Nat) : State :=
  let a := s.g F.EXC_VSENSE_VRMS n
  let j := (s.exc! n).crossPoint
  let s := match (s.exc! n).reqF with
    | some f => s.freqAtCrossing n f
    | none => s.stepAtCrossing n (s.exc! n).freq
  let s := (((s.setDrv n dRun).setLocked n false).updExc n fun e =>
    { e.undrive with amp := (a : Int) * 65536, target := a, reqA := none, phAt := t }).showPend n
  let amp := s.effAmp n
  (if a < 100 * (amp - a) + 100 * (a - amp) then s.requestAmp n amp else s).putWave n j

def doTakeoverCrossing (n : Nat) (s : State) : State :=
  match (s.exc! n).take with
  | none => s
  | some (tk, active) =>
    let t := s.crossAt n
    if !(s.crossing n && 0 ≤ tdiff t tk) then s
    else
      let s := { s with t := t }.updExc n fun e => { e with take := none }
      if !active then (s.enterSense n).showBias n
      else
        let s := s.showBias n
        if s.drv n ≠ dSense then s
        else if !s.gb F.EXC_CFG_ENABLE n then s.leaveSense n
        else if s.liveCause n then
          if s.legsGone n then s.faultDrv n else s.driverFault n F.EXC_STKY_THERM_OFF
        else if s.gb F.EXC_STAT_LOCKED n then s.takeDriven n t
        else (s.enterSoft n false).stickEv F.EXC_STKY_COLD_TAKE n (48 + n)

/-- R448, R106: the takeover crossing of a port. A port with `ENABLE` = 0 goes to OFF (log entry 92). -/
def execTakeoverCrossing (n : Fin 16) (s : State) : Host.Outcome State Fault Refusal := .next (doTakeoverCrossing n s)

def doTakeoverOutputEnable (s : State) : State :=
  let t := tadd s.twn.tk usU
  if s.twn.gtDue && s.holdsToken && s.g F.GLB_STATUS_ROLE = 1 && tdiff t (tadd s.now sampleU) < 0 then
    ({ s with t := t, geyDrv := true }.updTwn fun w => { w with gtDue := false }).streamDrive
  else s

/-- R279: `GTRIG` and the Angle Stream are driven 1 µs after t_TK. -/
def execTakeoverOutputEnable (s : State) : Host.Outcome State Fault Refusal := .next (doTakeoverOutputEnable s)

def doEmuDriverEnable (s : State) : State :=
  if s.twn.emDue && s.holdsToken && s.g F.GLB_STATUS_ROLE = 1 && 5 * usU ≤ tdiff s.now s.twn.tk then
    ({ s with t := s.now }.updTwn fun w => { w with emDue := false }).emuDrivers true
  else s

/-- R248: the encoder outputs are driven no earlier than 5 µs after the token came. -/
def execEmuDriverEnable (s : State) : Host.Outcome State Fault Refusal := .next (doEmuDriverEnable s)

/-! ### Heartbeat (R442) -/

/-- A critical port has lost its angle or its driver while the partner's has not. -/
def State.critLost (s : State) : Bool :=
  s.gb F.TWN_CFG_CRIT_HO && (List.range 16).any fun n =>
    let p := s.twn.pst.getD n (0, 0)
    bitOf (s.g F.TWN_CRIT_PORTS) n && (s.ost (s.engine n) = oLot || s.drv n = dFault) && p.2 = oTrack && bitOf p.1 1

/-- The device's own heartbeat runs. -/
def State.heartRuns (s : State) : Bool :=
  s.twnRun && !s.gb F.TWN_STAT_REL && s.twn.hbHold.isNone && !s.critLost

def State.showHeart (s : State) : State := s.wb F.TWN_STAT_OHB 0 s.heartRuns

/-- While the heartbeat runs `TWHB_O` has an edge every 1.000 µs; a still one keeps its level, and its first edge comes with
the sample that finds it running again (log entry 106). -/
def State.heartEdge (s : State) : State :=
  if s.heartRuns && usU ≤ tdiff s.now s.twn.hbEdge then
    (s.updTwn fun w => { w with hbo := !w.hbo, hbEdge := s.now }).emit (.ball "TWHB_O" (b2n !s.twn.hbo) s.now)
  else s

def doHeartbeatRestart (s : State) : State :=
  match s.twn.hbHold with
  | some t =>
    if msU ≤ tdiff s.now t then ({ s with t := s.now }.updTwn fun w => { w with hbHold := none }).showHeart else s
  | none => s

def execHeartbeatRestart (s : State) : Host.Outcome State Fault Refusal := .next (doHeartbeatRestart s)

/-- The partner's heartbeat has been absent for t_hbto. -/
def State.heartGone (s : State) : Bool := s.g F.TWN_CFG_HBTO * usU ≤ tdiff s.now s.twn.hbAt

/-- The frames show a live partner: the link is up and its last frame carried HB = 1. -/
def State.linkAlive (s : State) : Bool := s.gb F.TWN_STAT_LINK && s.twn.phb

/-- The loss is declared once as PHBLOST and once as HBWIRE, as the frames show the partner meanwhile. -/
def doPartnerHeartbeatLost (s : State) : State :=
  let wire := s.linkAlive
  if s.gb F.TWN_CFG_EN && s.heartGone && !(if wire then s.twn.hbWire else s.twn.hbGone) then
    let s := ({ s with t := s.now }.updTwn fun w => { w with hbGone := w.hbGone || !wire, hbWire := w.hbWire || wire }).w
      F.TWN_STAT_PHB 0 0
    s.twnStick (if wire then F.TWN_STKY_HBWIRE else F.TWN_STKY_PHBLOST)
  else s

def execPartnerHeartbeatLost (s : State) : Host.Outcome State Fault Refusal := .next (doPartnerHeartbeatLost s)

def doPartnerHeartbeatEdge (s : State) : State :=
  if s.gb F.TWN_CFG_EN then
    ({ s with t := s.now }.updTwn fun w => { w with hbAt := s.now, hbGone := false, hbWire := false }).w F.TWN_STAT_PHB 0 1
  else s

def execPartnerHeartbeatEdge (s : State) : Host.Outcome State Fault Refusal := .next (doPartnerHeartbeatEdge s)

/-! ### Claims (R444 to R447) -/

/-- A claim may be made at all. -/
def State.mayClaim (s : State) : Bool :=
  s.twnRun && s.standby && s.twn.claim.isNone && !s.twn.conf &&
    (!s.gb F.TWN_CFG_POS || s.g F.TWN_CFG_STWAIT * msU ≤ tdiff s.now s.twn.runAt)

/-- The conditions of an automatic claim (R445). -/
def State.wantsClaim (s : State) : Bool :=
  s.gb F.TWN_CFG_AUTO_TK && s.heartGone && !s.linkAlive

/-- The claimant drives `TKN_O` low (R446). -/
def State.startClaim (s : State) : State :=
  let s := s.updTwn fun w => { w with claim := some (s.t, s.gb F.TWN_STAT_TKNI), race := false }
  (s.setTko true).w F.TWN_STAT_CLAIM 0 1

/-- A claim is given up: `TKN_O` goes high. -/
def State.endClaim (s : State) : State :=
  ((s.updTwn fun w => { w with claim := none, race := false }).setTko false).w F.TWN_STAT_CLAIM 0 0

/-- A claim of R445; after a failed one 1 ms later (R446). -/
def doClaim (s : State) : State :=
  if s.mayClaim && s.wantsClaim && 0 ≤ tdiff s.now s.twn.retry then { s with t := s.now }.startClaim else s

def execClaim (s : State) : Host.Outcome State Fault Refusal := .next (doClaim s)

/-- `TWN_CMD.TAKE`. -/
def State.twnTake (s : State) : State := if s.mayClaim then s.startClaim else s

def execTake (src : Src) (s : State) : Host.Outcome State Fault Refusal := .next (s.via src 0x15000 fun s => s.twnTake)

def doInitialClaim (s : State) : State :=
  if s.twnRun && s.standby && !s.gb F.TWN_CFG_POS && !s.twn.first && msU ≤ tdiff s.now s.twn.runAt then
    let s := { s with t := s.now }.updTwn fun w => { w with first := true }
    if s.gb F.TWN_STAT_TKNI && s.mayClaim then s.startClaim else s
  else s

/-- R444: the device with `POS` = 0 claims 1 ms after its entry to RUN when `TKN_I` is high. -/
def execInitialClaim (s : State) : Host.Outcome State Fault Refusal := .next (doInitialClaim s)

def doClaimCheck (tkni : Bool) (s : State) : State :=
  match s.twn.claim with
  | none => s
  | some (tc, _) =>
    let t := tadd tc (3 * usU)
    if 0 ≤ tdiff t (tadd s.now sampleU) then s
    else
      let s := { s with t := t }
      if tkni && s.gb F.TWN_STAT_TKNI then s.becomeActive t
      else
        let s := s.endClaim.updTwn fun w => { w with retry := tadd t msU, failAt := some (w.failAt.getD t) }
        s.twnStick F.TWN_STKY_TKFAIL

/-- R446: at t_c + 3 µs; `tkni`: `TKN_I` has been high since 0.5 µs before, as the newest sample must have found it. -/
def execClaimCheck (tkni : Bool) (s : State) : Host.Outcome State Fault Refusal := .next (doClaimCheck tkni s)

def doForcedTakeover (s : State) : State :=
  match s.twn.failAt with
  | some f =>
    if s.gb F.TWN_CFG_STUCKTK && s.twnRun && s.standby && s.wantsClaim && 10 * msU ≤ tdiff s.now f then
      (s.becomeActive s.now).twnStick F.TWN_STKY_FORCED
    else s
  | none => s

def execForcedTakeover (s : State) : Host.Outcome State Fault Refusal := .next (doForcedTakeover s)

/-- `TKN_I` falls. -/
def State.tokenFall (s : State) : State :=
  let s := s.w F.TWN_STAT_TKNI 0 0
  if s.gb F.TWN_STAT_TOKEN then s.updTwn fun w => { w with fall := some (w.fall.getD s.t) }
  else match s.twn.claim with
    | some (tc, true) =>
      let d := tdiff s.t tc
      if 0 < d && d ≤ usU then (s.updTwn fun w => { w with race := true }).twnStick F.TWN_STKY_TKRACE else s
    | _ => s

/-- The level of `TKN_I` at a sample. -/
def State.tokenLevel (s : State) (high : Bool) : State :=
  if high then s.w F.TWN_STAT_TKNI 0 1 else if s.gb F.TWN_STAT_TKNI then s.tokenFall else s

def doYield (s : State) : State := if s.gb F.TWN_STAT_TKNI then { s with t := s.now }.tokenFall else s

/-- R446: a fall of `TKN_I`; a holder releases `TKN_O` 1 µs later and is STANDBY 3 µs later. -/
def execYield (s : State) : Host.Outcome State Fault Refusal := .next (doYield s)

/-- What falls due at a sample: the phases of a yield, the withdrawal from a race, the heartbeat's conditions. -/
def State.twinTick (s : State) : State :=
  if !s.gb F.TWN_CFG_EN then s
  else
    let s := match s.twn.fall with
      | none => s
      | some f =>
        let s := if usU ≤ tdiff s.now f && s.twn.tko then
            (((({ s with t := tadd f usU }.setTko false).w F.TWN_STAT_TOKEN 0 0).emuDrivers false).twnStick F.TWN_STKY_YIELD)
          else s
        if 3 * usU ≤ tdiff s.now f then s.becomeStandby (tadd f (3 * usU)) else s
    let s := match s.twn.claim with
      | some (tc, _) =>
        if s.twn.race && s.gb F.TWN_CFG_POS && usU ≤ tdiff s.now tc then { s with t := tadd tc usU }.endClaim else s
      | none => s
    let s := { s with t := s.now }
    let s := if s.standby && !s.wantsClaim then s.updTwn fun w => { w with failAt := none } else s
    let s := s.updTwn fun w =>
      { w with loaded := (List.range 16).foldl (fun m n =>
          if w.loaded.testBit n && s.tracking (s.engine n) then m + 2 ^ n else m) 0 }
    s.heartEdge.showHeart

/-- `TWN_CMD.RELEASE` (R449). -/
def State.twnRelease (s : State) : State :=
  if s.g F.GLB_STATUS_ROLE = 1 then
    ((s.updTwn fun w => { w with relAt := s.t }).w F.TWN_STAT_REL 0 1).showHeart
  else s

def execRelease (src : Src) (s : State) : Host.Outcome State Fault Refusal := .next (s.via src 0x15000 fun s => s.twnRelease)

def doReleaseTimeout (s : State) : State :=
  if s.gb F.TWN_STAT_REL && s.twn.fall.isNone && 10 * msU ≤ tdiff s.now s.twn.relAt then
    ((({ s with t := s.now }.w F.TWN_STAT_REL 0 0).showHeart).twnStick F.TWN_STKY_RELFAIL)
  else s

def execReleaseTimeout (s : State) : Host.Outcome State Fault Refusal := .next (doReleaseTimeout s)

/-- `TWN_CMD`: RELEASE, TAKE. -/
def State.twnCommand (s : State) (v : Nat) : State :=
  let s := if bitOf v 0 then s.twnRelease else s
  if bitOf v 1 then s.twnTake else s

/-! ### Mirror frames (R437 to R441, Table 15-2) -/

/-- The port part of a frame at boundary `tb`. -/
def State.mirPort (s : State) (n tb : Nat) : List Byte :=
  let m := s.engine n
  let st := s.obsStatus m tb
  let g := if s.ost m = oOff then List.replicate 9 0 else s.obsWords m tb st
  leBytes 4 (lget g 0) ++ leBytes 4 (lget g 3) ++ leBytes 4 (lget g 5) ++ leBytes 4 (lget g 6) ++
    leBytes 1 (bitsOf (lget g 7) 16 8) ++ leBytes 1 st ++ leBytes 1 (bitsOf (lget g 7) 24 8) ++
    leBytes 1 (s.ost m + 8 * s.drv n + 64 * s.g F.EXC_STAT_LOCKED n + 128 * b2n (bitOf (s.g F.TWN_STAT_DIVL) n)) ++
    leBytes 2 (s.lrnGen n) ++ leBytes 1 (s.epochOf n) ++ leBytes 1 0

/-- The record of an axis. -/
def State.mirAxis (s : State) (a : Nat) : List Byte :=
  let g := s.axGroup a
  let w := lget g 0
  leBytes 1 (w % 8 + 8 * bitsOf w 4 3) ++ leBytes 1 (bitsOf w 12 4 + 16 * bitsOf w 7 1 + 32 * bitsOf w 8 2) ++
    leBytes 2 0 ++ leBytes 4 (lget g 1)

/-- The check of a live entry: the sum of its half-words. -/
def State.entryCheck (s : State) (j : Nat) : Nat :=
  ((s.entry j).map fun w => w % 65536 + w / 65536).foldl (· + ·) 0 % 65536

/-- The record of a slot. -/
def State.mirSlot (s : State) (j : Nat) : List Byte :=
  let v := s.slot! j
  leBytes 1 (v.st + 8 * b2n v.late + 16 * b2n v.miss) ++ leBytes 1 0 ++ leBytes 2 (s.entryCheck j) ++ leBytes 4 v.tgt

/-- The record of a connection. -/
def State.mirConn (s : State) (c : Nat) : List Byte :=
  leBytes 2 (s.g F.SAFC_STAT_SEQ c) ++ leBytes 1 (s.g F.SAFC_STAT_STATE c) ++ leBytes 1 0

/-- The set image of a port: applied o_s, o_c, r, q, then the table. -/
def State.mirSet (s : State) (n : Nat) : List Byte :=
  (List.range 4).flatMap (fun i => leBytes 4 (s.lrnWord n (4 * i))) ++
    (List.range 256).flatMap fun j => leBytes 2 (s.lrnWord n (0x400 + 4 * j))

/-- The learning part, taking the port's set at its part 0. -/
def State.mirPart (s : State) : State × List Byte :=
  let w := s.twn
  let s := if w.lpart = 0 then s.updTwn fun w => { w with lgen := s.lrnGen w.lp, limg := s.mirSet w.lp } else s
  let bs := leBytes 1 (w.lp + 128 * b2n (s.resolver w.lp && !s.lrnBad w.lp)) ++ leBytes 1 w.lpart ++
    leBytes 2 s.twn.lgen ++ padTo 108 (s.twn.limg.drop (108 * w.lpart))
  (s.updTwn fun w => if w.lpart = 4 then { w with lpart := 0, lp := (w.lp + 1) % 16 } else { w with lpart := w.lpart + 1 },
    bs)

/-- Builds the frame of boundary `tb` (R437). -/
def State.mirBuild (s : State) (tb : Nat) : State :=
  if !s.twnRun then s
  else
    let r := s.twn.rot
    let head := leBytes 1 (s.g F.GLB_STATUS_ROLE + 4 * s.g F.TWN_CFG_POS + 8 * b2n s.heartRuns + 16 * s.g F.TWN_STAT_REL) ++
      leBytes 1 1 ++ leBytes 2 s.twn.seq ++ leBytes 8 tb ++ leBytes 1 (s.g F.GLB_EPOCH_EPOCH) ++ leBytes 1 r ++
      leBytes 2 (s.g F.CHN_STAT_UN)
    let ports := (List.range 16).flatMap fun n => s.mirPort n tb
    let axes := (List.range 8).flatMap s.mirAxis
    let si := s.safSi
    let saf := padTo 16 (leBytes 1 (bitsOf si 16 8) ++ leBytes 1 (bitsOf si 24 8) ++ leBytes 1 s.safVins ++
      leBytes 1 (s.g F.SAF_DFAULT_LATCHED) ++ leBytes 4 (s.g F.SAF_ACRC_CRC) ++
      leBytes 1 (s.g F.SAF_STAT_PERM_A + 2 * s.g F.SAF_STAT_PERM_B))
    let slots := (List.range 32).flatMap fun i => s.mirSlot (32 * (r % 8) + i)
    let conns := (List.range 64).flatMap fun i => s.mirConn (64 * (r % 4) + i)
    let (s, part) := s.mirPart
    s.updTwn fun w =>
      { w with tb := some tb, frm := head ++ ports ++ axes ++ saf ++ padTo 256 slots ++ conns ++ part,
               seq := (w.seq + 1) % 65536, rot := (w.rot + 1) % 256 }

def doMirrorFrameSend (s : State) : State :=
  match s.twn.tb with
  | some tb =>
    let t := tadd tb (250 * nsU)
    if tdiff t (tadd s.now sampleU) < 0 && s.twnRun then
      let s' := { s with t := t }.updTwn fun w => { w with tb := none, frm := [] }
      if s.bufBad then s'.bufClear else s'.emit (.mirror (s.twn.frm ++ leBytes 4 (crc32c s.twn.frm)))
    else s
  | none => s

/-- R437: the frame of the last boundary is sent. -/
def execMirrorFrameSend (s : State) : Host.Outcome State Fault Refusal := .next (doMirrorFrameSend s)

def State.mirBad (s : State) : State :=
  ((s.updTwn fun w => { w with linkN := 0 }).bump F.TWN_CRCCNT_COUNT).twnStick F.TWN_STKY_CRC

def doMirrorFrameCrcError (s : State) : State :=
  if s.gb F.TWN_CFG_EN then { s with t := s.now }.mirBad else s

def execMirrorFrameCrcError (s : State) : Host.Outcome State Fault Refusal := .next (doMirrorFrameCrcError s)

def doTwinLinkDown (s : State) : State :=
  if s.gb F.TWN_STAT_LINK && 15 * usU ≤ tdiff s.now s.twn.linkAt then
    let s := { s with t := s.now }.updTwn fun w =>
      { w with linkN := 0, conf := false, xsta := List.replicate 8 none }
    (s.w F.TWN_STAT_LINK 0 0).twnStick F.TWN_STKY_LINKDN
  else s

def execTwinLinkDown (s : State) : Host.Outcome State Fault Refusal := .next (doTwinLinkDown s)

/-- Loads TURN and MIDX from the partner (R440): the numbers so loaded, or that the angles lie too far apart. `th` is the
own angle at the partner's boundary, `pa` the partner's. -/
def State.mirTurn (s : State) (m own pa pmi : Nat) (ptu : Int) (d : Int) : State × Bool :=
  let diff := mdiff 32 own pa
  if 2 ^ 30 < diff.natAbs then (s, true)
  else
    let p := s.g F.OBS_CFG_PPR m
    let (mi, tu) := turnStep p pmi ptu (((pa : Int) + diff) / 2 ^ 32)
    -- back from the boundary to the instant of the engine's state
    let o := s.obs! m
    let (mi, tu) := turnStep p mi tu (-(wrapTurn (o.th + o.dTh d)).1)
    let s := s.updObs m fun o => { o with midx := mi, turn := turn32 tu }
    ((s.w F.OBS_STAT_MIDX_UNK m 0).w F.OBS_STAT_TURN_UNK m 0, false)

/-- The port part of a received frame (R439, R440): `b` its 24 bytes, `tb` the partner's boundary. -/
def State.mirCompare (s : State) (n tb : Nat) (b : List Byte) : State :=
  let m := s.engine n
  let o := s.obs! m
  let d := tdiff tb o.tk + o.dObs
  let pst := frameNum b 17 1
  let pms := frameNum b 18 1
  let pa := frameNum b 0 4
  let pobs := frameNum b 19 1 % 8
  let s := s.updTwn fun w => { w with pst := w.pst.set n (pst, pobs) }
  let st := s.obsStatus m s.t
  let own := rang32 (s.project m d).1
  let load := s.standby && s.ost m = oTrack && !s.twn.loaded.testBit n && vf pst && bitOf pms 0
  let (s, far) := if load then
      (s.updTwn fun w => { w with loaded := setBit w.loaded n true }).mirTurn m own pa (frameNum b 16 1)
        (sgn 32 (frameNum b 12 4)) d
    else (s, false)
  if !(vf st && vf pst) then s
  else
    let (_, mi, tu, w, _) := s.project m d
    let da := mdiff 32 own pa
    let dv := satS 32 (rnd w (2 ^ 16)) - sgn 32 (frameNum b 4 4)
    let turns := bitOf (s.mStatus m st) 0 && bitOf pms 0 && (mi ≠ frameNum b 16 1 || enc 32 tu ≠ frameNum b 12 4)
    let bad := far || s.g F.TWN_CMP_ANG_LIM * 65536 < da.natAbs || s.g F.TWN_CMP_SPD_LIM * 65536 < 10 * dv.natAbs || turns
    let out := if bad then s.twn.out.getD n 0 + 1 else 0
    let ok := if bad then 0 else s.twn.ok.getD n 0 + 1
    let s := s.updTwn fun x => { x with out := x.out.set n out, ok := x.ok.set n ok, diff := x.diff.set n (da, dv) }
    let divl := s.g F.TWN_STAT_DIVL
    let lim := s.g F.TWN_CMP_CMP_N
    if lim ≤ out && !bitOf divl n then
      let s := (s.w F.TWN_STAT_DIVL 0 (setBit divl n true)).w F.TWN_DIVSTKY_PORTS 0 (s.g F.TWN_DIVSTKY_PORTS ||| 2 ^ n)
      s.twnStick F.TWN_STKY_DIV
    else if lim ≤ ok && bitOf divl n then s.w F.TWN_STAT_DIVL 0 (setBit divl n false)
    else s

/-- `TWN_DIFF` of the port in `TWN_DSEL`. -/
def State.twnDiff (s : State) : Nat :=
  let (da, dv) := s.twn.diff.getD (s.g F.TWN_DSEL_PORT) (0, 0)
  enc 16 (satS 16 (rnd da 65536)) + 65536 * enc 16 (satS 16 (rnd (10 * dv) 65536))

/-- A slot record in STANDBY (R441). -/
def State.mirTake (s : State) (j : Nat) (b : List Byte) : State :=
  let v := s.slot! j
  if s.slotKind j ≠ 1 || !s.slotRepeat j then s
  else if s.entryCheck j ≠ frameNum b 2 2 then s.twnStick F.TWN_STKY_GEYDIFF
  else if s.locked v || v.st = gIdle || v.st = gDone || v.st = gBad then s
  else
    let tgt := frameNum b 4 4
    -- a commitment for another target is no longer one for the target in force
    let v := if v.st = gComm && v.tgt ≠ tgt then { v with st := gArmed, com := none, pred := none } else v
    let v := { v with tgt := tgt }
    if frameNum b 0 1 % 8 = gPass then
      let base := enc 32 ((tgt : Int) - s.slotDir j * s.live j 2)
      let v := { v with com := none, pred := none, base := base }
      s.setSlot j (if v.st = gHeld then { v with frm := gPass } else { v with st := gPass })
    else s.setSlot j v

/-- The axes' states are compared (R439). -/
def State.mirAxes (s : State) (b : List Byte) : State :=
  let differs (a : Nat) : Bool := s.gab false F.AX_CFG_EN a && (s.ax! false a).st ≠ frameNum b (8 * a) 1 % 8
  let xs := (List.range 8).map fun a => if differs a then some ((s.twn.xsta.getD a none).getD s.t) else none
  let s := s.updTwn fun w => { w with xsta := xs }
  if s.twn.xsta.any (fun x => match x with
      | some t0 => decide ((s.ga false F.SAF_CTRL_XTOL * msU : Int) ≤ tdiff s.t t0)
      | none => false) then s.twnStick F.TWN_STKY_SAFDIFF else s

/-- A learning part (R438): a set is complete when its five parts came in order with one GEN. -/
def State.mirLearn (s : State) (b : List Byte) : State :=
  let port := frameNum b 0 1 % 16
  let part := frameNum b 1 1
  let gen := frameNum b 2 2
  let data := (b.drop 4).take 108
  if !bitOf (frameNum b 0 1) 7 then s.updTwn fun w => { w with rx := none }
  else
    let whole := match s.twn.rx with
      | some (p, g, bs, next) => if part ≠ 0 && p = port && g = gen && next = part then some (bs ++ data) else none
      | none => none
    let whole := if part = 0 then some data else whole
    match whole with
    | none => s.updTwn fun w => { w with rx := none }
    | some bs =>
      if part = 4 then s.updTwn fun w =>
        { w with rx := none, sets := w.sets.filter (fun (x : Nat × Nat × List Byte) => x.1 ≠ port) ++ [(port, gen, bs)] }
      else s.updTwn fun w => { w with rx := some (port, gen, bs, part + 1) }

/-- At a boundary the complete sets become the applied sets (R201); so do those that came before a takeover (R202). -/
def State.twnSets (s : State) : State :=
  let sets := s.twn.sets
  let s := s.updTwn fun w => { w with sets := [] }
  sets.foldl (fun s (x : Nat × Nat × List Byte) =>
    let (n, gen, bs) := x
    let s := (List.range 4).foldl (fun s i => s.setLrnWord n (4 * i) (frameNum bs (4 * i) 4)) s
    let s := (List.range 256).foldl (fun s j => s.setLrnWord n (0x400 + 4 * j) (frameNum bs (16 + 2 * j) 2)) s
    (s.setLrnWord n 0x10 gen).twinCheck n) s

/-- A valid frame (R437 to R441). -/
def State.mirTakeFrame (s : State) (b : List Byte) : State :=
  let f := frameNum b 0 1
  let pos := bitOf f 2
  let same := pos = s.gb F.TWN_CFG_POS
  let s := s.updTwn fun w => { w with linkN := w.linkN + 1, linkAt := s.t, phb := bitOf f 3, conf := same }
  let s := if 3 ≤ s.twn.linkN then s.w F.TWN_STAT_LINK 0 1 else s
  let s := (s.w F.TWN_STAT_PROLE 0 (f % 4)).wb F.TWN_STAT_PPOS 0 pos
  let s := if same then s.twnStick F.TWN_STKY_POSCONF else s
  let tb := frameNum b 4 8
  let r := frameNum b 13 1
  let s := s.each 16 fun s n => s.mirCompare n tb ((b.drop (16 + 24 * n)).take 24)
  let s := s.mirAxes (b.drop 400)
  let s := if s.standby then
      let s := s.each 32 fun s i => s.mirTake (32 * (r % 8) + i) ((b.drop (480 + 8 * i)).take 8)
      let s := s.each 64 fun s i =>
        let c := 64 * (r % 4) + i
        if s.g F.SAFC_STAT_STATE c = 5 then s.w F.SAFC_STAT_SEQ c (frameNum b (736 + 4 * i) 2) else s
      s.mirLearn (b.drop 992)
    else s
  s.showHeart

def doMirrorFrameReceived (b : List Byte) (s : State) : State :=
  if !s.twnRun then s
  else
    let s := { s with t := s.now }
    if b.length = 1108 && crc32c (b.take 1104) = frameNum b 1104 4 then s.mirTakeFrame b else s.mirBad

/-- R437 to R441: a frame has arrived; one whose CRC-32C fails counts as such. -/
def execMirrorFrameReceived (bytes : List Byte) (s : State) : Host.Outcome State Fault Refusal :=
  .next (doMirrorFrameReceived bytes s)

end Sys2Proof.Machine
end

