-- ==== Sys2Proof/Machine/Sinter.lean ====
section
/-! DEFINITION. Memory integrity, Sinter and the aging monitors (chapter 17), the background calibration of the slices
(chapter 4) and the driver legs (chapter 3). -/

namespace Sys2Proof.Machine

def State.updSnt (s : State) (f : IntSt → IntSt) : State := { s with snt := f s.snt }

/-- The event of a bit of `INT_STKY` (Table 17-7). -/
def intEvent (lo : Nat) : Nat :=
  if lo < 4 then 244 + lo else if lo < 6 then 248 else if lo < 9 then 249 else if lo = 9 then 250
  else if lo < 13 then 251 else 239 + lo

def State.intStick (s : State) (f : Fld) : State := s.stickEv f 0 (intEvent f.lo)

/-! ### Spares and the live map (R491, R497) -/

/-- Spare slices 32 and 33: serving (63 none), failed. -/
def State.spareSlice (s : State) (i : Nat) : Nat × Bool :=
  let m := s.g F.INT_SLMAP_MAP
  (bitsOf m (8 * i) 6, bitOf m (8 * i + 6))

/-- Spare engines 16 and 17: port, in service, failed. -/
def State.spareEng (s : State) (i : Nat) : Nat × Bool × Bool :=
  let m := s.g F.INT_ENGMAP_MAP
  (bitsOf m (8 * i) 4, bitOf m (8 * i + 4), bitOf m (8 * i + 5))

/-- The swap under way has taken the spare. -/
def State.taken (s : State) (kind spare : Nat) : Bool :=
  match s.snt.run with
  | some r => r.sw.kind = kind && r.spare = spare
  | none => false

/-- A spare of a kind is free. -/
def State.spareFree (s : State) (kind i : Nat) : Bool :=
  if kind = 0 then
    let (sl, bad) := s.spareSlice i
    sl = 63 && !bad && !s.taken 0 (32 + i)
  else
    let (_, used, bad) := s.spareEng i
    !used && !bad && !s.taken 1 (16 + i)

/-- The lowest free spare of a kind. -/
def State.nextSpare (s : State) (kind : Nat) : Option Nat := [0, 1].find? fun i => s.spareFree kind i

/-- `INT_STAT`: free spares, the swap under way, the queue; `ACQ_CALSTAT.HOLD`: no spare slice is free (R114). -/
def State.showSw (s : State) : State :=
  let fr (k : Nat) : Nat := b2n (s.spareFree k 0) + 2 * b2n (s.spareFree k 1)
  let s := (s.w F.INT_STAT_SPADC 0 (fr 0)).w F.INT_STAT_SPENG 0 (fr 1)
  let s := s.wb F.ACQ_CALSTAT_HOLD 0 (s.nextSpare 0).isNone
  let s := (s.w F.INT_STAT_QLEN 0 s.snt.q.length).wb F.INT_STAT_SWRUN 0 s.snt.run.isSome
  match s.snt.run with
  | some r => (s.w F.INT_STAT_SWKIND 0 r.sw.kind).w F.INT_STAT_SWTGT 0 r.sw.tgt
  | none => s

/-- A copy of an NVM record: empty, torn or valid (R470). -/
inductive NvCopy where
  | empty
  | torn
  | valid (bytes : List Byte)
deriving DecidableEq, Repr

/-- Examines the copy of `len` bytes at an address. -/
def State.nvExam (s : State) (a len : Nat) (ok : List Byte → Bool) : NvCopy :=
  let b := s.nvmBytes a len
  if ok b then .valid b else if b.all (· = 0xFF#8) then .empty else .torn

/-- The copy in force of two: the one with the newer sequence number in bytes 2 and 3, A when they are equal (R470). -/
def nvForce : NvCopy → NvCopy → Option (Nat × List Byte)
  | .valid a, .valid b => if 0 < mdiff 16 (fieldAt b 2 2) (fieldAt a 2 2) then some (1, b) else some (0, a)
  | .valid a, _ => some (0, a)
  | _, .valid b => some (1, b)
  | _, _ => none

/-- The sequence number of the next copy (R480). -/
def nvNext (f : Option (Nat × List Byte)) : Nat :=
  match f with | some (_, b) => (fieldAt b 2 2 + 1) % 65536 | none => 1

/-- A valid Sinter map record (Table 17-3). -/
def mapOk (b : List Byte) : Bool := fieldAt b 0 2 = 0x0152 && fieldAt b 0x7FC 4 = crc32 (b.take 0x7FC)

/-- The copies of the Sinter map, and the one in force. -/
def State.mapCopy (s : State) (c : Nat) : NvCopy := s.nvExam (0x3000 + 0x800 * c) 2048 mapOk
def State.mapForce (s : State) : Option (Nat × List Byte) := nvForce (s.mapCopy 0) (s.mapCopy 1)

/-- Bytes of the Sinter map record but for its CRC (Table 17-3). -/
def State.mapBody (s : State) : List Byte :=
  let seq := nvNext s.mapForce
  let legs := (List.range 64).foldl (fun m i =>
    if s.g (F.EXC_LEG_LSTATE (i % 4)) (i / 4) = 1 then m + 2 ^ i else m) 0
  let counters := ([0x160C0, 0x160C4, 0x160C8, 0x160D0, 0x160D4, 0x160D8, 0x160DC, 0x160E0, 0x16014, 0x16018]).flatMap
    fun a => leBytes 4 (s.regWord a)
  let aging := (List.range 8).flatMap (fun i => leBytes 2 (s.g F.INT_RO_DRIFT i)) ++
    leBytes 2 (s.g F.INT_BGAP_VAL) ++ leBytes 2 (s.g F.INT_ADCREF_VAL)
  leBytes 2 0x0152 ++ leBytes 2 seq ++ leBytes 4 (s.g F.INT_SLMAP_MAP) ++ leBytes 4 (s.g F.INT_ENGMAP_MAP) ++
    leBytes 8 s.snt.badSl ++ leBytes 4 s.snt.badEng ++ leBytes 8 legs ++ counters ++ padTo 56 aging ++
    ((List.range 768).flatMap fun i => leBytes 2 (SMap.get 0 s.snt.rowMap i)) ++ List.replicate 380 0#8

/-- The Sinter map record. -/
def State.mapImage (s : State) : List Byte := s.mapBody ++ leBytes 4 (crc32 s.mapBody)

/-- A map commit that has become the running request of the NVM controller takes the live state (R497). -/
def State.nvStart (s : State) : State :=
  if s.nvq.head? = some 3 && s.snt.image.isEmpty then s.updSnt fun i => { i with image := s.mapImage } else s

/-- A map commit is requested by the device: a change during a write asks for a further one (R497, R480). -/
def State.mapChange (s : State) : State :=
  if s.nvq.head? = some 3 then s.updSnt fun i => { i with again := true }
  else if s.nvq.contains 3 then s
  else { s with nvq := s.nvq ++ [3] }.nvStart

/-- `INT_MAPCMD.COMMIT`. -/
def State.mapCommit (s : State) : State :=
  if s.nvq.contains 3 then s.w F.INT_MAPSTAT_RES 0 1 else (s.w F.INT_MAPSTAT_RES 0 0).mapChange

def execMapCommit (src : Src) (s : State) : Host.Outcome State Fault Refusal :=
  .next (s.via src 0x16000 fun s => s.mapCommit)

def doMapCommitDaily (s : State) : State :=
  if 86400000 * msU ≤ tdiff s.now s.snt.dayAt then
    ({ s with t := s.now }.updSnt fun i => { i with dayAt := s.now }).mapChange
  else s

/-- R497: every 24 h of accumulated power-on time. -/
def execMapCommitDaily (s : State) : Host.Outcome State Fault Refusal := .next (doMapCommitDaily s)

/-! ### Requests and swaps (R492 to R495) -/

/-- The target of a swap is a working resource. -/
def State.swapTarget (s : State) (w : Swap) : Bool :=
  match w.kind with
  | 0 => (w.tgt < 32 || w.tgt = 34 || w.tgt = 35) && !bitOf s.snt.badSl w.tgt
  | 1 => w.tgt < 16
  | 2 => w.tgt < 16 && w.leg < 4 && s.g (F.EXC_LEG_LSTATE w.leg) w.tgt = 0
  | _ => false

/-- Two requests concern one target. -/
def Swap.same (a b : Swap) : Bool := a.kind = b.kind && a.tgt = b.tgt && (a.kind ≠ 2 || a.leg = b.leg)

/-- The first request of the queue begins (R492): a slice or an engine takes the lowest free spare, a leg gives its
notice. One that finds no spare any more is dropped, and the next one begins. -/
def State.swapBegin (s : State) : State :=
  match s.snt.run, s.snt.q with
  | none, w :: q =>
    let s := s.updSnt fun i => { i with q := q }
    if w.kind = 2 then
      let s := s.updSnt fun i => { i with run := some { sw := w, at' := s.t } }
      let s := (s.noticeSwap 2 w.tgt).updExc w.tgt fun e => { e with retire := some (w.leg, s.t) }
      s.showSw
    else match s.nextSpare w.kind with
      | some i =>
        ({ s with swpAcc := {} }.updSnt fun x =>
          { x with run := some { sw := w, spare := (if w.kind = 0 then 32 else 16) + i, at' := s.t } }).showSw
      | none => (s.intStick F.INT_STKY_NOSPARE).showSw
  | _, _ => s.showSw

/-- The queue of four requests. -/
def State.swapNext (s : State) : State := s.swapBegin.swapBegin.swapBegin.swapBegin

/-- A request (R492): 0 queued, 1 BUSY, 2 NOSPARE, 3 BAD. -/
def State.swapRequest (s : State) (w : Swap) : State × Nat :=
  let dup := s.snt.q.any w.same || (match s.snt.run with | some r => w.same r.sw | none => false)
  if dup || 4 ≤ s.snt.q.length then (s, 1)
  else if w.kind < 2 && (s.nextSpare w.kind).isNone then (s.intStick F.INT_STKY_NOSPARE, 2)
  else if !s.swapTarget w || !s.inRun then (s, 3)
  else ((s.updSnt fun i => { i with q := i.q ++ [w] }).swapNext, 0)

/-- `INT_SWCMD`. -/
def State.swapCommand (s : State) (v : Nat) : State :=
  if !bitOf v 31 || v % 4 = 3 then s
  else
    let (s, r) := s.swapRequest { kind := v % 4, tgt := bitsOf v 8 6, leg := bitsOf v 16 2 }
    s.w F.INT_SWRES_RES 0 r

def execSwapRequest (src : Src) (value : Word) (s : State) : Host.Outcome State Fault Refusal :=
  .next (s.via src 0x16000 fun s => s.swapCommand value.toNat)

/-- A swap completes. -/
def State.swapDone (s : State) : State :=
  let s := (s.updSnt fun i => { i with run := none }).intStick F.INT_STKY_SWAP
  (s.mapChange).swapNext

/-- A swap fails: its spare is failed; it is tried once more with the next free spare (R492). -/
def State.swapFail (s : State) (r : SwapRun) : State :=
  let s := if r.sw.kind = 0 then s.w F.INT_SLMAP_MAP 0 (setBit (s.g F.INT_SLMAP_MAP) (8 * (r.spare - 32) + 6) true)
    else if r.sw.kind = 1 then s.w F.INT_ENGMAP_MAP 0 (setBit (s.g F.INT_ENGMAP_MAP) (8 * (r.spare - 16) + 5) true) else s
  let s := (s.updSnt fun i => { i with run := none }).intStick F.INT_STKY_SWFAIL
  let s := s.mapChange
  match r.again || r.sw.kind = 2, s.nextSpare r.sw.kind with
  | false, some i =>
    let sp := (if r.sw.kind = 0 then 32 else 16) + i
    ({ s with swpAcc := {} }.updSnt fun x => { x with run := some { sw := r.sw, spare := sp, at' := s.t, again := true } }).showSw
  | _, _ => s.swapNext

/-! ### Calibration of a slice (R113, R493) -/

/-- One sample of a parallel step: the reference `x`, the code `y` (both 2⁻⁸ LSB). -/
def CalAcc.pair (c : CalAcc) (x y : Int) : CalAcc :=
  { c with n := c.n + 1, x := c.x + x, y := c.y + y, xx := c.xx + x * x, xy := c.xy + x * y, yy := c.yy + y * y }

/-- One sample of a spare's own step: a third of it at 0 V, at +0.9 and at −0.9 of full scale (log entry 99). -/
def CalAcc.self (c : CalAcc) (y : Int) : CalAcc :=
  if c.n < 1667 then { c with n := c.n + 1, r0 := c.r0 + y }
  else if c.n < 3334 then { c with n := c.n + 1, rp := c.rp + y }
  else { c with n := c.n + 1, rm := c.rm + y }

/-- Sums of squares about the means, times n²: of x, of x with y, of y. -/
def CalAcc.cxx (c : CalAcc) : Int := c.n * c.xx - c.x * c.x
def CalAcc.cxy (c : CalAcc) : Int := c.n * c.xy - c.x * c.y
def CalAcc.cyy (c : CalAcc) : Int := c.n * c.yy - c.y * c.y

/-- The line y = m x + o of least squares through the step's samples, as a correction of the slice that gave y: offset o,
gain 1/m − 1 in 10⁻⁶. Where every x is the same no slope is fixed: the gain in force stays (log entry 99). -/
def CalAcc.fit (c : CalAcc) (old : CalSt) : CalSt :=
  if c.cxx ≤ 0 || c.cxy ≤ 0 then
    { off := rdiv 18 (c.y * (1000000 + old.gain) - c.x * 1000000) (c.n * (1000000 + old.gain)), gain := old.gain }
  else { off := rdiv 18 (c.y * c.cxx - c.cxy * c.x) (c.n * c.cxx), gain := rdiv 18 (c.cxx * 1000000) c.cxy - 1000000 }

/-- The correction that a spare's own step finds: 0 V reads 0, ±0.9 of full scale lie 14745.6 LSB apart. -/
def CalAcc.selfFit (c : CalAcc) (old : CalSt) : CalSt :=
  let d := c.rp * 1666 - c.rm * 1667
  { off := rdiv 18 c.r0 1667, gain := if d ≤ 0 then old.gain else rdiv 18 (37748736 * 1667 * 1666 * 1000000) (10 * d) - 1000000 }

/-- The RMS residual of the fit exceeds `lim` × 0.1 LSB (R493). -/
def CalAcc.resBad (c : CalAcc) (lim : Nat) : Bool :=
  let l : Int := 65536 * (lim * lim : Nat) * (c.n * c.n : Nat) / 100
  if c.cxx ≤ 0 then l < c.cyy else l * c.cxx < c.cyy * c.cxx - c.cxy * c.cxy

/-- The RMS code of the slice in its step is at least 5 % of full scale. -/
def CalAcc.wide (c : CalAcc) : Bool := c.n * 2 ^ 42 ≤ 400 * c.yy

/-- R493: self-calibration (phase 0) or, with `parallel`, parallel sampling (phase 1) of the spare has ended: 5000 samples.
`ok`: its own calibration succeeded. In phase 1 the spare is fitted to the corrected output of the worn slice where that one's last
residual was within the limit. -/
def doSliceSwapStep (ok parallel : Bool) (s : State) : State :=
  match s.snt.run with
  | some r =>
    if r.sw.kind ≠ 0 || r.phase ≠ b2n parallel || s.swpAcc.n < 5000 then s
    else
      let s := { s with t := s.now }
      if r.phase = 0 && !ok then s.swapFail r
      else
        let old := vget s.cal r.spare
        let new := if r.phase = 0 then s.swpAcc.selfFit old
          else if s.snt.resOk.getD r.sw.tgt true then s.swpAcc.fit old else old
        let s := { s with cal := vupd s.cal r.spare fun _ => new, swpAcc := {} }
        let s := s.updSnt fun i => { i with run := some { r with phase := r.phase + 1, at' := s.now } }
        if r.phase = 0 then s
        else if r.sw.tgt < 32 then s.noticeSwap 0 (r.sw.tgt / 2)
        else ((s.w F.SAF_NOTE_SKIND 0 0).w F.SAF_NOTE_SCNT 0 (s.g F.SAF_NOTE_SCNT + 1)).safStick F.SAF_STKY_SWAP 211
  | none => s

def execSliceSwapStep (ok parallel : Bool) (s : State) : Host.Outcome State Fault Refusal :=
  .next (doSliceSwapStep ok parallel s)

/-- R493, step 4: from the coming sample the spare takes the slice's place. -/
def doSliceSwap (s : State) : State :=
  match s.snt.run with
  | some r =>
    if r.sw.kind ≠ 0 || r.phase ≠ 2 then s
    else
      let i := r.spare - 32
      let t := tadd s.now sampleU
      let s := { s with t := t }
      let m := s.g F.INT_SLMAP_MAP
      let s := s.w F.INT_SLMAP_MAP 0 (m - bitsOf m (8 * i) 6 * 2 ^ (8 * i) + r.sw.tgt * 2 ^ (8 * i))
      let p := r.sw.tgt / 2
      let s := s.updSnt fun x => { x with
        badSl := setBit x.badSl r.sw.tgt true,
        deg := if r.sw.tgt < 32 then
            (p, tadd t (if s.resolver p then periodU (s.exc! p).freq else 100 * usU)) :: x.deg.filter fun (d : Nat × Nat) => d.1 ≠ p
          else x.deg,
        tmpSwap := if r.sw.tgt < 32 then x.tmpSwap else x.tmpSwap.set (r.sw.tgt - 34) (t + 1) }
      -- the lead conditions of port p are suspended from the swap sample (R345)
      let s := if r.sw.tgt < 32 then
          { s with susp := (p, tadd t msU) :: s.susp.filter fun (x : Nat × Nat) => x.1 ≠ p } else s
      s.swapDone
  | none => s

def execSliceSwap (s : State) : Host.Outcome State Fault Refusal := .next (doSliceSwap s)

/-- Register fields of observer instance `a` become those of instance `b`. -/
def State.copyObsRegs (s : State) (a b : Nat) : State :=
  let inst (m : Nat) (f : Nat × Nat) : Bool := keyPage f.1 = 8 && keyInst f.1 = m
  let src := s.fields.filter (inst b)
  let s := { s with fields := s.fields.filter fun f => !inst a f }
  { s with fields := src.foldl (fun m (f : Nat × Nat) => SMap.set 0 m (f.1 % 4194304 + 4194304 * a) f.2) s.fields }

/-- The spare that is being loaded for port `n` runs beside the serving engine from the state of the boundary sample on
(R494). It has the same inputs, so it differs from the serving engine only from a mismatch of that one on: from then on it
is kept apart. `pre` is the state before the engines took the sample; `upset`: the serving engine's copies differed. -/
def State.shadowRun (s pre : State) (n : Nat) (upset : Bool) : State :=
  match s.snt.run with
  | some r =>
    if r.sw.kind = 1 && r.phase = 1 && r.sw.tgt = n && !r.sw.hard && r.at' + 1 < s.k && (upset || r.sh.isSome) then
      let m := pre.engine n
      let u := { pre with obs := vupd pre.obs m fun o => r.sh.getD o }.obsSample n false
      s.updSnt fun i => { i with run := some { r with sh := some (u.obs! m) } }
    else s
  | none => s

/-- R494: at an epoch boundary the spare is loaded; 25 samples later it serves the port, after a hard failure at the next
boundary. The row comes with the boundary, before its sample is taken. -/
def doEngineSwap (s : State) : State :=
  match s.snt.run with
  | some r =>
    if r.sw.kind ≠ 1 then s
    else
      let n := r.sw.tgt
      if r.phase = 0 then
        if s.gb F.GLB_CSTAT_BUSY || !s.bDone then s
        else
          let s := { s with t := tadd s.now sampleU }
          let s := s.updSnt fun i => { i with run := some { r with phase := 1, at' := s.k } }
          s.noticeSwap 1 n
      else if s.k < r.at' + (if r.sw.hard then 1 else 25) || !s.bDone then s
      else
        let s := { s with t := tadd s.now sampleU }
        let old := s.engine n
        let new := r.spare
        let i := new - 16
        let s := s.copyObsRegs new old
        let s := { s with obs := vupd s.obs new fun _ => { r.sh.getD (s.obs! old) with dead := false, misRun := 0, misCnt := 0 },
                          obsOld := vupd s.obsOld new fun _ => vget s.obsOld old }
        let s := s.w F.OBS_MAP_ENG n new
        let s := if r.sw.hard then s.reacquire new else s
        let s := (s.setOst old oOff).updObs old fun _ => {}
        let m := s.g F.INT_ENGMAP_MAP
        -- a spare that leaves service is failed, an engine 0 to 15 is marked
        let m := if 16 ≤ old then setBit (setBit m (8 * (old - 16) + 4) false) (8 * (old - 16) + 5) true else m
        let m := m - bitsOf m (8 * i) 6 * 2 ^ (8 * i) + (n + 16) * 2 ^ (8 * i)
        let s := s.w F.INT_ENGMAP_MAP 0 m
        let s := if old < 16 then s.updSnt fun x => { x with badEng := setBit x.badEng old true } else s
        s.swapDone
  | none => s

def execEngineSwap (s : State) : Host.Outcome State Fault Refusal := .next (doEngineSwap s)

/-- R490: three mismatches in succession are a hard failure, four within a window of one second an intermittent one. -/
def doEngineFailure (m : Nat) (s : State) : State :=
  match s.portOf m with
  | none => s
  | some n =>
    let o := s.obs! m
    let hard := 3 ≤ o.misRun && !o.dead
    if hard || 4 ≤ o.misCnt then
      let s := { s with t := s.now }
      let s := if hard then (if s.ost m = oLot then s else s.enterLot m).updObs m fun o => { o with dead := true } else s
      if s.gb F.INT_CFG_AUTO_ENG then
        (s.swapRequest { kind := 1, tgt := n, hard := (s.obs! m).dead }).1.updObs m fun o => { o with misCnt := 0 }
      else s
    else s

def execEngineFailure (m : Fin 18) (s : State) : Host.Outcome State Fault Refusal := .next (doEngineFailure m s)

/-- R489: the two copies of an engine are compared; a mismatch is counted. -/
def State.datapath (s : State) (m : Nat) (bad : Bool) : State :=
  let s := s.updObs m fun o =>
    let fresh := 5000000 ≤ s.k - o.misAt
    let cnt := if fresh then 0 else o.misCnt
    { o with misRun := if bad then o.misRun + 1 else 0, misCnt := if bad then cnt + 1 else cnt,
             misAt := if fresh then s.k / 5000000 * 5000000 else o.misAt }
  if bad then (s.bump F.INT_DPMCNT_COUNT).intStick F.INT_STKY_DPMIS else s

/-! ### Driver legs (R103, R104, R495) -/

/-- R103: the averages of one second; `dead`: legs that carry no current while the others do. -/
def doLegMeasure (n : Nat) (legs : Vector (BitVec 16) 4) (dead : BitVec 4) (s : State) : State :=
  if s.drv n ≠ dRun || tdiff s.now (s.snt.legAt.getD n 0) < 1000 * msU then s
  else
    let s := { s with t := s.now }.updSnt fun i => { i with legAt := i.legAt.set n s.now }
    s.each 4 fun s k =>
      if s.g (F.EXC_LEG_LSTATE k) n = 1 then s
      else
        let r := (vget legs k).toNat
        let s := (s.w (F.EXC_LEG_RES k) n r).measured (F.EXC_LEG_STATUS k) n (s.detStatus false false)
        let high := Config.legTrim n k * (100 + s.g F.EXC_DTH_LEG_TH n) < 100 * r
        let c := if high then vget (s.exc! n).legN k + 1 else 0
        let s := s.updExc n fun e => { e with legN := vupd e.legN k fun _ => c }
        if 3 ≤ c || dead.getLsbD k then
          let s := s.stickEv F.EXC_STKY_LEG_WORN n (48 + n)
          (s.swapRequest { kind := 2, tgt := n, leg := k }).1
        else s

def execLegMeasure (n : Fin 16) (legs : Vector (BitVec 16) 4) (dead : BitVec 4) (s : State) :
    Host.Outcome State Fault Refusal := .next (doLegMeasure n legs dead s)

/-- R104: at the first crossing at least one sample after the notice the leg is retired. -/
def doLegRetire (n : Nat) (s : State) : State :=
  match (s.exc! n).retire with
  | some (k, notice) =>
    let t := s.crossAt n
    if !(s.crossing n && (sampleU : Int) ≤ tdiff t notice) then s
    else
      let s := { s with t := t }.updExc n fun e => { e with retire := none }
      let s := (s.w (F.EXC_LEG_LSTATE k) n 1).w F.EXC_STAT_LEGS n (s.g F.EXC_STAT_LEGS n - 1)
      let left := s.g F.EXC_STAT_LEGS n
      let s := if left = 2 then s.stickEv F.EXC_STKY_LEGS_LOW n (48 + n) else s
      let s := if left < 2 && s.drv n ≠ dFault && s.resolver n then s.faultDrv n else s
      s.swapDone
  | none => s

def execLegRetire (n : Fin 16) (s : State) : Host.Outcome State Fault Refusal := .next (doLegRetire n s)

/-! ### Background calibration (R113, R114) -/

/-- The position that a step calibrates: 0 to 31, 34, 35, then none. -/
def calSlice (i : Nat) : Option Nat := if i < 32 then some i else if i < 34 then some (i + 2) else none

/-- R493: a slice found worn at the end of its step. -/
def State.sliceWorn (s : State) (p : Nat) : Bool :=
  let x := s.sliceOf p
  let c := vget s.cal x
  s.g F.INT_ADCLIM_OFS_LIM * 256 < (c.off - Config.sliceOff x).natAbs ||
    s.g F.INT_ADCLIM_GAIN_LIM * 100 < (c.gain - Config.sliceGain x).natAbs ||
    3 ≤ s.snt.resBad.getD p 0

/-- A sample in the calibration step under way, by the lowest free spare, and in the phase of a slice swap (R113, R493). The
sums of a step begin anew with another spare; without a free one nothing is summed (R114). -/
def State.calSample (s : State) (inp : SampleIn) : State :=
  let code (i : Nat) : Int := (vget inp.codes i).toInt
  let c := s.calAcc
  let acc : CalAcc := match s.nextSpare 0 with
    | none => {}
    | some sp =>
      let c := if c.sp = sp then c else { sp := sp }
      if 5000 ≤ c.n then c
      else match calSlice s.calStep with
        | none => c.self (code (32 + sp) * 256)
        | some p => c.pair ((vget s.cal (32 + sp)).apply (code (32 + sp))) (code (s.sliceOf p) * 256)
  let s := { s with calAcc := acc }
  match s.snt.run with
  | some r =>
    if r.sw.kind ≠ 0 || 1 < r.phase || 5000 ≤ s.swpAcc.n then s
    else
      let y := code r.spare * 256
      let x := s.sliceOf r.sw.tgt
      { s with swpAcc := if r.phase = 0 then s.swpAcc.self y else s.swpAcc.pair ((vget s.cal x).apply (code x)) y }
  | none => s

/-- A new correction moves by at most 0.5 LSB and 100 · 10⁻⁶ (R114); whether more is left. -/
def CalSt.toward (c new : CalSt) (gain : Bool) : CalSt × Bool :=
  let dOff := clampI (-128) 128 (new.off - c.off)
  let dGain := if gain then clampI (-100) 100 (new.gain - c.gain) else 0
  ({ off := c.off + dOff, gain := c.gain + dGain }, dOff ≠ new.off - c.off || (gain && dGain ≠ new.gain - c.gain))

/-- R113: the end of step `i` of the cycle, of 1 ms, 5000 samples. What an update leaves sets `DRIFT` (R114), which a cycle without one
clears (log entry 99). -/
def doCalibrationStep (i : Nat) (s : State) : State :=
  match s.nextSpare 0 with
  | none => s
  | some sp =>
    if s.calAcc.n < 5000 || s.calStep ≠ i then s
    else
      let s := { s with t := s.now }
      let acc := s.calAcc
      let next := (i + 1) % 35
      let x := match calSlice i with | some p => s.sliceOf p | none => 32 + sp
      let old := vget s.cal x
      let new := if (calSlice i).isSome then acc.fit old else acc.selfFit old
      let (c, left) := old.toward new ((calSlice i).isNone || acc.wide)
      let s := { s with calStep := next, calAcc := { sp := sp }, cal := vupd s.cal x fun _ => c }
      let s := if left then (s.w F.ACQ_CALSTAT_DRIFT 0 1).updSnt fun z => { z with calLeft := true }
        else if next = 0 && !s.snt.calLeft then s.w F.ACQ_CALSTAT_DRIFT 0 0 else s
      let s := if next = 0 then s.updSnt fun z => { z with calLeft := false } else s
      let s := match calSlice i with
        | none => s
        | some p =>
          let bad := acc.resBad (s.g F.INT_ADCLIM_RES_LIM)
          let s := s.updSnt fun z => { z with resBad := z.resBad.set p (if bad then z.resBad.getD p 0 + 1 else 0),
                                              resOk := z.resOk.set p (!bad) }
          if s.gb F.INT_CFG_AUTO_ADC && s.sliceWorn p && !bitOf s.snt.badSl p then
            (s.swapRequest { kind := 0, tgt := p }).1
          else s
      s.w F.ACQ_CALSTAT_SLICE 0 ((calSlice next).getD (32 + ((s.nextSpare 0).getD sp)))

def execCalibrationStep (i : Fin 35) (s : State) : Host.Outcome State Fault Refusal := .next (doCalibrationStep i s)

/-! ### SRAM (R485 to R487, R496, Table 17-1) -/

/-- Queues a row for repair; a bank without a spare row keeps it in service. -/
def State.queueRow (s : State) (b r : Nat) : State :=
  if 12 ≤ b || s.snt.rows.contains (b, r) || s.gb F.INT_ROWB_FULL b then s
  else
    let s := s.updSnt fun i => { i with rows := i.rows ++ [(b, r)] }
    ((s.w F.INT_ROWB_PEND b (s.g F.INT_ROWB_PEND b + 1)).intStick F.INT_STKY_ROWQ).mapChange

/-- The row of a word. -/
def rowOf (word : Nat) : Nat × Nat := (word / 16384, word % 16384 / 32)

/-- `INT_ROWREQ`. -/
def State.rowRequest (s : State) (v : Nat) : State :=
  if bitOf v 31 then s.queueRow (rowOf (v % 2 ^ 18)).1 (rowOf (v % 2 ^ 18)).2 else s

def execRowreq (src : Src) (value : Word) (s : State) : Host.Outcome State Fault Refusal :=
  .next (s.via src 0x16000 fun s => s.rowRequest value.toNat)

/-- A slot whose live or shadow entry is poisoned enters BAD (Table 17-1). -/
def State.slotPoisoned (s : State) (word : Nat) : State :=
  let a := 8 * word
  let j : Option Nat :=
    if liveBase ≤ a && a < shadowBase then some ((a - liveBase) / 32)
    else if shadowBase ≤ a && a < firingBase then some ((a - shadowBase) / 16) else none
  match j with
  | some j => (s.setSlot j { s.slot! j with st := gBad, com := none, pred := none }).geyStick F.GEY_STKY_BADSLOT 174
  | none => s

/-- An uncorrectable word (R485). -/
def State.eccBad (s : State) (word : Nat) : State :=
  let s := ((s.bump F.INT_UECNT_COUNT).w F.INT_UEADDR_WORD 0 word).w F.INT_UEADDR_SYM 0 15
  let s := s.intStick F.INT_STKY_UE
  let s := { s with poison := if s.poison.contains word then s.poison else s.poison ++ [word] }
  let s := s.slotPoisoned word
  if s.gb F.INT_CFG_AUTO_ROW then s.queueRow (rowOf word).1 (rowOf word).2 else s

/-- A corrected word; the same symbol in three passes marks its row (R487). -/
def State.eccFixed (s : State) (word sym runs : Nat) : State :=
  let s := ((s.bump F.INT_CECNT_COUNT).w F.INT_CEADDR_WORD 0 word).w F.INT_CEADDR_SYM 0 sym
  let s := s.intStick F.INT_STKY_CE
  if 3 ≤ runs && s.gb F.INT_CFG_AUTO_ROW then s.queueRow (rowOf word).1 (rowOf word).2 else s

/-- The scrubber reads a disturbed word (R485): a correction is written back; an error that the code takes for another code
word leaves that word. A poisoned word stays so. -/
def State.eccHit (s : State) (old : List (Nat × Nat × Nat)) (h : EccHit) : State :=
  if s.poison.contains h.word then s
  else match s.eccRead h.word h.err with
    | .bad => s.eccBad h.word
    | .clean => s.setSramBytes (8 * h.word) ((List.range 8).map fun i =>
        s.sramByte (8 * h.word + i) ^^^ h.err.extractLsb' (8 * (i + 3)) 8)
    | .fixed sym w =>
      let runs := match old.find? fun x => x.1 = h.word && x.2.1 = sym with
        | some x => x.2.2 + 1
        | none => 1
      let s := s.setSramBytes (8 * h.word) (w.drop 3)
      let s := s.updSnt fun i => { i with hist := i.hist ++ [(h.word, sym, runs)] }
      s.eccFixed h.word sym runs

/-- R486: a pass ends: the scrubber has met the words known as uncorrectable again, and those that `hits` disturbed. -/
def doScrubPass (hits : List EccHit) (s : State) : State :=
  let s := { s with t := s.now }
  let len := (tdiff s.now s.snt.scrubAt).toNat / 6400000
  let s := (s.w F.INT_SCRUB_PASS 0 (min len 65535)).updSnt fun i => { i with scrubAt := s.now }
  let old := s.snt.hist
  let s := s.updSnt fun i => { i with hist := [] }
  let s := s.poison.foldl State.eccBad s
  hits.foldl (fun s h => s.eccHit old h) s

def execScrubPass (hits : List EccHit) (s : State) : Host.Outcome State Fault Refusal := .next (doScrubPass hits s)

/-- R488: the check of every millisecond; `bad`: the address of a register whose parity fails. -/
def doRegisterParityCheck (bad : Option Nat) (s : State) : State :=
  match bad with
  | none => s
  | some a =>
    let s := if inImage a then { s with safPar := true } else s
    if hasAcc a .rw || hasAcc a .rwk then { s with t := s.now }.intStick F.INT_STKY_REGPAR else s

def execRegisterParityCheck (bad : Option Nat) (s : State) : Host.Outcome State Fault Refusal :=
  .next (doRegisterParityCheck bad s)

/-- Spare row `j` of bank `b` as Table 17-3 codes it: bit 15 in use, bit 14 failed, bits 8:0 the row it replaces. -/
def State.rowSpare (s : State) (b j : Nat) : Nat := SMap.get 0 s.snt.rowMap (64 * b + j)

/-- All 64 spares of a bank are used, in service or failed. -/
def State.bankFull (s : State) (b : Nat) : Bool := (List.range 64).all fun j => s.rowSpare b j / 2 ^ 14 ≠ 0

/-- One queued row takes the next free spare row of its bank (R496); a spare row that served it has failed with it. -/
def State.repairRow (s : State) (b r : Nat) : State :=
  match (List.range 64).find? fun j => s.rowSpare b j / 2 ^ 14 = 0 with
  | none => (s.w F.INT_ROWB_FULL b 1).intStick F.INT_STKY_BANKX
  | some j =>
    let s := match (List.range 64).find? fun i => s.rowSpare b i = 0x8000 + r with
      | some i =>
        (s.updSnt fun x => { x with rowMap := SMap.set 0 x.rowMap (64 * b + i) (0x4000 + r) }).w F.INT_ROWB_USED b
          (s.g F.INT_ROWB_USED b - 1)
      | none => s
    let s := s.updSnt fun i => { i with rowMap := SMap.set 0 i.rowMap (64 * b + j) (0x8000 + r) }
    let s := (s.w F.INT_ROWB_USED b (s.g F.INT_ROWB_USED b + 1)).intStick F.INT_STKY_ROWAPP
    if s.bankFull b then (s.w F.INT_ROWB_FULL b 1).intStick F.INT_STKY_BANKX else s

/-- The queued rows are repaired in step 3 of the bring-up order (R496). -/
def State.repairRows (s : State) : State :=
  let rows := s.snt.rows
  let s := s.updSnt fun i => { i with rows := [] }
  let s := s.each 12 fun s b => s.w F.INT_ROWB_PEND b 0
  let s := rows.foldl (fun s (x : Nat × Nat) => s.repairRow x.1 x.2) s
  if rows.isEmpty then s else s.mapChange

/-! ### Aging and health (R499, R500) -/

/-- The status of a monitor after a measurement, and its run beyond the limit. -/
def State.ageStep (s : State) (i : Nat) (beyond : Bool) (st : Fld) (n : Nat) : State :=
  let c := if beyond then s.snt.age.getD i 0 + 1 else 0
  let s := (s.updSnt fun x => { x with age := x.age.set i c }).measured st n (s.detStatus false (3 ≤ c))
  if 3 ≤ c then s.intStick F.INT_STKY_AGE else s

/-- R499: one measurement. -/
def doAgingMeasure (what : AgeIn) (s : State) : State :=
  let s := { s with t := s.now }
  match what with
  | .ringOsc i d =>
    (s.w F.INT_RO_DRIFT i (enc 16 (satS 16 d))).ageStep i (s.g F.INT_AGELIM_RO_LIM * 10 < d.natAbs) F.INT_RO_STATUS i
  | .bandgap v =>
    (s.w F.INT_BGAP_VAL 0 (enc 16 (satS 16 v))).ageStep 8 (s.g F.INT_AGELIM_BG_LIM * 10 < v.natAbs) F.INT_BGAP_STATUS 0
  | .adcRef v =>
    (s.w F.INT_ADCREF_VAL 0 (enc 16 (satS 16 v))).ageStep 9 (s.g F.INT_AGELIM_REF_LIM * 10 < v.natAbs) F.INT_ADCREF_STATUS 0
  | .junction q =>
    (s.w F.INT_TJ_VAL 0 (enc 16 (satS 16 q))).measured F.INT_TJ_STATUS 0 (s.detStatus false false)

def execAgingMeasure (what : AgeIn) (s : State) : Host.Outcome State Fault Refusal := .next (doAgingMeasure what s)

/-- The band of a junction temperature in Q8.8 °C (R500). -/
def tjBand (q : Int) : Nat :=
  if q < -20 * 256 then 0 else if q < 85 * 256 then 1 else if q < 105 * 256 then 2 else if q ≤ 125 * 256 then 3 else 4

/-- R500: an hour, or a minute, of powered time has passed. -/
def doHealthCount (hour : Bool) (s : State) : State :=
  let s := { s with t := s.now }
  if hour then s.bump F.INT_HOURS_COUNT else s.bump F.INT_TJB_COUNT (tjBand (s.gi F.INT_TJ_VAL))

def execHealthCount (hour : Bool) (s : State) : Host.Outcome State Fault Refusal := .next (doHealthCount hour s)

/-! ### The Ash record (R501 to R503) -/

/-- RANG and velocity of the engine of port `n`, from the state of the newest sample projected to its instant, as the DEC
entry of the output at that sample carries them (Table 17-5). -/
def State.ashKeep (s : State) (n : Nat) : State :=
  let m := s.engine n
  let g := s.obsWords m s.now (s.obsStatus m s.now)
  s.updAcq n fun a => { a with oObs := (lget g 0, lget g 3) }

/-- The DEC entry of a port (Table 17-5). -/
def State.ashDec (s : State) (n : Nat) : State :=
  let a := s.acq! n
  let m := s.engine n
  let on := s.resolver n
  let st := s.obsStatus m s.t
  let g := if s.ost m = oOff then (0, 0) else if on then a.oObs
    else (lget (s.obsWords m s.t st) 0, lget (s.obsWords m s.t st) 3)
  let at' := if on then a.oAt else s.t
  let e := if on then s.g F.ACQ_ENVL_VAL n else 0
  s.ashPut (header 2 n (if on then s.g F.ACQ_DSIN_STATUS n else 0) (s.epochOf n) at' ++
    leBytes 3 (enc 24 (if on then satS 24 a.oS else 0)) ++ leBytes 3 (enc 24 (if on then satS 24 a.oC else 0)) ++
    leBytes 2 (min 65535 ((e + 128) / 256)) ++ leBytes 4 g.1 ++ leBytes 4 g.2 ++
    leBytes 4 (if on then (s.div! n).th else 0) ++ leBytes 1 st ++
    leBytes 1 (s.ost m + 8 * b2n (s.gb F.DIV_STS_DIVL n)))

/-- The first multiple of a period at or after the newest sample. -/
def State.gridAt (s : State) (p : Nat) : Nat := Sys2Proof.Machine.gridAt s.now p

/-- R502: the DEC entries of an instant of the grid, while the record runs or writes its further entries (R503). -/
def doAshEntry (s : State) : State :=
  let t := s.gridAt (s.g F.INT_ASHCFG_ASH_PER * 10 * usU)
  if s.gb F.INT_CFG_ASH_EN && (s.g F.INT_ASHTCNT_STATE = 1 || s.g F.INT_ASHTCNT_STATE = 2) && tdiff t (tadd s.now sampleU) < 0 && s.snt.decAt ≠ t + 1 then
    let s := { s with t := t }.updSnt fun i => { i with decAt := t + 1 }
    (s.each 16 fun s n => if bitOf (s.g F.INT_ASHCFG_ASH_PORTS) n then s.ashDec n else s).ashFlush
  else s

def execAshEntry (s : State) : Host.Outcome State Fault Refusal := .next (doAshEntry s)

/-- The TIME entry of an instant. -/
def State.ashTime (s : State) (t : Nat) : State := (s.ashPut (s.timeRec t)).ashFlush

/-- The trigger (R503): a TRIG entry, then `POST` further entries; a cause in POST or FROZEN is counted. -/
def State.ashTrigger (s : State) (cause extra : Nat) : State :=
  match s.g F.INT_ASHTCNT_STATE with
  | 1 =>
    let s := s.w F.INT_ASHTCNT_CAUSE 0 cause
    let s := s.w F.INT_ASHSTAT_TPTR 0 (s.g F.INT_ASHSTAT_WPTR)
    let s := s.ashPut (header 0xA 0 s.ownStatus (s.g F.GLB_EPOCH_EPOCH) s.t ++ leBytes 1 cause ++ leBytes 1 extra ++
      leBytes 2 0 ++ leBytes 4 (s.regWord 0x16110))
    let post := s.g F.INT_ASHTRIG_POST
    if post = 0 then ((s.w F.INT_ASHTCNT_STATE 0 3).updSnt fun i => { i with frz := true }).ashFlush
    else (s.w F.INT_ASHTCNT_STATE 0 2).updSnt fun i => { i with left := post }
  | 2 => s.bump F.INT_ASHTCNT_COUNT
  | 3 => s.bump F.INT_ASHTCNT_COUNT
  | _ => s

/-- R503: an enabled cause of Table 17-6 has come about. -/
def doAshTrigger (cause : Nat) (s : State) : State :=
  if s.ashDue.testBit cause && cause ≠ 0 then
    { s with t := s.now, ashDue := setBit s.ashDue cause false }.ashTrigger cause 0
  else s

def execAshTrigger (cause : Fin 8) (s : State) : Host.Outcome State Fault Refusal := .next (doAshTrigger cause s)

/-- `INT_ASHCMD.ARM`: recording resumes from FROZEN. -/
def State.ashArm (s : State) : State := if s.g F.INT_ASHTCNT_STATE = 3 then s.w F.INT_ASHTCNT_STATE 0 1 else s

def execArm (src : Src) (s : State) : Host.Outcome State Fault Refusal := .next (s.via src 0x16000 fun s => s.ashArm)

def execTrig (src : Src) (s : State) : Host.Outcome State Fault Refusal :=
  .next (s.via src 0x16000 fun s => s.ashTrigger 6 0)

/-- `INT_ASHCMD`. -/
def State.ashCommand (s : State) (v : Nat) : State :=
  let s := if bitOf v 0 then s.ashArm else s
  if bitOf v 1 then s.ashTrigger 6 0 else s

/-- Recording begins at the end of step 3 (R504), and where `ASH_EN` becomes 1; `ASH_EN` = 0 turns a recording off. -/
def State.ashEnable (s : State) : State :=
  let st := s.g F.INT_ASHTCNT_STATE
  if s.gb F.INT_CFG_ASH_EN then (if st = 0 then s.w F.INT_ASHTCNT_STATE 0 1 else s)
  else if st = 1 then s.w F.INT_ASHTCNT_STATE 0 0 else s

end Sys2Proof.Machine
end

