-- ==== Sys2Proof/Machine/Stage.lean ====
section
/-! DEFINITION. The staging set and commits (R36 to R44, R402, R403): entering a write, owner and capacity, DISCARD, the
groups of a commit, the acceptance of a commit, the deferred completions that wait for staged words. -/

namespace Sys2Proof.Machine

abbrev stageMax : Nat := 2048
abbrev groupMax : Nat := 128

/-! ### Deferred completions (R402) -/

/-- Changes the deferred completion of SRAMWR descriptor `did`: one word fewer to wait for, refused or not. With its last
word the result is known. -/
def State.wordDone (s : State) (did : Nat) (refused : Bool) : State :=
  { s with host := { s.host with deferred := s.host.deferred.map fun d =>
      match d.wait with
      | .words k left bad =>
        if k = did && d.ready.isNone then
          let bad := bad + b2n refused
          { d with wait := .words k (left - 1) bad, doneAt := s.t,
                   ready := if left ≤ 1 then some (if bad = 0 then 0 else 1, bad) else none }
        else d
      | _ => d } }

/-- The words of descriptor `did` left the set unapplied. -/
def State.wordsDropped (s : State) (did : Nat) : State :=
  { s with host := { s.host with deferred := s.host.deferred.map fun d =>
      match d.wait with
      | .words k _ _ => if k = did && d.ready.isNone then { d with ready := some (5, 0), doneAt := s.t } else d
      | _ => d } }

/-! ### The set (R37, R38) -/

/-- Shows the set's size and owner; the owner of an empty set is none. -/
def State.showStage (s : State) (p : Option Path) : State :=
  let s := s.w F.GLB_CSTAT_STAGED 0 s.staged.length
  match p with
  | some p => (s.w F.GLB_CSTAT_OWNER 0 (pathOwner p)).w F.HIF_STAT_SOWN 0 (pathRing p)
  | none => (s.w F.GLB_CSTAT_OWNER 0 0).w F.HIF_STAT_SOWN 0 0

/-- The path may stage: the set is empty, or it owns the set. -/
def State.mayStage (s : State) (p : Path) : Bool :=
  s.staged.isEmpty || (s.g F.GLB_CSTAT_OWNER = pathOwner p && (pathOwner p ≠ 2 || s.g F.HIF_STAT_SOWN = pathRing p))

/-- The path may commit or discard: the COMMAND rings count as one (R38, R403). -/
def State.mayCommit (s : State) (p : Path) : Bool := s.staged.isEmpty || s.g F.GLB_CSTAT_OWNER = pathOwner p

/-- The target is in the set. -/
def State.inSet (s : State) (t : Target) : Bool := s.staged.any fun i => i.tgt = t

/-- Enters one write; a later write to the same target takes the place of the earlier one. -/
def State.enter (s : State) (p : Path) (i : StagedItem) : State :=
  match s.staged.find? fun j => j.tgt = i.tgt with
  | some old =>
    let s := { s with staged := s.staged.map fun j => if j.tgt = i.tgt then i else j }
    match old.did with
    | some k => s.wordDone k false
    | none => s
  | none => { s with staged := s.staged ++ [i] }.showStage (some p)

/-- A staged write of one register or word (R37, R38): 0 entered, 2 refused, 3 no place. -/
def State.stage (s : State) (p : Path) (t : Target) (v : Nat) : State × Nat :=
  if !s.mayStage p then (s.w F.GLB_CSTAT_REFUSED 0 1, 2)
  else if !s.inSet t && stageMax ≤ s.staged.length then
    ({ s with overflow := true }.w F.GLB_CSTAT_STAGE_OVF 0 1, 3)
  else (s.enter p { tgt := t, value := v, did := none }, 0)

/-- Empties the open set; the descriptors of its words complete with DISCARDED. -/
def State.emptySet (s : State) : State :=
  let dids := s.staged.filterMap fun i => i.did
  let s := dids.foldl State.wordsDropped s
  ({ s with staged := [], overflow := false } : State).showStage none

/-- `DISCARD` (R38, R39): 0 done, 2 refused. -/
def State.discard (s : State) (p : Path) : State × Nat :=
  if s.mayCommit p then (s.emptySet, 0) else (s.w F.GLB_CSTAT_REFUSED 0 1, 2)

/-! ### Groups (R40, R403) -/

/-- The port an observer instance address belongs to: n for `OBSn`, the port it serves for a spare's own address. -/
def State.obsGroupOf (s : State) (i : Nat) : Group :=
  if i < 16 then .port i else match s.portOf i with | some n => .port n | none => .rest

/-- The group of a staged register. -/
def State.groupOf (s : State) (addr : Nat) : Group :=
  if addr < 0x5000 then .port ((addr - 0x4000) / 0x100)
  else if addr < 0x5800 then .port ((addr - 0x5000) / 0x80)
  else if addr < 0x6000 then .exc
  else if addr < 0x7000 then .port ((addr - 0x6000) / 0x100)
  else if addr < 0x8000 then .rest
  else if addr < 0x9400 then s.obsGroupOf ((addr - 0x8000) / 0x100)
  else if addr < 0xA000 then .div
  else if addr < 0xB000 then .port ((addr - 0xA000) / 0x80)
  else if addr < 0xC000 then .port ((addr - 0xB000) / 0x80)
  else if addr < 0xD000 then .emu
  else if addr < 0xE000 then .gey
  else if addr < 0xF000 then .vnt
  else if addr < 0x10000 then .tmp
  else if addr < 0x13000 then .can0
  else if addr < 0x14000 then .can1
  else if addr < 0x15000 then .chn
  else if addr < 0x16000 then .twn
  else .int

/-- The group of a staged SRAM word: the live table, the first words of a CAN object, or the SRAM group. -/
def sramGroup (off : Nat) : Group :=
  if 0x104000 ≤ off && off < 0x106000 then .gey
  else if 0x120000 ≤ off && off < 0x128000 && off % 128 < 16 then (if off < 0x124000 then .can0 else .can1)
  else .sram

/-- The group of a write. -/
def State.groupAt (s : State) : Target → Group
  | .reg a => s.groupOf a
  | .sram o => sramGroup o

/-- The groups in the order of R40, the SRAM group last. -/
def groupOrder : List Group :=
  ((List.range 16).map Group.port) ++ [.exc, .div, .emu, .gey, .vnt, .tmp, .can0, .can1, .chn, .twn, .int, .rest, .sram]

/-- The set divided into its groups. -/
def State.groups (s : State) : List (Group × List StagedItem) :=
  (groupOrder.map fun g => (g, s.staged.filter fun i => s.groupAt i.tgt = g)).filter fun g => !g.2.isEmpty

/-- A group holds more than 128 writes; the SRAM group never does. -/
def tooBig (gs : List (Group × List StagedItem)) : Bool := gs.any fun g => g.1 ≠ .sram && groupMax < g.2.length

/-! ### Commit (R39, R41, R43) -/

/-- A commit by a path: 0 accepted, 2 refused, 6 too big. -/
def State.doCommit (s : State) (p : Path) : State × Nat :=
  if s.gb F.GLB_CSTAT_BUSY || !s.mayCommit p || s.overflow then (s.w F.GLB_CSTAT_REFUSED 0 1, 2)
  else if !s.staged.isEmpty && s.poisonIn 0x128000 0x130000 then ((s.emptySet.zeroSram 0x128000 0x130000).w F.GLB_CSTAT_REFUSED 0 1, 2)
  else
    let gs := s.groups
    if tooBig gs then (s.w F.GLB_CSTAT_TOO_BIG 0 1, 6)
    else
      let s := { s with commit := some { at' := s.t, groups := gs, first := none }, staged := [], overflow := false }
      ((s.w F.GLB_CSTAT_BUSY 0 1).showStage none, 0)

/-- `GLB_COMMIT` (Table 1-9): 0 done, 2 refused, 6 too big. -/
def State.commitWrite (s : State) (p : Path) (v : Nat) : State × Nat :=
  match bitOf v 0, bitOf v 1 with
  | true, true => (s.w F.GLB_CSTAT_REFUSED 0 1, 2)
  | true, false => s.doCommit p
  | false, true => s.discard p
  | false, false => (s, 0)

def execCommit (src : Src) (s : State) : Host.Outcome State Fault Refusal :=
  .next (s.via src 0x8 fun s => (s.doCommit src.path).1)

def execDiscard (src : Src) (s : State) : Host.Outcome State Fault Refusal :=
  .next (s.via src 0x8 fun s => (s.discard src.path).1)

end Sys2Proof.Machine
end

