-- ==== Sys2Proof/Machine/Host.lean ====
section
/-! DEFINITION. The host link, the rings and event delivery (chapter 14): ring set-up and doorbells, the command
descriptors that touch no register, completions, TIME records, MSI-X messages, the host heartbeat, Link reset. -/

namespace Sys2Proof.Machine

def State.updHost (s : State) (f : HostSt → HostSt) : State := { s with host := f s.host }

/-- A sticky bit of `HIF_STKY` with its event (R413). -/
def State.hifStick (s : State) (f : Fld) : State := s.stickEv f 0 (if f.lo = 8 then 239 else 238)

/-! ### Rings (R397 to R399) -/

/-- What waits for a ring goes with the ring: records for a D2H ring, the fence and the CAN entry of an H2D ring. -/
def State.ringGone (s : State) (r : Nat) : State :=
  let s := s.updHost fun h => { h with owed := h.owed.filter fun o => o.2.1 ≠ r, fences := h.fences.filter fun f => f ≠ r,
                                       deferred := h.deferred.filter fun d => !(d.ring = r && d.wait = .fence) }
  [0, 1].foldl (fun s c =>
    if ((s.can! c).entry.map fun e => e.ring) = some r then
      if (s.can! c).tx = some 128 then
        s.updCan c fun d => { d with purge := 0, entry := d.entry.map fun e => { e with gone := true, cancel := true } }
      else s.updCan c fun d => { d with purge := 0, entry := none }
    else if r < 8 && s.g F.HIF_RING_CFG_CLASS r = 1 + c then s.updCan c fun d => { d with purge := 0 }
    else s) s

/-- An enable of ring `r` that R397 refuses: class 3, or a second ring of a CAN class. -/
def State.enableBad (s : State) (r : Nat) : Bool :=
  let c := s.g F.HIF_RING_CFG_CLASS r
  r < 8 && (c = 3 || (c ≠ 0 && (List.range 8).any fun q => q ≠ r && s.gb F.HIF_RING_CFG_EN q && s.g F.HIF_RING_CFG_CLASS q = c))

/-- A write of `HIF_RINGr_CFG`. -/
def State.ringCfg (s : State) (r v : Nat) : State :=
  if s.gb F.HIF_RING_CFG_EN r then (if bitOf v 0 then s else (s.w F.HIF_RING_CFG_EN r 0).ringGone r)
  else
    let s := (s.writeFields (0x2108 + 0x20 * r) v .rw).w F.HIF_RING_CFG_EN r 0
    if !bitOf v 0 then s
    else if s.enableBad r then s.hifStick F.HIF_STKY_CFGBAD
    else
      let moved : Bool := s.g F.HIF_RING_HEAD_HEAD r ≠ 0
      let s := ((s.w F.HIF_RING_CFG_EN r 1).w F.HIF_RING_HEAD_HEAD r 0).w F.HIF_RING_DB_TAIL r 0
      let s := if moved then s.statusBlock r else s
      let s := (s.w F.HIF_RING_STAT_STOP r 0).w F.HIF_RING_STAT_ERR r 0
      if 8 ≤ r then s.record r (s.timeRec s.t) else s

/-- A write of a ring's base: ignored while the ring is enabled (R398). -/
def State.ringBase (s : State) (r addr v : Nat) : State :=
  if s.gb F.HIF_RING_CFG_EN r then s else s.writeFields addr v .rw

/-- A write of `HIF_RINGr_DB` (R399). -/
def State.doorbell (s : State) (r v : Nat) : State :=
  if s.ringSize r ≤ v % 65536 then s.hifStick F.HIF_STKY_DBBAD
  else
    let s := s.w F.HIF_RING_DB_TAIL r v
    if 8 ≤ r then s.flushOwed r else s

def execRingEnable (src : Src) (r : Fin 32) (value : Word) (s : State) : Host.Outcome State Fault Refusal :=
  .next (s.via src 0x2000 fun s => s.ringCfg r value.toNat)

def execDoorbell (src : Src) (r : Fin 32) (tail : Word) (s : State) : Host.Outcome State Fault Refusal :=
  .next (s.via src 0x2000 fun s => s.doorbell r tail.toNat)

/-- R396: an access of a ring to host memory failed: the ring stops. -/
def doHostMemoryAccessFailure (r err : Nat) (s : State) : State :=
  if s.gb F.HIF_RING_CFG_EN r then
    (({ s with t := s.now }.w F.HIF_RING_STAT_STOP r 1).w F.HIF_RING_STAT_ERR r (err + 1)).hifStick F.HIF_STKY_DMAERR
  else s

def execHostMemoryAccessFailure (r : Fin 32) (err : Fin 3) (s : State) : Host.Outcome State Fault Refusal :=
  .next (doHostMemoryAccessFailure r err s)

/-! ### Command descriptors (R401 to R403) -/

/-- A descriptor of a COMMAND ring executes: the ring runs, is of class COMMAND, and no fence holds it. -/
def State.cmdRuns (s : State) (r : Nat) : Bool :=
  s.ringRuns r && s.g F.HIF_RING_CFG_CLASS r = 0 && !s.host.fences.contains r

/-- A descriptor's effect, where its ring executes; then the head passes it and `fin` completes it. -/
def State.descr (s : State) (d : Desc) (act : State → State × Option (Nat × Nat)) (op : Nat) : State :=
  let s := s.here
  if !s.cmdRuns d.ring then s
  else
    let (s, res) := act s
    let s := s.consume1 d.ring
    match res with
    | some (r, v) => s.complete d.ring op d.cmpl r d.tag.toNat v []
    | none => s

/-- A completion that comes later; only a descriptor that asked for one keeps it. -/
def State.defer (s : State) (d : Desc) (op : Nat) (w : Await) : State :=
  if d.cmpl then
    s.updHost fun h => { h with deferred := h.deferred ++
      [{ ring := d.ring, op := op, tag := d.tag.toNat, cmpl := true, wait := w, ready := none }] }
  else s

/-- The words of a COMMAND ring descriptor lie where R401 lets them. -/
def sramRange (off n : Nat) : Bool := off % 4 = 0 && 0x100000 ≤ off && off + 4 * n ≤ 0x128000

/-- The staged SRAM write of a descriptor: whole or not at all (R402, R403). -/
def State.sramStage (s : State) (d : Desc) (op maxN off : Nat) (ws : List Word) : State × Option (Nat × Nat) :=
  let n := ws.length
  let p := Path.ring d.ring
  if n = 0 || maxN < n || !sramRange off n then (s, some (4, 0))
  else if !s.mayStage p then (s.w F.GLB_CSTAT_REFUSED 0 1, some (2, 0))
  else
    let fresh := (List.range n).countP fun i => !s.inSet (.sram (off + 4 * i))
    if stageMax < s.staged.length + fresh then ({ s with overflow := true }.w F.GLB_CSTAT_STAGE_OVF 0 1, some (3, 0))
    else
      let k := s.host.nextDid
      let s := (s.updHost fun h => { h with nextDid := k + 1 }).defer d op (.words k n 0)
      ((List.range n).foldl (fun s i =>
        s.enter p { tgt := .sram (off + 4 * i), value := (ws.getD i 0#32).toNat, did := if d.cmpl then some k else none }) s, none)

def execNop (d : Desc) (s : State) : Host.Outcome State Fault Refusal :=
  .next (s.descr d (fun s => (s, some (0, 0))) 0)

def execSramwr (d : Desc) (off : Nat) (words : List Word) (s : State) : Host.Outcome State Fault Refusal :=
  .next (s.descr d (fun s => s.sramStage d 3 4 off words) 3)

def execSramwrb (d : Desc) (off : Nat) (words : List Word) (s : State) : Host.Outcome State Fault Refusal :=
  .next (s.descr d (fun s => s.sramStage d 4 1024 off words) 4)

/-- COMMIT on a ring: the completion comes at COMMIT_DONE, or at once with `GLB_CSTAT` when refused. -/
def State.cmdCommit (s : State) (d : Desc) : State × Option (Nat × Nat) :=
  match s.doCommit (.ring d.ring) with
  | (s, 0) => (s.defer d 5 .commitDone, none)
  | (s, r) => (s, some (r, s.regWord 0xC))

def execOpCommit (d : Desc) (s : State) : Host.Outcome State Fault Refusal :=
  .next (s.descr d (fun s => s.cmdCommit d) 5)

def execOpDiscard (d : Desc) (s : State) : Host.Outcome State Fault Refusal :=
  .next (s.descr d (fun s => let (s, r) := s.discard (.ring d.ring); (s, some (r, 0))) 6)

/-- An opcode that Table 14-4 does not list. -/
def execBadDescriptor (d : Desc) (op : Byte) (s : State) : Host.Outcome State Fault Refusal :=
  .next (s.descr d (fun s => (s, some (4, 0))) op.toNat)

/-- A fence may release: no commit under way, no deferred completion of the ring left (Table 14-4). -/
def State.fenceFree (s : State) (r : Nat) : Bool :=
  !s.gb F.GLB_CSTAT_BUSY && !s.host.owed.any (fun o => o.1 = r) && !s.host.deferred.any fun d => d.ring = r && d.wait ≠ .fence

/-- The ring's fence releases: it completes and the head passes it. -/
def State.unfence (s : State) (r : Nat) : State :=
  match s.host.deferred.find? fun d => d.ring = r && d.wait = .fence with
  | none => s
  | some d =>
    if s.fenceFree r then
      let s := (s.updHost fun h => { h with fences := h.fences.filter fun f => f ≠ r, deferred := h.deferred.erase d }).consume1 r
      s.complete r 7 d.cmpl 0 d.tag 0 []
    else s

def doFence (d : Desc) (s : State) : State :=
  let s := s.here
  if !s.cmdRuns d.ring then s
  else
    (s.updHost fun h => { h with
      fences := d.ring.val :: h.fences
      deferred := h.deferred ++ [{ ring := d.ring, op := 7, tag := d.tag.toNat, cmpl := d.cmpl, wait := .fence, ready := none }] }).unfence d.ring

/-- FENCE: the head stays at it until its release (R401, R402). -/
def execFence (d : Desc) (s : State) : Host.Outcome State Fault Refusal := .next (doFence d s)

def execFenceRelease (r : Fin 8) (s : State) : Host.Outcome State Fault Refusal := .next (s.here.unfence r)

/-- 32 bytes of the Ash record as a read finds them: a poisoned word reads as open values (R485, R505). -/
def State.ashRead (s : State) (off : Nat) : State × List Byte :=
  (List.range 4).foldl (fun (x : State × List Byte) i =>
    let a := off + 8 * i
    if x.1.poisoned a then
      let (v, s) := (x.1.eccSeen a).draw 170
      (s, x.2 ++ leBytes 8 v.toNat)
    else (x.1, x.2 ++ x.1.sramBytes a 8)) (s, [])

/-- The ASH record of 32 bytes (Table 14-8). -/
def State.ashRecord (s : State) (r off : Nat) : State :=
  let (s, bs) := s.ashRead off
  s.recordWait r (s.g F.HIF_ROUTE1_ASH) (header 9 0 1 (s.g F.GLB_EPOCH_EPOCH) s.t ++ leBytes 4 off ++ leBytes 4 0 ++ bs)

def State.ashDesc (s : State) (d : Desc) (off len : Nat) : State × Option (Nat × Nat) :=
  if off % 32 ≠ 0 || len % 32 ≠ 0 || len < 32 || 0x100000 < off + len then (s, some (4, 0))
  else
    let s := (List.range (len / 32)).foldl (fun s i => s.ashRecord d.ring (off + 32 * i)) s
    if s.host.owed.any fun o => o.1 = d.ring.val then (s.defer d 8 .ash, none) else (s, some (0, 0))

def execAshrd (d : Desc) (off len : Nat) (s : State) : Host.Outcome State Fault Refusal :=
  .next (s.descr d (fun s => s.ashDesc d off len) 8)

/-- The result of a deferred completion whose instant has come. -/
def State.dueResult (s : State) (d : Deferred) : Option (Nat × Nat) :=
  match d.wait with
  | .ash => if s.host.owed.any fun o => o.1 = d.ring then none else some (0, 0)
  | .fence => none
  | _ => d.ready

/-- The first deferred completion of ring `r` whose instant has come is written (R402, R410). -/
def doDeferredCompletion (r : Nat) (s : State) : State :=
  match s.host.deferred.find? fun d => d.ring = r && (s.dueResult d).isSome with
  | none => s
  | some d =>
    let (res, v) := (s.dueResult d).getD (0, 0)
    let at' := if d.wait = .ash then s.now else d.doneAt
    let s := s.updHost fun h => { h with deferred := h.deferred.erase d }
    ({ s with t := at' }.complete r d.op d.cmpl res d.tag v [])

def execDeferredCompletion (r : Fin 8) (s : State) : Host.Outcome State Fault Refusal := .next (doDeferredCompletion r s)

/-- At COMMIT_DONE the COMMIT descriptors of the commit get their result. -/
def State.commitDone (s : State) : State :=
  let v := s.g F.GLB_EPOCH_FIRST + 256 * s.g F.GLB_EPOCH_LAST
  s.updHost fun h => { h with deferred := h.deferred.map fun d =>
    if d.wait = .commitDone && d.ready.isNone then { d with ready := some (0, v), doneAt := s.t } else d }

/-! ### TIME records (R409) and MSI-X messages (R414) -/

/-- The TIME record of the next instant of R409, up to the coming sample's, which it precedes in every ring. -/
def doTimeRecord (s : State) : State :=
  let t := s.gridAt msU
  if tdiff t (tadd s.now sampleU) ≤ 0 && s.host.lastTime ≠ t + 1 then
    let s := { s with t := t }.updHost fun h => { h with lastTime := t + 1 }
    let s := s.each 24 fun s i => s.record (8 + i) (s.timeRec t)
    s.ashTime t
  else s

/-- An instant at which STIME, in ns, is a multiple of 10⁶. -/
def execTimeRecord (s : State) : Host.Outcome State Fault Refusal := .next (doTimeRecord s)

/-- Vector `v`'s message is due. -/
def State.msixDue (s : State) (v : Nat) : Bool :=
  let c := vget s.host.vecs v
  let mt := s.g F.EVT_VEC_MTIME v
  let mc := s.g F.EVT_VEC_MCNT v
  0 < c.causes && (bitOf (s.g F.HIF_PBA_PEND 0) v || mt = 0 || (mc ≠ 0 && mc ≤ c.causes) ||
    mt * usU ≤ tdiff s.now c.first)

def doMsixMessage (v : Nat) (s : State) : State :=
  let s := s.here
  if !(s.msixDue v && s.host.msixEn) then s
  else if s.host.msixMask || s.gb F.HIF_MTC_MASK v || !s.master then
    s.w F.HIF_PBA_PEND 0 (setBit (s.g F.HIF_PBA_PEND 0) v true)
  else
    let s := s.w F.HIF_PBA_PEND 0 (setBit (s.g F.HIF_PBA_PEND 0) v false)
    let s := s.emit (.msix v (s.g F.HIF_MTAL_ADDR v + 2 ^ 32 * s.g F.HIF_MTAH_ADDR v) (s.g F.HIF_MTD_DATA v))
    s.updHost fun h => { h with vecs := vupd h.vecs v fun _ => {} }

def execMsixMessage (v : Fin 32) (s : State) : Host.Outcome State Fault Refusal := .next (doMsixMessage v s)

/-- Events pending, and whether `EVT_N` is low (R415, `EVT_STAT`). -/
def State.evtPending (s : State) : Nat := (List.range 256).countP fun e => bitOf (s.g F.EVT_PEND_PEND (e / 32)) (e % 32)
def State.evtLow (s : State) : Bool :=
  (List.range 256).any fun e => bitOf (s.g F.EVT_PEND_PEND (e / 32)) (e % 32) && s.gb F.EVT_CFG_PIN e

/-! ### Host heartbeat (R416) -/

/-- A write of `HIF_HBEAT` by a path. -/
def State.heartbeat (s : State) (p : Path) : State :=
  let counts : Bool := match p with | .spi => s.gb F.HIF_HBCFG_SPI | _ => s.gb F.HIF_HBCFG_PCIE
  if counts then s.updHost fun h => { h with hbRun := decide (s.g F.HIF_HBCFG_TMO ≠ 0), hbAt := s.t, hbExp := false } else s

def execHeartbeat (src : Src) (s : State) : Host.Outcome State Fault Refusal :=
  .next (s.via src 0x2000 fun s => s.heartbeat src.path)

/-- A write of `HIF_HBCFG`. -/
def State.hbCfg (s : State) (v : Nat) : State :=
  let s := s.writeFields 0x2018 v .rw
  let on : Bool := decide (s.g F.HIF_HBCFG_TMO ≠ 0)
  s.updHost fun h => { h with hbRun := on, hbAt := s.t, hbExp := h.hbExp && on }

def execHbcfgWrite (src : Src) (value : Word) (s : State) : Host.Outcome State Fault Refusal :=
  .next (s.via src 0x2000 fun s => s.hbCfg value.toNat)

def doHostHeartbeatExpiry (s : State) : State :=
  let tmo := s.g F.HIF_HBCFG_TMO * msU
  if s.host.hbRun && tmo ≤ tdiff s.now s.host.hbAt then
    let s := ({ s with t := s.now }.updHost fun h => { h with hbRun := false, hbExp := true }).hifStick F.HIF_STKY_HBTO
    if bitOf (s.g F.HIF_HBCFG_ACT) 0 then (s.canRingcan 0).canRingcan 1 else s
  else s

def execHostHeartbeatExpiry (s : State) : Host.Outcome State Fault Refusal := .next (doHostHeartbeatExpiry s)

/-! ### The link (R394 to R396, R417) -/

/-- A Link reset (R417, R44, R404). -/
def State.linkReset (s : State) : State :=
  let s := (List.range 32).foldl State.ringGone s
  let owner := s.g F.GLB_CSTAT_OWNER
  let h := s.host
  let s := { s with
    fields := s.fields.filter fun f => keyPage f.1 ≠ 2
    latches := s.latches.filter fun l => l.1 = 2
    host := { ssid := h.ssid, released := h.released, relAt := h.relAt, nextDid := h.nextDid, lastTime := h.lastTime } }
  if owner = 1 || owner = 2 then s.emptySet else s

/-- A hot reset, link-down or function level reset; during a warm reset it has no further effect (R456). -/
def execLinkReset (s : State) : Host.Outcome State Fault Refusal :=
  .next (if s.rst.warm then s else s.here.linkReset)

/-- The link has trained (R395): released by bring-up and by `PERST_N`, with its reference and its supplies. -/
def doLinkTrainingDone (speed width : Nat) (s : State) : State :=
  if s.host.released && s.rst.perstN && s.rst.phyOk && s.gb F.RST_STAT_PHYQ && s.gb F.RST_STAT_CLKQ && speed ≠ 0 && width ≠ 0 then
    (({ s with t := s.now }.w F.HIF_STAT_SPEED 0 speed).w F.HIF_STAT_WIDTH 0 width).updHost fun h => { h with up := true }
  else s

def execLinkTrainingDone (speed : Fin 4) (width : Fin 3) (s : State) : Host.Outcome State Fault Refusal :=
  .next (doLinkTrainingDone speed width s)

/-- A write of configuration space by the root complex, once the link is up. -/
def doConfigurationRequest (c : CfgReq) (s : State) : State :=
  if !s.host.up then s
  else
    let s := s.here
    match c with
    | .busMaster on => s.wb F.HIF_STAT_BME 0 on
    | .power d3 => s.wb F.HIF_STAT_D3 0 d3
    | .msix e m => (s.updHost fun h => { h with msixEn := e, msixMask := m }).wb F.HIF_STAT_MSIX 0 (e && !m)
    | .payload k => s.updHost fun h => { h with maxPayload := k }
    | .readRequest k => s.updHost fun h => { h with maxRead := k }

def execConfigurationRequest (c : CfgReq) (s : State) : Host.Outcome State Fault Refusal :=
  .next (doConfigurationRequest c s)

/-- `PERST_N` rises: a warm reset it holds may end, and the host link is released where bring-up has released it (R469). -/
def doPerstNRelease (s : State) : State :=
  if s.rst.perstN then s
  else { s with t := s.now, rst := { s.rst with perstN := true, byPerst := false }, host := { s.host with relAt := s.now } }

def execPerstNRelease (s : State) : Host.Outcome State Fault Refusal := .next (doPerstNRelease s)

/-- Bring-up releases the host link and the SPI port (R469, R473). -/
def State.hostRelease (s : State) : State := s.updHost fun h => { h with released := true, relAt := s.t }

end Sys2Proof.Machine
end

