-- ==== Sys2Proof/Machine/Epoch.lean ====
section
/-! DEFINITION. Epoch boundaries (R26, R40 to R43, R403): which registers are staged, what each group of a commit does when
it is applied, port restarts, group copies, the end of a commit; the wrap of STIME (R10). -/

namespace Sys2Proof.Machine

/-! ### Staged registers (R36) -/

/-- Addresses of registers that act at once although they lie in a block of R36: the common blocks of ACQ, LRN and VNT,
SAF, and single registers that their chapters name. -/
def actsAtOnce (addr : Nat) : Bool :=
  addr < 0x4000 || (0x7000 ≤ addr && addr < 0x8000) || (0xA800 ≤ addr && addr < 0xB000) ||
    (0xE800 ≤ addr && addr < 0xF000) || (0x10000 ≤ addr && addr < 0x12000) ||
    (0x8000 ≤ addr && addr < 0x9200 && (addr % 0x100 = 0x40 || addr % 0x100 = 0x44)) ||
    [0xD010, 0xD014, 0xD018, 0xD030, 0x12080, 0x13080, 0x12100, 0x13100, 0x14030, 0x14034, 0x15028].contains addr

/-- The register at an address is staged. Plan 0 is read-only (R94). -/
def isStaged (addr : Nat) : Bool :=
  !actsAtOnce addr && !(0x5900 ≤ addr && addr < 0x5940) && hasAcc addr .rw

/-- The register that a staged write of an address changes; a spare's own address takes none while it serves (R148). -/
def State.writeTarget (s : State) (addr : Nat) : Option Nat :=
  if 0x8000 ≤ addr && addr < 0x9200 then
    (s.obsTarget ((addr - 0x8000) / 0x100)).map fun m => 0x8000 + 0x100 * m + addr % 0x100
  else some addr

/-- STAGED_WRITE (R37): a write of a staged register enters the set; the live value stays. -/
def doStagedWrite (src : Src) (addr value : Nat) (s : State) : State :=
  s.via src addr fun s => if isStaged addr && (s.writeTarget addr).isSome then (s.stage src.path (.reg addr) value).1 else s

def execStagedWrite (src : Src) (addr : Nat) (value : Word) (s : State) : Host.Outcome State Fault Refusal :=
  .next (doStagedWrite src addr value.toNat s)

/-! ### Port restarts (R54, R455) -/

/-- A port restart of port `n`; `mode`: `MODE` or `TYPE` changed; `entering`: RESOLVER mode begins. -/
def State.portRestart (s : State) (n : Nat) (mode entering : Bool) : State :=
  let s := ((s.excRestart n mode).restartRanges n).acqRestart n
  let s := if s.released 6 then (s.obsRestart n).dfbRestart n else s
  ((if s.released 6 then s.lrnRestart n entering else s).farOff n).showBias n

/-- PORT_RESTART: `PRTn_CMD.RESTART`. -/
def execPortRestart (src : Src) (n : Fin 16) (s : State) : Host.Outcome State Fault Refusal :=
  .next (s.via src 0x4000 fun s => s.portRestart n false false)

/-! ### Writes of a group -/

/-- One staged register write is applied. -/
def State.applyReg (s : State) (addr v : Nat) : State :=
  match s.writeTarget addr with
  | some a => s.writeFields a v .rw
  | none => s

/-- The items hold a write of the register at an address. -/
def State.wrote (s : State) (items : List StagedItem) (addr : Nat) : Bool :=
  items.any fun i => match i.tgt with | .reg a => s.writeTarget a = some addr | .sram _ => false

/-- The items hold a write of a register in [lo, hi). -/
def State.wroteIn (s : State) (items : List StagedItem) (lo hi : Nat) : Bool :=
  items.any fun i => match i.tgt with
    | .reg a => (match s.writeTarget a with | some b => lo ≤ b && b < hi | none => false)
    | .sram _ => false

/-- The configured frequency of a port, whatever Vent stored (R93, R301). -/
def State.cfgFreq (s : State) (n : Nat) : Nat :=
  if s.gb F.EXC_CFG_OWN_FREQ n then s.g F.EXC_FREQ_FREQ n else s.g (F.EXC_PLAN_FREQ (s.g F.EXC_CTRL_PLAN)) n

/-- A committed write that changed the configured frequency of a port requests it and ends an override. -/
def State.freqApplied (s old : State) (n : Nat) (plan : Bool) : State :=
  if s.cfgFreq n = old.cfgFreq n then s
  else (s.updExc n fun e => { e with vFreq := none }).requestFreq n (s.cfgFreq n) plan

/-! ### Port groups -/

/-- `PRTn_CFG` was written (R65 to R67). -/
def State.rangesApplied (s old : State) (n : Nat) : State :=
  if !s.resolver n then s
  else if s.gb F.PRT_CFG_AUTO n then
    if old.gb F.PRT_CFG_AUTO n then s
    else
      let r := max (s.g F.PRT_STAT_CUR_S n) (s.g F.PRT_STAT_CUR_C n)
      (s.requestRange n .sin r).requestRange n .cos r
  else (s.requestRange n .sin (s.g F.PRT_CFG_RANGE_S n)).requestRange n .cos (s.g F.PRT_CFG_RANGE_C n)

/-- The observer's registers were written: gains (R153 to R156), a new origin (R169), the learning cycle (R200). -/
def State.obsApplied (s old : State) (n : Nat) (items : List StagedItem) : State :=
  let m := s.engine n
  let base := 0x8000 + 0x100 * m
  let direct := s.wrote items base || s.wroteIn items (base + 8) (base + 0x14)
  let s' := if direct || s.wrote items (base + 4) then s.gainUpdate m direct (s.bwLimit n) else s
  let chg := s.g F.OBS_CFG_PPR m ≠ old.g F.OBS_CFG_PPR m || s.g F.OBS_CFG_MPP m ≠ old.g F.OBS_CFG_MPP m
  let s' := if chg then s'.newOrigin m else s'
  if s.wrote items base then s'.lrnDiscard n else s'

/-- The learning registers were written (R189, R198, R200). -/
def State.lrnApplied (s old : State) (n : Nat) (items : List StagedItem) : State :=
  if !s.wroteIn items (0xA000 + 0x80 * n) (0xA01C + 0x80 * n) then s
  else
    let s := if s.wrote items (0xA000 + 0x80 * n) then (s.lrnDiscard n).clearHarm n else s
    let s := (s.checkBounds n).twinCheck n
    if s.g F.LRN_CFG_MODE n = 2 && old.g F.LRN_CFG_MODE n ≠ 2 then s.updLrn n fun l => { l with aplNow := true } else s

/-- What the writes to port `n`, already made, bring about. -/
def State.portApplied (s old : State) (n : Nat) (items : List StagedItem) : State :=
  let modeChg := s.g F.PRT_CFG_MODE n ≠ old.g F.PRT_CFG_MODE n
  let typeChg := s.digital n && s.g F.DFB_CFG_TYPE n ≠ old.g F.DFB_CFG_TYPE n
  let s := (s.obsApplied old n items).lrnApplied old n items
  if modeChg || typeChg then
    s.portRestart n true (modeChg && s.resolver n)
  else
    let s := if s.wrote items (0x4000 + 0x100 * n) then s.rangesApplied old n else s
    let s := s.freqApplied old n false
    let s := if s.g F.EXC_AMP_AMP n = old.g F.EXC_AMP_AMP n then s
      else (s.updExc n fun e => { e with vAmp := none }).requestAmp n (s.g F.EXC_AMP_AMP n)
    let s := if s.gb F.EXC_CFG_ENABLE n = old.gb F.EXC_CFG_ENABLE n then s else s.enableChanged n
    let s := if s.g F.ACQ_DEC_R n = old.g F.ACQ_DEC_R n && s.g F.ACQ_DEC_SET n = old.g F.ACQ_DEC_SET n then s
      else s.decRestart n false
    let s := if s.digital n then s.w F.DFB_GD_GD n (s.inDelay n) else s
    let s := if s.g F.EXC_PHCFG_PH_INIT n = old.g F.EXC_PHCFG_PH_INIT n && s.g F.EXC_PTRK_PH_TOL n = old.g F.EXC_PTRK_PH_TOL n
      then s else s.checkDrift n
    (s.farOff n).showBias n

/-! ### The other groups -/

/-- The EXC common group (R96). A write of an entry of the selected plan counts as a plan change for `MIXED` (log entry 93). -/
def State.excApplied (s old : State) : State :=
  let s := s.w F.EXC_CSTAT_PLAN_IN 0 (s.g F.EXC_CTRL_PLAN)
  s.each 16 fun s n => s.freqApplied old n true

def State.emuApplied (s old : State) : State :=
  if !s.released 7 then s
  else s.each 8 fun s i =>
    if s.gb F.EMU_CFG_ENABLE i = old.gb F.EMU_CFG_ENABLE i && s.g F.EMU_CFG_SRC i = old.g F.EMU_CFG_SRC i &&
        s.g F.EMU_CFG_ASEL i = old.g F.EMU_CFG_ASEL i && s.g F.EMU_LINES_LINES i = old.g F.EMU_LINES_LINES i then s.showEmu i
    else s.emuApply i (old.gb F.EMU_CFG_ENABLE i) (old.g F.EMU_CFG_SRC i) (old.g F.EMU_CFG_ASEL i) (old.g F.EMU_LINES_LINES i)

/-- The GEY registers: PWM sync inputs and the Angle Stream; the slots follow after the group copies. -/
def State.geyApplied (s old : State) : State :=
  let s := s.each 4 fun s p =>
    if s.g F.GEY_PWMS_CFG_EN p = old.g F.GEY_PWMS_CFG_EN p && s.g F.GEY_PWMS_CFG_TO p = old.g F.GEY_PWMS_CFG_TO p then s
    else s.pwmsApply p (old.gb F.GEY_PWMS_CFG_EN p)
  -- an output whose EN goes to 0 is high impedance at once; its pull-up ends a pulse (R271)
  let s := s.each 16 fun s o =>
    if old.gb F.GEY_GT_EN o && !s.gb F.GEY_GT_EN o && (vget s.gt o).low.isSome then
      { s with gt := vupd s.gt o fun _ => {} }.emit (.ball "GTRIG" (2 * o + 1) s.t)
    else s
  if s.gb F.GEY_CFG_AS_EN = old.gb F.GEY_CFG_AS_EN then s else s.streamDrive

def State.tmpApplied (s old : State) : State :=
  let chg (c : Nat) : Bool := s.tmpRegs c ≠ old.tmpRegs c
  let full (c : Nat) : Bool := 4 ≤ (s.tmp! c).q.length
  let t := s.each 16 fun s c => s.tmpApply c (old.tmpRegs c)
  (if (List.range 16).any chg then t.tmpCheck fun c => chg c && !full c else t).tmpRecheck

/-- Applies one write of a group other than the SRAM group. -/
def State.applyItem (s : State) (i : StagedItem) : State :=
  match i.tgt with
  | .reg a => s.applyReg a i.value
  | .sram o =>
    let s := if o < 0x120000 then s.setSram32 o i.value else s.canObjApply ((o - 0x120000) / 0x4000) o i.value
    match i.did with
    | some k => s.wordDone k false
    | none => s

/-- A word of the SRAM group under the write rule of its structure (R133, R199, R274, R305, R373); second: refused. -/
def State.applyWord (s : State) (o v : Nat) : State × Bool :=
  if o < 0x104000 then
    let b := (bankOf o).getD (0, 0)
    if s.bankBusy b.1 b.2 then (s.w F.ACQ_FSTKY_BUSY_W 0 1, true) else (s.setSram32 o v, false)
  else if shadowBase ≤ o && o < firingBase then
    let (s', bad) := s.shadowWrite ((o - shadowBase) / 4) v
    (s'.w F.GEY_SHADDR_RESULT 0 (s.g F.GEY_SHADDR_RESULT), bad)
  else if o < shadowBase then (s.setSram32 o v, false)
  -- the firing records are read only (R253)
  else if o < 0x108000 then (s, false)
  else if o < 0x110000 then s.ventWrite ((o - ventBase) / 4) v
  else if o < 0x120000 then
    let (s, ok) := s.lrnPut ((o - 0x110000) / 0x1000) ((o - 0x110000) % 0x1000) v
    (s, !ok)
  else s.canDataWrite ((o - 0x120000) / 0x4000) ((o - 0x120000) % 0x4000 / 4) v

/-- The SRAM group, in staged order. -/
def State.applyWords (s : State) (items : List StagedItem) : State :=
  items.foldl (fun s i =>
    match i.tgt with
    | .reg _ => s
    | .sram o =>
      let (s, bad) := s.applyWord o i.value
      match i.did with
      | some k => s.wordDone k bad
      | none => s) s

/-- An idle spare's registers: no port limits its bandwidth. -/
def State.spareApplied (s old : State) (items : List StagedItem) : State :=
  [16, 17].foldl (fun s m =>
    let base := 0x8000 + 0x100 * m
    if s.wroteIn items base (base + 0x14) then
      let s := s.gainUpdate m (s.wrote items base || s.wroteIn items (base + 8) (base + 0x14)) 6000000
      if s.g F.OBS_CFG_PPR m ≠ old.g F.OBS_CFG_PPR m || s.g F.OBS_CFG_MPP m ≠ old.g F.OBS_CFG_MPP m then s.newOrigin m else s
    else s) s

/-- Applies a group: its writes in staged order, then what they bring about. -/
def State.applyGroup (s : State) (g : Group) (items : List StagedItem) : State :=
  let old := s
  let s := { s with epochs := SMap.set 0 s.epochs g.source (s.g F.GLB_EPOCH_EPOCH) }
  if g = .sram then s.applyWords items
  else
    let s := items.foldl State.applyItem s
    match g with
    | .port n => s.portApplied old n items
    | .exc => s.excApplied old
    | .emu => s.emuApplied old
    | .gey => s.geyApplied old
    | .vnt => s.each 7 fun s e => s.ventEnable e
    | .tmp => s.tmpApplied old
    | .can0 => if s.wroteIn items 0x12000 0x13000 then s.canApply 0 else s
    | .can1 => if s.wroteIn items 0x13000 0x14000 then s.canApply 1 else s
    | .chn => s.chnApply (old.gb F.CHN_CFG_EN) (old.gb F.CHN_CFG_HEAD)
    | .twn => s.twnApply (old.gb F.TWN_CFG_EN)
    | .int => if s.wrote items 0x16000 then s.ashEnable else s
    | .rest => s.spareApplied old items
    | .div | .sram => s

/-! ### The boundary -/

/-- The group of a port waits while a spare engine is being loaded for it (R494); the groups behind it wait with it. -/
def State.groupHeld (s : State) (g : Group) : Bool :=
  match g, s.snt.run with
  | .port n, some r => r.sw.kind = 1 && r.phase = 1 && r.sw.tgt = n
  | _, _ => false

/-- The groups a boundary takes, within the writes it may still apply, and the ones left (R41, R403). -/
def State.takeGroups (s : State) : List (Group × List StagedItem) → Nat →
    List (Group × List StagedItem) × List (Group × List StagedItem)
  | [], _ => ([], [])
  | (g, is) :: gs, room =>
    if s.groupHeld g then ([], (g, is) :: gs)
    else if g = .sram then ((g, is) :: gs, [])
    else if is.length ≤ room then
      let r := s.takeGroups gs (room - is.length)
      ((g, is) :: r.1, r.2)
    else ([], (g, is) :: gs)

/-- EPOCH advances (R42); its wrap raises event 237. -/
def State.nextEpoch (s : State) : State :=
  let e := (s.g F.GLB_EPOCH_EPOCH + 1) % 256
  let s := s.w F.GLB_EPOCH_EPOCH 0 e
  if e = 0 then s.raiseReg 237 0x10 else s

/-- The last group of the commit has been applied: FIRST, LAST, `BUSY`, COMMIT_DONE (R42, R43). -/
def State.commitEnds (s : State) (first : Option Nat) : State :=
  let e := s.g F.GLB_EPOCH_EPOCH
  let s := ((s.w F.GLB_EPOCH_FIRST 0 (first.getD e)).w F.GLB_EPOCH_LAST 0 e).w F.GLB_CSTAT_BUSY 0 0
  ({ s with commit := none } : State).commitDone.raiseReg 236 0x10

/-- The slots whose live entry this boundary may change. -/
def State.slotsTouched (s : State) (gs : List (Group × List StagedItem)) (copies : List Nat) : List Nat :=
  let words := gs.flatMap fun g => g.2.filterMap fun i => match i.tgt with
    | .sram o => if liveBase ≤ o && o < shadowBase then some ((o - liveBase) / 32) else none
    | .reg _ => none
  (List.range 256).filter fun j => words.contains j || copies.contains (s.shadowGroup j)

/-- EPOCH_BOUNDARY: the staged groups due now, loads of learning records, complete sets of the partner, group copies, the
slots they changed, the end of the commit. -/
def State.boundary (s : State) : State :=
  let tb := tadd s.now sampleU
  let s : State := { s with t := tb, bDone := true }
  let due := match s.commit with | some c => decide (0 ≤ tdiff s.now c.at') | none => false
  let gs := match s.commit with | some c => if due then c.groups else [] | none => []
  let (now, later) := s.takeGroups gs 128
  let copies := s.copiesDue tb
  let s := if now.isEmpty && copies.isEmpty then s else s.nextEpoch
  let first := match s.commit with
    | some c => (match c.first with | some e => some e | none => if now.isEmpty then none else some (s.g F.GLB_EPOCH_EPOCH))
    | none => none
  let en := s.gb F.GEY_CFG_EN
  let olds := (s.slotsTouched now copies).map fun j => (j, s.entry j)
  let s := now.foldl (fun s g => s.applyGroup g.1 g.2) s
  let s := s.each 16 fun s n =>
    if (s.lrn! n).load then (s.updLrn n fun l => { l with load := false }).lrnLoad n else s
  let s := copies.foldl State.copyGroup s.twnSets
  let s := if copies.isEmpty then s
    else { s with epochs := SMap.set 0 s.epochs Group.gey.source (s.g F.GLB_EPOCH_EPOCH) }
  let s :=
    if s.gb F.GEY_CFG_EN ≠ en then s.geyEnable tb
    else olds.foldl (fun s (o : Nat × List Nat) => s.entryApplied o.1 tb o.2) s
  if !due then s
  else if later.isEmpty then s.commitEnds first
  else { s with commit := s.commit.map fun c => { c with groups := later, first := first } }

/-- The row comes with every 25th sample, before the sample is taken (R26). -/
def doEpochBoundary (s : State) : State :=
  if s.adcOn && !s.rst.warm && s.kB ≤ s.k && (s.k - s.kB) % 25 = 0 && !s.bDone then s.boundary else s

def execEpochBoundary (s : State) : Host.Outcome State Fault Refusal := .next (doEpochBoundary s)

/-! ### The wrap of STIME (R10) -/

/-- Between the last sample before the wrap and the first at or after it, ERA toggles and event 14 is raised
(Table 16-8). -/
def doStimeWrap (s : State) : State :=
  if 2 ^ 64 ≤ s.now + sampleU && !s.wrapped then
    let s := ({ s with wrapped := true, t := 0 } : State).setFlags s.holdover (!s.era)
    s.raiseReg 14 0x4
  else s

def execStimeWrap (s : State) : Host.Outcome State Fault Refusal := .next (doStimeWrap s)

end Sys2Proof.Machine
end

