-- ==== Sys2Proof/Machine/Reset.lean ====
section
/-! DEFINITION. Resets, causes, Dormant mode, clocks, the boot record, bring-up, watchdogs and the NVM controller
(chapter 16); the test access port (R528). -/

namespace Sys2Proof.Machine

def State.updRst (s : State) (f : RstSt → RstSt) : State := { s with rst := f s.rst }

/-- A bit of `RST_STKY` with its event (Table 16-8). -/
def State.rstStick (s : State) (b : Nat) : State := s.stickBits F.RST_STKY_BITS 0 (2 ^ b) b

/-- Bit `b` of `RST_CAUSE`. -/
def causeFld (b : Nat) : Fld := if b = 0 then F.RST_CAUSE_POR else { F.RST_CAUSE_BOR with lo := b % 32 }

/-- Records a cause (R459). -/
def State.setRstCause (s : State) (b : Nat) : State := (s.w (causeFld b) 0 1).w F.RST_STAT_LAST 0 b

def State.dormant (s : State) : Bool := s.g F.GLB_STATUS_MODE = 2

/-! ### Warm reset (R453, R454, R456, R460, R461, R504) -/

/-- The register fields that warm reset keeps: the always-on domain and the live state of Sinter (R454, R19). -/
def keptField (key : Nat) : Bool :=
  let a := keyBase key
  let lo := key % 32
  a = 0x1000 || (a = 0x1004 && (lo = 4 || lo = 14 || lo = 16 || lo = 20)) || (a = 0x1008 && 22 ≤ lo) || a = 0x1024 ||
    (a = 4 && lo = 8) ||
    (0x5000 ≤ a && a < 0x5800 &&
      ((a % 0x80 = 0x18 && lo = 9) || (0x34 ≤ a % 0x80 && a % 0x80 ≤ 0x40 && lo = 16))) ||
    (0x8000 ≤ a && a < 0x9200 && a % 0x100 = 0x38) ||
    (a = 0x1600C && lo < 4) || (a = 0x16010 && lo = 13) || a = 0x16014 || a = 0x16018 || a = 0x1602C || a = 0x16030 ||
    (0x16080 ≤ a && a < 0x160B0 && lo ≠ 7) || (0x160C0 ≤ a && a < 0x160F0) || a = 0x1610C || a = 0x16110

/-- A reset finds the Ash record recording or in POST: with `WRFRZ`, or on the way to Dormant mode, a TRIG entry is its
last (R504). -/
def State.ashReset (s : State) (b : Nat) : State :=
  let st := s.g F.INT_ASHTCNT_STATE
  if (st = 1 || st = 2) && (s.gb F.INT_CFG_WRFRZ || s.gb F.RST_STAT_DLATCH) then
    let s := (s.w F.INT_ASHTCNT_CAUSE 0 7).w F.INT_ASHSTAT_TPTR 0 (s.g F.INT_ASHSTAT_WPTR)
    let s := s.ashWrite (header 0xA 0 s.ownStatus (s.g F.GLB_EPOCH_EPOCH) s.t ++ leBytes 1 7 ++ leBytes 1 b ++
      leBytes 2 0 ++ leBytes 4 (s.regWord 0x16110))
    (s.w F.INT_ASHTCNT_STATE 0 3).w F.INT_STKY_ASHFRZ 0 1
  else s

/-- The safety image record (R475): type and CRC-32C of the image. -/
def safeOk (b : List Byte) : Bool := fieldAt b 0 1 = 0x53 && fieldAt b 3368 4 = crc32c ((b.drop 4).take 3364)

/-- The boot record (Table 16-3): type, format, CLK and CRC-32. -/
def bootHead (b : List Byte) : Bool := fieldAt b 0 2 = 0x014F && bitsOf (fieldAt b 4 4) 4 2 ≠ 3
def bootOk (b : List Byte) : Bool := bootHead b && fieldAt b 0x7C 4 = crc32 (b.take 0x7C)

def State.bootCopy (s : State) (c : Nat) : NvCopy := s.nvExam (0x80 * c) 128 bootOk
def State.bootForce (s : State) : Option (Nat × List Byte) := nvForce (s.bootCopy 0) (s.bootCopy 1)

/-- The copy of the boot record in force in this start: a copy written since takes force at the next reset (R474). -/
def State.bootNow (s : State) : Option (Nat × List Byte) :=
  if s.gb F.RST_BOOT_AVAL || s.gb F.RST_BOOT_BVAL then
    some (s.g F.RST_BOOT_COPY, s.nvmBytes (0x80 * s.g F.RST_BOOT_COPY) 128)
  else none
def State.safeCopyNv (s : State) (c : Nat) : NvCopy := s.nvExam (0x1000 + 0x1000 * c) 3372 safeOk
def State.safeForce (s : State) : Option (Nat × List Byte) := nvForce (s.safeCopyNv 0) (s.safeCopyNv 1)

/-- Address and length of the copy that a running NVM write changes, the one not in force (R480), and what makes its bytes
a valid record. -/
def State.nvTarget (s : State) (kind : Nat) : Option (Nat × Nat × (List Byte → Bool)) :=
  let other (f : Option (Nat × List Byte)) : Nat := match f with | some (c, _) => 1 - c | none => 0
  match kind with
  | 0 => some (0x80 * other s.bootNow, 128, bootOk)
  | 1 => some (0x1000 + 0x1000 * other s.safeForce, 3372, safeOk)
  | 2 => match s.nvBuf with
    | (n, _) :: _ => some (lrnCopy n (other (s.lrnForce n)), 864, lrnOk)
    | [] => none
  | _ => some (0x3000 + 0x800 * other s.mapForce, 2048, mapOk)

/-- A write that a reset, a power loss or a failure breaks off tears the copy not in force (R480, R205). -/
def State.nvTorn (s : State) : State :=
  match s.nvq with
  | [] => s
  | k :: _ => match s.nvTarget k with
    | some (a, len, ok) => { s.setNvmBytes a (s.tornBytes 4 len ok) with free := s.free + len }
    | none => s

/-- What stands after a warm reset: the fields kept, SRAM, NVM, the live state of Sinter, STIME; all else is as after a
cold reset. -/
def State.warmClear (s : State) : State :=
  let i := s.snt
  let r := s.rst
  ({ State.reset with
      now := s.now, t := s.t, fields := s.fields.filter fun f => keptField f.1
      sram := s.sram, poison := s.poison, nvm := s.nvm, free := s.free, wrapped := s.wrapped
      host := { ssid := s.host.ssid, lastTime := s.host.lastTime, nextDid := s.host.nextDid }
      snt := { badSl := i.badSl, badEng := i.badEng, rows := i.rows, rowMap := i.rowMap, hist := i.hist,
               left := i.left, scrubAt := i.scrubAt, dayAt := i.dayAt, seq := i.seq }
      rst := { warm := true, endAt := tadd s.t (2 * usU), cold := r.cold, fstart := r.fstart, ovr := r.ovr,
               perst := r.perst, resetN := r.resetN, perstN := r.perstN, masked := r.masked, highAt := r.highAt,
               phyOk := r.phyOk, lost := r.lost }
      tap := s.tap, pending := s.pending, outbox := s.outbox } : State).showSw

/-- The later of two instants. -/
def laterOf (a b : Nat) : Nat := if tdiff a b < 0 then b else a

/-- A warm-reset source of `RST_CAUSE` bit `b` is asserted; `counts`: it may be a failed start (R460). -/
def State.warmAssert (s : State) (b : Nat) (counts : Bool := true) : State :=
  let s := s.setRstCause b
  if s.rst.warm then s.updRst fun r => { r with endAt := laterOf r.endAt (tadd s.t (2 * usU)) }
  else
    let failed := counts && !s.gb F.RST_STAT_CONFIRMED
    let s := if failed then
        let s := (s.w F.RST_STAT_FSC 0 (min 4 (s.g F.RST_STAT_FSC + 1))).updRst fun r => { r with fstart := true }
        if s.g F.RST_STAT_FSC = 4 && !s.gb F.RST_STAT_DLATCH then
          (s.setRstCause 9).w F.RST_STAT_DLATCH 0 1
        else s
      else s
    let s := (s.bump F.INT_WRST_COUNT).ashReset b
    s.nvTorn.warmClear

/-- A cause that also sets the Dormant latch (Table 16-2). -/
def State.goDormant (s : State) (b : Nat) : State := (s.w F.RST_STAT_DLATCH 0 1).warmAssert b

def doWarmReset (source : Nat) (s : State) : State :=
  if 2 ≤ source then { s with t := s.now }.warmAssert source else s

/-- A source of Table 16-1 by its bit of `RST_CAUSE`. -/
def execWarmReset (source : Fin 8) (s : State) : Host.Outcome State Fault Refusal := .next (doWarmReset source s)

/-- The last source is released (R456, R536): the start begins with bring-up step 1. -/
def doWarmResetRelease (s : State) : State :=
  let r := s.rst
  if r.warm && !r.byPin && !r.byPerst && tdiff r.endAt (tadd s.now sampleU) < 0 then
    ({ s with t := s.now }.updRst fun r => { r with warm := false, stepAt := s.now, relAt := s.now }).w F.RST_STAT_STEP 0 1
  else s

def execWarmResetRelease (s : State) : Host.Outcome State Fault Refusal := .next (doWarmResetRelease s)

/-- R453, R459: power-on or brown-out; nothing is kept but NVM. -/
def doColdReset (c : ColdIn) (s : State) : State :=
  let s := s.nvTorn
  let s' : State := { State.reset with nvm := s.nvm, free := s.free, pending := s.pending, outbox := s.outbox,
                                           tap := if c.brownOut then s.tap else {} }
  let s' := if c.brownOut then ((s'.w F.RST_CAUSE_POR 0 0).w F.RST_CAUSE_BOR 0 1).w F.RST_STAT_LAST 0 1 else s'
  let s' := (s'.w F.RST_BOOT_SBOOT 0 c.boot.toNat).w F.RST_BOOT_SCLK 0 c.clk.toNat
  (s'.updRst fun r => { r with perstN := c.perstN }).w F.RST_STAT_STEP 0 1

def execColdReset (c : ColdIn) (s : State) : Host.Outcome State Fault Refusal := .next (doColdReset c s)

/-! ### Pins (R457, R458, R465, R469) -/

/-- `RESET_N` acts on nothing: in mode DORMANT, and once the device has masked a stuck pin. -/
def State.pinMasked (s : State) : Bool := s.dormant || s.rst.masked

/-- The pin has been low for t_stuck: the Dormant latch, the pin masked, and the reset it began ends (R458, R536). -/
def State.pinStuck (s : State) : State :=
  let s := if s.rst.warm then s else (s.warmAssert 2).updRst fun r => { r with endAt := s.t }
  ((s.setRstCause 8).w F.RST_STAT_DLATCH 0 1).updRst fun r => { r with masked := true, byPin := false }

def doResetNPulse (ns : Nat) (honoured : Bool) (s : State) : State :=
  let s := { s with t := s.now }
  if s.pinMasked then s
  else if 2000000000 ≤ ns then s.pinStuck.updRst fun r => { r with highAt := tadd s.t (ns * nsU) }
  else if 2000 ≤ ns || (500 ≤ ns && honoured) then
    (s.warmAssert 2).updRst fun r => { r with endAt := laterOf r.endAt (tadd s.t (max (2 * usU) (ns * nsU))) }
  else if 100 < ns then (let s := s.bump F.RST_GLITCH_COUNT; if s.rst.warm then s else s.rstStick 8)
  else s

/-- A low pulse on `RESET_N` (R457): `honoured` decides between t_rstg and t_rsth. -/
def execResetNPulse (ns : Nat) (honoured : Bool) (s : State) : Host.Outcome State Fault Refusal :=
  .next (doResetNPulse ns honoured s)

def doResetNStuck (s : State) : State :=
  let s := { s with t := s.now }
  let s := if s.pinMasked then s else s.pinStuck
  (s.updRst fun r => { r with resetN := false }).w F.RST_STAT_RSTN 0 0

/-- R458: `RESET_N` stays low for t_stuck. -/
def execResetNStuck (s : State) : Host.Outcome State Fault Refusal := .next (doResetNStuck s)

/-- R465: leaves Dormant mode; `o`: the boot override of the next start. -/
def State.leave (s : State) (o : Option Nat) : State :=
  if !s.dormant then s
  else
    let s := ((s.w F.RST_STAT_DLATCH 0 0).w F.RST_STAT_FSC 0 0).updRst fun r => { r with ovr := o, masked := false }
    (s.warmAssert 5 false).updRst fun r => { r with fstart := false }

def doStuckPinRelease (s : State) : State :=
  let s := ({ s with t := s.now }.updRst fun r => { r with resetN := true, highAt := s.now }).w F.RST_STAT_RSTN 0 1
  if s.dormant && s.g F.RST_STAT_LAST = 8 then s.leave none else s

/-- `RESET_N` has been high for t_rrel: a device that the stuck pin sent to Dormant mode leaves it by itself. -/
def execStuckPinRelease (s : State) : Host.Outcome State Fault Refusal := .next (doStuckPinRelease s)

def doPerstNAssert (s : State) : State :=
  if !s.rst.perstN then s
  else
    let s := { s with t := s.now }
    let hold : Bool := s.rst.perst
    let s := if hold then s.warmAssert 7 else if s.rst.warm then s else s.linkReset
    s.updRst fun r => { r with perstN := false, byPerst := r.byPerst || hold }

/-- R469: a Link reset or a warm reset, as the record in force says. -/
def execPerstNAssert (s : State) : Host.Outcome State Fault Refusal := .next (doPerstNAssert s)

/-! ### Commands of `RST_CMD` (R482) -/

/-- A start is confirmed (R460). -/
def State.confirm (s : State) : State :=
  if s.inRun && !s.gb F.RST_STAT_CONFIRMED then
    (((s.w F.RST_STAT_FSC 0 0).w F.RST_STAT_CONFIRMED 0 1).updRst fun r => { r with buOn := false }).rstStick 1
  else s

def doAutoConfirm (s : State) : State :=
  let r := s.rst
  let tracked := match r.trackAt with | some u => msU ≤ tdiff s.now u | none => false
  if r.confirm && tracked && 1000 * msU ≤ tdiff s.now r.runAt then { s with t := s.now }.confirm else s

/-- R460: the device confirms its start itself. -/
def execAutoConfirm (s : State) : Host.Outcome State Fault Refusal := .next (doAutoConfirm s)

/-- A field of two bits for each of the 16 ports from a word of a boot record, where it is at most `top`. -/
def State.putTwo (s : State) (w : Nat) (f : Fld) (top : Nat) : State :=
  s.each 16 fun s n =>
    let v := bitsOf w (2 * n) 2
    if v ≤ top then s.w f n v else s

/-- Writes the fields of a boot record to their registers (Table 16-3). -/
def State.applyRecord (s : State) (b : List Byte) : State :=
  let w (i : Nat) : Nat := fieldAt b (4 * i) 4
  let s := s.putTwo (w 3) F.PRT_CFG_MODE 2
  let s := s.each 16 fun s n => s.wb F.EXC_CFG_ENABLE n (bitOf (w 4) n)
  let s := s.each 8 fun s i => s.wb F.EMU_CFG_ENABLE i (bitOf (w 4) (16 + i))
  let s := (s.wb F.GEY_CFG_EN 0 (bitOf (w 4) 24)).wb F.TMPG_CTRL_EN 0 (bitOf (w 4) 25)
  let s := (s.putTwo (w 5) F.LRN_CFG_MODE 3).putTwo (w 6) F.DFB_CFG_TYPE 3
  let s := (s.wb F.CHN_CFG_EN 0 (bitOf (w 7) 0)).wb F.CHN_CFG_HEAD 0 (bitOf (w 7) 1)
  let s := (s.wb F.TWN_CFG_EN 0 (bitOf (w 7) 2)).wb F.TWN_CFG_POS 0 (bitOf (w 7) 3)
  s.each 2 fun s c =>
    let m := bitsOf (w 7) (4 + 4 * c) 3
    if m ≤ 4 then s.w F.CAN_CFG_MODE c m else s

/-- Stand-alone boot (Table 16-6), on top of the cold-reset values. -/
def State.standAlone (s : State) : State :=
  let s := s.each 16 fun s n => (s.w F.PRT_CFG_MODE n 1).w F.EXC_CFG_ENABLE n 1
  s.each 8 fun s i => s.w F.EMU_CFG_ENABLE i 1

/-- The fields of the record in force that no register holds: CONFIRM, PERST, BUWD, and the watchdogs' start (R462). -/
def State.recordWatch (s : State) (buwd wdt at' : Nat) : State :=
  (s.w F.RST_WDCFG_TMO 0 wdt).updRst fun r =>
    { r with buwd := buwd, buOn := decide (buwd ≠ 0), buAt := at', wdOn := decide (wdt ≠ 0), wdAt := at' }

/-- The bytes of `RST_OBUF0` to `RST_OBUF31`. -/
def State.obuf (s : State) : List Byte := (List.range 32).flatMap fun i => leBytes 4 (s.g F.RST_OBUF_DATA i)

/-- The initial slice calibration of step 4 leaves every slice a correction that no rule states: FREE VALUES (log entry
108). -/
def State.calInit (s : State) : State :=
  s.each 36 fun s i =>
    let (a, s) := s.draw 164
    let (b, s) := s.draw 165
    { s with cal := vupd s.cal i fun _ => { off := (a.extractLsb' 0 16).toInt, gain := (b.extractLsb' 0 16).toInt } }

/-- The blocks of a step of Table 16-5 are released. -/
def State.enterStep (s : State) (k : Nat) : State :=
  let s := (s.updRst fun r => { r with stepAt := s.t }).w F.RST_STAT_STEP 0 k
  match k with
  | 4 =>
    let s := { s with adcOn := true, k := 0, kB := 0, s0 := 0, bDone := false }.calInit
    let s := s.updSnt fun i => { i with scrubAt := s.t }
    s.each 16 fun s n => (((s.excRestart n false).restartRanges n).acqRestart n).showBias n
  | 5 => s.each 16 fun s n => s.checkOff n
  | 6 => s.each 16 fun s n => ((s.obsRestart n).dfbRestart n).lrnRestart n true
  | 7 =>
    let s := if s.gb F.GEY_CFG_EN then s.geyEnable s.t else s
    s.each 8 fun s i =>
      if s.gb F.EMU_CFG_ENABLE i then s.emuApply i false (s.g F.EMU_CFG_SRC i) (s.g F.EMU_CFG_ASEL i) (s.g F.EMU_LINES_LINES i) else s
  | 8 =>
    let s := (s.canApply 0).canApply 1
    (s.chnApply false false).showWake
  | _ => s

/-- `RST_CMD.OPTLOAD`: the record of the buffer is checked and taken as the record in force (R473). -/
def State.optload (s : State) : State :=
  if !s.rst.wait then s
  else
    let b := s.obuf
    if !bootOk b then s.w F.RST_NVSTAT_RES 0 2
    else
      let w1 := fieldAt b 4 4
      let s := (s.w F.RST_NVSTAT_RES 0 0).updRst fun r =>
        { r with wait := false, record := some b, perst := bitOf w1 6, confirm := bitOf w1 3 }
      let s := ((s.w F.RST_BOOT_SEQ 0 (fieldAt b 2 2)).applyRecord b).recordWatch (bitsOf w1 8 8) (bitsOf w1 16 16) s.t
      (s.updHost fun h => { h with ssid := fieldAt b 8 4 }).enterStep 4

/-- A request of the NVM controller (R480): refused with BUSY where one of its kind waits or runs. -/
def State.nvRequest (s : State) (kind : Nat) (img : State → State) : State :=
  if s.nvq.contains kind then s.w F.RST_NVSTAT_RES 0 1
  else ({ img s with nvq := s.nvq ++ [kind] }).w F.RST_NVSTAT_RES 0 0

/-- `RST_CMD.NVBOOT` (R474). -/
def State.nvBoot (s : State) : State :=
  let b := s.obuf
  if !bootHead b then s.w F.RST_NVSTAT_RES 0 2
  else s.nvRequest 0 fun s =>
    let body := (b.take 2 ++ leBytes 2 (nvNext s.bootNow) ++ b.drop 4).take 0x7C
    s.updRst fun r => { r with imgBoot := body ++ leBytes 4 (crc32 body) }

/-- The safety image record of the active image, with `SAF_ACRC` (R475). -/
def State.safeRecord (s : State) : List Byte :=
  leBytes 2 0x53 ++ leBytes 2 (nvNext s.safeForce) ++ imageAddrs.flatMap (fun a => leBytes 4 (imageWord s.actA a)) ++
    leBytes 4 (s.g F.SAF_ACRC_CRC)

/-- `RST_CMD.NVSAFE`. -/
def State.nvSafe (s : State) : State :=
  s.nvRequest 1 fun s => s.updRst fun r => { r with imgSafe := s.safeRecord }

/-- `RST_CMD` with its key; a write with another key is ignored and sets `KEYERR`. -/
def State.rstKeyed (s : State) (key : Nat) (k : State → State) : State := if key = 0xB0D5 then k s else s.rstStick 9

/-- A step of a command that a reset has not ended. -/
def State.unlessReset (s : State) (on : Bool) (k : State → State) : State := if on && !s.rst.warm then k s else s

/-- `RST_CMD`. -/
def State.rstCommand (s : State) (v : Nat) : State := s.rstKeyed (bitsOf v 16 16) fun s =>
  let s := s.unlessReset (bitOf v 0) State.confirm
  let s := s.unlessReset (bitOf v 7) State.nvBoot
  let s := s.unlessReset (bitOf v 8) State.nvSafe
  let s := s.unlessReset (bitOf v 6) State.optload
  let s := s.unlessReset (bitOf v 1) fun s => s.warmAssert 5
  let s := s.unlessReset (bitOf v 2) fun s => s.goDormant 12
  s.unlessReset (bitOf v 3) fun s => s.leave (if bitsOf v 4 2 = 3 then none else some (bitsOf v 4 2))

def execRunConfirm (src : Src) (key : BitVec 16) (s : State) : Host.Outcome State Fault Refusal :=
  .next (s.via src 0x1000 fun s => s.rstKeyed key.toNat State.confirm)

def execFullrst (src : Src) (key : BitVec 16) (s : State) : Host.Outcome State Fault Refusal :=
  .next (s.via src 0x1000 fun s => s.rstKeyed key.toNat fun s => s.warmAssert 5)

def execDormant (src : Src) (key : BitVec 16) (s : State) : Host.Outcome State Fault Refusal :=
  .next (s.via src 0x1000 fun s => s.rstKeyed key.toNat fun s => s.goDormant 12)

def execLeave (src : Src) (key : BitVec 16) (oboot : BitVec 2) (s : State) : Host.Outcome State Fault Refusal :=
  .next (s.via src 0x1000 fun s => s.rstKeyed key.toNat fun s =>
    s.leave (if oboot.toNat = 3 then none else some oboot.toNat))

def execOptload (src : Src) (key : BitVec 16) (s : State) : Host.Outcome State Fault Refusal :=
  .next (s.via src 0x1000 fun s => s.rstKeyed key.toNat State.optload)

def execNvboot (src : Src) (key : BitVec 16) (s : State) : Host.Outcome State Fault Refusal :=
  .next (s.via src 0x1000 fun s => s.rstKeyed key.toNat State.nvBoot)

def execNvsafe (src : Src) (key : BitVec 16) (s : State) : Host.Outcome State Fault Refusal :=
  .next (s.via src 0x1000 fun s => s.rstKeyed key.toNat State.nvSafe)

/-- The end of the running NVM write of the boot record, the safety image or the Sinter map (R480, R497). -/
def doNvmWriteDone (ok : Bool) (s : State) : State :=
  match s.nvq with
  | [] => s
  | 2 :: _ => s
  | kind :: q =>
    let s := { s with t := s.now }
    let img := if kind = 0 then s.rst.imgBoot else if kind = 1 then s.rst.imgSafe else s.snt.image
    let s := if ok then (match s.nvTarget kind with | some (a, _, _) => s.setNvmBytes a img | none => s) else s.nvTorn
    let s := { s with nvq := q }
    if kind < 2 then
      if ok then s.rstStick 4 else (s.w F.RST_NVSTAT_RES 0 3).rstStick 5
    else
      let again := s.snt.again
      let s := s.updSnt fun i => { i with image := [], again := false }
      let s := if ok then
          let s := ((s.w F.INT_MAPSTAT_RES 0 0).intStick F.INT_STKY_MAPDONE).intStick F.INT_STKY_HEALTH
          match s.mapForce with
          | some (c, b) => ((s.w F.INT_MAPSTAT_SEQ 0 (fieldAt b 2 2)).w F.INT_MAPSTAT_COPY 0 c).w F.INT_MAPSTAT_VALID 0 1
          | none => s
        else (s.w F.INT_MAPSTAT_RES 0 2).intStick F.INT_STKY_MAPFAIL
      if again then s.mapChange else s

def execNvmWriteDone (ok : Bool) (s : State) : Host.Outcome State Fault Refusal :=
  .next (doNvmWriteDone ok s).nvStart

/-! ### Watchdogs (R462, R539) -/

/-- A write of `RST_WDCFG`. -/
def State.wdCfg (s : State) (v : Nat) : State :=
  let tmo := v % 65536
  (s.w F.RST_WDCFG_TMO 0 tmo).updRst fun r => { r with wdOn := decide (tmo ≠ 0) && !s.dormant, wdAt := s.t }

def execWdcfgWrite (src : Src) (value : Word) (s : State) : Host.Outcome State Fault Refusal :=
  .next (s.via src 0x1000 fun s => s.wdCfg value.toNat)

/-- A write of `RST_WDKICK`. -/
def State.wdKick (s : State) (v : Nat) : State := if v = 0x5AC3 then s.updRst fun r => { r with wdAt := s.t } else s

def execWdkick (src : Src) (value : Word) (s : State) : Host.Outcome State Fault Refusal :=
  .next (s.via src 0x1000 fun s => s.wdKick value.toNat)

def doWatchdogExpiry (s : State) : State :=
  if s.rst.wdOn && !s.rst.warm && !s.dormant && s.g F.RST_WDCFG_TMO * msU ≤ tdiff s.now s.rst.wdAt then
    { s with t := s.now }.warmAssert 3
  else s

def execWatchdogExpiry (s : State) : Host.Outcome State Fault Refusal := .next (doWatchdogExpiry s)

def doBringupWatchdogExpiry (s : State) : State :=
  if s.rst.buOn && !s.rst.warm && !s.dormant && !s.gb F.RST_STAT_CONFIRMED &&
      s.rst.buwd * 100 * msU ≤ tdiff s.now s.rst.buAt then
    { s with t := s.now }.warmAssert 4
  else s

def execBringupWatchdogExpiry (s : State) : Host.Outcome State Fault Refusal := .next (doBringupWatchdogExpiry s)

/-! ### Clocks and supplies (R464, R467, R468, R515, R516) -/

/-- The core clock fails, or its reference (`ref`), with which STIME is lost (R454). -/
def State.coreFail (s : State) (ref : Bool) : State :=
  ((s.updRst fun r => { r with lost := r.lost || ref }).w F.RST_STAT_CLKQ 0 0).warmAssert 6

def doClockFailure (clk : Nat) (s : State) : State :=
  let s := { s with t := s.now }
  let pcie : Bool := s.g F.RST_STAT_CLKSRC = 2
  if clk = 0 then s.coreFail false
  else if clk = 1 || pcie then s.coreFail true
  else if s.rst.warm then s
  else ((s.w F.RST_STAT_PHYQ 0 0).linkReset).rstStick 6

/-- A clock loses lock or leaves ±2 %: 0 the core clock, 1 its reference, 2 the PCI Express reference. -/
def execClockFailure (clk : Fin 3) (s : State) : Host.Outcome State Fault Refusal := .next (doClockFailure clk s)

def doClockQualifyTimeout (s : State) : State :=
  if s.g F.GLB_STATUS_MODE = 0 && !s.rst.warm && s.g F.RST_STAT_STEP ≤ 1 && !s.gb F.RST_STAT_CLKQ &&
      !s.gb F.RST_STAT_DLATCH && 100 * msU ≤ tdiff s.now s.rst.relAt then
    { s with t := s.now }.warmAssert 6
  else s

/-- R467: the core clock has not qualified within t_clkq. -/
def execClockQualifyTimeout (s : State) : Host.Outcome State Fault Refusal := .next (doClockQualifyTimeout s)

/-- STIME restarts at 0 (R454): instants of the always-on domain keep their distance. -/
def State.restartTime (s : State) : State :=
  let b (x : Nat) : Nat := tadd x (-(s.now : Int))
  let s := { s with now := 0, t := 0, wrapped := false, blankWin := [],
                    host := { s.host with relAt := b s.host.relAt, lastTime := 0, hbAt := b s.host.hbAt },
                    snt := { s.snt with dayAt := b s.snt.dayAt, scrubAt := b s.snt.scrubAt } }
  let s := s.updRst fun r => { r with
    endAt := b r.endAt, stepAt := b r.stepAt, relAt := b r.relAt, runAt := b r.runAt, buAt := b r.buAt,
    wdAt := b r.wdAt, highAt := b r.highAt, lost := false }
  s.w F.RST_CAUSE_TLOST 0 1

/-- The clock the device runs on qualifies, its reference within ±2 % of SCLK (R467): the reading is a FREE VALUE in that
range. It releases the host link of a device in Dormant mode (R464). -/
def State.coreQualified (s : State) : State :=
  let s := if s.rst.lost then s.restartTime else s
  let (v, s) := s.draw 166
  let s := (s.w F.RST_STAT_CLKQ 0 1).w F.RST_CLK_DEV 0 (enc 16 (clampI (-200) 200 v.toInt))
  if s.dormant then s.hostRelease else s

def doClockQualification (clk : Nat) (s : State) : State :=
  let idle : Bool := s.dormant && !s.gb F.RST_STAT_CLKQ
  match clk with
  | 0 => if s.rst.warm then s else s.coreQualified
  | 1 =>
    let s := s.w F.RST_STAT_PHYQ 0 1
    if idle then s.coreQualified.w F.RST_STAT_CLKSRC 0 2 else s
  | _ => if idle then s.coreQualified.w F.RST_STAT_CLKSRC 0 0 else s

/-- A clock qualifies: 0 the selected core clock, 1 the PCI Express reference, 2 the crystal; the last two carry a device
in Dormant mode whose core clock has failed (R464). -/
def execClockQualification (clk : Fin 3) (s : State) : Host.Outcome State Fault Refusal :=
  .next (doClockQualification clk s)

def doSupplyWarning (s : State) : State := if s.rst.warm then s else { s with t := s.now }.rstStick 7

/-- A supply crosses its early-warning threshold (R515). -/
def execSupplyWarning (_rail : Fin 3) (s : State) : Host.Outcome State Fault Refusal := .next (doSupplyWarning s)

def doPhySupplyFail (s : State) : State :=
  let s := { s with t := s.now }
  (if s.rst.warm then s else s.linkReset).updRst fun r => { r with phyOk := false }

/-- R516. -/
def execPhySupplyFail (s : State) : Host.Outcome State Fault Refusal := .next (doPhySupplyFail s)

def execPhySupplyReturn (s : State) : Host.Outcome State Fault Refusal :=
  .next (s.updRst fun r => { r with phyOk := true })

/-! ### Bring-up (R470 to R478) -/

/-- The clock that a strap level or a record selects. -/
def strapClk (l : Nat) : Nat := match l with | 2 => 1 | 1 => 2 | _ => 0

/-- What the option-byte loader finds (R470): shown in `RST_BOOT`, torn copies reported. -/
def State.loadBoot (s : State) : State :=
  let a := s.bootCopy 0
  let b := s.bootCopy 1
  let ok (c : NvCopy) : Bool := match c with | .valid _ => true | _ => false
  let s := (s.wb F.RST_BOOT_AVAL 0 (ok a)).wb F.RST_BOOT_BVAL 0 (ok b)
  let s := (s.wb F.RST_BOOT_ATORN 0 (a = .torn)).wb F.RST_BOOT_BTORN 0 (b = .torn)
  let s := match s.bootForce with
    | some (c, r) => (s.w F.RST_BOOT_SEQ 0 (fieldAt r 2 2)).w F.RST_BOOT_COPY 0 c
    | none => s
  if a = .torn || b = .torn then s.rstStick 3 else s

/-- The boot source of this start (R465, R471, R472): 0 record, 1 host-loaded, 2 stand-alone, 3 Dormant. -/
def State.bootSource (s : State) (inF : Option (List Byte)) (used : Bool) : Nat :=
  let strap : Nat := match s.g F.RST_BOOT_SBOOT with | 3 => 1 | 2 => 2 | 1 => 0 | _ => 3
  let src : Nat :=
    if s.gb F.RST_STAT_DLATCH then 3
    else match s.rst.ovr, inF with
      | some o, _ => o
      | none, some b => if used then strap else bitsOf (fieldAt b 4 4) 0 2
      | none, none => strap
  if src = 0 && inF.isNone then 1 else src

/-- The end of step 1: the record is chosen and its fields are applied; a start that selects Dormant mode goes there. -/
def State.chooseRecord (s : State) : State :=
  let s := s.loadBoot
  let inF := s.bootForce.map fun f => f.2
  let b := inF.getD []
  let w1 := fieldAt b 4 4
  let used : Bool := inF.isNone || bitOf w1 2
  let src := s.bootSource inF used
  let ovr := if s.gb F.RST_STAT_DLATCH then none else s.rst.ovr
  let s := s.wb F.RST_BOOT_USED 0 used
  let s := if used && s.g F.RST_BOOT_SCLK = 0 then s.rstStick 3 else s
  let s := if ovr.isSome then (s.w F.RST_STAT_OVR 0 1).rstStick 13 else s
  let s := s.w F.RST_STAT_CLKSRC 0 (if used then strapClk (s.g F.RST_BOOT_SCLK) else bitsOf w1 4 2)
  let s := s.w F.RST_STAT_BOOTSRC 0 src
  let full : Bool := inF.isSome && (src = 0 || (src ≠ 2 && bitsOf w1 0 2 < 2))
  let off : Bool := inF.isNone || (src = 2 && (used || ovr.isSome))
  let s := s.recordWatch (if off then 0 else bitsOf w1 8 8) (if off then 0 else bitsOf w1 16 16) s.rst.relAt
  let s := s.updRst fun r => { r with
    ovr := if s.gb F.RST_STAT_DLATCH then r.ovr else none, record := inF, perst := inF.isSome && bitOf w1 6,
    confirm := decide (src = 2) || (inF.isSome && bitOf w1 3), safe := full && bitOf w1 7,
    expCrc := fieldAt b 0x20 4 }
  let s := s.updHost fun h => { h with ssid := if inF.isSome then fieldAt b 8 4 else h.ssid }
  let s := s.each 32 fun s i => s.w F.RST_OBUF_DATA i (fieldAt b (4 * i) 4)
  let s := if full then s.applyRecord b else if src = 2 then s.standAlone else s
  if src = 3 && !s.gb F.RST_STAT_DLATCH then s.goDormant (if used then 10 else 11) else s

/-- The words of a safety image record go to its registers (R475). -/
def State.putImage (s : State) (b : List Byte) : State :=
  (List.range imageAddrs.length).foldl (fun (s : State) i =>
    match findReg (imageAddrs.getD i 0) with
    | some (r, n) => r.fields.foldl (fun s f =>
        s.w f.fld n (bitsOf (fieldAt b (4 + 4 * i) 4) f.fld.lo f.fld.width)) s
    | none => s) s

/-- Step 2: the monitor runs; the safety image of NVM, where the record asks for it (R475). -/
def State.startMonitor (s : State) : State :=
  let s := { s with smOn := true }
  let s := if s.rst.safe then
      let torn : Bool := s.safeCopyNv 0 = .torn || s.safeCopyNv 1 = .torn
      let s := if torn then s.rstStick 10 else s
      match s.safeForce with
      | some (_, b) =>
        if fieldAt b 3368 4 = s.rst.expCrc then
          let s := s.putImage b
          (s.takeImage s.pendImage).w F.SAF_CFGCRC_CRC 0 s.rst.expCrc
        else s.rstStick 10
      | none => s.rstStick 10
    else s
  s.siStart.smBoth

/-- Writes a saturating counter and its SAT flag from a stored word (R498). -/
def State.putCount (s : State) (f : Fld) (n v : Nat) : State := (s.w f n v).w f.sat n (v / 2 ^ 31)

/-- R498: the Sinter map in force becomes the live state. -/
def State.loadMap (s : State) : State :=
  let torn : Bool := s.mapCopy 0 = .torn || s.mapCopy 1 = .torn
  let s := if torn then s.intStick F.INT_STKY_MAPTORN else s
  match s.mapForce with
  | none => s
  | some (c, b) =>
    let s := ((s.w F.INT_MAPSTAT_SEQ 0 (fieldAt b 2 2)).w F.INT_MAPSTAT_COPY 0 c).w F.INT_MAPSTAT_VALID 0 1
    let s := (s.w F.INT_SLMAP_MAP 0 (fieldAt b 4 4)).w F.INT_ENGMAP_MAP 0 (fieldAt b 8 4)
    let s := s.updSnt fun i => { i with badSl := fieldAt b 0xC 5 % 2 ^ 36, badEng := fieldAt b 0x14 2 }
    let s := [0, 1].foldl (fun s i =>
      let (n, on, _) := s.spareEng i
      if on then s.w F.OBS_MAP_ENG n (16 + i) else s) s
    let s := s.each 16 fun s n =>
      let m := bitsOf (fieldAt b 0x18 8) (4 * n) 4
      let s := s.each 4 fun s k => s.w (F.EXC_LEG_LSTATE k) n (b2n (bitOf m k))
      s.w F.EXC_STAT_LEGS n (4 - (List.range 4).countP fun k => bitOf m k)
    let s := (s.putCount F.INT_HOURS_COUNT 0 (fieldAt b 0x20 4)).putCount F.INT_PCYC_COUNT 0 (fieldAt b 0x24 4)
    let s := s.putCount F.INT_WRST_COUNT 0 (fieldAt b 0x28 4)
    let s := s.each 5 fun s j => s.putCount F.INT_TJB_COUNT j (fieldAt b (0x2C + 4 * j) 4)
    let s := (s.putCount F.INT_CECNT_COUNT 0 (fieldAt b 0x40 4)).putCount F.INT_UECNT_COUNT 0 (fieldAt b 0x44 4)
    let s := s.updSnt fun i => { i with rowMap := (List.range 768).foldl (fun m j =>
      SMap.set 0 m j (fieldAt b (0x80 + 2 * j) 2)) [] }
    s.each 12 fun s k =>
      s.w F.INT_ROWB_USED k ((List.range 64).countP fun j => bitOf (SMap.get 0 s.snt.rowMap (64 * k + j)) 15)

/-- Step 3: the repair map, the queued rows, memory initialization; after a warm reset, and on the way to Dormant mode, the
Ash region stays (R463, R476, R496, R132). -/
def State.initMemory (s : State) : State :=
  let s := if s.rst.cold then s.loadMap.bump F.INT_PCYC_COUNT else s
  let s := s.zeroSram (if s.rst.cold && !s.gb F.RST_STAT_DLATCH then 0 else 0x100000) 0x180000
  let s := s.repairRows
  let s := s.each 12 fun s k => if s.bankFull k then s.w F.INT_ROWB_FULL k 1 else s
  (s.initFilters.updRst fun r => { r with cold := false }).showSw

/-- Mode DORMANT begins (R463, R464, R469): the host link comes with a qualified clock, the chain block repeats frames. -/
def State.enterDormant (s : State) : State :=
  let s := ((s.w F.GLB_STATUS_MODE 0 2).w F.RST_STAT_STEP 0 0).updRst fun r => { r with buOn := false, wdOn := false }
  let s := (s.rstStick 12).smBoth
  let s := if s.gb F.CHN_CFG_EN then (let (v, s) := s.draw 161; s.w F.CHN_FWD_F 0 v.toNat) else s
  if s.gb F.RST_STAT_CLKQ then s.hostRelease else s

/-- RUN begins (R477, R444). -/
def State.enterRun (s : State) : State :=
  let s := ((s.w F.GLB_STATUS_MODE 0 1).w F.RST_STAT_STEP 0 10).w F.GLB_DIAG_SRAM_WR 0 0
  let s := s.updRst fun r => { r with runAt := s.t }
  let s := s.rstStick 0
  let s := if s.regWord 0x1000 ≠ 0 then s.rstStick 11 else s
  let s := if s.rst.fstart then (s.rstStick 2).updRst fun r => { r with fstart := false } else s
  let s := s.each 7 fun s e => s.ventEnable e
  (s.twnEnter.tmpRecheck).smBoth.hostRelease

/-- The condition that ends the step under way, or its limit (Table 16-5). -/
def State.stepOver (s : State) (k : Nat) : Bool :=
  let d := tdiff s.now s.rst.stepAt
  match k with
  | 1 => s.gb F.RST_STAT_CLKQ || (s.gb F.RST_STAT_DLATCH && 100500000 * nsU ≤ d)
  | 5 => 12 * msU ≤ d || (List.range 16).all fun n => !(s.gb F.EXC_CFG_ENABLE n) || s.drv n ≠ dSoft
  | 6 => 20 * msU ≤ d || (List.range 16).all fun n => !(s.resolver n || s.digital n) || s.ost (s.engine n) = oTrack
  | _ => !s.rst.wait

def doBringupStepEnd (s : State) : State :=
  let k := max 1 (s.g F.RST_STAT_STEP)
  if s.g F.GLB_STATUS_MODE ≠ 0 || s.rst.warm || !s.stepOver k then s
  else
    let s := { s with t := s.now }
    match k with
    | 1 =>
      let s := s.chooseRecord
      if s.rst.warm then s else s.enterStep 2
    | 2 => s.startMonitor.enterStep 3
    | 3 =>
      let s := s.initMemory
      if s.gb F.RST_STAT_DLATCH then s.enterDormant
      else if s.g F.RST_STAT_BOOTSRC = 1 then ((s.updRst fun r => { r with wait := true }).ashEnable).hostRelease
      else (s.enterStep 4).ashEnable
    | 8 => s.enterRun
    | _ => s.enterStep (k + 1)

/-- R476: the step under way ends and the next one begins. -/
def execBringupStepEnd (s : State) : Host.Outcome State Fault Refusal := .next (doBringupStepEnd s)

/-! ### The test access port (R528) -/

/-- The levels that the permits and `FTRIP` take on their balls. -/
def State.showBalls (s : State) : State :=
  let h := s.tapHolds
  let s := s.emit (.ball "FTRIP" (b2n s.ftripLevel) s.t)
  let s := s.emit (.ball "TPB" (if h then 0 else 2 * s.g F.SAF_STAT_PERM_B) s.t)
  s.emit (.ball "TPA" (if h then 0 else 2 * s.g F.SAF_STAT_PERM_A) s.t)

/-- Excitation driver `n` is in high impedance: by its state (Table 3-1), or by the test access port. -/
def State.excHiZ (s : State) (n : Nat) : Bool :=
  s.tapHolds || s.drv n = dOff || s.drv n = dFault || s.drv n = dSense

def doTapInstruction (i : TapIn) (s : State) : State :=
  let was := s.tapHolds
  let s := { s with t := s.now, tap := { ir := match i with | .load c => c | .reset => 2#4 } }
  if was = s.tapHolds then s else s.showBalls

/-- The data registers of the test access port (R528); every code without a name acts as BYPASS. -/
inductive TapReg where
  | boundary | idcode | bypass
deriving DecidableEq, Repr

def tapReg (ir : BitVec 4) : TapReg := if ir = 0#4 || ir = 1#4 then .boundary else if ir = 2#4 then .idcode else .bypass

/-- What IDCODE reads: version, part 0x1614, manufacturer code 0x525. -/
def State.idcode (s : State) : BitVec 32 :=
  (BitVec.ofNat 4 (s.g F.GLB_ID_STEP - 1) ++ 0x1614#16 ++ 0x525#11 ++ 1#1 : BitVec 32)

/-- An instruction of the test access port: while one of the three that take the boundary cells is loaded, `TPA` and `TPB`
are static low and `FTRIP` high. -/
def execTapInstruction (i : TapIn) (s : State) : Host.Outcome State Fault Refusal := .next (doTapInstruction i s)

end Sys2Proof.Machine
end

