-- ==== Sys2Proof/Machine/Bus.lean ====
section
/-! DEFINITION. Register accesses of the three paths (R16 to R18, R33, R36, R46, R50, R346, R373, R401 to R404, R418 to
R420): reads with their views and snapshot groups, writes of every block, the commands that are register writes. -/

namespace Sys2Proof.Machine

/-! ### Reads -/

/-- A register's word at its cold-reset values (R19). -/
def resetWord (addr : Nat) : Nat :=
  match findReg addr with
  | none => 0
  | some (r, n) => r.fields.foldl (fun acc f => acc ||| f.fld.rst n * 2 ^ f.fld.lo) 0

/-- The engine an instance of OBS reads from (R148): the alias of a port, or the spare itself. -/
def State.obsRead (s : State) (i : Nat) : Nat := if i < 16 then s.engine i else i

/-- The place of a STATUS field whose FRESH ages (R30), in a register that holds it. -/
def statusLo (addr : Nat) : Option Nat :=
  if 0x4000 ≤ addr && addr < 0x5000 then (if 0x28 ≤ addr % 0x100 && addr % 0x100 < 0x48 then some 16 else none)
  else if 0x5000 ≤ addr && addr < 0x5800 then
    let o := addr % 0x80
    if 0x20 ≤ o && o < 0x34 then some 16 else if 0x34 ≤ o && o < 0x44 then some 24 else none
  else if addr = 0x5808 then some 16
  else if 0x6000 ≤ addr && addr < 0x7000 then
    let o := addr % 0x100
    if 0x18 ≤ o && o ≤ 0x20 then some 24 else if 0x2C ≤ o && o < 0x3C then some 24 else if o = 0x3C || o = 0x40 then some 16
    else none
  else if 0x9400 ≤ addr && addr < 0x9800 then (if addr % 0x40 = 8 then some 0 else none)
  else if 0xB000 ≤ addr && addr < 0xB800 then (if addr % 0x80 = 0x34 then some 0 else none)
  else if 0xF000 ≤ addr && addr < 0xF400 then (if addr % 0x40 = 0x1C then some 16 else none)
  else if 0x16048 ≤ addr && addr < 0x16080 then some 16
  else none

/-- A word with the FRESH bit of the status that its register holds as it stands now (R30). -/
def State.agedOf (s : State) (addr w : Nat) : Nat :=
  match statusLo addr with
  | some lo =>
    let st := bitsOf w lo 8
    w - st * 2 ^ lo + s.aged addr st * 2 ^ lo
  | none => w

def State.agedWord (s : State) (addr : Nat) : Nat := s.agedOf addr (s.regWord addr)

/-- Replaces one bit of a word. -/
def putBit (w i : Nat) (b : Bool) : Nat := setBit w i b

/-- The words of an OBS instance that no field holds: `MAP`, `ERR`; the others are its engine's, from the state in force
at the read (R25). -/
def State.obsView (s : State) (i o : Nat) : Nat :=
  let m := s.obsRead i
  let s := s.engAt m s.t
  if o = 0x38 then
    match s.portOf m with
    | some n => m + 256 * n + 4096
    | none => m
  else if o = 0x3C then s.obsErr m
  else s.regWord (0x8000 + 0x100 * m + o)

/-- The word of a register outside a snapshot group as a read finds it now. -/
def State.viewWord (s : State) (addr : Nat) : Nat :=
  if addr = 0x4 then putBit (s.regWord addr) 10 (s.gb F.GLB_CSTAT_BUSY)
  else if addr = 0x1010 then putBit (s.regWord addr) 0 (!s.nvq.isEmpty)
  else if addr = 0x38C0 then s.evtPending + 512 * b2n s.evtLow
  else if 0x6000 ≤ addr && addr < 0x7000 && addr % 0x100 = 0x44 then s.xcMax ((addr - 0x6000) / 0x100)
  else if addr = 0x7020 then s.xcRead
  else if 0x8000 ≤ addr && addr < 0x9200 then s.obsView ((addr - 0x8000) / 0x100) (addr % 0x100)
  else if addr = 0xD004 then s.geyStat
  else if addr = 0xD014 then s.sram32 (liveBase + 4 * s.g F.GEY_LADDR_WORD)
  else if addr = 0xE804 then s.sram32 (ventBase + 4 * s.g F.VNT_LADDR_WORD)
  else if addr = 0xE818 then s.xovr
  else if addr = 0x10004 then s.safStat
  else if addr = 0x10030 then s.safSi
  else if addr = 0x10034 then s.safVins
  else if 0x12040 ≤ addr && addr < 0x12050 then s.objMask 0 ((addr - 0x12040) / 4) bPend
  else if 0x12050 ≤ addr && addr < 0x12060 then s.objMask 0 ((addr - 0x12050) / 4) bSusp
  else if 0x13040 ≤ addr && addr < 0x13050 then s.objMask 1 ((addr - 0x13040) / 4) bPend
  else if 0x13050 ≤ addr && addr < 0x13060 then s.objMask 1 ((addr - 0x13050) / 4) bSusp
  else if addr = 0x1502C then s.twnDiff
  else if addr = 0x1600C then putBit (s.regWord addr) 16 (s.nvq.head? = some 3)
  else s.agedWord addr

/-- Addresses of a run of registers. -/
def runOf (first count : Nat) : List Nat := (List.range count).map fun j => first + 4 * j

/-- The members of the snapshot group a register belongs to, its first register in front (R33). -/
def snapOf (addr : Nat) : Option (List Nat) :=
  let at' (block stride first count : Nat) : Option (List Nat) :=
    let o := (addr - block) % stride
    if first ≤ o && o < first + 4 * count then some (runOf (addr - o + first) count) else none
  if 0x6000 ≤ addr && addr < 0x7000 then at' 0x6000 0x100 0x18 5
  else if 0x8000 ≤ addr && addr < 0x9200 then (at' 0x8000 0x100 0x50 9).or (at' 0x8000 0x100 0x80 8)
  else if 0x9400 ≤ addr && addr < 0x9800 then at' 0x9400 0x40 0 4
  else if 0xA000 ≤ addr && addr < 0xA800 then at' 0xA000 0x80 0x24 10
  else if 0xB000 ≤ addr && addr < 0xB800 then
    let b := addr - (addr - 0xB000) % 0x80
    if (at' 0xB000 0x80 0x2C 5).isSome || addr = b + 0x58 then some (runOf (b + 0x2C) 5 ++ [b + 0x58]) else none
  else if 0xC000 ≤ addr && addr < 0xC400 then at' 0xC000 0x80 0x20 4
  else if 0xD034 ≤ addr && addr < 0xD048 then some (runOf 0xD034 5)
  else if 0xF000 ≤ addr && addr < 0xF400 then at' 0xF000 0x40 0x1C 4
  else if 0x10200 ≤ addr && addr < 0x10400 then at' 0x10200 0x40 0x20 5
  else if 0x10410 ≤ addr && addr < 0x10428 then some (runOf 0x10410 6)
  else if 0x12000 ≤ addr && addr < 0x14000 then at' 0x12000 0x1000 0x200 32
  else if [0x1401C, 0x14020, 0x14010, 0x14008].contains addr then some [0x1401C, 0x14020, 0x14010, 0x14008]
  else if addr = 0x14040 || addr = 0x14044 then some [0x14040, 0x14044]
  else none

/-- The words of the group with the given first register, and the state after the latch (the latch of an object clears
`NEW`, R386). -/
def State.snapWords (s : State) (first : Nat) (members : List Nat) : State × List Nat :=
  if 0x8000 ≤ first && first < 0x9200 then
    let m := s.obsRead ((first - 0x8000) / 0x100)
    (s, if first % 0x100 = 0x50 then s.obsGroup m else s.predGroup m)
  else if 0xA000 ≤ first && first < 0xA800 then (s, s.lrnGroup ((first - 0xA000) / 0x80))
  else if 0xB000 ≤ first && first < 0xB800 then
    let shown := (s.dfb! ((first - 0xB000) / 0x80)).shown
    (s, members.mapIdx fun i a => s.agedOf a (lget shown i))
  else if first = 0xD034 then (s, s.geyGroup)
  else if 0x10200 ≤ first && first < 0x10400 then (s, s.axGroup ((first - 0x10200) / 0x40))
  else if first = 0x10410 then (s, s.cdata)
  else if first = 0x12200 || first = 0x13200 then
    let (ws, s) := s.canLatch ((first - 0x12200) / 0x1000)
    (s, ws)
  else (s, members.map s.agedWord)

/-- A read of a BAR0 word by a path (R17, R18, R33, R404): the first register of a group latches it; the others give what
was latched, the cold-reset value before the first latch. -/
def State.busRead (s : State) (p : Path) (addr : Nat) : State × Nat :=
  match snapOf addr with
  | some members =>
    if members.head? = some addr then
      let (s, ws) := s.snapWords addr members
      (s.latch p (members.zip ws), lget ws 0)
    else (s, (s.latched p addr).getD (resetWord addr))
  | none => (s, s.viewWord addr)

/-- The addressed bytes of a register's word, in the low bits (R16). -/
def portionOf (v addr size : Nat) : Nat := bitsOf v (8 * (addr % 4)) (8 * size)

/-- A read that a row makes, of a word or of a part of it (R16): it reads the register, and the addressed bytes stand in the
outbox. -/
def State.readOut (s : State) (p : Path) (addr size : Nat) : State :=
  let (s, v) := s.busRead p (addr - addr % 4)
  s.emit (.readWords p [portionOf v addr size])

/-- SNAPSHOT_READ (R33, R16). -/
def execSnapshotRead (src : Src) (acc : Access) (s : State) : Host.Outcome State Fault Refusal :=
  .next (s.via src acc.addr fun s => s.readOut src.path acc.addr acc.size)

/-- PREDICTION_READ (R173): a read of `OBSm_PRANG`. -/
def execPredictionRead (src : Src) (m : Fin 18) (s : State) : Host.Outcome State Fault Refusal :=
  .next (s.via src 0x8000 fun s => s.readOut src.path (0x8080 + 0x100 * m) 4)

/-! ### Keyed writes of SAF (R346, R347) -/

/-- `SAF_ACK` (R332, R335, R342). -/
def State.safAck (s : State) (v : Nat) : State :=
  let s := if bitsOf v 16 8 ≠ 0 then s.discAck (bitsOf v 16 8) else s
  let s := if bitOf v 8 then s.devAck else s
  if bitsOf v 0 8 ≠ 0 then s.axisAck (bitsOf v 0 8) else s

/-- What an accepted write of an RWK register does. A connection of axis data is always 16 bytes long (Table 12-15). -/
def State.keyedPut (s : State) (addr v : Nat) : State :=
  if addr = 0x10014 then
    let s := if bitOf v 0 then s.safApply else s
    if bitOf v 1 then s.safDiscard else s
  else if addr = 0x10024 then s.safAck v
  else if addr = 0x10028 then (if bitOf v 8 then s.connAck (v % 256) else s)
  else
    let s := s.writeFields addr v .rwk
    if 0x11000 ≤ addr && addr % 16 = 0 then
      let c := (addr - 0x11000) / 16
      if s.g F.SAFC_CFG_SRC c = 2 then s.w F.SAFC_CFG_DLEN c 16 else s
    else s

/-- A write of an RWK register by a path: 0 accepted, 2 refused. -/
def State.keyedWrite (s : State) (p : Path) (addr v : Nat) : State × Nat :=
  let (s, ok) := s.keyed p fun s => s.keyedPut addr v
  (s, if ok then 0 else 2)

def execKeyedWrite (src : Src) (addr : Nat) (value : Word) (s : State) : Host.Outcome State Fault Refusal :=
  .next (s.via src addr fun s => if hasAcc addr .rwk then (s.keyedWrite src.path addr value.toNat).1 else s)

def execApply (src : Src) (s : State) : Host.Outcome State Fault Refusal :=
  .next (s.via src 0x10000 fun s => (s.keyed src.path State.safApply).1)

def execSafCfgDiscard (src : Src) (s : State) : Host.Outcome State Fault Refusal :=
  .next (s.via src 0x10000 fun s => (s.keyed src.path State.safDiscard).1)

def execAxisAck (src : Src) (axes : BitVec 8) (s : State) : Host.Outcome State Fault Refusal :=
  .next (s.via src 0x10000 fun s => (s.keyed src.path fun s => s.axisAck axes.toNat).1)

def execDevAck (src : Src) (s : State) : Host.Outcome State Fault Refusal :=
  .next (s.via src 0x10000 fun s => (s.keyed src.path State.devAck).1)

def execDiscAck (src : Src) (pairs : BitVec 8) (s : State) : Host.Outcome State Fault Refusal :=
  .next (s.via src 0x10000 fun s => (s.keyed src.path fun s => s.discAck pairs.toNat).1)

def execConnAck (src : Src) (conn : BitVec 8) (s : State) : Host.Outcome State Fault Refusal :=
  .next (s.via src 0x10000 fun s => (s.keyed src.path fun s => s.connAck conn.toNat).1)

/-! ### Load registers that stage (R272, R373) -/

/-- A write of `GEY_LDATA` (R272): the live-table word at `GEY_LADDR` enters the set and the address advances. -/
def State.liveTableWrite (s : State) (p : Path) (v : Nat) : State × Nat :=
  let wd := s.g F.GEY_LADDR_WORD
  let (s, r) := s.stage p (.sram (liveBase + 4 * wd)) v
  (s.w F.GEY_LADDR_WORD 0 (wd + 1), r)

def execLiveTableWrite (src : Src) (value : Word) (s : State) : Host.Outcome State Fault Refusal :=
  .next (s.via src 0xD000 fun s => (s.liveTableWrite src.path value.toNat).1)

/-- A write of `CANc_OWDATA` (R373): words 0x00 to 0x0C are staged, data words act at once or are refused. -/
def State.objectWrite (s : State) (p : Path) (c v : Nat) : State × Nat :=
  let wd := s.g F.CAN_OWADDR_WORD c
  let (s, r, busy) : State × Nat × Bool :=
    if wd % 32 < 4 then
      let (s, r) := s.stage p (.sram (objAt c (wd / 32) (wd % 32))) v
      (s, r, false)
    else
      let (s, b) := s.canDataWrite c wd v
      (s, 0, b)
  ((s.w F.CAN_OWADDR_RESULT c (b2n busy)).w F.CAN_OWADDR_WORD c (wd + 1), r)

def execObjectWrite (src : Src) (c : Fin 2) (value : Word) (s : State) : Host.Outcome State Fault Refusal :=
  .next (s.via src 0x12000 fun s => (s.objectWrite src.path c value.toNat).1)

/-! ### Writes that act at once, block by block -/

/-- The RW and W1C fields of a register. -/
def State.writePlain (s : State) (addr v : Nat) : State := (s.writeFields addr v .rw).writeClear addr v

/-- Blocks GLB and RST. `SRAM_WR` takes a 1 only in BRINGUP or DORMANT (R50). -/
def State.writeGlb (s : State) (addr v : Nat) : State :=
  if addr = 0x18 then
    if !bitOf v 0 then s.w F.GLB_DIAG_SRAM_WR 0 0
    else if s.g F.GLB_STATUS_MODE = 1 then s else s.w F.GLB_DIAG_SRAM_WR 0 1
  else if addr = 0x100C then s.rstCommand v
  else if addr = 0x1014 then s.wdCfg v
  else if addr = 0x1018 then s.wdKick v
  else s.writePlain addr v

/-- Blocks HIF and EVT. -/
def State.writeHif (s : State) (p : Path) (addr v : Nat) : State :=
  if addr = 0x2018 then s.hbCfg v
  else if addr = 0x201C then s.heartbeat p
  else if 0x2100 ≤ addr && addr < 0x2500 then
    let r := (addr - 0x2100) / 0x20
    let o := addr % 0x20
    if o = 0 || o = 4 then s.ringBase r addr v
    else if o = 8 then s.ringCfg r v
    else if o = 0xC then s.doorbell r v
    else s.writePlain addr v
  else s.writePlain addr v

/-- Blocks PRT and EXC. -/
def State.writePrt (s : State) (addr v : Nat) : State :=
  if addr < 0x5000 && addr % 0x100 = 0x48 then
    let n := (addr - 0x4000) / 0x100
    let s := if bitOf v 0 then s.portRestart n false false else s
    if bitOf v 1 then s.w2wNow n else s
  else if 0x5000 ≤ addr && addr < 0x5800 && addr % 0x80 = 0x50 then
    let n := (addr - 0x5000) / 0x80
    let s := if bitOf v 0 then s.restartDrv n else s
    if bitOf v 1 then s.phReacq n else s
  else s.writeClear addr v

/-- Block ACQ: registers of a port, then the common ones, which act at once. -/
def State.writeAcq (s : State) (addr v : Nat) : State :=
  if addr < 0x7000 then
    if addr % 0x100 = 0x58 then
      let n := (addr - 0x6000) / 0x100
      let s := if bitOf v 0 then s.pkClr n else s
      if bitOf v 1 then s.xcClr n else s
    else s.writeClear addr v
  else if addr = 0x7004 then s.filterLoad v
  else if addr = 0x7008 then s.filterSwap v
  else s.writePlain addr v

/-- Block OBS, instance `i`: `PREQ`, `TSETV` and the commands reach the engine that serves (R148, R184). -/
def State.writeObs (s : State) (i addr v : Nat) : State :=
  if addr % 0x100 = 0x48 then
    let s := if bitOf v 0 then s.obsAcq i else s
    if bitOf v 1 then s.obsMset i (bitsOf v 8 8) else s
  else
    match s.obsTarget i with
    | some m => s.writePlain (0x8000 + 0x100 * m + addr % 0x100) v
    | none => s

/-- Blocks LRN and DFB. -/
def State.writeLrn (s : State) (addr v : Nat) : State :=
  if addr < 0xA800 && addr % 0x80 = 0x5C then
    let n := (addr - 0xA000) / 0x80
    let s := if bitOf v 0 then s.lrnClr n else s
    if bitOf v 1 then s.loadNv n else s
  else if addr = 0xA800 then (if bitOf v 16 then s.lrnCommit (v % 65536) else s)
  else if addr = 0xA80C then s.learnTableWrite v
  else if 0xB000 ≤ addr && addr % 0x80 = 0x54 then
    let n := (addr - 0xB000) / 0x80
    let s := if bitOf v 0 then s.zclr n else s
    let s := if bitOf v 1 then s.clrdeg n else s
    if bitOf v 2 then s.qclr n else s
  else if 0xA800 ≤ addr && addr < 0xB000 then s.writePlain addr v
  else s.writeClear addr v

/-- Blocks EMU and GEY. SAT of `EMUi_BKMAX` also clears MAX (Table 8-3). -/
def State.writeEmu (s : State) (addr v : Nat) : State :=
  let i := (addr - 0xC000) / 0x80
  if addr < 0xC400 && addr % 0x80 = 0x3C then
    let s := if bitOf v 0 then s.emuAlign i else s
    if bitOf v 1 then s.emuRearm i else s
  else if addr < 0xC400 && addr % 0x80 = 0x30 then
    if bitOf v 31 then (s.w F.EMU_BKMAX_SAT i 0).w F.EMU_BKMAX_MAX i 0 else s
  else if addr = 0xD01C then s.shadowData v
  else if addr = 0xD020 then s.groupCommand v
  else if addr = 0xD010 || addr = 0xD018 || addr = 0xD030 then s.writePlain addr v
  else s.writeClear addr v

/-- Blocks VNT and TMP. -/
def State.writeVnt (s : State) (addr v : Nat) : State :=
  if addr < 0xE800 && addr % 0x80 = 0x28 then s.ventCommand ((addr - 0xE000) / 0x80) v
  else if addr = 0xE804 then s.ventLdata v
  else if addr = 0xE80C then s.ventHost v
  else if 0xE800 ≤ addr && addr < 0xF000 then s.writePlain addr v
  else s.writeClear addr v

/-- Block SAF outside the key window. -/
def State.writeSaf (s : State) (p : Path) (addr v : Nat) : State :=
  if addr = 0x10010 then s.safKey p v
  else if addr = 0x10404 then (if bitOf v 0 then s.safSend else s)
  else if 0x10410 ≤ addr && addr < 0x10420 then s.setCdata ((addr - 0x10410) / 4) v
  else s.writePlain addr v

/-- Blocks CAN0 and CAN1. -/
def State.writeCan (s : State) (c addr v : Nat) : State :=
  let o := addr % 0x1000
  if o = 0x18 then s.canCmd c v
  else if o = 0x30 then s.canOcmd c (v % 128) (bitOf v 8) (bitOf v 9) (bitOf v 10)
  else if o = 0x80 || o = 0x100 then s.writePlain addr v
  else s.writeClear addr v

/-- Blocks CHN, TWN and INT. -/
def State.writeChn (s : State) (addr v : Nat) : State :=
  if addr = 0x14038 then s.chnCommand v
  else if addr = 0x1501C then s.twnCommand v
  else if addr = 0x14030 || addr = 0x14034 || addr = 0x15028 then s.writePlain addr v
  else if addr = 0x16034 then s.swapCommand v
  else if addr = 0x1603C then s.rowRequest v
  else if addr = 0x16040 then (if bitOf v 0 then s.mapCommit else s)
  else if addr = 0x16108 then s.ashCommand v
  else s.writeClear addr v

/-- The block of an address takes a write that is not staged. -/
def State.writeNow (s : State) (p : Path) (addr v : Nat) : State :=
  if addr < 0x2000 then s.writeGlb addr v
  else if addr < 0x4000 then s.writeHif p addr v
  else if addr < 0x6000 then s.writePrt addr v
  else if addr < 0x8000 then s.writeAcq addr v
  else if addr < 0x9200 then s.writeObs ((addr - 0x8000) / 0x100) addr v
  else if addr < 0xA000 then s.writeClear addr v
  else if addr < 0xC000 then s.writeLrn addr v
  else if addr < 0xE000 then s.writeEmu addr v
  else if addr < 0x10000 then s.writeVnt addr v
  else if addr < 0x12000 then s.writeSaf p addr v
  else if addr < 0x14000 then s.writeCan ((addr - 0x12000) / 0x1000) addr v
  else s.writeChn addr v

/-- A write of a 32-bit word of BAR0 by a path (R17, R36): 0 acted or entered, 2 refused, 3 no place in the set. A block
that does not answer ignores it. -/
def State.busWrite (s : State) (p : Path) (addr v : Nat) : State × Nat :=
  if addr % 4 ≠ 0 || !s.reaches addr || (findReg addr).isNone then (s, 0)
  else if isStaged addr then (if (s.writeTarget addr).isSome then s.stage p (.reg addr) v else (s, 0))
  else if addr = 0x8 then
    let (s, r) := s.commitWrite p v
    (s, if r = 0 then 0 else 2)
  else if addr = 0xD014 then s.liveTableWrite p v
  else if addr = 0x12084 || addr = 0x13084 then s.objectWrite p ((addr - 0x12084) / 0x1000) v
  else if hasAcc addr .rwk then s.keyedWrite p addr v
  else (s.writeNow p addr v, 0)

/-- REGISTER_WRITE (R16 to R18): a write that is no whole aligned word is ignored. -/
def execRegisterWrite (src : Src) (addr : Nat) (value : Word) (size : Nat) (s : State) : Host.Outcome State Fault Refusal :=
  .next (if size = 4 then ((s.at src).busWrite src.path addr value.toNat).1 else s)

/-- The register at an address is a saturating counter whose SAT a write clears. -/
def hasSat (addr : Nat) : Bool :=
  match findReg addr with
  | some (r, _) => r.fields.any fun f => f.acc = .w1c && f.fld.lo = 31 && f.fld.width = 1
  | none => false

/-- SAT_CLEAR (R46): SAT and the count of a saturating counter go to 0; the health record's SAT is RO. -/
def execSatClear (src : Src) (addr : Nat) (s : State) : Host.Outcome State Fault Refusal :=
  .next (if hasSat addr then ((s.at src).busWrite src.path addr (2 ^ 31)).1 else s)

/-! ### BAR2 (R49, R50) -/

/-- The word of BAR2 as the host reads it; the buffers and what lies above the SRAM read 0 (R49). -/
def State.bar2Word (s : State) (off : Nat) : Nat :=
  if 0x110000 ≤ off && off < 0x120000 then s.lrnRead ((off - 0x110000) / 0x1000) (off % 0x1000)
  else if off < 0x130000 then s.sram32 off else 0

/-- A write of BAR2 by a path: 0 taken or ignored, 2 refused. -/
def State.bar2Put (s : State) (off v : Nat) : State × Nat :=
  if !s.gb F.GLB_DIAG_SRAM_WR then (s, 2)
  else if off % 4 = 0 && off < sramSize then (s.setSram32 off v, 0)
  else (s, 0)

def execBar2Write (src : Src) (off : Nat) (value : Word) (s : State) : Host.Outcome State Fault Refusal :=
  .next (s.via src 0 fun s => (s.bar2Put off value.toNat).1)

/-! ### REGWR and REGRD (R401, R402) -/

/-- A BAR0 offset that a descriptor may name. -/
def regOffsetOk (a : Nat) : Bool := a % 4 = 0 && a < 0x40000

/-- The pairs of a REGWR in order, each on its own: the codes they gave. -/
def State.regPairs (s : State) (p : Path) : List RegPair → State × List Nat
  | [] => (s, [])
  | q :: qs =>
    let (s, r) := s.busWrite p q.addr q.value.toNat
    let (s, rs) := s.regPairs p qs
    (s, r :: rs)

/-- Result and VALUE of a REGWR: those of the first refused pair. -/
def pairResult (rs : List Nat) : Nat × Nat :=
  match rs.findIdx? fun r => r ≠ 0 with
  | none => (0, 0)
  | some i => (lget rs i, i + 4 * rs.countP fun r => r ≠ 0)

/-- REGWR (R401): one to three pairs of offsets in BAR0; otherwise no pair acts. -/
def State.regwrDesc (s : State) (d : Desc) (pairs : List RegPair) : State × Option (Nat × Nat) :=
  if pairs.isEmpty || 3 < pairs.length || pairs.any fun q => !regOffsetOk q.addr then (s, some (4, 0))
  else
    let (s, rs) := s.regPairs (.ring d.ring) pairs
    (s, some (pairResult rs))

def execRegwr (d : Desc) (pairs : List RegPair) (s : State) : Host.Outcome State Fault Refusal :=
  .next (s.descr d (fun s => s.regwrDesc d pairs) 1)

/-- REGRD: VALUE is the word read; a block that does not answer reads 0. -/
def State.regrdDesc (s : State) (d : Desc) (addr : Nat) : State × Option (Nat × Nat) :=
  if !regOffsetOk addr then (s, some (4, 0))
  else if !s.reaches addr then (s, some (0, 0))
  else
    let (s, v) := s.busRead (.ring d.ring) addr
    (s, some (0, v))

def execRegrd (d : Desc) (addr : Nat) (s : State) : Host.Outcome State Fault Refusal :=
  .next (s.descr d (fun s => s.regrdDesc d addr) 2)

/-! ### The SPI port (R418 to R420) -/

/-- The address of a frame, where R418 lets it: whether BAR2, and the offset. -/
def spiAddr (b : List Byte) : Option (Bool × Nat) :=
  let a := (b.getD 1 0).toNat * 65536 + (b.getD 2 0).toNat * 256 + (b.getD 3 0).toNat
  if bitOf a 23 then (if bitsOf a 21 2 = 0 then some (true, bitsOf a 0 21) else none)
  else if bitsOf a 18 5 = 0 then some (false, bitsOf a 0 18) else none

def spiCmd (b : List Byte) : Nat := (b.getD 0 0).toNat
def spiIsWrite (b : List Byte) : Bool := bitOf (spiCmd b) 7
def spiWords (b : List Byte) : Nat := spiCmd b % 16 + 1
/-- Bytes of a whole frame, and up to and with its request CRC. -/
def spiLen (b : List Byte) : Nat := 9 + 4 * spiWords b
def spiHead (b : List Byte) : Nat := if spiIsWrite b then 5 + 4 * spiWords b else 5

/-- The STATUS byte of Table 14-11. -/
def State.spiStatus (s : State) (ack crc bad refused : Bool) : Nat :=
  b2n ack + 2 * b2n crc + 4 * b2n bad + 8 * b2n refused + 16 * b2n s.evtLow + 32 * b2n (s.g F.GLB_STATUS_MODE = 2) + 64

/-- Reads `n` words of a frame: the words, and whether one was refused. -/
def State.spiReads (s : State) (b : List Byte) (bar2 : Bool) (base : Nat) : Nat → State × List Nat × Bool
  | 0 => (s, [], false)
  | n + 1 =>
    let (s, ws, bad) := s.spiReads b bar2 base n
    let a := if bitOf (spiCmd b) 4 then base else base + 4 * n
    if bar2 then
      if s.poisoned a then (s.eccSeen a, ws ++ [0], true) else (s, ws ++ [s.bar2Word a], bad)
    else if s.reaches a then
      let (s, v) := s.busRead .spi a
      (s, ws ++ [v], bad)
    else (s, ws ++ [0], bad)

/-- Writes `n` words of a frame: whether one was refused under R38, R50 or a key rule. -/
def State.spiWrites (s : State) (b : List Byte) (bar2 : Bool) (base : Nat) : Nat → State × Bool
  | 0 => (s, false)
  | n + 1 =>
    let (s, bad) := s.spiWrites b bar2 base n
    let a := if bitOf (spiCmd b) 4 then base else base + 4 * n
    let v := leNat ((b.drop (4 + 4 * n)).take 4)
    let other : Bool := bar2 || a ≠ 8 || !s.mayCommit .spi
    let (s, r) := if bar2 then s.bar2Put a v else s.busWrite .spi a v
    (s, bad || (r = 2 && other))

/-- A response: STATUS, words, CRC (Table 14-10). -/
def spiReply (st : Nat) (ws : List Nat) : List Byte :=
  let body := leBytes 1 st ++ ws.flatMap fun w => leBytes 4 w
  body ++ leBytes 1 (crc8 body)

/-- What a frame whose request CRC byte has ended does, and its response from STATUS on. -/
def State.spiRun (s : State) (b : List Byte) : State × List Byte :=
  let h := spiHead b - 1
  let n := spiWords b
  let zeros : List Nat := if spiIsWrite b then [] else List.replicate n 0
  if crc8 (b.take h) ≠ (b.getD h 0).toNat then
    let s := (s.bump F.HIF_SPICRC_COUNT).hifStick F.HIF_STKY_SPICRC
    (s, spiReply (s.spiStatus false true false false) zeros)
  else
    match (if bitsOf (spiCmd b) 5 2 = 1 then spiAddr b else none) with
    | none => (s, spiReply (s.spiStatus false false true false) zeros)
    | some (bar2, base) =>
      if spiIsWrite b then
        let (s, bad) := s.spiWrites b bar2 base n
        (s, spiReply (s.spiStatus true false false bad) [])
      else
        let (s, ws, bad) := s.spiReads b bar2 base n
        (s, spiReply (s.spiStatus true false false bad) ws)

/-- A whole frame, of the kind the row names; the port answers once bring-up has released it. -/
def State.spiFrame (s : State) (write : Bool) (b : List Byte) (sub : Nat) : State :=
  if s.rst.warm || !s.host.released || spiIsWrite b ≠ write || b.length < spiLen b then s
  else
    let (s, out) := { s with t := tadd s.now sub }.spiRun b
    s.emit (.spi out)

def execSpiRead (bytes : List Byte) (sub : Nat) (s : State) : Host.Outcome State Fault Refusal :=
  .next (s.spiFrame false bytes sub)

def execSpiWrite (bytes : List Byte) (sub : Nat) (s : State) : Host.Outcome State Fault Refusal :=
  .next (s.spiFrame true bytes sub)

/-- R420: `SPI_CS_N` rose early: what had reached its request CRC has acted; the frame counts as aborted. -/
def doSpiAbort (b : List Byte) (sub : Nat) (s : State) : State :=
  if s.rst.warm || !s.host.released || (!b.isEmpty && spiLen b ≤ b.length) then s
  else
    let s := { s with t := tadd s.now sub }
    let s := if !b.isEmpty && spiHead b ≤ b.length then (s.spiRun b).1 else s
    (s.bump F.HIF_SPIABT_COUNT).hifStick F.HIF_STKY_SPIABT

def execSpiAbort (bytes : List Byte) (sub : Nat) (s : State) : Host.Outcome State Fault Refusal :=
  .next (doSpiAbort bytes sub s)

/-! ### Freshness (R30) -/

/-- The status of a register loses FRESH when its age has passed its limit. -/
def State.expire (s : State) (addr : Nat) (st : Fld) (n : Nat) : State := s.w st n (s.aged addr (s.g st n))

/-- The STATUS field at an address, with its instance. -/
def detField (addr : Nat) : Option (Fld × Nat) :=
  match statusLo addr, findReg addr with
  | some lo, some (r, n) => (r.fields.find? fun f => f.fld.lo = lo).map fun f => (f.fld, n)
  | _, _ => none

/-- FRESHNESS_EXPIRY (R30): the age of a published value has passed its limit. Observer outputs hold no FRESH bit of their
own: every use computes it from the age (R172). -/
def doFreshnessExpiry (item : FreshItem) (s : State) : State :=
  let s := s.here
  match item with
  | .engine _ => s
  | .detector addr => match detField addr with | some (f, n) => s.expire addr f n | none => s
  | .decimated n =>
    let a := 0x6018 + 0x100 * n.val
    ((s.expire a F.ACQ_DSIN_STATUS n).expire (a + 4) F.ACQ_DCOS_STATUS n).expire (a + 8) F.ACQ_ENVL_STATUS n
  | .diverse n => s.expire (0x9408 + 0x40 * n.val) F.DIV_STS_STATUS n
  | .temperature c => s.expire (0xF01C + 0x40 * c.val) F.TMP_TEMP_STATUS c
  | .canObject c k => if s.objBad c k then s else s.setObjW c k 4 (s.ostatNow c k)

def execFreshnessExpiry (item : FreshItem) (s : State) : Host.Outcome State Fault Refusal :=
  .next (doFreshnessExpiry item s)

end Sys2Proof.Machine
end

