-- ==== Sys2Proof/Machine/Sample.lean ====
section
/-! DEFINITION. SAMPLE (R24, R25, R27, R28): one sample instant of the whole device, block after block in the order in
which each uses the state of that sample; DECIMATED_OUTPUT (R130). -/

namespace Sys2Proof.Machine

/-- The code of input `i` (0 sine, 1 cosine) of port `n` (R24, R112). -/
def State.codeOf (s : State) (inp : SampleIn) (n i : Nat) : Int := (vget inp.codes (s.sliceOf (2 * n + i))).toInt

/-- Time goes on by one sample; what belonged to the boundary or wrap before this sample is over. -/
def State.tick (s : State) : State :=
  let t := tadd s.now sampleU
  { s with now := t, t := t, bDone := false, wrapped := false, obsLim := s.g F.GLB_FRESH_OBS_LIM }

/-- The sample of port `n` enters its chain or its decoder (R60, R115, R213 to R232). -/
def State.portSample (s : State) (inp : SampleIn) (n : Nat) : State :=
  let cs := s.codeOf inp n 0
  let cc := s.codeOf inp n 1
  if s.resolver n then (s.gapNote n).acqPush n cs cc
  else if s.digital n && s.released 6 then
    s.dfbSample n (s.normalize n 0 (s.g F.PRT_STAT_CUR_S n) cs) (s.normalize n 1 (s.g F.PRT_STAT_CUR_C n) cc)
  else s

/-- Stages 4 to 10 of port `n` (R116 to R129), once every port has its sample: the canceller takes the carriers of all. -/
def State.chainSample (s : State) (n : Nat) : State :=
  if s.resolver n then (s.acqStages n).acqComb n else s

/-- The observer's RANG at the sample, where it may serve the lag measurement (R97). -/
def State.lagAngle (s : State) (n : Nat) : Option Nat :=
  let m := s.engine n
  if s.ost m = oTrack && s.obsFresh m s.now then
    let (th, _, _, _, _) := s.project m (s.obs! m).dObs
    some (rang32 th)
  else none

/-- The sample's share in the lag measurement of the carrier period (R97). -/
def State.lagOf (s : State) (inp : SampleIn) (n : Nat) : State :=
  let x := lget (s.acq! n).hist 0
  if s.resolver n && (s.exc! n).nco && x.clean (s.codeOf inp n 0) (s.codeOf inp n 1) then
    s.lagSample n x.xs x.xc (s.lagAngle n)
  else s

/-- The engine and the learning of port `n` (R152 to R166, R187 to R192). -/
def State.engineSample (s : State) (inp : SampleIn) (n : Nat) : State :=
  let m := s.engine n
  let mset := (s.obs! m).mset.isSome
  let upset := inp.upset.any fun u => u.val = m
  let s := (s.obsSample n upset).shadowRun s n upset
  s.lrnSample n mset

/-- Whether every engine that serves a port tracks, and since when (R460). -/
def State.trackNote (s : State) : State :=
  let all := (List.range 16).all fun n => !(s.resolver n || s.digital n) || s.ost (s.engine n) = oTrack
  s.updRst fun r => { r with trackAt := if all then some (r.trackAt.getD s.now) else none }

/-- Windows that are over leave the state. -/
def State.prune (s : State) : State :=
  { s with blankWin := s.blankWin.filter fun w => decide (0 < tdiff w.2.2 s.now),
           susp := s.susp.filter fun x => decide (0 < tdiff x.2 s.now),
           snt := { s.snt with deg := s.snt.deg.filter fun d => decide (0 ≤ tdiff d.2 s.now) } }

/-- Excitation and acquisition at the sample. -/
def State.sampleFront (s : State) (inp : SampleIn) : State :=
  let s := if s.inj.run then
      { s with inj := { s.inj with smp := s.inj.smp + 1, at' := if s.inj.smp = 0 then s.now else s.inj.at' } }
    else s
  let s := s.ventRequests
  let s := ((s.each 16 State.excSample).calSample inp).tmpSample inp
  let s := s.each 16 fun s n => s.portSample inp n
  s.each 16 State.chainSample

/-- Engines and learning at the sample. -/
def State.sampleObserve (s : State) (inp : SampleIn) : State :=
  let s := s.each 18 fun s m => s.datapath m (inp.upset.any fun u => u.val = m)
  s.each 16 fun s n => s.engineSample inp n

/-- The consumers of the sample's observer state (R28). -/
def State.sampleOut (s : State) : State :=
  let s := s.each 8 State.emuSample
  let s := s.geySample.streamSample s.kNow
  let s := s.ventSample
  s.smSample

/-- The diverse path of a port in DIGITAL mode at a boundary sample, and SM-B, to which it passes (R181, R182). -/
def State.digitalOutput (s : State) (n : Nat) : State := if s.digital n then (s.dfbSecond n).smOutput n else s

/-- The blocks of the datapath, each from the bring-up step on that releases it (R473, Table 16-5). -/
def State.sampleRun (s : State) (inp : SampleIn) (boundary : Bool) : State :=
  let s := (s.ventPulses (tadd s.now sampleU)).keepObs
  let s := if boundary then s.lrnSnapshot else s
  let s := s.each 16 fun s n => s.ventZero n (s.crossAt n)
  let s := { s.tick with k := s.k + 1 }.sampleFront inp
  let s := if s.released 6 then s.sampleObserve inp else s
  let s := if boundary && s.released 6 then (s.each 16 State.digitalOutput).each 16 State.lrnShow else s
  let s := s.each 16 fun s n => s.lagOf inp n
  let s := if s.released 7 then s.sampleOut else s
  let s := s.trackNote
  if boundary then s.mirBuild s.now else s

/-- SAMPLE: the datapath where the ADC array runs; the twin's lines, the NVM controller. -/
def doSample (inp : SampleIn) (s : State) : State :=
  let s := if s.adcOn && !s.rst.warm && s.released 4 then s.sampleRun inp s.bDone else s.tick
  let s := (s.tokenLevel inp.tkni).twinTick
  s.nvStart.prune

def execSample (inp : SampleIn) (s : State) : Host.Outcome State Fault Refusal := .next (doSample inp s)

/-- DECIMATED_OUTPUT (R130): the output of port `n` at the newest sample, the diverse path, SM-B. -/
def doDecimatedOutput (n : Nat) (s : State) : State :=
  if s.adcOn && !s.rst.warm && s.released 4 && s.outputDue n then
    let s := (s.decOutput n).ashKeep n
    let s := if s.released 6 then s.divDecimated n else s
    s.smOutput n
  else s

def execDecimatedOutput (n : Fin 16) (s : State) : Host.Outcome State Fault Refusal := .next (doDecimatedOutput n s)

end Sys2Proof.Machine
end

