-- ==== Sys2Proof/Machine/Dispatch.lean ====
section
/-! DEFINITION. One arm per command: each calls that command's meaning. -/

namespace Sys2Proof.Machine

def exec (i : Instr) (s : State) : Host.Outcome State Fault Refusal :=
  match i with
  | .sample inp => Sys2Proof.Machine.execSample inp s
  | .epochBoundary => Sys2Proof.Machine.execEpochBoundary s
  | .stimeWrap => Sys2Proof.Machine.execStimeWrap s
  | .stagedWrite src addr value => Sys2Proof.Machine.execStagedWrite src addr value s
  | .commit src => Sys2Proof.Machine.execCommit src s
  | .discard src => Sys2Proof.Machine.execDiscard src s
  | .snapshotRead src acc => Sys2Proof.Machine.execSnapshotRead src acc s
  | .satClear src addr => Sys2Proof.Machine.execSatClear src addr s
  | .registerWrite src addr value size => Sys2Proof.Machine.execRegisterWrite src addr value size s
  | .bar2Write src off value => Sys2Proof.Machine.execBar2Write src off value s
  | .freshnessExpiry item => Sys2Proof.Machine.execFreshnessExpiry item s
  | .portRestart src n => Sys2Proof.Machine.execPortRestart src n s
  | .rangeChange n => Sys2Proof.Machine.execRangeChange n s
  | .rangeImmediate n => Sys2Proof.Machine.execRangeImmediate n s
  | .carrierPeriodEnd n m => Sys2Proof.Machine.execCarrierPeriodEnd n m s
  | .leadReading n mv => Sys2Proof.Machine.execLeadReading n mv s
  | .windingTestStart n => Sys2Proof.Machine.execWindingTestStart n s
  | .w2wNow src n => Sys2Proof.Machine.execW2wNow src n s
  | .windingTestEnd n => Sys2Proof.Machine.execWindingTestEnd n s
  | .clampConduct n balls => Sys2Proof.Machine.execClampConduct n balls s
  | .lineLevelLow n pair => Sys2Proof.Machine.execLineLevelLow n pair s
  | .softStartBegin n => Sys2Proof.Machine.execSoftStartBegin n s
  | .softStartEnd n => Sys2Proof.Machine.execSoftStartEnd n s
  | .stopBegin n => Sys2Proof.Machine.execStopBegin n s
  | .stopEnd n => Sys2Proof.Machine.execStopEnd n s
  | .frequencyChangeStart n => Sys2Proof.Machine.execFrequencyChangeStart n s
  | .amplitudeChangeStart n => Sys2Proof.Machine.execAmplitudeChangeStart n s
  | .changeWindowEnd n => Sys2Proof.Machine.execChangeWindowEnd n s
  | .phReacq src n => Sys2Proof.Machine.execPhReacq src n s
  | .phReacqDone n => Sys2Proof.Machine.execPhReacqDone n s
  | .phEstStale n => Sys2Proof.Machine.execPhEstStale n s
  | .currentLimit m => Sys2Proof.Machine.execCurrentLimit m s
  | .driverTempMeasure n temp => Sys2Proof.Machine.execDriverTempMeasure n temp s
  | .vexcMeasure mv => Sys2Proof.Machine.execVexcMeasure mv s
  | .restartDrv src n => Sys2Proof.Machine.execRestartDrv src n s
  | .legMeasure n legs dead => Sys2Proof.Machine.execLegMeasure n legs dead s
  | .legRetire n => Sys2Proof.Machine.execLegRetire n s
  | .takeoverCrossing n => Sys2Proof.Machine.execTakeoverCrossing n s
  | .calibrationStep step => Sys2Proof.Machine.execCalibrationStep step s
  | .xcClr src n => Sys2Proof.Machine.execXcClr src n s
  | .pkClr src n => Sys2Proof.Machine.execPkClr src n s
  | .decimatedOutput n => Sys2Proof.Machine.execDecimatedOutput n s
  | .envelopeBandFault n upper => Sys2Proof.Machine.execEnvelopeBandFault n upper s
  | .filterLoad src value => Sys2Proof.Machine.execFilterLoad src value s
  | .filterSwap src value => Sys2Proof.Machine.execFilterSwap src value s
  | .synchronisingReset => Sys2Proof.Machine.execSynchronisingReset s
  | .coastTimeout m => Sys2Proof.Machine.execCoastTimeout m s
  | .lockDeclare m => Sys2Proof.Machine.execLockDeclare m s
  | .lotError m => Sys2Proof.Machine.execLotError m s
  | .reacquisition m => Sys2Proof.Machine.execReacquisition m s
  | .obsAcq src m => Sys2Proof.Machine.execObsAcq src m s
  | .mset src m midx => Sys2Proof.Machine.execMset src m midx s
  | .lossOfSignal m => Sys2Proof.Machine.execLossOfSignal m s
  | .predictionRead src m => Sys2Proof.Machine.execPredictionRead src m s
  | .diverge n => Sys2Proof.Machine.execDiverge n s
  | .learningCycleEnd n => Sys2Proof.Machine.execLearningCycleEnd n s
  | .applyUpdate n => Sys2Proof.Machine.execApplyUpdate n s
  | .learnTableWrite src value => Sys2Proof.Machine.execLearnTableWrite src value s
  | .lrnClr src n => Sys2Proof.Machine.execLrnClr src n s
  | .loadNv src n => Sys2Proof.Machine.execLoadNv src n s
  | .lrnNvCommit src ports => Sys2Proof.Machine.execLrnNvCommit src ports s
  | .lrnNvWriteDone ok => Sys2Proof.Machine.execLrnNvWriteDone ok s
  | .quadratureEdge n e => Sys2Proof.Machine.execQuadratureEdge n e s
  | .quadratureLoss n => Sys2Proof.Machine.execQuadratureLoss n s
  | .illWindowEnd n => Sys2Proof.Machine.execIllWindowEnd n s
  | .index n e => Sys2Proof.Machine.execIndex n e s
  | .hallEdge n e => Sys2Proof.Machine.execHallEdge n e s
  | .zclr src n => Sys2Proof.Machine.execZclr src n s
  | .clrdeg src n => Sys2Proof.Machine.execClrdeg src n s
  | .qclr src n => Sys2Proof.Machine.execQclr src n s
  | .frameRequest n idle sub => Sys2Proof.Machine.execFrameRequest n idle sub s
  | .frameEnd n f => Sys2Proof.Machine.execFrameEnd n f s
  | .noStart n path => Sys2Proof.Machine.execNoStart n path s
  | .align src out => Sys2Proof.Machine.execAlign src out s
  | .rearm src out => Sys2Proof.Machine.execRearm src out s
  | .zemuPulseEnd out => Sys2Proof.Machine.execZemuPulseEnd out s
  | .slotFire k => Sys2Proof.Machine.execSlotFire k s
  | .gtrigPulseEnd o => Sys2Proof.Machine.execGtrigPulseEnd o s
  | .pwmsEdge p line sub => Sys2Proof.Machine.execPwmsEdge p line sub s
  | .pwmsLost p => Sys2Proof.Machine.execPwmsLost p s
  | .liveTableWrite src value => Sys2Proof.Machine.execLiveTableWrite src value s
  | .shadowWrite src value => Sys2Proof.Machine.execShadowWrite src value s
  | .groupCopyRequest src value => Sys2Proof.Machine.execGroupCopyRequest src value s
  | .streamRecordSend => Sys2Proof.Machine.execStreamRecordSend s
  | .streamStart => Sys2Proof.Machine.execStreamStart s
  | .ventHostStart src value => Sys2Proof.Machine.execVentHostStart src value s
  | .ventPeriodStart e => Sys2Proof.Machine.execVentPeriodStart e s
  | .mov e => Sys2Proof.Machine.execMov e s
  | .movh e => Sys2Proof.Machine.execMovh e s
  | .add e => Sys2Proof.Machine.execAdd e s
  | .sub e => Sys2Proof.Machine.execSub e s
  | .and e => Sys2Proof.Machine.execAnd e s
  | .or e => Sys2Proof.Machine.execOr e s
  | .xor e => Sys2Proof.Machine.execXor e s
  | .shl e => Sys2Proof.Machine.execShl e s
  | .shr e => Sys2Proof.Machine.execShr e s
  | .sar e => Sys2Proof.Machine.execSar e s
  | .cmp e => Sys2Proof.Machine.execCmp e s
  | .br e => Sys2Proof.Machine.execBr e s
  | .ld e => Sys2Proof.Machine.execLd e s
  | .st e => Sys2Proof.Machine.execSt e s
  | .waitDelay e => Sys2Proof.Machine.execWaitDelay e s
  | .waitUntil e => Sys2Proof.Machine.execWaitUntil e s
  | .waitAngle e => Sys2Proof.Machine.execWaitAngle e s
  | .waitEvent e => Sys2Proof.Machine.execWaitEvent e s
  | .waitEnd e => Sys2Proof.Machine.execWaitEnd e s
  | .waitto e => Sys2Proof.Machine.execWaitto e s
  | .post e => Sys2Proof.Machine.execPost e s
  | .halt e => Sys2Proof.Machine.execHalt e s
  | .actPulse e => Sys2Proof.Machine.execActPulse e s
  | .actBlank e => Sys2Proof.Machine.execActBlank e s
  | .actCanreq e => Sys2Proof.Machine.execActCanreq e s
  | .actZemu e => Sys2Proof.Machine.execActZemu e s
  | .actGcopy e => Sys2Proof.Machine.execActGcopy e s
  | .actUevent e => Sys2Proof.Machine.execActUevent e s
  | .actZwait e => Sys2Proof.Machine.execActZwait e s
  | .actFrel e => Sys2Proof.Machine.execActFrel e s
  | .actInj e => Sys2Proof.Machine.execActInj e s
  | .injectionEnd n => Sys2Proof.Machine.execInjectionEnd n s
  | .actSel e => Sys2Proof.Machine.execActSel e s
  | .actTxreq e => Sys2Proof.Machine.execActTxreq e s
  | .actCancel e => Sys2Proof.Machine.execActCancel e s
  | .actSafetx e => Sys2Proof.Machine.execActSafetx e s
  | .clrf src e => Sys2Proof.Machine.execClrf src e s
  | .stop src e => Sys2Proof.Machine.execStop src e s
  | .clrw src e => Sys2Proof.Machine.execClrw src e s
  | .ventProgramWrite src value => Sys2Proof.Machine.execVentProgramWrite src value s
  | .tmpFrameStart x => Sys2Proof.Machine.execTmpFrameStart x s
  | .tmpPredrive c => Sys2Proof.Machine.execTmpPredrive c s
  | .tmpSlotStart c => Sys2Proof.Machine.execTmpSlotStart c s
  | .tmpFilterOutput c m => Sys2Proof.Machine.execTmpFilterOutput c m s
  | .phaseExtend c => Sys2Proof.Machine.execPhaseExtend c s
  | .guardOverload g => Sys2Proof.Machine.execGuardOverload g s
  | .smATick => Sys2Proof.Machine.execSmATick s
  | .smBTick => Sys2Proof.Machine.execSmBTick s
  | .safeInputFiltered ch line x m => Sys2Proof.Machine.execSafeInputFiltered ch line x m s
  | .discrepancyFault ch x => Sys2Proof.Machine.execDiscrepancyFault ch x s
  | .permitReadbackFault m ns => Sys2Proof.Machine.execPermitReadbackFault m ns s
  | .deviceFault m us => Sys2Proof.Machine.execDeviceFault m us s
  | .safKey src value => Sys2Proof.Machine.execSafKey src value s
  | .keyWindowLapse path => Sys2Proof.Machine.execKeyWindowLapse path s
  | .keyedWrite src addr value => Sys2Proof.Machine.execKeyedWrite src addr value s
  | .apply src => Sys2Proof.Machine.execApply src s
  | .safCfgDiscard src => Sys2Proof.Machine.execSafCfgDiscard src s
  | .configCrcCompare => Sys2Proof.Machine.execConfigCrcCompare s
  | .axisAck src axes => Sys2Proof.Machine.execAxisAck src axes s
  | .devAck src => Sys2Proof.Machine.execDevAck src s
  | .discAck src pairs => Sys2Proof.Machine.execDiscAck src pairs s
  | .connAck src conn => Sys2Proof.Machine.execConnAck src conn s
  | .pduGenerate c => Sys2Proof.Machine.execPduGenerate c s
  | .send src => Sys2Proof.Machine.execSend src s
  | .pduAgeExpiry c ctrl => Sys2Proof.Machine.execPduAgeExpiry c ctrl s
  | .pairTimeout c => Sys2Proof.Machine.execPairTimeout c s
  | .singleTimeout c => Sys2Proof.Machine.execSingleTimeout c s
  | .connectionTimeout c => Sys2Proof.Machine.execConnectionTimeout c s
  | .canSelection c => Sys2Proof.Machine.execCanSelection c s
  | .canFrameSent c delay => Sys2Proof.Machine.execCanFrameSent c delay s
  | .canError c err => Sys2Proof.Machine.execCanError c err s
  | .canFrameReceived c f => Sys2Proof.Machine.execCanFrameReceived c f s
  | .protocolException c => Sys2Proof.Machine.execProtocolException c s
  | .recoveryEnd c => Sys2Proof.Machine.execRecoveryEnd c s
  | .integrationEnd c => Sys2Proof.Machine.execIntegrationEnd c s
  | .txreq src c obj => Sys2Proof.Machine.execTxreq src c obj s
  | .cancel src c obj => Sys2Proof.Machine.execCancel src c obj s
  | .resume src c obj => Sys2Proof.Machine.execResume src c obj s
  | .recover src c => Sys2Proof.Machine.execRecover src c s
  | .sleep src c => Sys2Proof.Machine.execSleep src c s
  | .sleepEntry c => Sys2Proof.Machine.execSleepEntry c s
  | .wake src c => Sys2Proof.Machine.execWake src c s
  | .wakePulse m => Sys2Proof.Machine.execWakePulse m s
  | .wakeFrame c f => Sys2Proof.Machine.execWakeFrame c f s
  | .ringcan src c => Sys2Proof.Machine.execRingcan src c s
  | .objectWrite src c value => Sys2Proof.Machine.execObjectWrite src c value s
  | .doorbell src r tail => Sys2Proof.Machine.execDoorbell src r tail s
  | .ringEnable src r value => Sys2Proof.Machine.execRingEnable src r value s
  | .nop d => Sys2Proof.Machine.execNop d s
  | .regwr d pairs => Sys2Proof.Machine.execRegwr d pairs s
  | .regrd d addr => Sys2Proof.Machine.execRegrd d addr s
  | .sramwr d off words => Sys2Proof.Machine.execSramwr d off words s
  | .sramwrb d off words => Sys2Proof.Machine.execSramwrb d off words s
  | .opCommit d => Sys2Proof.Machine.execOpCommit d s
  | .opDiscard d => Sys2Proof.Machine.execOpDiscard d s
  | .fence d => Sys2Proof.Machine.execFence d s
  | .fenceRelease r => Sys2Proof.Machine.execFenceRelease r s
  | .ashrd d off len => Sys2Proof.Machine.execAshrd d off len s
  | .cantxDescriptor d op f => Sys2Proof.Machine.execCantxDescriptor d op f s
  | .deferredCompletion r => Sys2Proof.Machine.execDeferredCompletion r s
  | .timeRecord => Sys2Proof.Machine.execTimeRecord s
  | .msixMessage v => Sys2Proof.Machine.execMsixMessage v s
  | .heartbeat src => Sys2Proof.Machine.execHeartbeat src s
  | .hbcfgWrite src value => Sys2Proof.Machine.execHbcfgWrite src value s
  | .hostHeartbeatExpiry => Sys2Proof.Machine.execHostHeartbeatExpiry s
  | .linkReset => Sys2Proof.Machine.execLinkReset s
  | .spiRead bytes sub => Sys2Proof.Machine.execSpiRead bytes sub s
  | .spiWrite bytes sub => Sys2Proof.Machine.execSpiWrite bytes sub s
  | .spiAbort bytes sub => Sys2Proof.Machine.execSpiAbort bytes sub s
  | .token f => Sys2Proof.Machine.execToken f s
  | .time f => Sys2Proof.Machine.execTime f s
  | .cmd f => Sys2Proof.Machine.execCmd f s
  | .cal f => Sys2Proof.Machine.execCal f s
  | .chainCommandAct => Sys2Proof.Machine.execChainCommandAct s
  | .enumeration => Sys2Proof.Machine.execEnumeration s
  | .enum src => Sys2Proof.Machine.execEnum src s
  | .tokenReturn f => Sys2Proof.Machine.execTokenReturn f s
  | .timeSend => Sys2Proof.Machine.execTimeSend s
  | .chainLoss => Sys2Proof.Machine.execChainLoss s
  | .chainSend src value => Sys2Proof.Machine.execChainSend src value s
  | .pulse src => Sys2Proof.Machine.execPulse src s
  | .syncNEdge sub => Sys2Proof.Machine.execSyncNEdge sub s
  | .mirrorFrameSend => Sys2Proof.Machine.execMirrorFrameSend s
  | .mirrorFrameReceived bytes => Sys2Proof.Machine.execMirrorFrameReceived bytes s
  | .twinLinkDown => Sys2Proof.Machine.execTwinLinkDown s
  | .partnerHeartbeatLost => Sys2Proof.Machine.execPartnerHeartbeatLost s
  | .claim => Sys2Proof.Machine.execClaim s
  | .claimCheck tkni => Sys2Proof.Machine.execClaimCheck tkni s
  | .yield => Sys2Proof.Machine.execYield s
  | .take src => Sys2Proof.Machine.execTake src s
  | .release src => Sys2Proof.Machine.execRelease src s
  | .releaseTimeout => Sys2Proof.Machine.execReleaseTimeout s
  | .forcedTakeover => Sys2Proof.Machine.execForcedTakeover s
  | .initialClaim => Sys2Proof.Machine.execInitialClaim s
  | .coldReset c => Sys2Proof.Machine.execColdReset c s
  | .warmReset source => Sys2Proof.Machine.execWarmReset source s
  | .warmResetRelease => Sys2Proof.Machine.execWarmResetRelease s
  | .resetNPulse ns honoured => Sys2Proof.Machine.execResetNPulse ns honoured s
  | .resetNStuck => Sys2Proof.Machine.execResetNStuck s
  | .stuckPinRelease => Sys2Proof.Machine.execStuckPinRelease s
  | .perstNAssert => Sys2Proof.Machine.execPerstNAssert s
  | .runConfirm src key => Sys2Proof.Machine.execRunConfirm src key s
  | .autoConfirm => Sys2Proof.Machine.execAutoConfirm s
  | .fullrst src key => Sys2Proof.Machine.execFullrst src key s
  | .dormant src key => Sys2Proof.Machine.execDormant src key s
  | .leave src key oboot => Sys2Proof.Machine.execLeave src key oboot s
  | .optload src key => Sys2Proof.Machine.execOptload src key s
  | .nvboot src key => Sys2Proof.Machine.execNvboot src key s
  | .nvsafe src key => Sys2Proof.Machine.execNvsafe src key s
  | .nvmWriteDone ok => Sys2Proof.Machine.execNvmWriteDone ok s
  | .wdkick src value => Sys2Proof.Machine.execWdkick src value s
  | .wdcfgWrite src value => Sys2Proof.Machine.execWdcfgWrite src value s
  | .watchdogExpiry => Sys2Proof.Machine.execWatchdogExpiry s
  | .bringupWatchdogExpiry => Sys2Proof.Machine.execBringupWatchdogExpiry s
  | .clockFailure clk => Sys2Proof.Machine.execClockFailure clk s
  | .clockQualifyTimeout => Sys2Proof.Machine.execClockQualifyTimeout s
  | .bringupStepEnd => Sys2Proof.Machine.execBringupStepEnd s
  | .supplyWarning rail => Sys2Proof.Machine.execSupplyWarning rail s
  | .phySupplyFail => Sys2Proof.Machine.execPhySupplyFail s
  | .scrubPass hits => Sys2Proof.Machine.execScrubPass hits s
  | .registerParityCheck bad => Sys2Proof.Machine.execRegisterParityCheck bad s
  | .engineFailure m => Sys2Proof.Machine.execEngineFailure m s
  | .swapRequest src value => Sys2Proof.Machine.execSwapRequest src value s
  | .sliceSwapStep ok parallel => Sys2Proof.Machine.execSliceSwapStep ok parallel s
  | .sliceSwap => Sys2Proof.Machine.execSliceSwap s
  | .engineSwap => Sys2Proof.Machine.execEngineSwap s
  | .rowreq src value => Sys2Proof.Machine.execRowreq src value s
  | .mapCommit src => Sys2Proof.Machine.execMapCommit src s
  | .mapCommitDaily => Sys2Proof.Machine.execMapCommitDaily s
  | .agingMeasure what => Sys2Proof.Machine.execAgingMeasure what s
  | .healthCount hour => Sys2Proof.Machine.execHealthCount hour s
  | .ashEntry => Sys2Proof.Machine.execAshEntry s
  | .ashTrigger cause => Sys2Proof.Machine.execAshTrigger cause s
  | .arm src => Sys2Proof.Machine.execArm src s
  | .trig src => Sys2Proof.Machine.execTrig src s
  | .partnerHeartbeatEdge => Sys2Proof.Machine.execPartnerHeartbeatEdge s
  | .heartbeatRestart => Sys2Proof.Machine.execHeartbeatRestart s
  | .takeoverOutputEnable => Sys2Proof.Machine.execTakeoverOutputEnable s
  | .emuDriverEnable => Sys2Proof.Machine.execEmuDriverEnable s
  | .hostMemoryAccessFailure r err => Sys2Proof.Machine.execHostMemoryAccessFailure r err s
  | .configurationRequest c => Sys2Proof.Machine.execConfigurationRequest c s
  | .linkTrainingDone speed width => Sys2Proof.Machine.execLinkTrainingDone speed width s
  | .perstNRelease => Sys2Proof.Machine.execPerstNRelease s
  | .chainCrcError sub => Sys2Proof.Machine.execChainCrcError sub s
  | .mirrorFrameCrcError => Sys2Proof.Machine.execMirrorFrameCrcError s
  | .clockQualification clk => Sys2Proof.Machine.execClockQualification clk s
  | .phySupplyReturn => Sys2Proof.Machine.execPhySupplyReturn s
  | .illegalOpcode e => Sys2Proof.Machine.execIllegalOpcode e s
  | .badDescriptor d op => Sys2Proof.Machine.execBadDescriptor d op s
  | .tapInstruction ir => Sys2Proof.Machine.execTapInstruction ir s

end Sys2Proof.Machine
end

