-- ==== Sys2Proof/WellFormed.lean ====
section
/-! DEFINITION. Which commands can come about: an instant lies within its sample, an address within its window and on a
word, a frame has the length its kind has, a descriptor field fits its bytes. Every meaning is total: an ill-formed command
has a meaning too, but no run of the device brings it. -/

namespace Sys2Proof

/-- STIME units from one sample to the next (R24). -/
abbrev sampleLen : Nat := 12800

/-- An instant after the newest sample and before the next. -/
def subOk (sub : Nat) : Bool := sub < sampleLen

def Src.wf (s : Src) : Bool := subOk s.sub

/-- A word of BAR0 (R16, R48). -/
def bar0Ok (addr : Nat) : Bool := addr % 4 = 0 && addr < 0x40000

/-- An offset in BAR2 (R49). -/
def bar2Ok (off : Nat) : Bool := off % 4 = 0 && off < 0x200000

/-- The width of a BAR0 access (R16). -/
def sizeOk (size : Nat) : Bool := size = 1 || size = 2 || size = 4

/-- A read of one, two or four bytes, aligned to its width (R16). -/
def Access.wf (a : Access) : Bool := a.addr < 0x40000 && sizeOk a.size && a.addr % a.size = 0

/-- A register of SAF (Table 1-6). -/
def safOk (addr : Nat) : Bool := bar0Ok addr && 0x10000 ≤ addr && addr < 0x12000

/-- A value that fits a descriptor field of 32 bits. -/
def wordFits (v : Nat) : Bool := v < 2 ^ 32

/-- The pairs of a REGWR: their number is a byte (Table 14-4). -/
def pairsOk (ps : List RegPair) : Bool := ps.length < 256 && ps.all fun p => wordFits p.addr

def PeriodIn.wf (m : PeriodIn) : Bool :=
  m.vsense < 65536 && m.isense < 65536 && m.vfar < 65536 && m.sfreq < 2 ^ 25 && m.sphase.natAbs ≤ 2 ^ 31

/-- A ball edge whose filtered edge may still come before the next sample: at most 65 cycles earlier (R211). -/
def ballOk (sub : Int) : Bool := -65 * 160 ≤ sub && sub < 12800
def EdgeIn.wf (e : EdgeIn) : Bool := ballOk e.sub
def HallIn.wf (e : HallIn) : Bool := ballOk e.sub

/-- A serial frame: at most 40 position bits (R228, R229), CRC bits or a second copy with its separator, an age. -/
def SerialIn.wf (f : SerialIn) : Bool := f.data < 2 ^ 40 && f.check < 2 ^ 34 && f.age < 2 ^ 32

/-- Voltages within the ratings of `TM` balls (Table 18-6 and beyond). -/
def TmpIn.wf (m : TmpIn) : Bool := m.pins.toList.all fun v => v.natAbs < 2 ^ 24

/-- The data bytes a DLC stands for (ISO 11898-1). -/
def frameLen (fd : Bool) (dlc : Nat) : Nat :=
  if dlc ≤ 8 then dlc else if fd then [12, 16, 20, 24, 32, 48, 64].getD (dlc - 9) 64 else 8

/-- A CAN frame carries the data its header says; a remote frame none (Table 13-8). -/
def CanFrame.wf (f : CanFrame) : Bool :=
  let fd := f.hdr0.getLsbD 31
  let remote := f.hdr0.getLsbD 30
  f.age < 2 ^ 40 && f.data.length = if remote && !fd then 0 else frameLen fd (f.hdr1.toNat % 16)

/-- A chain frame has 16 data bytes (R423). -/
def ChainIn.wf (f : ChainIn) : Bool := f.bytes.length = 16 && subOk f.sub

/-- The bytes of a whole SPI frame, from its CMD (Table 14-10). -/
def spiFrameLen (b : List Byte) : Nat := 9 + 4 * ((b.getD 0 0#8).toNat % 16 + 1)

/-- A whole SPI frame of the kind its row names. -/
def spiOk (write : Bool) (b : List Byte) : Bool :=
  !b.isEmpty && (b.getD 0 0#8).getLsbD 7 = write && b.length = spiFrameLen b

/-- A frame cut short. -/
def spiCut (b : List Byte) : Bool := b.isEmpty || b.length < spiFrameLen b

/-- A mirror frame (R437). -/
def mirrorOk (b : List Byte) : Bool := b.length = 1108

/-- A word index of the SRAM banks and a symbol of the code word (Table 17-8). -/
def EccHit.wf (h : EccHit) : Bool := h.word < 0x30000

def FreshItem.wf : FreshItem → Bool
  | .detector addr => bar0Ok addr
  | .engine _ | .decimated _ | .diverse _ | .temperature _ | .canObject _ _ => true

/-- An opcode that Table 14-4 does not list. -/
def badOp (op : Byte) : Bool := 8 < op.toNat

/-- The well-formed commands. -/
def Instr.wf (i : Instr) : Bool :=
  match i with
  | .sample _ => true
  | .epochBoundary => true
  | .stimeWrap => true
  | .stagedWrite src addr _ => src.wf && bar0Ok addr
  | .commit src => src.wf
  | .discard src => src.wf
  | .snapshotRead src acc => src.wf && acc.wf
  | .satClear src addr => src.wf && bar0Ok addr
  | .registerWrite src addr _ size => src.wf && addr < 0x40000 && sizeOk size
  | .bar2Write src off _ => src.wf && bar2Ok off
  | .freshnessExpiry item => item.wf
  | .portRestart src _ => src.wf
  | .rangeChange _ => true
  | .rangeImmediate _ => true
  | .carrierPeriodEnd _ m => m.wf
  | .leadReading _ _ => true
  | .windingTestStart _ => true
  | .w2wNow src _ => src.wf
  | .windingTestEnd _ => true
  | .clampConduct _ _ => true
  | .lineLevelLow _ _ => true
  | .softStartBegin _ => true
  | .softStartEnd _ => true
  | .stopBegin _ => true
  | .stopEnd _ => true
  | .frequencyChangeStart _ => true
  | .amplitudeChangeStart _ => true
  | .changeWindowEnd _ => true
  | .phReacq src _ => src.wf
  | .phReacqDone _ => true
  | .phEstStale _ => true
  | .currentLimit _ => true
  | .driverTempMeasure _ _ => true
  | .vexcMeasure _ => true
  | .restartDrv src _ => src.wf
  | .legMeasure _ _ _ => true
  | .legRetire _ => true
  | .takeoverCrossing _ => true
  | .calibrationStep _ => true
  | .xcClr src _ => src.wf
  | .pkClr src _ => src.wf
  | .decimatedOutput _ => true
  | .envelopeBandFault _ _ => true
  | .filterLoad src _ => src.wf
  | .filterSwap src _ => src.wf
  | .synchronisingReset => true
  | .coastTimeout _ => true
  | .lockDeclare _ => true
  | .lotError _ => true
  | .reacquisition _ => true
  | .obsAcq src _ => src.wf
  | .mset src _ _ => src.wf
  | .lossOfSignal _ => true
  | .predictionRead src _ => src.wf
  | .diverge _ => true
  | .learningCycleEnd _ => true
  | .applyUpdate _ => true
  | .learnTableWrite src _ => src.wf
  | .lrnClr src _ => src.wf
  | .loadNv src _ => src.wf
  | .lrnNvCommit src _ => src.wf
  | .lrnNvWriteDone _ => true
  | .quadratureEdge _ e => e.wf
  | .quadratureLoss _ => true
  | .illWindowEnd _ => true
  | .index _ e => e.wf
  | .hallEdge _ e => e.wf
  | .zclr src _ => src.wf
  | .clrdeg src _ => src.wf
  | .qclr src _ => src.wf
  | .frameRequest _ _ sb => subOk sb
  | .frameEnd _ f => f.wf
  | .noStart _ _ => true
  | .align src _ => src.wf
  | .rearm src _ => src.wf
  | .zemuPulseEnd _ => true
  | .slotFire _ => true
  | .gtrigPulseEnd _ => true
  | .pwmsEdge _ _ sb => sb < sampleLen + 6400
  | .pwmsLost _ => true
  | .liveTableWrite src _ => src.wf
  | .shadowWrite src _ => src.wf
  | .groupCopyRequest src _ => src.wf
  | .streamRecordSend => true
  | .streamStart => true
  | .ventHostStart src _ => src.wf
  | .ventPeriodStart _ => true
  | .mov _ => true
  | .movh _ => true
  | .add _ => true
  | .sub _ => true
  | .and _ => true
  | .or _ => true
  | .xor _ => true
  | .shl _ => true
  | .shr _ => true
  | .sar _ => true
  | .cmp _ => true
  | .br _ => true
  | .ld _ => true
  | .st _ => true
  | .waitDelay _ => true
  | .waitUntil _ => true
  | .waitAngle _ => true
  | .waitEvent _ => true
  | .waitEnd _ => true
  | .waitto _ => true
  | .post _ => true
  | .halt _ => true
  | .actPulse _ => true
  | .actBlank _ => true
  | .actCanreq _ => true
  | .actZemu _ => true
  | .actGcopy _ => true
  | .actUevent _ => true
  | .actZwait _ => true
  | .actFrel _ => true
  | .actInj _ => true
  | .injectionEnd _ => true
  | .actSel _ => true
  | .actTxreq _ => true
  | .actCancel _ => true
  | .actSafetx _ => true
  | .clrf src _ => src.wf
  | .stop src _ => src.wf
  | .clrw src _ => src.wf
  | .ventProgramWrite src _ => src.wf
  | .tmpFrameStart _ => true
  | .tmpPredrive _ => true
  | .tmpSlotStart _ => true
  | .tmpFilterOutput _ m => m.wf
  | .phaseExtend _ => true
  | .guardOverload _ => true
  | .smATick => true
  | .smBTick => true
  | .safeInputFiltered _ _ _ _ => true
  | .discrepancyFault _ _ => true
  | .permitReadbackFault _ _ => true
  | .deviceFault _ _ => true
  | .safKey src _ => src.wf
  | .keyWindowLapse _ => true
  | .keyedWrite src addr _ => src.wf && safOk addr
  | .apply src => src.wf
  | .safCfgDiscard src => src.wf
  | .configCrcCompare => true
  | .axisAck src _ => src.wf
  | .devAck src => src.wf
  | .discAck src _ => src.wf
  | .connAck src _ => src.wf
  | .pduGenerate _ => true
  | .send src => src.wf
  | .pduAgeExpiry _ _ => true
  | .pairTimeout _ => true
  | .singleTimeout _ => true
  | .connectionTimeout _ => true
  | .canSelection _ => true
  | .canFrameSent _ delay => wordFits delay
  | .canError _ _ => true
  | .canFrameReceived _ f => f.wf
  | .protocolException _ => true
  | .recoveryEnd _ => true
  | .integrationEnd _ => true
  | .txreq src _ _ => src.wf
  | .cancel src _ _ => src.wf
  | .resume src _ _ => src.wf
  | .recover src _ => src.wf
  | .sleep src _ => src.wf
  | .sleepEntry _ => true
  | .wake src _ => src.wf
  | .wakePulse _ => true
  | .wakeFrame _ f => f.wf
  | .ringcan src _ => src.wf
  | .objectWrite src _ _ => src.wf
  | .doorbell src _ _ => src.wf
  | .ringEnable src _ _ => src.wf
  | .nop _ => true
  | .regwr _ pairs => pairsOk pairs
  | .regrd _ addr => wordFits addr
  | .sramwr _ off words => wordFits off && words.length < 256
  | .sramwrb _ off words => wordFits off && wordFits words.length
  | .opCommit _ => true
  | .opDiscard _ => true
  | .fence _ => true
  | .fenceRelease _ => true
  | .ashrd _ off len => wordFits off && wordFits len
  | .cantxDescriptor _ _ f => f.wf
  | .deferredCompletion _ => true
  | .timeRecord => true
  | .msixMessage _ => true
  | .heartbeat src => src.wf
  | .hbcfgWrite src _ => src.wf
  | .hostHeartbeatExpiry => true
  | .linkReset => true
  | .spiRead bytes sb => spiOk false bytes && subOk sb
  | .spiWrite bytes sb => spiOk true bytes && subOk sb
  | .spiAbort bytes sb => spiCut bytes && subOk sb
  | .token f => f.wf
  | .time f => f.wf
  | .cmd f => f.wf
  | .cal f => f.wf
  | .chainCommandAct => true
  | .enumeration => true
  | .enum src => src.wf
  | .tokenReturn f => f.wf
  | .timeSend => true
  | .chainLoss => true
  | .chainSend src _ => src.wf
  | .pulse src => src.wf
  | .syncNEdge sb => subOk sb
  | .mirrorFrameSend => true
  | .mirrorFrameReceived bytes => mirrorOk bytes
  | .twinLinkDown => true
  | .partnerHeartbeatLost => true
  | .claim => true
  | .claimCheck _ => true
  | .yield => true
  | .take src => src.wf
  | .release src => src.wf
  | .releaseTimeout => true
  | .forcedTakeover => true
  | .initialClaim => true
  | .coldReset _ => true
  | .warmReset _ => true
  | .warmResetRelease => true
  | .resetNPulse ns _ => wordFits ns
  | .resetNStuck => true
  | .stuckPinRelease => true
  | .perstNAssert => true
  | .runConfirm src _ => src.wf
  | .autoConfirm => true
  | .fullrst src _ => src.wf
  | .dormant src _ => src.wf
  | .leave src _ _ => src.wf
  | .optload src _ => src.wf
  | .nvboot src _ => src.wf
  | .nvsafe src _ => src.wf
  | .nvmWriteDone _ => true
  | .wdkick src _ => src.wf
  | .wdcfgWrite src _ => src.wf
  | .watchdogExpiry => true
  | .bringupWatchdogExpiry => true
  | .clockFailure _ => true
  | .clockQualifyTimeout => true
  | .bringupStepEnd => true
  | .supplyWarning _ => true
  | .phySupplyFail => true
  | .scrubPass hits => hits.all EccHit.wf
  | .registerParityCheck bad => (bad.all bar0Ok)
  | .engineFailure _ => true
  | .swapRequest src _ => src.wf
  | .sliceSwapStep _ _ => true
  | .sliceSwap => true
  | .engineSwap => true
  | .rowreq src _ => src.wf
  | .mapCommit src => src.wf
  | .mapCommitDaily => true
  | .agingMeasure _ => true
  | .healthCount _ => true
  | .ashEntry => true
  | .ashTrigger _ => true
  | .arm src => src.wf
  | .trig src => src.wf
  | .partnerHeartbeatEdge => true
  | .heartbeatRestart => true
  | .takeoverOutputEnable => true
  | .emuDriverEnable => true
  | .hostMemoryAccessFailure _ _ => true
  | .configurationRequest _ => true
  | .linkTrainingDone _ _ => true
  | .perstNRelease => true
  | .chainCrcError sb => subOk sb
  | .mirrorFrameCrcError => true
  | .clockQualification _ => true
  | .phySupplyReturn => true
  | .illegalOpcode _ => true
  | .badDescriptor _ op => badOp op
  | .tapInstruction _ => true

end Sys2Proof
end

