-- ==== Sys2Proof/Safety.lean ====
section
/-! DEFINITION. The terms in which claims speak of a run: the invariant of the stored contents, and what a command may
touch of them. -/

namespace Sys2Proof.Machine

/-! ### The invariant -/

/-- Register fields, SRAM, NVM, the active safety image and an image that waits for its tick are in canonical form, and SM-A and SM-B hold the same active
image (R347: the comparison of the two copies finds a fault of the device, not a change made by a command). -/
structure Inv (s : State) : Prop where
  fields : SMap.wf 0 s.fields = true
  sram : Memory.wf 0#8 s.sram = true
  nvm : Memory.wf nvmErased s.nvm = true
  image : SMap.wf 0 s.actA = true
  copies : s.actA = s.actB
  wait : ∀ img, s.appWait = some img → SMap.wf 0 img = true

/-! ### What a command touches -/

/-- What a command may change of the stored contents: registers in the named 4 KiB blocks of register addresses (observer
engines 16 and 17 count with the others, block 8, CAN controller 1 with controller 0, block 0x12), the Ash record (SRAM below 0x100000), other SRAM, NVM, the active
safety image, STIME. -/
structure Touch where
  blocks : List Nat
  ash : Bool := false
  sram : Bool := false
  nvm : Bool := false
  image : Bool := false
  time : Bool := false
deriving DecidableEq, Repr

/-- Registers of every block. -/
def Touch.all : Touch := { blocks := List.range 32 }

/-- Registers of these blocks alone. -/
def Touch.only (l : List Nat) : Touch := { blocks := l }

/-- Registers of these blocks, and what raising an event touches: the host interface (block 2), the event fabric (block
3), Sinter with the Ash record's pointers (block 0x16), the Ash record itself (R411, R501). -/
def Touch.events (l : List Nat) : Touch := { blocks := 2 :: 3 :: 0x16 :: l, ash := true }

/-- From `s` to `t` nothing changed beyond what `u` names: register fields by their values, SRAM and NVM byte by byte.
The queue is never touched. -/
structure Frame (u : Touch) (s t : State) : Prop where
  regs : ∀ f n, f.base < 0x20000 → f.lo < 32 → f.base / 4096 ∉ u.blocks → t.g f n = s.g f n
  ash : u.sram = false → u.ash = false → ∀ a, t.sramByte a = s.sramByte a
  sram : u.sram = false → ∀ a, 0x100000 ≤ a → t.sramByte a = s.sramByte a
  nvm : u.nvm = false → ∀ a, t.nvmByte a = s.nvmByte a
  image : u.image = false → t.actA = s.actA ∧ t.actB = s.actB
  time : u.time = false → t.now = s.now
  queue : t.pending = s.pending

/-- What each command may touch. -/
def touch : Instr → Touch
  | .sample _ => { Touch.events [0x0, 0x4, 0x5, 0x6, 0x8, 0x9, 0xA, 0xB, 0xC, 0xD, 0xF, 0x10, 0x12, 0x15] with sram := true, time := true }
  | .epochBoundary => { Touch.all with ash := true, sram := true }
  | .stimeWrap => Touch.events [0x0]
  | .stagedWrite _ _ _ => Touch.only [0x0, 0x2]
  | .commit _ => { Touch.only [0x0, 0x2] with sram := true }
  | .discard _ => Touch.only [0x0, 0x2]
  | .snapshotRead _ _ => { Touch.only [] with sram := true }
  | .satClear _ _ => { Touch.all with ash := true, sram := true, nvm := true, image := true }
  | .registerWrite _ _ _ _ => { Touch.all with ash := true, sram := true, nvm := true, image := true }
  | .bar2Write _ _ _ => { Touch.only [] with sram := true }
  | .freshnessExpiry _ => { Touch.all with sram := true }
  | .portRestart _ _ => { Touch.events [0x4, 0x5, 0x6, 0x7, 0x8, 0xA, 0xB] with sram := true }
  | .rangeChange _ => Touch.events [0x4]
  | .rangeImmediate _ => Touch.events [0x4]
  | .carrierPeriodEnd _ _ => Touch.events [0x4, 0x5, 0x6]
  | .leadReading _ _ => Touch.events [0x4]
  | .windingTestStart _ => Touch.only [0x4]
  | .w2wNow _ _ => Touch.only [0x4]
  | .windingTestEnd _ => Touch.events [0x4]
  | .clampConduct _ _ => Touch.events [0x4]
  | .lineLevelLow _ _ => Touch.events [0x4, 0xB]
  | .softStartBegin _ => Touch.only []
  | .softStartEnd _ => Touch.events [0x5, 0x6]
  | .stopBegin _ => Touch.only []
  | .stopEnd _ => Touch.only [0x5, 0x6]
  | .frequencyChangeStart _ => Touch.events [0x5, 0x6]
  | .amplitudeChangeStart _ => Touch.events [0x5, 0x6]
  | .changeWindowEnd _ => Touch.only [0x5, 0x6]
  | .phReacq _ _ => Touch.only []
  | .phReacqDone _ => Touch.events [0x5]
  | .phEstStale _ => Touch.only []
  | .currentLimit _ => Touch.only [0x5]
  | .driverTempMeasure _ _ => Touch.events [0x5, 0x6]
  | .vexcMeasure _ => Touch.events [0x5]
  | .restartDrv _ _ => Touch.only [0x5, 0x6]
  | .legMeasure _ _ _ => Touch.events [0x5, 0x7, 0x10]
  | .legRetire _ => Touch.events [0x5, 0x6, 0x7, 0x10]
  | .takeoverCrossing _ => Touch.events [0x4, 0x5, 0x6]
  | .calibrationStep _ => Touch.events [0x7, 0x10]
  | .xcClr _ _ => Touch.only []
  | .pkClr _ _ => Touch.only [0x6]
  | .decimatedOutput _ => Touch.events [0x6, 0x7, 0x8, 0x9, 0x10]
  | .envelopeBandFault _ _ => Touch.events [0x6, 0x10]
  | .filterLoad _ _ => { Touch.only [0x7] with sram := true }
  | .filterSwap _ _ => Touch.only [0x6, 0x7]
  | .synchronisingReset => Touch.events [0x6, 0x7, 0x10, 0x14]
  | .coastTimeout _ => Touch.events [0x8]
  | .lockDeclare _ => Touch.only [0x8]
  | .lotError _ => Touch.events [0x8]
  | .reacquisition _ => Touch.only [0x8]
  | .obsAcq _ _ => Touch.only [0x8]
  | .mset _ _ _ => Touch.only []
  | .lossOfSignal _ => Touch.events [0x8, 0x10]
  | .predictionRead _ _ => { Touch.only [] with sram := true }
  | .diverge _ => Touch.events [0x9]
  | .learningCycleEnd _ => { Touch.events [0xA] with sram := true }
  | .applyUpdate _ => { Touch.only [] with sram := true }
  | .learnTableWrite _ _ => { Touch.events [0xA] with sram := true }
  | .lrnClr _ _ => { Touch.events [0xA] with sram := true }
  | .loadNv _ _ => Touch.only []
  | .lrnNvCommit _ _ => Touch.only [0xA]
  | .lrnNvWriteDone _ => { Touch.events [0xA] with nvm := true }
  | .quadratureEdge _ _ => Touch.events [0xB]
  | .quadratureLoss _ => Touch.events [0x8, 0xB]
  | .illWindowEnd _ => Touch.only [0xB]
  | .index _ _ => Touch.events [0xB]
  | .hallEdge _ _ => Touch.events [0xB]
  | .zclr _ _ => Touch.only [0xB]
  | .clrdeg _ _ => Touch.only [0xB]
  | .qclr _ _ => Touch.only [0xB]
  | .frameRequest _ _ _ => Touch.events [0xB]
  | .frameEnd _ _ => Touch.events [0xB]
  | .noStart _ _ => Touch.events [0xB]
  | .align _ _ => Touch.only []
  | .rearm _ _ => Touch.only []
  | .zemuPulseEnd _ => Touch.only [0xC]
  | .slotFire _ => { Touch.events [0xD, 0xE, 0x12] with sram := true }
  | .gtrigPulseEnd _ => Touch.only []
  | .pwmsEdge _ _ _ => Touch.events [0xD]
  | .pwmsLost _ => Touch.events [0xD]
  | .liveTableWrite _ _ => Touch.only [0x0, 0x2, 0xD]
  | .shadowWrite _ _ => { Touch.events [0xD] with sram := true }
  | .groupCopyRequest _ _ => Touch.events [0xD]
  | .streamRecordSend => Touch.only [0xD]
  | .streamStart => Touch.only []
  | .ventHostStart _ _ => Touch.events [0xD, 0xE]
  | .ventPeriodStart _ => Touch.events [0xE]
  | .mov _ => Touch.events [0xE]
  | .movh _ => Touch.events [0xE]
  | .add _ => Touch.events [0xE]
  | .sub _ => Touch.events [0xE]
  | .and _ => Touch.events [0xE]
  | .or _ => Touch.events [0xE]
  | .xor _ => Touch.events [0xE]
  | .shl _ => Touch.events [0xE]
  | .shr _ => Touch.events [0xE]
  | .sar _ => Touch.events [0xE]
  | .cmp _ => Touch.events [0xE]
  | .br _ => Touch.events [0xE]
  | .ld _ => Touch.events [0xE]
  | .st _ => { Touch.events [0xE, 0x12] with sram := true }
  | .waitDelay _ => Touch.events [0xE]
  | .waitUntil _ => Touch.events [0xE]
  | .waitAngle _ => Touch.events [0xE]
  | .waitEvent _ => Touch.events [0xE]
  | .waitEnd _ => Touch.events [0xE]
  | .waitto _ => Touch.events [0xE]
  | .post _ => Touch.events [0xE]
  | .halt _ => Touch.events [0xE]
  | .actPulse _ => Touch.events [0xE]
  | .actBlank _ => Touch.events [0xE]
  | .actCanreq _ => { Touch.events [0xE, 0x12] with sram := true }
  | .actZemu _ => Touch.events [0xE]
  | .actGcopy _ => Touch.events [0xD, 0xE]
  | .actUevent _ => Touch.events [0xD, 0xE]
  | .actZwait _ => Touch.events [0xE]
  | .actFrel _ => Touch.events [0xE]
  | .actInj _ => Touch.events [0xE, 0x10]
  | .injectionEnd _ => Touch.only [0x10]
  | .actSel _ => Touch.events [0xE]
  | .actTxreq _ => { Touch.events [0xE, 0x12] with sram := true }
  | .actCancel _ => { Touch.events [0xE, 0x12] with sram := true }
  | .actSafetx _ => { Touch.events [0xE, 0x10, 0x11, 0x12] with sram := true }
  | .clrf _ _ => Touch.only [0xE]
  | .stop _ _ => Touch.only [0xE]
  | .clrw _ _ => Touch.only [0xE]
  | .ventProgramWrite _ _ => { Touch.only [0xE] with sram := true }
  | .tmpFrameStart _ => Touch.events [0xF]
  | .tmpPredrive _ => Touch.only [0xF]
  | .tmpSlotStart _ => Touch.events [0xF]
  | .tmpFilterOutput _ _ => Touch.events [0xF]
  | .phaseExtend _ => Touch.events [0xF]
  | .guardOverload _ => Touch.events [0xF]
  | .smATick => Touch.events [0x10]
  | .smBTick => { Touch.events [0x10, 0x11] with image := true }
  | .safeInputFiltered _ _ _ _ => Touch.events [0x10]
  | .discrepancyFault _ _ => Touch.events [0x10]
  | .permitReadbackFault _ _ => Touch.events [0x10]
  | .deviceFault _ _ => Touch.events [0x10]
  | .safKey _ _ => Touch.events [0x10]
  | .keyWindowLapse _ => Touch.only []
  | .keyedWrite _ _ _ => { Touch.all with ash := true }
  | .apply _ => Touch.events [0x10]
  | .safCfgDiscard _ => Touch.events [0x10, 0x11]
  | .configCrcCompare => Touch.events [0x10]
  | .axisAck _ _ => Touch.events [0x10]
  | .devAck _ => Touch.events [0x10]
  | .discAck _ _ => Touch.events [0x10]
  | .connAck _ _ => Touch.events [0x10, 0x11]
  | .pduGenerate _ => { Touch.events [0x10, 0x11, 0x12] with sram := true }
  | .send _ => { Touch.events [0x10, 0x11, 0x12] with sram := true }
  | .pduAgeExpiry _ _ => { Touch.events [0x10, 0x11, 0x12] with sram := true }
  | .pairTimeout _ => Touch.events [0x10, 0x11]
  | .singleTimeout _ => Touch.events [0x10, 0x11]
  | .connectionTimeout _ => Touch.events [0x10, 0x11]
  | .canSelection _ => { Touch.events [0x12] with sram := true }
  | .canFrameSent _ _ => { Touch.events [0x12] with sram := true }
  | .canError _ _ => { Touch.events [0x12] with sram := true }
  | .canFrameReceived _ _ => { Touch.events [0x10, 0x11, 0x12] with sram := true }
  | .protocolException _ => { Touch.events [0x12] with sram := true }
  | .recoveryEnd _ => { Touch.events [0x12] with sram := true }
  | .integrationEnd _ => { Touch.events [0x12] with sram := true }
  | .txreq _ _ _ => { Touch.events [0x12] with sram := true }
  | .cancel _ _ _ => { Touch.events [0x12] with sram := true }
  | .resume _ _ _ => { Touch.events [0x12] with sram := true }
  | .recover _ _ => { Touch.events [0x12] with sram := true }
  | .sleep _ _ => { Touch.events [0x12] with sram := true }
  | .sleepEntry _ => { Touch.events [0x12] with sram := true }
  | .wake _ _ => { Touch.events [0x12] with sram := true }
  | .wakePulse _ => { Touch.events [0x12] with sram := true }
  | .wakeFrame _ _ => { Touch.events [0x12] with sram := true }
  | .ringcan _ _ => { Touch.events [0x12] with sram := true }
  | .objectWrite _ _ _ => { Touch.events [0x0, 0x12] with sram := true }
  | .doorbell _ _ _ => Touch.events []
  | .ringEnable _ _ _ => { Touch.all with ash := true }
  | .nop _ => Touch.only [0x2]
  | .regwr _ _ => { Touch.all with ash := true, sram := true, nvm := true, image := true }
  | .regrd _ _ => { Touch.only [0x2] with sram := true }
  | .sramwr _ _ _ => Touch.only [0x0, 0x2]
  | .sramwrb _ _ _ => Touch.only [0x0, 0x2]
  | .opCommit _ => { Touch.only [0x0, 0x2] with sram := true }
  | .opDiscard _ => Touch.only [0x0, 0x2]
  | .fence _ => Touch.only [0x2]
  | .fenceRelease _ => Touch.only [0x2]
  | .ashrd _ _ _ => Touch.events []
  | .cantxDescriptor _ _ _ => Touch.only [0x2]
  | .deferredCompletion _ => Touch.only [0x2]
  | .timeRecord => Touch.events []
  | .msixMessage _ => Touch.only [0x2]
  | .heartbeat _ => Touch.only []
  | .hbcfgWrite _ _ => Touch.all
  | .hostHeartbeatExpiry => Touch.events []
  | .linkReset => Touch.only [0x0, 0x2]
  | .spiRead _ _ => { Touch.all with ash := true, sram := true, nvm := true, image := true }
  | .spiWrite _ _ => { Touch.all with ash := true, sram := true, nvm := true, image := true }
  | .spiAbort _ _ => { Touch.all with ash := true, sram := true, nvm := true, image := true }
  | .token _ => Touch.events [0x14]
  | .time _ => { Touch.events [0x0, 0xD, 0x14] with time := true }
  | .cmd _ => Touch.events [0xD, 0x14]
  | .cal _ => Touch.events [0x14]
  | .chainCommandAct => Touch.events [0x6, 0x7, 0xD, 0x10, 0x14]
  | .enumeration => Touch.only []
  | .enum _ => Touch.only []
  | .tokenReturn _ => Touch.events [0x14]
  | .timeSend => Touch.only []
  | .chainLoss => Touch.events [0x0, 0x14]
  | .chainSend _ _ => Touch.events [0xD, 0x14]
  | .pulse _ => Touch.only []
  | .syncNEdge _ => Touch.events [0xD, 0x14]
  | .mirrorFrameSend => Touch.only []
  | .mirrorFrameReceived _ => Touch.events [0x8, 0x11, 0x15]
  | .twinLinkDown => Touch.events [0x15]
  | .partnerHeartbeatLost => Touch.events [0x15]
  | .claim => Touch.only [0x15]
  | .claimCheck _ => { Touch.events [0x0, 0x4, 0xA, 0xF, 0x10, 0x11, 0x12, 0x15] with sram := true }
  | .yield => Touch.events [0x15]
  | .take _ => Touch.only [0x15]
  | .release _ => Touch.only [0x15]
  | .releaseTimeout => Touch.events [0x15]
  | .forcedTakeover => { Touch.events [0x0, 0x4, 0xA, 0xF, 0x10, 0x11, 0x12, 0x15] with sram := true }
  | .initialClaim => Touch.only [0x15]
  | .coldReset _ => { Touch.all with ash := true, sram := true, nvm := true, image := true, time := true }
  | .warmReset _ => { Touch.all with ash := true, nvm := true, image := true }
  | .warmResetRelease => Touch.only [0x1]
  | .resetNPulse _ _ => { Touch.all with ash := true, nvm := true, image := true }
  | .resetNStuck => { Touch.all with ash := true, nvm := true, image := true }
  | .stuckPinRelease => { Touch.all with ash := true, nvm := true, image := true }
  | .perstNAssert => { Touch.all with ash := true, nvm := true, image := true }
  | .runConfirm _ _ => Touch.events [0x1]
  | .autoConfirm => Touch.events [0x1]
  | .fullrst _ _ => { Touch.all with ash := true, nvm := true, image := true }
  | .dormant _ _ => { Touch.all with ash := true, nvm := true, image := true }
  | .leave _ _ _ => { Touch.all with ash := true, nvm := true, image := true }
  | .optload _ _ => { Touch.events [0x0, 0x1, 0x4, 0x5, 0x6, 0x7, 0x8, 0xA, 0xB, 0xC, 0xD, 0xF, 0x12, 0x14, 0x15] with sram := true }
  | .nvboot _ _ => Touch.events [0x1]
  | .nvsafe _ _ => Touch.events [0x1]
  | .nvmWriteDone _ => { Touch.events [0x1] with nvm := true }
  | .wdkick _ _ => Touch.only []
  | .wdcfgWrite _ _ => Touch.only [0x1]
  | .watchdogExpiry => { Touch.all with ash := true, nvm := true, image := true }
  | .bringupWatchdogExpiry => { Touch.all with ash := true, nvm := true, image := true }
  | .clockFailure _ => { Touch.all with ash := true, nvm := true, image := true }
  | .clockQualifyTimeout => { Touch.all with ash := true, nvm := true, image := true }
  | .bringupStepEnd => { Touch.all with ash := true, sram := true, nvm := true, image := true }
  | .supplyWarning _ => Touch.events [0x1]
  | .phySupplyFail => Touch.only [0x0, 0x2]
  | .scrubPass _ => { Touch.events [0xD] with sram := true }
  | .registerParityCheck _ => Touch.events []
  | .engineFailure _ => Touch.events [0x7, 0x8, 0x10]
  | .swapRequest _ _ => Touch.events [0x7, 0x10]
  | .sliceSwapStep _ _ => Touch.events [0x7, 0x10]
  | .sliceSwap => Touch.events [0x7, 0x10]
  | .engineSwap => Touch.events [0x7, 0x8, 0x10]
  | .rowreq _ _ => Touch.events []
  | .mapCommit _ => Touch.only [0x16]
  | .mapCommitDaily => Touch.only []
  | .agingMeasure _ => Touch.events []
  | .healthCount _ => Touch.only [0x16]
  | .ashEntry => Touch.events []
  | .ashTrigger _ => Touch.events []
  | .arm _ => Touch.only [0x16]
  | .trig _ => Touch.events []
  | .partnerHeartbeatEdge => Touch.only [0x15]
  | .heartbeatRestart => Touch.only [0x15]
  | .takeoverOutputEnable => Touch.only [0xD]
  | .emuDriverEnable => Touch.only [0xC]
  | .hostMemoryAccessFailure _ _ => Touch.events []
  | .configurationRequest _ => Touch.only [0x2]
  | .linkTrainingDone _ _ => Touch.only [0x2]
  | .perstNRelease => Touch.only []
  | .chainCrcError _ => Touch.events [0x14]
  | .mirrorFrameCrcError => Touch.events [0x15]
  | .clockQualification _ => { Touch.only [0x1] with time := true }
  | .phySupplyReturn => Touch.only []
  | .illegalOpcode _ => Touch.events [0xE]
  | .badDescriptor _ _ => Touch.only [0x2]
  | .tapInstruction _ => Touch.only []

/-- Command `c` completes from `s`: `exec` answers a next state, nothing changes beyond what the command may touch, and
`P` holds of that state. -/
def Runs (c : Instr) (s : State) (P : State → Prop) : Prop :=
  ∃ t, exec c s = .next t ∧ Frame (touch c) s t ∧ P t

/-- No other register field than those of `l` changed. -/
def RegsBut (l : List (Fld × Nat)) (s t : State) : Prop :=
  ∀ f n, (∀ x ∈ l, f.key n ≠ x.1.key x.2) → t.g f n = s.g f n

/-- Engine `e` issues the legal instruction `i` now (R290, R304): it runs, the instruction's instant is not beyond the next
sample, its word is sound, and budget is left. -/
structure Issues (e : Nat) (i : VInstr) (s : State) : Prop where
  run : s.vst e = vRun
  due : tdiff (s.vnt! e).due (tadd s.now sampleU) ≤ 0
  word : ventDecode (s.ventWord e) = some i
  sound : s.poisoned (ventBase + 4096 * e + 4 * s.g F.VNT_STAT_PC e) = false
  budget : (s.vnt! e).budget ≠ 0

/-- The state in which an issued instruction of engine `e` acts: its instant, one less of the budget. -/
def State.issued (s : State) (e : Nat) : State :=
  { s with t := (s.vnt! e).due }.updVnt e fun v => { v with budget := v.budget - 1 }

/-- Engine `e` went on to the next word after `n` cycles of 2.5 ns (R290). -/
structure Advances (e n : Nat) (s t : State) : Prop where
  pc : t.g F.VNT_STAT_PC e = s.g F.VNT_STAT_PC e + 1
  run : t.vst e = vRun
  budget : (t.vnt! e).budget = (s.vnt! e).budget - 1
  due : (t.vnt! e).due = tadd (s.vnt! e).due (n * 160)

/-- Engine `e` is in FAULT for the fault `f`, with its PC and word kept (R304). -/
structure Faulted (e : Nat) (f : Fld) (s t : State) : Prop where
  state : t.vst e = vFault
  sticky : t.gb f e = true
  pc : t.g F.VNT_FPC_PC e = s.g F.VNT_STAT_PC e
  word : t.g F.VNT_FINS_INS e = (s.ventWord e).toNat
  start : (t.vnt! e).pend = none

/-- The device fault `c` has been latched and made known (R342): its live and latched bits, `DEVF` with its sticky bit; then
every axis of both channels, the permits and `FTRIP` have been decided again. -/
def FaultLatched (c : Nat) (t : State) : Prop :=
  ∃ u : State, bitOf (u.g F.SAF_DFAULT_LATCHED) c = true ∧ bitOf (u.g F.SAF_DFAULT_LIVE) c = true ∧
    u.gb F.SAF_STAT_DEVF = true ∧ u.gb F.SAF_STKY_DEVF = true ∧
    t = ((u.evalCh false anyAx 0).evalCh true anyAx 0).ftrip

/-- The head of descriptor `d`'s ring passes it, and its completion, where it asked for one, gives `res` and `value`
(R402). -/
def Completes (d : Desc) (op res value : Nat) (u t : State) : Prop :=
  t = (u.consume1 d.ring).complete d.ring op d.cmpl res d.tag.toNat value []

/-- Event `e` was raised once: its counter advanced, or stands at its maximum (R46, R411). -/
def Counted (e : Nat) (s t : State) : Prop :=
  t.g F.EVT_CNT_COUNT e = if s.g F.EVT_CNT_COUNT e = 2 ^ 24 - 1 then s.g F.EVT_CNT_COUNT e else s.g F.EVT_CNT_COUNT e + 1

end Sys2Proof.Machine
end

