-- ==== Sys2Proof/Certificates/Slice0/Obligations.lean ====
section
/-! DEFINITION. The statements for the provers, one `def Obligations.<Name> : Prop` each. `Runs c s P` says that `exec c s`
answers a next state `t`, that `t` keeps the frame of `c` (`touch`), and that `P t` holds; `RegsBut l s t` says that no register
field outside the list `l` changed. -/

open Sys2Proof Sys2Proof.Machine

/-- For every command c and state s, a step of s with c at the front of its queue is exec of c
on s, whose queue is the rest. On an empty queue the step answers s (the choice of the model: log entry 1). Rests on:
95_what_each_step_holds. -/
def Obligations.StepRunsTheFrontCommand : Prop :=
  (∀ c s, step { s with pending := c :: s.pending } = exec c s) ∧
  (∀ c rest s, s.pending = c :: rest → step s = exec c { s with pending := rest }) ∧
  (∀ s, s.pending = [] → step s = .next s)

/-- After power-on STIME is 0, the mode is BRINGUP and the role SOLO, the cause is POR, no
commit is under way and the set is empty, SRAM reads 0, the queue and the outbox are empty; the named fields, one or
more from every block, hold the values their tables give; the TAP holds IDCODE and the safety monitor does not run
yet. Rests on: R19, R453, R459. -/
def Obligations.ResetLeavesTheStatedValues : Prop :=
  State.reset.now = 0 ∧ State.reset.pending = [] ∧ State.reset.outbox = [] ∧ State.reset.staged = [] ∧ State.reset.commit = none ∧
  (∀ a, State.reset.sramByte a = 0#8) ∧ State.reset.g F.GLB_STATUS_MODE = 0 ∧ State.reset.g F.GLB_STATUS_ROLE = 0 ∧
  State.reset.gb F.GLB_STATUS_ERA = false ∧ State.reset.g F.GLB_EPOCH_EPOCH = 0 ∧ State.reset.g F.GLB_FRESH_OBS_LIM = 500 ∧
  State.reset.regWord 0x1000 = 1 ∧ State.reset.g F.RST_STAT_LAST = 0 ∧ State.reset.gb F.HIF_HBCFG_PCIE = true ∧
  State.reset.g F.HIF_HBCFG_TMO = 0 ∧
  (∀ n, n < 16 → State.reset.g F.PRT_CFG_MODE n = 0 ∧ State.reset.g F.PRT_CFG_RANGE_S n = 3 ∧ State.reset.g F.EXC_FREQ_FREQ n = 10000000 ∧
    State.reset.g F.EXC_AMP_AMP n = 4000 ∧ State.reset.gb F.EXC_CFG_ENABLE n = false ∧ State.reset.g F.ACQ_DEC_R n = 40 ∧
    State.reset.g F.LRN_CFG_NHARM n = 8 ∧ State.reset.g F.DFB_LINES_LINES n = 1024 ∧ State.reset.engine n = n ∧
    State.reset.g F.TMP_TEMP_STATUS n = 0 ∧ State.reset.drv n = dOff) ∧
  (∀ m, m < 18 → State.reset.g F.OBS_LOOP_BW m = 1000 ∧ State.reset.g F.OBS_LOOP_ZETA m = 1024 ∧ State.reset.ost m = oOff) ∧
  (∀ i, i < 8 → State.reset.g F.EMU_LINES_LINES i = 1024 ∧ State.reset.gb F.EMU_CFG_ENABLE i = false) ∧
  (∀ e, e < 7 → State.reset.vst e = vOff ∧ State.reset.g F.VNT_LIM_BUDGET e = 256) ∧
  State.reset.gb F.SAF_CTRL_TRKREQ = true ∧ State.reset.g F.AX_SS1T_TMAX = 3000 ∧ State.reset.g F.CAN_CFG_COLL_N 1 = 3 ∧
  State.reset.g F.CHN_CFG_TPER = 10 ∧ State.reset.g F.TWN_CFG_HBTO = 10 ∧ State.reset.gb F.INT_CFG_ASH_EN = true ∧
  State.reset.g F.INT_ASHTRIG_POST = 16384 ∧ State.reset.tap.ir = 2#4 ∧ State.reset.smOn = false

/-- The register fields, SRAM, NVM, the active safety image and an image that waits are in
canonical form in State.reset, and both channels hold the same active image. Rests on: R347, R453. -/
def Obligations.ResetHoldsTheInvariant : Prop :=
  Machine.Inv State.reset

/-- For every command and state, exec answers a next state; registers outside the blocks that
touch names for the command, the Ash record, other SRAM, NVM, the active safety image and STIME keep their values
unless touch names them, and the queue keeps its commands. Rests on: R9, R17, R347, R480, R501. -/
def Obligations.EveryCommandKeepsItsFrame : Prop :=
  ∀ c s, ∃ t, exec c s = .next t ∧ Frame (touch c) s t

/-- From every state whose stored contents (register fields, SRAM, NVM, active image, an
image that waits for its tick) are in canonical form and whose two active images agree, a step that answers a next
state answers one of the same kind. Rests on: R9, R347, R453, R480. -/
def Obligations.EveryStepKeepsTheInvariant : Prop :=
  ∀ s t, Machine.Inv s → step s = .next t → Machine.Inv t

/-- For every Vent instruction, at every value of its operands, the word that encodes it decodes to
it; reserved fields are ignored: two words of HALT, POST or BR that differ in reserved bits alone decode alike. Rests
on: R289, R291. -/
def Obligations.VentDecodeOfEncode : Prop :=
  (∀ i : VInstr, ventDecode (ventEncode i) = some i) ∧
  (∀ w v : Word, w.extractLsb' 26 6 = v.extractLsb' 26 6 → (w.extractLsb' 26 6 = 0x1F#6 → ventDecode w = ventDecode v) ∧
    (w.extractLsb' 26 6 = 0x19#6 → w.extractLsb' 0 4 = v.extractLsb' 0 4 → ventDecode w = ventDecode v) ∧
    (w.extractLsb' 26 6 = 0x10#6 → w.extractLsb' 22 4 = v.extractLsb' 22 4 → w.extractLsb' 0 10 = v.extractLsb' 0 10 →
      ventDecode w = ventDecode v))

/-- A read by one path leaves what every path of another set has latched; the COMMAND rings
share one set; a Link reset releases the latches of BAR0 and of the rings and leaves those of SPI. Formalises: R404. -/
def Obligations.SnapshotLatchesOfThePaths : Prop :=
  (∀ src addr size s (p : Path) a, pathCls p ≠ pathCls src.path →
    (Runs (.snapshotRead src ⟨addr, size⟩) s fun t => t.latched p a = s.latched p a) ∧
    (∀ m, Runs (.predictionRead src m) s fun t => t.latched p a = s.latched p a)) ∧
  (∀ d addr s (p : Path) a, pathCls p ≠ pathCls (.ring d.ring) → Runs (.regrd d addr) s fun t => t.latched p a = s.latched p a) ∧
  (∀ b sub s (p : Path) a, pathCls p ≠ pathCls .spi → Runs (.spiRead b sub) s fun t => t.latched p a = s.latched p a) ∧
  (∀ (s : State) (r q : Fin 8) a, s.latched (.ring r) a = s.latched (.ring q) a) ∧
  (∀ (p q : Path), pathCls p = pathCls q ↔ (p = q ∨ ∃ r k, p = .ring r ∧ q = .ring k)) ∧
  (∀ s a, s.rst.warm = false → Runs .linkReset s fun t => t.latched .bar0 a = none ∧ (∀ r, t.latched (.ring r) a = none) ∧
    t.latched .spi a = s.latched .spi a)

/-- A cold reset during a warm reset replaces it; a source asserted during it extends it, and it
does not end while a pin holds it; it includes every Link and port reset; a Link or port reset during it has no
further effect. A cold or warm reset discards the set and the commit under way; a port restart leaves the staged
writes; a Link reset discards a set of BAR0 or a ring that has not been committed, and nothing else of them.
Formalises: R44, R456. -/
def Obligations.ResetsDuringAWarmReset : Prop :=
  (∀ c s, s.rst.warm = true → Runs (.coldReset c) s fun t => t.rst.warm = false ∧ t.now = 0) ∧
  (∀ (b : Fin 8) s, 2 ≤ b.val → s.rst.warm = true → Runs (.warmReset b) s fun t =>
    t.rst.warm = true ∧ t.rst.endAt = laterOf s.rst.endAt (tadd s.now (2 * usU : Nat))) ∧
  (∀ s, s.rst.warm = true → s.rst.byPin = true ∨ s.rst.byPerst = true ∨ 0 ≤ tdiff s.rst.endAt (tadd s.now sampleU) →
    Runs .warmResetRelease s fun t => t = s) ∧
  (∀ (b : Fin 8) s, 2 ≤ b.val → s.rst.warm = false → Runs (.warmReset b) s fun t =>
    (∀ (f : Fld) n, keyPage (f.key n) = 2 → t.g f n = f.rst n % 2 ^ f.width) ∧ t.host.up = false ∧ t.host.deferred = [] ∧
    t.host.owed = [] ∧ t.latches = [] ∧ t.prt = State.reset.prt ∧ t.exc = State.reset.exc ∧ t.acq = State.reset.acq ∧
    t.obs = State.reset.obs ∧ t.dfb = State.reset.dfb ∧
    (∀ (n : Fin 16), t.resolver n = false ∧ t.digital n = false ∧ t.drv n = dOff)) ∧
  (∀ s, s.rst.warm = true → (Runs .linkReset s fun t => t = s) ∧
    (∀ src n, Runs (.portRestart src n) s fun t => t.prt = s.prt ∧ t.exc = s.exc ∧ t.acq = s.acq ∧ t.obs = s.obs ∧ RegsBut [] s t)) ∧
  (∀ c s, Runs (.coldReset c) s fun t => t.staged = [] ∧ t.commit = none ∧ t.g F.GLB_CSTAT_STAGED = 0 ∧ t.gb F.GLB_CSTAT_BUSY = false) ∧
  (∀ (b : Fin 8) s, 2 ≤ b.val → s.rst.warm = false → Runs (.warmReset b) s fun t => t.staged = [] ∧ t.commit = none ∧
    t.g F.GLB_CSTAT_STAGED = 0 ∧ t.gb F.GLB_CSTAT_BUSY = false) ∧
  (∀ src (n : Fin 16) s, Runs (.portRestart src n) s fun t => t.staged = s.staged) ∧
  (∀ s, s.rst.warm = false → Runs .linkReset s fun t => t.commit = s.commit ∧
    t.staged = (if s.g F.GLB_CSTAT_OWNER = 1 ∨ s.g F.GLB_CSTAT_OWNER = 2 then [] else s.staged))

/-- At the end of step 8 the device enters RUN, clears SRAM_WR, sets RST_STKY.RUN and, where
RST_CAUSE is not 0, RST_STKY.CAUSE; STEP is 10 once RUN is reached, and before it shows the step under way: the number
of the next step once a step has ended, of this step until then, 3 while the host loads the record. Formalises: R477. -/
def Obligations.EntryToRunAfterStepEight : Prop :=
  (∀ s, s.g F.GLB_STATUS_MODE = 0 → s.rst.warm = false → s.g F.RST_STAT_STEP = 8 → s.stepOver 8 = true →
    Runs .bringupStepEnd s fun t => t.g F.GLB_STATUS_MODE = 1 ∧ t.gb F.GLB_DIAG_SRAM_WR = false ∧
      bitOf (t.g F.RST_STKY_BITS) 0 = true ∧ (s.regWord 0x1000 ≠ 0 → bitOf (t.g F.RST_STKY_BITS) 11 = true) ∧
      (s.regWord 0x1000 = 0 → bitOf (t.g F.RST_STKY_BITS) 11 = bitOf (s.g F.RST_STKY_BITS) 11) ∧ t.g F.RST_STAT_STEP = 10) ∧
  (∀ s, s.g F.GLB_STATUS_MODE = 0 → s.rst.warm = false → s.g F.RST_STAT_STEP ≤ 1 → s.stepOver 1 = true →
    ({ s with t := s.now } : State).chooseRecord.rst.warm = false →
    Runs .bringupStepEnd s fun t => t.g F.RST_STAT_STEP = 2) ∧
  (∀ s k, k = 2 ∨ k = 3 ∧ s.gb F.RST_STAT_DLATCH = false ∧ s.g F.RST_STAT_BOOTSRC ≠ 1 ∨ 4 ≤ k ∧ k ≤ 7 →
    s.g F.GLB_STATUS_MODE = 0 → s.rst.warm = false → s.g F.RST_STAT_STEP = k → s.stepOver k = true →
    Runs .bringupStepEnd s fun t => t.g F.RST_STAT_STEP = k + 1) ∧
  (∀ s, s.g F.GLB_STATUS_MODE = 0 → s.rst.warm = false → s.g F.RST_STAT_STEP = 3 → s.stepOver 3 = true →
    s.gb F.RST_STAT_DLATCH = false → s.g F.RST_STAT_BOOTSRC = 1 →
    Runs .bringupStepEnd s fun t => t.g F.RST_STAT_STEP = 3 ∧ t.rst.wait = true) ∧
  (∀ s k, s.g F.GLB_STATUS_MODE = 0 → s.rst.warm = false → s.g F.RST_STAT_STEP = k → s.stepOver (max 1 k) = false →
    Runs .bringupStepEnd s fun t => t.g F.RST_STAT_STEP = k)

/-- A write of a staged register by a path that may stage enters the set at its end, or takes
the place of the write already there; a write by another path sets REFUSED, a write beyond 2048 sets STAGE_OVF;
neither changes the set. Rests on: R36, R37, R38. -/
def Obligations.StagedWriteEntersTheSet : Prop :=
  (∀ src addr value s, s.reaches addr = true → isStaged addr = true → (s.writeTarget addr).isSome = true →
    s.mayStage src.path = true → s.inSet (.reg addr) = false → s.staged.length < 2048 →
    Runs (.stagedWrite src addr value) s fun t =>
      t.staged = s.staged ++ [{ tgt := .reg addr, value := value.toNat, did := none }] ∧
      t.g F.GLB_CSTAT_STAGED = s.staged.length + 1 ∧ t.g F.GLB_CSTAT_OWNER = pathOwner src.path ∧
      RegsBut [(F.GLB_CSTAT_STAGED, 0), (F.GLB_CSTAT_OWNER, 0), (F.HIF_STAT_SOWN, 0)] s t) ∧
  (∀ src addr value s, s.reaches addr = true → isStaged addr = true → (s.writeTarget addr).isSome = true →
    s.mayStage src.path = true → s.inSet (.reg addr) = true →
    Runs (.stagedWrite src addr value) s fun t =>
      (t.staged = s.staged.map fun j =>
        if j.tgt = .reg addr then { tgt := .reg addr, value := value.toNat, did := none } else j) ∧ RegsBut [] s t) ∧
  (∀ src addr value s, s.reaches addr = true → isStaged addr = true → (s.writeTarget addr).isSome = true →
    s.mayStage src.path = false →
    Runs (.stagedWrite src addr value) s fun t =>
      t.staged = s.staged ∧ t.g F.GLB_CSTAT_REFUSED = 1 ∧ RegsBut [(F.GLB_CSTAT_REFUSED, 0)] s t) ∧
  (∀ src addr value s, s.reaches addr = true → isStaged addr = true → (s.writeTarget addr).isSome = true →
    s.mayStage src.path = true → s.inSet (.reg addr) = false → 2048 ≤ s.staged.length →
    Runs (.stagedWrite src addr value) s fun t =>
      t.staged = s.staged ∧ t.overflow = true ∧ t.g F.GLB_CSTAT_STAGE_OVF = 1 ∧
      RegsBut [(F.GLB_CSTAT_STAGE_OVF, 0)] s t)

/-- A COMMIT that finds BUSY 0, an owner that may commit, no overflow and no group above 128 writes
closes the set with BUSY 1; while BUSY is 1 it is refused with REFUSED set and the set stays; DISCARD by a path that
may commit empties the open set and leaves the one under way. Rests on: R38, R39, R41. -/
def Obligations.CommitClosesTheSet : Prop :=
  (∀ src s, s.reaches 0x8 = true → s.gb F.GLB_CSTAT_BUSY = false → s.mayCommit src.path = true → s.overflow = false →
    s.poisonIn 0x128000 0x130000 = false → tooBig s.groups = false →
    Runs (.commit src) s fun t =>
      t.commit = some { at' := tadd s.now src.sub, groups := s.groups, first := none } ∧ t.staged = [] ∧
      t.gb F.GLB_CSTAT_BUSY = true ∧ t.g F.GLB_CSTAT_STAGED = 0 ∧ t.g F.GLB_CSTAT_OWNER = 0 ∧
      RegsBut [(F.GLB_CSTAT_BUSY, 0), (F.GLB_CSTAT_STAGED, 0), (F.GLB_CSTAT_OWNER, 0), (F.HIF_STAT_SOWN, 0)] s t) ∧
  (∀ src s, s.reaches 0x8 = true →
    s.gb F.GLB_CSTAT_BUSY = true ∨ s.mayCommit src.path = false ∨ s.overflow = true →
    Runs (.commit src) s fun t =>
      t.commit = s.commit ∧ t.staged = s.staged ∧ t.g F.GLB_CSTAT_REFUSED = 1 ∧
      RegsBut [(F.GLB_CSTAT_REFUSED, 0)] s t) ∧
  (∀ src s, s.reaches 0x8 = true → s.gb F.GLB_CSTAT_BUSY = false → s.mayCommit src.path = true → s.overflow = false →
    s.poisonIn 0x128000 0x130000 = false → tooBig s.groups = true →
    Runs (.commit src) s fun t =>
      t.commit = s.commit ∧ t.staged = s.staged ∧ t.g F.GLB_CSTAT_TOO_BIG = 1 ∧
      RegsBut [(F.GLB_CSTAT_TOO_BIG, 0)] s t) ∧
  (∀ src s, s.reaches 0x8 = true → s.mayCommit src.path = true →
    Runs (.discard src) s fun t =>
      t.staged = [] ∧ t.overflow = false ∧ t.commit = s.commit ∧ t.g F.GLB_CSTAT_STAGED = 0 ∧
      RegsBut [(F.GLB_CSTAT_STAGED, 0), (F.GLB_CSTAT_OWNER, 0), (F.HIF_STAT_SOWN, 0)] s t) ∧
  (∀ src s, s.reaches 0x8 = true → s.mayCommit src.path = false →
    Runs (.discard src) s fun t =>
      t.staged = s.staged ∧ t.commit = s.commit ∧ t.g F.GLB_CSTAT_REFUSED = 1 ∧ RegsBut [(F.GLB_CSTAT_REFUSED, 0)] s t)

/-- At a boundary a due commit of no groups copies EPOCH into FIRST and LAST, clears BUSY
and leaves EPOCH; a due commit whose one group is DIV advances EPOCH by 1 modulo 256, copies it into FIRST and LAST,
records it as the epoch of DIV and clears BUSY; a staged write of DIVG_CFG takes effect there, each field where its
value is in range; with no commit and no group copy EPOCH and BUSY stay; the row leaves the state where no boundary
falls. Rests on: R26, R42. -/
def Obligations.EpochBoundaryAppliesGroups : Prop :=
  (∀ s c, s.adcOn = true → s.rst.warm = false → s.kB ≤ s.k → (s.k - s.kB) % 25 = 0 → s.bDone = false →
    s.commit = some c → c.groups = [] → c.first = none → 0 ≤ tdiff s.now c.at' → s.copiesDue (tadd s.now sampleU) = [] →
    Runs .epochBoundary s fun t =>
      t.commit = none ∧ t.g F.GLB_EPOCH_EPOCH = s.g F.GLB_EPOCH_EPOCH ∧ t.g F.GLB_EPOCH_FIRST = s.g F.GLB_EPOCH_EPOCH ∧
      t.g F.GLB_EPOCH_LAST = s.g F.GLB_EPOCH_EPOCH ∧ t.gb F.GLB_CSTAT_BUSY = false) ∧
  (∀ s c is, s.adcOn = true → s.rst.warm = false → s.kB ≤ s.k → (s.k - s.kB) % 25 = 0 → s.bDone = false →
    s.commit = some c → c.groups = [(.div, is)] → c.first = none → is.length ≤ 128 →
    (∀ i ∈ is, ∃ a, i.tgt = .reg a ∧ 0x9400 ≤ a ∧ a < 0x9800) →
    0 ≤ tdiff s.now c.at' → s.copiesDue (tadd s.now sampleU) = [] →
    Runs .epochBoundary s fun t =>
      t.commit = none ∧ t.g F.GLB_EPOCH_EPOCH = (s.g F.GLB_EPOCH_EPOCH + 1) % 256 ∧
      t.g F.GLB_EPOCH_FIRST = (s.g F.GLB_EPOCH_EPOCH + 1) % 256 ∧
      t.g F.GLB_EPOCH_LAST = (s.g F.GLB_EPOCH_EPOCH + 1) % 256 ∧ t.gb F.GLB_CSTAT_BUSY = false ∧
      t.epochOf Group.div.source = (s.g F.GLB_EPOCH_EPOCH + 1) % 256) ∧
  (∀ s c v d, s.adcOn = true → s.rst.warm = false → s.kB ≤ s.k → (s.k - s.kB) % 25 = 0 → s.bDone = false →
    s.commit = some c → c.groups = [(.div, [{ tgt := .reg 0x9C00, value := v, did := d }])] → c.first = none →
    0 ≤ tdiff s.now c.at' → s.copiesDue (tadd s.now sampleU) = [] →
    Runs .epochBoundary s fun t =>
      t.g F.DIVG_CFG_ANG_LIM = (if 1 ≤ v % 65536 then v % 65536 else s.g F.DIVG_CFG_ANG_LIM) ∧
      t.g F.DIVG_CFG_DIV_N = (if 1 ≤ v / 65536 % 16 then v / 65536 % 16 else s.g F.DIVG_CFG_DIV_N)) ∧
  (∀ s, s.adcOn = true → s.rst.warm = false → s.kB ≤ s.k → (s.k - s.kB) % 25 = 0 → s.bDone = false →
    s.commit = none → s.copiesDue (tadd s.now sampleU) = [] →
    Runs .epochBoundary s fun t =>
      t.g F.GLB_EPOCH_EPOCH = s.g F.GLB_EPOCH_EPOCH ∧ t.gb F.GLB_CSTAT_BUSY = s.gb F.GLB_CSTAT_BUSY) ∧
  (∀ s, s.adcOn = false ∨ s.rst.warm = true ∨ s.k < s.kB ∨ (s.k - s.kB) % 25 ≠ 0 ∨ s.bDone = true →
    Runs .epochBoundary s fun t => t = s)

/-- Every SAMPLE advances STIME by one sample period modulo 2^64, whatever runs, and readies
the next EPOCH_BOUNDARY and STIME_WRAP; it advances the count of samples by 1 exactly while the ADC array runs,
outside a warm reset. Where the next sample is at or past the wrap, STIME_WRAP toggles ERA, keeps HOLDOVER and raises
event 14 once; elsewhere, or a second time, it leaves the state. Rests on: R9, R10. -/
def Obligations.SampleAndWrapAdvanceStime : Prop :=
  (∀ inp s, Runs (.sample inp) s fun t => t.now = (s.now + 12800) % 2 ^ 64 ∧ t.bDone = false ∧ t.wrapped = false) ∧
  (∀ inp s, s.adcOn = true → s.rst.warm = false → s.released 4 = true → Runs (.sample inp) s fun t => t.k = s.k + 1) ∧
  (∀ inp s, s.adcOn = false ∨ s.rst.warm = true ∨ s.released 4 = false → Runs (.sample inp) s fun t => t.k = s.k) ∧
  (∀ s, 2 ^ 64 ≤ s.now + 12800 → s.wrapped = false →
    Runs .stimeWrap s fun t =>
      t.era = !s.era ∧ t.holdover = s.holdover ∧ t.wrapped = true ∧ Counted 14 s t) ∧
  (∀ s, s.now + 12800 < 2 ^ 64 ∨ s.wrapped = true → Runs .stimeWrap s fun t => t = s)

/-- A read of the first register of a snapshot group latches the group and returns its first word;
the read of a CAN object group also clears NEW of its object. A read of another member returns what was latched, or
the reset value before the first latch, and latches nothing; a read of a register of no group returns its word now and
latches nothing. A read of part of a word does the same and returns the addressed bytes. What a read returned stands
in the outbox. PREDICTION_READ reads the first register of the predicted group of an engine. Rests on: R16, R33, R173. -/
def Obligations.ReadsReturnAndLatch : Prop :=
  (∀ src addr size s members, s.reaches addr = true → snapOf (addr - addr % 4) = some members →
    members.head? = some (addr - addr % 4) → addr - addr % 4 ≠ 0x12200 → addr - addr % 4 ≠ 0x13200 →
    Runs (.snapshotRead src ⟨addr, size⟩) s fun t =>
      t.outbox = .readWords src.path [portionOf (lget ((s.at src).snapWords (addr - addr % 4) members).2 0) addr size] :: s.outbox ∧
      t.latches = ((s.at src).latch src.path (members.zip ((s.at src).snapWords (addr - addr % 4) members).2)).latches ∧
      RegsBut [] s t) ∧
  (∀ src (c : Fin 2) s, s.reaches 0x12000 = true →
    Runs (.snapshotRead src ⟨0x12200 + 0x1000 * c.val, 4⟩) s fun t =>
      t.outbox = .readWords src.path [portionOf (lget ((s.at src).canLatch c).1 0) 0 4] :: s.outbox ∧
      t.latches = ((s.at src).latch src.path ((runOf (0x12200 + 0x1000 * c.val) 32).zip ((s.at src).canLatch c).1)).latches ∧
      (∀ a, t.sramByte a = ((s.at src).setOstat c (s.g F.CAN_ORSEL_OBJ c) bNew false).sramByte a) ∧ RegsBut [] s t) ∧
  (∀ src addr size s members, s.reaches addr = true → snapOf (addr - addr % 4) = some members →
    members.head? ≠ some (addr - addr % 4) →
    Runs (.snapshotRead src ⟨addr, size⟩) s fun t =>
      t.outbox = .readWords src.path [portionOf ((s.latched src.path (addr - addr % 4)).getD (resetWord (addr - addr % 4)))
        addr size] :: s.outbox ∧ t.latches = s.latches ∧ RegsBut [] s t) ∧
  (∀ src addr size s, s.reaches addr = true → snapOf (addr - addr % 4) = none →
    Runs (.snapshotRead src ⟨addr, size⟩) s fun t =>
      t.outbox = .readWords src.path [portionOf ((s.at src).viewWord (addr - addr % 4)) addr size] :: s.outbox ∧
      t.latches = s.latches ∧ RegsBut [] s t) ∧
  (∀ v, v < 2 ^ 32 → ∀ addr, (addr % 4 = 0 → portionOf v addr 4 = v) ∧ portionOf v addr 1 = v / 2 ^ (8 * (addr % 4)) % 256 ∧
    (addr % 2 = 0 → portionOf v addr 2 = v / 2 ^ (8 * (addr % 4)) % 65536)) ∧
  (∀ src m s, s.reaches 0x8000 = true →
    Runs (.predictionRead src m) s fun t =>
      t.outbox = .readWords src.path [portionOf (lget ((s.at src).predGroup (s.obsRead m.val)) 0) 0 4] :: s.outbox ∧
      t.latched src.path (0x8080 + 0x100 * m.val) = some (lget ((s.at src).predGroup (s.obsRead m.val)) 0) ∧
      RegsBut [] s t)

/-- A byte or 16-bit write changes nothing; a word write of a staged register is the
staged write of it; SRAM_WR takes a 1 outside RUN only; a BAR2 word write changes its four bytes and no others while
SRAM_WR is 1 and nothing otherwise; SAT_CLEAR of the SPI CRC counter zeroes COUNT and SAT. FRESHNESS_EXPIRY takes
FRESH from a temperature older than its limit, brings the status of the other published values to their age, and
changes nothing of an observer engine, whose FRESH every use computes from the age. Rests on: R16, R30, R36, R46, R50. -/
def Obligations.HostWritesOfRegistersAndMemory : Prop :=
  (∀ src addr value size s, size ≠ 4 → Runs (.registerWrite src addr value size) s fun t => t = s) ∧
  (∀ src addr value s, addr % 4 = 0 → s.reaches addr = true → (findReg addr).isSome = true → isStaged addr = true →
    ∃ t, exec (.registerWrite src addr value 4) s = .next t ∧ exec (.stagedWrite src addr value) s = .next t) ∧
  (∀ src value s, s.reaches 0x18 = true → s.g F.GLB_STATUS_MODE ≠ 1 →
    Runs (.registerWrite src 0x18 value 4) s fun t =>
      t.gb F.GLB_DIAG_SRAM_WR = bitOf value.toNat 0 ∧ RegsBut [(F.GLB_DIAG_SRAM_WR, 0)] s t) ∧
  (∀ src value s, s.reaches 0x18 = true → s.g F.GLB_STATUS_MODE = 1 → bitOf value.toNat 0 = true →
    Runs (.registerWrite src 0x18 value 4) s fun t => RegsBut [] s t) ∧
  (∀ src off value s, s.reaches 0 = true → s.gb F.GLB_DIAG_SRAM_WR = true → off % 4 = 0 → off < 0x180000 →
    Runs (.bar2Write src off value) s fun t =>
      t.sram32 off = value.toNat ∧ (∀ a, a < off ∨ off + 4 ≤ a → t.sramByte a = s.sramByte a) ∧ RegsBut [] s t) ∧
  (∀ src off value s, s.gb F.GLB_DIAG_SRAM_WR = false →
    Runs (.bar2Write src off value) s fun t => t.sram = s.sram ∧ RegsBut [] s t) ∧
  (∀ src s, s.reaches 0x2020 = true →
    Runs (.satClear src 0x2020) s fun t =>
      t.g F.HIF_SPICRC_COUNT = 0 ∧ t.g F.HIF_SPICRC_SAT = 0 ∧
      RegsBut [(F.HIF_SPICRC_COUNT, 0), (F.HIF_SPICRC_SAT, 0)] s t) ∧
  (∀ (c : Fin 16) s, bitOf (s.g F.TMP_TEMP_STATUS c) 1 = true → SMap.get 0 s.stamps (0xF01C + 0x40 * c.val) ≠ 0 →
    (s.g F.GLB_FRESH_TMP_LIM * msU : Int) < tdiff s.now (SMap.get 0 s.stamps (0xF01C + 0x40 * c.val) - 1) →
    Runs (.freshnessExpiry (.temperature c)) s fun t =>
      t.g F.TMP_TEMP_STATUS c = s.g F.TMP_TEMP_STATUS c - 2 ∧ RegsBut [(F.TMP_TEMP_STATUS, c)] s t) ∧
  (∀ (n : Fin 16) s, Runs (.freshnessExpiry (.decimated n)) s fun t =>
    t.g F.ACQ_DSIN_STATUS n = s.here.aged (0x6018 + 0x100 * n.val) (s.g F.ACQ_DSIN_STATUS n) % 256 ∧
    t.g F.ACQ_DCOS_STATUS n = s.here.aged (0x601C + 0x100 * n.val) (s.g F.ACQ_DCOS_STATUS n) % 256 ∧
    t.g F.ACQ_ENVL_STATUS n = s.here.aged (0x6020 + 0x100 * n.val) (s.g F.ACQ_ENVL_STATUS n) % 256 ∧
    RegsBut [(F.ACQ_DSIN_STATUS, n), (F.ACQ_DCOS_STATUS, n), (F.ACQ_ENVL_STATUS, n)] s t) ∧
  (∀ (n : Fin 16) s, Runs (.freshnessExpiry (.diverse n)) s fun t =>
    t.g F.DIV_STS_STATUS n = s.here.aged (0x9408 + 0x40 * n.val) (s.g F.DIV_STS_STATUS n) % 256 ∧
    RegsBut [(F.DIV_STS_STATUS, n)] s t) ∧
  (∀ addr s, Runs (.freshnessExpiry (.detector addr)) s fun t =>
    match detField addr with
    | some (f, n) => t.g f n = s.here.aged addr (s.g f n) % 2 ^ f.width ∧ RegsBut [(f, n)] s t
    | none => RegsBut [] s t) ∧
  (∀ (c : Fin 2) (k : Fin 128) s, s.objBad c k = false → Runs (.freshnessExpiry (.canObject c k)) s fun t =>
    t.objW c k 4 = s.here.ostatNow c k % 2 ^ 32 ∧ RegsBut [] s t) ∧
  (∀ m s, Runs (.freshnessExpiry (.engine m)) s fun t => t.obs = s.obs ∧ RegsBut [] s t)

/-- At a predicted crossing the pending range of an input becomes its range in force, the
pending flag falls, the next sample carries RNG and RANGE_CHG is set; an input without a pending change keeps its
range. From two carrier periods after the request on, at once where no crossing was predicted then, the range acts
without a crossing and five samples carry RNGI. A request for the range in force cancels a pending one. Rests on: R63,
R64, R65. -/
def Obligations.RangeChangesTakeEffect : Prop :=
  (∀ (n : Fin 16) (i : Input) s r t0, (s.prt! n).pend i = some (r, t0) → r < 4 → s.predicted n = true →
    s.inputCrossing n = true →
    Runs (.rangeChange n) s fun t =>
      t.g (curFld i) n = r ∧ t.gb (pendFld i) n = false ∧ (t.prt! n).pend i = none ∧
      (if i = .sin then (t.prt! n).rngS else (t.prt! n).rngC) = true ∧ t.gb F.PRT_ISTKY_RANGE_CHG n = true) ∧
  (∀ (n : Fin 16) (i : Input) s, (s.prt! n).pend i = none →
    Runs (.rangeChange n) s fun t => t.g (curFld i) n = s.g (curFld i) n) ∧
  (∀ (n : Fin 16) s, s.predicted n = false ∨ s.inputCrossing n = false →
    Runs (.rangeChange n) s fun t => t.prt = s.prt ∧ RegsBut [] s t) ∧
  (∀ (n : Fin 16) (i : Input) s r t0, (s.prt! n).pend i = some (r, t0) → r < 4 →
    0 ≤ tdiff (tadd s.now sampleU) t0 →
    Runs (.rangeImmediate n) s fun t =>
      t.g (curFld i) n = r ∧ t.gb (pendFld i) n = false ∧ (t.prt! n).pend i = none ∧
      (if i = .sin then (t.prt! n).immS else (t.prt! n).immC) = 5 ∧ t.gb F.PRT_ISTKY_RANGE_IMM n = true) ∧
  (∀ (n : Fin 16) (i : Input) s, (s.prt! n).pend i = none →
    Runs (.rangeImmediate n) s fun t => t.g (curFld i) n = s.g (curFld i) n) ∧
  (∀ (n : Fin 16) (i : Input) (s : State) r, r ≠ s.g (curFld i) n →
    ((s.requestRange n i r).prt! n).pend i =
      some (r, if s.predicted n = true then tadd s.t (2 * periodU (s.exc! n).freq) else s.t)) ∧
  (∀ (n : Fin 16) (i : Input) (s : State), ((s.requestRange n i (s.g (curFld i) n)).prt! n).pend i = none)

/-- A lead reading is stored for the next ball of the port and the ball counter advances
modulo 8; a winding test starts where R72 allows it (by its period or by W2W_NOW) and steps the other pair than the
last one, and does not start otherwise; at its end W2W_RUN falls, a passed test clears the live W2W bit, a second
failure in succession sets it with its sticky bit; a test that ends within 100 ms of a change of role is not judged.
The reading of the last ball completes a set: after PERSIST sets in succession with the sine pair open OPEN_SN is
live, with its sticky bit where it was not, and after PERSIST sets without it is not. Rests on: R70, R72. -/
def Obligations.LeadMonitorAndWindingTest : Prop :=
  (∀ (n : Fin 16) (mv : BitVec 16) s, (s.prt! n).ball < 8 →
    Runs (.leadReading n mv) s fun t =>
      t.g (F.PRT_LMON_VOLT (s.prt! n).ball) n = mv.toNat ∧ (t.prt! n).ball = ((s.prt! n).ball + 1) % 8) ∧
  (∀ (n : Fin 16) s, s.windingAllowed n = true → s.g F.PRT_DIAG_W2W_PER n ≠ 0 →
    s.g F.PRT_DIAG_W2W_PER n * 1000 * msU ≤ tdiff s.now (s.prt! n).wLast →
    Runs (.windingTestStart n) s fun t =>
      t.gb F.PRT_STAT_W2W_RUN n = true ∧ (t.prt! n).wPair = 1 - (s.prt! n).wPair ∧ (t.prt! n).wStart = s.now ∧
      RegsBut [(F.PRT_STAT_W2W_RUN, n)] s t) ∧
  (∀ (n : Fin 16) s, s.windingAllowed n = false ∨ s.g F.PRT_DIAG_W2W_PER n = 0 ∨
      tdiff s.now (s.prt! n).wLast < s.g F.PRT_DIAG_W2W_PER n * 1000 * msU →
    Runs (.windingTestStart n) s fun t => t.prt = s.prt ∧ RegsBut [] s t) ∧
  (∀ src (n : Fin 16) s, s.reaches 0x4000 = true → s.windingAllowed n = true →
    Runs (.w2wNow src n) s fun t =>
      t.gb F.PRT_STAT_W2W_RUN n = true ∧ (t.prt! n).wPair = 1 - (s.prt! n).wPair ∧
      (t.prt! n).wStart = tadd s.now src.sub ∧ RegsBut [(F.PRT_STAT_W2W_RUN, n)] s t) ∧
  (∀ src (n : Fin 16) s, s.windingAllowed n = false →
    Runs (.w2wNow src n) s fun t => t.prt = s.prt ∧ RegsBut [] s t) ∧
  (∀ (n : Fin 16) s, s.gb F.PRT_STAT_W2W_RUN n = true → 102 * msU ≤ tdiff s.now (s.prt! n).wStart → s.here.leadHeld n = false →
    (s.prt! n).wCnt = 0 ∨ (s.prt! n).wSum - (s.prt! n).wBase * (s.prt! n).wCnt ≤
      (s.g F.PRT_DIAG_W2W_TH n : Int) * 20 * (s.prt! n).wCnt →
    Runs (.windingTestEnd n) s fun t =>
      t.gb F.PRT_STAT_W2W_RUN n = false ∧ bitOf (t.g F.PRT_LLIVE_LIVE n) 8 = false ∧ (t.prt! n).wFails = 0) ∧
  (∀ (n : Fin 16) s, s.gb F.PRT_STAT_W2W_RUN n = true → 102 * msU ≤ tdiff s.now (s.prt! n).wStart → s.here.leadHeld n = false →
    (s.prt! n).wCnt ≠ 0 → (s.g F.PRT_DIAG_W2W_TH n : Int) * 20 * (s.prt! n).wCnt <
      (s.prt! n).wSum - (s.prt! n).wBase * (s.prt! n).wCnt → 1 ≤ (s.prt! n).wFails →
    bitOf (s.g F.PRT_LLIVE_LIVE n) 8 = false →
    Runs (.windingTestEnd n) s fun t =>
      t.gb F.PRT_STAT_W2W_RUN n = false ∧ bitOf (t.g F.PRT_LLIVE_LIVE n) 8 = true ∧ t.gb F.PRT_LSTKY_W2W n = true) ∧
  (∀ (n : Fin 16) s, s.gb F.PRT_STAT_W2W_RUN n = true → 102 * msU ≤ tdiff s.now (s.prt! n).wStart → s.here.leadHeld n = true →
    Runs (.windingTestEnd n) s fun t =>
      t.gb F.PRT_STAT_W2W_RUN n = false ∧ (t.prt! n).wFails = (s.prt! n).wFails ∧ RegsBut [(F.PRT_STAT_W2W_RUN, n)] s t) ∧
  (∀ (n : Fin 16) (mv : BitVec 16) s, (s.prt! n).ball = 7 → s.resolver n = true → s.here.leadHeld n = false →
    s.pairOpen n 2 = true → s.g F.PRT_DIAG_PERSIST n ≤ vget (s.prt! n).hits 0 + 1 →
    Runs (.leadReading n mv) s fun t =>
      bitOf (t.g F.PRT_LLIVE_LIVE n) 0 = true ∧
      (bitOf (s.g F.PRT_LLIVE_LIVE n) 0 = false → t.gb F.PRT_LSTKY_OPEN_SN n = true)) ∧
  (∀ (n : Fin 16) (mv : BitVec 16) s, (s.prt! n).ball = 7 → s.resolver n = true → s.here.leadHeld n = false →
    s.pairOpen n 2 = false → 1 ≤ s.g F.PRT_DIAG_PERSIST n → s.g F.PRT_DIAG_PERSIST n ≤ vget (s.prt! n).miss 0 + 1 →
    Runs (.leadReading n mv) s fun t => bitOf (t.g F.PRT_LLIVE_LIVE n) 0 = false)

/-- A port restart outside RESOLVER mode leaves the driver OFF without pending changes and
both inputs in range 3; in RESOLVER mode without AUTO the ranges become the configured ones. The end of a carrier
period publishes the measured voltage and current, and a driving output whose ratio is below ZSHORT goes to FAULT with
SHORT_EX. Conducting clamps show in CLAMP and CLAMPX with the sticky bit. A pair below its line level long enough sets
its live and sticky line bits. Rests on: R54, R58, R62, R79, R102. -/
def Obligations.PortRestartPeriodAndLines : Prop :=
  (∀ src (n : Fin 16) s, s.reaches 0x4000 = true → s.resolver n = false →
    Runs (.portRestart src n) s fun t =>
      t.drv n = dOff ∧ t.gb F.EXC_STAT_PEND_F n = false ∧ t.gb F.EXC_STAT_PEND_A n = false ∧
      t.g F.PRT_STAT_CUR_S n = 3 ∧ t.g F.PRT_STAT_CUR_C n = 3 ∧ t.gb F.PRT_STAT_PEND_S n = false ∧
      t.gb F.PRT_STAT_PEND_C n = false) ∧
  (∀ src (n : Fin 16) s, s.reaches 0x4000 = true → s.resolver n = true → s.gb F.PRT_CFG_AUTO n = false →
    Runs (.portRestart src n) s fun t =>
      t.g F.PRT_STAT_CUR_S n = s.g F.PRT_CFG_RANGE_S n ∧ t.g F.PRT_STAT_CUR_C n = s.g F.PRT_CFG_RANGE_C n) ∧
  (∀ (n : Fin 16) m s, s.periodDue n = true →
    Runs (.carrierPeriodEnd n m) s fun t =>
      t.g F.EXC_VSENSE_VRMS n = min m.vsense 65535 ∧ t.g F.EXC_ISENSE_IRMS n = min m.isense 65535 ∧
      (s.drives n = true → min m.vsense 65535 * 100 < s.g F.EXC_DTH_ZSHORT n * min m.isense 65535 →
        t.drv n = dFault ∧ t.gb F.EXC_STKY_SHORT_EX n = true)) ∧
  (∀ (n : Fin 16) m s, s.periodDue n = false → Runs (.carrierPeriodEnd n m) s fun t => t = s) ∧
  (∀ (n : Fin 16) (balls : BitVec 6) s,
    Runs (.clampConduct n balls) s fun t =>
      t.g F.PRT_STAT_CLAMP n = balls.toNat % 16 ∧ t.g F.PRT_STAT_CLAMPX n = balls.toNat / 16 ∧
      (balls ≠ 0 → t.gb F.PRT_ISTKY_CLAMP n = true) ∧ (balls = 0 → t.gb F.PRT_ISTKY_CLAMP n = s.gb F.PRT_ISTKY_CLAMP n) ∧
      (balls ≠ 0 → s.gb F.PRT_ISTKY_CLAMP n = false → Counted (17 + 2 * n.val) s t)) ∧
  (∀ (n : Fin 16) pair s, s.digital n = true → s.lineLow n pair = true →
    Runs (.lineLevelLow n pair) s fun t =>
      (pair = .sn → t.gb F.PRT_STAT_LINE_SN n = true ∧ t.gb F.PRT_ISTKY_LINE_SN n = true) ∧
      (pair = .cs → t.gb F.PRT_STAT_LINE_CS n = true ∧ t.gb F.PRT_ISTKY_LINE_CS n = true) ∧
      (pair = .ax → t.gb F.PRT_STAT_LINE_AX n = true ∧ t.gb F.PRT_ISTKY_LINE_AX n = true) ∧ t.gb F.DFB_STAT_LINE n = true) ∧
  (∀ (n : Fin 16) pair s, s.digital n = false ∨ s.lineLow n pair = false → Runs (.lineLevelLow n pair) s fun t => t = s)

/-- The first crossing in SOFT begins the ramp and its SETTLING window at the crossing; the first
crossing at or after 10 ms ends it in RUN at the target amplitude; the first crossing in STOPPING begins a ramp to 0
over four carrier periods; its end leaves the driver in OFF where ENABLE is 0. Rests on: R85, R87, R91. -/
def Obligations.SoftStartAndStop : Prop :=
  (∀ (n : Fin 16) s, s.drv n = dSoft → (s.exc! n).begun = false → s.crossing n = true →
    Runs (.softStartBegin n) s fun t =>
      (t.exc! n).begun = true ∧ (t.exc! n).win = true ∧ (t.exc! n).softAt = s.crossAt n ∧ RegsBut [] s t) ∧
  (∀ (n : Fin 16) s, s.drv n ≠ dSoft ∨ (s.exc! n).begun = true ∨ s.crossing n = false →
    Runs (.softStartBegin n) s fun t => t = s) ∧
  (∀ (n : Fin 16) s, s.drv n = dSoft → (s.exc! n).begun = true → s.crossing n = true →
    10 * msU ≤ tdiff (s.crossAt n) (s.exc! n).softAt →
    Runs (.softStartEnd n) s fun t =>
      t.drv n = dRun ∧ (t.exc! n).begun = false ∧ (t.exc! n).win = false ∧
      (t.exc! n).amp = (s.exc! n).target * 65536) ∧
  (∀ (n : Fin 16) s, s.drv n = dStopping → (s.exc! n).begun = false → s.crossing n = true →
    Runs (.stopBegin n) s fun t =>
      (t.exc! n).begun = true ∧ (t.exc! n).win = true ∧
      (t.exc! n).ramp = some ⟨s.ampAt n (s.crossAt n), 0, s.crossAt n, 4 * periodU (s.exc! n).freq⟩ ∧
      (t.exc! n).left = (s.exc! n).toCross + 4 * 2 ^ 32 ∧ RegsBut [] s t) ∧
  (∀ (n : Fin 16) s, s.drv n = dStopping → (s.exc! n).begun = true → (s.exc! n).winEnds = true →
    s.gb F.EXC_CFG_ENABLE n = false →
    Runs (.stopEnd n) s fun t =>
      t.drv n = dOff ∧ (t.exc! n).amp = 0 ∧ (t.exc! n).win = false ∧ (t.exc! n).ramp = none)

/-- At a crossing in RUN with a frequency request pending the driver enters CHANGING: the requested
frequency comes in force, a requested amplitude becomes the target of a ramp over four carrier periods, neither stays
pending, and the window is SETTLE_P periods, with an amplitude change at least 4. With an amplitude request alone the
ramp and a window of 4 periods start and the frequency stays. With both pending the two rows do the same. Without a
request, outside RUN or without a crossing they leave the state. The end of the window returns to RUN; before it and
outside CHANGING the row leaves the state. Rests on: R89, R90, R91. -/
def Obligations.ChangesAtCrossings : Prop :=
  (∀ (n : Fin 16) s f, s.drv n = dRun → (s.exc! n).reqF = some f → s.crossing n = true →
    Runs (.frequencyChangeStart n) s fun t =>
      t.drv n = dChanging ∧ (t.exc! n).freq = f ∧ (t.exc! n).reqF = none ∧ (t.exc! n).reqA = none ∧
      t.gb F.EXC_STAT_PEND_F n = false ∧ t.gb F.EXC_STAT_PEND_A n = false ∧ (t.exc! n).win = true ∧
      (t.exc! n).left = (t.exc! n).toCross +
        max (if (s.exc! n).reqA.isSome then 4 else 0) (s.g F.EXC_CFG_SETTLE_P n) * 2 ^ 32 ∧
      (match (s.exc! n).reqA with
       | some a => (t.exc! n).target = a ∧
         (t.exc! n).ramp = some ⟨s.baseAt n (s.crossAt n), a * 65536, s.crossAt n, 4 * periodU f⟩
       | none => (t.exc! n).target = (s.exc! n).target ∧ (t.exc! n).ramp = (s.exc! n).ramp)) ∧
  (∀ (n : Fin 16) s a, s.drv n = dRun → (s.exc! n).reqF = none → (s.exc! n).reqA = some a → s.crossing n = true →
    Runs (.amplitudeChangeStart n) s fun t =>
      t.drv n = dChanging ∧ (t.exc! n).target = a ∧ (t.exc! n).reqA = none ∧ (t.exc! n).freq = (s.exc! n).freq ∧
      (t.exc! n).ramp = some ⟨s.baseAt n (s.crossAt n), a * 65536, s.crossAt n, 4 * periodU (s.exc! n).freq⟩ ∧
      (t.exc! n).win = true ∧ (t.exc! n).left = (s.exc! n).toCross + 4 * 2 ^ 32 ∧ t.gb F.EXC_STAT_PEND_A n = false) ∧
  (∀ (n : Fin 16) s, (s.exc! n).reqF.isSome = true → (s.exc! n).reqA.isSome = true →
    ∃ t, exec (.frequencyChangeStart n) s = .next t ∧ exec (.amplitudeChangeStart n) s = .next t) ∧
  (∀ (n : Fin 16) s, s.drv n ≠ dRun ∨ s.crossing n = false ∨ (s.exc! n).reqF = none →
    Runs (.frequencyChangeStart n) s fun t => t = s) ∧
  (∀ (n : Fin 16) s, s.drv n ≠ dRun ∨ s.crossing n = false ∨ (s.exc! n).reqA = none →
    Runs (.amplitudeChangeStart n) s fun t => t = s) ∧
  (∀ (n : Fin 16) s, s.drv n = dChanging → (s.exc! n).winEnds = true →
    Runs (.changeWindowEnd n) s fun t =>
      t.drv n = dRun ∧ (t.exc! n).win = false ∧ (t.exc! n).ramp = none ∧
      RegsBut [(F.EXC_STAT_STATE, n), (F.ACQ_STAT_ENV_ARM, n), (F.ACQ_STAT_ENV_HI, n), (F.ACQ_STAT_ENV_LO, n)] s t) ∧
  (∀ (n : Fin 16) s, s.drv n ≠ dChanging ∨ (s.exc! n).winEnds = false → Runs (.changeWindowEnd n) s fun t => t = s)

/-- PH_REACQ starts an estimate over the next 32 periods; after them the mean difference of their
initial estimates is added to PH_EST, modulo one turn, as a VALID update that ends staleness; with no estimate formed
PH_EST stays. An estimate without an update for 10 s in RUN is stale. Rests on: R98, R99. -/
def Obligations.PhaseEstimateCommands : Prop :=
  (∀ src (n : Fin 16) s, s.reaches 0x5000 = true →
    Runs (.phReacq src n) s fun t =>
      (t.exc! n).reOn = true ∧ (t.exc! n).reacq = 32 ∧ (t.exc! n).reSum = 0 ∧ (t.exc! n).reN = 0 ∧ RegsBut [] s t) ∧
  (∀ (n : Fin 16) s, (s.exc! n).reOn = true → (s.exc! n).reacq = 0 → (s.exc! n).reN ≠ 0 →
    Runs (.phReacqDone n) s fun t =>
      (t.exc! n).reOn = false ∧ (t.exc! n).phVal = true ∧ (t.exc! n).phStale = false ∧ (t.exc! n).phAt = s.now ∧
      (t.exc! n).phEst = enc 32 ((s.exc! n).phEst + rdiv 16 (s.exc! n).reSum (s.exc! n).reN) % 2 ^ 32 ∧
      bitOf (t.g F.EXC_PHEST_STATUS n) 0 = true) ∧
  (∀ (n : Fin 16) s, (s.exc! n).reOn = true → (s.exc! n).reacq = 0 → (s.exc! n).reN = 0 →
    Runs (.phReacqDone n) s fun t =>
      (t.exc! n).reOn = false ∧ (t.exc! n).phEst = (s.exc! n).phEst ∧ RegsBut [] s t) ∧
  (∀ (n : Fin 16) s, (s.exc! n).reOn = false ∨ (s.exc! n).reacq ≠ 0 → Runs (.phReacqDone n) s fun t => t = s) ∧
  (∀ (n : Fin 16) s, s.drv n = dRun → 10000 * msU ≤ tdiff s.now (s.exc! n).phAt →
    Runs (.phEstStale n) s fun t => (t.exc! n).phStale = true ∧ RegsBut [] s t) ∧
  (∀ (n : Fin 16) s, s.drv n ≠ dRun ∨ tdiff s.now (s.exc! n).phAt < 10000 * msU →
    Runs (.phEstStale n) s fun t => t = s)

/-- A driving output that reaches its current limit (ILIM, with two legs at most 100 mA) shows
LIMITING; a driver temperature is published, at 140 C or more a driving output sets THERM_W and THERM_WARN, at 155 C
or more it goes to FAULT with THERM_OFF; VEXC is published, and sets VEXC_LOW of every driving port whose target
amplitude needs more. RESTART_DRV leaves FAULT below 130 C with two legs or more, to SOFT where ENABLE is 1, else OFF,
and is ignored otherwise. Rests on: R88, R102, R104, R535. -/
def Obligations.DriverProtection : Prop :=
  (∀ (n : Fin 16) (peak : BitVec 16) s, s.drives n = true → s.ilim n ≤ peak.toNat →
    Runs (.currentLimit ⟨n, peak⟩) s fun t =>
      t.gb F.EXC_STAT_LIMITING n = true ∧ (t.exc! n).limNow = true ∧ RegsBut [(F.EXC_STAT_LIMITING, n)] s t) ∧
  (∀ (n : Fin 16) (peak : BitVec 16) s, s.drives n = false ∨ peak.toNat < s.ilim n →
    Runs (.currentLimit ⟨n, peak⟩) s fun t => t = s) ∧
  (∀ (n : Fin 16) (s : State), s.ilim n =
    if s.g F.EXC_STAT_LEGS n = 2 then min 100 (s.g F.EXC_CFG_ILIM n) else s.g F.EXC_CFG_ILIM n) ∧
  (∀ (n : Fin 16) (temp : BitVec 16) s,
    Runs (.driverTempMeasure n temp) s fun t =>
      t.g F.EXC_DTEMP_TEMP n = temp.toNat ∧
      t.gb F.EXC_STAT_THERM_W n = (s.drives n && decide (140 * 256 ≤ temp.toInt)) ∧
      (s.drives n = true → 140 * 256 ≤ temp.toInt → t.gb F.EXC_STKY_THERM_WARN n = true) ∧
      (s.drives n = true → 155 * 256 ≤ temp.toInt → t.drv n = dFault ∧ t.gb F.EXC_STKY_THERM_OFF n = true) ∧
      (s.drives n = false ∨ temp.toInt < 155 * 256 → t.drv n = s.drv n)) ∧
  (∀ (mv : BitVec 16) s, Runs (.vexcMeasure mv) s fun t => t.g F.EXC_VEXC_VEXC = mv.toNat ∧
    ∀ n : Fin 16, s.drives n = true →
      (mv.toNat ≤ 800 ∨ ((mv.toNat : Int) - 800) * (mv.toNat - 800) < 2 * (s.exc! n).target * (s.exc! n).target) →
      (t.exc! n).short = true ∧ t.gb F.EXC_STKY_VEXC_LOW n = true) ∧
  (∀ src (n : Fin 16) s, s.reaches 0x5000 = true → s.drv n = dFault → s.gi F.EXC_DTEMP_TEMP n < 130 * 256 →
    2 ≤ s.g F.EXC_STAT_LEGS n →
    Runs (.restartDrv src n) s fun t => t.drv n = if s.gb F.EXC_CFG_ENABLE n then dSoft else dOff) ∧
  (∀ src (n : Fin 16) s, s.drv n ≠ dFault ∨ 130 * 256 ≤ s.gi F.EXC_DTEMP_TEMP n ∨ s.g F.EXC_STAT_LEGS n < 2 →
    Runs (.restartDrv src n) s fun t => t.drv n = s.drv n ∧ RegsBut [] s t)

/-- A leg measurement in RUN publishes the resistance of every leg that is not retired and sets
LEG_WORN for a leg without current; at the crossing the leg to be retired shows LSTATE 1 and one leg fewer is counted,
with LEGS_LOW at two legs and FAULT at one. At the takeover crossing of the new active, a locked port in SENSE with no
live cause of FAULT drives from RUN at the sensed amplitude with no frequency left pending, an unlocked one starts
softly with COLD_TAKE; at that of the new standby a port in RESOLVER mode enters SENSE, not LOCKED. Rests on: R103,
R104, R106, R448. -/
def Obligations.LegsAndTakeover : Prop :=
  (∀ (n : Fin 16) legs dead s, s.drv n = dRun → 1000 * msU ≤ tdiff s.now (s.snt.legAt.getD n 0) →
    Runs (.legMeasure n legs dead) s fun t =>
      ∀ k : Fin 4, s.g (F.EXC_LEG_LSTATE k) n ≠ 1 →
        t.g (F.EXC_LEG_RES k) n = legs[k].toNat ∧ (dead.getLsbD k = true → t.gb F.EXC_STKY_LEG_WORN n = true)) ∧
  (∀ (n : Fin 16) legs dead s, s.drv n ≠ dRun ∨ tdiff s.now (s.snt.legAt.getD n 0) < 1000 * msU →
    Runs (.legMeasure n legs dead) s fun t => t = s) ∧
  (∀ (n : Fin 16) s k notice, (s.exc! n).retire = some (k, notice) → k < 4 → s.crossing n = true →
    sampleU ≤ tdiff (s.crossAt n) notice → 3 ≤ s.g F.EXC_STAT_LEGS n →
    Runs (.legRetire n) s fun t =>
      t.g (F.EXC_LEG_LSTATE k) n = 1 ∧ t.g F.EXC_STAT_LEGS n = s.g F.EXC_STAT_LEGS n - 1 ∧ t.drv n = s.drv n ∧
      (s.g F.EXC_STAT_LEGS n = 3 → t.gb F.EXC_STKY_LEGS_LOW n = true)) ∧
  (∀ (n : Fin 16) s k notice, (s.exc! n).retire = some (k, notice) → k < 4 → s.crossing n = true →
    sampleU ≤ tdiff (s.crossAt n) notice → s.g F.EXC_STAT_LEGS n = 2 → s.resolver n = true →
    Runs (.legRetire n) s fun t =>
      t.g (F.EXC_LEG_LSTATE k) n = 1 ∧ t.g F.EXC_STAT_LEGS n = 1 ∧ t.drv n = dFault) ∧
  (∀ (n : Fin 16) s, (s.exc! n).retire = none → Runs (.legRetire n) s fun t => t = s) ∧
  (∀ (n : Fin 16) s tk, (s.exc! n).take = some (tk, true) → s.crossing n = true → 0 ≤ tdiff (s.crossAt n) tk →
    s.drv n = dSense → s.gb F.EXC_CFG_ENABLE n = true → s.gi F.EXC_DTEMP_TEMP n < 155 * 256 →
    2 ≤ s.g F.EXC_STAT_LEGS n →
    Runs (.takeoverCrossing n) s fun t =>
      (t.exc! n).take = none ∧
      (s.gb F.EXC_STAT_LOCKED n = true → t.drv n = dRun ∧ t.gb F.EXC_STAT_LOCKED n = false ∧
        (t.exc! n).target = s.g F.EXC_VSENSE_VRMS n ∧ (t.exc! n).reqF = none) ∧
      (s.gb F.EXC_STAT_LOCKED n = false → t.drv n = dSoft ∧ t.gb F.EXC_STKY_COLD_TAKE n = true)) ∧
  (∀ (n : Fin 16) s tk, (s.exc! n).take = some (tk, false) → s.crossing n = true → 0 ≤ tdiff (s.crossAt n) tk →
    s.resolver n = true →
    Runs (.takeoverCrossing n) s fun t => t.drv n = dSense ∧ t.gb F.EXC_STAT_LOCKED n = false)

/-- A filter word goes into a bank that is neither live nor fading and the word address advances; a
live or fading bank keeps its contents and RESULT, BUSY_W say so. A swap makes the other bank live, is refused with
RES 1 during a fade and with RES 2 for a bank outside the tap or sum limits. XC_CLR zeroes the couplings of a port,
PK_CLR its peak holds. Rests on: R133, R134, R120, R142. -/
def Obligations.FiltersAndCouplings : Prop :=
  (∀ src (value : BitVec 32) s, s.reaches 0x7000 = true → s.bankBusy (s.g F.ACQ_FLADDR_SET) (s.g F.ACQ_FLADDR_BANK) = false →
    Runs (.filterLoad src value) s fun t =>
      t.sram32 (bankBase (s.g F.ACQ_FLADDR_SET) (s.g F.ACQ_FLADDR_BANK) + 4 * s.g F.ACQ_FLADDR_WORD) = value.toNat ∧
      t.g F.ACQ_FLADDR_RESULT = 0 ∧ t.g F.ACQ_FLADDR_WORD = (s.g F.ACQ_FLADDR_WORD + 1) % 256) ∧
  (∀ src value s, s.reaches 0x7000 = true → s.bankBusy (s.g F.ACQ_FLADDR_SET) (s.g F.ACQ_FLADDR_BANK) = true →
    Runs (.filterLoad src value) s fun t =>
      t.sram = s.sram ∧ t.g F.ACQ_FLADDR_RESULT = 1 ∧ t.gb F.ACQ_FSTKY_BUSY_W = true ∧
      t.g F.ACQ_FLADDR_WORD = (s.g F.ACQ_FLADDR_WORD + 1) % 256) ∧
  (∀ src value s f, s.reaches 0x7000 = true → f = bitsOf value.toNat 0 3 → s.gb F.ACQ_FSET_INFO_FADING f = true →
    Runs (.filterSwap src value) s fun t =>
      t.g F.ACQ_FSRES_RES = 1 ∧ t.gb F.ACQ_FSTKY_BUSY_S = true ∧ RegsBut [(F.ACQ_FSRES_RES, 0), (F.ACQ_FSTKY_BUSY_S, 0)] s t) ∧
  (∀ src value s f b, s.reaches 0x7000 = true → f = bitsOf value.toNat 0 3 → s.gb F.ACQ_FSET_INFO_FADING f = false →
    b = 1 - s.g F.ACQ_FSET_INFO_LIVE f → s.bankTaps f b < 8 ∨ 64 < s.bankTaps f b ∨ (s.bankSum f b).1.natAbs < 32768 →
    Runs (.filterSwap src value) s fun t =>
      t.g F.ACQ_FSRES_RES = 2 ∧ t.gb F.ACQ_FSTKY_BAD_S = true ∧ RegsBut [(F.ACQ_FSRES_RES, 0), (F.ACQ_FSTKY_BAD_S, 0)] s t) ∧
  (∀ src value s f b, s.reaches 0x7000 = true → f = bitsOf value.toNat 0 3 → s.gb F.ACQ_FSET_INFO_FADING f = false →
    b = 1 - s.g F.ACQ_FSET_INFO_LIVE f → 8 ≤ s.bankTaps f b → s.bankTaps f b ≤ 64 → 32768 ≤ (s.bankSum f b).1.natAbs →
    Runs (.filterSwap src value) s fun t =>
      t.g F.ACQ_FSRES_RES = 0 ∧ t.g F.ACQ_FSET_INFO_LIVE f = b ∧ t.g F.ACQ_FSET_INFO_NTAPS f = s.bankTaps f b) ∧
  (∀ src (n : Fin 16) s, s.reaches 0x6000 = true →
    Runs (.xcClr src n) s fun t => (t.acq! n).xc = Vector.replicate 16 {} ∧ RegsBut [] s t) ∧
  (∀ src (n : Fin 16) s, s.reaches 0x6000 = true →
    Runs (.pkClr src n) s fun t =>
      (t.acq! n).pkS = 0 ∧ (t.acq! n).pkC = 0 ∧ t.g F.ACQ_PEAK_S_PEAK n = 0 ∧ t.g F.ACQ_PEAK_C_PEAK n = 0 ∧
      RegsBut [(F.ACQ_PEAK_S_PEAK, n), (F.ACQ_PEAK_C_PEAK, n)] s t)

/-- A calibration step that has its 5000 samples moves the offset of the slice in its turn
towards the fit by at most 0.5 LSB and its gain, where the step saw enough signal, by at most 100 ppm; its last turn
calibrates the spare itself; the sequence of 35 advances and the sums begin anew. Without a free spare, before its
samples, or for another step, nothing changes; HOLD shows that no spare is free. A due decimated output carries the
stamp of the newest sample and the epoch of its port, and ends the gap. An armed envelope beyond its bound for ENV_N
outputs sets its live and sticky bits. A synchronising reset makes the coming sample the origin of epoch boundaries
and decimated outputs and publishes its instant, once a sample, with SYNC where a chain command asked for it. Rests
on: R113, R114, R130, R136, R140. -/
def Obligations.ConversionAndDecimation : Prop :=
  (∀ (i : Fin 35) s sp, s.calStep = i.val → s.nextSpare 0 = some sp → 5000 ≤ s.calAcc.n →
    Runs (.calibrationStep i) s fun t =>
      t.calStep = (i + 1) % 35 ∧ t.calAcc = { sp := sp } ∧
      ∀ p, calSlice i = some p → s.sliceOf p < 36 →
        (vget t.cal (s.sliceOf p)).off = (vget s.cal (s.sliceOf p)).off +
          clampI (-128) 128 ((s.calAcc.fit (vget s.cal (s.sliceOf p))).off - (vget s.cal (s.sliceOf p)).off) ∧
        (vget t.cal (s.sliceOf p)).gain = (vget s.cal (s.sliceOf p)).gain + (if s.calAcc.wide then
          clampI (-100) 100 ((s.calAcc.fit (vget s.cal (s.sliceOf p))).gain - (vget s.cal (s.sliceOf p)).gain) else 0)) ∧
  (∀ (i : Fin 35) s sp, s.calStep = i.val → s.nextSpare 0 = some sp → sp < 2 → 5000 ≤ s.calAcc.n → calSlice i = none →
    Runs (.calibrationStep i) s fun t =>
      vget t.cal (32 + sp) = ((vget s.cal (32 + sp)).toward (s.calAcc.selfFit (vget s.cal (32 + sp))) true).1) ∧
  (∀ (i : Fin 35) s, s.nextSpare 0 = none ∨ s.calAcc.n < 5000 ∨ s.calStep ≠ i.val → Runs (.calibrationStep i) s fun t => t = s) ∧
  (∀ s : State, s.showSw.gb F.ACQ_CALSTAT_HOLD = (s.nextSpare 0).isNone) ∧
  (∀ (n : Fin 16) s, s.adcOn = true → s.rst.warm = false → s.released 4 = true → s.outputDue n = true →
    Runs (.decimatedOutput n) s fun t =>
      t.g F.ACQ_DTS_TS32 n = ts32 s.now % 2 ^ 32 ∧ t.g F.ACQ_DEP_EPOCH n = s.epochOf n % 256 ∧
      t.gb F.ACQ_STAT_GAP n = false ∧ (t.acq! n).lastOut = some s.kNow) ∧
  (∀ (n : Fin 16) s, s.outputDue n = false → Runs (.decimatedOutput n) s fun t => t = s) ∧
  (∀ (n : Fin 16) s, s.envArmed n = true → s.injActive n 0 = false →
    (s.g F.ACQ_ENV_ENV_N n ≤ (s.acq! n).hiN →
      Runs (.envelopeBandFault n true) s fun t => t.gb F.ACQ_STAT_ENV_HI n = true ∧ t.gb F.ACQ_STKY_ENV_HI n = true) ∧
    (s.g F.ACQ_ENV_ENV_N n ≤ (s.acq! n).loN →
      Runs (.envelopeBandFault n false) s fun t => t.gb F.ACQ_STAT_ENV_LO n = true ∧ t.gb F.ACQ_STKY_ENV_LO n = true)) ∧
  (∀ (n : Fin 16) up s, s.envArmed n = false → Runs (.envelopeBandFault n up) s fun t => t = s) ∧
  (∀ s, s.adcOn = true → s.chn.syncs.any s.syncDue = true → s.chn.syncK ≠ some s.k →
    Runs .synchronisingReset s fun t =>
      t.kB = s.k ∧ t.s0 = s.k ∧ t.g F.CHN_SYNCL_T = tadd s.now sampleU % 2 ^ 32 ∧
      t.g F.CHN_SYNCH_T = tadd s.now sampleU / 2 ^ 32 % 2 ^ 32) ∧
  (∀ s, s.adcOn = true → s.chn.syncs.any s.syncDue = false → s.cmdSync = true → s.chn.syncK ≠ some s.k →
    Runs .synchronisingReset s fun t =>
      t.kB = s.k ∧ t.s0 = s.k ∧ t.g F.CHN_SYNCL_T = tadd s.now sampleU % 2 ^ 32 ∧ t.gb F.CHN_STKY_SYNC = true) ∧
  (∀ s, s.adcOn = true → s.chn.syncs.any s.syncDue = true → s.chn.syncK = some s.k →
    Runs .synchronisingReset s fun t => t.kB = s.kB ∧ t.s0 = s.s0 ∧ RegsBut [] s t)

/-- An engine in PULLIN whose error stayed in the lock band on 5000 usable samples enters
TRACK. A coast, or a run of unusable samples in PULLIN, that reaches t_coast enters LOT, and so does an error beyond
LOT_TH on LOT_T x 50 usable samples in TRACK or COAST; an entry to LOT sets the sticky bit, increments OBSm_LOTCNT,
clears the live OVS bit and starts the count of usable samples again. Where its condition does not hold each row
leaves the state. Rests on: R161, R162, R163. -/
def Obligations.TrackingStatesOfAnEngine : Prop :=
  (∀ (m : Fin 18) s, s.ost m = oPullin → 5000 ≤ (s.obs! m).lock →
    Runs (.lockDeclare m) s fun t => t.ost m = oTrack ∧ (t.obs! m).lot = 0 ∧ (t.obs! m).coast = 0 ∧
      RegsBut [(F.OBS_STAT_STATE, m)] s t) ∧
  (∀ (m : Fin 18) s, s.ost m ≠ oPullin ∨ (s.obs! m).lock < 5000 → Runs (.lockDeclare m) s fun t => t = s) ∧
  (∀ (m : Fin 18) s, s.ost m = oCoast ∨ s.ost m = oPullin → s.g F.OBS_COAST_COAST_T m * 50 ≤ (s.obs! m).coast →
    Runs (.coastTimeout m) s fun t =>
      t.ost m = oLot ∧ t.gb F.OBS_STKY_LOT m = true ∧ t.gb F.OBS_STAT_OVS m = false ∧ (t.obs! m).usable = 0 ∧
      t.g F.OBS_LOTCNT_COUNT m = min (2 ^ F.OBS_LOTCNT_COUNT.width - 1) (s.g F.OBS_LOTCNT_COUNT m + 1)) ∧
  (∀ (m : Fin 18) s, (s.ost m ≠ oCoast ∧ s.ost m ≠ oPullin) ∨ (s.obs! m).coast < s.g F.OBS_COAST_COAST_T m * 50 →
    Runs (.coastTimeout m) s fun t => t = s) ∧
  (∀ (m : Fin 18) s, s.tracking m = true → s.g F.OBS_LIM_LOT_T m * 50 ≤ (s.obs! m).lot →
    Runs (.lotError m) s fun t =>
      t.ost m = oLot ∧ t.gb F.OBS_STKY_LOT m = true ∧ t.gb F.OBS_STAT_OVS m = false ∧ (t.obs! m).usable = 0 ∧
      t.g F.OBS_LOTCNT_COUNT m = min (2 ^ F.OBS_LOTCNT_COUNT.width - 1) (s.g F.OBS_LOTCNT_COUNT m + 1)) ∧
  (∀ (m : Fin 18) s, s.tracking m = false ∨ (s.obs! m).lot < s.g F.OBS_LIM_LOT_T m * 50 →
    Runs (.lotError m) s fun t => t = s)

/-- An engine in LOT that has not failed hard returns to ACQ with TURN_UNK, and with
MIDX_UNK where PPR is above 1: with REACQ = 1 after 5000 usable samples, or at the command ACQ; otherwise neither does
anything. MSET takes TURN of OBSm_TSETV and the index for the next sample, an index of PPR or more changes nothing. A
signal that stayed below the loss level for LOS_N samples while ENV_ARM is 1 sets LOS, live and sticky. DIV_N compared
outputs in succession beyond the limits set DIVL and DIVERGE and count, once. Rests on: R164, R166, R169, R180. -/
def Obligations.ReacquisitionAndObserverCommands : Prop :=
  (∀ (m : Fin 18) s, s.ost m = oLot → s.gb F.OBS_CFG_REACQ m = true → 5000 ≤ (s.obs! m).usable → (s.obs! m).dead = false →
    Runs (.reacquisition m) s fun t => t.ost m = oAcq ∧ t.gb F.OBS_STAT_TURN_UNK m = true ∧
      (1 < s.g F.OBS_CFG_PPR m → t.gb F.OBS_STAT_MIDX_UNK m = true) ∧
      RegsBut [(F.OBS_STAT_STATE, m), (F.OBS_STAT_TURN_UNK, m), (F.OBS_STAT_MIDX_UNK, m)] s t) ∧
  (∀ (m : Fin 18) s, s.ost m ≠ oLot ∨ s.gb F.OBS_CFG_REACQ m = false ∨ (s.obs! m).usable < 5000 →
    Runs (.reacquisition m) s fun t => t = s) ∧
  (∀ src (i : Fin 18) s m, s.reaches 0x8000 = true → s.obsTarget i = some m → m < 18 → s.ost m = oLot →
    (s.obs! m).dead = false →
    Runs (.obsAcq src i) s fun t => t.ost m = oAcq ∧ t.gb F.OBS_STAT_TURN_UNK m = true ∧
      (1 < s.g F.OBS_CFG_PPR m → t.gb F.OBS_STAT_MIDX_UNK m = true) ∧
      RegsBut [(F.OBS_STAT_STATE, m), (F.OBS_STAT_TURN_UNK, m), (F.OBS_STAT_MIDX_UNK, m)] s t) ∧
  (∀ src (i : Fin 18) s m, s.obsTarget i = some m → s.ost m ≠ oLot →
    Runs (.obsAcq src i) s fun t => t.obs = s.obs ∧ RegsBut [] s t) ∧
  (∀ src (i : Fin 18) (midx : BitVec 8) s m, s.reaches 0x8000 = true → s.obsTarget i = some m → m < 18 →
    Runs (.mset src i midx) s fun t =>
      (t.obs! m).mset = (if midx.toNat < s.g F.OBS_CFG_PPR m then some (s.g F.OBS_TSETV_TURN m, midx.toNat)
        else (s.obs! m).mset) ∧ RegsBut [] s t) ∧
  (∀ (m : Fin 18) (n : Nat) s, s.portOf m = some n → s.resolver n = true → s.gb F.ACQ_STAT_ENV_ARM n = true →
    s.injActive n 1 = false → s.g F.OBS_PROT_LOS_N m ≤ (s.obs! m).losN →
    Runs (.lossOfSignal m) s fun t => t.gb F.OBS_STAT_LOS m = true ∧ t.gb F.OBS_STKY_LOS m = true) ∧
  (∀ (m : Fin 18) (n : Nat) s, s.portOf m = some n →
    s.gb F.ACQ_STAT_ENV_ARM n = false ∨ (s.obs! m).losN < s.g F.OBS_PROT_LOS_N m →
    Runs (.lossOfSignal m) s fun t => t = s) ∧
  (∀ (n : Fin 16) s, s.g F.DIVG_CFG_DIV_N ≤ (s.div! n).outN → s.gb F.DIV_STS_DIVL n = false →
    Runs (.diverge n) s fun t => t.gb F.DIV_STS_DIVL n = true ∧ t.gb F.DIV_STKY_DIVERGE n = true ∧
      t.g F.DIV_CNT_COUNT n = min (2 ^ F.DIV_CNT_COUNT.width - 1) (s.g F.DIV_CNT_COUNT n + 1)) ∧
  (∀ (n : Fin 16) s, (s.div! n).outN < s.g F.DIVG_CFG_DIV_N ∨ s.gb F.DIV_STS_DIVL n = true →
    Runs (.diverge n) s fun t => t = s)

/-- An accepted cycle counts, is consumed, and moves each estimate by 2^-NAVG of its
distance from its measurement, at most ESTEP/1024 of its bound; one that was not measured stays; without a completed
cycle nothing happens. A due update in APPLY mode moves each applied parameter, and each table entry, whose group
reaches ACONF towards its estimate by at most ASTEP/1024 of its bound, within the bound, and holds the others; outside
its conditions it does nothing. A word of the applied set, or an estimate in use, is taken from the host while the
port is in OFF or LEARN_ONLY, with RESULT 0, and an applied word increments GEN; in the other modes the word is
refused with RESULT 1 and WR_BUSY. CLR zeroes the region and increments GEN. Rests on: R195, R198, R199, R200. -/
def Obligations.LearningEstimatesAndUpdates : Prop :=
  (∀ (n : Fin 16) s l, (s.lrn! n).fin = some l →
    Runs (.learningCycleEnd n) s fun t =>
      (t.lrn! n).fin = none ∧ (t.lrn! n).any = true ∧ (t.lrn! n).accAt = some s.now ∧
      t.g F.LRN_CYCCNT_COUNT n = min (2 ^ F.LRN_CYCCNT_COUNT.width - 1) (s.g F.LRN_CYCCNT_COUNT n + 1) ∧
      ∀ i, i < 68 → (i < 4 ∨ s.tblHarm n ((i - 2) / 2) = true) →
        match s.measEst n i (fun k => if k = 0 ∨ 32 < k ∨ s.g F.LRN_CFG_NHARM n < k then none else s.measure n k l) with
        | some m => t.estimate n i = satS 32 (s.estimate n i +
            clampI (-(rdiv 101 (s.g F.LRN_STEP_ESTEP n * s.bound n i) 1024)) (rdiv 101 (s.g F.LRN_STEP_ESTEP n * s.bound n i) 1024)
              (rdiv 102 (m - s.estimate n i) (2 ^ s.g F.LRN_CFG_NAVG n)))
        | none => t.estimate n i = s.estimate n i) ∧
  (∀ (n : Fin 16) s, (s.lrn! n).fin = none → Runs (.learningCycleEnd n) s fun t => t = s) ∧
  (∀ (n : Fin 16) s, s.bDone = true → s.resolver n = true → s.standby = false → s.lrnMode n = 2 →
    ((s.lrn! n).aplNow = true ∨ s.g F.LRN_APL_APL_T n * msU ≤ tdiff (tadd s.now sampleU) (s.lrn! n).aplAt) →
    Runs (.applyUpdate n) s fun t =>
      (t.lrn! n).aplNow = false ∧ (t.lrn! n).aplAt = tadd s.now sampleU ∧
      (∀ i : Fin 4, t.applied n i =
        if s.g F.LRN_CFG_ACONF n ≤ s.lrnConf n (if i.val < 2 then 0 else i.val - 1) then
          sgn 32 (enc 32 (moveTo (s.applied n i) (s.estimate n i) (s.bound n i) (s.g F.LRN_STEP_ASTEP n)))
        else s.applied n i) ∧
      ∀ j, j < 256 → t.appliedTbl n j =
        if s.g F.LRN_CFG_ACONF n ≤ s.lrnConf n 3 then
          sgn 16 (enc 16 (moveTo (s.appliedTbl n j) (s.estTbl n j) (s.tblBound n) (s.g F.LRN_STEP_ASTEP n)))
        else s.appliedTbl n j) ∧
  (∀ (n : Fin 16) s, s.bDone = false ∨ s.resolver n = false ∨ s.standby = true ∨ s.lrnMode n ≠ 2 ∨
    ((s.lrn! n).aplNow = false ∧ tdiff (tadd s.now sampleU) (s.lrn! n).aplAt < s.g F.LRN_APL_APL_T n * msU) →
    Runs (.applyUpdate n) s fun t => t = s) ∧
  (∀ src (value : BitVec 32) s p wd, s.reaches 0xA000 = true → s.g F.LRN_TLADDR_PORT = p → s.g F.LRN_TLADDR_WORD = wd →
    s.lrnOpen p = true → lrnWritable (4 * wd) = 2 →
    Runs (.learnTableWrite src value) s fun t =>
      t.lrnWord p (4 * wd) = (if 0x400 ≤ 4 * wd then value.toNat % 65536 else value.toNat) ∧
      t.lrnGen p = (s.lrnGen p + 1) % 65536 ∧ t.g F.LRN_TLADDR_RESULT = 0 ∧ t.g F.LRN_TLADDR_WORD = (wd + 1) % 1024) ∧
  (∀ src (value : BitVec 32) s p wd, s.reaches 0xA000 = true → s.g F.LRN_TLADDR_PORT = p → s.g F.LRN_TLADDR_WORD = wd →
    s.lrnOpen p = true → lrnWritable (4 * wd) = 1 → (0x100 ≤ 4 * wd → s.tblHarm p ((4 * wd - 0x100) / 8 + 1) = true) →
    Runs (.learnTableWrite src value) s fun t =>
      t.lrnWord p (4 * wd) = value.toNat ∧ t.lrnGen p = s.lrnGen p ∧
      t.g F.LRN_TLADDR_RESULT = 0 ∧ t.g F.LRN_TLADDR_WORD = (wd + 1) % 1024) ∧
  (∀ src value s p, s.reaches 0xA000 = true → s.g F.LRN_TLADDR_PORT = p → s.lrnOpen p = false →
    Runs (.learnTableWrite src value) s fun t =>
      (∀ a, 0x100000 ≤ a → t.sramByte a = s.sramByte a) ∧ t.g F.LRN_TLADDR_RESULT = 1 ∧
      t.gb F.LRN_STKY_WR_BUSY p = true) ∧
  (∀ src (n : Fin 16) s, s.reaches 0xA000 = true →
    Runs (.lrnClr src n) s fun t =>
      t.lrnGen n = (s.lrnGen n + 1) % 65536 ∧
      ∀ a, a < 0x1000 → (a < 0x10 ∨ 0x14 ≤ a) → t.sramByte (lrnBase n + a) = 0)

/-- A learning commit of some ports that finds none running shows BUSY, PEND and NVBUSY of those
ports and queues the write; one during a commit, or of no port, is refused with RES 1. A verified write puts the
record into the copy that is not in force, sets NV_DONE and counts; one that fails its verify sets NV_FAIL and RES 2
and leaves the bytes of the copy in force; the last one ends BUSY and every NVBUSY. With no write under way the row
does nothing. LOADNV keeps a load for the next boundary, and does nothing while a commit runs. Rests on: R203, R205. -/
def Obligations.LearningRecordsInNvm : Prop :=
  (∀ src (ports : BitVec 16) s, s.reaches 0xA000 = true → s.nvLearning = false → ports ≠ 0 →
    Runs (.lrnNvCommit src ports) s fun t =>
      t.gb F.LRN_NVSTAT_BUSY = true ∧ t.g F.LRN_NVSTAT_RES = 0 ∧ t.g F.LRN_NVSTAT_PEND = ports.toNat ∧
      t.nvq = s.nvq ++ [2] ∧ t.nvPorts = ports.toNat ∧
      ∀ n : Fin 16, ports.getLsbD n = true → t.gb F.LRN_STAT_NVBUSY n = true) ∧
  (∀ src (ports : BitVec 16) s, s.reaches 0xA000 = true → s.nvLearning = true ∨ ports = 0 →
    Runs (.lrnNvCommit src ports) s fun t =>
      t.g F.LRN_NVSTAT_RES = 1 ∧ t.nvq = s.nvq ∧ RegsBut [(F.LRN_NVSTAT_RES, 0)] s t) ∧
  (∀ s q (n : Fin 16) rec more, s.nvq = 2 :: q → s.nvBuf = (n.val, rec) :: more →
    Runs (.lrnNvWriteDone true) s fun t =>
      (∀ i, (h : i < rec.length) → t.nvmByte (lrnCopy n (((s.lrnForce n).map fun x => 1 - x.1).getD 0) + i) =
        rec[i]) ∧
      t.gb F.LRN_STKY_NV_DONE n = true ∧ t.g F.LRN_NVCNT_COUNT n = min (2 ^ F.LRN_NVCNT_COUNT.width - 1) (s.g F.LRN_NVCNT_COUNT n + 1) ∧
      t.nvBuf = more ∧
      (more = [] → t.gb F.LRN_NVSTAT_BUSY = false ∧ (∀ m : Fin 16, t.gb F.LRN_STAT_NVBUSY m = false) ∧ t.nvq = q)) ∧
  (∀ s q (n : Fin 16) rec more, s.nvq = 2 :: q → s.nvBuf = (n.val, rec) :: more →
    Runs (.lrnNvWriteDone false) s fun t =>
      t.g F.LRN_NVSTAT_RES = 2 ∧ t.gb F.LRN_STKY_NV_FAIL n = true ∧ t.nvBuf = more ∧
      (∀ c b, s.lrnForce n = some (c, b) → ∀ i, i < 864 → t.nvmByte (lrnCopy n c + i) = s.nvmByte (lrnCopy n c + i)) ∧
      (more = [] → t.gb F.LRN_NVSTAT_BUSY = false ∧ (∀ m : Fin 16, t.gb F.LRN_STAT_NVBUSY m = false) ∧ t.nvq = q)) ∧
  (∀ ok s, (∀ q, s.nvq ≠ 2 :: q) ∨ s.nvBuf = [] → Runs (.lrnNvWriteDone ok) s fun t => t = s) ∧
  (∀ src (n : Fin 16) s, s.reaches 0xA000 = true →
    Runs (.loadNv src n) s fun t =>
      (t.lrn! n).load = ((s.lrn! n).load || !s.nvLearning) ∧ RegsBut [] s t)

/-- On an encoder port a change of one of A and B that outlasts the edge filter counts one, in
the direction of the sequence and of DIR; a change of both counts as an illegal transition with QERR, and changes the
count only with QINFER in TRACK, by 2 in the direction of the velocity. On a Hall port a move to the next or the
previous sector counts one and takes the boundary between them; the first legal code takes the centre of its sector; a
move to another sector is illegal, sets HALL_SKIP and takes the centre; a fault code sets HALL_ILL, live and sticky,
counts as illegal and holds the position. The first index that is processed sets POS to ZREF and ZFOUND; a later one
shows its deviation, sets ZDEV beyond ZTOL, and sets POS to ZREF only in mode 2. A change shorter than the filter, and
one on a port of another kind, do nothing. Rests on: R211, R213, R214, R218, R219, R222. -/
def Obligations.EncoderAndHallDecoding : Prop :=
  (∀ (n : Fin 16) (e : EdgeIn) s x, s.digital n = true → s.g F.DFB_CFG_TYPE n = 0 → s.g F.DFB_CFG_FILT_N n ≤ e.held → e.path.val = 0 → s.dpath n 0 = x →
    ((x.a != e.a) != (x.b != e.b)) = true →
    Runs (.quadratureEdge n e) s fun t =>
      let d : Int := if decide ((quadPhase x.a x.b + 1) % 4 = quadPhase e.a e.b) != s.gb F.DFB_CFG_DIR n then 1 else -1
      (t.dpath n 0).cnt = sgn 32 (enc 32 (x.cnt + d)) ∧ t.g F.DFB_CNT_CNT n = enc 32 (x.cnt + d) ∧
      (0 < s.cycle n → (t.dpath n 0).pos = ((x.pos + d) % s.cycle n).toNat) ∧
      (t.dpath n 0).a = e.a ∧ (t.dpath n 0).b = e.b ∧ (t.dpath n 0).ill = x.ill) ∧
  (∀ (n : Fin 16) (e : EdgeIn) s x, s.digital n = true → s.g F.DFB_CFG_TYPE n = 0 → s.g F.DFB_CFG_FILT_N n ≤ e.held → e.path.val = 0 → s.dpath n 0 = x →
    x.a ≠ e.a → x.b ≠ e.b →
    Runs (.quadratureEdge n e) s fun t =>
      (t.dpath n 0).cnt = (if s.gb F.DFB_CFG_QINFER n = true ∧ s.ost (s.engine n) = oTrack ∧ (s.obs! (s.engine n)).w ≠ 0 then
        sgn 32 (enc 32 (x.cnt + if 0 < (s.obs! (s.engine n)).w then 2 else -2)) else x.cnt) ∧
      (t.dpath n 0).ill = x.ill + 1 ∧ t.gb F.DFB_STKY_QERR n = true ∧
      t.g F.DFB_ILLCNT_COUNT n = min (2 ^ F.DFB_ILLCNT_COUNT.width - 1) (s.g F.DFB_ILLCNT_COUNT n + 1)) ∧
  (∀ (n : Fin 16) (e : EdgeIn) s, s.digital n = false ∨ s.g F.DFB_CFG_TYPE n ≠ 0 ∨ e.held < s.g F.DFB_CFG_FILT_N n →
    (Runs (.quadratureEdge n e) s fun t => t = s) ∧ (Runs (.index n e) s fun t => t = s)) ∧
  (∀ (n : Fin 16) (e : HallIn) s x, s.digital n = true → s.g F.DFB_CFG_TYPE n = 1 → s.g F.DFB_CFG_FILT_N n ≤ e.held → e.path.val = 0 → s.dpath n 0 = x →
    x.hCode ≠ some e.code.toNat →
    hallSector e.code.toNat = none →
    Runs (.hallEdge n e) s fun t =>
      t.gb F.DFB_STAT_HALL_ILL n = true ∧ t.gb F.DFB_STKY_HALL_ILL n = true ∧
      t.g F.DFB_ILLCNT_COUNT n = min (2 ^ F.DFB_ILLCNT_COUNT.width - 1) (s.g F.DFB_ILLCNT_COUNT n + 1) ∧
      (t.dpath n 0).cnt = x.cnt ∧ (t.dpath n 0).hPos = x.hPos ∧ (t.dpath n 0).hSec = x.hSec) ∧
  (∀ (n : Fin 16) (e : HallIn) s x k, s.digital n = true → s.g F.DFB_CFG_TYPE n = 1 → s.g F.DFB_CFG_FILT_N n ≤ e.held → e.path.val = 0 → s.dpath n 0 = x →
    x.hCode ≠ some e.code.toNat →
    hallSector e.code.toNat = some k → x.hSec < 6 → k = (x.hSec + 1) % 6 →
    Runs (.hallEdge n e) s fun t =>
      (t.dpath n 0).hSec = k ∧ (t.dpath n 0).hPos = sixth (x.hSec + 1) ∧ (t.dpath n 0).hCen = false ∧
      (t.dpath n 0).cnt = sgn 32 (enc 32 (x.cnt + if s.gb F.DFB_CFG_DIR n then -1 else 1))) ∧
  (∀ (n : Fin 16) (e : HallIn) s x k, s.digital n = true → s.g F.DFB_CFG_TYPE n = 1 → s.g F.DFB_CFG_FILT_N n ≤ e.held → e.path.val = 0 → s.dpath n 0 = x →
    x.hCode ≠ some e.code.toNat →
    hallSector e.code.toNat = some k → x.hSec < 6 → x.hSec = (k + 1) % 6 →
    Runs (.hallEdge n e) s fun t =>
      (t.dpath n 0).hSec = k ∧ (t.dpath n 0).hPos = sixth (k + 1) ∧ (t.dpath n 0).hCen = false ∧
      (t.dpath n 0).cnt = sgn 32 (enc 32 (x.cnt + if s.gb F.DFB_CFG_DIR n then 1 else -1))) ∧
  (∀ (n : Fin 16) (e : HallIn) s x k, s.digital n = true → s.g F.DFB_CFG_TYPE n = 1 → s.g F.DFB_CFG_FILT_N n ≤ e.held → e.path.val = 0 → s.dpath n 0 = x →
    x.hCode ≠ some e.code.toNat →
    hallSector e.code.toNat = some k → x.hSec = 7 →
    Runs (.hallEdge n e) s fun t =>
      (t.dpath n 0).hSec = k ∧ (t.dpath n 0).hPos = twelfth (2 * k + 1) ∧ (t.dpath n 0).hCen = true ∧
      (t.dpath n 0).cnt = x.cnt) ∧
  (∀ (n : Fin 16) (e : HallIn) s x k, s.digital n = true → s.g F.DFB_CFG_TYPE n = 1 → s.g F.DFB_CFG_FILT_N n ≤ e.held → e.path.val = 0 → s.dpath n 0 = x →
    x.hCode ≠ some e.code.toNat →
    hallSector e.code.toNat = some k → x.hSec < 6 → k ≠ x.hSec → k ≠ (x.hSec + 1) % 6 → x.hSec ≠ (k + 1) % 6 →
    Runs (.hallEdge n e) s fun t =>
      t.gb F.DFB_STKY_HALL_SKIP n = true ∧ (t.dpath n 0).ill = x.ill + 1 ∧
      t.g F.DFB_ILLCNT_COUNT n = min (2 ^ F.DFB_ILLCNT_COUNT.width - 1) (s.g F.DFB_ILLCNT_COUNT n + 1) ∧
      (t.dpath n 0).hSec = k ∧ (t.dpath n 0).hPos = twelfth (2 * k + 1) ∧ (t.dpath n 0).hCen = true ∧
      (t.dpath n 0).cnt = x.cnt) ∧
  (∀ (n : Fin 16) (e : HallIn) s, s.digital n = false ∨ s.g F.DFB_CFG_TYPE n ≠ 1 ∨ e.held < s.g F.DFB_CFG_FILT_N n →
    Runs (.hallEdge n e) s fun t => t = s) ∧
  (∀ (n : Fin 16) (e : EdgeIn) s x, s.digital n = true → s.g F.DFB_CFG_TYPE n = 0 → s.g F.DFB_CFG_FILT_N n ≤ e.held → e.path.val = 0 → s.dpath n 0 = x →
    s.gateCond n { x with z := e.z } = true → x.gate = false → s.g F.DFB_CFG_IDXMODE n ≠ 0 → s.lineLow2 n = false →
    s.gb F.PRT_STAT_LINE_AX n = false → x.qloss = false → x.zfound = false →
    Runs (.index n e) s fun t =>
      (t.dpath n 0).zfound = true ∧ (t.dpath n 0).pos = s.g F.DFB_IDX_ZREF n % max 1 (s.cycle n) ∧
      t.gb F.DFB_STAT_ZFOUND n = true ∧ (t.dpath n 0).cnt = x.cnt) ∧
  (∀ (n : Fin 16) (e : EdgeIn) s x, s.digital n = true → s.g F.DFB_CFG_TYPE n = 0 → s.g F.DFB_CFG_FILT_N n ≤ e.held → e.path.val = 0 → s.dpath n 0 = x →
    s.gateCond n { x with z := e.z } = true → x.gate = false → s.g F.DFB_CFG_IDXMODE n ≠ 0 → s.lineLow2 n = false →
    s.gb F.PRT_STAT_LINE_AX n = false → x.qloss = false → x.zfound = true →
    Runs (.index n e) s fun t =>
      t.g F.DFB_ZDEVW_DEV n = enc 32 (s.deviation n x.pos) ∧
      t.g F.DFB_ZDEV_DEV n = enc 16 (satS 16 (s.deviation n x.pos)) ∧
      (s.g F.DFB_IDX_ZTOL n < (s.deviation n x.pos).natAbs → t.gb F.DFB_STKY_ZDEV n = true) ∧
      (t.dpath n 0).pos = (if s.g F.DFB_CFG_IDXMODE n = 2 then s.g F.DFB_IDX_ZREF n % max 1 (s.cycle n) else x.pos))

/-- More illegal transitions in a window than ILL_M set QLOSS, live and sticky, and put an
engine that is not off into LOT; fewer, or a live loss, do nothing. The end of a window starts the count again, and
one without illegal transitions ends a loss, after which the next index is the reference; before the end nothing
happens. QCLR ends a loss likewise, ZCLR forgets the reference and keeps the count, CLRDEG clears the DEGRADED that a
line loss left, in mode IGNORE only. Rests on: R215, R218, R221. -/
def Obligations.QuadratureLossAndCommands : Prop :=
  (∀ (n : Fin 16) s x, s.digital n = true → s.dpath n 0 = x → s.g F.DFB_QLOSS_ILL_M n < x.ill → x.illNew = true →
    x.qloss = false →
    Runs (.quadratureLoss n) s fun t =>
      (t.dpath n 0).qloss = true ∧ t.gb F.DFB_STAT_QLOSS n = true ∧ t.gb F.DFB_STKY_QLOSS n = true ∧
      (s.ost (s.engine n) ≠ oOff → t.ost (s.engine n) = oLot)) ∧
  (∀ (n : Fin 16) s, s.digital n = false ∨ (∀ p, (s.dpath n p).ill ≤ s.g F.DFB_QLOSS_ILL_M n ∨ (s.dpath n p).qloss = true) →
    Runs (.quadratureLoss n) s fun t => RegsBut [] s t ∧ t.dfb = s.dfb ∧ t.obs = s.obs) ∧
  (∀ (n : Fin 16) s x, s.digital n = true → s.dpath n 0 = x → s.g F.DFB_QLOSS_ILL_WIN n * 5000 ≤ (s.dfb! n).win →
    Runs (.illWindowEnd n) s fun t =>
      (t.dfb! n).win = 0 ∧ (t.dpath n 0).ill = 0 ∧ (t.dpath n 0).qloss = (x.qloss && decide (x.ill ≠ 0)) ∧
      (t.dpath n 0).zfound = (x.zfound && !(x.qloss && decide (x.ill = 0)))) ∧
  (∀ (n : Fin 16) s, s.digital n = false ∨ (s.dfb! n).win < s.g F.DFB_QLOSS_ILL_WIN n * 5000 →
    Runs (.illWindowEnd n) s fun t => t = s) ∧
  (∀ src (n : Fin 16) s, s.reaches 0xB000 = true →
    Runs (.zclr src n) s fun t =>
      (t.dpath n 0).zfound = false ∧ (t.dpath n 1).zfound = false ∧ t.gb F.DFB_STAT_ZFOUND n = false ∧
      (t.dpath n 0).cnt = (s.dpath n 0).cnt ∧ (t.dpath n 0).pos = (s.dpath n 0).pos) ∧
  (∀ src (n : Fin 16) s, s.reaches 0xB000 = true → s.g F.DFB_CFG_IDXMODE n = 0 →
    Runs (.clrdeg src n) s fun t => (t.dpath n 0).degr = false ∧ (t.dpath n 1).degr = false) ∧
  (∀ src (n : Fin 16) s, s.g F.DFB_CFG_IDXMODE n ≠ 0 →
    Runs (.clrdeg src n) s fun t => t.dfb = s.dfb ∧ RegsBut [] s t) ∧
  (∀ src (n : Fin 16) s, s.reaches 0xB000 = true →
    Runs (.qclr src n) s fun t =>
      (t.dpath n 0).qloss = false ∧ (t.dpath n 1).qloss = false ∧ t.gb F.DFB_STAT_QLOSS n = false ∧
      (t.dpath n 0).zfound = ((s.dpath n 0).zfound && !(s.dpath n 0).qloss))

/-- A request made while the device may clock its sensor starts a frame when none runs, the recovery
has passed and the line is idle; otherwise it is skipped, with SKIP and the count. In role STANDBY it is the first
edge of the partner, which starts the frame that is then decoded. A BiSS frame whose CRC holds delivers its position,
with no VALID where nE is 0; one whose CRC fails delivers nothing, sets CRC and counts; so does an SSI frame whose
copies differ, and another SSI frame delivers, from Gray code where GRAY is 1. A BiSS frame without a start bit by the
TO_MAX-th rising edge of MA ends with NOSTART and delivers nothing. On a port of another kind, or with no frame
running, the rows do nothing. Rests on: R223, R225, R226, R227, R229, R230. -/
def Obligations.SerialSensorFrames : Prop :=
  (∀ (n : Fin 16) sub s at', s.serial n = true → s.standby = false → s.holdsToken = true → (s.dfb! n).req = some at' →
    0 ≤ tdiff at' (s.exc! n).hold → s.gb F.DFB_STAT_FRAME n = false → 0 ≤ tdiff at' (s.dfb! n).recover →
    Runs (.frameRequest n true sub) s fun t =>
      t.gb F.DFB_STAT_FRAME n = true ∧ (t.dfb! n).tr = at' ∧ (t.dfb! n).req = none ∧ RegsBut [(F.DFB_STAT_FRAME, n)] s t) ∧
  (∀ (n : Fin 16) idle sub s at', s.serial n = true → s.standby = false → s.holdsToken = true → (s.dfb! n).req = some at' →
    0 ≤ tdiff at' (s.exc! n).hold → (s.dfb! n).mon = false →
    s.gb F.DFB_STAT_FRAME n = true ∨ tdiff at' (s.dfb! n).recover < 0 ∨ idle = false →
    Runs (.frameRequest n idle sub) s fun t =>
      t.gb F.DFB_STKY_SKIP n = true ∧ (t.dfb! n).req = none ∧ t.gb F.DFB_STAT_FRAME n = s.gb F.DFB_STAT_FRAME n ∧
      t.g F.DFB_SKIPCNT_COUNT n = min (2 ^ F.DFB_SKIPCNT_COUNT.width - 1) (s.g F.DFB_SKIPCNT_COUNT n + 1)) ∧
  (∀ (n : Fin 16) idle sub s, s.serial n = true → s.standby = true → s.gb F.DFB_STAT_FRAME n = false →
    Runs (.frameRequest n idle sub) s fun t =>
      t.gb F.DFB_STAT_FRAME n = true ∧ (t.dfb! n).tr = tadd s.now sub ∧ RegsBut [(F.DFB_STAT_FRAME, n)] s t) ∧
  (∀ (n : Fin 16) idle sub s, s.serial n = false → Runs (.frameRequest n idle sub) s fun t => t = s) ∧
  (∀ (n : Fin 16) (f : SerialIn) s nb es, s.digital n = true → s.g F.DFB_CFG_TYPE n = 2 → s.gb F.DFB_STAT_FRAME n = true →
    f.path.val = 0 → f.clockOk = true →
    nb = s.g F.DFB_SFMT_MT_BITS n + s.g F.DFB_SFMT_ST_BITS n →
    es = (if s.g F.DFB_SFMT_ERRB n = 0 then [] else if s.g F.DFB_SFMT_ERRB n = 1 then [f.err.toNat.testBit 0]
      else [f.err.toNat.testBit 0, f.err.toNat.testBit 1]) →
    (crc6 (bitsMSB (f.data % 2 ^ nb) nb ++ es) ^^^ 63 = f.check % 64 →
      Runs (.frameEnd n f) s fun t =>
        (t.dpath n 0).sPos = s.serialTheta n (f.data % 2 ^ nb % 2 ^ s.g F.DFB_SFMT_ST_BITS n) ∧
        (t.dpath n 0).tf = tadd (s.dfb! n).tr (s.g F.DFB_LATCH_LATCH_DLY n * nsU) ∧
        (t.dpath n 0).sErr = (decide (1 ≤ s.g F.DFB_SFMT_ERRB n) && !f.err.toNat.testBit 0) ∧
        (t.dpath n 0).sAny = true ∧ t.gb F.DFB_STAT_FRAME n = false) ∧
    (crc6 (bitsMSB (f.data % 2 ^ nb) nb ++ es) ^^^ 63 ≠ f.check % 64 →
      Runs (.frameEnd n f) s fun t =>
        (t.dpath n 0).sPos = (s.dpath n 0).sPos ∧ (t.dpath n 0).tf = (s.dpath n 0).tf ∧ t.gb F.DFB_STKY_CRC n = true ∧
        t.gb F.DFB_STAT_FRAME n = false ∧ t.g F.DFB_ERRCNT_COUNT n = min (2 ^ F.DFB_ERRCNT_COUNT.width - 1) (s.g F.DFB_ERRCNT_COUNT n + 1))) ∧
  (∀ (n : Fin 16) (f : SerialIn) s nb, s.digital n = true → s.g F.DFB_CFG_TYPE n = 3 → s.gb F.DFB_STAT_FRAME n = true →
    f.path.val = 0 → f.clockOk = true →
    nb = s.g F.DFB_SFMT_MT_BITS n + s.g F.DFB_SFMT_ST_BITS n →
    (s.gb F.DFB_SFMT_DBL n = false ∨ f.check = f.data % 2 ^ nb →
      Runs (.frameEnd n f) s fun t =>
        (t.dpath n 0).sPos = s.serialTheta n ((if s.gb F.DFB_SFMT_GRAY n then grayToBin (f.data % 2 ^ nb) nb
          else f.data % 2 ^ nb) % 2 ^ s.g F.DFB_SFMT_ST_BITS n) ∧
        (t.dpath n 0).sAny = true ∧ t.gb F.DFB_STAT_FRAME n = false) ∧
    (s.gb F.DFB_SFMT_DBL n = true → f.check ≠ f.data % 2 ^ nb →
      Runs (.frameEnd n f) s fun t =>
        (t.dpath n 0).sPos = (s.dpath n 0).sPos ∧ t.gb F.DFB_STKY_CRC n = true ∧ t.gb F.DFB_STAT_FRAME n = false ∧
        t.g F.DFB_ERRCNT_COUNT n = min (2 ^ F.DFB_ERRCNT_COUNT.width - 1) (s.g F.DFB_ERRCNT_COUNT n + 1))) ∧
  (∀ (n : Fin 16) (f : SerialIn) s, s.serial n = false ∨ (s.gb F.DFB_STAT_FRAME n = false ∧ f.path.val = 0) →
    Runs (.frameEnd n f) s fun t => t = s) ∧
  (∀ (n : Fin 16) (p : Fin 2) s, s.digital n = true → s.g F.DFB_CFG_TYPE n = 2 → s.gb F.DFB_STAT_FRAME n = true → p = 0 →
    tdiff (tadd (s.dfb! n).tr ((2 * s.g F.DFB_STIM_TO_MAX n - 1) * s.serialClk n / 2 : Nat)) (tadd s.now sampleU) < 0 →
    Runs (.noStart n p) s fun t =>
      t.gb F.DFB_STAT_FRAME n = false ∧ t.gb F.DFB_STKY_NOSTART n = true ∧ t.dpath n 0 = s.dpath n 0) ∧
  (∀ (n : Fin 16) (p : Fin 2) s, s.digital n = false ∨ s.g F.DFB_CFG_TYPE n ≠ 2 ∨ s.gb F.DFB_STAT_FRAME n = false →
    Runs (.noStart n p) s fun t => t = s)

/-- ALIGN asks for a realignment at the next sample in RUN, at the return to RUN in FROZEN,
and at the next sample in any state but WAIT while the outputs are those of a standby device; REARM counts in FAULT
only. A Z pulse of an output in RUN ends 10 us after its firing, and a GTRIG pulse at its end, each with its edge at
the ball, where no later edge, firing or Vent pulse waits; before that instant, or without a pulse, nothing happens. A
rising edge of an enabled PWM sync input that passes its filter is stamped, gives the period and clears LOST; a change
that the filter stops does nothing. TO us without a rising edge set LOST with its sticky bit; with the input or TO
off, or earlier, nothing happens. Rests on: R240, R242, R244, R269, R271. -/
def Obligations.EmulationAndPulseCommands : Prop :=
  (∀ src (i : Fin 8) s, s.reaches 0xC000 = true →
    Runs (.align src i) s fun t =>
      (if s.emuCode i = 6 ∧ (s.emu! i).st ≠ eWait then (t.emu! i).chg = true
       else (t.emu! i).align = ((s.emu! i).align || decide ((s.emu! i).st = eRun)) ∧
        (t.emu! i).back = ((s.emu! i).back || decide ((s.emu! i).st = eFrozen))) ∧ RegsBut [] s t) ∧
  (∀ src (i : Fin 8) s, s.reaches 0xC000 = true →
    Runs (.rearm src i) s fun t =>
      (t.emu! i).rearm = ((s.emu! i).rearm || decide ((s.emu! i).st = eFault)) ∧ RegsBut [] s t) ∧
  (∀ (i : Fin 8) s z, s.emuCode i = 2 → (s.emu! i).zAt = some z → (s.emu! i).zev = [] →
    tdiff (tadd z (10 * usU)) (tadd s.now sampleU) ≤ 0 →
    Runs (.zemuPulseEnd i) s fun t => (t.emu! i).zAt = none ∧ (t.emu! i).cq = (s.emu! i).cq ∧
      t.outbox = .ball "EMUZ" (2 * i.val) (tadd z (10 * usU)) :: s.outbox) ∧
  (∀ (i : Fin 8) s, (s.emu! i).zAt = none ∨ s.emuCode i ≠ 2 → Runs (.zemuPulseEnd i) s fun t => t = s) ∧
  (∀ (i : Fin 8) s z, (s.emu! i).zAt = some z → 0 < tdiff (tadd z (10 * usU)) (tadd s.now sampleU) →
    Runs (.zemuPulseEnd i) s fun t => t = s) ∧
  (∀ (o : Fin 16) s e, (vget s.gt o).low = some e → (∀ v, (s.vnt! v).pulse = none) →
    tdiff e (tadd s.now (2 * sampleU)) ≤ 0 →
    Runs (.gtrigPulseEnd o) s fun t =>
      vget t.gt o = { low := none, high := some e } ∧ t.outbox = .ball "GTRIG" (2 * o.val + 1) e :: s.outbox ∧ RegsBut [] s t) ∧
  (∀ (o : Fin 16) s, (∀ e, (vget s.gt o).low = some e → 0 < tdiff e (tadd s.now (2 * sampleU))) →
    Runs (.gtrigPulseEnd o) s fun t => t = s) ∧
  (∀ (p : Fin 4) sub held s, (vget s.pwms p).lvl = false → s.gb F.GEY_PWMS_CFG_EN p = true →
    s.g F.GEY_PWMS_CFG_FILT p ≤ held →
    Runs (.pwmsEdge p ⟨true, held⟩ sub) s fun t =>
      (vget t.pwms p).lvl = true ∧ (vget t.pwms p).rise = some (round40 (tadd s.now sub)) ∧
      t.g F.GEY_PWMS_TS_TS32 p = ts32 (round40 (tadd s.now sub)) % 2 ^ 32 ∧ t.gb F.GEY_PWMS_PER_LOST p = false ∧
      ∀ r, (vget s.pwms p).rise = some r →
        t.g F.GEY_PWMS_PER_PER p = satU 24 (tdiff (round40 (tadd s.now sub)) r / 40) % 2 ^ 24) ∧
  (∀ (p : Fin 4) level sub held s, (vget s.pwms p).lvl = level ∨
      (s.gb F.GEY_PWMS_CFG_EN p = true ∧ held < s.g F.GEY_PWMS_CFG_FILT p) →
    Runs (.pwmsEdge p ⟨level, held⟩ sub) s fun t => t = s) ∧
  (∀ (p : Fin 4) s, s.gb F.GEY_PWMS_CFG_EN p = true → s.g F.GEY_PWMS_CFG_TO p ≠ 0 →
    tdiff (tadd (vget s.pwms p).base (s.g F.GEY_PWMS_CFG_TO p * usU)) (tadd s.now sampleU) ≤ 0 →
    Runs (.pwmsLost p) s fun t =>
      t.gb F.GEY_PWMS_PER_LOST p = true ∧ bitOf (t.g F.GEY_STKY_PWMS_LOST) p = true) ∧
  (∀ (p : Fin 4) s, s.gb F.GEY_PWMS_CFG_EN p = false ∨ s.g F.GEY_PWMS_CFG_TO p = 0 ∨
      0 < tdiff (tadd (vget s.pwms p).base (s.g F.GEY_PWMS_CFG_TO p * usU)) (tadd s.now sampleU) →
    Runs (.pwmsLost p) s fun t => t = s)

/-- A commitment that is due fires: the count advances, the instant is kept, LATE and MISS say how
it was committed, and a commitment kept from an old entry is gone; without a due commitment nothing happens. A live-
table word enters the staging set and the address advances. A shadow word goes in with RESULT 0 where neither its
group nor the written one waits for a copy, else it is refused with RESULT 1 and BUSY_W; the address advances. A copy
of a group from 1 that does not wait is queued with RES 0; one that waits is refused with RES 1 and GBUSY, group 0
with RES 2. The first TIME record of the stream goes out 2 us after driving starts; once the lanes are free the first
record of the best class goes out, FIRE before TIME before SAMPLE; else nothing does. Rests on: R260, R272, R274,
R275, R276, R278. -/
def Obligations.SlotsTablesAndStream : Prop :=
  (∀ (j : Fin 256) s c, (s.slot! j).keep = none → (s.slot! j).com = some c → (s.slot! j).st = gComm → s.fireDue c.at' = true →
    Runs (.slotFire j) s fun t =>
      (t.slot! j).cnt = ((s.slot! j).cnt + 1) % 2 ^ 32 ∧ (t.slot! j).fired = c.at' ∧
      (s.slotKind j ≠ 1 → (t.slot! j).late = decide (c.kind = 1) ∧ (t.slot! j).miss = decide (c.kind = 2))) ∧
  (∀ (j : Fin 256) s c, (s.slot! j).keep = some c → s.fireDue c.at' = true →
    Runs (.slotFire j) s fun t =>
      (t.slot! j).cnt = ((s.slot! j).cnt + 1) % 2 ^ 32 ∧ (t.slot! j).fired = c.at' ∧ (t.slot! j).keep = none ∧
      (t.slot! j).late = decide (c.kind = 1) ∧ (t.slot! j).miss = decide (c.kind = 2)) ∧
  (∀ (j : Fin 256) s, (s.slot! j).keep = none → (∀ c, (s.slot! j).com = some c → s.fireDue c.at' = false) →
    Runs (.slotFire j) s fun t => t = s) ∧
  (∀ src (value : BitVec 32) s a, s.reaches 0xD000 = true → s.mayStage src.path = true → s.staged.length < 2048 →
    a = liveBase + 4 * s.g F.GEY_LADDR_WORD → s.inSet (.sram a) = false →
    Runs (.liveTableWrite src value) s fun t =>
      t.staged = s.staged ++ [{ tgt := .sram a, value := value.toNat, did := none }] ∧
      t.g F.GEY_LADDR_WORD = (s.g F.GEY_LADDR_WORD + 1) % 2 ^ F.GEY_LADDR_WORD.width) ∧
  (∀ src (value : BitVec 32) s w, s.reaches 0xD000 = true → w = s.g F.GEY_SHADDR_WORD →
    s.copyPending (s.shadowGroup (w / 4)) = false → (w % 4 = 0 → s.copyPending (bitsOf value.toNat 16 6) = false) →
    Runs (.shadowWrite src value) s fun t =>
      t.sram32 (shadowBase + 4 * w) = value.toNat ∧ t.g F.GEY_SHADDR_RESULT = 0 ∧ t.g F.GEY_SHADDR_WORD = (w + 1) % 1024) ∧
  (∀ src (value : BitVec 32) s w, s.reaches 0xD000 = true → w = s.g F.GEY_SHADDR_WORD →
    s.copyPending (s.shadowGroup (w / 4)) = true ∨ (w % 4 = 0 ∧ s.copyPending (bitsOf value.toNat 16 6) = true) →
    Runs (.shadowWrite src value) s fun t =>
      (∀ a, 0x100000 ≤ a → t.sramByte a = s.sramByte a) ∧ t.g F.GEY_SHADDR_RESULT = 1 ∧ t.gb F.GEY_STKY_BUSY_W = true ∧
      t.g F.GEY_SHADDR_WORD = (w + 1) % 1024) ∧
  (∀ src (value : BitVec 32) s g, s.reaches 0xD000 = true → bitOf value.toNat 8 = true → g = value.toNat % 64 → g ≠ 0 →
    (s.copyPending g = false →
      Runs (.groupCopyRequest src value) s fun t =>
        t.copies = s.copies ++ [(g, tadd s.now src.sub)] ∧ t.g F.GEY_GSTAT_RES = 0) ∧
    (s.copyPending g = true →
      Runs (.groupCopyRequest src value) s fun t =>
        t.copies = s.copies ∧ t.g F.GEY_GSTAT_RES = 1 ∧ t.gb F.GEY_STKY_GBUSY = true)) ∧
  (∀ src (value : BitVec 32) s, s.reaches 0xD000 = true → bitOf value.toNat 8 = true → value.toNat % 64 = 0 →
    Runs (.groupCopyRequest src value) s fun t => t.copies = s.copies ∧ t.g F.GEY_GSTAT_RES = 2) ∧
  (∀ s t0, s.stream.drive = some t0 → s.stream.began = false → 2 * usU ≤ tdiff s.now t0 →
    Runs .streamStart s fun t =>
      t.stream.began = true ∧ t.stream.busy = tadd s.now 14400 ∧ t.outbox = .stream (streamRec s.streamTime) :: s.outbox) ∧
  (∀ s, (∀ t0, s.stream.drive = some t0 → s.stream.began = true ∨ tdiff s.now t0 < 2 * usU) →
    Runs .streamStart s fun t => t = s) ∧
  (∀ s b q, s.stream.began = true → tdiff s.stream.busy (tadd s.now sampleU) ≤ 0 → 
    ((takeClass 0 s.stream.q).orElse fun _ => (takeClass 1 s.stream.q).orElse fun _ => takeClass 2 s.stream.q) = some (b, q) →
    Runs .streamRecordSend s fun t =>
      t.stream.q = q ∧ t.outbox = .stream b :: s.outbox ∧ t.g F.GEY_ASSTAT_LEVEL = q.length % 2 ^ F.GEY_ASSTAT_LEVEL.width) ∧
  (∀ s, s.stream.began = false ∨ 0 < tdiff s.stream.busy (tadd s.now sampleU) ∨ s.stream.q = [] →
    Runs .streamRecordSend s fun t => t = s)

/-- An issued MOV, MOVH, arithmetic, logic, shift or compare instruction writes its result to rd
and its flags, takes one cycle and goes on with the next word; no other register of the device changes. At word 1023
the engine faults with PCOUT instead of going on. Rests on: R290. -/
def Obligations.VentMovesAndArithmetic : Prop :=
  (∀ (e : Fin 7) s rd src, Issues e (.mov rd src) s → s.g F.VNT_STAT_PC e < 1023 →
    Runs (.mov e) s fun t =>
      t.vreg e rd = VSrc.signed src (s.vreg e) ∧ t.vflags e = (s.vflags e).result (VSrc.signed src (s.vreg e)) ∧
      Advances e 1 s t ∧ RegsBut [(F.VNT_W_W rd.toNat, e), (F.VNT_STAT_FLAGS, e), (F.VNT_STAT_PC, e)] s t) ∧
  (∀ (e : Fin 7) s rd imm, Issues e (.movh rd imm) s → s.g F.VNT_STAT_PC e < 1023 →
    Runs (.movh e) s fun t =>
      (t.vreg e rd).extractLsb' 16 16 = imm ∧ (t.vreg e rd).extractLsb' 0 16 = (s.vreg e rd).extractLsb' 0 16 ∧
      t.vflags e = (s.vflags e).result (t.vreg e rd) ∧
      Advances e 1 s t ∧ RegsBut [(F.VNT_W_W rd.toNat, e), (F.VNT_STAT_FLAGS, e), (F.VNT_STAT_PC, e)] s t) ∧
  (∀ (e : Fin 7) (c : Instr) op, (c, op) ∈ [(.add e, AluOp.add), (.sub e, AluOp.sub), (.and e, AluOp.and), (.or e, AluOp.or),
      (.xor e, AluOp.xor), (.shl e, AluOp.shl), (.shr e, AluOp.shr), (.sar e, AluOp.sar)] →
    ∀ s rd ra src a b, Issues e (.alu op rd ra src) s → s.g F.VNT_STAT_PC e < 1023 → a = s.vreg e ra →
      b = AluOp.source op src (s.vreg e) →
      Runs c s fun t =>
        t.vreg e rd = AluOp.result op a b ∧ t.vflags e = AluOp.flags op (s.vflags e) a b ∧
        Advances e 1 s t ∧ RegsBut [(F.VNT_W_W rd.toNat, e), (F.VNT_STAT_FLAGS, e), (F.VNT_STAT_PC, e)] s t) ∧
  (∀ (e : Fin 7) s ra src, Issues e (.cmp ra src) s → s.g F.VNT_STAT_PC e < 1023 →
    Runs (.cmp e) s fun t =>
      t.vflags e = (s.vflags e).sub (s.vreg e ra) (VSrc.signed src (s.vreg e)) ∧
      Advances e 1 s t ∧ RegsBut [(F.VNT_STAT_FLAGS, e), (F.VNT_STAT_PC, e)] s t) ∧
  (∀ (e : Fin 7) (c : Instr) op i s, (c, op) ∈ [(.mov e, 0x01), (.movh e, 0x02), (.add e, 0x03), (.sub e, 0x04), (.and e, 0x05),
      (.or e, 0x06), (.xor e, 0x07), (.shl e, 0x08), (.shr e, 0x09), (.sar e, 0x0A), (.cmp e, 0x0B)] →
    Issues e i s → vOpcode (s.ventWord e) = op → s.g F.VNT_STAT_PC e = 1023 →
    Runs c s fun t => Faulted e F.VNT_STKY_PCOUT s t)

/-- BR takes its target in two cycles when the condition holds, else goes on in one. LD writes the
word of a window to rd and its S flag in three cycles, what reading the window itself leaves being all else that
changes in the registers. ST writes the register to the private data area in two cycles and no other byte, or makes
the request of the site window, with T set when it is refused; an address no table defines faults with ADDR. POST sets
its bit and goes on; HALT ends the activation, and begins a pending start at its entry with its argument. An illegal
word of an engine that runs, with budget left, faults with BADOP at its issue; without one the row does nothing. Rests
on: R290, R292, R293, R297, R304. -/
def Obligations.VentFlowAndWindows : Prop :=
  (∀ (e : Fin 7) s c tg, Issues e (.br c tg) s → Cond.holds c (s.vflags e) = true →
    Runs (.br e) s fun t =>
      t.g F.VNT_STAT_PC e = tg.toNat ∧ t.vst e = vRun ∧ (t.vnt! e).due = tadd (s.vnt! e).due 320 ∧
      RegsBut [(F.VNT_STAT_PC, e)] s t) ∧
  (∀ (e : Fin 7) s c tg, Issues e (.br c tg) s → Cond.holds c (s.vflags e) = false → s.g F.VNT_STAT_PC e < 1023 →
    Runs (.br e) s fun t => Advances e 1 s t ∧ RegsBut [(F.VNT_STAT_PC, e)] s t) ∧
  (∀ (e : Fin 7) s rd ra x off v st u, Issues e (.ld rd ra x off) s → s.g F.VNT_STAT_PC e < 1023 →
    (s.issued e).ventLoad e (s.ventAddr e ra x off) = some (v, st, u) →
    Runs (.ld e) s fun t =>
      t.vreg e rd = BitVec.ofNat 32 v ∧ t.vflags e = { s.vflags e with s := st } ∧ Advances e 3 s t ∧
      RegsBut [(F.VNT_W_W rd.toNat, e), (F.VNT_STAT_FLAGS, e), (F.VNT_STAT_PC, e)] u t) ∧
  (∀ (e : Fin 7) s rd ra x off, Issues e (.ld rd ra x off) s →
    (s.issued e).ventLoad e (s.ventAddr e ra x off) = none →
    Runs (.ld e) s fun t => Faulted e F.VNT_STKY_ADDR s t) ∧
  (∀ (e : Fin 7) s rs ra x off a, Issues e (.st rs ra x off) s → s.g F.VNT_STAT_PC e < 1023 →
    a = s.ventAddr e ra x off → a < 0x80 →
    Runs (.st e) s fun t =>
      t.sram32 (ventData + 512 * e + 4 * a) = (s.vreg e rs).toNat ∧
      (∀ b, (b < ventData + 512 * e + 4 * a ∨ ventData + 512 * e + 4 * a + 4 ≤ b) → t.sramByte b = s.sramByte b) ∧
      t.vflags e = { s.vflags e with t := false } ∧ Advances e 2 s t ∧
      RegsBut [(F.VNT_STAT_FLAGS, e), (F.VNT_STAT_PC, e)] s t) ∧
  (∀ (e : Fin 7) s rs ra x off a u r, Issues e (.st rs ra x off) s → s.g F.VNT_STAT_PC e < 1023 →
    a = s.ventAddr e ra x off → (s.issued e).ventStore e a (s.vreg e rs).toNat = some (u, r) →
    Runs (.st e) s fun t =>
      t.sram = u.sram ∧ t.ventReq = u.ventReq ∧ t.vflags e = { s.vflags e with t := r } ∧
      t.g F.VNT_STAT_PC e = s.g F.VNT_STAT_PC e + 1 ∧ t.vst e = vRun) ∧
  (∀ (e : Fin 7) s rs ra x off, Issues e (.st rs ra x off) s →
    (s.issued e).ventStore e (s.ventAddr e ra x off) (s.vreg e rs).toNat = none →
    Runs (.st e) s fun t => Faulted e F.VNT_STKY_ADDR s t) ∧
  (∀ (e : Fin 7) s n, Issues e (.post n) s → s.g F.VNT_STAT_PC e < 1023 →
    Runs (.post e) s fun t =>
      t.g F.VNT_POST_POST = s.g F.VNT_POST_POST ||| 2 ^ n.toNat ∧
      t.g F.VNT_STAT_PC e = s.g F.VNT_STAT_PC e + 1 ∧ t.vst e = vRun) ∧
  (∀ (e : Fin 7) s, Issues e .halt s → (s.vnt! e).pend = none →
    Runs (.halt e) s fun t => t.vst e = vIdle ∧ RegsBut [(F.VNT_STAT_STATE, e)] s t) ∧
  (∀ (e : Fin 7) s b, Issues e .halt s → (s.vnt! e).pend = some b →
    Runs (.halt e) s fun t =>
      t.vst e = vRun ∧ t.g F.VNT_STAT_PC e = b.entry % 1024 ∧ t.vreg e 0 = BitVec.ofNat 32 b.arg ∧
      (t.vnt! e).pend = none ∧ (t.vnt! e).start = b ∧ t.gb F.VNT_STAT_PEND e = false) ∧
  (∀ (e : Fin 7) s, s.vst e = vRun → tdiff (s.vnt! e).due (tadd s.now sampleU) ≤ 0 → ventIllegal e (s.ventWord e) = true →
    s.poisoned (ventBase + 4096 * e + 4 * s.g F.VNT_STAT_PC e) = false → (s.vnt! e).budget ≠ 0 →
    Runs (.illegalOpcode e) s fun t => Faulted e F.VNT_STKY_BADOP s t) ∧
  (∀ (e : Fin 7) s, s.vst e ≠ vRun ∨ ventIllegal e (s.ventWord e) = false ∨ 0 < tdiff (s.vnt! e).due (tadd s.now sampleU) →
    Runs (.illegalOpcode e) s fun t => t = s)

/-- A WAIT puts the engine into WAIT on its condition, except an instant that has passed, which goes on with
T 1, and the angle code 3, which faults with BADOP. A condition met within WMAX ends the wait at the next word with T
0, 2.5 ns later and at least 5 ns after the issue; one that is not met within it ends it with T 1 and WAITTO; before
that, and outside WAIT, nothing happens. ZWAIT waits for the zero crossing of a port that drives or senses and is
refused with T 1 otherwise. Rests on: R294, R295, R301. -/
def Obligations.VentWaits : Prop :=
  (∀ (e : Fin 7) s m ra imm, m.toNat = 0 → Issues e (.wait m ra imm) s →
    Runs (.waitDelay e) s fun t =>
      t.vst e = vWait ∧ (t.vnt! e).wait = some (.delay (tadd (s.vnt! e).due (imm.toNat * 640))) ∧
      (t.vnt! e).issued = (s.vnt! e).due ∧ RegsBut [(F.VNT_STAT_STATE, e)] s t) ∧
  (∀ (e : Fin 7) s m ra imm u, m.toNat = 1 → Issues e (.wait m ra imm) s →
    u = tadd (s.vnt! e).start.t0 ((s.vreg e ra).toNat * nsU) →
    (0 ≤ tdiff u (s.vnt! e).due →
      Runs (.waitUntil e) s fun t =>
        t.vst e = vWait ∧ (t.vnt! e).wait = some (.instant u) ∧ RegsBut [(F.VNT_STAT_STATE, e)] s t) ∧
    (tdiff u (s.vnt! e).due < 0 → s.g F.VNT_STAT_PC e < 1023 →
      Runs (.waitUntil e) s fun t =>
        t.vst e = vRun ∧ t.g F.VNT_STAT_PC e = s.g F.VNT_STAT_PC e + 1 ∧ t.vflags e = { s.vflags e with t := true } ∧
        (t.vnt! e).due = tadd (s.vnt! e).due (5 * nsU))) ∧
  (∀ (e : Fin 7) s m ra imm, m.toNat = 2 → Issues e (.wait m ra imm) s →
    (bitsOf imm.toNat 5 2 ≠ 3 →
      Runs (.waitAngle e) s fun t =>
        t.vst e = vWait ∧ (t.vnt! e).wait = some (.angle (s.vreg e ra).toNat (imm.toNat % 16) (bitOf imm.toNat 4)
          (bitsOf imm.toNat 5 2)) ∧ RegsBut [(F.VNT_STAT_STATE, e)] s t) ∧
    (bitsOf imm.toNat 5 2 = 3 → Runs (.waitAngle e) s fun t => Faulted e F.VNT_STKY_BADOP s t)) ∧
  (∀ (e : Fin 7) s m ra imm, m.toNat = 3 → Issues e (.wait m ra imm) s →
    Runs (.waitEvent e) s fun t =>
      t.vst e = vWait ∧ (t.vnt! e).wait = some (.event (imm.toNat % 256)) ∧ (t.vnt! e).waitEv = some (imm.toNat % 256) ∧
      RegsBut [(F.VNT_STAT_STATE, e)] s t) ∧
  (∀ (e : Fin 7) s v ra rb imm n, v.toNat = 0x10 → siteVerb e 0x10 = true → Issues e (.act v ra rb imm) s →
    n = (s.vreg e ra).toNat →
    (n < 16 → s.drives n = true ∨ s.drv n = dSense →
      Runs (.actZwait e) s fun t =>
        t.vst e = vWait ∧ (t.vnt! e).wait = some (.zero n) ∧ RegsBut [(F.VNT_STAT_STATE, e)] s t) ∧
    (16 ≤ n ∨ (s.drives n = false ∧ s.drv n ≠ dSense) → s.g F.VNT_STAT_PC e < 1023 →
      Runs (.actZwait e) s fun t => t.vflags e = { s.vflags e with t := true } ∧ Advances e 2 s t)) ∧
  (∀ (e : Fin 7) s u, s.ventMet e = some u → s.vst e = vWait → tdiff u (s.ventLimit e) ≤ 0 →
    tdiff u (tadd s.now sampleU) ≤ 0 → s.g F.VNT_STAT_PC e < 1023 →
    Runs (.waitEnd e) s fun t =>
      t.vst e = vRun ∧ (t.vnt! e).wait = none ∧ t.g F.VNT_STAT_PC e = s.g F.VNT_STAT_PC e + 1 ∧
      t.vflags e = { s.vflags e with t := false } ∧
      (t.vnt! e).due = (if tdiff (tadd u 160) (tadd (s.vnt! e).issued (5 * nsU)) < 0 then tadd (s.vnt! e).issued (5 * nsU)
        else tadd u 160)) ∧
  (∀ (e : Fin 7) s, s.vst e ≠ vWait ∨
      (∀ u, s.ventMet e = some u → 0 < tdiff u (s.ventLimit e) ∨ 0 < tdiff u (tadd s.now sampleU)) →
    Runs (.waitEnd e) s fun t => t = s) ∧
  (∀ (e : Fin 7) s, s.vst e = vWait → (∀ u, s.ventMet e = some u → 0 < tdiff u (s.ventLimit e)) →
    tdiff (s.ventLimit e) (tadd s.now sampleU) ≤ 0 → s.g F.VNT_STAT_PC e < 1023 →
    Runs (.waitto e) s fun t =>
      t.vst e = vRun ∧ (t.vnt! e).wait = none ∧ t.g F.VNT_STAT_PC e = s.g F.VNT_STAT_PC e + 1 ∧
      t.vflags e = { s.vflags e with t := true } ∧ t.gb F.VNT_STKY_WAITTO e = true) ∧
  (∀ (e : Fin 7) s, s.vst e ≠ vWait ∨ (∃ u, s.ventMet e = some u ∧ tdiff u (s.ventLimit e) ≤ 0) ∨
      0 < tdiff (s.ventLimit e) (tadd s.now sampleU) →
    Runs (.waitto e) s fun t => t = s)

/-- An issued ACT of a verb of the engine site does the operation of the verb on ra, rb and imm, sets T when
it is refused, and goes on after two cycles. Accepted, PULSE keeps its outputs and instant, BLANK its window, ZEMU
raises the pulse of its outputs at the instant, GCOPY queues the copy, UEVENT sets its bit, FREL asks for the end of
the override, INJ runs the injection, SEL selects the object; CANREQ and TXREQ make the transmit request, CANCEL the
cancel request and SAFETX the safe transmission that the object or connection takes, refused where that is. PULSE is
refused outside 50 ns to 1 ms and with one pending, BLANK early or without length, GCOPY for group 0 or a pending one,
FREL without an override, INJ while an injection runs. An injection ends after its samples with DONE, and not before.
Rests on: R299, R300, R301, R302, R303. -/
def Obligations.VentVerbs : Prop :=
  (∀ (e : Fin 7) (c : Instr) vb k, (c, vb, k) ∈ [(.actPulse e, 1, actPulse e), (.actBlank e, 2, actBlank e),
      (.actCanreq e, 3, actCanreq), (.actZemu e, 4, actZemu), (.actGcopy e, 5, actGcopy), (.actUevent e, 6, actUevent),
      (.actFrel e, 0x11, actFrel), (.actInj e, 0x12, actInj), (.actSel e, 0x20, actSel e), (.actTxreq e, 0x21, actTxreq e),
      (.actCancel e, 0x22, actCancel e), (.actSafetx e, 0x23, actSafetx)] →
    ∀ s v ra rb imm r, v.toNat = vb → siteVerb e vb = true → Issues e (.act v ra rb imm) s → s.g F.VNT_STAT_PC e < 1023 →
      r = k (s.vreg e ra).toNat (s.vreg e rb).toNat imm.toNat (s.issued e) →
      Runs c s fun t =>
        t = r.1.actDone e r.2 ∧ t.vflags e = { s.vflags e with t := r.2 } ∧ t.g F.VNT_STAT_PC e = s.g F.VNT_STAT_PC e + 1 ∧
        t.vst e = vRun) ∧
  (∀ (e : Fin 7) s (ra rb imm : Nat) u, u = tadd (s.vnt! e).start.t0 ((rb : Int) * 40) → 50 * nsU ≤ tdiff u s.t → tdiff u s.t ≤ msU →
    (s.vnt! e).pulse = none →
    (actPulse e ra rb imm s).2 = false ∧ ((actPulse e ra rb imm s).1.vnt! e).pulse = some (ra % 65536, u)) ∧
  (∀ (e : Fin 7) s (ra rb imm : Nat) u, u = tadd (s.vnt! e).start.t0 (sgn 32 rb * 1600) → -(100 * nsU : Int) ≤ tdiff u s.t →
    imm % 256 ≠ 0 →
    (actBlank e ra rb imm s).2 = false ∧
    (actBlank e ra rb imm s).1.blankWin = (ra % 65536, u, tadd u (imm % 256 * 1600)) :: s.blankWin) ∧
  (∀ (s : State) ra rb imm (i : Fin 8), bitOf imm i = true → s.emuCode i = 2 → s.gb F.EMU_CFG_ZSRC i = true →
    (actZemu ra rb imm s).2 = false ∧
    ((actZemu ra rb imm s).1.emu! i).zev = zInsert (s.t, true) (s.emu! i).zev) ∧
  (∀ (e : Fin 7) s (ra rb imm : Nat) u, u = tadd (s.vnt! e).start.t0 ((rb : Int) * 40) →
    tdiff u s.t < 50 * nsU ∨ msU < tdiff u s.t → (actPulse e ra rb imm s).2 = true) ∧
  (∀ (e : Fin 7) s (ra rb imm : Nat), imm % 256 = 0 ∨ tdiff (tadd (s.vnt! e).start.t0 (sgn 32 rb * 1600)) s.t < -(100 * nsU : Int) →
    actBlank e ra rb imm s = (s, true)) ∧
  (∀ (s : State) ra rb imm, imm % 64 = 0 ∨ s.copyPending (imm % 64) = true →
    (actGcopy ra rb imm s).2 = true ∧ (actGcopy ra rb imm s).1.copies = s.copies) ∧
  (∀ (s : State) ra rb imm, 16 ≤ ra ∨ s.overridden ra = false → actFrel ra rb imm s = (s, true)) ∧
  (∀ (s : State) ra rb imm, s.inj.run = true ∨ rb = 0 ∨ 250 < rb ∨ imm % 4 = 3 → actInj ra rb imm s = (s, true)) ∧
  (∀ (s : State) ra rb imm u ok, s.canReq (bitsOf imm 7 1) (imm % 128) false = (u, ok) →
    actCanreq ra rb imm s = (u, !ok)) ∧
  (∀ (e : Fin 7) (s : State) ra rb imm u ok, s.canReq (ventCtrl e) (imm % 128) false = (u, ok) →
    actTxreq e ra rb imm s = (u, !ok)) ∧
  (∀ (e : Fin 7) (s : State) ra rb imm u ok, s.canCancel (ventCtrl e) (imm % 128) false = (u, ok) →
    actCancel e ra rb imm s = (u, !ok)) ∧
  (∀ (s : State) ra rb imm u ok, s.safeTx (ra % 256) = (u, ok) → actSafetx ra rb imm s = (u, !ok)) ∧
  (∀ (s : State) ra rb imm, imm % 64 ≠ 0 → s.copyPending (imm % 64) = false →
    (actGcopy ra rb imm s).2 = false ∧ (actGcopy ra rb imm s).1.copies = s.copies ++ [(imm % 64, s.t)]) ∧
  (∀ (s : State) ra rb imm, (actUevent ra rb imm s).2 = false ∧
    bitOf ((actUevent ra rb imm s).1.g F.GEY_USTKY_USER) (imm % 8) = true) ∧
  (∀ (s : State) ra rb imm, ra < 16 → s.overridden ra = true →
    (actFrel ra rb imm s).2 = false ∧ (actFrel ra rb imm s).1.ventReq = s.ventReq ++ [(ra, 2, 0)]) ∧
  (∀ (s : State) ra rb imm, ra < 16 → 1 ≤ rb → rb ≤ 250 → imm % 4 < 3 → s.inj.run = false →
    s.injCheck ra (imm % 4) = (true, false) → SMap.get 0 s.injEnd ra = 0 →
    (actInj ra rb imm s).2 = false ∧
    (actInj ra rb imm s).1.inj = { run := true, port := ra, kind := imm % 4, total := rb }) ∧
  (∀ (e : Fin 7) s ra rb imm, ((actSel e ra rb imm s).1.vnt! e).sel = imm % 128) ∧
  (∀ (n : Fin 16) s, s.inj.run = true → s.inj.port = n.val → s.inj.total ≤ s.inj.smp →
    Runs (.injectionEnd n) s fun t =>
      t.inj.run = false ∧ t.inj.done = true ∧ SMap.get 0 t.injEnd n = tadd s.now sampleU + 1 ∧
      t.gb F.SAF_NOTE_IPASS = s.inj.pass) ∧
  (∀ (n : Fin 16) s, s.inj.run = false ∨ s.inj.port ≠ n.val ∨ s.inj.smp < s.inj.total →
    Runs (.injectionEnd n) s fun t => t = s)

/-- A host start of an idle engine begins an activation at its entry with w0 the argument,
flags 0 and the full budget, 5 ns after the write; one of a busy engine without a pending start stays pending; one
more, and one of an engine OFF or in FAULT, is refused with its code and REFUSED; in the cycle of a period start the
host start goes first and the period start is skipped. A period start begins an idle engine at a multiple of the
period, and counts an overrun otherwise. CLRF takes FAULT to IDLE, STOP abandons the activation and the pending start,
CLRW zeroes w1 to w7 of an engine that neither runs nor waits. A program word goes in only while its engine is OFF or
in FAULT, a word of the private data at any time in whose cycle the engine does not store. Rests on: R284, R285, R286,
R288, R305. -/
def Obligations.VentStartsAndHostCommands : Prop :=
  (∀ src (value : BitVec 32) (e : Fin 7) s, s.reaches 0xE000 = true → value.toNat % 8 = e.val → s.vst e = vIdle →
    Runs (.ventHostStart src value) s fun t =>
      t.vst e = vRun ∧ t.g F.VNT_STAT_PC e = bitsOf value.toNat 4 10 ∧ t.vreg e 0 = BitVec.ofNat 32 (s.g F.VNT_SARG_ARG) ∧
      t.g F.VNT_STAT_FLAGS e = 0 ∧ t.g F.VNT_SRES_RES = 0 ∧ (t.vnt! e).budget = s.g F.VNT_LIM_BUDGET e ∧
      (t.vnt! e).due = tadd (tadd s.now src.sub) (5 * nsU)) ∧
  (∀ src (value : BitVec 32) (e : Fin 7) s u, s.reaches 0xE000 = true → value.toNat % 8 = e.val → s.vst e = vRun →
    (s.vnt! e).start.src = 2 → (s.vnt! e).acc = some u → u / 160 = tadd s.now src.sub / 160 →
    Runs (.ventHostStart src value) s fun t =>
      t.vst e = vRun ∧ t.g F.VNT_STAT_PC e = bitsOf value.toNat 4 10 ∧ t.vreg e 0 = BitVec.ofNat 32 (s.g F.VNT_SARG_ARG) ∧
      t.g F.VNT_SRES_RES = 0 ∧ t.gb F.VNT_STKY_OVRUN e = true) ∧
  (∀ src (value : BitVec 32) (e : Fin 7) s, s.reaches 0xE000 = true → value.toNat % 8 = e.val → s.vst e = vRun ∨ s.vst e = vWait →
    (∀ u, (s.vnt! e).acc = some u ∨ (s.vnt! e).pacc = some u → u / 160 ≠ tadd s.now src.sub / 160) →
    ((s.vnt! e).pend = none →
      Runs (.ventHostStart src value) s fun t =>
        t.vst e = s.vst e ∧ (t.vnt! e).pend.isSome = true ∧ t.gb F.VNT_STAT_PEND e = true ∧ t.g F.VNT_SRES_RES = 1) ∧
    ((s.vnt! e).pend ≠ none →
      Runs (.ventHostStart src value) s fun t =>
        t.vst e = s.vst e ∧ (t.vnt! e).pend = (s.vnt! e).pend ∧ t.gb F.VNT_STKY_REFUSED e = true ∧ t.g F.VNT_SRES_RES = 2)) ∧
  (∀ src (value : BitVec 32) (e : Fin 7) s, s.reaches 0xE000 = true → value.toNat % 8 = e.val → s.vst e = vOff ∨ s.vst e = vFault →
    Runs (.ventHostStart src value) s fun t =>
      t.vst e = s.vst e ∧ t.gb F.VNT_STKY_REFUSED e = true ∧ t.g F.VNT_SRES_RES = 3) ∧
  (∀ (e : Fin 7) s, s.g F.VNT_PER_PER_US e ≠ 0 → tdiff (s.ventPeriodAt e) (tadd s.now sampleU) < 0 →
    (s.vnt! e).per ≠ some (s.ventPeriodAt e) →
    (s.vst e = vIdle →
      Runs (.ventPeriodStart e) s fun t =>
        t.vst e = vRun ∧ t.g F.VNT_STAT_PC e = s.g F.VNT_CFG_PENTRY e ∧ (t.vnt! e).per = some (s.ventPeriodAt e)) ∧
    (s.vst e ≠ vIdle →
      Runs (.ventPeriodStart e) s fun t =>
        t.vst e = s.vst e ∧ t.gb F.VNT_STKY_OVRUN e = true ∧ (t.vnt! e).per = some (s.ventPeriodAt e) ∧
        t.g F.VNT_OVRCNT_COUNT e = min (2 ^ F.VNT_OVRCNT_COUNT.width - 1) (s.g F.VNT_OVRCNT_COUNT e + 1))) ∧
  (∀ (e : Fin 7) s, s.g F.VNT_PER_PER_US e = 0 ∨ 0 ≤ tdiff (s.ventPeriodAt e) (tadd s.now sampleU) ∨
      (s.vnt! e).per = some (s.ventPeriodAt e) → Runs (.ventPeriodStart e) s fun t => t = s) ∧
  (∀ src (e : Fin 7) s, s.reaches 0xE000 = true →
    Runs (.clrf src e) s fun t =>
      t.vst e = (if s.vst e = vFault then vIdle else s.vst e) ∧ RegsBut [(F.VNT_STAT_STATE, e)] s t) ∧
  (∀ src (e : Fin 7) s, s.reaches 0xE000 = true → s.vst e = vRun ∨ s.vst e = vWait →
    Runs (.stop src e) s fun t =>
      t.vst e = vIdle ∧ (t.vnt! e).pend = none ∧ (t.vnt! e).wait = none ∧ t.gb F.VNT_STAT_PEND e = false ∧
      RegsBut [(F.VNT_STAT_STATE, e), (F.VNT_STAT_PEND, e)] s t) ∧
  (∀ src (e : Fin 7) s, s.vst e ≠ vRun → s.vst e ≠ vWait → Runs (.stop src e) s fun t => t.vnt = s.vnt ∧ RegsBut [] s t) ∧
  (∀ src (e : Fin 7) s, s.reaches 0xE000 = true → s.vst e ≠ vRun → s.vst e ≠ vWait →
    Runs (.clrw src e) s fun t =>
      (∀ r : BitVec 3, r ≠ 0 → t.vreg e r = 0) ∧ t.vreg e 0 = s.vreg e 0 ∧ t.vst e = s.vst e) ∧
  (∀ src (e : Fin 7) s, s.vst e = vRun ∨ s.vst e = vWait → Runs (.clrw src e) s fun t => RegsBut [] s t) ∧
  (∀ src (value : BitVec 32) s w, s.reaches 0xE000 = true → w = s.g F.VNT_LADDR_WORD → w < 7168 →
    (s.vst (w / 1024) = vOff ∨ s.vst (w / 1024) = vFault →
      Runs (.ventProgramWrite src value) s fun t =>
        t.sram32 (ventBase + 4 * w) = value.toNat ∧ t.g F.VNT_LADDR_RESULT = 0 ∧ t.g F.VNT_LADDR_WORD = w + 1) ∧
    (s.vst (w / 1024) ≠ vOff → s.vst (w / 1024) ≠ vFault →
      Runs (.ventProgramWrite src value) s fun t =>
        t.sram = s.sram ∧ t.g F.VNT_LADDR_RESULT = 1 ∧ t.g F.VNT_LADDR_WORD = w + 1)) ∧
  (∀ src (value : BitVec 32) s w, s.reaches 0xE000 = true → w = s.g F.VNT_LADDR_WORD → 7168 ≤ w → w < 8064 →
    (∀ x, (s.vnt! ((w - 7168) / 128)).stAt = some x → x.2 / 160 ≠ tadd s.now src.sub / 160) →
    Runs (.ventProgramWrite src value) s fun t =>
      t.sram32 (ventBase + 4 * w) = value.toNat ∧ t.g F.VNT_LADDR_RESULT = 0 ∧ t.g F.VNT_LADDR_WORD = w + 1)

/-- A frame of a running front end starts on a slice at its instant, or is deferred while a
slot of the slice runs. A pre-drive of a channel that converts, with its pair free, starts at the later of ASET before
the slot and the end of the previous slot of the pair. A slot start takes the slot out of the frame, and puts a
channel that converts with no request waiting into phase 1; a disabled one passes idle. An output of the filter is
counted and joins the mean of the phase once the settle time has passed; compliance is remembered; the first output at
or after the end of the phase with a settled one ends the phase with its ratio, the last phase with a result at that
instant. A phase without a settled output at its end is extended, with SLOW live and sticky. A guard at its limit sets
its sticky bit. Before its instant, or where its conditions do not hold, a row leaves the state. Rests on: R309, R314,
R315, R316, R319. -/
def Obligations.TemperatureFramesAndPhases : Prop :=
  (∀ (x : Fin 2) s, s.tmpRuns = true → s.tmpFrom = none → tdiff s.frameAt (tadd s.now sampleU) < 0 →
    (s.tsl! x).base ≠ some s.frameAt →
    ((s.tsl! x).run = none →
      Runs (.tmpFrameStart x) s fun t =>
        (t.tsl! x).base = some s.frameAt ∧ (t.tsl! x).todo = 255 ∧ (t.tsl! x).delay = 0 ∧ (t.tsl! x).defer' = none) ∧
    ((s.tsl! x).run ≠ none →
      Runs (.tmpFrameStart x) s fun t =>
        (t.tsl! x).defer' = some s.frameAt ∧ (t.tsl! x).base = (s.tsl! x).base ∧ RegsBut [] s t)) ∧
  (∀ (x : Fin 2) s, s.tmpRuns = false ∨ 0 ≤ tdiff s.frameAt (tadd s.now sampleU) ∨ (s.tsl! x).base = some s.frameAt →
    Runs (.tmpFrameStart x) s fun t => t = s) ∧
  (∀ (c : Fin 16) s b, s.slotAt c = some b → s.tmpOn c = true → s.tmpRuns = true → (s.tmp! c).st = 0 → s.pairBusy c = false →
    tdiff (s.driveAt c b) (tadd s.now sampleU) < 0 →
    Runs (.tmpPredrive c) s fun t =>
      (t.tmp! c).st = 1 ∧ (t.tmp! c).drive = s.driveAt c b ∧ t.gb F.TMP_STAT_ACT c = true) ∧
  (∀ (c : Fin 16) s, s.slotAt c = none ∨ s.tmpOn c = false ∨ s.tmpRuns = false ∨ (s.tmp! c).st ≠ 0 ∨ s.pairBusy c = true ∨
      (∃ b, s.slotAt c = some b ∧ 0 ≤ tdiff (s.driveAt c b) (tadd s.now sampleU)) →
    Runs (.tmpPredrive c) s fun t => t = s) ∧
  (∀ (c : Fin 16) s b, s.slotAt c = some b → s.tmpRuns = true → (s.tsl! (c / 8)).run = none →
    tdiff b (tadd s.now sampleU) < 0 →
    Runs (.tmpSlotStart c) s fun t =>
      (t.tsl! (c / 8)).todo = setBit (s.tsl! (c / 8)).todo (c % 8) false ∧
      ((s.tmp! c).q = [] →
        (s.tmpOn c = true →
          (t.tmp! c).st = 2 ∧ (t.tmp! c).ph = 0 ∧ (t.tmp! c).slot = b ∧ (t.tsl! (c / 8)).run = some c.val) ∧
        (s.tmpOn c = false → (t.tsl! (c / 8)).run = none ∧ (t.tmp! c).st = (s.tmp! c).st))) ∧
  (∀ (c : Fin 16) s, s.slotAt c = none ∨ s.tmpRuns = false ∨ (s.tsl! (c / 8)).run ≠ none ∨
      (∃ b, s.slotAt c = some b ∧ 0 ≤ tdiff b (tadd s.now sampleU)) →
    Runs (.tmpSlotStart c) s fun t => t = s) ∧
  (∀ (c : Fin 16) (m : TmpIn) s u at', s.tmp! c = u → at' = tadd u.slot ((u.outs + 1) * outU) → u.st = 2 →
    tdiff at' (tadd s.now sampleU) < 0 → tdiff at' (tadd u.start phaseU) < 0 →
    Runs (.tmpFilterOutput c m) s fun t =>
      (t.tmp! c).outs = u.outs + 1 ∧ (t.tmp! c).ph = u.ph ∧
      (t.tmp! c).cnt = (if 0 ≤ tdiff at' u.settled then u.cnt + 1 else u.cnt) ∧
      (t.tmp! c).sum = (if 0 ≤ tdiff at' u.settled then u.sum + (vget s.sinc (c / 8)).out else u.sum) ∧
      (t.tmp! c).cmpl = (u.cmpl || !u.set.complies m)) ∧
  (∀ (c : Fin 16) (m : TmpIn) s u at', s.tmp! c = u → at' = tadd u.slot ((u.outs + 1) * outU) → u.st = 2 → u.q = [] →
    tdiff at' (tadd s.now sampleU) < 0 → 0 ≤ tdiff at' (tadd u.start phaseU) → 0 ≤ tdiff at' u.settled →
    (u.ph < 3 →
      Runs (.tmpFilterOutput c m) s fun t =>
        (t.tmp! c).ph = u.ph + 1 ∧ (t.tmp! c).start = at' ∧ (t.tmp! c).cnt = 0 ∧
        (t.tmp! c).r = rdiv 136 ((u.sum + (vget s.sinc (c / 8)).out) * 2 ^ 19) ((u.cnt + 1 : Nat) * 625 ^ 3) :: u.r) ∧
    (u.ph = 3 → Runs (.tmpFilterOutput c m) s fun t => t.g F.TMP_TS_TS32 c = ts32 at')) ∧
  (∀ (c : Fin 16) m s, (s.tmp! c).st ≠ 2 ∨ 0 ≤ tdiff (tadd (s.tmp! c).slot (((s.tmp! c).outs + 1) * outU)) (tadd s.now sampleU) →
    Runs (.tmpFilterOutput c m) s fun t => t = s) ∧
  (∀ (c : Fin 16) s u, s.tmp! c = u → u.st = 2 → u.ext = false → u.cnt = 0 →
    0 ≤ tdiff (tadd u.slot (u.outs * outU)) (tadd u.start phaseU) →
    Runs (.phaseExtend c) s fun t =>
      (t.tmp! c).ext = true ∧ (t.tmp! c).exts = true ∧ bitOf (t.g F.TMP_STAT_LIVE c) 7 = true ∧
      bitOf (t.g F.TMP_STKY_BITS c) 7 = true) ∧
  (∀ (c : Fin 16) s, (s.tmp! c).st ≠ 2 ∨ (s.tmp! c).ext = true ∨ (s.tmp! c).cnt ≠ 0 ∨
      tdiff (tadd (s.tmp! c).slot ((s.tmp! c).outs * outU)) (tadd (s.tmp! c).start phaseU) < 0 →
    Runs (.phaseExtend c) s fun t => t = s) ∧
  (∀ (g : Fin 4) s, (s.g F.TMPG_CTRL_GEN).testBit g = true → s.tmpRuns = true →
    Runs (.guardOverload g) s fun t => bitOf (t.g F.TMPG_STKY_GRDOVL) g = true) ∧
  (∀ (g : Fin 4) s, s.tmpRuns = false ∨ (s.g F.TMPG_CTRL_GEN).testBit g = false → Runs (.guardOverload g) s fun t => t = s)

/-- A level held for the filter time is taken by its channel, which then evaluates
every axis; a shorter one is not. The tick of a channel counts the disagreeing lines of the enabled pairs and
evaluates the axes, in SM-A those without ports; an accepted image becomes the active one of both channels at the SM-B
tick, with CFG_OK. A count at DISC latches the discrepancy. Images of different CRC, a clock outside 5 % for 1 ms, a
supply outside its window for 10 us, a heartbeat missing for 50 us, a permit ball that does not follow its output, and
permit balls together for 7 us or less than 2 us apart while both toggle latch their device fault and stop every axis;
a reading inside its limits clears the live bit. While the monitor is off nothing happens. Rests on: R330, R331, R335,
R341, R342, R347. -/
def Obligations.SafetyInputsTicksAndDeviceFaults : Prop :=
  (∀ (ch line : Fin 2) (x : Fin 8) level held s, s.smOn = true → s.ga (decide (ch = 1)) F.SAF_SI_CFG_FILT x * 50 * usU ≤ held →
    Runs (.safeInputFiltered ch line x ⟨level, held⟩) s fun t => ∃ u,
      u.siLevel (decide (ch = 1)) line x = level ∧ RegsBut [(F.SAF_SI_SIA, 0), (F.SAF_SI_SIB, 0)] s u ∧
      u.siLevel (decide (ch ≠ 1)) line x = s.siLevel (decide (ch ≠ 1)) line x ∧
      t = u.smEval (decide (ch = 1)) anyAx 0) ∧
  (∀ (ch line : Fin 2) (x : Fin 8) level held s, s.smOn = false ∨ held < s.ga (decide (ch = 1)) F.SAF_SI_CFG_FILT x * 50 * usU →
    Runs (.safeInputFiltered ch line x ⟨level, held⟩) s fun t => t = s) ∧
  (∀ s, s.smOn = true →
    Runs .smATick s fun t => ∃ u,
      (∀ x : Fin 8, u.discA.getD x 0 =
        if s.gab false F.SAF_SI_CFG_EN x = true ∧ s.siRun false 0 x ≠ s.siRun false 1 x then s.discA.getD x 0 + 1 else 0) ∧
      RegsBut [] s u ∧ t = u.smEval false (fun a => !s.withPorts false a) 0) ∧
  (∀ s, s.smOn = false → Runs .smATick s fun t => t = s) ∧
  (∀ s, s.smOn = true → s.appWait = none →
    Runs .smBTick s fun t => ∃ u,
      (∀ x : Fin 8, u.discB.getD x 0 =
        if s.gab true F.SAF_SI_CFG_EN x = true ∧ s.siRun true 0 x ≠ s.siRun true 1 x then s.discB.getD x 0 + 1 else 0) ∧
      RegsBut [] s u ∧ t = u.smEval true anyAx 0) ∧
  (∀ s img, s.smOn = true → s.appWait = some img →
    Runs .smBTick s fun t => t.actA = img ∧ t.actB = img ∧ t.appWait = none ∧ t.gb F.SAF_CFGRES_BUSY = false ∧
      t.gb F.SAF_STKY_CFG_OK = true) ∧
  (∀ s, s.smOn = false → Runs .smBTick s fun t => t = s) ∧
  (∀ (ch : Fin 2) (x : Fin 8) s, s.smOn = true →
    s.ga (decide (ch = 1)) F.SAF_SI_CFG_DISC x ≤ (if ch = 1 then s.discB else s.discA).getD x 0 →
    bitOf (if ch = 1 then s.latB else s.latA) x = false →
    Runs (.discrepancyFault ch x) s fun t => ∃ u : State,
      bitOf (if ch = 1 then u.latB else u.latA) x = true ∧ bitOf (u.g F.SAF_STKY_DISC) x = true ∧
      t = u.smEval (decide (ch = 1)) anyAx 0) ∧
  (∀ (ch : Fin 2) (x : Fin 8) s, s.smOn = false ∨ bitOf (if ch = 1 then s.latB else s.latA) x = true ∨
      (if ch = 1 then s.discB else s.discA).getD x 0 < s.ga (decide (ch = 1)) F.SAF_SI_CFG_DISC x →
    Runs (.discrepancyFault ch x) s fun t => t = s) ∧
  (∀ s, s.smOn = true → s.safPar = true ∨ imageCrc s.actA ≠ imageCrc s.actB → bitOf (s.g F.SAF_DFAULT_LATCHED) 1 = false →
    Runs .configCrcCompare s fun t => FaultLatched 1 t) ∧
  (∀ s, s.smOn = false ∨ (s.safPar = false ∧ imageCrc s.actA = imageCrc s.actB) →
    Runs .configCrcCompare s fun t => t = s) ∧
  (∀ (m : MonIn) (us c : Nat) s, s.smOn = true → bitOf (s.g F.SAF_DFAULT_LATCHED) c = false →
    (∃ dev, m = .clock dev ∧ c = 5 ∧ 500 < dev.natAbs ∧ 1000 ≤ us) ∨
    (m = .supply true ∧ c = 6 ∧ 10 ≤ us) ∨ (∃ ch, m = .beat ch ∧ c = 7 ∧ 50 ≤ us) →
    Runs (.deviceFault m us) s fun t => FaultLatched c t) ∧
  (∀ (m : MonIn) (us c : Nat) s, s.smOn = true →
    (∃ dev, m = .clock dev ∧ c = 5 ∧ (dev.natAbs ≤ 500 ∨ us < 1000)) ∨
    (∃ out, m = .supply out ∧ c = 6 ∧ (out = false ∨ us < 10)) ∨ (∃ ch, m = .beat ch ∧ c = 7 ∧ us < 50) →
    Runs (.deviceFault m us) s fun t => bitOf (t.g F.SAF_DFAULT_LIVE) c = false ∧ RegsBut [(F.SAF_DFAULT_LIVE, 0)] s t) ∧
  (∀ (m : ReadIn) (ns c : Nat) s, s.smOn = true → bitOf (s.g F.SAF_DFAULT_LATCHED) c = false →
    (∃ ch : Fin 2, m = .still ch ∧ c = 2 + ch.val ∧ s.toggles (decide (ch = 1)) = true ∧ 15000 ≤ ns) ∨
    (∃ ch : Fin 2, m = .moves ch ∧ c = 2 + ch.val ∧ s.staticLow (decide (ch = 1)) = true) ∨
    (s.toggles false = true ∧ s.toggles true = true ∧ c = 4 ∧
      ((m = .equal ∧ 7000 ≤ ns) ∨ (m = .apart ∧ ns < 2000))) →
    Runs (.permitReadbackFault m ns) s fun t => FaultLatched c t) ∧
  (∀ (m : ReadIn) (ns c : Nat) s, s.smOn = true →
    (∃ ch : Fin 2, m = .still ch ∧ c = 2 + ch.val ∧ (s.toggles (decide (ch = 1)) = false ∨ ns < 15000)) ∨
    (∃ ch : Fin 2, m = .moves ch ∧ c = 2 + ch.val ∧ s.staticLow (decide (ch = 1)) = false) ∨
    (c = 4 ∧ ((m = .equal ∧ ns < 7000) ∨ (m = .apart ∧ 2000 ≤ ns))) →
    Runs (.permitReadbackFault m ns) s fun t =>
      bitOf (t.g F.SAF_DFAULT_LIVE) c = false ∧ RegsBut [(F.SAF_DFAULT_LIVE, 0)] s t) ∧
  (∀ m r us s, s.smOn = false →
    (Runs (.deviceFault m us) s fun t => t = s) ∧ (Runs (.permitReadbackFault r us) s fun t => t = s))

/-- A disabled axis is in STO; an enabled axis with a latched device fault goes to FAULT; without an
acknowledge it stays in FAULT; it stays in STO while STO or SS1 is demanded, and without AUTORST until acknowledged; a
demand of STO takes it from RUN to STO, or to FAULT. The evaluation of an axis in a channel changes no other axis and
nothing in the other channel. Rests on: R335, R336, R337, R338. -/
def Obligations.AxisStates : Prop :=
  (∀ (s : State) b (a : Fin 8) ack, s.gab b F.AX_CFG_EN a = false → ((s.axEval b a ack).ax! b a).st = xSto) ∧
  (∀ (s : State) b (a : Fin 8) ack, s.gab b F.AX_CFG_EN a = true → s.g F.SAF_DFAULT_LATCHED ≠ 0 →
    ((s.axEval b a ack).ax! b a).st = xFault) ∧
  (∀ (s : State) b (a : Fin 8), s.gab b F.AX_CFG_EN a = true → (s.ax! b a).st = xFault →
    ((s.axEval b a false).ax! b a).st = xFault) ∧
  (∀ (s : State) b (a : Fin 8) ack, s.gab b F.AX_CFG_EN a = true → s.g F.SAF_DFAULT_LATCHED = 0 → (s.ax! b a).st = xSto →
    bitOf (s.axDemand b a) 1 = true ∨ bitOf (s.axDemand b a) 2 = true ∨ (s.gab b F.AX_CFG_AUTORST a = false ∧ ack = false) →
    ((s.axEval b a ack).ax! b a).st = xSto) ∧
  (∀ (s : State) b (a : Fin 8) ack, s.gab b F.AX_CFG_EN a = true → s.g F.SAF_DFAULT_LATCHED = 0 → (s.ax! b a).st = xRun →
    bitOf (s.axDemand b a) 1 = true →
    ((s.axEval b a ack).ax! b a).st = xSto ∨ ((s.axEval b a ack).ax! b a).st = xFault) ∧
  (∀ (s : State) b (a a' : Fin 8) ack, a' ≠ a → (s.axEval b a ack).ax! b a' = s.ax! b a') ∧
  (∀ (s : State) b (a a' : Fin 8) ack, (s.axEval b a ack).ax! (!b) a' = s.ax! (!b) a')

/-- The first key opens the sequence of its path and the second one its window; any other key
write ends it with KEYERR; a key or window older than 100 us lapses, a younger one stays. A keyed write or command
through an open window acts and closes it; through a closed one it is refused with KEYERR and nothing acts. APPLY of a
lawful image with its CRC while every axis rests keeps the image for the SM-B tick; an unlawful one answers RES 3, a
wrong CRC 2, an axis not at rest 1, each with CFG_REF. DISCARD gives the registers of the image their active values.
AXIS has both channels evaluate the named axes with the acknowledge; DEV clears the acknowledgeable causes that are
not live, DISC the discrepancies of the named pairs whose lines agree, each with an evaluation of both channels; CACK
takes a connection from FAULT to its start. Rests on: R332, R335, R342, R343, R346, R347. -/
def Obligations.KeysAndKeyedCommands : Prop :=
  (∀ src (value : BitVec 32) s, s.reaches 0x10000 = true →
    ((s.at src).keyPhase src.path = 0 → value.toNat = 0xC5A1 →
      Runs (.safKey src value) s fun t =>
        t.key! src.path = { ph := 1, at' := tadd s.now src.sub } ∧ RegsBut [] s t) ∧
    ((s.at src).keyPhase src.path = 1 → value.toNat = 0x3A5E →
      Runs (.safKey src value) s fun t =>
        t.key! src.path = { ph := 2, at' := tadd s.now src.sub } ∧ RegsBut [] s t) ∧
    ((s.at src).keyPhase src.path = 0 ∧ value.toNat ≠ 0xC5A1 ∨ (s.at src).keyPhase src.path = 1 ∧ value.toNat ≠ 0x3A5E ∨
      (s.at src).keyPhase src.path = 2 →
      Runs (.safKey src value) s fun t => (t.key! src.path).ph = 0 ∧ t.gb F.SAF_STKY_KEYERR = true)) ∧
  (∀ p s, s.here.keyPhase p = 0 → Runs (.keyWindowLapse p) s fun t => (t.key! p).ph = 0 ∧ RegsBut [] s t) ∧
  (∀ p s, s.here.keyPhase p ≠ 0 → Runs (.keyWindowLapse p) s fun t => t = s) ∧
  (∀ src c s, s.reaches 0x10000 = true → (s.at src).keyPhase src.path ≠ 2 →
    (∃ v axes pairs conn, c = .keyedWrite src 0x10000 v ∨ c = .apply src ∨ c = .safCfgDiscard src ∨ c = .axisAck src axes ∨
      c = .devAck src ∨ c = .discAck src pairs ∨ c = .connAck src conn) →
    Runs c s fun t =>
      t.gb F.SAF_STKY_KEYERR = true ∧ t.keys = s.keys ∧ t.appWait = s.appWait ∧ t.latA = s.latA ∧ t.latB = s.latB ∧
      t.axA = s.axA ∧ t.axB = s.axB ∧ t.g F.SAF_DFAULT_LATCHED = s.g F.SAF_DFAULT_LATCHED) ∧
  (∀ src (value : BitVec 32) s, s.reaches 0x10000 = true → (s.at src).keyPhase src.path = 2 →
    Runs (.keyedWrite src 0x10000 value) s fun t =>
      (t.key! src.path).ph = 0 ∧ t.g F.SAF_CTRL_TRKREQ = bitsOf value.toNat 0 1 ∧
      t.g F.SAF_CTRL_XTOL = bitsOf value.toNat 16 8 ∧ t.actA = s.actA ∧ t.actB = s.actB) ∧
  (∀ src s u, s.reaches 0x10000 = true → (s.at src).keyPhase src.path = 2 → u = (s.at src).setKey src.path 0 →
    (s.imageBad = false → imageCrc s.pendImage = s.g F.SAF_CFGCRC_CRC → s.axesAtRest = true →
      Runs (.apply src) s fun t =>
        t.g F.SAF_CFGRES_RES = 0 ∧ t.gb F.SAF_CFGRES_BUSY = true ∧ t.appWait = some s.pendImage ∧ (t.key! src.path).ph = 0) ∧
    (s.imageBad = true →
      Runs (.apply src) s fun t =>
        t.g F.SAF_CFGRES_RES = 3 ∧ t.gb F.SAF_STKY_CFG_REF = true ∧ t.appWait = s.appWait ∧ (t.key! src.path).ph = 0) ∧
    (s.imageBad = false → imageCrc s.pendImage = s.g F.SAF_CFGCRC_CRC → s.axesAtRest = false →
      Runs (.apply src) s fun t =>
        t.g F.SAF_CFGRES_RES = 1 ∧ t.gb F.SAF_STKY_CFG_REF = true ∧ t.appWait = s.appWait ∧ (t.key! src.path).ph = 0) ∧
    (s.imageBad = false → imageCrc s.pendImage ≠ s.g F.SAF_CFGCRC_CRC →
      Runs (.apply src) s fun t =>
        t.g F.SAF_CFGRES_RES = 2 ∧ t.gb F.SAF_STKY_CFG_REF = true ∧ t.appWait = s.appWait ∧ (t.key! src.path).ph = 0) ∧
    (SMap.wf 0 s.fields = true → SMap.wf 0 s.actA = true →
      Runs (.safCfgDiscard src) s fun t =>
        (t.key! src.path).ph = 0 ∧
        ∀ (f : Fld) n, t.g f n = if inImage (keyBase (f.key n)) then s.ga false f n else s.g f n) ∧
    (∀ axes : BitVec 8,
      Runs (.axisAck src axes) s fun t =>
        t = (u.smEval false (fun a => bitOf axes.toNat a) axes.toNat).smEval true (fun a => bitOf axes.toNat a) axes.toNat) ∧
    (Runs (.devAck src) s fun t => ∃ w,
      (∀ c : Fin 8, bitOf (w.g F.SAF_DFAULT_LATCHED) c =
        (bitOf (s.g F.SAF_DFAULT_LATCHED) c && (bitOf (s.g F.SAF_DFAULT_LIVE) c || !(decide (c = 0 ∨ c = 2 ∨ c = 3))))) ∧
      w.gb F.SAF_STAT_DEVF = decide (w.g F.SAF_DFAULT_LATCHED ≠ 0) ∧ w.ftLat = s.protAny ∧
      RegsBut [(F.SAF_DFAULT_LATCHED, 0), (F.SAF_STAT_DEVF, 0)] s w ∧ t = w.ftrip.smBoth) ∧
    (∀ pairs : BitVec 8,
      Runs (.discAck src pairs) s fun t => ∃ w,
        (∀ x : Fin 8, bitOf w.latA x = (bitOf s.latA x && !(pairs.getLsbD x && s.siRun false 0 x == s.siRun false 1 x &&
          s.siRun true 0 x == s.siRun true 1 x))) ∧
        RegsBut [(F.SAF_SI_DISC, 0)] s w ∧ t = w.smBoth) ∧
    (∀ conn : BitVec 8,
      Runs (.connAck src conn) s fun t =>
        t.g F.SAFC_STAT_STATE conn.toNat =
          (if s.g F.SAFC_STAT_STATE conn.toNat = 4 then 1 else s.g F.SAFC_STAT_STATE conn.toNat) ∧
        (t.key! src.path).ph = 0 ∧ RegsBut [(F.SAFC_STAT_STATE, conn.toNat)] s t))

/-- A sending host or axis-status connection whose scheduled generation is due, or a sending host
connection that SEND names, generates a PDU with the next sequence number, once per scheduled instant; one that does
not send, is not due, or is muted by the host heartbeat generates none. A waiting PDU at the age limit is dropped with
TXD, a younger one stays. A copy whose pair does not come in t_pair is dropped where the connection has delivered
nothing yet or has no t_single, else it is delivered in SINGLE. A connection in SINGLE for t_single goes to FAULT with
error 6, one without delivery for TMO with error 5. Before their instants these rows do nothing. Rests on: R349, R350,
R353, R354. -/
def Obligations.SafeConnections : Prop :=
  (∀ (c : Fin 256) s per, per = s.ga false F.SAFC_TIM_PER c → s.genDue per = true → s.sends c = true →
    (s.ga false F.SAFC_CFG_SRC c = 0 ∧ s.hostMute = false) ∨ s.ga false F.SAFC_CFG_SRC c = 2 →
    (s.conn! c).gen ≠ some (s.genAt per) →
    Runs (.pduGenerate c) s fun t =>
      (t.conn! c).gen = some (s.genAt per) ∧ t.g F.SAFC_STAT_SEQ c = (s.g F.SAFC_STAT_SEQ c + 1) % 65536) ∧
  (∀ (c : Fin 256) s, s.sends c = false ∨ s.genDue (s.ga false F.SAFC_TIM_PER c) = false ∨
      (s.conn! c).gen = some (s.genAt (s.ga false F.SAFC_TIM_PER c)) ∨ (s.ga false F.SAFC_CFG_SRC c = 0 ∧ s.hostMute = true) →
    Runs (.pduGenerate c) s fun t => t = s) ∧
  (∀ src s c, s.reaches 0x10000 = true → c = s.g F.SAF_CSEL_CONN → s.sends c = true → s.ga false F.SAFC_CFG_SRC c = 0 →
    s.hostMute = false →
    Runs (.send src) s fun t => t.g F.SAFC_STAT_SEQ c = (s.g F.SAFC_STAT_SEQ c + 1) % 65536) ∧
  (∀ src s, s.sends (s.g F.SAF_CSEL_CONN) = false ∨ s.ga false F.SAFC_CFG_SRC (s.g F.SAF_CSEL_CONN) ≠ 0 ∨ s.hostMute = true →
    Runs (.send src) s fun t => t.conns = s.conns ∧ RegsBut [] s t) ∧
  (∀ (c : Fin 256) (ctrl : Fin 2) s b g, (s.conn! c).next.getD ctrl none = some (b, g) → (s.conn! c).sent.getD ctrl none = none →
    Runs (.pduAgeExpiry c ctrl) s fun t =>
      if tdiff (tadd g (s.ga false F.SAFC_TIM_AGE c * msU : Nat)) (tadd s.now sampleU) ≤ 0 then
        (t.conn! c).next.getD ctrl none = none ∧ t.g F.SAFC_STAT_LASTERR c = 7 ∧ t.gb F.SAF_CSTKY_TXD = true
      else t = s) ∧
  (∀ (c : Fin 256) (ctrl : Fin 2) s, (s.conn! c).next.getD ctrl none = none → (s.conn! c).sent.getD ctrl none = none →
    Runs (.pduAgeExpiry c ctrl) s fun t => t = s) ∧
  (∀ (c : Fin 256) s w l e, (s.conn! c).wait = w :: l → e = tadd w.at' (s.ga false F.SAFC_TIM_PAIR c * 6400000) →
    (tdiff e (tadd s.now sampleU) ≤ 0 → s.g F.SAFC_STAT_STATE c = 1 ∨ s.ga false F.SAFC_TIM_SINGLE c = 0 →
      Runs (.pairTimeout c) s fun t => (t.conn! c).wait = l ∧ RegsBut [] s t) ∧
    (tdiff e (tadd s.now sampleU) ≤ 0 → s.g F.SAFC_STAT_STATE c ≠ 1 → s.ga false F.SAFC_TIM_SINGLE c ≠ 0 →
      ({ s with t := e } : State).ageOk c w.bytes w.at' = true →
      Runs (.pairTimeout c) s fun t =>
        t.g F.SAFC_STAT_STATE c = 3 ∧ t.g F.SAFC_STAT_SEQ c = pduSeq w.bytes % 65536) ∧
    (0 < tdiff e (tadd s.now sampleU) → Runs (.pairTimeout c) s fun t => t = s)) ∧
  (∀ (c : Fin 256) s, (s.conn! c).wait = [] → Runs (.pairTimeout c) s fun t => t = s) ∧
  (∀ (c : Fin 256) s e, e = tadd (s.conn! c).single (s.ga false F.SAFC_TIM_SINGLE c * 10 * msU) →
    (s.g F.SAFC_STAT_STATE c = 3 → tdiff e (tadd s.now sampleU) ≤ 0 →
      Runs (.singleTimeout c) s fun t => t.g F.SAFC_STAT_STATE c = 4 ∧ t.g F.SAFC_STAT_LASTERR c = 6) ∧
    (s.g F.SAFC_STAT_STATE c ≠ 3 ∨ 0 < tdiff e (tadd s.now sampleU) → Runs (.singleTimeout c) s fun t => t = s)) ∧
  (∀ (c : Fin 256) s e, e = tadd (s.conn! c).last (s.ga false F.SAFC_TIM_PER c * msU) →
    (s.g F.SAFC_STAT_STATE c = 2 ∨ s.g F.SAFC_STAT_STATE c = 3 → tdiff e (tadd s.now sampleU) ≤ 0 →
      Runs (.connectionTimeout c) s fun t => t.g F.SAFC_STAT_STATE c = 4 ∧ t.g F.SAFC_STAT_LASTERR c = 5) ∧
    ((s.g F.SAFC_STAT_STATE c ≠ 2 ∧ s.g F.SAFC_STAT_STATE c ≠ 3) ∨ 0 < tdiff e (tadd s.now sampleU) →
      Runs (.connectionTimeout c) s fun t => t = s))

/-- A request that an object takes makes it pending with result 1 and ORES 0, another is refused
with TXREF and ORES 1. A cancel of a pending object ends its request with result 3, or marks the frame in
transmission; one of an object that is not pending, or safe, is refused with ORES 1. RESUME ends the suspension and
the count of collisions. A data word goes into an object that is neither pending, in transmission nor safe, else it is
refused with TXREF and RESULT 1; a header word goes into the staging set; the address advances. RECOVER starts the
recovery in BUS_OFF only; SLEEP asks for sleep outside CONFIG, BUS_OFF and SLEEP; WAKE ends SLEEP with bus integration
and its sticky bit; RINGCAN cancels the entries of the ring, of the one in transmission only what follows its frame. A
CAN descriptor at the head of a running ring becomes the candidate of its controller; one that is no CAN descriptor
completes with result 4; one of a ring being cancelled, and one that the mode forbids or that is a remote FD frame,
leaves no candidate; at a ring that does not run nothing happens. Rests on: R373, R375, R377, R379, R380, R388, R369. -/
def Obligations.CanRequestsAndObjects : Prop :=
  (∀ src (c : Fin 2) (k : Fin 128) s, s.reaches 0x12000 = true →
    (s.canTakes c k false = true →
      Runs (.txreq src c k) s fun t =>
        t.ostat c k bPend = true ∧ bitsOf (t.objW c k 4) 0 4 = 1 ∧ t.g F.CAN_ORES_RES c = 0 ∧
        (∀ a, (a < objAt c k 4 ∨ objAt c k 5 ≤ a) → t.sramByte a = s.sramByte a) ∧ RegsBut [(F.CAN_ORES_RES, c)] s t) ∧
    (s.canTakes c k false = false →
      Runs (.txreq src c k) s fun t =>
        (∀ a, 0x100000 ≤ a → t.sramByte a = s.sramByte a) ∧ t.g F.CAN_ORES_RES c = 1 ∧ t.gb F.CAN_STKY_TXREF c = true)) ∧
  (∀ src (c : Fin 2) (k : Fin 128) s, s.reaches 0x12000 = true →
    (s.ostat c k bPend = false ∨ (s.safeConn k).isSome = true →
      Runs (.cancel src c k) s fun t => t.sram = s.sram ∧ t.g F.CAN_ORES_RES c = 1 ∧ RegsBut [(F.CAN_ORES_RES, c)] s t) ∧
    (s.ostat c k bPend = true → s.safeConn k = none → (s.can! c).tx = some k.val →
      Runs (.cancel src c k) s fun t =>
        t.ostat c k bCanreq = true ∧ t.ostat c k bPend = true ∧ t.g F.CAN_ORES_RES c = 0 ∧ RegsBut [(F.CAN_ORES_RES, c)] s t) ∧
    (s.ostat c k bPend = true → s.safeConn k = none → (s.can! c).tx ≠ some k.val →
      Runs (.cancel src c k) s fun t =>
        t.ostat c k bPend = false ∧ bitsOf (t.objW c k 4) 0 4 = 3 ∧ t.g F.CAN_ORES_RES c = 0 ∧
        RegsBut [(F.CAN_ORES_RES, c)] s t)) ∧
  (∀ src (c : Fin 2) (k : Fin 128) s, s.reaches 0x12000 = true → s.safeConn k = none →
    Runs (.resume src c k) s fun t =>
      t.ostat c k bSusp = false ∧ t.colln c k = 0 ∧ t.g F.CAN_ORES_RES c = 0 ∧ RegsBut [(F.CAN_ORES_RES, c)] s t) ∧
  (∀ src (c : Fin 2) (k : Fin 128) s, s.reaches 0x12000 = true → (s.safeConn k).isSome = true →
    Runs (.resume src c k) s fun t => t.ostat c k bSusp = false ∧ t.colln c k = 0 ∧ t.g F.CAN_ORES_RES c = 0) ∧
  (∀ src (c : Fin 2) (value : BitVec 32) s w k, s.reaches 0x12000 = true → w = s.g F.CAN_OWADDR_WORD c → k = w / 32 →
    (16 ≤ w % 32 → s.ostat c k bPend = false → (s.can! c).tx ≠ some k → s.safeConn k = none →
      Runs (.objectWrite src c value) s fun t =>
        t.objW c k (w % 32) = value.toNat ∧ t.g F.CAN_OWADDR_RESULT c = 0 ∧ t.g F.CAN_OWADDR_WORD c = (w + 1) % 4096) ∧
    (16 ≤ w % 32 → s.ostat c k bPend = true ∨ (s.can! c).tx = some k ∨ (s.safeConn k).isSome = true →
      Runs (.objectWrite src c value) s fun t =>
        (∀ a, 0x100000 ≤ a → t.sramByte a = s.sramByte a) ∧ t.g F.CAN_OWADDR_RESULT c = 1 ∧ t.gb F.CAN_STKY_TXREF c = true ∧
        t.g F.CAN_OWADDR_WORD c = (w + 1) % 4096) ∧
    (w % 32 < 4 → s.mayStage src.path = true → s.inSet (.sram (objAt c k (w % 32))) = false → s.staged.length < 2048 →
      Runs (.objectWrite src c value) s fun t =>
        t.staged = s.staged ++ [{ tgt := .sram (objAt c k (w % 32)), value := value.toNat, did := none }] ∧ t.sram = s.sram ∧
        t.g F.CAN_OWADDR_WORD c = (w + 1) % 4096)) ∧
  (∀ src (c : Fin 2) s, s.reaches 0x12000 = true →
    (Runs (.recover src c) s fun t => (t.can! c).recov = ((s.can! c).recov || decide (s.cst c = cBusOff)) ∧ RegsBut [] s t) ∧
    (Runs (.sleep src c) s fun t =>
      (t.can! c).slept = true ∧
      (t.can! c).toSleep = ((s.can! c).toSleep || decide ((s.can! c).mode ≠ 0 ∧ s.cst c ≠ cConfig ∧ s.cst c ≠ cBusOff ∧
        s.cst c ≠ cSleep)) ∧ RegsBut [] s t) ∧
    (s.cst c ≠ cSleep → Runs (.wake src c) s fun t => (t.can! c).slept = false ∧ RegsBut [] s t) ∧
    (s.cst c = cSleep → Runs (.wake src c) s fun t => ∃ u : State,
      u.cst c = cIntegrating ∧ u.gb F.CAN_STKY_WAKE c = true ∧ (u.can! c).slept = false ∧
      t = (((u.canModeCheck c).updCan c fun d => { d with slept := false }).showWake)) ∧
    (s.canRing c = none → Runs (.ringcan src c) s fun t => t.can = s.can ∧ RegsBut [] s t) ∧
    (∀ r, s.canRing c = some r → (s.can! c).tx = some 128 →
      Runs (.ringcan src c) s fun t =>
        (t.can! c).purge = s.avail r - 1 ∧ (t.can! c).purgeRes = 3 ∧
        (t.can! c).entry = ((s.can! c).entry.map fun e => { e with cancel := true }) ∧ RegsBut [] s t) ∧
    (∀ r, s.canRing c = some r → (s.can! c).tx ≠ some 128 →
      Runs (.ringcan src c) s fun t => (t.can! c).entry = none ∧ (t.can! c).purgeRes = 3)) ∧
  (∀ (d : Desc) (op : BitVec 8) (f : CanFrame) s c, s.ringRuns d.ring = true → s.g F.HIF_RING_CFG_CLASS d.ring = c + 1 → c < 2 →
    (s.can! c).entry = none → s.host.hbExp = false ∨ bitOf (s.g F.HIF_HBCFG_ACT) 0 = false → op.toNat = 0xC0 → (s.can! c).purge = 0 → s.mayTx c = true →
    (bitOf f.hdr0.toNat 30 = false ∨ bitOf f.hdr0.toNat 31 = false) →
    Runs (.cantxDescriptor d op f) s fun t =>
      (∃ e, (t.can! c).entry = some e ∧ e.ring = d.ring.val ∧ e.tag = d.tag.toNat ∧ e.hdr0 = f.hdr0.toNat ∧ e.cancel = false ∧
        e.data = padTo (if bitOf f.hdr0.toNat 30 then 0 else dlcLen (bitOf f.hdr0.toNat 31) (f.hdr1.toNat % 16)) f.data) ∧
      RegsBut [] s t) ∧
  (∀ (d : Desc) (op : BitVec 8) (f : CanFrame) s c, s.ringRuns d.ring = true → s.g F.HIF_RING_CFG_CLASS d.ring = c + 1 → c < 2 →
    (s.can! c).entry = none → s.host.hbExp = false ∨ bitOf (s.g F.HIF_HBCFG_ACT) 0 = false →
    (op.toNat ≠ 0xC0 → Runs (.cantxDescriptor d op f) s fun t => Completes d op.toNat 4 0 s.here t) ∧
    (op.toNat = 0xC0 → 0 < (s.can! c).purge → Runs (.cantxDescriptor d op f) s fun t =>
      (t.can! c).entry = none ∧ (t.can! c).purge = (s.can! c).purge - 1) ∧
    (op.toNat = 0xC0 → (s.can! c).purge = 0 → s.mayTx c = false ∨ (bitOf f.hdr0.toNat 30 = true ∧ bitOf f.hdr0.toNat 31 = true) →
      Runs (.cantxDescriptor d op f) s fun t => (t.can! c).entry = none)) ∧
  (∀ (d : Desc) op f s, s.ringRuns d.ring = false → Runs (.cantxDescriptor d op f) s fun t => t.can = s.can ∧ RegsBut [] s t)

/-- A selection on the bus offers the candidate with the lowest key; a filled object takes its data from
its source where that is FRESH, and completes with result 7 where it is not. A sent frame counts in its object with
its start of frame and ends the request with result 2, or 4 after a cancel; a sent ring entry is no candidate any
more. An error of a receiver counts 1 or 8, one of a transmitter 8 unless exempt, and shows its code; after it, as
after a lost arbitration, the request stays pending where it is neither cancelled, one shot nor collided. A received
frame goes to the objects, the host and the safe connections; a stored one sets NEW and counts. A protocol exception
sets PXE and waits for bus integration with PXE = 1, and is a form error with 0. The end of recovery clears the
counters and enters ERROR_ACTIVE with RECOV; the end of integration enters the state that the counters give; a
controller asked to sleep, with no frame in transmission, enters SLEEP; a dominant pulse longer than t_wake, or the
wake frame, ends SLEEP with bus integration and WAKE. Outside these states the rows do nothing. Rests on: R368, R369,
R371, R376, R378, R383, R388, R389. -/
def Obligations.CanBusEvents : Prop :=
  (∀ (c : Fin 2) s k key, s.onBus c = true → s.mayTx c = true → (s.can! c).tx = none → (s.can! c).toSleep = false →
    lowest (s.canCands c) = some (k, key) →
    (k = 128 ∨ (k < 128 ∧ s.objBad c k = false ∧ (if (s.here.safeConn k).isSome then none else s.here.objFill c k) = none)) →
    Runs (.canSelection c) s fun t =>
      (t.can! c).tx = some k ∧ (t.can! c).sof = s.now ∧ t.gb F.CAN_STAT_TXACT c = true ∧ (k < 128 → t.ostat c k bTxact = true)) ∧
  (∀ (c : Fin 2) s k key bs fr, s.onBus c = true → s.mayTx c = true → (s.can! c).tx = none → (s.can! c).toSleep = false →
    lowest (s.canCands c) = some (k, key) → k < 128 → s.objBad c k = false → s.safeConn k = none →
    s.here.objFill c k = some (bs, fr) →
    Runs (.canSelection c) s fun t =>
      if fr then
        (t.can! c).tx = some k ∧ t.ostat c k bTxact = true ∧
        (t.can! c).txData = (padTo 64 (padTo (dlcLen (bitOf (s.objHdr c k).1 31) ((s.objHdr c k).2 % 16)) bs)).take
          (dlcLen (bitOf (s.objHdr c k).1 31) ((s.objHdr c k).2 % 16))
      else (t.can! c).tx = none ∧ t.ostat c k bPend = false ∧ bitsOf (t.objW c k 4) 0 4 = 7 ∧ t.gb F.CAN_STKY_SKIP c = true) ∧
  (∀ (c : Fin 2) s, s.onBus c = false ∨ s.mayTx c = false ∨ (s.can! c).tx ≠ none ∨ lowest (s.canCands c) = none →
    Runs (.canSelection c) s fun t => t.can = s.can ∧ t.sram = s.sram ∧ RegsBut [] s t) ∧
  (∀ (c : Fin 2) delay s k w, (s.can! c).tx = some k → k < 128 → s.safeConn k = none →
    w = s.here.countBy c (fun d => { d with tec := d.tec - 1 }) →
    Runs (.canFrameSent c delay) s fun t => ∃ u : State,
      u.objW c k 7 = (w.objW c k 7 + 1) % 2 ^ 32 ∧ u.objW c k 5 = ts32 (s.can! c).sof % 2 ^ 32 ∧ u.ostat c k bPend = false ∧
      bitsOf (u.objW c k 4) 0 4 = (if w.ostat c k bCanreq then 4 else 2) ∧ t = u.canFrameEnd c) ∧
  (∀ (c : Fin 2) delay s e, (s.can! c).tx = some 128 → (s.can! c).entry = some e →
    Runs (.canFrameSent c delay) s fun t => ∃ u : State, (u.can! c).entry = none ∧ t = u.canFrameEnd c) ∧
  (∀ (c : Fin 2) delay s, (s.can! c).tx = none →
    Runs (.canFrameSent c delay) s fun t => t.can = s.can ∧ RegsBut [] s t) ∧
  (∀ (c : Fin 2) (err : CanErrIn) s d, s.onBus c = true → s.can! c = d → d.tx = none → d.late = [] → err.kind ≠ .arbitrationLost →
    s.counts c = true → s.canMode c = 1 →
    Runs (.canError c err) s fun t => ∃ u : State,
      u.g F.CAN_STAT_LEC c = lecCode err.kind ∧ (u.can! c).rec' = d.rec' + (if err.heavy then 8 else 1) ∧
      (u.can! c).tec = d.tec ∧ t = (u.canCounters c d.tec d.rec').canModeCheck c) ∧
  (∀ (c : Fin 2) (err : CanErrIn) s d k, s.onBus c = true → s.can! c = d → d.tx = some k → k < 128 → d.late = [] →
    s.ostat c k bPend = true → s.ostat c k bCanreq = false → bitOf (s.objW c k 0) 5 = false →
    (err.kind = .arbitrationLost →
      Runs (.canError c err) s fun t => ∃ u : State,
        (u.can! c).tx = none ∧ (u.can! c).tec = d.tec ∧ u.ostat c k bPend = true ∧ u.ostat c k bTxact = false ∧
        t = u.canModeCheck c) ∧
    (err.kind ≠ .arbitrationLost → err.late = false → s.counts c = true →
      Runs (.canError c err) s fun t => ∃ u : State,
        u.g F.CAN_STAT_LEC c = lecCode err.kind ∧ (u.can! c).tx = none ∧ (u.can! c).rec' = d.rec' ∧
        (u.can! c).tec = (if err.exempt then d.tec else d.tec + 8) ∧ u.ostat c k bPend = true ∧
        t = (u.canCounters c d.tec d.rec').canModeCheck c)) ∧
  (∀ (c : Fin 2) err s, s.onBus c = false → Runs (.canError c err) s fun t => t.can = s.can ∧ RegsBut [] s t) ∧
  (∀ (c : Fin 2) f s, s.receives c = true →
    Runs (.canFrameReceived c f) s fun t => t = (s.here.canRx c f).safeRx c f) ∧
  (∀ (c : Fin 2) f s, s.receives c = false → Runs (.canFrameReceived c f) s fun t => t = s) ∧
  (∀ (s : State) (c : Fin 2) (k : Fin 128) (f : CanFrame) sof,
    (s.canStore c k f sof).ostat c k bNew = true ∧ (s.canStore c k f sof).objW c k 5 = ts32 sof % 2 ^ 32 ∧
    (s.canStore c k f sof).objW c k 7 = (s.objW c k 7 + 1) % 2 ^ 32) ∧
  (∀ (c : Fin 2) s, s.receives c = true → (s.can! c).tx = none → s.gb F.CAN_CFG_PXE c = true →
    Runs (.protocolException c) s fun t => t.cst c = cIntegrating ∧ t.gb F.CAN_STKY_PXE c = true) ∧
  (∀ (c : Fin 2) s, s.receives c = true → (s.can! c).tx = none → s.gb F.CAN_CFG_PXE c = false →
    Runs (.protocolException c) s fun t =>
      exec (.canError c { kind := .form, late := false, exempt := false, heavy := false }) s = .next t) ∧
  (∀ (c : Fin 2) s, s.receives c = false ∨ (s.can! c).tx ≠ none → Runs (.protocolException c) s fun t => t = s) ∧
  (∀ (c : Fin 2) s, s.cst c = cBusOff → (s.can! c).recov = true →
    Runs (.recoveryEnd c) s fun t => ∃ u : State,
      u.cst c = cActive ∧ (u.can! c).tec = 0 ∧ (u.can! c).rec' = 0 ∧ (u.can! c).recov = false ∧
      u.gb F.CAN_STKY_RECOV c = true ∧ t = u.canModeCheck c) ∧
  (∀ (c : Fin 2) s, s.cst c ≠ cBusOff ∨ (s.can! c).recov = false → Runs (.recoveryEnd c) s fun t => t = s) ∧
  (∀ (c : Fin 2) s, s.cst c = cIntegrating → (s.can! c).tec ≤ 255 →
    Runs (.integrationEnd c) s fun t =>
      t.cst c = (if 128 ≤ (s.can! c).tec ∨ 128 ≤ (s.can! c).rec' then cPassive else cActive)) ∧
  (∀ (c : Fin 2) s, s.cst c ≠ cIntegrating → Runs (.integrationEnd c) s fun t => t = s) ∧
  (∀ (c : Fin 2) s, (s.can! c).toSleep = true → (s.can! c).tx = none →
    Runs (.sleepEntry c) s fun t => ∃ u : State,
      u.cst c = cSleep ∧ (u.can! c).toSleep = false ∧ RegsBut [(F.CAN_STAT_STATE, c)] s u ∧
      t = (((u.objPurge c 8).ringPurge c 8).showCan c).showWake) ∧
  (∀ (c : Fin 2) s, (s.can! c).toSleep = false ∨ (s.can! c).tx ≠ none → Runs (.sleepEntry c) s fun t => t = s) ∧
  (∀ (c : Fin 2) ns taken s, s.gb F.CAN_WCFG_WMODE c = false → s.cst c = cSleep → 100 * s.g F.CAN_WCFG_TWAKE c < ns →
    Runs (.wakePulse ⟨c, ns, taken⟩) s fun t => ∃ u : State,
      u.cst c = cIntegrating ∧ (u.can! c).slept = false ∧ u.gb F.CAN_STKY_WAKE c = true ∧ t = (u.canModeCheck c).showWake) ∧
  (∀ (c : Fin 2) ns taken s, s.gb F.CAN_WCFG_WMODE c = true ∨ ns + 100 < 100 * s.g F.CAN_WCFG_TWAKE c →
    Runs (.wakePulse ⟨c, ns, taken⟩) s fun t => t = s) ∧
  (∀ (c : Fin 2) ns taken s, s.cst c ≠ cSleep → Runs (.wakePulse ⟨c, ns, taken⟩) s fun t => t.can = s.can ∧ RegsBut [] s t) ∧
  (∀ (c : Fin 2) f s, s.cst c = cSleep → s.gb F.CAN_WCFG_WMODE c = true → s.wakeMatch c f = true →
    Runs (.wakeFrame c f) s fun t => ∃ u : State,
      u.cst c = cIntegrating ∧ (u.can! c).slept = false ∧ u.gb F.CAN_STKY_WAKE c = true ∧ t = (u.canModeCheck c).showWake) ∧
  (∀ (c : Fin 2) f s, s.cst c ≠ cSleep ∨ s.gb F.CAN_WCFG_WMODE c = false ∨ s.wakeMatch c f = false → Runs (.wakeFrame c f) s fun t => t = s)

/-- A descriptor acts where its ring runs, is of class COMMAND and has no fence; elsewhere
nothing but the time of the access changes. Completes says that the ring passes it and that its completion, where it
asked for one, carries the opcode and the result: 0 done, 2 refused, 3 the set is full, 4 bad. A REGWR of no pair, of
more than three or with an offset outside BAR0 gives 4; of one staged register it enters the set or is refused. A
REGRD outside BAR0 gives 4, of a register of no snapshot group its word. An accepted SRAMWR or SRAMWRB enters all of
its words and completes later; a bad one enters none. An accepted COMMIT closes the set and completes later; DISCARD
empties it; a fence holds while a commit is under way and is released when none is and nothing of its ring waits. An
ASHRD of 32 bytes writes one record. A deferred completion whose result is there is written. Rests on: R38, R39, R401,
R402, R403, R410. -/
def Obligations.DescriptorsOfTheCommandRings : Prop :=
  (∀ (d : Desc) (s : State), s.ringRuns d.ring = false ∨ s.g F.HIF_RING_CFG_CLASS d.ring ≠ 0 ∨ s.host.fences.contains d.ring.val = true →
    (Runs (.nop d) s fun t => t = s.here) ∧ (∀ ps, Runs (.regwr d ps) s fun t => t = s.here) ∧
    (∀ a, Runs (.regrd d a) s fun t => t = s.here) ∧ (∀ a ws, Runs (.sramwr d a ws) s fun t => t = s.here) ∧
    (∀ a ws, Runs (.sramwrb d a ws) s fun t => t = s.here) ∧ (Runs (.opCommit d) s fun t => t = s.here) ∧
    (Runs (.opDiscard d) s fun t => t = s.here) ∧ (Runs (.fence d) s fun t => t = s.here) ∧
    (∀ a n, Runs (.ashrd d a n) s fun t => t = s.here) ∧ (∀ op, Runs (.badDescriptor d op) s fun t => t = s.here)) ∧
  (∀ (d : Desc) (s : State), s.here.cmdRuns d.ring = true → (Runs (.nop d) s fun t => Completes d 0 0 0 s.here t) ∧
    (∀ op, Runs (.badDescriptor d op) s fun t => Completes d op.toNat 4 0 s.here t) ∧
    (∀ ps, (ps = [] ∨ 3 < ps.length ∨ ∃ q ∈ ps, q.addr % 4 ≠ 0 ∨ 0x40000 ≤ q.addr) →
      Runs (.regwr d ps) s fun t => Completes d 1 4 0 s.here t) ∧
    (∀ a, a % 4 ≠ 0 ∨ 0x40000 ≤ a → Runs (.regrd d a) s fun t => Completes d 2 4 0 s.here t) ∧
    (∀ a, a % 4 = 0 → a < 0x40000 → s.reaches a = false → Runs (.regrd d a) s fun t => Completes d 2 0 0 s.here t) ∧
    (∀ a, a % 4 = 0 → a < 0x40000 → s.reaches a = true → snapOf a = none →
      Runs (.regrd d a) s fun t => Completes d 2 0 (s.here.viewWord a) s.here t) ∧
    (∀ a ws, (ws = [] ∨ 4 < ws.length ∨ a % 4 ≠ 0 ∨ a < 0x100000 ∨ 0x128000 < a + 4 * ws.length) →
      Runs (.sramwr d a ws) s fun t => Completes d 3 4 0 s.here t) ∧
    (∀ a ws, (ws = [] ∨ 1024 < ws.length ∨ a % 4 ≠ 0 ∨ a < 0x100000 ∨ 0x128000 < a + 4 * ws.length) →
      Runs (.sramwrb d a ws) s fun t => Completes d 4 4 0 s.here t) ∧
    (∀ a n, (a % 32 ≠ 0 ∨ n % 32 ≠ 0 ∨ n = 0 ∨ 0x100000 < a + n) →
      Runs (.ashrd d a n) s fun t => Completes d 8 4 0 s.here t)) ∧
  (∀ (d : Desc) q (s : State), s.here.cmdRuns d.ring = true → q.addr % 4 = 0 → q.addr < 0x40000 → s.reaches q.addr = true →
    isStaged q.addr = true → (findReg q.addr).isSome = true → (s.writeTarget q.addr).isSome = true → s.inSet (.reg q.addr) = false →
    (s.mayStage (.ring d.ring) = true → s.staged.length < 2048 → Runs (.regwr d [q]) s fun t => ∃ u : State,
      u.staged = s.staged ++ [{ tgt := .reg q.addr, value := q.value.toNat, did := none }] ∧ Completes d 1 0 0 u t) ∧
    (s.mayStage (.ring d.ring) = false → Runs (.regwr d [q]) s fun t => ∃ u : State,
      u.staged = s.staged ∧ u.g F.GLB_CSTAT_REFUSED = 1 ∧ Completes d 1 2 4 u t) ∧
    (s.mayStage (.ring d.ring) = true → 2048 ≤ s.staged.length → Runs (.regwr d [q]) s fun t => ∃ u : State,
      u.staged = s.staged ∧ u.g F.GLB_CSTAT_STAGE_OVF = 1 ∧ Completes d 1 3 4 u t)) ∧
  (∀ (d : Desc) a (ws : List Word) (s : State), s.here.cmdRuns d.ring = true → ws ≠ [] → a % 4 = 0 → 0x100000 ≤ a →
    a + 4 * ws.length ≤ 0x128000 → s.mayStage (.ring d.ring) = true →
    (∀ i, i < ws.length → s.inSet (.sram (a + 4 * i)) = false) → s.staged.length + ws.length ≤ 2048 →
    (ws.length ≤ 4 → Runs (.sramwr d a ws) s fun t =>
      t.staged = s.staged ++ (List.range ws.length).map (fun i =>
        { tgt := .sram (a + 4 * i), value := (ws.getD i 0#32).toNat, did := if d.cmpl then some s.host.nextDid else none }) ∧
      t.sram = s.sram ∧ t.host.nextDid = s.host.nextDid + 1 ∧ t.host.deferred.length = s.host.deferred.length + b2n d.cmpl) ∧
    (ws.length ≤ 1024 → Runs (.sramwrb d a ws) s fun t =>
      t.staged = s.staged ++ (List.range ws.length).map (fun i =>
        { tgt := .sram (a + 4 * i), value := (ws.getD i 0#32).toNat, did := if d.cmpl then some s.host.nextDid else none }) ∧
      t.sram = s.sram ∧ t.host.nextDid = s.host.nextDid + 1 ∧ t.host.deferred.length = s.host.deferred.length + b2n d.cmpl)) ∧
  (∀ (d : Desc) a (ws : List Word) (s : State), s.here.cmdRuns d.ring = true → ws ≠ [] → a % 4 = 0 → 0x100000 ≤ a →
    a + 4 * ws.length ≤ 0x128000 → s.mayStage (.ring d.ring) = false →
    (ws.length ≤ 4 → Runs (.sramwr d a ws) s fun t => ∃ u : State,
      u.staged = s.staged ∧ u.g F.GLB_CSTAT_REFUSED = 1 ∧ Completes d 3 2 0 u t) ∧
    (ws.length ≤ 1024 → Runs (.sramwrb d a ws) s fun t => ∃ u : State,
      u.staged = s.staged ∧ u.g F.GLB_CSTAT_REFUSED = 1 ∧ Completes d 4 2 0 u t)) ∧
  (∀ (d : Desc) (s : State), s.here.cmdRuns d.ring = true →
    (s.gb F.GLB_CSTAT_BUSY = false → s.mayCommit (.ring d.ring) = true → s.overflow = false →
      s.poisonIn 0x128000 0x130000 = false → tooBig s.groups = false → Runs (.opCommit d) s fun t =>
        t.commit = some { at' := s.now, groups := s.groups, first := none } ∧ t.staged = [] ∧ t.gb F.GLB_CSTAT_BUSY = true) ∧
    (s.gb F.GLB_CSTAT_BUSY = true ∨ s.mayCommit (.ring d.ring) = false ∨ s.overflow = true → Runs (.opCommit d) s fun t => ∃ u : State,
        u.commit = s.commit ∧ u.staged = s.staged ∧ u.g F.GLB_CSTAT_REFUSED = 1 ∧ Completes d 5 2 (u.regWord 0xC) u t) ∧
    (s.mayCommit (.ring d.ring) = true → Runs (.opDiscard d) s fun t => ∃ u : State,
        u.staged = [] ∧ u.commit = s.commit ∧ Completes d 6 0 0 u t) ∧
    (s.mayCommit (.ring d.ring) = false → Runs (.opDiscard d) s fun t => ∃ u : State,
        u.staged = s.staged ∧ u.g F.GLB_CSTAT_REFUSED = 1 ∧ Completes d 6 2 0 u t) ∧
    (s.gb F.GLB_CSTAT_BUSY = true → Runs (.fence d) s fun t => t.host.fences = d.ring.val :: s.host.fences ∧ RegsBut [] s t) ∧
    (s.gb F.GLB_CSTAT_BUSY = false → (s.host.deferred.any fun x => decide (x.ring = d.ring.val)) = false →
      (s.host.owed.any fun o => decide (o.1 = d.ring.val)) = false → Runs (.fence d) s fun t => ∃ u : State,
        u.host.deferred = s.host.deferred ∧ u.host.fences = s.host.fences ∧ Completes d 7 0 0 u t)) ∧
  (∀ (r : Fin 8) (s : State) x, (s.host.deferred.find? fun y => decide (y.ring = r.val) && decide (y.wait = .fence)) = some x →
    s.fenceFree r = true → Runs (.fenceRelease r) s fun t => ∃ u : State,
      u.host.deferred = s.host.deferred.erase x ∧ ¬ r.val ∈ u.host.fences ∧
      t = (u.consume1 r).complete r 7 x.cmpl 0 x.tag 0 []) ∧
  (∀ (r : Fin 8) (s : State), s.fenceFree r = false → Runs (.fenceRelease r) s fun t => t = s.here) ∧
  (∀ (d : Desc) a q (s : State), s.here.cmdRuns d.ring = true → a % 32 = 0 → a + 32 ≤ 0x100000 → q = s.g F.HIF_ROUTE1_ASH →
    s.d2h q = true → s.gb F.HIF_RING_STAT_STOP q = false → 3 ≤ s.freeUnits q → (s.host.owed.any fun o => decide (o.2.1 = q ∨ o.1 = d.ring.val)) = false →
    (∀ i, i < 4 → s.poisoned (a + 8 * i) = false) → Runs (.ashrd d a 32) s fun t => ∃ u : State,
      (∃ addr, Output.record q addr (padTo 48 (header 9 0 1 (s.g F.GLB_EPOCH_EPOCH) s.now ++ leBytes 4 a ++ leBytes 4 0 ++
        s.sramBytes a 32)) ∈ u.outbox) ∧ u.host.owed = s.host.owed ∧ Completes d 8 0 0 u t) ∧
  (∀ (r : Fin 8) (s : State) x v, (s.host.deferred.find? fun y => decide (y.ring = r.val) && (s.dueResult y).isSome) = some x →
    s.dueResult x = some v → Runs (.deferredCompletion r) s fun t =>
      t = (({ s with t := if x.wait = .ash then s.now else x.doneAt, host := { s.host with deferred := s.host.deferred.erase x } } : State).complete r x.op x.cmpl
        v.1 x.tag v.2 [])) ∧
  (∀ (r : Fin 8) (s : State), (s.host.deferred.any fun y => decide (y.ring = r.val) && (s.dueResult y).isSome) = false →
    Runs (.deferredCompletion r) s fun t => t = s) ∧
  (∀ (s : State) r, s.g F.HIF_RING_CFG_SIZE r ≤ 16 → (s.consume1 r).g F.HIF_RING_HEAD_HEAD r =
    (s.g F.HIF_RING_HEAD_HEAD r + 1) % 2 ^ s.g F.HIF_RING_CFG_SIZE r)

/-- A write of the CFG of an enabled ring with EN 0 disables it and drops its waiting records
and its fence, with EN 1 it is ignored; an enable sets EN with HEAD, TAIL, STOP and ERR 0, and a D2H ring then gets a
TIME record; of an H2D ring, class 3 and a second ring of a CAN class are refused with CFGBAD. A doorbell at or beyond
the ring size sets DBBAD and leaves TAIL; another becomes TAIL. A failed access stops an enabled ring with its code.
Rests on: R396, R397, R398, R399. -/
def Obligations.RingSetUpAndHostMemory : Prop :=
  (∀ src (r : Fin 32) value s, s.reaches 0x2000 = true → s.gb F.HIF_RING_CFG_EN r = true →
    (bitOf value.toNat 0 = false → Runs (.ringEnable src r value) s fun t =>
      t.gb F.HIF_RING_CFG_EN r = false ∧ (∀ o ∈ t.host.owed, o.2.1 ≠ r.val) ∧ ¬ r.val ∈ t.host.fences ∧ RegsBut [(F.HIF_RING_CFG_EN, r)] s t) ∧
    (bitOf value.toNat 0 = true → Runs (.ringEnable src r value) s fun t => t.host = s.host ∧ RegsBut [] s t)) ∧
  (∀ src (r : Fin 32) value s, s.reaches 0x2000 = true → s.gb F.HIF_RING_CFG_EN r = false →
    (bitOf value.toNat 0 = false → Runs (.ringEnable src r value) s fun t => t.gb F.HIF_RING_CFG_EN r = false ∧
      t.g F.HIF_RING_CFG_CLASS r = bitsOf value.toNat 6 2) ∧
    (bitOf value.toNat 0 = true → 8 ≤ r.val ∨ bitsOf value.toNat 6 2 = 0 → Runs (.ringEnable src r value) s fun t => ∃ u : State,
      u.gb F.HIF_RING_CFG_EN r = true ∧ u.g F.HIF_RING_HEAD_HEAD r = 0 ∧ u.g F.HIF_RING_DB_TAIL r = 0 ∧
      u.g F.HIF_RING_STAT_STOP r = 0 ∧ u.g F.HIF_RING_STAT_ERR r = 0 ∧
      u.g F.HIF_RING_CFG_SIZE r = (if 6 ≤ bitsOf value.toNat 1 5 ∧ bitsOf value.toNat 1 5 ≤ 16 then bitsOf value.toNat 1 5
        else s.g F.HIF_RING_CFG_SIZE r) ∧
      t = (if 8 ≤ r.val then u.record r (u.timeRec (tadd s.now src.sub)) else u)) ∧
    (bitOf value.toNat 0 = true → r.val < 8 → ∀ q : Fin 8, q.val ≠ r.val → s.gb F.HIF_RING_CFG_EN q = true →
      (bitsOf value.toNat 6 2 = 1 ∨ bitsOf value.toNat 6 2 = 2) → s.g F.HIF_RING_CFG_CLASS q = bitsOf value.toNat 6 2 →
      Runs (.ringEnable src r value) s fun t => t.gb F.HIF_RING_CFG_EN r = false ∧ t.gb F.HIF_STKY_CFGBAD = true) ∧
    (bitOf value.toNat 0 = true → bitsOf value.toNat 6 2 = 3 → r.val < 8 → Runs (.ringEnable src r value) s fun t =>
      t.gb F.HIF_RING_CFG_EN r = false ∧ t.gb F.HIF_STKY_CFGBAD = true)) ∧
  (∀ src (r : Fin 32) tail s, s.reaches 0x2000 = true →
    (tail.toNat % 65536 < s.ringSize r → Runs (.doorbell src r tail) s fun t =>
      t.g F.HIF_RING_DB_TAIL r = tail.toNat % 65536 ∧ (r.val < 8 → RegsBut [(F.HIF_RING_DB_TAIL, r)] s t)) ∧
    (s.ringSize r ≤ tail.toNat % 65536 → Runs (.doorbell src r tail) s fun t =>
      t.g F.HIF_RING_DB_TAIL r = s.g F.HIF_RING_DB_TAIL r ∧ t.gb F.HIF_STKY_DBBAD = true)) ∧
  (∀ (r : Fin 32) (err : Fin 3) s, s.gb F.HIF_RING_CFG_EN r = true →
    Runs (.hostMemoryAccessFailure r err) s fun t => t.gb F.HIF_RING_STAT_STOP r = true ∧
      t.g F.HIF_RING_STAT_ERR r = err.val + 1 ∧ t.gb F.HIF_STKY_DMAERR = true) ∧
  (∀ (r : Fin 32) (err : Fin 3) s, s.gb F.HIF_RING_CFG_EN r = false → Runs (.hostMemoryAccessFailure r err) s fun t => t = s)

/-- A TIME record goes to the D2H rings at each millisecond up to the coming sample, once; a
due vector sends its message, or sets its PBA bit while masked; an armed path restarts the heartbeat, a write of HBCFG
does too, and its expiry sets HBTO and, with ACT bit 0, acts on both CAN ports; a Link reset outside a warm reset sets
the registers of page 2 to their reset values, brings the link down, drops what the rings owe and empties a set of
BAR0 or of a ring; configuration requests act while the link is up; the link trains where it is released; PERST_N high
ends its hold. Rests on: R395, R409, R414, R416, R417. -/
def Obligations.EventDeliveryAndHostLink : Prop :=
  (∀ s, tdiff (s.gridAt msU) (tadd s.now sampleU) ≤ 0 → s.host.lastTime ≠ s.gridAt msU + 1 →
    Runs .timeRecord s fun t => ∃ u : State, u.t = s.gridAt msU ∧ u.host.lastTime = s.gridAt msU + 1 ∧ RegsBut [] s u ∧
      t = (u.each 24 fun v i => v.record (8 + i) (v.timeRec (s.gridAt msU))).ashTime (s.gridAt msU)) ∧
  (∀ s, 0 < tdiff (s.gridAt msU) (tadd s.now sampleU) ∨ s.host.lastTime = s.gridAt msU + 1 → Runs .timeRecord s fun t => t = s) ∧
  (∀ (v : Fin 32) s, s.msixDue v = true → s.host.msixEn = true →
    (s.host.msixMask = false → s.gb F.HIF_MTC_MASK v = false → s.master = true → Runs (.msixMessage v) s fun t =>
      t.outbox = .msix v (s.g F.HIF_MTAL_ADDR v + 2 ^ 32 * s.g F.HIF_MTAH_ADDR v) (s.g F.HIF_MTD_DATA v) :: s.outbox ∧
      (vget t.host.vecs v).causes = 0 ∧ bitOf (t.g F.HIF_PBA_PEND) v = false ∧ RegsBut [(F.HIF_PBA_PEND, 0)] s t) ∧
    (s.host.msixMask = true ∨ s.gb F.HIF_MTC_MASK v = true ∨ s.master = false → Runs (.msixMessage v) s fun t =>
      t.outbox = s.outbox ∧ t.host = s.host ∧ bitOf (t.g F.HIF_PBA_PEND) v = true ∧ RegsBut [(F.HIF_PBA_PEND, 0)] s t)) ∧
  (∀ (v : Fin 32) s, s.msixDue v = false ∨ s.host.msixEn = false → Runs (.msixMessage v) s fun t => t = s.here) ∧
  (∀ src s, s.reaches 0x2000 = true →
    ((if src.path = .spi then s.gb F.HIF_HBCFG_SPI else s.gb F.HIF_HBCFG_PCIE) = true → Runs (.heartbeat src) s fun t =>
      t.host = { s.host with hbRun := decide (s.g F.HIF_HBCFG_TMO ≠ 0), hbAt := tadd s.now src.sub, hbExp := false } ∧
      RegsBut [] s t) ∧
    ((if src.path = .spi then s.gb F.HIF_HBCFG_SPI else s.gb F.HIF_HBCFG_PCIE) = false →
      Runs (.heartbeat src) s fun t => t.host = s.host ∧ RegsBut [] s t)) ∧
  (∀ src value s, s.reaches 0x2000 = true → Runs (.hbcfgWrite src value) s fun t =>
    t.g F.HIF_HBCFG_TMO = value.toNat % 65536 ∧ t.g F.HIF_HBCFG_ACT = bitsOf value.toNat 16 2 ∧
    t.gb F.HIF_HBCFG_PCIE = bitOf value.toNat 18 ∧ t.gb F.HIF_HBCFG_SPI = bitOf value.toNat 19 ∧
    t.host.hbRun = decide (value.toNat % 65536 ≠ 0) ∧ t.host.hbAt = tadd s.now src.sub ∧
    t.host.hbExp = (s.host.hbExp && decide (value.toNat % 65536 ≠ 0)) ∧ RegsBut [(F.HIF_HBCFG_TMO, 0), (F.HIF_HBCFG_ACT, 0), (F.HIF_HBCFG_PCIE, 0), (F.HIF_HBCFG_SPI, 0)] s t) ∧
  (∀ s, s.host.hbRun = true → (s.g F.HIF_HBCFG_TMO * msU : Nat) ≤ tdiff s.now s.host.hbAt →
    Runs .hostHeartbeatExpiry s fun t => ∃ u : State, u.host.hbRun = false ∧ u.host.hbExp = true ∧ u.gb F.HIF_STKY_HBTO = true ∧
      t = (if bitOf (s.g F.HIF_HBCFG_ACT) 0 then (u.canRingcan 0).canRingcan 1 else u)) ∧
  (∀ s, s.host.hbRun = false ∨ tdiff s.now s.host.hbAt < (s.g F.HIF_HBCFG_TMO * msU : Nat) →
    Runs .hostHeartbeatExpiry s fun t => t = s) ∧
  (∀ s, s.rst.warm = false → Runs .linkReset s fun t =>
    (∀ (f : Fld) n, keyPage (f.key n) = 2 → t.g f n = f.rst n % 2 ^ f.width) ∧
    t.host.up = false ∧ t.host.deferred = [] ∧ t.host.owed = [] ∧ t.host.fences = [] ∧ t.host.hbRun = false ∧ t.commit = s.commit ∧
    (s.g F.GLB_CSTAT_OWNER = 1 ∨ s.g F.GLB_CSTAT_OWNER = 2 → t.staged = []) ∧
    (s.g F.GLB_CSTAT_OWNER ≠ 1 → s.g F.GLB_CSTAT_OWNER ≠ 2 → t.staged = s.staged)) ∧
  (∀ s, s.rst.warm = true → Runs .linkReset s fun t => t = s) ∧
  (∀ s, s.host.up = true →
    (∀ on, Runs (.configurationRequest (.busMaster on)) s fun t => t.gb F.HIF_STAT_BME = on ∧ RegsBut [(F.HIF_STAT_BME, 0)] s t) ∧
    (∀ d3, Runs (.configurationRequest (.power d3)) s fun t => t.gb F.HIF_STAT_D3 = d3 ∧ RegsBut [(F.HIF_STAT_D3, 0)] s t) ∧
    (∀ e m, Runs (.configurationRequest (.msix e m)) s fun t => t.host.msixEn = e ∧ t.host.msixMask = m ∧
      t.gb F.HIF_STAT_MSIX = (e && !m) ∧ RegsBut [(F.HIF_STAT_MSIX, 0)] s t) ∧
    (∀ k, Runs (.configurationRequest (.payload k)) s fun t => t.host.maxPayload = k.val ∧ RegsBut [] s t) ∧
    (∀ k, Runs (.configurationRequest (.readRequest k)) s fun t => t.host.maxRead = k.val ∧ RegsBut [] s t)) ∧
  (∀ c s, s.host.up = false → Runs (.configurationRequest c) s fun t => t = s) ∧
  (∀ (speed : Fin 4) (width : Fin 3) s, s.host.released = true → s.rst.perstN = true → s.rst.phyOk = true →
    s.gb F.RST_STAT_PHYQ = true → s.gb F.RST_STAT_CLKQ = true → speed.val ≠ 0 → width.val ≠ 0 →
    Runs (.linkTrainingDone speed width) s fun t => t.host.up = true ∧ t.g F.HIF_STAT_SPEED = speed.val ∧
      t.g F.HIF_STAT_WIDTH = width.val ∧ RegsBut [(F.HIF_STAT_SPEED, 0), (F.HIF_STAT_WIDTH, 0)] s t) ∧
  (∀ speed width s, s.host.released = false ∨ s.rst.perstN = false ∨ s.rst.phyOk = false →
    Runs (.linkTrainingDone speed width) s fun t => t = s) ∧
  (∀ s, s.rst.perstN = false → Runs .perstNRelease s fun t => t.rst.perstN = true ∧ t.rst.byPerst = false ∧
    t.host.relAt = s.now ∧ RegsBut [] s t) ∧
  (∀ s, s.rst.perstN = true → Runs .perstNRelease s fun t => t = s)

/-- A whole frame with a bad request CRC writes neither the set nor SRAM, counts in SPICRC, sets its sticky
bit and answers with the CRC bit and words of 0; a bad address answers with its bit; a read of one BAR2 word answers
the word, a write of one BAR2 word while SRAM_WR is 1 writes it and answers ACK, while it is 0 is refused. An aborted
frame that has not reached its CRC acts on nothing and counts in SPIABT. Rests on: R418, R419, R420. -/
def Obligations.SpiFrames : Prop :=
  (∀ b sub s, s.rst.warm = false → s.host.released = true → spiLen b ≤ b.length →
    crc8 (b.take (spiHead b - 1)) ≠ (b.getD (spiHead b - 1) 0).toNat →
    (spiIsWrite b = false → Runs (.spiRead b sub) s fun t => ∃ u : State, u.gb F.HIF_STKY_SPICRC = true ∧
      u.g F.HIF_SPICRC_COUNT = min (s.g F.HIF_SPICRC_COUNT + 1) (2 ^ F.HIF_SPICRC_COUNT.width - 1) ∧ u.staged = s.staged ∧
      (∀ x, 0x100000 ≤ x → u.sramByte x = s.sramByte x) ∧
      t = u.emit (.spi (spiReply (u.spiStatus false true false false) (List.replicate (spiWords b) 0)))) ∧
    (spiIsWrite b = true → Runs (.spiWrite b sub) s fun t => ∃ u : State, u.gb F.HIF_STKY_SPICRC = true ∧
      u.g F.HIF_SPICRC_COUNT = min (s.g F.HIF_SPICRC_COUNT + 1) (2 ^ F.HIF_SPICRC_COUNT.width - 1) ∧ (∀ x, 0x100000 ≤ x → u.sramByte x = s.sramByte x) ∧
      u.staged = s.staged ∧ t = u.emit (.spi (spiReply (u.spiStatus false true false false) [])))) ∧
  (∀ b sub s, s.rst.warm = false → s.host.released = true → spiLen b ≤ b.length →
    crc8 (b.take (spiHead b - 1)) = (b.getD (spiHead b - 1) 0).toNat → (bitsOf (spiCmd b) 5 2 ≠ 1 ∨ spiAddr b = none) →
    (spiIsWrite b = false → Runs (.spiRead b sub) s fun t => RegsBut [] s t ∧ t.sram = s.sram ∧
      t.outbox = .spi (spiReply (s.spiStatus false false true false) (List.replicate (spiWords b) 0)) :: s.outbox) ∧
    (spiIsWrite b = true → Runs (.spiWrite b sub) s fun t => RegsBut [] s t ∧ t.sram = s.sram ∧
      t.outbox = .spi (spiReply (s.spiStatus false false true false) []) :: s.outbox)) ∧
  (∀ b sub s a, s.rst.warm = false → s.host.released = true → spiLen b ≤ b.length → spiWords b = 1 →
    crc8 (b.take (spiHead b - 1)) = (b.getD (spiHead b - 1) 0).toNat → bitsOf (spiCmd b) 5 2 = 1 → spiAddr b = some (true, a) →
    (spiIsWrite b = false → s.poisoned a = false → Runs (.spiRead b sub) s fun t => RegsBut [] s t ∧ t.sram = s.sram ∧
      t.outbox = .spi (spiReply (s.spiStatus true false false false) [s.bar2Word a]) :: s.outbox) ∧
    (spiIsWrite b = true → s.gb F.GLB_DIAG_SRAM_WR = true → a % 4 = 0 → a < 0x180000 → Runs (.spiWrite b sub) s fun t =>
      t.sram32 a = leNat ((b.drop 4).take 4) ∧ (∀ x, x < a ∨ a + 4 ≤ x → t.sramByte x = s.sramByte x) ∧ RegsBut [] s t ∧
      t.outbox = .spi (spiReply (s.spiStatus true false false false) []) :: s.outbox) ∧
    (spiIsWrite b = true → s.gb F.GLB_DIAG_SRAM_WR = false → Runs (.spiWrite b sub) s fun t =>
      t.sram = s.sram ∧ RegsBut [] s t ∧
      t.outbox = .spi (spiReply (s.spiStatus true false false true) []) :: s.outbox)) ∧
  (∀ b sub s, s.rst.warm = false → s.host.released = true → (b = [] ∨ b.length < spiHead b) →
    Runs (.spiAbort b sub) s fun t => t.gb F.HIF_STKY_SPIABT = true ∧
      t.g F.HIF_SPIABT_COUNT = min (s.g F.HIF_SPIABT_COUNT + 1) (2 ^ F.HIF_SPIABT_COUNT.width - 1) ∧ t.staged = s.staged ∧
      (∀ x, 0x100000 ≤ x → t.sramByte x = s.sramByte x)) ∧
  (∀ b sub s, s.rst.warm = true ∨ s.host.released = false →
    (Runs (.spiRead b sub) s fun t => t = s) ∧ (Runs (.spiWrite b sub) s fun t => t = s) ∧ (Runs (.spiAbort b sub) s fun t => t = s))

/-- A unit takes the number of a TOKEN, keeps its accumulators and repeats it with its own added; a
value of 512 or more gives no number and OVERCNT; a head absorbs a foreign frame with MULTIHEAD. The returned TOKEN
gives the head the ring delay and count and makes it send CAL, from which a unit takes its cable delay. A TIME error
within 1 us leaves STIME, one above 1 us steps it forward by whole samples, one below -1 us slews; both begin
holdover, the tenth good frame ends it. The head sends a TIME frame at each period up to the coming sample. The loss
of frames sets LOSS or RINGOPEN. With the chain not used a frame does nothing, but that a block in Dormant mode
repeats the frames of another origin. Rests on: R424, R426, R427, R428, R430, R431, R432. -/
def Obligations.ChainFramesAndTime : Prop :=
  (∀ f s v, s.chnOn = true → s.gb F.CHN_CFG_HEAD = false → frameNum f.bytes 0 1 = 1 →
    frameNum f.bytes 2 2 ≠ s.g F.CHN_ORIGIN_TAG → v = frameNum f.bytes 4 2 →
    Runs (.token f) s fun t =>
      t.g F.CHN_STAT_UN = (if v < 512 then v else 0) ∧ t.gb F.CHN_STAT_UNV = decide (v < 512) ∧
      (512 ≤ v → t.gb F.CHN_STKY_OVERCNT = true) ∧ t.chn.fUp = frameNum f.bytes 6 4 ∧ t.chn.wUp = frameNum f.bytes 10 4 ∧
      t.chn.zUp = frameNum f.bytes 14 2 ∧
      t.outbox.head? = some (.chain (streamRec (padTo 16 (f.bytes.take 4 ++ leBytes 2 (if v < 512 then v + 1 else v) ++
        leBytes 4 (frameNum f.bytes 6 4 + s.g F.CHN_FWD_F) ++ leBytes 4 (frameNum f.bytes 10 4 + s.g F.CHN_HOPW_W) ++
        leBytes 2 (frameNum f.bytes 14 2 + b2n (s.g F.CHN_HOPW_W = 0)))))) ∧
      t.chn.busy = tadd (tadd (tadd s.now f.sub) (s.g F.CHN_FWD_F)) (720 * nsU)) ∧
  (∀ f s, s.chnOn = true → s.gb F.CHN_CFG_HEAD = true → frameNum f.bytes 2 2 ≠ s.g F.CHN_ORIGIN_TAG →
    (frameNum f.bytes 0 1 = 1 → Runs (.token f) s fun t => t.gb F.CHN_STKY_MULTIHEAD = true ∧ t.g F.CHN_STAT_UN = s.g F.CHN_STAT_UN) ∧
    (frameNum f.bytes 0 1 = 2 → Runs (.time f) s fun t => t.gb F.CHN_STKY_MULTIHEAD = true ∧ t.now = s.now) ∧
    (frameNum f.bytes 0 1 = 4 → Runs (.cal f) s fun t => t.gb F.CHN_STKY_MULTIHEAD = true ∧ t.g F.CHN_CABLE_D = s.g F.CHN_CABLE_D)) ∧
  (∀ f s, s.chnOn = false → s.chnRepeats = false →
    (Runs (.token f) s fun t => t = s) ∧ (Runs (.tokenReturn f) s fun t => t = s) ∧ (Runs (.time f) s fun t => t = s) ∧
    (Runs (.cal f) s fun t => t = s) ∧ (Runs (.cmd f) s fun t => t = s) ∧ (Runs (.chainCrcError f.sub) s fun t => t = s)) ∧
  (∀ s, s.chnOn = false → (Runs .chainLoss s fun t => t = s) ∧ (Runs .timeSend s fun t => t = s) ∧
    (Runs .enumeration s fun t => t = s)) ∧
  (∀ f s, s.chnOn = false → s.chnRepeats = true → frameNum f.bytes 2 2 ≠ s.g F.CHN_ORIGIN_TAG →
    (frameNum f.bytes 0 1 = 4 → Runs (.cal f) s fun t => RegsBut [] s t ∧
      t.outbox = .chain (streamRec (padTo 16 f.bytes)) :: s.outbox) ∧
    (frameNum f.bytes 0 1 = 2 → Runs (.time f) s fun t => RegsBut [] s t ∧ t.now = s.now ∧
      t.outbox = .chain (streamRec (padTo 16 (s.timeOn f.bytes))) :: s.outbox)) ∧
  (∀ f s t0 n, s.chnOn = true → s.gb F.CHN_CFG_HEAD = true → frameNum f.bytes 0 1 = 1 →
    frameNum f.bytes 2 2 = s.g F.CHN_ORIGIN_TAG → s.chn.tokAt = some t0 → n = frameNum f.bytes 4 2 → n ≤ 512 →
    Runs (.tokenReturn f) s fun t =>
      t.g F.CHN_RING_TR = enc 32 (tdiff (tadd s.now f.sub) t0) ∧ t.g F.CHN_ENUM_N = n ∧ t.chn.tokAt = none ∧
      t.gb F.CHN_STAT_RINGOK = true ∧
      t.outbox.head? = some (.chain (streamRec (padTo 16 (leBytes 1 4 ++ leBytes 1 0 ++ leBytes 2 (s.g F.CHN_ORIGIN_TAG) ++
        leBytes 2 n ++ leBytes 4 (enc 32 (tdiff (tadd s.now f.sub) t0 - frameNum f.bytes 6 4)) ++
        leBytes 4 (frameNum f.bytes 10 4 + s.g F.CHN_HOPW_W) ++
        leBytes 2 (frameNum f.bytes 14 2 + b2n (s.g F.CHN_HOPW_W = 0))))))) ∧
  (∀ f s, s.chnOn = true → s.gb F.CHN_CFG_HEAD = false → frameNum f.bytes 0 1 = 4 →
    frameNum f.bytes 2 2 ≠ s.g F.CHN_ORIGIN_TAG → frameNum f.bytes 4 2 ≤ 512 → frameNum f.bytes 14 2 = 0 → frameNum f.bytes 10 4 ≠ 0 →
    Runs (.cal f) s fun t =>
      t.g F.CHN_CABLE_D = enc 32 (rdiv 160 (frameNum f.bytes 6 4 * (s.chn.wUp + s.g F.CHN_HOPW_W)) (frameNum f.bytes 10 4)) ∧
      t.g F.CHN_ENUM_N = frameNum f.bytes 4 2 ∧ t.outbox.head? = some (.chain (streamRec (padTo 16 f.bytes)))) ∧
  (∀ f s (e : Int), s.chnOn = true → s.gb F.CHN_CFG_HEAD = false → frameNum f.bytes 0 1 = 2 →
    frameNum f.bytes 2 2 ≠ s.g F.CHN_ORIGIN_TAG →
    e = tdiff (tadd (frameNum f.bytes 4 8) (frameNum f.bytes 12 4 + s.g F.CHN_CABLE_D : Nat)) (tadd s.now f.sub) →
    (-(usU : Int) ≤ e → e ≤ usU → Runs (.time f) s fun t => t.now = s.now ∧ t.g F.CHN_ERR_E = enc 32 (satS 32 e) ∧
      -200000 ≤ t.gi F.CHN_FREQ_F ∧ t.gi F.CHN_FREQ_F ≤ 200000 ∧
      t.chn.good = (if e.natAbs ≤ 100 * nsU then s.chn.good + 1 else 0) ∧
      t.chn.hold = (s.chn.hold && !decide (e.natAbs ≤ 100 * nsU ∧ 9 ≤ s.chn.good))) ∧
    (usU < e → Runs (.time f) s fun t => t.now = tadd s.now ((e / sampleU * sampleU).toNat : Nat) ∧
      t.gb F.CHN_STKY_STEP = true ∧ t.chn.hold = true ∧ t.holdover = true ∧ t.era = bitOf (frameNum f.bytes 1 1) 0 ∧ t.chn.good = 0) ∧
    (e < -(usU : Int) → Runs (.time f) s fun t => t.now = s.now ∧ t.gi F.CHN_FREQ_F = -200000 ∧ t.chn.slew = true ∧
      t.chn.hold = true ∧ t.holdover = true ∧ t.chn.good = 0 ∧ (s.chn.slew = false → t.gb F.CHN_STKY_SLEW = true))) ∧
  (∀ s, s.chnOn = true → s.gb F.CHN_CFG_HEAD = true → tdiff s.nextTime (tadd s.now sampleU) < 0 →
    s.chn.timeAt ≠ some s.nextTime →
    Runs .timeSend s fun t => t.chn.timeAt = some s.nextTime ∧ RegsBut [] s t ∧ ∃ at',
      at' = ({ s with t := s.nextTime } : State).chnSlot ∧
      t.outbox = .chain (streamRec (padTo 16 (leBytes 1 2 ++ leBytes 1 (b2n s.era) ++ leBytes 2 (s.g F.CHN_ORIGIN_TAG) ++
        leBytes 8 at'))) :: s.outbox) ∧
  (∀ src s, s.reaches 0x14000 = true → s.chnOn = true → s.gb F.CHN_CFG_HEAD = true →
    Runs (.enum src) s fun t => t.chn.tokAt = some (s.at src).chnSlot ∧ t.chn.enumDue = false ∧ RegsBut [] s t ∧
      t.outbox = .chain (streamRec (padTo 16 (leBytes 1 1 ++ leBytes 1 0 ++ leBytes 2 (s.g F.CHN_ORIGIN_TAG) ++ leBytes 2 1))) ::
        s.outbox) ∧
  (∀ src s, s.chnOn = false ∨ s.gb F.CHN_CFG_HEAD = false → Runs (.enum src) s fun t => t.outbox = s.outbox ∧ RegsBut [] s t) ∧
  (∀ s, s.chnOn = true → s.gb F.CHN_CFG_HEAD = true →
    (s.chn.enumDue = true ∨ (100 * msU : Nat) ≤ tdiff s.now s.chn.enumAt → Runs .enumeration s fun t =>
      t.chn.tokAt = some s.here.chnSlot ∧ t.chn.enumDue = false ∧ t.chn.enumAt = s.now ∧ RegsBut [] s t) ∧
    (s.chn.enumDue = false → tdiff s.now s.chn.enumAt < (100 * msU : Nat) → Runs .enumeration s fun t => t = s)) ∧
  (∀ s, s.chnOn = true → s.chn.loss = false → (s.lossTime : Int) ≤ tdiff s.now s.chn.lastIn →
    (s.gb F.CHN_CFG_HEAD = true → Runs .chainLoss s fun t => t.chn.loss = true ∧ t.gb F.CHN_STAT_RINGOK = false ∧
      t.gb F.CHN_STKY_RINGOPEN = true) ∧
    (s.gb F.CHN_CFG_HEAD = false → Runs .chainLoss s fun t => t.chn.loss = true ∧ t.chn.good = 0 ∧ t.gb F.CHN_STKY_LOSS = true ∧
      t.chn.hold = true ∧ t.holdover = true)) ∧
  (∀ s, s.chn.loss = true ∨ tdiff s.now s.chn.lastIn < s.lossTime → Runs .chainLoss s fun t => t = s) ∧
  (∀ sub s, s.chnOn = true → Runs (.chainCrcError sub) s fun t => t.gb F.CHN_STKY_CRCERR = true ∧
    t.g F.CHN_CRCCNT_COUNT = min (s.g F.CHN_CRCCNT_COUNT + 1) (2 ^ 24 - 1) ∧ t.chn = s.chn)

/-- A received CMD frame is repeated and kept for its instant when that is not past and not more
than 10 s ahead; a late one with SYNCRST sets SYNCLATE. A due SYNCRST makes the coming sample s0 and boundary 0. SEND
refuses an instant closer than SLEAD, answers busy while a frame waits, else sends the frame and keeps the command.
PULSE pulls SYNC_N low for 1 us; a falling edge, with SYNCN_EN from bring-up step 8 on, originates a command at the
head, is kept with the chain off, and at another unit only sets SYNCN. Rests on: R136, R433, R434, R435. -/
def Obligations.ChainCommandsAndSync : Prop :=
  (∀ f s inst, s.chnOn = true → frameNum f.bytes 0 1 = 3 → frameNum f.bytes 2 2 ≠ s.g F.CHN_ORIGIN_TAG →
    inst = frameNum f.bytes 4 8 →
    (0 ≤ tdiff inst (tadd s.now f.sub) → tdiff inst (tadd s.now f.sub) ≤ (10000 * msU : Nat) → Runs (.cmd f) s fun t =>
      t.chn.cmds = s.chn.cmds ++ [(inst, frameNum f.bytes 1 1, frameNum f.bytes 12 1)] ∧
      t.outbox = .chain (streamRec (padTo 16 f.bytes)) :: s.outbox) ∧
    (tdiff inst (tadd s.now f.sub) < 0 ∨ (10000 * msU : Nat) < tdiff inst (tadd s.now f.sub) → bitOf (frameNum f.bytes 12 1) 0 = true →
      Runs (.cmd f) s fun t => t.chn.cmds = s.chn.cmds ∧ t.gb F.CHN_STKY_SYNCLATE = true)) ∧
  (∀ f s, s.chnOn = true → frameNum f.bytes 2 2 = s.g F.CHN_ORIGIN_TAG →
    Runs (.cmd f) s fun t => t.chn.cmds = s.chn.cmds ∧ t.outbox = s.outbox) ∧
  (∀ s c, s.chn.cmds = [c] → s.syncDue c.1 = true → bitOf c.2.2 0 = true → bitOf c.2.2 1 = false → s.adcOn = true →
    s.chn.syncK ≠ some s.k → Runs .chainCommandAct s fun t =>
      t.chn.cmds = [] ∧ t.chn.syncK = some s.k ∧ t.kB = s.k ∧ t.s0 = s.k ∧ t.gb F.CHN_STKY_SYNC = true ∧
      t.g F.CHN_SYNCL_T = tadd s.now sampleU % 2 ^ 32 ∧ t.g F.CHN_SYNCH_T = tadd s.now sampleU / 2 ^ 32) ∧
  (∀ s, (s.chn.cmds.any fun c => s.syncDue c.1) = false → Runs .chainCommandAct s fun t => t = s) ∧
  (∀ src value s inst d, s.reaches 0x14000 = true → inst = s.g F.CHN_CMDTL_T + 2 ^ 32 * s.g F.CHN_CMDTH_T →
    d = tdiff inst (tadd s.now src.sub) →
    (bitOf value.toNat 10 = false → Runs (.chainSend src value) s fun t => t.outbox = s.outbox ∧ t.chn = s.chn ∧ RegsBut [] s t) ∧
    (bitOf value.toNat 10 = true →
      d < (s.g F.CHN_CFG_SLEAD * 10 * usU : Nat) ∨ (10000 * msU : Nat) < d ∨ s.chnOn = false ∨ s.chn.hold = true →
      Runs (.chainSend src value) s fun t => t.g F.CHN_CMDRES_RES = 2 ∧ t.outbox = s.outbox ∧ t.chn = s.chn ∧
        RegsBut [(F.CHN_CMDRES_RES, 0)] s t) ∧
    (bitOf value.toNat 10 = true → (s.g F.CHN_CFG_SLEAD * 10 * usU : Nat) ≤ d → d ≤ (10000 * msU : Nat) →
      s.chnOn = true → s.chn.hold = false → 0 < tdiff s.chn.ins (tadd s.now src.sub) →
      Runs (.chainSend src value) s fun t => t.g F.CHN_CMDRES_RES = 1 ∧ t.outbox = s.outbox ∧ t.chn = s.chn ∧
        RegsBut [(F.CHN_CMDRES_RES, 0)] s t) ∧
    (bitOf value.toNat 10 = true → (s.g F.CHN_CFG_SLEAD * 10 * usU : Nat) ≤ d → d ≤ (10000 * msU : Nat) →
      s.chnOn = true → s.chn.hold = false → tdiff s.chn.ins (tadd s.now src.sub) ≤ 0 →
      Runs (.chainSend src value) s fun t => t.g F.CHN_CMDRES_RES = 0 ∧
        t.chn.cmds = s.chn.cmds ++ [(inst, value.toNat % 256, bitsOf value.toNat 8 2)] ∧
        t.outbox = .chain (streamRec (padTo 16 (leBytes 1 3 ++ leBytes 1 (value.toNat % 256) ++ leBytes 2 (s.g F.CHN_ORIGIN_TAG) ++
          leBytes 8 inst ++ leBytes 1 (bitsOf value.toNat 8 2)))) :: s.outbox ∧ RegsBut [(F.CHN_CMDRES_RES, 0)] s t)) ∧
  (∀ src s, s.reaches 0x14000 = true → Runs (.pulse src) s fun t =>
    t.outbox = .ball "SYNC_N" 1 (tadd (tadd s.now src.sub) usU) :: .ball "SYNC_N" 0 (tadd s.now src.sub) :: s.outbox ∧
    t.chn.pulse = tadd (tadd s.now src.sub) usU ∧ RegsBut [] s t) ∧
  (∀ (sub : Nat) s ts, s.gb F.CHN_CFG_SYNCN_EN = true → s.released 8 = true → ts = tadd (tadd s.now sub) (s.g F.CHN_CFG_SLEAD * 10 * usU : Nat) →
    (s.chnOn = false → Runs (.syncNEdge sub) s fun t => t.gb F.CHN_STKY_SYNCN = true ∧ t.chn.syncs = s.chn.syncs ++ [ts]) ∧
    (s.chnOn = true → s.gb F.CHN_CFG_HEAD = true → Runs (.syncNEdge sub) s fun t => t.gb F.CHN_STKY_SYNCN = true ∧
      t.chn.cmds = s.chn.cmds ++ [(ts, 0, 1)] ∧
      t.outbox.head? = some (.chain (streamRec (padTo 16 (leBytes 1 3 ++ leBytes 1 0 ++ leBytes 2 (s.g F.CHN_ORIGIN_TAG) ++
        leBytes 8 ts ++ leBytes 1 1))))) ∧
    (s.chnOn = true → s.gb F.CHN_CFG_HEAD = false → Runs (.syncNEdge sub) s fun t => t.gb F.CHN_STKY_SYNCN = true ∧
      t.chn = s.chn)) ∧
  (∀ sub s, s.gb F.CHN_CFG_SYNCN_EN = false ∨ s.released 8 = false → Runs (.syncNEdge sub) s fun t => t = s)

/-- A claim, made where its conditions hold and no failed one is younger than 1 ms, pulls TKN_O low;
3 us later TKN_I high at the sample and since makes the device ACTIVE with the token and its time stamp, low makes the
claim fail with TKFAIL. The first claim of POS 0 comes 1 ms after the entry to RUN. A fall of TKN_I is noted by a
holder, and is a race within 1 us of a claim. RELEASE asks the partner to take over; without a takeover for 10 ms
RELFAIL is set. A stuck token line lets a device with STUCKTK take over with FORCED. Where the conditions fail,
nothing happens. Rests on: R443, R444, R445, R446, R447, R449. -/
def Obligations.TwinRolesAndToken : Prop :=
  (∀ s, s.mayClaim = true → s.wantsClaim = true → 0 ≤ tdiff s.now s.twn.retry → Runs .claim s fun t =>
    t.twn.claim = some (s.now, s.gb F.TWN_STAT_TKNI) ∧ t.twn.tko = true ∧ t.gb F.TWN_STAT_CLAIM = true ∧
    RegsBut [(F.TWN_STAT_CLAIM, 0)] s t) ∧
  (∀ s, s.mayClaim = false ∨ s.wantsClaim = false ∨ tdiff s.now s.twn.retry < 0 → Runs .claim s fun t => t = s) ∧
  (∀ src s, s.reaches 0x15000 = true → s.mayClaim = true → Runs (.take src) s fun t =>
    t.twn.claim = some (tadd s.now src.sub, s.gb F.TWN_STAT_TKNI) ∧ t.twn.tko = true ∧ t.gb F.TWN_STAT_CLAIM = true ∧
    RegsBut [(F.TWN_STAT_CLAIM, 0)] s t) ∧
  (∀ src s, s.mayClaim = false → Runs (.take src) s fun t => t.twn = s.twn ∧ RegsBut [] s t) ∧
  (∀ s, s.twnRun = true → s.standby = true → s.gb F.TWN_CFG_POS = false → s.twn.first = false → (msU : Int) ≤ tdiff s.now s.twn.runAt →
    (s.gb F.TWN_STAT_TKNI = true → s.mayClaim = true → Runs .initialClaim s fun t =>
      t.twn.first = true ∧ t.twn.claim = some (s.now, true) ∧ t.twn.tko = true ∧ t.gb F.TWN_STAT_CLAIM = true) ∧
    (s.gb F.TWN_STAT_TKNI = false → Runs .initialClaim s fun t => t.twn = { s.twn with first := true } ∧ RegsBut [] s t)) ∧
  (∀ s, s.twnRun = false ∨ s.standby = false ∨ s.gb F.TWN_CFG_POS = true ∨ s.twn.first = true ∨
    tdiff s.now s.twn.runAt < (msU : Int) → Runs .initialClaim s fun t => t = s) ∧
  (∀ s c T, s.twn.claim = some c → T = tadd c.1 (3 * usU : Nat) → tdiff T (tadd s.now sampleU) < 0 →
    (s.gb F.TWN_STAT_TKNI = true → Runs (.claimCheck true) s fun t => t.g F.GLB_STATUS_ROLE = 1 ∧ t.g F.TWN_STAT_ROLE = 1 ∧ t.gb F.TWN_STAT_TOKEN = true ∧
      t.gb F.TWN_STAT_CLAIM = false ∧ t.g F.TWN_TKTS_TS32 = ts32 T % 2 ^ 32 ∧ t.gb F.TWN_STKY_TAKEOVER = true ∧ t.twn.claim = none ∧
      t.twn.tko = true ∧ t.twn.tk = T ∧ t.twn.gtDue = true ∧ t.twn.emDue = true ∧
      t.g F.TWN_TKCNT_COUNT = min (s.g F.TWN_TKCNT_COUNT + 1) (2 ^ 24 - 1)) ∧
    (∀ lvl : Bool, lvl = false ∨ s.gb F.TWN_STAT_TKNI = false → Runs (.claimCheck lvl) s fun t => t.g F.GLB_STATUS_ROLE = s.g F.GLB_STATUS_ROLE ∧ t.gb F.TWN_STAT_CLAIM = false ∧
      t.twn.claim = none ∧ t.twn.tko = false ∧ t.twn.retry = tadd T msU ∧ t.twn.failAt = some (s.twn.failAt.getD T) ∧
      t.gb F.TWN_STKY_TKFAIL = true)) ∧
  (∀ s lvl, s.twn.claim = none → Runs (.claimCheck lvl) s fun t => t = s) ∧
  (∀ s lvl c, s.twn.claim = some c → 0 ≤ tdiff (tadd c.1 (3 * usU : Nat)) (tadd s.now sampleU) →
    Runs (.claimCheck lvl) s fun t => t = s) ∧
  (∀ s, s.gb F.TWN_STAT_TKNI = true → s.gb F.TWN_STAT_TOKEN = true → Runs .yield s fun t =>
    t.gb F.TWN_STAT_TKNI = false ∧ t.twn.fall = some (s.twn.fall.getD s.now) ∧ RegsBut [(F.TWN_STAT_TKNI, 0)] s t) ∧
  (∀ s tc, s.gb F.TWN_STAT_TKNI = true → s.gb F.TWN_STAT_TOKEN = false → s.twn.claim = some (tc, true) → 0 < tdiff s.now tc →
    tdiff s.now tc ≤ usU → Runs .yield s fun t => t.gb F.TWN_STAT_TKNI = false ∧ t.twn.race = true ∧ t.gb F.TWN_STKY_TKRACE = true) ∧
  (∀ s, s.gb F.TWN_STAT_TKNI = false → Runs .yield s fun t => t = s) ∧
  (∀ src s, s.reaches 0x15000 = true → s.g F.GLB_STATUS_ROLE = 1 → Runs (.release src) s fun t =>
    t.gb F.TWN_STAT_REL = true ∧ t.gb F.TWN_STAT_OHB = false ∧ t.twn.relAt = tadd s.now src.sub ∧
    RegsBut [(F.TWN_STAT_REL, 0), (F.TWN_STAT_OHB, 0)] s t) ∧
  (∀ src s, s.g F.GLB_STATUS_ROLE ≠ 1 → Runs (.release src) s fun t => t.twn = s.twn ∧ RegsBut [] s t) ∧
  (∀ s, s.gb F.TWN_STAT_REL = true → s.twn.fall = none → (10 * msU : Nat) ≤ tdiff s.now s.twn.relAt → Runs .releaseTimeout s fun t =>
    t.gb F.TWN_STAT_REL = false ∧ t.gb F.TWN_STKY_RELFAIL = true) ∧
  (∀ s, s.gb F.TWN_STAT_REL = false ∨ s.twn.fall.isSome = true ∨ tdiff s.now s.twn.relAt < (10 * msU : Nat) → Runs .releaseTimeout s fun t => t = s) ∧
  (∀ s f, s.twn.failAt = some f → s.gb F.TWN_CFG_STUCKTK = true → s.twnRun = true → s.standby = true → s.wantsClaim = true →
    (10 * msU : Nat) ≤ tdiff s.now f → Runs .forcedTakeover s fun t => t.g F.GLB_STATUS_ROLE = 1 ∧ t.gb F.TWN_STAT_TOKEN = true ∧
      t.gb F.TWN_STKY_FORCED = true ∧ t.twn.tk = s.now) ∧
  (∀ s, s.twn.failAt = none ∨ s.gb F.TWN_CFG_STUCKTK = false ∨ s.standby = false ∨ s.wantsClaim = false → Runs .forcedTakeover s fun t => t = s)

/-- The absence of the heartbeat for HBTO clears PHB and sets HBWIRE while valid frames say that
it runs, else PHBLOST, each once; an edge sets PHB; the own heartbeat comes back 1 ms after a yield where it may run.
The outputs of a holder of the token follow a takeover after 1 us and 5 us. A built frame is sent with its CRC-32C 250
ns after its boundary, unless its buffer has an error; a received frame of the right length and CRC counts for the
link and shows the partner, another counts as a CRC error; 15 us without a frame take the link down. Rests on: R248,
R279, R437, R439, R442. -/
def Obligations.TwinLinkAndHeartbeat : Prop :=
  (∀ s, s.gb F.TWN_CFG_EN = true → s.heartGone = true →
    (s.linkAlive = true → s.twn.hbWire = false → Runs .partnerHeartbeatLost s fun t =>
      t.gb F.TWN_STAT_PHB = false ∧ t.twn = { s.twn with hbWire := true } ∧ t.gb F.TWN_STKY_HBWIRE = true) ∧
    (s.linkAlive = false → s.twn.hbGone = false → Runs .partnerHeartbeatLost s fun t =>
      t.gb F.TWN_STAT_PHB = false ∧ t.twn = { s.twn with hbGone := true } ∧ t.gb F.TWN_STKY_PHBLOST = true)) ∧
  (∀ s, s.gb F.TWN_CFG_EN = false ∨ s.heartGone = false ∨ (if s.linkAlive then s.twn.hbWire else s.twn.hbGone) = true →
    Runs .partnerHeartbeatLost s fun t => t = s) ∧
  (∀ s, s.gb F.TWN_CFG_EN = true → Runs .partnerHeartbeatEdge s fun t =>
    t.gb F.TWN_STAT_PHB = true ∧ t.twn.hbAt = s.now ∧ t.twn.hbGone = false ∧ t.twn.hbWire = false ∧ RegsBut [(F.TWN_STAT_PHB, 0)] s t) ∧
  (∀ s, s.gb F.TWN_CFG_EN = false → Runs .partnerHeartbeatEdge s fun t => t = s) ∧
  (∀ s h, s.twn.hbHold = some h → (msU : Int) ≤ tdiff s.now h → Runs .heartbeatRestart s fun t =>
    t.twn.hbHold = none ∧ t.gb F.TWN_STAT_OHB = (s.twnRun && !s.gb F.TWN_STAT_REL && !s.critLost) ∧
    RegsBut [(F.TWN_STAT_OHB, 0)] s t) ∧
  (∀ s, s.twn.hbHold = none → Runs .heartbeatRestart s fun t => t = s) ∧
  (∀ s h, s.twn.hbHold = some h → tdiff s.now h < (msU : Int) → Runs .heartbeatRestart s fun t => t = s) ∧
  (∀ s, s.twn.gtDue = true → s.holdsToken = true → s.g F.GLB_STATUS_ROLE = 1 → tdiff (tadd s.twn.tk usU) (tadd s.now sampleU) < 0 →
    Runs .takeoverOutputEnable s fun t => t.geyDrv = true ∧ t.twn.gtDue = false ∧
      (s.gb F.GEY_CFG_AS_EN = true → t.stream.drive.isSome = true)) ∧
  (∀ s, s.twn.gtDue = false ∨ s.holdsToken = false ∨ s.g F.GLB_STATUS_ROLE ≠ 1 → Runs .takeoverOutputEnable s fun t => t = s) ∧
  (∀ s, s.twn.emDue = true → s.holdsToken = true → s.g F.GLB_STATUS_ROLE = 1 → (5 * usU : Nat) ≤ tdiff s.now s.twn.tk →
    Runs .emuDriverEnable s fun t => t.emuDrv = true ∧ t.twn.emDue = false) ∧
  (∀ s, s.twn.emDue = false ∨ s.holdsToken = false ∨ s.g F.GLB_STATUS_ROLE ≠ 1 → Runs .emuDriverEnable s fun t => t = s) ∧
  (∀ s tb, s.twn.tb = some tb → tdiff (tadd tb (250 * nsU : Nat)) (tadd s.now sampleU) < 0 → s.twnRun = true → s.bufBad = false →
    Runs .mirrorFrameSend s fun t => t.outbox = .mirror (s.twn.frm ++ leBytes 4 (crc32c s.twn.frm)) :: s.outbox ∧
      t.twn.tb = none ∧ t.twn.frm = [] ∧ RegsBut [] s t) ∧
  (∀ s tb, s.twn.tb = some tb → tdiff (tadd tb (250 * nsU : Nat)) (tadd s.now sampleU) < 0 → s.twnRun = true → s.bufBad = true →
    Runs .mirrorFrameSend s fun t => t.outbox = s.outbox ∧ t.twn.tb = none ∧ t.twn.frm = []) ∧
  (∀ s, s.twn.tb = none ∨ s.twnRun = false → Runs .mirrorFrameSend s fun t => t = s) ∧
  (∀ b s, s.twnRun = true → b.length = 1108 → crc32c (b.take 1104) = frameNum b 1104 4 → Runs (.mirrorFrameReceived b) s fun t =>
    t.twn.linkN = s.twn.linkN + 1 ∧ t.twn.linkAt = s.now ∧ t.twn.phb = bitOf (frameNum b 0 1) 3 ∧
    t.g F.TWN_STAT_PROLE = frameNum b 0 1 % 4 ∧ t.gb F.TWN_STAT_PPOS = bitOf (frameNum b 0 1) 2 ∧
    (2 ≤ s.twn.linkN → t.gb F.TWN_STAT_LINK = true) ∧ t.twn.conf = decide (bitOf (frameNum b 0 1) 2 = s.gb F.TWN_CFG_POS) ∧
    (bitOf (frameNum b 0 1) 2 = s.gb F.TWN_CFG_POS → t.gb F.TWN_STKY_POSCONF = true)) ∧
  (∀ b s, s.twnRun = true → b.length ≠ 1108 ∨ crc32c (b.take 1104) ≠ frameNum b 1104 4 → Runs (.mirrorFrameReceived b) s fun t =>
    t.twn = { s.twn with linkN := 0 } ∧ t.gb F.TWN_STKY_CRC = true ∧
    t.g F.TWN_CRCCNT_COUNT = min (s.g F.TWN_CRCCNT_COUNT + 1) (2 ^ 24 - 1)) ∧
  (∀ b s, s.twnRun = false → Runs (.mirrorFrameReceived b) s fun t => t = s) ∧
  (∀ s, s.gb F.TWN_CFG_EN = true → Runs .mirrorFrameCrcError s fun t => t.twn = { s.twn with linkN := 0 } ∧
    t.gb F.TWN_STKY_CRC = true ∧ t.g F.TWN_CRCCNT_COUNT = min (s.g F.TWN_CRCCNT_COUNT + 1) (2 ^ 24 - 1)) ∧
  (∀ s, s.gb F.TWN_CFG_EN = false → Runs .mirrorFrameCrcError s fun t => t = s) ∧
  (∀ s, s.gb F.TWN_STAT_LINK = true → (15 * usU : Nat) ≤ tdiff s.now s.twn.linkAt → Runs .twinLinkDown s fun t =>
    t.gb F.TWN_STAT_LINK = false ∧ t.twn.linkN = 0 ∧ t.twn.conf = false ∧ t.gb F.TWN_STKY_LINKDN = true) ∧
  (∀ s, s.gb F.TWN_STAT_LINK = false ∨ tdiff s.now s.twn.linkAt < (15 * usU : Nat) → Runs .twinLinkDown s fun t => t = s)

/-- A cold reset leaves every register at its reset value but the cause, the straps and STEP, keeps
NVM where no write runs, clears SRAM and restarts STIME. A warm reset sets every register outside the always-on domain
and the live state of Sinter to its reset value, keeps STIME, SRAM outside the Ash record and, where no write runs,
NVM, records its cause, counts a failed start and, from the fourth, latches Dormant mode; asserted during a warm reset
it extends it. Once every source is released bring-up begins with step 1. RESET_N up to 100 ns does nothing, an
ignored pulse counts as a glitch, from 2 us it resets, for 2 s it latches Dormant mode and is masked; a device so
stuck leaves Dormant mode when the pin rises. PERST_N asserts a warm reset or a Link reset, as the record in force
says. Rests on: R453, R454, R456, R457, R458, R459, R460, R469. -/
def Obligations.ResetsAndTheirPins : Prop :=
  (∀ (c : ColdIn) s, Runs (.coldReset c) s fun t =>
    t.now = 0 ∧ (s.nvq = [] → t.nvm = s.nvm) ∧ t.sram = [] ∧ t.pending = s.pending ∧ t.commit = none ∧ t.staged = [] ∧ t.rst.perstN = c.perstN ∧
    t.gb F.RST_CAUSE_POR = !c.brownOut ∧ t.gb F.RST_CAUSE_BOR = c.brownOut ∧ t.g F.RST_STAT_LAST = b2n c.brownOut ∧
    t.g F.RST_BOOT_SBOOT = c.boot.toNat ∧ t.g F.RST_BOOT_SCLK = c.clk.toNat ∧ t.g F.RST_STAT_STEP = 1 ∧
    RegsBut [(F.RST_CAUSE_POR, 0), (F.RST_CAUSE_BOR, 0), (F.RST_STAT_LAST, 0), (F.RST_BOOT_SBOOT, 0), (F.RST_BOOT_SCLK, 0),
      (F.RST_STAT_STEP, 0)] State.reset t) ∧
  (∀ (b : Fin 8) s, 2 ≤ b.val → s.rst.warm = false → Runs (.warmReset b) s fun t =>
    t.rst.warm = true ∧ t.rst.endAt = tadd s.now (2 * usU : Nat) ∧ t.gb (causeFld b) = true ∧ t.now = s.now ∧
    t.commit = none ∧ t.staged = [] ∧ t.adcOn = false ∧ (∀ a, 0x100000 ≤ a → t.sramByte a = s.sramByte a) ∧
    (∀ (f : Fld) n, keptField (f.key n) = false → t.g f n = f.rst n % 2 ^ f.width) ∧
    t.g F.INT_WRST_COUNT = min (s.g F.INT_WRST_COUNT + 1) (2 ^ 31 - 1) ∧ (s.nvq = [] → t.nvm = s.nvm) ∧
    (s.gb F.RST_STAT_CONFIRMED = true → t.g F.RST_STAT_FSC = s.g F.RST_STAT_FSC ∧ t.g F.RST_STAT_LAST = b.val) ∧
    (s.gb F.RST_STAT_CONFIRMED = false → t.g F.RST_STAT_FSC = min 4 (s.g F.RST_STAT_FSC + 1) ∧
      (3 ≤ s.g F.RST_STAT_FSC → t.gb F.RST_STAT_DLATCH = true))) ∧
  (∀ (b : Fin 8) s, 2 ≤ b.val → s.rst.warm = true → Runs (.warmReset b) s fun t =>
    t.rst = { s.rst with endAt := laterOf s.rst.endAt (tadd s.now (2 * usU : Nat)) } ∧ t.gb (causeFld b) = true ∧ t.g F.RST_STAT_LAST = b.val ∧
    RegsBut [(causeFld b, 0), (F.RST_STAT_LAST, 0)] s t) ∧
  (∀ (b : Fin 8) s, b.val < 2 → Runs (.warmReset b) s fun t => t = s) ∧
  (∀ s, s.rst.warm = true → s.rst.byPin = false → s.rst.byPerst = false → tdiff s.rst.endAt (tadd s.now sampleU) < 0 →
    Runs .warmResetRelease s fun t => t.rst = { s.rst with warm := false, stepAt := s.now, relAt := s.now } ∧
      t.g F.RST_STAT_STEP = 1 ∧ RegsBut [(F.RST_STAT_STEP, 0)] s t) ∧
  (∀ s, s.rst.warm = false ∨ s.rst.byPin = true ∨ s.rst.byPerst = true ∨ 0 ≤ tdiff s.rst.endAt (tadd s.now sampleU) →
    Runs .warmResetRelease s fun t => t = s) ∧
  (∀ ns hon s, s.pinMasked = true ∨ ns ≤ 100 → Runs (.resetNPulse ns hon) s fun t => t = s.here) ∧
  (∀ ns hon s, s.pinMasked = false → 100 < ns → (ns < 500 ∨ (ns < 2000 ∧ hon = false)) → Runs (.resetNPulse ns hon) s fun t =>
    t.rst = s.rst ∧ (s.rst.warm = false → bitOf (t.g F.RST_STKY_BITS) 8 = true) ∧ t.g F.RST_GLITCH_COUNT = min (s.g F.RST_GLITCH_COUNT + 1) (2 ^ 24 - 1)) ∧
  (∀ ns hon s, s.pinMasked = false → ns < 2000000000 → (2000 ≤ ns ∨ (500 ≤ ns ∧ hon = true)) → Runs (.resetNPulse ns hon) s fun t =>
    t.rst.warm = true ∧ (s.rst.warm = false → t.rst.endAt = tadd s.now (max (2 * usU) (ns * nsU) : Nat)) ∧
    (s.rst.warm = true → t.rst.endAt = laterOf (laterOf s.rst.endAt (tadd s.now (2 * usU : Nat)))
      (tadd s.now (max (2 * usU) (ns * nsU) : Nat))) ∧ t.gb F.RST_CAUSE_PIN = true) ∧
  (∀ ns hon s, s.pinMasked = false → 2000000000 ≤ ns → Runs (.resetNPulse ns hon) s fun t =>
    t.gb F.RST_STAT_DLATCH = true ∧ t.gb F.RST_CAUSE_PINSTUCK = true ∧ t.rst.masked = true ∧ t.rst.warm = true) ∧
  (∀ s, s.pinMasked = false → Runs .resetNStuck s fun t => t.gb F.RST_STAT_DLATCH = true ∧ t.gb F.RST_CAUSE_PINSTUCK = true ∧
    t.rst.masked = true ∧ t.rst.warm = true ∧ t.rst.resetN = false ∧ t.gb F.RST_STAT_RSTN = false) ∧
  (∀ s, s.pinMasked = true → Runs .resetNStuck s fun t => t.rst = { s.rst with resetN := false } ∧ t.gb F.RST_STAT_RSTN = false ∧
    RegsBut [(F.RST_STAT_RSTN, 0)] s t) ∧
  (∀ s, s.dormant = true → s.g F.RST_STAT_LAST = 8 → Runs .stuckPinRelease s fun t => t.gb F.RST_STAT_RSTN = true ∧
    t.rst.resetN = true ∧ t.rst.warm = true ∧ t.gb F.RST_STAT_DLATCH = false ∧ t.g F.RST_STAT_FSC = 0 ∧ t.rst.masked = false) ∧
  (∀ s, s.dormant = false ∨ s.g F.RST_STAT_LAST ≠ 8 → Runs .stuckPinRelease s fun t =>
    t.rst = { s.rst with resetN := true, highAt := s.now } ∧ t.gb F.RST_STAT_RSTN = true ∧ RegsBut [(F.RST_STAT_RSTN, 0)] s t) ∧
  (∀ s, s.rst.perstN = true →
    (s.rst.perst = true → Runs .perstNAssert s fun t => t.rst.perstN = false ∧ t.rst.byPerst = true ∧ t.rst.warm = true ∧
      t.gb F.RST_CAUSE_PERST = true) ∧
    (s.rst.perst = false → s.rst.warm = false → Runs .perstNAssert s fun t =>
      t.rst = { s.rst with perstN := false } ∧ t.host.up = false ∧
      (∀ (f : Fld) n, keyPage (f.key n) = 2 → t.g f n = f.rst n % 2 ^ f.width)) ∧
    (s.rst.perst = false → s.rst.warm = true → Runs .perstNAssert s fun t => t.rst = { s.rst with perstN := false } ∧ RegsBut [] s t)) ∧
  (∀ s, s.rst.perstN = false → Runs .perstNAssert s fun t => t = s)

/-- A command with a key other than 0xB0D5 only sets KEYERR. RUN_CONFIRM in RUN confirms the
start and clears FSC, and so does a record with CONFIRM 1 s after the entry to RUN with 1 ms of tracking; FULLRST and
DORMANT reset, DORMANT with the latch; LEAVE ends Dormant mode with its override. OPTLOAD takes a valid record of the
buffer or answers 2; NVBOOT and NVSAFE queue a write or answer BUSY, NVBOOT 2 for a record of another head. A finished
write leaves its image in the copy not in force and nothing else changed; a failed one touches that copy alone. The
key 0x5AC3 kicks the watchdog, a write of its time restarts it. A watchdog that ran out resets with its cause. Rests
on: R460, R462, R465, R473, R474, R475, R480, R482, R497, R539. -/
def Obligations.StartsNvmAndWatchdogs : Prop :=
  (∀ src (key : BitVec 16) s, s.reaches 0x1000 = true → key ≠ 0xB0D5#16 →
    (Runs (.runConfirm src key) s fun t => t.rst = s.rst ∧ t.nvq = s.nvq ∧ bitOf (t.g F.RST_STKY_BITS) 9 = true) ∧
    (Runs (.fullrst src key) s fun t => t.rst = s.rst ∧ t.nvq = s.nvq ∧ bitOf (t.g F.RST_STKY_BITS) 9 = true) ∧
    (Runs (.dormant src key) s fun t => t.rst = s.rst ∧ t.nvq = s.nvq ∧ bitOf (t.g F.RST_STKY_BITS) 9 = true) ∧
    (∀ o, Runs (.leave src key o) s fun t => t.rst = s.rst ∧ t.nvq = s.nvq ∧ bitOf (t.g F.RST_STKY_BITS) 9 = true) ∧
    (Runs (.optload src key) s fun t => t.rst = s.rst ∧ t.nvq = s.nvq ∧ bitOf (t.g F.RST_STKY_BITS) 9 = true) ∧
    (Runs (.nvboot src key) s fun t => t.rst = s.rst ∧ t.nvq = s.nvq ∧ bitOf (t.g F.RST_STKY_BITS) 9 = true) ∧
    (Runs (.nvsafe src key) s fun t => t.rst = s.rst ∧ t.nvq = s.nvq ∧ bitOf (t.g F.RST_STKY_BITS) 9 = true)) ∧
  (∀ src s, s.reaches 0x1000 = true →
    (s.inRun = true → s.gb F.RST_STAT_CONFIRMED = false → Runs (.runConfirm src 0xB0D5#16) s fun t =>
      t.gb F.RST_STAT_CONFIRMED = true ∧ t.g F.RST_STAT_FSC = 0 ∧ t.rst = { s.rst with buOn := false } ∧
      bitOf (t.g F.RST_STKY_BITS) 1 = true) ∧
    (s.inRun = false ∨ s.gb F.RST_STAT_CONFIRMED = true → Runs (.runConfirm src 0xB0D5#16) s fun t =>
      t.rst = s.rst ∧ RegsBut [] s t) ∧
    (Runs (.fullrst src 0xB0D5#16) s fun t => t.rst.warm = true ∧ t.gb F.RST_CAUSE_SWRST = true) ∧
    (Runs (.dormant src 0xB0D5#16) s fun t => t.rst.warm = true ∧ t.gb F.RST_CAUSE_DSW = true ∧ t.gb F.RST_STAT_DLATCH = true) ∧
    (∀ o : BitVec 2, s.dormant = true → Runs (.leave src 0xB0D5#16 o) s fun t => t.rst.warm = true ∧ t.gb F.RST_STAT_DLATCH = false ∧
      t.g F.RST_STAT_FSC = 0 ∧ t.rst.ovr = (if o = 3 then none else some o.toNat) ∧ t.gb F.RST_CAUSE_SWRST = true) ∧
    (∀ o, s.dormant = false → Runs (.leave src 0xB0D5#16 o) s fun t => t.rst = s.rst ∧ RegsBut [] s t) ∧
    (s.rst.wait = false → Runs (.optload src 0xB0D5#16) s fun t => t.rst = s.rst ∧ RegsBut [] s t) ∧
    (s.rst.wait = true → bootOk s.obuf = false → Runs (.optload src 0xB0D5#16) s fun t => t.rst = s.rst ∧
      t.g F.RST_NVSTAT_RES = 2 ∧ RegsBut [(F.RST_NVSTAT_RES, 0)] s t) ∧
    (s.rst.wait = true → bootOk s.obuf = true → Runs (.optload src 0xB0D5#16) s fun t => t.rst.wait = false ∧
      t.rst.record = some s.obuf ∧ t.g F.RST_NVSTAT_RES = 0 ∧ t.g F.RST_STAT_STEP = 4 ∧ t.adcOn = true) ∧
    (bootHead s.obuf = false → Runs (.nvboot src 0xB0D5#16) s fun t => t.nvq = s.nvq ∧ t.g F.RST_NVSTAT_RES = 2) ∧
    (bootHead s.obuf = true → s.nvq.contains 0 = true → Runs (.nvboot src 0xB0D5#16) s fun t => t.nvq = s.nvq ∧
      t.g F.RST_NVSTAT_RES = 1) ∧
    (bootHead s.obuf = true → s.nvq.contains 0 = false → Runs (.nvboot src 0xB0D5#16) s fun t => ∃ body : List Byte,
      body = (s.obuf.take 2 ++ leBytes 2 (nvNext s.bootNow) ++ s.obuf.drop 4).take 0x7C ∧
      t.rst = { s.rst with imgBoot := body ++ leBytes 4 (crc32 body) } ∧ t.nvq = s.nvq ++ [0] ∧
      t.g F.RST_NVSTAT_RES = 0 ∧ RegsBut [(F.RST_NVSTAT_RES, 0)] s t) ∧
    (s.nvq.contains 1 = true → Runs (.nvsafe src 0xB0D5#16) s fun t => t.nvq = s.nvq ∧ t.g F.RST_NVSTAT_RES = 1) ∧
    (s.nvq.contains 1 = false → Runs (.nvsafe src 0xB0D5#16) s fun t => t.nvq = s.nvq ++ [1] ∧
      t.rst = { s.rst with imgSafe := s.safeRecord } ∧ t.g F.RST_NVSTAT_RES = 0 ∧ RegsBut [(F.RST_NVSTAT_RES, 0)] s t)) ∧
  (∀ s, s.rst.confirm = true → s.inRun = true → s.gb F.RST_STAT_CONFIRMED = false → (1000 * msU : Nat) ≤ tdiff s.now s.rst.runAt →
    ∀ u, s.rst.trackAt = some u → (msU : Int) ≤ tdiff s.now u →
    Runs .autoConfirm s fun t => t.gb F.RST_STAT_CONFIRMED = true ∧ t.g F.RST_STAT_FSC = 0) ∧
  (∀ s, s.rst.confirm = false ∨ s.rst.trackAt = none ∨ tdiff s.now s.rst.runAt < (1000 * msU : Nat) → Runs .autoConfirm s fun t => t = s) ∧
  (∀ s kind q a len chk img, s.nvq = kind :: q → (kind = 0 ∨ kind = 1) → s.nvTarget kind = some (a, len, chk) →
    img = (if kind = 0 then s.rst.imgBoot else s.rst.imgSafe) → img.length = len →
    (Runs (.nvmWriteDone true) s fun t => t.nvq = q ∧ (∀ i, (h : i < img.length) → t.nvmByte (a + i) = img[i]) ∧
      (∀ x, x < a ∨ a + len ≤ x → t.nvmByte x = s.nvmByte x) ∧ bitOf (t.g F.RST_STKY_BITS) 4 = true) ∧
    (Runs (.nvmWriteDone false) s fun t => t.nvq = q ∧ (∀ x, x < a ∨ a + len ≤ x → t.nvmByte x = s.nvmByte x) ∧
      t.g F.RST_NVSTAT_RES = 3 ∧ bitOf (t.g F.RST_STKY_BITS) 5 = true)) ∧
  (∀ s q a len chk, s.nvq = 3 :: q → s.nvTarget 3 = some (a, len, chk) → s.snt.image.length = len → s.snt.again = false →
    (Runs (.nvmWriteDone true) s fun t => t.nvq = q ∧ (∀ i, (h : i < s.snt.image.length) → t.nvmByte (a + i) = s.snt.image[i]) ∧
      (∀ x, x < a ∨ a + len ≤ x → t.nvmByte x = s.nvmByte x) ∧ t.gb F.INT_STKY_MAPDONE = true) ∧
    (Runs (.nvmWriteDone false) s fun t => t.nvq = q ∧ (∀ x, x < a ∨ a + len ≤ x → t.nvmByte x = s.nvmByte x) ∧
      t.g F.INT_MAPSTAT_RES = 2 ∧ t.gb F.INT_STKY_MAPFAIL = true)) ∧
  (∀ ok s, s.nvq = [] → Runs (.nvmWriteDone ok) s fun t => t = s) ∧
  (∀ ok s q, s.nvq = 2 :: q → Runs (.nvmWriteDone ok) s fun t => t = s) ∧
  (∀ src (value : BitVec 32) s, s.reaches 0x1000 = true →
    (value = 0x5AC3#32 → Runs (.wdkick src value) s fun t => t.rst = { s.rst with wdAt := tadd s.now src.sub } ∧ RegsBut [] s t) ∧
    (value ≠ 0x5AC3#32 → Runs (.wdkick src value) s fun t => t.rst = s.rst ∧ RegsBut [] s t) ∧
    (Runs (.wdcfgWrite src value) s fun t => t.g F.RST_WDCFG_TMO = value.toNat % 65536 ∧
      t.rst = { s.rst with wdOn := decide (value.toNat % 65536 ≠ 0) && !s.dormant, wdAt := tadd s.now src.sub } ∧
      RegsBut [(F.RST_WDCFG_TMO, 0)] s t)) ∧
  (∀ s, s.rst.wdOn = true → s.rst.warm = false → s.dormant = false → (s.g F.RST_WDCFG_TMO * msU : Nat) ≤ tdiff s.now s.rst.wdAt →
    Runs .watchdogExpiry s fun t => t.rst.warm = true ∧ t.gb F.RST_CAUSE_WDT = true ∧ t.now = s.now) ∧
  (∀ s, s.rst.wdOn = false ∨ s.rst.warm = true ∨ s.dormant = true ∨ tdiff s.now s.rst.wdAt < (s.g F.RST_WDCFG_TMO * msU : Nat) → Runs .watchdogExpiry s fun t => t = s) ∧
  (∀ s, s.rst.buOn = true → s.rst.warm = false → s.dormant = false → s.gb F.RST_STAT_CONFIRMED = false →
    (s.rst.buwd * 100 * msU : Nat) ≤ tdiff s.now s.rst.buAt →
    Runs .bringupWatchdogExpiry s fun t => t.rst.warm = true ∧ t.gb F.RST_CAUSE_BUWDT = true) ∧
  (∀ s, s.rst.buOn = false ∨ s.rst.warm = true ∨ s.dormant = true ∨ s.gb F.RST_STAT_CONFIRMED = true ∨
    tdiff s.now s.rst.buAt < (s.rst.buwd * 100 * msU : Nat) → Runs .bringupWatchdogExpiry s fun t => t = s)

/-- The end of a bring-up step begins the next; a stand-alone strap with no record gives
every port RESOLVER mode and its driver; a Dormant strap latches Dormant mode and resets; step 3 goes to Dormant mode
under the latch, waits for OPTLOAD on a host-loaded start, else converts; step 8 ends in RUN. The loss of the core
clock resets with CLKFAIL; with its reference lost STIME restarts with TLOST when the clock qualifies; the loss of the
other reference or of the PHY supplies takes the link down. While one of three instructions of the test access port is
loaded, TPA and TPB are low and FTRIP is high on the balls; its reset selects IDCODE. Rests on: R454, R464, R467,
R471, R472, R473, R476, R477, R515, R516, R528. -/
def Obligations.BringUpClocksSuppliesAndTap : Prop :=
  (∀ s, s.g F.GLB_STATUS_MODE ≠ 0 ∨ s.rst.warm = true ∨ s.stepOver (max 1 (s.g F.RST_STAT_STEP)) = false →
    Runs .bringupStepEnd s fun t => t = s) ∧
  (∀ s, s.g F.GLB_STATUS_MODE = 0 → s.rst.warm = false → s.stepOver (max 1 (s.g F.RST_STAT_STEP)) = true →
    (s.g F.RST_STAT_STEP = 1 → s.gb F.RST_STAT_DLATCH = false → s.rst.ovr = none → s.bootCopy 0 = .empty → s.bootCopy 1 = .empty →
      (s.g F.RST_BOOT_SBOOT = 2 → Runs .bringupStepEnd s fun t => t.g F.RST_STAT_STEP = 2 ∧ t.g F.RST_STAT_BOOTSRC = 2 ∧
        t.gb F.RST_BOOT_USED = true ∧ (∀ n, n < 16 → t.g F.PRT_CFG_MODE n = 1 ∧ t.gb F.EXC_CFG_ENABLE n = true) ∧
        (∀ i, i < 8 → t.gb F.EMU_CFG_ENABLE i = true)) ∧
      (s.g F.RST_BOOT_SBOOT = 3 → Runs .bringupStepEnd s fun t => t.g F.RST_STAT_STEP = 2 ∧ t.g F.RST_STAT_BOOTSRC = 1) ∧
      (s.g F.RST_BOOT_SBOOT = 0 → Runs .bringupStepEnd s fun t => t.rst.warm = true ∧ t.gb F.RST_STAT_DLATCH = true ∧
        t.gb F.RST_CAUSE_DSTRAP = true)) ∧
    (s.g F.RST_STAT_STEP = 2 → Runs .bringupStepEnd s fun t => t.g F.RST_STAT_STEP = 3 ∧ t.smOn = true) ∧
    (s.g F.RST_STAT_STEP = 3 → s.gb F.RST_STAT_DLATCH = true → Runs .bringupStepEnd s fun t => t.g F.GLB_STATUS_MODE = 2 ∧
      t.g F.RST_STAT_STEP = 0 ∧ t.rst.buOn = false ∧ t.rst.wdOn = false ∧ t.host.released = (s.host.released || s.gb F.RST_STAT_CLKQ) ∧
      bitOf (t.g F.RST_STKY_BITS) 12 = true) ∧
    (s.g F.RST_STAT_STEP = 3 → s.gb F.RST_STAT_DLATCH = false → s.g F.RST_STAT_BOOTSRC = 1 → Runs .bringupStepEnd s fun t =>
      t.rst.wait = true ∧ t.g F.RST_STAT_STEP = 3 ∧ t.host.released = true) ∧
    (s.g F.RST_STAT_STEP = 3 → s.gb F.RST_STAT_DLATCH = false → s.g F.RST_STAT_BOOTSRC ≠ 1 → Runs .bringupStepEnd s fun t =>
      t.g F.RST_STAT_STEP = 4 ∧ t.adcOn = true ∧ t.k = 0 ∧ t.kB = 0 ∧ t.s0 = 0) ∧
    (∀ k, 4 ≤ k → k ≤ 7 → s.g F.RST_STAT_STEP = k → Runs .bringupStepEnd s fun t => t.g F.RST_STAT_STEP = k + 1 ∧
      t.g F.GLB_STATUS_MODE = 0) ∧
    (s.g F.RST_STAT_STEP = 8 → Runs .bringupStepEnd s fun t => t.g F.GLB_STATUS_MODE = 1 ∧ t.g F.RST_STAT_STEP = 10 ∧
      t.gb F.GLB_DIAG_SRAM_WR = false ∧ t.host.released = true ∧ t.rst.runAt = s.now ∧ bitOf (t.g F.RST_STKY_BITS) 0 = true)) ∧
  (∀ s, (Runs (.clockFailure 0) s fun t => t.rst.warm = true ∧ t.rst.lost = s.rst.lost ∧ t.gb F.RST_STAT_CLKQ = false ∧
      t.gb F.RST_CAUSE_CLKFAIL = true) ∧
    (Runs (.clockFailure 1) s fun t => t.rst.warm = true ∧ t.rst.lost = true ∧ t.gb F.RST_STAT_CLKQ = false ∧
      t.gb F.RST_CAUSE_CLKFAIL = true) ∧
    (s.g F.RST_STAT_CLKSRC = 2 → Runs (.clockFailure 2) s fun t => t.rst.warm = true ∧ t.rst.lost = true ∧
      t.gb F.RST_STAT_CLKQ = false ∧ t.gb F.RST_CAUSE_CLKFAIL = true) ∧
    (s.g F.RST_STAT_CLKSRC ≠ 2 → s.rst.warm = false → Runs (.clockFailure 2) s fun t => t.rst = s.rst ∧
      t.gb F.RST_STAT_PHYQ = false ∧ t.host.up = false ∧ bitOf (t.g F.RST_STKY_BITS) 6 = true) ∧
    (s.g F.RST_STAT_CLKSRC ≠ 2 → s.rst.warm = true → Runs (.clockFailure 2) s fun t => t = s.here)) ∧
  (∀ s, s.g F.GLB_STATUS_MODE = 0 → s.rst.warm = false → s.g F.RST_STAT_STEP ≤ 1 → s.gb F.RST_STAT_CLKQ = false →
    s.gb F.RST_STAT_DLATCH = false → (100 * msU : Nat) ≤ tdiff s.now s.rst.relAt →
    Runs .clockQualifyTimeout s fun t => t.rst.warm = true ∧ t.gb F.RST_CAUSE_CLKFAIL = true) ∧
  (∀ s, s.g F.GLB_STATUS_MODE ≠ 0 ∨ s.rst.warm = true ∨ s.gb F.RST_STAT_CLKQ = true ∨ s.gb F.RST_STAT_DLATCH = true ∨ tdiff s.now s.rst.relAt < (100 * msU : Nat) →
    Runs .clockQualifyTimeout s fun t => t = s) ∧
  (∀ s, s.rst.warm = false →
    (s.rst.lost = false → Runs (.clockQualification 0) s fun t => t.gb F.RST_STAT_CLKQ = true ∧ t.now = s.now ∧
      RegsBut [(F.RST_STAT_CLKQ, 0), (F.RST_CLK_DEV, 0)] s t) ∧
    (s.rst.lost = true → Runs (.clockQualification 0) s fun t => t.gb F.RST_STAT_CLKQ = true ∧ t.now = 0 ∧
      t.gb F.RST_CAUSE_TLOST = true ∧ t.rst.lost = false ∧ RegsBut [(F.RST_STAT_CLKQ, 0), (F.RST_CLK_DEV, 0), (F.RST_CAUSE_TLOST, 0)] s t) ∧
    (Runs (.clockQualification 0) s fun t => -200 ≤ t.gi F.RST_CLK_DEV ∧ t.gi F.RST_CLK_DEV ≤ 200 ∧
      t.host.released = (s.host.released || s.dormant))) ∧
  (∀ s, s.rst.warm = true → Runs (.clockQualification 0) s fun t => t = s) ∧
  (∀ s, s.dormant = true → s.gb F.RST_STAT_CLKQ = false →
    (Runs (.clockQualification 1) s fun t => t.gb F.RST_STAT_PHYQ = true ∧ t.gb F.RST_STAT_CLKQ = true ∧ t.g F.RST_STAT_CLKSRC = 2) ∧
    (Runs (.clockQualification 2) s fun t => t.gb F.RST_STAT_CLKQ = true ∧ t.g F.RST_STAT_CLKSRC = 0)) ∧
  (∀ s, s.dormant = false ∨ s.gb F.RST_STAT_CLKQ = true →
    (Runs (.clockQualification 1) s fun t => t.gb F.RST_STAT_PHYQ = true ∧ RegsBut [(F.RST_STAT_PHYQ, 0)] s t) ∧
    (Runs (.clockQualification 2) s fun t => t = s)) ∧
  (∀ rail s, (s.rst.warm = false → Runs (.supplyWarning rail) s fun t => bitOf (t.g F.RST_STKY_BITS) 7 = true ∧ t.rst = s.rst) ∧
    (s.rst.warm = true → Runs (.supplyWarning rail) s fun t => t = s)) ∧
  (∀ s, (Runs .phySupplyFail s fun t => t.rst = { s.rst with phyOk := false } ∧ (s.rst.warm = false → t.host.up = false)) ∧
    (Runs .phySupplyReturn s fun t => t.rst = { s.rst with phyOk := true } ∧ RegsBut [] s t)) ∧
  (∀ (code : BitVec 4) s, s.tapHolds = false →
    (code = 0#4 ∨ code = 4#4 ∨ code = 5#4 → Runs (.tapInstruction (.load code)) s fun t => t.tap.ir = code ∧
      t.outbox = .ball "TPA" 0 s.now :: .ball "TPB" 0 s.now :: .ball "FTRIP" 1 s.now :: s.outbox ∧ RegsBut [] s t) ∧
    (code ≠ 0#4 → code ≠ 4#4 → code ≠ 5#4 → Runs (.tapInstruction (.load code)) s fun t =>
      t.tap.ir = code ∧ t.outbox = s.outbox ∧ RegsBut [] s t)) ∧
  (∀ (code : BitVec 4) s, s.tapHolds = true → code ≠ 0#4 → code ≠ 4#4 → code ≠ 5#4 →
    Runs (.tapInstruction (.load code)) s fun t => t.tap.ir = code ∧ RegsBut [] s t ∧
      t.outbox = .ball "TPA" (2 * s.g F.SAF_STAT_PERM_A) s.now :: .ball "TPB" (2 * s.g F.SAF_STAT_PERM_B) s.now ::
        .ball "FTRIP" (b2n t.ftripLevel) s.now :: s.outbox) ∧
  (∀ s, Runs (.tapInstruction .reset) s fun t => t.tap.ir = 2#4 ∧ tapReg t.tap.ir = .idcode ∧ RegsBut [] s t)

/-- A request answers BUSY for a repeated target or a full queue, NOSPARE without a spare,
BAD for a target that is not in use or outside RUN, else it queues and begins where none runs: with the lowest free
spare, or with the notice of a leg. A slice swap calibrates its spare over 5000 samples and fits it over 5000 of
parallel sampling, a spare whose own calibration fails is marked, then the spare takes the place of the slice in the
live map; an engine swap loads the spare at a boundary and serves the port at the first boundary at least 25 samples
later, after a hard failure at the next one. Three mismatches in succession lose the track of an engine and, with
AUTO_ENG, ask for a swap. Rests on: R490, R491, R492, R493, R494, R495. -/
def Obligations.SwapsOfSlicesEnginesAndLegs : Prop :=
  (∀ src value s, s.reaches 0x16000 = true → bitOf value.toNat 31 = false ∨ value.toNat % 4 = 3 →
    Runs (.swapRequest src value) s fun t => t.snt = s.snt ∧ RegsBut [] s t) ∧
  (∀ src value s (w : Swap), s.reaches 0x16000 = true → bitOf value.toNat 31 = true → value.toNat % 4 < 3 →
    w = { kind := value.toNat % 4, tgt := bitsOf value.toNat 8 6, leg := bitsOf value.toNat 16 2 } →
    (s.snt.q.any w.same = true ∨ 4 ≤ s.snt.q.length ∨ (∃ x, s.snt.run = some x ∧ w.same x.sw = true) → Runs (.swapRequest src value) s fun t =>
      t.snt = s.snt ∧ t.g F.INT_SWRES_RES = 1 ∧ RegsBut [(F.INT_SWRES_RES, 0)] s t) ∧
    (s.snt.run = none → s.snt.q = [] → w.kind < 2 → s.nextSpare w.kind = none → Runs (.swapRequest src value) s fun t =>
      t.snt.q = [] ∧ t.snt.run = none ∧ t.g F.INT_SWRES_RES = 2 ∧ t.gb F.INT_STKY_NOSPARE = true) ∧
    (s.snt.run = none → s.snt.q = [] → (w.kind = 2 ∨ (s.nextSpare w.kind).isSome = true) → s.swapTarget w = false ∨ s.inRun = false →
      Runs (.swapRequest src value) s fun t => t.snt = s.snt ∧ t.g F.INT_SWRES_RES = 3 ∧ RegsBut [(F.INT_SWRES_RES, 0)] s t) ∧
    (∀ i, s.snt.run = none → s.snt.q = [] → w.kind < 2 → s.nextSpare w.kind = some i → s.swapTarget w = true → s.inRun = true →
      Runs (.swapRequest src value) s fun t =>
        t.snt.run = some { sw := w, spare := (if w.kind = 0 then 32 else 16) + i, at' := tadd s.now src.sub } ∧ t.snt.q = [] ∧
        t.g F.INT_SWRES_RES = 0 ∧ t.gb F.INT_STAT_SWRUN = true ∧ t.g F.INT_STAT_SWKIND = w.kind ∧ t.g F.INT_STAT_SWTGT = w.tgt) ∧
    (s.snt.run = none → s.snt.q = [] → w.kind = 2 → s.swapTarget w = true → s.inRun = true → Runs (.swapRequest src value) s fun t =>
      t.snt.run = some { sw := w, at' := tadd s.now src.sub } ∧ (t.exc! w.tgt).retire = some (w.leg, tadd s.now src.sub) ∧
      t.g F.INT_SWRES_RES = 0) ∧
    (∀ r, s.snt.run = some r → w.same r.sw = false → s.snt.q.any w.same = false → s.snt.q.length < 4 →
      (w.kind = 2 ∨ (s.nextSpare w.kind).isSome = true) → s.swapTarget w = true → s.inRun = true →
      Runs (.swapRequest src value) s fun t => t.snt.q = s.snt.q ++ [w] ∧ t.snt.run = some r ∧ t.g F.INT_SWRES_RES = 0 ∧
        t.g F.INT_STAT_QLEN = s.snt.q.length + 1)) ∧
  (∀ ok par s, s.snt.run = none → (Runs (.sliceSwapStep ok par) s fun t => t = s) ∧ (Runs .sliceSwap s fun t => t = s) ∧
    (Runs .engineSwap s fun t => t = s)) ∧
  (∀ s r, s.snt.run = some r → r.sw.kind = 0 → (r.spare = 32 ∨ r.spare = 33) → r.phase = 0 → 5000 ≤ s.swpAcc.n →
    (Runs (.sliceSwapStep true false) s fun t => t.snt.run = some { r with phase := 1, at' := s.now } ∧ t.swpAcc = {} ∧
      vget t.cal r.spare = s.swpAcc.selfFit (vget s.cal r.spare) ∧ RegsBut [] s t) ∧
    (Runs (.sliceSwapStep false false) s fun t => t.gb F.INT_STKY_SWFAIL = true ∧ t.cal = s.cal ∧
      bitOf (t.g F.INT_SLMAP_MAP) (8 * (r.spare - 32) + 6) = true)) ∧
  (∀ ok s r, s.snt.run = some r → r.sw.kind = 0 → (r.spare = 32 ∨ r.spare = 33) → r.phase = 1 → 5000 ≤ s.swpAcc.n →
    Runs (.sliceSwapStep ok true) s fun t => t.snt.run = some { r with phase := 2, at' := s.now } ∧ t.swpAcc = {} ∧
      vget t.cal r.spare = (if s.snt.resOk.getD r.sw.tgt true then s.swpAcc.fit (vget s.cal r.spare) else vget s.cal r.spare)) ∧
  (∀ ok par s r, s.snt.run = some r → r.sw.kind ≠ 0 ∨ r.phase ≠ b2n par ∨ s.swpAcc.n < 5000 →
    Runs (.sliceSwapStep ok par) s fun t => t = s) ∧
  (∀ s r i, s.snt.run = some r → r.sw.kind = 0 → r.phase = 2 → r.spare = 32 + i → i < 2 → r.sw.tgt < 36 → s.snt.q = [] →
    Runs .sliceSwap s fun t => bitsOf (t.g F.INT_SLMAP_MAP) (8 * i) 6 = r.sw.tgt ∧ bitOf t.snt.badSl r.sw.tgt = true ∧
      t.snt.run = none ∧ t.gb F.INT_STKY_SWAP = true) ∧
  (∀ s r, s.snt.run = some r → r.sw.kind ≠ 0 ∨ r.phase ≠ 2 → Runs .sliceSwap s fun t => t = s) ∧
  (∀ s r, s.snt.run = some r → r.sw.kind = 1 → r.sw.tgt < 16 → r.phase = 0 → s.gb F.GLB_CSTAT_BUSY = false → s.bDone = true →
    Runs .engineSwap s fun t => t.snt.run = some { r with phase := 1, at' := s.k } ∧ t.engine r.sw.tgt = s.engine r.sw.tgt) ∧
  (∀ s r i, s.snt.run = some r → r.sw.kind = 1 → r.sw.tgt < 16 → r.phase = 1 → r.at' + (if r.sw.hard then 1 else 25) ≤ s.k → s.bDone = true →
    r.spare = 16 + i → i < 2 → s.engine r.sw.tgt < 16 → s.snt.q = [] → Runs .engineSwap s fun t =>
      t.engine r.sw.tgt = 16 + i ∧ bitsOf (t.g F.INT_ENGMAP_MAP) (8 * i) 5 = r.sw.tgt + 16 ∧
      bitOf t.snt.badEng (s.engine r.sw.tgt) = true ∧ t.snt.run = none ∧ t.gb F.INT_STKY_SWAP = true) ∧
  (∀ s r, s.snt.run = some r → r.sw.kind ≠ 1 ∨ s.bDone = false ∨ (r.phase = 0 ∧ s.gb F.GLB_CSTAT_BUSY = true) ∨
    (r.phase ≠ 0 ∧ s.k < r.at' + (if r.sw.hard then 1 else 25)) → Runs .engineSwap s fun t => t = s) ∧
  (∀ (m : Fin 18) s n, s.portOf m = some n → 3 ≤ (s.obs! m).misRun → (s.obs! m).dead = false →
    (s.gb F.INT_CFG_AUTO_ENG = false → Runs (.engineFailure m) s fun t => (t.obs! m).dead = true ∧ t.ost m = oLot) ∧
    (∀ i, s.gb F.INT_CFG_AUTO_ENG = true → s.inRun = true → s.snt.run = none → s.snt.q = [] → s.nextSpare 1 = some i →
      Runs (.engineFailure m) s fun t => (t.obs! m).dead = true ∧ ∃ r, t.snt.run = some r ∧
        r.sw = { kind := 1, tgt := n, hard := true } ∧ r.spare = 16 + i)) ∧
  (∀ (m : Fin 18) s, s.portOf m = none ∨ (((s.obs! m).misRun < 3 ∨ (s.obs! m).dead = true) ∧ (s.obs! m).misCnt < 4) →
    Runs (.engineFailure m) s fun t => t = s)

/-- A word read back as its code word decodes to itself, and one with one wrong symbol is
corrected. A scrub pass records its length; of the words it finds disturbed, a corrected one holds the code word again
and counts in CECNT with its address and symbol, an uncorrectable one counts in UECNT and is poisoned. A parity error
of a configuration register sets REGPAR. A row request queues its row once and asks for a map commit; a commit while
one waits answers 1, else queues a write of the live map. A monitor shows its value, three values beyond the limit set
AGE; hours and minutes count. Rests on: R485, R486, R487, R488, R496, R497, R499, R500. -/
def Obligations.MemoryRepairMapAndAging : Prop :=
  (∀ d : List Byte, d.length = 8 → eccDecode (eccEncode d) = .clean ∧
    ∀ i (e : Byte), i < 11 → e ≠ 0#8 → eccDecode ((eccEncode d).set i ((eccEncode d).getD i 0#8 ^^^ e)) = .fixed i (eccEncode d)) ∧
  (∀ s, s.poison = [] → Runs (.scrubPass []) s fun t => t.g F.INT_SCRUB_PASS = min ((tdiff s.now s.snt.scrubAt).toNat / 6400000) 65535 ∧
    t.snt.scrubAt = s.now ∧ t.snt.hist = [] ∧ RegsBut [(F.INT_SCRUB_PASS, 0)] s t) ∧
  (∀ (h : EccHit) s, s.poison = [] → s.eccRead h.word h.err = .bad → 0x25000 ≤ h.word → h.word < 0x26000 →
    Runs (.scrubPass [h]) s fun t =>
    t.poison = [h.word] ∧ t.g F.INT_UECNT_COUNT = min (s.g F.INT_UECNT_COUNT + 1) (2 ^ 24 - 1) ∧
    t.g F.INT_UEADDR_WORD = h.word ∧ t.gb F.INT_STKY_UE = true ∧ t.g F.INT_CECNT_COUNT = s.g F.INT_CECNT_COUNT) ∧
  (∀ (h : EccHit) s w s', s' < 11 → s.poison = [] → s.eccRead h.word h.err = .fixed s' w → h.word < 0x30000 →
    (s.snt.hist.any fun x => decide (x.1 = h.word) && decide (x.2.1 = s')) = false → Runs (.scrubPass [h]) s fun t =>
    t.sramBytes (8 * h.word) 8 = (w.drop 3).take 8 ∧ t.g F.INT_CECNT_COUNT = min (s.g F.INT_CECNT_COUNT + 1) (2 ^ 24 - 1) ∧
    t.g F.INT_CEADDR_WORD = h.word ∧ t.g F.INT_CEADDR_SYM = s' ∧ t.gb F.INT_STKY_CE = true ∧
    t.snt.hist = [(h.word, s', 1)] ∧ t.snt.rows = s.snt.rows) ∧
  (∀ s, Runs (.registerParityCheck none) s fun t => t = s) ∧
  (∀ a s, (hasAcc a .rw = true ∨ hasAcc a .rwk = true → Runs (.registerParityCheck (some a)) s fun t =>
      t.gb F.INT_STKY_REGPAR = true ∧ t.safPar = (s.safPar || inImage a) ∧ t.actA = s.actA ∧ t.actB = s.actB) ∧
    (hasAcc a .rw = false → hasAcc a .rwk = false → Runs (.registerParityCheck (some a)) s fun t =>
      t = (if inImage a then { s with safPar := true } else s))) ∧
  (∀ src value s b r, s.reaches 0x16000 = true → b = value.toNat % 2 ^ 18 / 16384 → r = value.toNat % 16384 / 32 →
    (bitOf value.toNat 31 = true → b < 12 → s.snt.rows.contains (b, r) = false → s.gb F.INT_ROWB_FULL b = false →
      Runs (.rowreq src value) s fun t => t.snt.rows = s.snt.rows ++ [(b, r)] ∧
        t.g F.INT_ROWB_PEND b = (s.g F.INT_ROWB_PEND b + 1) % 128 ∧ t.gb F.INT_STKY_ROWQ = true ∧ t.nvq.contains 3 = true) ∧
    (bitOf value.toNat 31 = false ∨ 12 ≤ b ∨ s.snt.rows.contains (b, r) = true ∨ s.gb F.INT_ROWB_FULL b = true →
      Runs (.rowreq src value) s fun t => t.snt = s.snt ∧ t.nvq = s.nvq ∧ RegsBut [] s t)) ∧
  (∀ src s, s.reaches 0x16000 = true →
    (s.nvq.contains 3 = true → Runs (.mapCommit src) s fun t => t.g F.INT_MAPSTAT_RES = 1 ∧ t.nvq = s.nvq ∧ t.snt = s.snt) ∧
    (s.nvq = [] → s.snt.image = [] → Runs (.mapCommit src) s fun t => t.g F.INT_MAPSTAT_RES = 0 ∧ t.nvq = [3] ∧
      t.snt = { s.snt with image := s.mapImage }) ∧
    (s.nvq ≠ [] → s.nvq.contains 3 = false → Runs (.mapCommit src) s fun t => t.g F.INT_MAPSTAT_RES = 0 ∧
      t.nvq = s.nvq ++ [3] ∧ t.snt = s.snt)) ∧
  (∀ s, (86400000 * msU : Nat) ≤ tdiff s.now s.snt.dayAt → s.nvq.contains 3 = false → Runs .mapCommitDaily s fun t =>
    t.snt.dayAt = s.now ∧ t.nvq = s.nvq ++ [3] ∧ RegsBut [] s t) ∧
  (∀ s, tdiff s.now s.snt.dayAt < (86400000 * msU : Nat) → Runs .mapCommitDaily s fun t => t = s) ∧
  (∀ (i : Fin 8) d s, Runs (.agingMeasure (.ringOsc i d)) s fun t => t.g F.INT_RO_DRIFT i = enc 16 (satS 16 d) ∧
    (s.g F.INT_AGELIM_RO_LIM * 10 < d.natAbs → 2 ≤ s.snt.age.getD i 0 → t.gb F.INT_STKY_AGE = true) ∧
    (d.natAbs ≤ s.g F.INT_AGELIM_RO_LIM * 10 → t.gb F.INT_STKY_AGE = s.gb F.INT_STKY_AGE)) ∧
  (∀ v s, (Runs (.agingMeasure (.bandgap v)) s fun t => t.g F.INT_BGAP_VAL = enc 16 (satS 16 v) ∧
      (s.g F.INT_AGELIM_BG_LIM * 10 < v.natAbs → 2 ≤ s.snt.age.getD 8 0 → t.gb F.INT_STKY_AGE = true)) ∧
    (Runs (.agingMeasure (.adcRef v)) s fun t => t.g F.INT_ADCREF_VAL = enc 16 (satS 16 v) ∧
      (s.g F.INT_AGELIM_REF_LIM * 10 < v.natAbs → 2 ≤ s.snt.age.getD 9 0 → t.gb F.INT_STKY_AGE = true)) ∧
    (Runs (.agingMeasure (.junction v)) s fun t => t.g F.INT_TJ_VAL = enc 16 (satS 16 v) ∧
      t.gb F.INT_STKY_AGE = s.gb F.INT_STKY_AGE)) ∧
  (∀ s, (Runs (.healthCount true) s fun t => t.g F.INT_HOURS_COUNT = min (s.g F.INT_HOURS_COUNT + 1) (2 ^ 31 - 1)) ∧
    (∀ k, k = tjBand (s.gi F.INT_TJ_VAL) → Runs (.healthCount false) s fun t =>
      t.g F.INT_TJB_COUNT k = min (s.g F.INT_TJB_COUNT k + 1) (2 ^ 31 - 1) ∧ t.g F.INT_HOURS_COUNT = s.g F.INT_HOURS_COUNT))

/-- On the grid of ASH_PER the record takes the entries of its ports while it records or is in POST.
While it records a due trigger cause or TRIG writes a TRIG entry, shows the cause and its place, and the record goes
to POST for POST entries, or to FROZEN at once for POST 0; in POST and FROZEN a further trigger counts; ARM resumes
from FROZEN alone; an entry moves the write place by one and changes no other place. Rests on: R501, R502, R503. -/
def Obligations.AshRecordStates : Prop :=
  (∀ s, s.gb F.INT_CFG_ASH_EN = false ∨ (s.g F.INT_ASHTCNT_STATE ≠ 1 ∧ s.g F.INT_ASHTCNT_STATE ≠ 2) ∨
      0 ≤ tdiff (s.gridAt (s.g F.INT_ASHCFG_ASH_PER * 10 * usU)) (tadd s.now sampleU) ∨
      s.snt.decAt = s.gridAt (s.g F.INT_ASHCFG_ASH_PER * 10 * usU) + 1 →
    Runs .ashEntry s fun t => t = s) ∧
  (∀ s p, p = s.gridAt (s.g F.INT_ASHCFG_ASH_PER * 10 * usU) → s.gb F.INT_CFG_ASH_EN = true →
    (s.g F.INT_ASHTCNT_STATE = 1 ∨ s.g F.INT_ASHTCNT_STATE = 2) → tdiff p (tadd s.now sampleU) < 0 → s.snt.decAt ≠ p + 1 → Runs .ashEntry s fun t => ∃ u : State,
      u.snt = { s.snt with decAt := p + 1 } ∧ u.t = p ∧ RegsBut [] s u ∧
      t = (u.each 16 fun v n => if bitOf (v.g F.INT_ASHCFG_ASH_PORTS) n then v.ashDec n else v).ashFlush) ∧
  (∀ (s : State) bs, s.ashOpen = true → s.g F.INT_ASHTCNT_STATE = 1 → s.g F.INT_ASHSTAT_WPTR < 32767 →
    (s.ashPut bs).g F.INT_ASHSTAT_WPTR = s.g F.INT_ASHSTAT_WPTR + 1 ∧
    (∀ a, a < 32 * s.g F.INT_ASHSTAT_WPTR ∨ 32 * s.g F.INT_ASHSTAT_WPTR + 32 ≤ a → (padTo 30 bs).length = 30 →
      (s.ashPut bs).sramByte a = s.sramByte a) ∧ (s.ashPut bs).snt.seq = (s.snt.seq + 1) % 256) ∧
  (∀ (cause : Fin 8) s, s.ashDue.testBit cause = true → cause.val ≠ 0 →
    (s.g F.INT_ASHTCNT_STATE = 1 → Runs (.ashTrigger cause) s fun t => t.g F.INT_ASHTCNT_CAUSE = cause.val ∧
      t.g F.INT_ASHSTAT_TPTR = s.g F.INT_ASHSTAT_WPTR ∧ t.g F.INT_ASHTCNT_STATE = (if s.g F.INT_ASHTRIG_POST = 0 then 3 else 2) ∧
      (s.g F.INT_ASHTRIG_POST ≠ 0 → t.snt.left = s.g F.INT_ASHTRIG_POST ∧ t.ashDue.testBit cause = false) ∧
      (s.g F.INT_ASHTRIG_POST = 0 → t.gb F.INT_STKY_ASHFRZ = true)) ∧
    (s.g F.INT_ASHTCNT_STATE = 2 ∨ s.g F.INT_ASHTCNT_STATE = 3 → Runs (.ashTrigger cause) s fun t =>
      t.g F.INT_ASHTCNT_COUNT = min (s.g F.INT_ASHTCNT_COUNT + 1) (2 ^ 24 - 1) ∧
      t.g F.INT_ASHTCNT_STATE = s.g F.INT_ASHTCNT_STATE ∧ t.sram = s.sram)) ∧
  (∀ (cause : Fin 8) s, s.ashDue.testBit cause = false ∨ cause.val = 0 → Runs (.ashTrigger cause) s fun t => t = s) ∧
  (∀ src s, s.reaches 0x16000 = true →
    (s.g F.INT_ASHTCNT_STATE = 3 → Runs (.arm src) s fun t => t.g F.INT_ASHTCNT_STATE = 1 ∧ RegsBut [(F.INT_ASHTCNT_STATE, 0)] s t) ∧
    (s.g F.INT_ASHTCNT_STATE ≠ 3 → Runs (.arm src) s fun t => RegsBut [] s t) ∧
    (s.g F.INT_ASHTCNT_STATE = 1 → Runs (.trig src) s fun t => t.g F.INT_ASHTCNT_CAUSE = 6 ∧
      t.g F.INT_ASHSTAT_TPTR = s.g F.INT_ASHSTAT_WPTR ∧ t.g F.INT_ASHTCNT_STATE = (if s.g F.INT_ASHTRIG_POST = 0 then 3 else 2)) ∧
    (s.g F.INT_ASHTCNT_STATE = 2 ∨ s.g F.INT_ASHTCNT_STATE = 3 → Runs (.trig src) s fun t =>
      t.g F.INT_ASHTCNT_COUNT = min (s.g F.INT_ASHTCNT_COUNT + 1) (2 ^ 24 - 1) ∧ t.sram = s.sram) ∧
    (s.g F.INT_ASHTCNT_STATE = 0 → Runs (.trig src) s fun t => t.sram = s.sram ∧ RegsBut [] s t))
end

