-- ==== Sys2Proof/Laws/Memory.lean ====
section
/-! SUPPORT. The laws of the sparse maps: a read after a write to the same key gives the value written, a write leaves
every other key alone, and every operation keeps the canonical form. -/

namespace Sys2Proof.Machine

variable {β : Type}

theorem SMap.get_erase_same (d : β) (m : List (Nat × β)) (k : Nat) : SMap.get d (SMap.erase m k) k = d := by
  induction m with
  | nil => rfl
  | cons p m ih =>
    obtain ⟨j, v⟩ := p
    by_cases h : j = k
    · simp [SMap.erase, h, ih]
    · simp [SMap.erase, SMap.get, h, ih]

theorem SMap.get_erase_other (d : β) (m : List (Nat × β)) {k j : Nat} (h : j ≠ k) :
    SMap.get d (SMap.erase m k) j = SMap.get d m j := by
  induction m with
  | nil => rfl
  | cons p m ih =>
    obtain ⟨i, v⟩ := p
    by_cases hi : i = k
    · subst hi; simp [SMap.erase, SMap.get, ih, Ne.symm h]
    · by_cases hj : i = j
      · subst hj; simp [SMap.erase, SMap.get, h]
      · simp [SMap.erase, SMap.get, hi, hj, ih]

theorem SMap.get_ins_same (d : β) (m : List (Nat × β)) (k : Nat) (v : β) (h : ∀ w, (k, w) ∉ m) :
    SMap.get d (SMap.ins m k v) k = v := by
  induction m with
  | nil => simp [SMap.ins, SMap.get]
  | cons p m ih =>
    obtain ⟨i, w⟩ := p
    have hi : i ≠ k := by
      intro e; exact h w (by simp [e])
    have hm : ∀ w, (k, w) ∉ m := fun w hw => h w (by simp [hw])
    by_cases hl : k < i
    · simp [SMap.ins, hl, SMap.get]
    · simp [SMap.ins, hl, SMap.get, hi, ih hm]

theorem SMap.get_ins_other (d : β) (m : List (Nat × β)) {k j : Nat} (v : β) (h : j ≠ k) :
    SMap.get d (SMap.ins m k v) j = SMap.get d m j := by
  induction m with
  | nil => simp [SMap.ins, SMap.get, Ne.symm h]
  | cons p m ih =>
    obtain ⟨i, w⟩ := p
    by_cases hl : k < i
    · simp [SMap.ins, hl, SMap.get, Ne.symm h]
    · simp [SMap.ins, hl, SMap.get, ih]

theorem SMap.not_mem_erase (m : List (Nat × β)) (k : Nat) (w : β) : (k, w) ∉ SMap.erase m k := by
  induction m with
  | nil => simp [SMap.erase]
  | cons p m ih =>
    obtain ⟨j, v⟩ := p
    by_cases h : j = k
    · simp [SMap.erase, h, ih]
    · simp [SMap.erase, h, ih, Ne.symm h]

/-- A read after a write to the same key gives the value written. -/
@[simp] theorem SMap.get_set_same [DecidableEq β] (d : β) (m : List (Nat × β)) (k : Nat) (v : β) :
    SMap.get d (SMap.set d m k v) k = v := by
  unfold SMap.set
  split
  · rename_i h; rw [SMap.get_erase_same, h]
  · exact SMap.get_ins_same d _ k v (SMap.not_mem_erase m k)

/-- A write leaves every other key alone. -/
theorem SMap.get_set_other [DecidableEq β] (d : β) (m : List (Nat × β)) {k j : Nat} (v : β) (h : j ≠ k) :
    SMap.get d (SMap.set d m k v) j = SMap.get d m j := by
  unfold SMap.set
  split
  · exact SMap.get_erase_other d m h
  · rw [SMap.get_ins_other d _ v h, SMap.get_erase_other d m h]

/-- Removing entries of other keys leaves a key alone. -/
theorem SMap.get_filter (d : β) (m : List (Nat × β)) {p : Nat × β → Bool} {k : Nat} (h : ∀ v, p (k, v) = true) :
    SMap.get d (m.filter p) k = SMap.get d m k := by
  induction m with
  | nil => rfl
  | cons q m ih =>
    obtain ⟨j, v⟩ := q
    by_cases hj : j = k
    · subst hj; simp [h, SMap.get]
    · cases hp : p (j, v) <;> simp [hp, SMap.get, hj, ih]

/-- The canonical form as a plain statement about the list. -/
theorem SMap.wf_iff [DecidableEq β] (d : β) (m : List (Nat × β)) :
    SMap.wf d m = true ↔ m.Pairwise (fun a b => a.1 < b.1) ∧ ∀ p ∈ m, p.2 ≠ d := by
  induction m with
  | nil => simp [SMap.wf]
  | cons p m ih =>
    obtain ⟨j, v⟩ := p
    cases m with
    | nil => simp [SMap.wf]
    | cons q m =>
      obtain ⟨k, w⟩ := q
      rw [SMap.wf, Bool.and_eq_true, Bool.and_eq_true, ih]
      simp only [decide_eq_true_eq, List.pairwise_cons, List.mem_cons, forall_eq_or_imp]
      constructor
      · rintro ⟨⟨h1, h2⟩, ⟨h3, h4⟩, h5, h6⟩
        exact ⟨⟨⟨h2, fun a ha => Nat.lt_trans h2 (h3 a ha)⟩, h3, h4⟩, h1, h5, h6⟩
      · rintro ⟨⟨⟨h2, _⟩, h3, h4⟩, h1, h5, h6⟩
        exact ⟨⟨h1, h2⟩, ⟨h3, h4⟩, h5, h6⟩

theorem SMap.mem_erase {m : List (Nat × β)} {k : Nat} {p : Nat × β} :
    p ∈ SMap.erase m k ↔ p ∈ m ∧ p.1 ≠ k := by
  induction m with
  | nil => simp [SMap.erase]
  | cons q m ih =>
    obtain ⟨j, v⟩ := q
    by_cases h : j = k
    · simp only [SMap.erase, h, if_true, ih, List.mem_cons]
      constructor
      · rintro ⟨h1, h2⟩; exact ⟨Or.inr h1, h2⟩
      · rintro ⟨rfl | h1, h2⟩
        · exact absurd rfl h2
        · exact ⟨h1, h2⟩
    · simp only [SMap.erase, h, if_false, ih, List.mem_cons]
      constructor
      · rintro (rfl | ⟨h1, h2⟩)
        · exact ⟨Or.inl rfl, h⟩
        · exact ⟨Or.inr h1, h2⟩
      · rintro ⟨rfl | h1, h2⟩
        · exact Or.inl rfl
        · exact Or.inr ⟨h1, h2⟩

theorem SMap.pairwise_erase {m : List (Nat × β)} (h : m.Pairwise (fun a b => a.1 < b.1)) (k : Nat) :
    (SMap.erase m k).Pairwise (fun a b => a.1 < b.1) := by
  induction m with
  | nil => simp [SMap.erase]
  | cons p m ih =>
    obtain ⟨j, v⟩ := p
    rw [List.pairwise_cons] at h
    by_cases hj : j = k
    · simp [SMap.erase, hj, ih h.2]
    · simp only [SMap.erase, hj, if_false, List.pairwise_cons]
      exact ⟨fun a ha => h.1 a (SMap.mem_erase.mp ha).1, ih h.2⟩

theorem SMap.mem_ins {m : List (Nat × β)} {k : Nat} {v : β} {p : Nat × β} :
    p ∈ SMap.ins m k v ↔ p = (k, v) ∨ p ∈ m := by
  induction m with
  | nil => simp [SMap.ins]
  | cons q m ih =>
    obtain ⟨j, w⟩ := q
    by_cases h : k < j
    · simp [SMap.ins, h]
    · simp only [SMap.ins, h, if_false, List.mem_cons, ih]
      constructor
      · rintro (h | h | h) <;> simp [h]
      · rintro (h | h | h) <;> simp [h]

theorem SMap.pairwise_ins {m : List (Nat × β)} (h : m.Pairwise (fun a b => a.1 < b.1)) (k : Nat) (v : β)
    (hk : ∀ p ∈ m, p.1 ≠ k) : (SMap.ins m k v).Pairwise (fun a b => a.1 < b.1) := by
  induction m with
  | nil => simp [SMap.ins]
  | cons p m ih =>
    obtain ⟨j, w⟩ := p
    rw [List.pairwise_cons] at h
    by_cases hl : k < j
    · simp only [SMap.ins, if_pos hl, List.pairwise_cons, List.mem_cons, forall_eq_or_imp]
      exact ⟨⟨hl, fun a ha => Nat.lt_trans hl (h.1 a ha)⟩, h.1, h.2⟩
    · have hjk : j < k := by have := hk (j, w) (by simp); simp at this; omega
      simp only [SMap.ins, if_neg hl, List.pairwise_cons]
      refine ⟨fun a ha => ?_, ih h.2 (fun p hp => hk p (by simp [hp]))⟩
      rcases SMap.mem_ins.mp ha with rfl | ha
      · exact hjk
      · exact h.1 a ha

/-- Every write keeps the canonical form. -/
theorem SMap.wf_set [DecidableEq β] (d : β) (m : List (Nat × β)) (k : Nat) (v : β) (h : SMap.wf d m = true) :
    SMap.wf d (SMap.set d m k v) = true := by
  rw [SMap.wf_iff] at h ⊢
  unfold SMap.set
  split
  · exact ⟨SMap.pairwise_erase h.1 k, fun p hp => h.2 p (SMap.mem_erase.mp hp).1⟩
  · rename_i hv
    refine ⟨SMap.pairwise_ins (SMap.pairwise_erase h.1 k) k v (fun p hp => (SMap.mem_erase.mp hp).2), ?_⟩
    intro p hp
    rcases SMap.mem_ins.mp hp with rfl | hp
    · exact hv
    · exact h.2 p (SMap.mem_erase.mp hp).1

end Sys2Proof.Machine
end

