-- ==== Sys2Proof/Laws/Keep.lean ====
section
/-! SUPPORT. What every command keeps. The stored contents of the device (register fields, SRAM, NVM, the active safety
images, the image that waits, STIME, the queue) change only by the operations of `Closed`; a property closed under them is kept by every
meaning. Flags: `N` the command may write NVM, `I` the active image, `T` may move STIME, `M` may write SRAM, `E` the Ash record (the SRAM
below 0x100000). -/

set_option linter.unusedVariables false

namespace Sys2Proof.Laws
open Sys2Proof.Machine

/-- The stored contents of the device. -/
structure Store where
  fields : List (Nat × Nat)
  sram : List Host.Cell
  nvm : List Host.Cell
  actA : List (Nat × Nat)
  actB : List (Nat × Nat)
  now : Nat
  pending : List Instr
  wait : Option (List (Nat × Nat))
  k : Nat
  bDone : Bool
  wrapped : Bool

/-- The stored contents of a state. -/
def store (s : State) : Store := ⟨s.fields, s.sram, s.nvm, s.actA, s.actB, s.now, s.pending, s.appWait, s.k, s.bDone, s.wrapped⟩

/-- A property of the stored contents holds of a state. -/
def Kept (Q : Store → Prop) (s : State) : Prop := Q (store s)

/-- A property that every change of the stored contents keeps. Register fields change in the blocks (4 KiB pages of
register addresses) of `W`. -/
structure Closed (N I T M E K : Prop) (W : Nat → Prop) (Q : Store → Prop) : Prop where
  field : ∀ c k v, W (keyPage k) → Q c → Q { c with fields := SMap.set 0 c.fields k v }
  keep : ∀ c p, (∀ x, p x = false → W (keyPage x.1)) → Q c → Q { c with fields := c.fields.filter p }
  ash : E → ∀ c a v, a < 0x100000 → Q c → Q { c with sram := SMap.set 0#8 c.sram a v }
  byte : M → ∀ c a v, Q c → Q { c with sram := SMap.set 0#8 c.sram a v }
  zero : M → ∀ c p, Q c → Q { c with sram := c.sram.filter p }
  nvm : N → ∀ c a v, Q c → Q { c with nvm := SMap.set nvmErased c.nvm a v }
  hold : ∀ c p, Q c → Q { c with wait := some (c.fields.filter p) }
  image : I → ∀ c img, c.wait = some img → Q c → Q { c with actA := img, actB := img, wait := none }
  blank : I → ∀ c, Q c → Q { c with actA := [], actB := [], wait := none }
  time : T → ∀ c t, Q c → Q { c with now := t }
  count : K → ∀ c k b w, Q c → Q { c with k := k, bDone := b, wrapped := w }

/-- Every instance of a field, and of the SAT flag beside it, lies in a block of `W`. -/
structure OkFld (W : Nat → Prop) (f : Fld) : Prop where
  page : ∀ n, W (keyPage (f.key n))
  satPage : ∀ n, W (keyPage (f.sat.key n))

variable {N I T M E K : Prop} {W : Nat → Prop} {Q : Store → Prop}

theorem keyPage_key {f : Fld} (hb : f.base < 131072) (hl : f.lo < 32) (n : Nat) : keyPage (f.key n) = f.base / 4096 := by
  unfold keyPage Fld.key
  omega

theorem ok_lit {f : Fld} (p : Nat) (h : f.base / 4096 = p ∧ f.base < 131072 ∧ f.lo < 32) (hw : W p) : OkFld W f :=
  ⟨fun n => by rw [keyPage_key h.2.1 h.2.2, h.1]; exact hw,
   fun n => by rw [keyPage_key (f := f.sat) h.2.1 (by decide : 31 < 32)]; exact h.1.symm ▸ hw⟩

theorem ok_all {f : Fld} (h : ∀ p, W p) : OkFld W f := ⟨fun _ => h _, fun _ => h _⟩

theorem ok_ite {p : Prop} [Decidable p] {f g : Fld} (hf : OkFld W f) (hg : OkFld W g) : OkFld W (if p then f else g) := by
  split
  · exact hf
  · exact hg

theorem ok_sat {f : Fld} (h : OkFld W f) : OkFld W f.sat := ⟨h.satPage, h.satPage⟩

theorem ok_PRT_LMON_VOLT {k : Nat} (h : W 4) : OkFld W (F.PRT_LMON_VOLT k) :=
  ok_lit 4 ⟨by simp only [F.PRT_LMON_VOLT]; omega, by simp only [F.PRT_LMON_VOLT]; omega, by simp only [F.PRT_LMON_VOLT]; decide⟩ h

theorem ok_PRT_LMON_STATUS {k : Nat} (h : W 4) : OkFld W (F.PRT_LMON_STATUS k) :=
  ok_lit 4 ⟨by simp only [F.PRT_LMON_STATUS]; omega, by simp only [F.PRT_LMON_STATUS]; omega, by simp only [F.PRT_LMON_STATUS]; decide⟩ h

theorem ok_EXC_LEG_RES {k : Nat} (h : W 5) : OkFld W (F.EXC_LEG_RES k) :=
  ok_lit 5 ⟨by simp only [F.EXC_LEG_RES]; omega, by simp only [F.EXC_LEG_RES]; omega, by simp only [F.EXC_LEG_RES]; decide⟩ h

theorem ok_EXC_LEG_LSTATE {k : Nat} (h : W 5) : OkFld W (F.EXC_LEG_LSTATE k) :=
  ok_lit 5 ⟨by simp only [F.EXC_LEG_LSTATE]; omega, by simp only [F.EXC_LEG_LSTATE]; omega, by simp only [F.EXC_LEG_LSTATE]; decide⟩ h

theorem ok_EXC_LEG_STATUS {k : Nat} (h : W 5) : OkFld W (F.EXC_LEG_STATUS k) :=
  ok_lit 5 ⟨by simp only [F.EXC_LEG_STATUS]; omega, by simp only [F.EXC_LEG_STATUS]; omega, by simp only [F.EXC_LEG_STATUS]; decide⟩ h

theorem ok_VNT_W_W {k : Nat} (h : W 14) : OkFld W (F.VNT_W_W k) :=
  ok_lit 14 ⟨by simp only [F.VNT_W_W]; omega, by simp only [F.VNT_W_W]; omega, by simp only [F.VNT_W_W]; decide⟩ h

theorem ok_curFld {i : Input} (h : W 4) : OkFld W (curFld i) := by
  cases i <;> exact ok_lit 4 (by decide) h

theorem ok_pendFld {i : Input} (h : W 4) : OkFld W (pendFld i) := by
  cases i <;> exact ok_lit 4 (by decide) h

theorem ok_permFld {i : Bool} (h : W 16) : OkFld W (permFld i) := by
  cases i <;> exact ok_lit 16 (by decide) h

theorem ok_causeFld {b : Nat} (h : W 1) : OkFld W (causeFld b) := by
  refine ok_ite (ok_lit 1 (by decide) h) (ok_lit 1 ⟨?_, ?_, ?_⟩ h)
  · show F.RST_CAUSE_BOR.base / 4096 = 1
    decide
  · show F.RST_CAUSE_BOR.base < 131072
    decide
  · exact Nat.mod_lt _ (by decide)

theorem ok_bit {i : Nat} (h : W 4) : OkFld W (F.PRT_LSTKY_OPEN_SN.bit i) := by
  refine ok_lit 4 ⟨?_, ?_, ?_⟩ h
  · show F.PRT_LSTKY_OPEN_SN.base / 4096 = 4
    decide
  · show F.PRT_LSTKY_OPEN_SN.base < 131072
    decide
  · exact Nat.mod_lt _ (by decide)

theorem fst_kept {α : Type} {x : State × α} {s : State} {b : α} (h : x = (s, b)) (hx : Kept Q x.1) : Kept Q s := by
  subst h; exact hx

theorem snd_kept {α : Type} {x : α × State} {s : State} {b : α} (h : x = (b, s)) (hx : Kept Q x.2) : Kept Q s := by
  subst h; exact hx

theorem trd_kept {α β : Type} {x : α × β × State} {s : State} {a : α} {b : β} (h : x = (a, b, s))
    (hx : Kept Q x.2.2) : Kept Q s := by
  subst h; exact hx

theorem foldl_kept {α : Type} {f : State → α → State} (l : List α) {s : State}
    (hf : ∀ s x, Kept Q s → Kept Q (f s x)) (hs : Kept Q s) : Kept Q (l.foldl f s) := by
  induction l generalizing s with
  | nil => exact hs
  | cons x l ih => exact ih (hf s x hs)

theorem foldl_kept1 {α β : Type} {f : State × β → α → State × β} (l : List α) {s : State × β}
    (hf : ∀ s x, Kept Q s.1 → Kept Q (f s x).1) (hs : Kept Q s.1) : Kept Q (l.foldl f s).1 := by
  induction l generalizing s with
  | nil => exact hs
  | cons x l ih => exact ih (hf s x hs)

theorem kept_mk {x0 x1 x2 x3 x4 x5 x6 x7 x8 x9 x10 x11 x12 x13 x14 x15 x16 x17 x18 x19 x20 x21 x22 x23 x24 x25 x26 x27 x28 x29
    x30 x31 x32 x33 x34 x35 x36 x37 x38 x39 x40 x41 x42 x43 x44 x45 x46 x47 x48 x49 x50 x51 x52 x53 x54 x55 x56
    x57 x58 x59 x60 x61 x62 x63 x64 x65 x66 x67 x68 x69 x70 x71 x72 x73 x74 x75 x76 x77 x78 x79 x80 x81 x82 x83
    x84 x85}
    (h : Q ⟨x2, x3, x4, x55, x56, x0, x84, x66, x8, x9, x6⟩) :
    Kept Q ⟨x0, x1, x2, x3, x4, x5, x6, x7, x8, x9, x10, x11, x12, x13, x14, x15, x16, x17, x18, x19, x20, x21, x22, x23,
    x24, x25, x26, x27, x28, x29, x30, x31, x32, x33, x34, x35, x36, x37, x38, x39, x40, x41, x42, x43, x44, x45,
    x46, x47, x48, x49, x50, x51, x52, x53, x54, x55, x56, x57, x58, x59, x60, x61, x62, x63, x64, x65, x66, x67,
    x68, x69, x70, x71, x72, x73, x74, x75, x76, x77, x78, x79, x80, x81, x82, x83, x84, x85⟩ := h

theorem kept_out {s : State} (h : Kept Q s) :
    Q ⟨s.fields, s.sram, s.nvm, s.actA, s.actB, s.now, s.pending, s.appWait, s.k, s.bDone, s.wrapped⟩ := h

theorem kept_ite {p : Prop} [Decidable p] {a b : State} (ha : Kept Q a) (hb : Kept Q b) : Kept Q (if p then a else b) := by
  split
  · exact ha
  · exact hb

theorem opt_ite {α : Type} {K : α → Prop} {p : Prop} [Decidable p] {x y : Option α} (hx : ∀ r, x = some r → K r)
    (hy : ∀ r, y = some r → K r) : ∀ r, (if p then x else y) = some r → K r := by
  split
  · exact hx
  · exact hy

theorem opt_some {α : Type} {K : α → Prop} {r0 : α} (h : K r0) : ∀ r, some r0 = some r → K r := by
  intro r hr
  cases hr
  exact h

theorem opt_none {α : Type} {K : α → Prop} : ∀ r, (none : Option α) = some r → K r := by
  intro r hr
  cases hr

theorem kept_w (c : Closed N I T M E K W Q) (s : State) (f : Fld) (n v : Nat) (hf : OkFld W f) (h : Kept Q s) :
    Kept Q (s.w f n v) :=
  c.field _ _ _ (hf.page n) h

theorem kept_each (c : Closed N I T M E K W Q) (s : State) (n : Nat) (f : State → Nat → State) (h : Kept Q s)
    (hf : ∀ s n, Kept Q s → Kept Q (f s n)) : Kept Q (s.each n f) :=
  have _ := c
  foldl_kept _ hf h

theorem kept_setSramByte (c : Closed N I T M E K W Q) (hM : M) (s : State) (a : Nat) (v : Byte) (h : Kept Q s) :
    Kept Q (s.setSramByte a v) :=
  c.byte hM _ _ _ h

theorem kept_setSramBytes (c : Closed N I T M E K W Q) (hM : M) (s : State) (a : Nat) (bs : List Byte) (h : Kept Q s) :
    Kept Q (s.setSramBytes a bs) := by
  induction bs generalizing s a with
  | nil => exact h
  | cons b bs ih => exact ih _ _ (kept_setSramByte c hM _ _ _ h)

theorem kept_zeroSram (c : Closed N I T M E K W Q) (hM : M) (s : State) (lo hi : Nat) (h : Kept Q s) : Kept Q (s.zeroSram lo hi) :=
  c.zero hM _ _ h

theorem kept_setNvmByte (c : Closed N I T M E K W Q) (hN : N) (s : State) (a : Nat) (v : Byte) (h : Kept Q s) :
    Kept Q (s.setNvmByte a v) :=
  c.nvm hN _ _ _ h

theorem kept_setNvmBytes (c : Closed N I T M E K W Q) (hN : N) (s : State) (a : Nat) (bs : List Byte) (h : Kept Q s) :
    Kept Q (s.setNvmBytes a bs) := by
  induction bs generalizing s a with
  | nil => exact h
  | cons b bs ih => exact ih _ _ (kept_setNvmByte c hN _ _ _ h)

end Sys2Proof.Laws
end

