-- ==== Sys2Proof/Laws/KeepPort.lean ====
section
/-! SUPPORT. What the operations of chapters 1 to 8 keep: each lemma follows the text of its definition. -/

set_option linter.all false

namespace Sys2Proof.Laws
open Sys2Proof.Machine

variable {N I T M E K : Prop} {W : Nat → Prop} {Q : Store → Prop}

theorem kept_wb (c : Closed N I T M E K W Q) (a0 : State) (a1 : Fld) (a2 : Nat) (a3 : Bool) (ha0 : Kept Q a0) (ha1 : OkFld W a1) : Kept Q (State.wb a0 a1 a2 a3) := by
  unfold State.wb
  repeat' with_reducible first
    | assumption | apply kept_w c

theorem kept_bump (c : Closed N I T M E K W Q) (a0 : State) (a1 : Fld) (a2 : Nat) (ha0 : Kept Q a0) (ha1 : OkFld W a1) : Kept Q (State.bump a0 a1 a2) := by
  unfold State.bump
  repeat' with_reducible first
    | assumption | exact ok_sat (by assumption) | apply kept_w c | apply kept_ite | split

theorem kept_setSram32 (c : Closed N I T M E K W Q) (hM : M) (a0 : State) (a1 : Nat) (a2 : Nat) (ha0 : Kept Q a0) : Kept Q (State.setSram32 a0 a1 a2) := by
  unfold State.setSram32
  repeat' with_reducible first
    | assumption | apply kept_setSramByte c hM

theorem kept_at (c : Closed N I T M E K W Q) (a0 : State) (a1 : Sys2Proof.Src) (ha0 : Kept Q a0) : Kept Q (State.at a0 a1) := by
  unfold State.at
  try lift_lets -underBinder
  repeat' with_reducible first
    | assumption | (intro x; refine (fun hx : Kept Q x => ?_) ?_; clear_value x) | (intro x; clear_value x)
    | (intro x; refine (fun hx : Kept Q x => ?_) ?_; rotate_left; unfold x) | (intro x)
    | exact kept_mk (kept_out (by with_reducible assumption)) | unfold x | lift_lets -underBinder

theorem kept_draw (c : Closed N I T M E K W Q) (a0 : State) (a1 : Nat) (ha0 : Kept Q a0) : Kept Q (State.draw a0 a1).2 := by
  unfold State.draw
  try lift_lets -underBinder
  repeat' with_reducible first
    | assumption | (intro x; refine (fun hx : Kept Q x => ?_) ?_; clear_value x)
    | (intro x; refine (fun hx : Kept Q x.1 => ?_) ?_; clear_value x) | (intro x; clear_value x)
    | (intro x; refine (fun hx : Kept Q x => ?_) ?_; rotate_left; unfold x) | (intro x)
    | exact kept_mk (kept_out (by with_reducible assumption)) | unfold x | lift_lets -underBinder

theorem kept_via (c : Closed N I T M E K W Q) (a0 : State) (a1 : Sys2Proof.Src) (a2 : Nat) (a3 : State → State) (ha0 : Kept Q a0) (ha3 : ∀ s, Kept Q s → Kept Q (a3 s)) : Kept Q (State.via a0 a1 a2 a3) := by
  unfold State.via
  try lift_lets -underBinder
  repeat' with_reducible first
    | assumption | (intro x; refine (fun hx : Kept Q x => ?_) ?_; clear_value x) | (intro x; clear_value x)
    | (intro x; refine (fun hx : Kept Q x => ?_) ?_; rotate_left; unfold x) | (intro x) | apply kept_at c
    | apply ha3 | apply kept_ite | split | unfold x | lift_lets -underBinder

theorem kept_cause (c : Closed N I T M E K W Q) (a0 : State) (a1 : Nat) (ha0 : Kept Q a0) : Kept Q (State.cause a0 a1) := by
  unfold State.cause
  try lift_lets -underBinder
  repeat' with_reducible first
    | assumption | (intro x; refine (fun hx : Kept Q x => ?_) ?_; clear_value x) | (intro x; clear_value x)
    | (intro x; refine (fun hx : Kept Q x => ?_) ?_; rotate_left; unfold x) | (intro x)
    | exact kept_mk (kept_out (by with_reducible assumption)) | apply kept_ite | split | unfold x
    | lift_lets -underBinder

theorem kept_statusBlock (c : Closed N I T M E K W Q) (a0 : State) (a1 : Nat) (ha0 : Kept Q a0) : Kept Q (State.statusBlock a0 a1) := by
  unfold State.statusBlock
  try lift_lets -underBinder
  repeat' with_reducible first
    | assumption | (intro x; refine (fun hx : Kept Q x => ?_) ?_; clear_value x) | (intro x; clear_value x)
    | (intro x; refine (fun hx : Kept Q x => ?_) ?_; rotate_left; unfold x) | (intro x)
    | exact kept_mk (kept_out (by with_reducible assumption)) | apply kept_ite | split | unfold x
    | lift_lets -underBinder

theorem kept_advance (c : Closed N I T M E K W Q) (hp2 : W 2) (a0 : State) (a1 : Nat) (a2 : Nat) (ha0 : Kept Q a0) : Kept Q (State.advance a0 a1 a2) := by
  unfold State.advance
  try lift_lets -underBinder
  repeat' with_reducible first
    | assumption | (intro x; refine (fun hx : Kept Q x => ?_) ?_; clear_value x) | (intro x; clear_value x)
    | (intro x; refine (fun hx : Kept Q x => ?_) ?_; rotate_left; unfold x) | (intro x)
    | exact ok_lit 2 (by decide) hp2 | apply kept_statusBlock c | apply kept_w c | apply kept_ite | split
    | unfold x | lift_lets -underBinder

theorem kept_stick (c : Closed N I T M E K W Q) (a0 : State) (a1 : Fld) (a2 : Nat) (a3 : State → State) (ha0 : Kept Q a0) (ha1 : OkFld W a1) (ha3 : ∀ s, Kept Q s → Kept Q (a3 s)) : Kept Q (State.stick a0 a1 a2 a3) := by
  unfold State.stick
  repeat' with_reducible first
    | assumption | apply kept_w c | apply ha3 | apply kept_ite | split

theorem kept_putRecord (c : Closed N I T M E K W Q) (hp2 : W 2) (a0 : State) (a1 : Nat) (a2 : List Sys2Proof.Byte) (ha0 : Kept Q a0) : Kept Q (State.putRecord a0 a1 a2) := by
  unfold State.putRecord
  try lift_lets -underBinder
  repeat' with_reducible first
    | assumption | (intro x; refine (fun hx : Kept Q x => ?_) ?_; clear_value x) | (intro x; clear_value x)
    | (intro x; refine (fun hx : Kept Q x => ?_) ?_; rotate_left; unfold x) | (intro x)
    | exact kept_mk (kept_out (by with_reducible assumption)) | apply kept_advance c hp2 | apply kept_cause c
    | apply kept_ite | split | unfold x | lift_lets -underBinder

theorem kept_dropCount (c : Closed N I T M E K W Q) (hp2 : W 2) (a0 : State) (a1 : Nat) (ha0 : Kept Q a0) : Kept Q (State.dropCount a0 a1) := by
  unfold State.dropCount
  repeat' with_reducible first
    | assumption | exact ok_lit 2 (by decide) hp2 | apply kept_bump c

theorem kept_bufClear (c : Closed N I T M E K W Q) (a0 : State) (ha0 : Kept Q a0) : Kept Q (State.bufClear a0) := by
  unfold State.bufClear
  try lift_lets -underBinder
  repeat' with_reducible first
    | assumption | (intro x; refine (fun hx : Kept Q x => ?_) ?_; clear_value x) | (intro x; clear_value x)
    | (intro x; refine (fun hx : Kept Q x => ?_) ?_; rotate_left; unfold x) | (intro x)
    | exact kept_mk (kept_out (by with_reducible assumption)) | apply kept_ite | split | unfold x
    | lift_lets -underBinder

theorem kept_recordQuiet (c : Closed N I T M E K W Q) (hp2 : W 2) (a0 : State) (a1 : Nat) (a2 : List Sys2Proof.Byte) (ha0 : Kept Q a0) : Kept Q (State.recordQuiet a0 a1 a2) := by
  unfold State.recordQuiet
  try lift_lets -underBinder
  repeat' with_reducible first
    | assumption | (intro x; refine (fun hx : Kept Q x => ?_) ?_; clear_value x) | (intro x; clear_value x)
    | (intro x; refine (fun hx : Kept Q x => ?_) ?_; rotate_left; unfold x) | (intro x)
    | exact ok_lit 2 (by decide) hp2 | apply kept_bufClear c | apply kept_dropCount c hp2
    | apply kept_putRecord c hp2 | apply kept_w c | apply kept_ite | split | unfold x | lift_lets -underBinder

theorem kept_ashNote (c : Closed N I T M E K W Q) (a0 : State) (a1 : Nat) (a2 : Fld) (ha0 : Kept Q a0) : Kept Q (State.ashNote a0 a1 a2) := by
  unfold State.ashNote
  try lift_lets -underBinder
  repeat' with_reducible first
    | assumption | (intro x; refine (fun hx : Kept Q x => ?_) ?_; clear_value x) | (intro x; clear_value x)
    | (intro x; refine (fun hx : Kept Q x => ?_) ?_; rotate_left; unfold x) | (intro x)
    | exact kept_mk (kept_out (by with_reducible assumption)) | apply kept_ite | split | unfold x
    | lift_lets -underBinder

theorem kept_endWaits (c : Closed N I T M E K W Q) (a0 : State) (a1 : Nat) (ha0 : Kept Q a0) : Kept Q (State.endWaits a0 a1) := by
  unfold State.endWaits
  try lift_lets -underBinder
  repeat' with_reducible first
    | assumption | (intro x; refine (fun hx : Kept Q x => ?_) ?_; clear_value x) | (intro x; clear_value x)
    | (intro x; refine (fun hx : Kept Q x => ?_) ?_; rotate_left; unfold x) | (intro x)
    | exact kept_mk (kept_out (by with_reducible assumption)) | apply kept_ite | split | unfold x
    | lift_lets -underBinder

theorem kept_noteEvent (c : Closed N I T M E K W Q) (a0 : State) (a1 : Nat) (ha0 : Kept Q a0) : Kept Q (State.noteEvent a0 a1) := by
  unfold State.noteEvent
  try lift_lets -underBinder
  repeat' with_reducible first
    | assumption | (intro x; refine (fun hx : Kept Q x => ?_) ?_; clear_value x) | (intro x; clear_value x)
    | (intro x; refine (fun hx : Kept Q x => ?_) ?_; rotate_left; unfold x) | (intro x) | apply kept_ashNote c
    | apply kept_endWaits c | apply kept_ite | split | unfold x | lift_lets -underBinder

theorem kept_ashBytes (c : Closed N I T M E K W Q) (hE : E) (s : State) (a : Nat) (bs : List Byte)
    (hb : a + bs.length ≤ 0x100000) (h : Kept Q s) : Kept Q (s.setSramBytes a bs) := by
  induction bs generalizing s a with
  | nil => exact h
  | cons b bs ih =>
    rw [List.length_cons] at hb
    exact ih _ _ (by omega) (c.ash hE _ a b (by omega) h)

theorem kept_ashWrite (c : Closed N I T M E K W Q) (hE : E) (hp22 : W 22) (s : State) (bs : List Byte) (h : Kept Q s) : Kept Q (s.ashWrite bs) := by
  unfold State.ashWrite
  lift_lets
  intro i body x
  have hx : Kept Q x := by
    refine kept_ashBytes c hE _ _ _ ?_ h
    have h1 : i < 32768 := Nat.mod_lt _ (by decide)
    have h2 : (body ++ leBytes 1 (crc8 body)).length = 32 := by
      simp [body, padTo, leBytes]
    rw [h2]
    omega
  clear_value x
  intro y
  have hy : Kept Q y := kept_w c _ _ _ _ (ok_lit 22 (by decide) hp22) hx
  clear_value y
  intro z
  have hz : Kept Q z := kept_ite (kept_w c _ _ _ _ (ok_lit 22 (by decide) hp22) hy) hy
  clear_value z
  exact hz

theorem kept_ashPut (c : Closed N I T M E K W Q) (hE : E) (hp22 : W 22) (a0 : State) (a1 : List Sys2Proof.Byte) (ha0 : Kept Q a0) : Kept Q (State.ashPut a0 a1) := by
  unfold State.ashPut
  try lift_lets -underBinder
  repeat' with_reducible first
    | assumption | (intro x; refine (fun hx : Kept Q x => ?_) ?_; clear_value x) | (intro x; clear_value x)
    | (intro x; refine (fun hx : Kept Q x => ?_) ?_; rotate_left; unfold x) | (intro x)
    | exact kept_mk (kept_out (by with_reducible assumption)) | exact ok_lit 22 (by decide) hp22
    | apply kept_ashWrite c hE hp22 | apply kept_w c | apply kept_ite | split | unfold x | lift_lets -underBinder

theorem kept_raise1 (c : Closed N I T M E K W Q) (hE : E) (hp2 : W 2) (hp22 : W 22) (hp3 : W 3) (a0 : State) (a1 : Nat) (a2 : Nat) (ha0 : Kept Q a0) : Kept Q (State.raise1 a0 a1 a2) := by
  unfold State.raise1
  try lift_lets -underBinder
  repeat' with_reducible first
    | assumption | (intro x; refine (fun hx : Kept Q x => ?_) ?_; clear_value x) | (intro x; clear_value x)
    | (intro x; refine (fun hx : Kept Q x => ?_) ?_; rotate_left; unfold x) | (intro x)
    | exact ok_lit 3 (by decide) hp3 | apply kept_ashPut c hE hp22 | apply kept_bump c | apply kept_cause c
    | apply kept_noteEvent c | apply kept_recordQuiet c hp2 | apply kept_w c | apply kept_ite | split | unfold x
    | lift_lets -underBinder

theorem kept_ashFlush (c : Closed N I T M E K W Q) (hE : E) (hp2 : W 2) (hp22 : W 22) (hp3 : W 3) (a0 : State) (ha0 : Kept Q a0) : Kept Q (State.ashFlush a0) := by
  unfold State.ashFlush
  try lift_lets -underBinder
  repeat' with_reducible first
    | assumption | (intro x; refine (fun hx : Kept Q x => ?_) ?_; clear_value x) | (intro x; clear_value x)
    | (intro x; refine (fun hx : Kept Q x => ?_) ?_; rotate_left; unfold x) | (intro x)
    | exact kept_mk (kept_out (by with_reducible assumption)) | exact ok_lit 22 (by decide) hp22
    | apply kept_raise1 c hE hp2 hp22 hp3 | apply kept_stick c | apply kept_ite | split | unfold x
    | lift_lets -underBinder

theorem kept_raise (c : Closed N I T M E K W Q) (hE : E) (hp2 : W 2) (hp22 : W 22) (hp3 : W 3) (a0 : State) (a1 : Nat) (a2 : Nat) (ha0 : Kept Q a0) : Kept Q (State.raise a0 a1 a2) := by
  unfold State.raise
  try lift_lets -underBinder
  repeat' with_reducible first
    | assumption | (intro x; refine (fun hx : Kept Q x => ?_) ?_; clear_value x) | (intro x; clear_value x)
    | (intro x; refine (fun hx : Kept Q x => ?_) ?_; rotate_left; unfold x) | (intro x)
    | apply kept_ashFlush c hE hp2 hp22 hp3 | apply kept_raise1 c hE hp2 hp22 hp3 | apply kept_ite | split
    | unfold x | lift_lets -underBinder

theorem kept_raiseReg (c : Closed N I T M E K W Q) (hE : E) (hp2 : W 2) (hp22 : W 22) (hp3 : W 3) (a0 : State) (a1 : Nat) (a2 : Nat) (ha0 : Kept Q a0) : Kept Q (State.raiseReg a0 a1 a2) := by
  unfold State.raiseReg
  repeat' with_reducible first
    | assumption | apply kept_raise c hE hp2 hp22 hp3

theorem kept_stickEv (c : Closed N I T M E K W Q) (hE : E) (hp2 : W 2) (hp22 : W 22) (hp3 : W 3) (a0 : State) (a1 : Fld) (a2 : Nat) (a3 : Nat) (ha0 : Kept Q a0) (ha1 : OkFld W a1) : Kept Q (State.stickEv a0 a1 a2 a3) := by
  unfold State.stickEv
  repeat' with_reducible first
    | assumption | (intro x; refine (fun hx : Kept Q x => ?_) ?_; clear_value x) | (intro x; clear_value x)
    | (intro x; refine (fun hx : Kept Q x => ?_) ?_; rotate_left; unfold x) | (intro x)
    | apply kept_raiseReg c hE hp2 hp22 hp3 | apply kept_stick c | apply kept_ite | split | unfold x
    | lift_lets -underBinder

theorem kept_eccSeen (c : Closed N I T M E K W Q) (hE : E) (hp2 : W 2) (hp22 : W 22) (hp3 : W 3) (a0 : State) (a1 : Nat) (ha0 : Kept Q a0) : Kept Q (State.eccSeen a0 a1) := by
  unfold State.eccSeen
  repeat' with_reducible first
    | assumption | exact ok_lit 22 (by decide) hp22 | apply kept_bump c | apply kept_stickEv c hE hp2 hp22 hp3
    | apply kept_w c | apply kept_ite | split

theorem kept_stickBits (c : Closed N I T M E K W Q) (hE : E) (hp2 : W 2) (hp22 : W 22) (hp3 : W 3) (a0 : State) (a1 : Fld) (a2 : Nat) (a3 : Nat) (a4 : Nat) (ha0 : Kept Q a0) (ha1 : OkFld W a1) : Kept Q (State.stickBits a0 a1 a2 a3 a4) := by
  unfold State.stickBits
  repeat' with_reducible first
    | assumption | (intro x; refine (fun hx : Kept Q x => ?_) ?_; clear_value x) | (intro x; clear_value x)
    | (intro x; refine (fun hx : Kept Q x => ?_) ?_; rotate_left; unfold x) | (intro x)
    | apply kept_raiseReg c hE hp2 hp22 hp3 | apply kept_w c | apply foldl_kept | apply foldl_kept1
    | apply kept_ite | split | unfold x | lift_lets -underBinder

theorem kept_record (c : Closed N I T M E K W Q) (hE : E) (hp2 : W 2) (hp22 : W 22) (hp3 : W 3) (a0 : State) (a1 : Nat) (a2 : List Sys2Proof.Byte) (ha0 : Kept Q a0) : Kept Q (State.record a0 a1 a2) := by
  unfold State.record
  try lift_lets -underBinder
  repeat' with_reducible first
    | assumption | (intro x; refine (fun hx : Kept Q x => ?_) ?_; clear_value x) | (intro x; clear_value x)
    | (intro x; refine (fun hx : Kept Q x => ?_) ?_; rotate_left; unfold x) | (intro x)
    | exact ok_lit 2 (by decide) hp2 | apply kept_bufClear c | apply kept_dropCount c hp2
    | apply kept_putRecord c hp2 | apply kept_stickEv c hE hp2 hp22 hp3 | apply kept_ite | split | unfold x
    | lift_lets -underBinder

theorem kept_recordWait (c : Closed N I T M E K W Q) (hp2 : W 2) (a0 : State) (a1 : Nat) (a2 : Nat) (a3 : List Sys2Proof.Byte) (ha0 : Kept Q a0) : Kept Q (State.recordWait a0 a1 a2 a3) := by
  unfold State.recordWait
  try lift_lets -underBinder
  repeat' with_reducible first
    | assumption | (intro x; refine (fun hx : Kept Q x => ?_) ?_; clear_value x) | (intro x; clear_value x)
    | (intro x; refine (fun hx : Kept Q x => ?_) ?_; rotate_left; unfold x) | (intro x)
    | exact kept_mk (kept_out (by with_reducible assumption)) | apply kept_dropCount c hp2
    | apply kept_putRecord c hp2 | apply kept_ite | split | unfold x | lift_lets -underBinder

theorem kept_complete (c : Closed N I T M E K W Q) (hp2 : W 2) (a0 : State) (a1 : Nat) (a2 : Nat) (a3 : Bool) (a4 : Nat) (a5 : Nat) (a6 : Nat) (a7 : List Sys2Proof.Byte) (ha0 : Kept Q a0) : Kept Q (State.complete a0 a1 a2 a3 a4 a5 a6 a7) := by
  unfold State.complete
  repeat' with_reducible first
    | assumption | apply kept_recordWait c hp2 | apply kept_ite | split

theorem kept_flushOwed (c : Closed N I T M E K W Q) (hp2 : W 2) (a0 : State) (a1 : Nat) (ha0 : Kept Q a0) : Kept Q (State.flushOwed a0 a1) := by
  unfold State.flushOwed
  try lift_lets -underBinder
  repeat' with_reducible first
    | assumption | (intro x; refine (fun hx : Kept Q x => ?_) ?_; clear_value x) | (intro x; clear_value x)
    | (intro x; refine (fun hx : Kept Q x => ?_) ?_; rotate_left; unfold x) | (intro x)
    | exact kept_mk (kept_out (by with_reducible assumption)) | apply kept_putRecord c hp2 | apply foldl_kept
    | apply foldl_kept1 | apply kept_ite | split | unfold x | lift_lets -underBinder

theorem kept_latch (c : Closed N I T M E K W Q) (a0 : State) (a1 : Sys2Proof.Path) (a2 : List (Nat × Nat)) (ha0 : Kept Q a0) : Kept Q (State.latch a0 a1 a2) := by
  unfold State.latch
  try lift_lets -underBinder
  repeat' with_reducible first
    | assumption | (intro x; refine (fun hx : Kept Q x => ?_) ?_; clear_value x)
    | (intro x; refine (fun hx : Kept Q x.1 => ?_) ?_; clear_value x) | (intro x; clear_value x)
    | (intro x; refine (fun hx : Kept Q x => ?_) ?_; rotate_left; unfold x) | (intro x)
    | exact kept_mk (kept_out (by with_reducible assumption)) | apply kept_ite | split | unfold x
    | lift_lets -underBinder

theorem kept_updPrt (c : Closed N I T M E K W Q) (a0 : State) (a1 : Nat) (a2 : PortSt → PortSt) (ha0 : Kept Q a0) : Kept Q (State.updPrt a0 a1 a2) := by
  unfold State.updPrt
  try lift_lets -underBinder
  repeat' with_reducible first
    | assumption | (intro x; refine (fun hx : Kept Q x => ?_) ?_; clear_value x) | (intro x; clear_value x)
    | (intro x; refine (fun hx : Kept Q x => ?_) ?_; rotate_left; unfold x) | (intro x)
    | exact kept_mk (kept_out (by with_reducible assumption)) | unfold x | lift_lets -underBinder

theorem kept_updExc (c : Closed N I T M E K W Q) (a0 : State) (a1 : Nat) (a2 : ExcSt → ExcSt) (ha0 : Kept Q a0) : Kept Q (State.updExc a0 a1 a2) := by
  unfold State.updExc
  try lift_lets -underBinder
  repeat' with_reducible first
    | assumption | (intro x; refine (fun hx : Kept Q x => ?_) ?_; clear_value x) | (intro x; clear_value x)
    | (intro x; refine (fun hx : Kept Q x => ?_) ?_; rotate_left; unfold x) | (intro x)
    | exact kept_mk (kept_out (by with_reducible assumption)) | unfold x | lift_lets -underBinder

theorem kept_updAcq (c : Closed N I T M E K W Q) (a0 : State) (a1 : Nat) (a2 : AcqSt → AcqSt) (ha0 : Kept Q a0) : Kept Q (State.updAcq a0 a1 a2) := by
  unfold State.updAcq
  try lift_lets -underBinder
  repeat' with_reducible first
    | assumption | (intro x; refine (fun hx : Kept Q x => ?_) ?_; clear_value x) | (intro x; clear_value x)
    | (intro x; refine (fun hx : Kept Q x => ?_) ?_; rotate_left; unfold x) | (intro x)
    | exact kept_mk (kept_out (by with_reducible assumption)) | unfold x | lift_lets -underBinder

theorem kept_updObs (c : Closed N I T M E K W Q) (a0 : State) (a1 : Nat) (a2 : ObsSt → ObsSt) (ha0 : Kept Q a0) : Kept Q (State.updObs a0 a1 a2) := by
  unfold State.updObs
  try lift_lets -underBinder
  repeat' with_reducible first
    | assumption | (intro x; refine (fun hx : Kept Q x => ?_) ?_; clear_value x) | (intro x; clear_value x)
    | (intro x; refine (fun hx : Kept Q x => ?_) ?_; rotate_left; unfold x) | (intro x)
    | exact kept_mk (kept_out (by with_reducible assumption)) | unfold x | lift_lets -underBinder

theorem kept_updDiv (c : Closed N I T M E K W Q) (a0 : State) (a1 : Nat) (a2 : DivSt → DivSt) (ha0 : Kept Q a0) : Kept Q (State.updDiv a0 a1 a2) := by
  unfold State.updDiv
  try lift_lets -underBinder
  repeat' with_reducible first
    | assumption | (intro x; refine (fun hx : Kept Q x => ?_) ?_; clear_value x) | (intro x; clear_value x)
    | (intro x; refine (fun hx : Kept Q x => ?_) ?_; rotate_left; unfold x) | (intro x)
    | exact kept_mk (kept_out (by with_reducible assumption)) | unfold x | lift_lets -underBinder

theorem kept_injInput (c : Closed N I T M E K W Q) (a0 : State) (a1 : Bool) (a2 : Nat) (ha0 : Kept Q a0) : Kept Q (State.injInput a0 a1 a2) := by
  unfold State.injInput
  try lift_lets -underBinder
  repeat' with_reducible first
    | assumption | (intro x; refine (fun hx : Kept Q x => ?_) ?_; clear_value x) | (intro x; clear_value x)
    | (intro x; refine (fun hx : Kept Q x => ?_) ?_; rotate_left; unfold x) | (intro x)
    | exact kept_mk (kept_out (by with_reducible assumption)) | apply kept_ite | split | unfold x
    | lift_lets -underBinder

theorem kept_emit (c : Closed N I T M E K W Q) (a0 : State) (a1 : Output) (ha0 : Kept Q a0) : Kept Q (State.emit a0 a1) := by
  unfold State.emit
  try lift_lets -underBinder
  repeat' with_reducible first
    | assumption | (intro x; refine (fun hx : Kept Q x => ?_) ?_; clear_value x) | (intro x; clear_value x)
    | (intro x; refine (fun hx : Kept Q x => ?_) ?_; rotate_left; unfold x) | (intro x)
    | exact kept_mk (kept_out (by with_reducible assumption)) | unfold x | lift_lets -underBinder

theorem kept_showInc (c : Closed N I T M E K W Q) (hp5 : W 5) (a0 : State) (a1 : Nat) (ha0 : Kept Q a0) : Kept Q (State.showInc a0 a1) := by
  unfold State.showInc
  try lift_lets -underBinder
  repeat' with_reducible first
    | assumption | (intro x; refine (fun hx : Kept Q x => ?_) ?_; clear_value x) | (intro x; clear_value x)
    | (intro x; refine (fun hx : Kept Q x => ?_) ?_; rotate_left; unfold x) | (intro x)
    | exact ok_lit 5 (by decide) hp5 | apply kept_w c | apply kept_ite | split | unfold x | lift_lets -underBinder

theorem kept_measured (c : Closed N I T M E K W Q) (a0 : State) (a1 : Fld) (a2 : Nat) (a3 : Nat) (ha0 : Kept Q a0) (ha1 : OkFld W a1) : Kept Q (State.measured a0 a1 a2 a3) := by
  unfold State.measured
  try lift_lets -underBinder
  repeat' with_reducible first
    | assumption | (intro x; refine (fun hx : Kept Q x => ?_) ?_; clear_value x) | (intro x; clear_value x)
    | (intro x; refine (fun hx : Kept Q x => ?_) ?_; rotate_left; unfold x) | (intro x)
    | exact kept_mk (kept_out (by with_reducible assumption)) | apply kept_w c | unfold x | lift_lets -underBinder

theorem kept_putPend (c : Closed N I T M E K W Q) (hp4 : W 4) (a0 : State) (a1 : Nat) (a2 : Sys2Proof.Input) (a3 : Option (Nat × Nat)) (ha0 : Kept Q a0) : Kept Q (State.putPend a0 a1 a2 a3) := by
  unfold State.putPend
  repeat' with_reducible first
    | assumption | (intro x; refine (fun hx : Kept Q x => ?_) ?_; clear_value x)
    | (intro x; refine (fun hx : Kept Q x.1 => ?_) ?_; clear_value x) | (intro x; clear_value x)
    | (intro x; refine (fun hx : Kept Q x => ?_) ?_; rotate_left; unfold x) | (intro x) | exact ok_pendFld hp4
    | exact ok_lit 4 (by decide) hp4 | apply kept_updPrt c | apply kept_wb c | apply kept_ite | split | unfold x
    | lift_lets -underBinder

theorem kept_requestRange (c : Closed N I T M E K W Q) (hp4 : W 4) (a0 : State) (a1 : Nat) (a2 : Sys2Proof.Input) (a3 : Nat) (ha0 : Kept Q a0) : Kept Q (State.requestRange a0 a1 a2 a3) := by
  unfold State.requestRange
  repeat' with_reducible first
    | assumption | exact ok_curFld hp4 | apply kept_putPend c hp4 | apply kept_ite | split

theorem kept_applyRange (c : Closed N I T M E K W Q) (hE : E) (hp2 : W 2) (hp22 : W 22) (hp3 : W 3) (hp4 : W 4) (a0 : State) (a1 : Nat) (a2 : Sys2Proof.Input) (a3 : Nat) (ha0 : Kept Q a0) : Kept Q (State.applyRange a0 a1 a2 a3) := by
  unfold State.applyRange
  try lift_lets -underBinder
  repeat' with_reducible first
    | assumption | (intro x; refine (fun hx : Kept Q x => ?_) ?_; clear_value x) | (intro x; clear_value x)
    | (intro x; refine (fun hx : Kept Q x => ?_) ?_; rotate_left; unfold x) | (intro x)
    | exact kept_mk (kept_out (by with_reducible assumption)) | exact ok_curFld hp4
    | exact ok_lit 4 (by decide) hp4 | apply kept_bump c | apply kept_putPend c hp4
    | apply kept_stickEv c hE hp2 hp22 hp3 | apply kept_updPrt c | apply kept_w c | apply kept_ite | split
    | unfold x | lift_lets -underBinder

theorem kept_forceRange (c : Closed N I T M E K W Q) (hp4 : W 4) (a0 : State) (a1 : Nat) (a2 : Sys2Proof.Input) (a3 : Nat) (ha0 : Kept Q a0) : Kept Q (State.forceRange a0 a1 a2 a3) := by
  unfold State.forceRange
  repeat' with_reducible first
    | assumption | exact ok_curFld hp4 | exact ok_lit 4 (by decide) hp4 | apply kept_putPend c hp4
    | apply kept_w c

theorem kept_restartRanges (c : Closed N I T M E K W Q) (hp4 : W 4) (a0 : State) (a1 : Nat) (ha0 : Kept Q a0) : Kept Q (State.restartRanges a0 a1) := by
  unfold State.restartRanges
  try lift_lets -underBinder
  repeat' with_reducible first
    | assumption | (intro x; refine (fun hx : Kept Q x => ?_) ?_; clear_value x) | (intro x; clear_value x)
    | (intro x; refine (fun hx : Kept Q x => ?_) ?_; rotate_left; unfold x) | (intro x)
    | exact kept_mk (kept_out (by with_reducible assumption)) | apply kept_forceRange c hp4
    | apply kept_putPend c hp4 | apply kept_updPrt c | apply kept_ite | split | unfold x | lift_lets -underBinder

theorem kept_doRangeChange (c : Closed N I T M E K W Q) (hE : E) (hp2 : W 2) (hp22 : W 22) (hp3 : W 3) (hp4 : W 4) (a0 : Nat) (a1 : State) (ha1 : Kept Q a1) : Kept Q (doRangeChange a0 a1) := by
  unfold doRangeChange
  try lift_lets -underBinder
  repeat' with_reducible first
    | assumption | (intro x; refine (fun hx : Kept Q x => ?_) ?_; clear_value x) | (intro x; clear_value x)
    | (intro x; refine (fun hx : Kept Q x => ?_) ?_; rotate_left; unfold x) | (intro x)
    | exact kept_mk (kept_out (by with_reducible assumption)) | apply kept_applyRange c hE hp2 hp22 hp3 hp4
    | apply kept_updPrt c | apply kept_ite | split | unfold x | lift_lets -underBinder

theorem kept_doRangeImmediate (c : Closed N I T M E K W Q) (hE : E) (hp2 : W 2) (hp22 : W 22) (hp3 : W 3) (hp4 : W 4) (a0 : Nat) (a1 : State) (ha1 : Kept Q a1) : Kept Q (doRangeImmediate a0 a1) := by
  unfold doRangeImmediate
  try lift_lets -underBinder
  repeat' with_reducible first
    | assumption | (intro x; refine (fun hx : Kept Q x => ?_) ?_; clear_value x) | (intro x; clear_value x)
    | (intro x; refine (fun hx : Kept Q x => ?_) ?_; rotate_left; unfold x) | (intro x)
    | exact kept_mk (kept_out (by with_reducible assumption)) | exact ok_lit 4 (by decide) hp4
    | apply kept_applyRange c hE hp2 hp22 hp3 hp4 | apply kept_stickEv c hE hp2 hp22 hp3 | apply kept_updPrt c
    | apply kept_ite | split | unfold x | lift_lets -underBinder

theorem kept_autoRange (c : Closed N I T M E K W Q) (hp4 : W 4) (a0 : State) (a1 : Nat) (ha0 : Kept Q a0) : Kept Q (State.autoRange a0 a1) := by
  unfold State.autoRange
  try lift_lets -underBinder
  repeat' with_reducible first
    | assumption | (intro x; refine (fun hx : Kept Q x => ?_) ?_; clear_value x) | (intro x; clear_value x)
    | (intro x; refine (fun hx : Kept Q x => ?_) ?_; rotate_left; unfold x) | (intro x)
    | exact kept_mk (kept_out (by with_reducible assumption)) | apply kept_requestRange c hp4
    | apply kept_updPrt c | apply kept_ite | split | unfold x | lift_lets -underBinder

theorem kept_setLead (c : Closed N I T M E K W Q) (hE : E) (hp2 : W 2) (hp22 : W 22) (hp3 : W 3) (hp4 : W 4) (a0 : State) (a1 : Nat) (a2 : Nat) (a3 : Bool) (ha0 : Kept Q a0) : Kept Q (State.setLead a0 a1 a2 a3) := by
  unfold State.setLead
  try lift_lets -underBinder
  repeat' with_reducible first
    | assumption | (intro x; refine (fun hx : Kept Q x => ?_) ?_; clear_value x) | (intro x; clear_value x)
    | (intro x; refine (fun hx : Kept Q x => ?_) ?_; rotate_left; unfold x) | (intro x) | exact ok_bit hp4
    | exact ok_lit 4 (by decide) hp4 | apply kept_stickEv c hE hp2 hp22 hp3 | apply kept_w c | apply kept_ite
    | split | unfold x | lift_lets -underBinder

theorem kept_leadBit (c : Closed N I T M E K W Q) (hE : E) (hp2 : W 2) (hp22 : W 22) (hp3 : W 3) (hp4 : W 4) (a0 : State) (a1 : Nat) (a2 : Nat) (ha0 : Kept Q a0) : Kept Q (State.leadBit a0 a1 a2) := by
  unfold State.leadBit
  try lift_lets -underBinder
  repeat' with_reducible first
    | assumption | (intro x; refine (fun hx : Kept Q x => ?_) ?_; clear_value x) | (intro x; clear_value x)
    | (intro x; refine (fun hx : Kept Q x => ?_) ?_; rotate_left; unfold x) | (intro x)
    | exact kept_mk (kept_out (by with_reducible assumption)) | apply kept_setLead c hE hp2 hp22 hp3 hp4
    | apply kept_updPrt c | apply kept_ite | split | unfold x | lift_lets -underBinder

theorem kept_leadCheck (c : Closed N I T M E K W Q) (hE : E) (hp2 : W 2) (hp22 : W 22) (hp3 : W 3) (hp4 : W 4) (a0 : State) (a1 : Nat) (ha0 : Kept Q a0) : Kept Q (State.leadCheck a0 a1) := by
  unfold State.leadCheck
  repeat' with_reducible first
    | assumption | (intro x; refine (fun hx : Kept Q x => ?_) ?_; clear_value x) | (intro x; clear_value x)
    | (intro x; refine (fun hx : Kept Q x => ?_) ?_; rotate_left; unfold x) | (intro x) | apply kept_each c
    | apply kept_leadBit c hE hp2 hp22 hp3 hp4 | apply kept_ite | split | unfold x | lift_lets -underBinder

theorem kept_windingReading (c : Closed N I T M E K W Q) (a0 : State) (a1 : Nat) (a2 : Nat) (ha0 : Kept Q a0) : Kept Q (State.windingReading a0 a1 a2) := by
  unfold State.windingReading
  try lift_lets -underBinder
  repeat' with_reducible first
    | assumption | (intro x; refine (fun hx : Kept Q x => ?_) ?_; clear_value x) | (intro x; clear_value x)
    | (intro x; refine (fun hx : Kept Q x => ?_) ?_; rotate_left; unfold x) | (intro x)
    | exact kept_mk (kept_out (by with_reducible assumption)) | apply kept_updPrt c | apply kept_ite | split
    | unfold x | lift_lets -underBinder

theorem kept_axLine (c : Closed N I T M E K W Q) (hp4 : W 4) (a0 : State) (a1 : Nat) (a2 : Nat) (ha0 : Kept Q a0) : Kept Q (State.axLine a0 a1 a2) := by
  unfold State.axLine
  try lift_lets -underBinder
  repeat' with_reducible first
    | assumption | (intro x; refine (fun hx : Kept Q x => ?_) ?_; clear_value x) | (intro x; clear_value x)
    | (intro x; refine (fun hx : Kept Q x => ?_) ?_; rotate_left; unfold x) | (intro x)
    | exact kept_mk (kept_out (by with_reducible assumption)) | exact ok_lit 4 (by decide) hp4
    | apply kept_updPrt c | apply kept_w c | apply kept_ite | split | unfold x | lift_lets -underBinder

theorem kept_doLeadReading (c : Closed N I T M E K W Q) (hE : E) (hp2 : W 2) (hp22 : W 22) (hp3 : W 3) (hp4 : W 4) (a0 : Nat) (a1 : Nat) (a2 : State) (ha2 : Kept Q a2) : Kept Q (doLeadReading a0 a1 a2) := by
  unfold doLeadReading
  try lift_lets -underBinder
  repeat' with_reducible first
    | assumption | (intro x; refine (fun hx : Kept Q x => ?_) ?_; clear_value x) | (intro x; clear_value x)
    | (intro x; refine (fun hx : Kept Q x => ?_) ?_; rotate_left; unfold x) | (intro x)
    | exact kept_mk (kept_out (by with_reducible assumption)) | exact ok_PRT_LMON_STATUS hp4
    | exact ok_PRT_LMON_VOLT hp4 | exact ok_lit 4 (by decide) hp4 | apply kept_axLine c hp4
    | apply kept_leadCheck c hE hp2 hp22 hp3 hp4 | apply kept_measured c | apply kept_updPrt c | apply kept_w c
    | apply kept_windingReading c | apply kept_ite | split | unfold x | lift_lets -underBinder

theorem kept_windingStart (c : Closed N I T M E K W Q) (hp4 : W 4) (a0 : State) (a1 : Nat) (ha0 : Kept Q a0) : Kept Q (State.windingStart a0 a1) := by
  unfold State.windingStart
  try lift_lets -underBinder
  repeat' with_reducible first
    | assumption | (intro x; refine (fun hx : Kept Q x => ?_) ?_; clear_value x) | (intro x; clear_value x)
    | (intro x; refine (fun hx : Kept Q x => ?_) ?_; rotate_left; unfold x) | (intro x)
    | exact kept_mk (kept_out (by with_reducible assumption)) | exact ok_lit 4 (by decide) hp4
    | apply kept_updPrt c | apply kept_w c | apply kept_ite | split | unfold x | lift_lets -underBinder

theorem kept_doWindingTestStart (c : Closed N I T M E K W Q) (hp4 : W 4) (a0 : Nat) (a1 : State) (ha1 : Kept Q a1) : Kept Q (doWindingTestStart a0 a1) := by
  unfold doWindingTestStart
  try lift_lets -underBinder
  repeat' with_reducible first
    | assumption | (intro x; refine (fun hx : Kept Q x => ?_) ?_; clear_value x) | (intro x; clear_value x)
    | (intro x; refine (fun hx : Kept Q x => ?_) ?_; rotate_left; unfold x) | (intro x)
    | exact kept_mk (kept_out (by with_reducible assumption)) | apply kept_windingStart c hp4 | apply kept_ite
    | split | unfold x | lift_lets -underBinder

theorem kept_w2wNow (c : Closed N I T M E K W Q) (hp4 : W 4) (a0 : State) (a1 : Nat) (ha0 : Kept Q a0) : Kept Q (State.w2wNow a0 a1) := by
  unfold State.w2wNow
  repeat' with_reducible first
    | assumption | apply kept_windingStart c hp4 | apply kept_ite | split

theorem kept_windingStop (c : Closed N I T M E K W Q) (hp4 : W 4) (a0 : State) (a1 : Nat) (ha0 : Kept Q a0) : Kept Q (State.windingStop a0 a1) := by
  unfold State.windingStop
  try lift_lets -underBinder
  repeat' with_reducible first
    | assumption | (intro x; refine (fun hx : Kept Q x => ?_) ?_; clear_value x) | (intro x; clear_value x)
    | (intro x; refine (fun hx : Kept Q x => ?_) ?_; rotate_left; unfold x) | (intro x)
    | exact kept_mk (kept_out (by with_reducible assumption)) | exact ok_lit 4 (by decide) hp4
    | apply kept_updPrt c | apply kept_w c | apply kept_ite | split | unfold x | lift_lets -underBinder

theorem kept_doWindingTestEnd (c : Closed N I T M E K W Q) (hE : E) (hp2 : W 2) (hp22 : W 22) (hp3 : W 3) (hp4 : W 4) (a0 : Nat) (a1 : State) (ha1 : Kept Q a1) : Kept Q (doWindingTestEnd a0 a1) := by
  unfold doWindingTestEnd
  try lift_lets -underBinder
  repeat' with_reducible first
    | assumption | (intro x; refine (fun hx : Kept Q x => ?_) ?_; clear_value x) | (intro x; clear_value x)
    | (intro x; refine (fun hx : Kept Q x => ?_) ?_; rotate_left; unfold x) | (intro x)
    | exact kept_mk (kept_out (by with_reducible assumption)) | exact ok_lit 4 (by decide) hp4
    | apply kept_setLead c hE hp2 hp22 hp3 hp4 | apply kept_updPrt c | apply kept_w c | apply kept_ite | split
    | unfold x | lift_lets -underBinder

theorem kept_doClampConduct (c : Closed N I T M E K W Q) (hE : E) (hp2 : W 2) (hp22 : W 22) (hp3 : W 3) (hp4 : W 4) (a0 : Nat) (a1 : Nat) (a2 : State) (ha2 : Kept Q a2) : Kept Q (doClampConduct a0 a1 a2) := by
  unfold doClampConduct
  try lift_lets -underBinder
  repeat' with_reducible first
    | assumption | (intro x; refine (fun hx : Kept Q x => ?_) ?_; clear_value x) | (intro x; clear_value x)
    | (intro x; refine (fun hx : Kept Q x => ?_) ?_; rotate_left; unfold x) | (intro x)
    | exact kept_mk (kept_out (by with_reducible assumption)) | exact ok_lit 4 (by decide) hp4
    | apply kept_stickEv c hE hp2 hp22 hp3 | apply kept_w c | apply kept_ite | split | unfold x
    | lift_lets -underBinder

theorem kept_lineSample (c : Closed N I T M E K W Q) (hp4 : W 4) (a0 : State) (a1 : Nat) (a2 : Bool) (a3 : Int) (ha0 : Kept Q a0) : Kept Q (State.lineSample a0 a1 a2 a3) := by
  unfold State.lineSample
  try lift_lets -underBinder
  repeat' with_reducible first
    | assumption | (intro x; refine (fun hx : Kept Q x => ?_) ?_; clear_value x) | (intro x; clear_value x)
    | (intro x; refine (fun hx : Kept Q x => ?_) ?_; rotate_left; unfold x) | (intro x)
    | exact kept_mk (kept_out (by with_reducible assumption)) | exact ok_lit 4 (by decide) hp4 | apply ok_ite
    | apply kept_updPrt c | apply kept_w c | apply kept_ite | split | unfold x | lift_lets -underBinder

theorem kept_lineSet (c : Closed N I T M E K W Q) (hE : E) (hp2 : W 2) (hp22 : W 22) (hp3 : W 3) (hp4 : W 4) (a0 : State) (a1 : Nat) (a2 : Sys2Proof.Pair) (ha0 : Kept Q a0) : Kept Q (State.lineSet a0 a1 a2) := by
  unfold State.lineSet
  repeat' with_reducible first
    | assumption | exact ok_lit 4 (by decide) hp4 | apply kept_stickEv c hE hp2 hp22 hp3 | apply kept_w c
    | apply kept_ite | split

theorem kept_showBias (c : Closed N I T M E K W Q) (hp4 : W 4) (a0 : State) (a1 : Nat) (ha0 : Kept Q a0) : Kept Q (State.showBias a0 a1) := by
  unfold State.showBias
  try lift_lets -underBinder
  repeat' with_reducible first
    | assumption | (intro x; refine (fun hx : Kept Q x => ?_) ?_; clear_value x) | (intro x; clear_value x)
    | (intro x; refine (fun hx : Kept Q x => ?_) ?_; rotate_left; unfold x) | (intro x)
    | exact ok_lit 4 (by decide) hp4 | apply kept_wb c | unfold x | lift_lets -underBinder

theorem kept_showArm (c : Closed N I T M E K W Q) (hp6 : W 6) (a0 : State) (a1 : Nat) (ha0 : Kept Q a0) : Kept Q (State.showArm a0 a1) := by
  unfold State.showArm
  try lift_lets -underBinder
  repeat' with_reducible first
    | assumption | (intro x; refine (fun hx : Kept Q x => ?_) ?_; clear_value x) | (intro x; clear_value x)
    | (intro x; refine (fun hx : Kept Q x => ?_) ?_; rotate_left; unfold x) | (intro x)
    | exact kept_mk (kept_out (by with_reducible assumption)) | exact ok_lit 6 (by decide) hp6
    | apply kept_updAcq c | apply kept_w c | apply kept_wb c | apply kept_ite | split | unfold x
    | lift_lets -underBinder

theorem kept_setDrv (c : Closed N I T M E K W Q) (hp5 : W 5) (hp6 : W 6) (a0 : State) (a1 : Nat) (a2 : Nat) (ha0 : Kept Q a0) : Kept Q (State.setDrv a0 a1 a2) := by
  unfold State.setDrv
  repeat' with_reducible first
    | assumption | exact ok_lit 5 (by decide) hp5 | apply kept_showArm c hp6 | apply kept_w c

theorem kept_setLocked (c : Closed N I T M E K W Q) (hp5 : W 5) (hp6 : W 6) (a0 : State) (a1 : Nat) (a2 : Bool) (ha0 : Kept Q a0) : Kept Q (State.setLocked a0 a1 a2) := by
  unfold State.setLocked
  repeat' with_reducible first
    | assumption | exact ok_lit 5 (by decide) hp5 | apply kept_showArm c hp6 | apply kept_wb c

theorem kept_showPend (c : Closed N I T M E K W Q) (hp5 : W 5) (a0 : State) (a1 : Nat) (ha0 : Kept Q a0) : Kept Q (State.showPend a0 a1) := by
  unfold State.showPend
  try lift_lets -underBinder
  repeat' with_reducible first
    | assumption | (intro x; refine (fun hx : Kept Q x => ?_) ?_; clear_value x) | (intro x; clear_value x)
    | (intro x; refine (fun hx : Kept Q x => ?_) ?_; rotate_left; unfold x) | (intro x)
    | exact ok_lit 5 (by decide) hp5 | apply kept_wb c | apply kept_ite | split | unfold x
    | lift_lets -underBinder

theorem kept_showPhase (c : Closed N I T M E K W Q) (hp5 : W 5) (a0 : State) (a1 : Nat) (ha0 : Kept Q a0) : Kept Q (State.showPhase a0 a1) := by
  unfold State.showPhase
  repeat' with_reducible first
    | assumption | exact ok_lit 5 (by decide) hp5 | apply kept_w c

theorem kept_checkDrift (c : Closed N I T M E K W Q) (hE : E) (hp2 : W 2) (hp22 : W 22) (hp3 : W 3) (hp5 : W 5) (a0 : State) (a1 : Nat) (ha0 : Kept Q a0) : Kept Q (State.checkDrift a0 a1) := by
  unfold State.checkDrift
  try lift_lets -underBinder
  repeat' with_reducible first
    | assumption | (intro x; refine (fun hx : Kept Q x => ?_) ?_; clear_value x) | (intro x; clear_value x)
    | (intro x; refine (fun hx : Kept Q x => ?_) ?_; rotate_left; unfold x) | (intro x)
    | exact ok_lit 5 (by decide) hp5 | apply kept_stickEv c hE hp2 hp22 hp3 | apply kept_wb c | apply kept_ite
    | split | unfold x | lift_lets -underBinder

theorem kept_showLag (c : Closed N I T M E K W Q) (hE : E) (hp2 : W 2) (hp22 : W 22) (hp3 : W 3) (hp5 : W 5) (a0 : State) (a1 : Nat) (ha0 : Kept Q a0) : Kept Q (State.showLag a0 a1) := by
  unfold State.showLag
  repeat' with_reducible first
    | assumption | apply kept_checkDrift c hE hp2 hp22 hp3 hp5 | apply kept_showPhase c hp5

theorem kept_setPhase (c : Closed N I T M E K W Q) (hE : E) (hp2 : W 2) (hp22 : W 22) (hp3 : W 3) (hp5 : W 5) (a0 : State) (a1 : Nat) (a2 : Nat) (ha0 : Kept Q a0) : Kept Q (State.setPhase a0 a1 a2) := by
  unfold State.setPhase
  try lift_lets -underBinder
  repeat' with_reducible first
    | assumption | (intro x; refine (fun hx : Kept Q x => ?_) ?_; clear_value x) | (intro x; clear_value x)
    | (intro x; refine (fun hx : Kept Q x => ?_) ?_; rotate_left; unfold x) | (intro x)
    | exact kept_mk (kept_out (by with_reducible assumption)) | exact ok_lit 5 (by decide) hp5
    | apply kept_checkDrift c hE hp2 hp22 hp3 hp5 | apply kept_measured c | apply kept_showPhase c hp5
    | apply kept_updExc c | apply kept_ite | split | unfold x | lift_lets -underBinder

theorem kept_putFreq (c : Closed N I T M E K W Q) (hp5 : W 5) (a0 : State) (a1 : Nat) (a2 : Nat) (ha0 : Kept Q a0) : Kept Q (State.putFreq a0 a1 a2) := by
  unfold State.putFreq
  try lift_lets -underBinder
  repeat' with_reducible first
    | assumption | (intro x; refine (fun hx : Kept Q x => ?_) ?_; clear_value x) | (intro x; clear_value x)
    | (intro x; refine (fun hx : Kept Q x => ?_) ?_; rotate_left; unfold x) | (intro x)
    | exact kept_mk (kept_out (by with_reducible assumption)) | apply kept_showInc c hp5 | apply kept_updExc c
    | apply kept_ite | split | unfold x | lift_lets -underBinder

theorem kept_faultDrv (c : Closed N I T M E K W Q) (hp5 : W 5) (hp6 : W 6) (a0 : State) (a1 : Nat) (ha0 : Kept Q a0) : Kept Q (State.faultDrv a0 a1) := by
  unfold State.faultDrv
  try lift_lets -underBinder
  repeat' with_reducible first
    | assumption | (intro x; refine (fun hx : Kept Q x => ?_) ?_; clear_value x) | (intro x; clear_value x)
    | (intro x; refine (fun hx : Kept Q x => ?_) ?_; rotate_left; unfold x) | (intro x)
    | exact kept_mk (kept_out (by with_reducible assumption)) | exact ok_lit 5 (by decide) hp5
    | apply kept_setDrv c hp5 hp6 | apply kept_showPend c hp5 | apply kept_updExc c | apply kept_w c
    | apply kept_ite | split | unfold x | lift_lets -underBinder

theorem kept_driverFault (c : Closed N I T M E K W Q) (hE : E) (hp2 : W 2) (hp22 : W 22) (hp3 : W 3) (hp5 : W 5) (hp6 : W 6) (a0 : State) (a1 : Nat) (a2 : Fld) (ha0 : Kept Q a0) (ha2 : OkFld W a2) : Kept Q (State.driverFault a0 a1 a2) := by
  unfold State.driverFault
  repeat' with_reducible first
    | assumption | apply kept_faultDrv c hp5 hp6 | apply kept_stickEv c hE hp2 hp22 hp3

theorem kept_enterSoft (c : Closed N I T M E K W Q) (hp5 : W 5) (hp6 : W 6) (a0 : State) (a1 : Nat) (a2 : Bool) (ha0 : Kept Q a0) : Kept Q (State.enterSoft a0 a1 a2) := by
  unfold State.enterSoft
  try lift_lets -underBinder
  repeat' with_reducible first
    | assumption | (intro x; refine (fun hx : Kept Q x => ?_) ?_; clear_value x) | (intro x; clear_value x)
    | (intro x; refine (fun hx : Kept Q x => ?_) ?_; rotate_left; unfold x) | (intro x)
    | exact ok_lit 5 (by decide) hp5 | apply kept_faultDrv c hp5 hp6 | apply kept_putFreq c hp5
    | apply kept_setDrv c hp5 hp6 | apply kept_showPend c hp5 | apply kept_showPhase c hp5 | apply kept_updExc c
    | apply kept_w c | apply kept_wb c | apply kept_ite | split | unfold x | lift_lets -underBinder

theorem kept_checkOff (c : Closed N I T M E K W Q) (hp5 : W 5) (hp6 : W 6) (a0 : State) (a1 : Nat) (ha0 : Kept Q a0) : Kept Q (State.checkOff a0 a1) := by
  unfold State.checkOff
  try lift_lets -underBinder
  repeat' with_reducible first
    | assumption | (intro x; refine (fun hx : Kept Q x => ?_) ?_; clear_value x) | (intro x; clear_value x)
    | (intro x; refine (fun hx : Kept Q x => ?_) ?_; rotate_left; unfold x) | (intro x)
    | apply kept_enterSoft c hp5 hp6 | apply kept_ite | split | unfold x | lift_lets -underBinder

theorem kept_driverOff (c : Closed N I T M E K W Q) (hp5 : W 5) (hp6 : W 6) (a0 : State) (a1 : Nat) (ha0 : Kept Q a0) : Kept Q (State.driverOff a0 a1) := by
  unfold State.driverOff
  try lift_lets -underBinder
  repeat' with_reducible first
    | assumption | (intro x; refine (fun hx : Kept Q x => ?_) ?_; clear_value x) | (intro x; clear_value x)
    | (intro x; refine (fun hx : Kept Q x => ?_) ?_; rotate_left; unfold x) | (intro x)
    | exact kept_mk (kept_out (by with_reducible assumption)) | exact ok_lit 5 (by decide) hp5
    | apply kept_setDrv c hp5 hp6 | apply kept_showPend c hp5 | apply kept_updExc c | apply kept_w c
    | apply kept_ite | split | unfold x | lift_lets -underBinder

theorem kept_enterSense (c : Closed N I T M E K W Q) (hp5 : W 5) (hp6 : W 6) (a0 : State) (a1 : Nat) (ha0 : Kept Q a0) : Kept Q (State.enterSense a0 a1) := by
  unfold State.enterSense
  try lift_lets -underBinder
  repeat' with_reducible first
    | assumption | (intro x; refine (fun hx : Kept Q x => ?_) ?_; clear_value x) | (intro x; clear_value x)
    | (intro x; refine (fun hx : Kept Q x => ?_) ?_; rotate_left; unfold x) | (intro x)
    | exact kept_mk (kept_out (by with_reducible assumption)) | exact ok_lit 5 (by decide) hp5
    | apply kept_setDrv c hp5 hp6 | apply kept_setLocked c hp5 hp6 | apply kept_showPend c hp5
    | apply kept_updExc c | apply kept_w c | apply kept_ite | split | unfold x | lift_lets -underBinder

theorem kept_leaveSense (c : Closed N I T M E K W Q) (hp5 : W 5) (hp6 : W 6) (a0 : State) (a1 : Nat) (ha0 : Kept Q a0) : Kept Q (State.leaveSense a0 a1) := by
  unfold State.leaveSense
  try lift_lets -underBinder
  repeat' with_reducible first
    | assumption | (intro x; refine (fun hx : Kept Q x => ?_) ?_; clear_value x) | (intro x; clear_value x)
    | (intro x; refine (fun hx : Kept Q x => ?_) ?_; rotate_left; unfold x) | (intro x)
    | exact kept_mk (kept_out (by with_reducible assumption)) | apply kept_driverOff c hp5 hp6
    | apply kept_enterSoft c hp5 hp6 | apply kept_setLocked c hp5 hp6 | apply kept_updExc c | apply kept_ite
    | split | unfold x | lift_lets -underBinder

theorem kept_excRestart (c : Closed N I T M E K W Q) (hp5 : W 5) (hp6 : W 6) (a0 : State) (a1 : Nat) (a2 : Bool) (ha0 : Kept Q a0) : Kept Q (State.excRestart a0 a1 a2) := by
  unfold State.excRestart
  try lift_lets -underBinder
  repeat' with_reducible first
    | assumption | (intro x; refine (fun hx : Kept Q x => ?_) ?_; clear_value x) | (intro x; clear_value x)
    | (intro x; refine (fun hx : Kept Q x => ?_) ?_; rotate_left; unfold x) | (intro x)
    | exact kept_mk (kept_out (by with_reducible assumption)) | apply kept_checkOff c hp5 hp6
    | apply kept_driverOff c hp5 hp6 | apply kept_enterSense c hp5 hp6 | apply kept_setLocked c hp5 hp6
    | apply kept_showInc c hp5 | apply kept_updExc c | apply kept_ite | split | unfold x | lift_lets -underBinder

theorem kept_putWave (c : Closed N I T M E K W Q) (a0 : State) (a1 : Nat) (a2 : Nat) (ha0 : Kept Q a0) : Kept Q (State.putWave a0 a1 a2) := by
  unfold State.putWave
  try lift_lets -underBinder
  repeat' with_reducible first
    | assumption | (intro x; refine (fun hx : Kept Q x => ?_) ?_; clear_value x) | (intro x; clear_value x)
    | (intro x; refine (fun hx : Kept Q x => ?_) ?_; rotate_left; unfold x) | (intro x)
    | exact kept_mk (kept_out (by with_reducible assumption)) | apply kept_updExc c | apply kept_ite | split
    | unfold x | lift_lets -underBinder

theorem kept_enableChanged (c : Closed N I T M E K W Q) (hp5 : W 5) (hp6 : W 6) (a0 : State) (a1 : Nat) (ha0 : Kept Q a0) : Kept Q (State.enableChanged a0 a1) := by
  unfold State.enableChanged
  try lift_lets -underBinder
  repeat' with_reducible first
    | assumption | (intro x; refine (fun hx : Kept Q x => ?_) ?_; clear_value x) | (intro x; clear_value x)
    | (intro x; refine (fun hx : Kept Q x => ?_) ?_; rotate_left; unfold x) | (intro x)
    | exact kept_mk (kept_out (by with_reducible assumption)) | apply kept_checkOff c hp5 hp6
    | apply kept_setDrv c hp5 hp6 | apply kept_showPend c hp5 | apply kept_updExc c | apply kept_ite | split
    | unfold x | lift_lets -underBinder

theorem kept_requestFreq (c : Closed N I T M E K W Q) (hp5 : W 5) (a0 : State) (a1 : Nat) (a2 : Nat) (a3 : Bool) (ha0 : Kept Q a0) : Kept Q (State.requestFreq a0 a1 a2 a3) := by
  unfold State.requestFreq
  try lift_lets -underBinder
  repeat' with_reducible first
    | assumption | (intro x; refine (fun hx : Kept Q x => ?_) ?_; clear_value x) | (intro x; clear_value x)
    | (intro x; refine (fun hx : Kept Q x => ?_) ?_; rotate_left; unfold x) | (intro x)
    | exact kept_mk (kept_out (by with_reducible assumption)) | apply kept_showPend c hp5 | apply kept_updExc c
    | apply kept_ite | split | unfold x | lift_lets -underBinder

theorem kept_requestAmp (c : Closed N I T M E K W Q) (hp5 : W 5) (a0 : State) (a1 : Nat) (a2 : Nat) (ha0 : Kept Q a0) : Kept Q (State.requestAmp a0 a1 a2) := by
  unfold State.requestAmp
  try lift_lets -underBinder
  repeat' with_reducible first
    | assumption | (intro x; refine (fun hx : Kept Q x => ?_) ?_; clear_value x) | (intro x; clear_value x)
    | (intro x; refine (fun hx : Kept Q x => ?_) ?_; rotate_left; unfold x) | (intro x)
    | exact kept_mk (kept_out (by with_reducible assumption)) | apply kept_showPend c hp5 | apply kept_updExc c
    | apply kept_ite | split | unfold x | lift_lets -underBinder

theorem kept_doSoftStartBegin (c : Closed N I T M E K W Q) (a0 : Nat) (a1 : State) (ha1 : Kept Q a1) : Kept Q (doSoftStartBegin a0 a1) := by
  unfold doSoftStartBegin
  try lift_lets -underBinder
  repeat' with_reducible first
    | assumption | (intro x; refine (fun hx : Kept Q x => ?_) ?_; clear_value x) | (intro x; clear_value x)
    | (intro x; refine (fun hx : Kept Q x => ?_) ?_; rotate_left; unfold x) | (intro x)
    | exact kept_mk (kept_out (by with_reducible assumption)) | apply kept_putWave c | apply kept_updExc c
    | apply kept_ite | split | unfold x | lift_lets -underBinder

theorem kept_doSoftStartEnd (c : Closed N I T M E K W Q) (hE : E) (hp2 : W 2) (hp22 : W 22) (hp3 : W 3) (hp5 : W 5) (hp6 : W 6) (a0 : Nat) (a1 : State) (ha1 : Kept Q a1) : Kept Q (doSoftStartEnd a0 a1) := by
  unfold doSoftStartEnd
  try lift_lets -underBinder
  repeat' with_reducible first
    | assumption | (intro x; refine (fun hx : Kept Q x => ?_) ?_; clear_value x) | (intro x; clear_value x)
    | (intro x; refine (fun hx : Kept Q x => ?_) ?_; rotate_left; unfold x) | (intro x)
    | exact kept_mk (kept_out (by with_reducible assumption)) | apply kept_setDrv c hp5 hp6
    | apply kept_setPhase c hE hp2 hp22 hp3 hp5 | apply kept_updExc c | apply kept_ite | split | unfold x
    | lift_lets -underBinder

theorem kept_doStopBegin (c : Closed N I T M E K W Q) (a0 : Nat) (a1 : State) (ha1 : Kept Q a1) : Kept Q (doStopBegin a0 a1) := by
  unfold doStopBegin
  try lift_lets -underBinder
  repeat' with_reducible first
    | assumption | (intro x; refine (fun hx : Kept Q x => ?_) ?_; clear_value x) | (intro x; clear_value x)
    | (intro x; refine (fun hx : Kept Q x => ?_) ?_; rotate_left; unfold x) | (intro x)
    | exact kept_mk (kept_out (by with_reducible assumption)) | apply kept_putWave c | apply kept_updExc c
    | apply kept_ite | split | unfold x | lift_lets -underBinder

theorem kept_doStopEnd (c : Closed N I T M E K W Q) (hp5 : W 5) (hp6 : W 6) (a0 : Nat) (a1 : State) (ha1 : Kept Q a1) : Kept Q (doStopEnd a0 a1) := by
  unfold doStopEnd
  try lift_lets -underBinder
  repeat' with_reducible first
    | assumption | (intro x; refine (fun hx : Kept Q x => ?_) ?_; clear_value x) | (intro x; clear_value x)
    | (intro x; refine (fun hx : Kept Q x => ?_) ?_; rotate_left; unfold x) | (intro x)
    | exact kept_mk (kept_out (by with_reducible assumption)) | apply kept_checkOff c hp5 hp6
    | apply kept_driverOff c hp5 hp6 | apply kept_ite | split | unfold x | lift_lets -underBinder

theorem kept_stepAtCrossing (c : Closed N I T M E K W Q) (hp5 : W 5) (a0 : State) (a1 : Nat) (a2 : Nat) (ha0 : Kept Q a0) : Kept Q (State.stepAtCrossing a0 a1 a2) := by
  unfold State.stepAtCrossing
  try lift_lets -underBinder
  repeat' with_reducible first
    | assumption | (intro x; refine (fun hx : Kept Q x => ?_) ?_; clear_value x) | (intro x; clear_value x)
    | (intro x; refine (fun hx : Kept Q x => ?_) ?_; rotate_left; unfold x) | (intro x)
    | exact kept_mk (kept_out (by with_reducible assumption)) | apply kept_putFreq c hp5 | apply kept_updExc c
    | apply kept_ite | split | unfold x | lift_lets -underBinder

theorem kept_freqAtCrossing (c : Closed N I T M E K W Q) (hE : E) (hp2 : W 2) (hp22 : W 22) (hp3 : W 3) (hp5 : W 5) (a0 : State) (a1 : Nat) (a2 : Nat) (ha0 : Kept Q a0) : Kept Q (State.freqAtCrossing a0 a1 a2) := by
  unfold State.freqAtCrossing
  try lift_lets -underBinder
  repeat' with_reducible first
    | assumption | (intro x; refine (fun hx : Kept Q x => ?_) ?_; clear_value x) | (intro x; clear_value x)
    | (intro x; refine (fun hx : Kept Q x => ?_) ?_; rotate_left; unfold x) | (intro x)
    | exact kept_mk (kept_out (by with_reducible assumption)) | apply kept_showLag c hE hp2 hp22 hp3 hp5
    | apply kept_stepAtCrossing c hp5 | apply kept_updExc c | apply kept_ite | split | unfold x
    | lift_lets -underBinder

theorem kept_startChanges (c : Closed N I T M E K W Q) (hE : E) (hp2 : W 2) (hp22 : W 22) (hp3 : W 3) (hp5 : W 5) (hp6 : W 6) (a0 : State) (a1 : Nat) (ha0 : Kept Q a0) : Kept Q (State.startChanges a0 a1) := by
  unfold State.startChanges
  try lift_lets -underBinder
  repeat' with_reducible first
    | assumption | (intro x; refine (fun hx : Kept Q x => ?_) ?_; clear_value x) | (intro x; clear_value x)
    | (intro x; refine (fun hx : Kept Q x => ?_) ?_; rotate_left; unfold x) | (intro x)
    | exact kept_mk (kept_out (by with_reducible assumption)) | apply kept_freqAtCrossing c hE hp2 hp22 hp3 hp5
    | apply kept_putWave c | apply kept_setDrv c hp5 hp6 | apply kept_showPend c hp5 | apply kept_updExc c
    | apply kept_ite | split | unfold x | lift_lets -underBinder

theorem kept_doFrequencyChangeStart (c : Closed N I T M E K W Q) (hE : E) (hp2 : W 2) (hp22 : W 22) (hp3 : W 3) (hp5 : W 5) (hp6 : W 6) (a0 : Nat) (a1 : State) (ha1 : Kept Q a1) : Kept Q (doFrequencyChangeStart a0 a1) := by
  unfold doFrequencyChangeStart
  repeat' with_reducible first
    | assumption | apply kept_startChanges c hE hp2 hp22 hp3 hp5 hp6 | apply kept_ite | split

theorem kept_doAmplitudeChangeStart (c : Closed N I T M E K W Q) (hE : E) (hp2 : W 2) (hp22 : W 22) (hp3 : W 3) (hp5 : W 5) (hp6 : W 6) (a0 : Nat) (a1 : State) (ha1 : Kept Q a1) : Kept Q (doAmplitudeChangeStart a0 a1) := by
  unfold doAmplitudeChangeStart
  repeat' with_reducible first
    | assumption | apply kept_startChanges c hE hp2 hp22 hp3 hp5 hp6 | apply kept_ite | split

theorem kept_doChangeWindowEnd (c : Closed N I T M E K W Q) (hp5 : W 5) (hp6 : W 6) (a0 : Nat) (a1 : State) (ha1 : Kept Q a1) : Kept Q (doChangeWindowEnd a0 a1) := by
  unfold doChangeWindowEnd
  try lift_lets -underBinder
  repeat' with_reducible first
    | assumption | (intro x; refine (fun hx : Kept Q x => ?_) ?_; clear_value x) | (intro x; clear_value x)
    | (intro x; refine (fun hx : Kept Q x => ?_) ?_; rotate_left; unfold x) | (intro x)
    | exact kept_mk (kept_out (by with_reducible assumption)) | apply kept_setDrv c hp5 hp6 | apply kept_updExc c
    | apply kept_ite | split | unfold x | lift_lets -underBinder

theorem kept_excSample (c : Closed N I T M E K W Q) (hE : E) (hp2 : W 2) (hp22 : W 22) (hp3 : W 3) (hp5 : W 5) (hp6 : W 6) (a0 : State) (a1 : Nat) (ha0 : Kept Q a0) : Kept Q (State.excSample a0 a1) := by
  unfold State.excSample
  try lift_lets -underBinder
  repeat' with_reducible first
    | assumption | (intro x; refine (fun hx : Kept Q x => ?_) ?_; clear_value x) | (intro x; clear_value x)
    | (intro x; refine (fun hx : Kept Q x => ?_) ?_; rotate_left; unfold x) | (intro x)
    | exact kept_mk (kept_out (by with_reducible assumption)) | exact ok_lit 5 (by decide) hp5
    | apply kept_checkOff c hp5 hp6 | apply kept_putWave c | apply kept_stickEv c hE hp2 hp22 hp3
    | apply kept_updExc c | apply kept_ite | split | unfold x | lift_lets -underBinder

theorem kept_lagSample (c : Closed N I T M E K W Q) (a0 : State) (a1 : Nat) (a2 : Int) (a3 : Int) (a4 : Option Nat) (ha0 : Kept Q a0) : Kept Q (State.lagSample a0 a1 a2 a3 a4) := by
  unfold State.lagSample
  try lift_lets -underBinder
  repeat' with_reducible first
    | assumption | (intro x; refine (fun hx : Kept Q x => ?_) ?_; clear_value x) | (intro x; clear_value x)
    | (intro x; refine (fun hx : Kept Q x => ?_) ?_; rotate_left; unfold x) | (intro x)
    | exact kept_mk (kept_out (by with_reducible assumption)) | apply kept_updExc c | apply kept_ite | split
    | unfold x | lift_lets -underBinder

theorem kept_phasePeriod (c : Closed N I T M E K W Q) (hE : E) (hp2 : W 2) (hp22 : W 22) (hp3 : W 3) (hp5 : W 5) (a0 : State) (a1 : Nat) (ha0 : Kept Q a0) : Kept Q (State.phasePeriod a0 a1) := by
  unfold State.phasePeriod
  try lift_lets -underBinder
  repeat' with_reducible first
    | assumption | (intro x; refine (fun hx : Kept Q x => ?_) ?_; clear_value x) | (intro x; clear_value x)
    | (intro x; refine (fun hx : Kept Q x => ?_) ?_; rotate_left; unfold x) | (intro x)
    | exact kept_mk (kept_out (by with_reducible assumption)) | exact ok_lit 5 (by decide) hp5
    | apply kept_setPhase c hE hp2 hp22 hp3 hp5 | apply kept_stickEv c hE hp2 hp22 hp3 | apply kept_updExc c
    | apply kept_w c | apply kept_wb c | apply kept_ite | split | unfold x | lift_lets -underBinder

theorem kept_farOff (c : Closed N I T M E K W Q) (hp5 : W 5) (a0 : State) (a1 : Nat) (ha0 : Kept Q a0) : Kept Q (State.farOff a0 a1) := by
  unfold State.farOff
  try lift_lets -underBinder
  repeat' with_reducible first
    | assumption | (intro x; refine (fun hx : Kept Q x => ?_) ?_; clear_value x) | (intro x; clear_value x)
    | (intro x; refine (fun hx : Kept Q x => ?_) ?_; rotate_left; unfold x) | (intro x)
    | exact kept_mk (kept_out (by with_reducible assumption)) | exact ok_lit 5 (by decide) hp5
    | apply kept_updExc c | apply kept_w c | apply kept_ite | split | unfold x | lift_lets -underBinder

theorem kept_farEnd (c : Closed N I T M E K W Q) (hE : E) (hp2 : W 2) (hp22 : W 22) (hp3 : W 3) (hp5 : W 5) (a0 : State) (a1 : Nat) (a2 : Nat) (ha0 : Kept Q a0) : Kept Q (State.farEnd a0 a1 a2) := by
  unfold State.farEnd
  try lift_lets -underBinder
  repeat' with_reducible first
    | assumption | (intro x; refine (fun hx : Kept Q x => ?_) ?_; clear_value x) | (intro x; clear_value x)
    | (intro x; refine (fun hx : Kept Q x => ?_) ?_; rotate_left; unfold x) | (intro x)
    | exact kept_mk (kept_out (by with_reducible assumption)) | exact ok_lit 5 (by decide) hp5
    | apply kept_farOff c hp5 | apply kept_measured c | apply kept_stickEv c hE hp2 hp22 hp3 | apply kept_updExc c
    | apply kept_w c | apply kept_wb c | apply kept_ite | split | unfold x | lift_lets -underBinder

theorem kept_protect (c : Closed N I T M E K W Q) (hE : E) (hp2 : W 2) (hp22 : W 22) (hp3 : W 3) (hp5 : W 5) (hp6 : W 6) (a0 : State) (a1 : Nat) (a2 : Sys2Proof.PeriodIn) (ha0 : Kept Q a0) : Kept Q (State.protect a0 a1 a2) := by
  unfold State.protect
  try lift_lets -underBinder
  repeat' with_reducible first
    | assumption | (intro x; refine (fun hx : Kept Q x => ?_) ?_; clear_value x) | (intro x; clear_value x)
    | (intro x; refine (fun hx : Kept Q x => ?_) ?_; rotate_left; unfold x) | (intro x)
    | exact kept_mk (kept_out (by with_reducible assumption)) | exact ok_lit 5 (by decide) hp5 | apply kept_bump c
    | apply kept_driverFault c hE hp2 hp22 hp3 hp5 hp6 | apply kept_measured c
    | apply kept_stickEv c hE hp2 hp22 hp3 | apply kept_updExc c | apply kept_w c | apply kept_wb c
    | apply kept_ite | split | unfold x | lift_lets -underBinder

theorem kept_senseLock (c : Closed N I T M E K W Q) (hE : E) (hp2 : W 2) (hp22 : W 22) (hp3 : W 3) (hp5 : W 5) (hp6 : W 6) (a0 : State) (a1 : Nat) (a2 : Sys2Proof.PeriodIn) (ha0 : Kept Q a0) : Kept Q (State.senseLock a0 a1 a2) := by
  unfold State.senseLock
  try lift_lets -underBinder
  repeat' with_reducible first
    | assumption | (intro x; refine (fun hx : Kept Q x => ?_) ?_; clear_value x) | (intro x; clear_value x)
    | (intro x; refine (fun hx : Kept Q x => ?_) ?_; rotate_left; unfold x) | (intro x)
    | exact kept_mk (kept_out (by with_reducible assumption)) | exact ok_lit 5 (by decide) hp5
    | apply kept_setLocked c hp5 hp6 | apply kept_stickEv c hE hp2 hp22 hp3 | apply kept_updExc c | apply kept_ite
    | split | unfold x | lift_lets -underBinder

theorem kept_excPeriod (c : Closed N I T M E K W Q) (hE : E) (hp2 : W 2) (hp22 : W 22) (hp3 : W 3) (hp5 : W 5) (hp6 : W 6) (a0 : State) (a1 : Nat) (a2 : Sys2Proof.PeriodIn) (ha0 : Kept Q a0) : Kept Q (State.excPeriod a0 a1 a2) := by
  unfold State.excPeriod
  try lift_lets -underBinder
  repeat' with_reducible first
    | assumption | (intro x; refine (fun hx : Kept Q x => ?_) ?_; clear_value x) | (intro x; clear_value x)
    | (intro x; refine (fun hx : Kept Q x => ?_) ?_; rotate_left; unfold x) | (intro x)
    | exact kept_mk (kept_out (by with_reducible assumption)) | apply kept_farEnd c hE hp2 hp22 hp3 hp5
    | apply kept_phasePeriod c hE hp2 hp22 hp3 hp5 | apply kept_protect c hE hp2 hp22 hp3 hp5 hp6
    | apply kept_senseLock c hE hp2 hp22 hp3 hp5 hp6 | apply kept_updExc c | apply kept_ite | split | unfold x
    | lift_lets -underBinder

theorem kept_phReacq (c : Closed N I T M E K W Q) (a0 : State) (a1 : Nat) (ha0 : Kept Q a0) : Kept Q (State.phReacq a0 a1) := by
  unfold State.phReacq
  try lift_lets -underBinder
  repeat' with_reducible first
    | assumption | (intro x; refine (fun hx : Kept Q x => ?_) ?_; clear_value x) | (intro x; clear_value x)
    | (intro x; refine (fun hx : Kept Q x => ?_) ?_; rotate_left; unfold x) | (intro x)
    | exact kept_mk (kept_out (by with_reducible assumption)) | apply kept_updExc c | apply kept_ite | split
    | unfold x | lift_lets -underBinder

theorem kept_doPhReacqDone (c : Closed N I T M E K W Q) (hE : E) (hp2 : W 2) (hp22 : W 22) (hp3 : W 3) (hp5 : W 5) (a0 : Nat) (a1 : State) (ha1 : Kept Q a1) : Kept Q (doPhReacqDone a0 a1) := by
  unfold doPhReacqDone
  try lift_lets -underBinder
  repeat' with_reducible first
    | assumption | (intro x; refine (fun hx : Kept Q x => ?_) ?_; clear_value x) | (intro x; clear_value x)
    | (intro x; refine (fun hx : Kept Q x => ?_) ?_; rotate_left; unfold x) | (intro x)
    | exact kept_mk (kept_out (by with_reducible assumption)) | apply kept_setPhase c hE hp2 hp22 hp3 hp5
    | apply kept_updExc c | apply kept_ite | split | unfold x | lift_lets -underBinder

theorem kept_doPhEstStale (c : Closed N I T M E K W Q) (a0 : Nat) (a1 : State) (ha1 : Kept Q a1) : Kept Q (doPhEstStale a0 a1) := by
  unfold doPhEstStale
  try lift_lets -underBinder
  repeat' with_reducible first
    | assumption | (intro x; refine (fun hx : Kept Q x => ?_) ?_; clear_value x) | (intro x; clear_value x)
    | (intro x; refine (fun hx : Kept Q x => ?_) ?_; rotate_left; unfold x) | (intro x)
    | exact kept_mk (kept_out (by with_reducible assumption)) | apply kept_updExc c | apply kept_ite | split
    | unfold x | lift_lets -underBinder

theorem kept_doCurrentLimit (c : Closed N I T M E K W Q) (hp5 : W 5) (a0 : Nat) (a1 : Nat) (a2 : State) (ha2 : Kept Q a2) : Kept Q (doCurrentLimit a0 a1 a2) := by
  unfold doCurrentLimit
  try lift_lets -underBinder
  repeat' with_reducible first
    | assumption | (intro x; refine (fun hx : Kept Q x => ?_) ?_; clear_value x) | (intro x; clear_value x)
    | (intro x; refine (fun hx : Kept Q x => ?_) ?_; rotate_left; unfold x) | (intro x)
    | exact kept_mk (kept_out (by with_reducible assumption)) | exact ok_lit 5 (by decide) hp5
    | apply kept_updExc c | apply kept_w c | apply kept_ite | split | unfold x | lift_lets -underBinder

theorem kept_doDriverTempMeasure (c : Closed N I T M E K W Q) (hE : E) (hp2 : W 2) (hp22 : W 22) (hp3 : W 3) (hp5 : W 5) (hp6 : W 6) (a0 : Nat) (a1 : Nat) (a2 : State) (ha2 : Kept Q a2) : Kept Q (doDriverTempMeasure a0 a1 a2) := by
  unfold doDriverTempMeasure
  try lift_lets -underBinder
  repeat' with_reducible first
    | assumption | (intro x; refine (fun hx : Kept Q x => ?_) ?_; clear_value x) | (intro x; clear_value x)
    | (intro x; refine (fun hx : Kept Q x => ?_) ?_; rotate_left; unfold x) | (intro x)
    | exact kept_mk (kept_out (by with_reducible assumption)) | exact ok_lit 5 (by decide) hp5
    | apply kept_driverFault c hE hp2 hp22 hp3 hp5 hp6 | apply kept_measured c
    | apply kept_stickEv c hE hp2 hp22 hp3 | apply kept_w c | apply kept_wb c | apply kept_ite | split | unfold x
    | lift_lets -underBinder

theorem kept_doVexcMeasure (c : Closed N I T M E K W Q) (hE : E) (hp2 : W 2) (hp22 : W 22) (hp3 : W 3) (hp5 : W 5) (a0 : Nat) (a1 : State) (ha1 : Kept Q a1) : Kept Q (doVexcMeasure a0 a1) := by
  unfold doVexcMeasure
  try lift_lets -underBinder
  repeat' with_reducible first
    | assumption | (intro x; refine (fun hx : Kept Q x => ?_) ?_; clear_value x) | (intro x; clear_value x)
    | (intro x; refine (fun hx : Kept Q x => ?_) ?_; rotate_left; unfold x) | (intro x)
    | exact kept_mk (kept_out (by with_reducible assumption)) | exact ok_lit 5 (by decide) hp5 | apply kept_each c
    | apply kept_measured c | apply kept_stickEv c hE hp2 hp22 hp3 | apply kept_updExc c | apply kept_w c
    | apply kept_ite | split | unfold x | lift_lets -underBinder

theorem kept_restartDrv (c : Closed N I T M E K W Q) (hp5 : W 5) (hp6 : W 6) (a0 : State) (a1 : Nat) (ha0 : Kept Q a0) : Kept Q (State.restartDrv a0 a1) := by
  unfold State.restartDrv
  repeat' with_reducible first
    | assumption | apply kept_driverOff c hp5 hp6 | apply kept_enterSoft c hp5 hp6 | apply kept_ite | split

theorem kept_acqPush (c : Closed N I T M E K W Q) (hE : E) (hp2 : W 2) (hp22 : W 22) (hp3 : W 3) (hp4 : W 4) (hp6 : W 6) (a0 : State) (a1 : Nat) (a2 : Int) (a3 : Int) (ha0 : Kept Q a0) : Kept Q (State.acqPush a0 a1 a2 a3) := by
  unfold State.acqPush
  try lift_lets -underBinder
  repeat' with_reducible first
    | assumption | (intro x; refine (fun hx : Kept Q x => ?_) ?_; clear_value x) | (intro x; clear_value x)
    | (intro x; refine (fun hx : Kept Q x => ?_) ?_; rotate_left; unfold x) | (intro x)
    | exact kept_mk (kept_out (by with_reducible assumption)) | exact ok_lit 4 (by decide) hp4
    | exact ok_lit 6 (by decide) hp6 | apply kept_bump c | apply kept_measured c
    | apply kept_stickEv c hE hp2 hp22 hp3 | apply kept_updAcq c | apply kept_updPrt c | apply kept_w c
    | apply kept_ite | split | unfold x | lift_lets -underBinder

theorem kept_couplings (c : Closed N I T M E K W Q) (hE : E) (hp2 : W 2) (hp22 : W 22) (hp3 : W 3) (hp6 : W 6) (a0 : State) (a1 : Nat) (ha0 : Kept Q a0) : Kept Q (State.couplings a0 a1) := by
  unfold State.couplings
  try lift_lets -underBinder
  repeat' with_reducible first
    | assumption | (intro x; refine (fun hx : Kept Q x => ?_) ?_; clear_value x) | (intro x; clear_value x)
    | (intro x; refine (fun hx : Kept Q x => ?_) ?_; rotate_left; unfold x) | (intro x)
    | exact ok_lit 6 (by decide) hp6 | apply kept_stickEv c hE hp2 hp22 hp3 | apply kept_ite | split | unfold x
    | lift_lets -underBinder

theorem kept_cancel (c : Closed N I T M E K W Q) (hE : E) (hp2 : W 2) (hp22 : W 22) (hp3 : W 3) (hp6 : W 6) (a0 : State) (a1 : Nat) (a2 : Nat) (a3 : Int) (a4 : Int) (a5 : Bool) (a6 : Bool) (ha0 : Kept Q a0) : Kept Q (State.cancel a0 a1 a2 a3 a4 a5 a6).1 := by
  unfold State.cancel
  try lift_lets -underBinder
  repeat' with_reducible first
    | assumption | (intro x; refine (fun hx : Kept Q x => ?_) ?_; clear_value x)
    | (intro x; refine (fun hx : Kept Q x.1 => ?_) ?_; clear_value x) | (intro x; clear_value x)
    | (intro x; refine (fun hx : Kept Q x => ?_) ?_; rotate_left; unfold x) | (intro x)
    | exact kept_mk (kept_out (by with_reducible assumption)) | exact ok_lit 6 (by decide) hp6
    | apply kept_couplings c hE hp2 hp22 hp3 hp6 | apply kept_updAcq c | apply kept_w c | apply kept_wb c
    | apply foldl_kept | apply foldl_kept1 | apply kept_ite | split | unfold x | lift_lets -underBinder

theorem kept_showDec (c : Closed N I T M E K W Q) (hp6 : W 6) (a0 : State) (a1 : Nat) (ha0 : Kept Q a0) : Kept Q (State.showDec a0 a1) := by
  unfold State.showDec
  try lift_lets -underBinder
  repeat' with_reducible first
    | assumption | (intro x; refine (fun hx : Kept Q x => ?_) ?_; clear_value x)
    | (intro x; refine (fun hx : Kept Q x.1 => ?_) ?_; clear_value x) | (intro x; clear_value x)
    | (intro x; refine (fun hx : Kept Q x => ?_) ?_; rotate_left; unfold x) | (intro x)
    | exact ok_lit 6 (by decide) hp6 | apply kept_w c | unfold x | lift_lets -underBinder

theorem kept_acqPeriod (c : Closed N I T M E K W Q) (hp6 : W 6) (a0 : State) (a1 : Nat) (ha0 : Kept Q a0) : Kept Q (State.acqPeriod a0 a1) := by
  unfold State.acqPeriod
  try lift_lets -underBinder
  repeat' with_reducible first
    | assumption | (intro x; refine (fun hx : Kept Q x => ?_) ?_; clear_value x) | (intro x; clear_value x)
    | (intro x; refine (fun hx : Kept Q x => ?_) ?_; rotate_left; unfold x) | (intro x)
    | exact kept_mk (kept_out (by with_reducible assumption)) | exact ok_lit 6 (by decide) hp6
    | apply kept_measured c | apply kept_updAcq c | apply kept_w c | apply kept_ite | split | unfold x
    | lift_lets -underBinder

theorem kept_acqTake (c : Closed N I T M E K W Q) (hp6 : W 6) (a0 : State) (a1 : Nat) (ha0 : Kept Q a0) : Kept Q (State.acqTake a0 a1) := by
  unfold State.acqTake
  try lift_lets -underBinder
  repeat' with_reducible first
    | assumption | (intro x; refine (fun hx : Kept Q x => ?_) ?_; clear_value x) | (intro x; clear_value x)
    | (intro x; refine (fun hx : Kept Q x => ?_) ?_; rotate_left; unfold x) | (intro x)
    | exact kept_mk (kept_out (by with_reducible assumption)) | exact ok_lit 6 (by decide) hp6
    | apply kept_showDec c hp6 | apply kept_updAcq c | apply kept_w c | apply kept_ite | split | unfold x
    | lift_lets -underBinder

theorem kept_acqStages (c : Closed N I T M E K W Q) (hE : E) (hp2 : W 2) (hp22 : W 22) (hp3 : W 3) (hp6 : W 6) (a0 : State) (a1 : Nat) (ha0 : Kept Q a0) : Kept Q (State.acqStages a0 a1) := by
  unfold State.acqStages
  try lift_lets -underBinder
  repeat' with_reducible first
    | assumption | (intro x; refine (fun hx : Kept Q x => ?_) ?_; clear_value x)
    | (intro x; refine (fun hx : Kept Q x.1 => ?_) ?_; clear_value x) | (intro x; clear_value x)
    | (intro x; refine (fun hx : Kept Q x => ?_) ?_; rotate_left; unfold x) | (intro x)
    | exact kept_mk (kept_out (by with_reducible assumption)) | exact ok_lit 6 (by decide) hp6
    | apply kept_acqPeriod c hp6 | apply kept_acqTake c hp6 | apply kept_bump c
    | apply kept_cancel c hE hp2 hp22 hp3 hp6 | refine fst_kept ‹_› ?_ | apply kept_stickEv c hE hp2 hp22 hp3
    | apply kept_updAcq c | apply kept_wb c | apply kept_ite | split | unfold x | lift_lets -underBinder

theorem kept_acqComb (c : Closed N I T M E K W Q) (a0 : State) (a1 : Nat) (ha0 : Kept Q a0) : Kept Q (State.acqComb a0 a1) := by
  unfold State.acqComb
  try lift_lets -underBinder
  repeat' with_reducible first
    | assumption | (intro x; refine (fun hx : Kept Q x => ?_) ?_; clear_value x)
    | (intro x; refine (fun hx : Kept Q x.1 => ?_) ?_; clear_value x) | (intro x; clear_value x)
    | (intro x; refine (fun hx : Kept Q x => ?_) ?_; rotate_left; unfold x) | (intro x)
    | exact kept_mk (kept_out (by with_reducible assumption)) | apply kept_updAcq c | apply kept_ite | split
    | unfold x | lift_lets -underBinder

theorem kept_filterLoad (c : Closed N I T M E K W Q) (hM : M) (hp7 : W 7) (a0 : State) (a1 : Nat) (ha0 : Kept Q a0) : Kept Q (State.filterLoad a0 a1) := by
  unfold State.filterLoad
  try lift_lets -underBinder
  repeat' with_reducible first
    | assumption | (intro x; refine (fun hx : Kept Q x => ?_) ?_; clear_value x) | (intro x; clear_value x)
    | (intro x; refine (fun hx : Kept Q x => ?_) ?_; rotate_left; unfold x) | (intro x)
    | exact ok_lit 7 (by decide) hp7 | apply kept_setSram32 c hM | apply kept_w c | apply kept_ite | split
    | unfold x | lift_lets -underBinder

theorem kept_takeBank (c : Closed N I T M E K W Q) (hp6 : W 6) (a0 : State) (a1 : Nat) (ha0 : Kept Q a0) : Kept Q (State.takeBank a0 a1) := by
  unfold State.takeBank
  try lift_lets -underBinder
  repeat' with_reducible first
    | assumption | (intro x; refine (fun hx : Kept Q x => ?_) ?_; clear_value x) | (intro x; clear_value x)
    | (intro x; refine (fun hx : Kept Q x => ?_) ?_; rotate_left; unfold x) | (intro x)
    | exact kept_mk (kept_out (by with_reducible assumption)) | exact ok_lit 6 (by decide) hp6
    | apply kept_showDec c hp6 | apply kept_updAcq c | apply kept_w c | apply kept_ite | split | unfold x
    | lift_lets -underBinder

theorem kept_fadeEnd (c : Closed N I T M E K W Q) (hE : E) (hp2 : W 2) (hp22 : W 22) (hp3 : W 3) (hp6 : W 6) (hp7 : W 7) (a0 : State) (a1 : Nat) (ha0 : Kept Q a0) : Kept Q (State.fadeEnd a0 a1) := by
  unfold State.fadeEnd
  try lift_lets -underBinder
  repeat' with_reducible first
    | assumption | (intro x; refine (fun hx : Kept Q x => ?_) ?_; clear_value x) | (intro x; clear_value x)
    | (intro x; refine (fun hx : Kept Q x => ?_) ?_; rotate_left; unfold x) | (intro x)
    | exact kept_mk (kept_out (by with_reducible assumption)) | exact ok_lit 6 (by decide) hp6
    | exact ok_lit 7 (by decide) hp7 | apply kept_stickEv c hE hp2 hp22 hp3 | apply kept_updAcq c | apply kept_w c
    | apply kept_ite | split | unfold x | lift_lets -underBinder

theorem kept_filterSwap (c : Closed N I T M E K W Q) (hp6 : W 6) (hp7 : W 7) (a0 : State) (a1 : Nat) (ha0 : Kept Q a0) : Kept Q (State.filterSwap a0 a1) := by
  unfold State.filterSwap
  try lift_lets -underBinder
  repeat' with_reducible first
    | assumption | (intro x; refine (fun hx : Kept Q x => ?_) ?_; clear_value x)
    | (intro x; refine (fun hx : Kept Q x.1 => ?_) ?_; clear_value x) | (intro x; clear_value x)
    | (intro x; refine (fun hx : Kept Q x => ?_) ?_; rotate_left; unfold x) | (intro x)
    | exact kept_mk (kept_out (by with_reducible assumption)) | exact ok_lit 6 (by decide) hp6
    | exact ok_lit 7 (by decide) hp7 | apply kept_takeBank c hp6 | apply kept_updAcq c | apply kept_w c
    | apply kept_wb c | apply foldl_kept | apply foldl_kept1 | apply kept_ite | split | unfold x
    | lift_lets -underBinder

theorem kept_decRestart (c : Closed N I T M E K W Q) (hE : E) (hp2 : W 2) (hp22 : W 22) (hp3 : W 3) (hp6 : W 6) (hp7 : W 7) (a0 : State) (a1 : Nat) (a2 : Bool) (ha0 : Kept Q a0) : Kept Q (State.decRestart a0 a1 a2) := by
  unfold State.decRestart
  try lift_lets -underBinder
  repeat' with_reducible first
    | assumption | (intro x; refine (fun hx : Kept Q x => ?_) ?_; clear_value x) | (intro x; clear_value x)
    | (intro x; refine (fun hx : Kept Q x => ?_) ?_; rotate_left; unfold x) | (intro x)
    | exact kept_mk (kept_out (by with_reducible assumption)) | exact ok_lit 6 (by decide) hp6
    | apply kept_fadeEnd c hE hp2 hp22 hp3 hp6 hp7 | apply kept_showArm c hp6 | apply kept_takeBank c hp6
    | apply kept_updAcq c | apply kept_w c | apply kept_ite | split | unfold x | lift_lets -underBinder

theorem kept_gapNote (c : Closed N I T M E K W Q) (hE : E) (hp2 : W 2) (hp22 : W 22) (hp3 : W 3) (hp6 : W 6) (a0 : State) (a1 : Nat) (ha0 : Kept Q a0) : Kept Q (State.gapNote a0 a1) := by
  unfold State.gapNote
  try lift_lets -underBinder
  repeat' with_reducible first
    | assumption | (intro x; refine (fun hx : Kept Q x => ?_) ?_; clear_value x) | (intro x; clear_value x)
    | (intro x; refine (fun hx : Kept Q x => ?_) ?_; rotate_left; unfold x) | (intro x)
    | exact kept_mk (kept_out (by with_reducible assumption)) | exact ok_lit 6 (by decide) hp6
    | apply kept_record c hE hp2 hp22 hp3 | apply kept_stickEv c hE hp2 hp22 hp3 | apply kept_updAcq c
    | apply kept_ite | split | unfold x | lift_lets -underBinder

theorem kept_acqRestart (c : Closed N I T M E K W Q) (hE : E) (hp2 : W 2) (hp22 : W 22) (hp3 : W 3) (hp6 : W 6) (hp7 : W 7) (a0 : State) (a1 : Nat) (ha0 : Kept Q a0) : Kept Q (State.acqRestart a0 a1) := by
  unfold State.acqRestart
  try lift_lets -underBinder
  repeat' with_reducible first
    | assumption | (intro x; refine (fun hx : Kept Q x => ?_) ?_; clear_value x) | (intro x; clear_value x)
    | (intro x; refine (fun hx : Kept Q x => ?_) ?_; rotate_left; unfold x) | (intro x)
    | exact kept_mk (kept_out (by with_reducible assumption)) | exact ok_lit 6 (by decide) hp6
    | apply kept_decRestart c hE hp2 hp22 hp3 hp6 hp7 | apply kept_fadeEnd c hE hp2 hp22 hp3 hp6 hp7
    | apply kept_showArm c hp6 | apply kept_updAcq c | apply kept_w c | apply kept_ite | split | unfold x
    | lift_lets -underBinder

theorem kept_envCheck (c : Closed N I T M E K W Q) (hp6 : W 6) (a0 : State) (a1 : Nat) (a2 : Nat) (a3 : Bool) (ha0 : Kept Q a0) : Kept Q (State.envCheck a0 a1 a2 a3) := by
  unfold State.envCheck
  try lift_lets -underBinder
  repeat' with_reducible first
    | assumption | (intro x; refine (fun hx : Kept Q x => ?_) ?_; clear_value x) | (intro x; clear_value x)
    | (intro x; refine (fun hx : Kept Q x => ?_) ?_; rotate_left; unfold x) | (intro x)
    | exact kept_mk (kept_out (by with_reducible assumption)) | exact ok_lit 6 (by decide) hp6
    | apply kept_injInput c | apply kept_showArm c hp6 | apply kept_updAcq c | apply kept_w c | apply kept_ite
    | split | unfold x | lift_lets -underBinder

theorem kept_decOutput (c : Closed N I T M E K W Q) (hE : E) (hp2 : W 2) (hp22 : W 22) (hp3 : W 3) (hp6 : W 6) (hp7 : W 7) (a0 : State) (a1 : Nat) (ha0 : Kept Q a0) : Kept Q (State.decOutput a0 a1) := by
  unfold State.decOutput
  try lift_lets -underBinder
  repeat' with_reducible first
    | assumption | (intro x; refine (fun hx : Kept Q x => ?_) ?_; clear_value x) | (intro x; clear_value x)
    | (intro x; refine (fun hx : Kept Q x => ?_) ?_; rotate_left; unfold x) | (intro x)
    | exact kept_mk (kept_out (by with_reducible assumption)) | exact ok_lit 6 (by decide) hp6
    | apply kept_envCheck c hp6 | apply kept_fadeEnd c hE hp2 hp22 hp3 hp6 hp7 | apply kept_measured c
    | apply kept_record c hE hp2 hp22 hp3 | apply kept_takeBank c hp6 | apply kept_updAcq c | apply kept_w c
    | apply kept_ite | split | unfold x | lift_lets -underBinder

theorem kept_doCarrierPeriodEnd (c : Closed N I T M E K W Q) (hE : E) (hp2 : W 2) (hp22 : W 22) (hp3 : W 3) (hp4 : W 4) (hp5 : W 5) (hp6 : W 6) (a0 : Nat) (a1 : Sys2Proof.PeriodIn) (a2 : State) (ha2 : Kept Q a2) : Kept Q (doCarrierPeriodEnd a0 a1 a2) := by
  unfold doCarrierPeriodEnd
  try lift_lets -underBinder
  repeat' with_reducible first
    | assumption | (intro x; refine (fun hx : Kept Q x => ?_) ?_; clear_value x) | (intro x; clear_value x)
    | (intro x; refine (fun hx : Kept Q x => ?_) ?_; rotate_left; unfold x) | (intro x)
    | exact kept_mk (kept_out (by with_reducible assumption)) | apply kept_autoRange c hp4
    | apply kept_excPeriod c hE hp2 hp22 hp3 hp5 hp6 | apply kept_ite | split | unfold x | lift_lets -underBinder

theorem kept_pkClr (c : Closed N I T M E K W Q) (hp6 : W 6) (a0 : State) (a1 : Nat) (ha0 : Kept Q a0) : Kept Q (State.pkClr a0 a1) := by
  unfold State.pkClr
  try lift_lets -underBinder
  repeat' with_reducible first
    | assumption | (intro x; refine (fun hx : Kept Q x => ?_) ?_; clear_value x) | (intro x; clear_value x)
    | (intro x; refine (fun hx : Kept Q x => ?_) ?_; rotate_left; unfold x) | (intro x)
    | exact kept_mk (kept_out (by with_reducible assumption)) | exact ok_lit 6 (by decide) hp6
    | apply kept_updAcq c | apply kept_w c | apply kept_ite | split | unfold x | lift_lets -underBinder

theorem kept_xcClr (c : Closed N I T M E K W Q) (a0 : State) (a1 : Nat) (ha0 : Kept Q a0) : Kept Q (State.xcClr a0 a1) := by
  unfold State.xcClr
  try lift_lets -underBinder
  repeat' with_reducible first
    | assumption | (intro x; refine (fun hx : Kept Q x => ?_) ?_; clear_value x) | (intro x; clear_value x)
    | (intro x; refine (fun hx : Kept Q x => ?_) ?_; rotate_left; unfold x) | (intro x)
    | exact kept_mk (kept_out (by with_reducible assumption)) | apply kept_updAcq c | apply kept_ite | split
    | unfold x | lift_lets -underBinder

theorem kept_initFilters (c : Closed N I T M E K W Q) (hM : M) (a0 : State) (ha0 : Kept Q a0) : Kept Q (State.initFilters a0) := by
  unfold State.initFilters
  try lift_lets -underBinder
  repeat' with_reducible first
    | assumption | (intro x; refine (fun hx : Kept Q x => ?_) ?_; clear_value x) | (intro x; clear_value x)
    | (intro x; refine (fun hx : Kept Q x => ?_) ?_; rotate_left; unfold x) | (intro x) | apply kept_each c
    | apply kept_setSram32 c hM | apply kept_zeroSram c hM | apply kept_ite | split | unfold x
    | lift_lets -underBinder

theorem kept_obsStick (c : Closed N I T M E K W Q) (hE : E) (hp2 : W 2) (hp22 : W 22) (hp3 : W 3) (a0 : State) (a1 : Nat) (a2 : Fld) (ha0 : Kept Q a0) (ha2 : OkFld W a2) : Kept Q (State.obsStick a0 a1 a2) := by
  unfold State.obsStick
  repeat' with_reducible first
    | assumption | apply kept_stickEv c hE hp2 hp22 hp3 | apply kept_w c | apply kept_ite | split

theorem kept_setOst (c : Closed N I T M E K W Q) (hp8 : W 8) (a0 : State) (a1 : Nat) (a2 : Nat) (ha0 : Kept Q a0) : Kept Q (State.setOst a0 a1 a2) := by
  unfold State.setOst
  repeat' with_reducible first
    | assumption | exact ok_lit 8 (by decide) hp8 | apply kept_w c

theorem kept_engAt (c : Closed N I T M E K W Q) (hp8 : W 8) (a0 : State) (a1 : Nat) (a2 : Nat) (ha0 : Kept Q a0) : Kept Q (State.engAt a0 a1 a2) := by
  unfold State.engAt
  try lift_lets -underBinder
  repeat' with_reducible first
    | assumption | (intro x; refine (fun hx : Kept Q x => ?_) ?_; clear_value x) | (intro x; clear_value x)
    | (intro x; refine (fun hx : Kept Q x => ?_) ?_; rotate_left; unfold x) | (intro x)
    | exact ok_lit 8 (by decide) hp8 | apply kept_setOst c hp8 | apply kept_updObs c | apply kept_wb c
    | apply kept_ite | split | unfold x | lift_lets -underBinder

theorem kept_keepObs (c : Closed N I T M E K W Q) (a0 : State) (ha0 : Kept Q a0) : Kept Q (State.keepObs a0) := by
  unfold State.keepObs
  try lift_lets -underBinder
  repeat' with_reducible first
    | assumption | (intro x; refine (fun hx : Kept Q x => ?_) ?_; clear_value x) | (intro x; clear_value x)
    | (intro x; refine (fun hx : Kept Q x => ?_) ?_; rotate_left; unfold x) | (intro x)
    | exact kept_mk (kept_out (by with_reducible assumption)) | apply kept_ite | split | unfold x
    | lift_lets -underBinder

theorem kept_gainUpdate (c : Closed N I T M E K W Q) (hE : E) (hp2 : W 2) (hp22 : W 22) (hp3 : W 3) (hp8 : W 8) (a0 : State) (a1 : Nat) (a2 : Bool) (a3 : Nat) (ha0 : Kept Q a0) : Kept Q (State.gainUpdate a0 a1 a2 a3) := by
  unfold State.gainUpdate
  try lift_lets -underBinder
  repeat' with_reducible first
    | assumption | (intro x; refine (fun hx : Kept Q x => ?_) ?_; clear_value x)
    | (intro x; refine (fun hx : Kept Q x.1 => ?_) ?_; clear_value x) | (intro x; clear_value x)
    | (intro x; refine (fun hx : Kept Q x => ?_) ?_; rotate_left; unfold x) | (intro x)
    | exact kept_mk (kept_out (by with_reducible assumption)) | exact ok_lit 8 (by decide) hp8
    | apply kept_obsStick c hE hp2 hp22 hp3 | apply kept_updObs c | apply kept_w c | apply kept_wb c
    | apply kept_ite | split | unfold x | lift_lets -underBinder

theorem kept_enterLot (c : Closed N I T M E K W Q) (hE : E) (hp2 : W 2) (hp22 : W 22) (hp3 : W 3) (hp8 : W 8) (a0 : State) (a1 : Nat) (ha0 : Kept Q a0) : Kept Q (State.enterLot a0 a1) := by
  unfold State.enterLot
  try lift_lets -underBinder
  repeat' with_reducible first
    | assumption | (intro x; refine (fun hx : Kept Q x => ?_) ?_; clear_value x) | (intro x; clear_value x)
    | (intro x; refine (fun hx : Kept Q x => ?_) ?_; rotate_left; unfold x) | (intro x)
    | exact kept_mk (kept_out (by with_reducible assumption)) | exact ok_lit 8 (by decide) hp8
    | apply kept_ashNote c | apply kept_bump c | apply kept_obsStick c hE hp2 hp22 hp3 | apply kept_setOst c hp8
    | apply kept_updObs c | apply kept_w c | apply kept_ite | split | unfold x | lift_lets -underBinder

theorem kept_newOrigin (c : Closed N I T M E K W Q) (hp8 : W 8) (a0 : State) (a1 : Nat) (ha0 : Kept Q a0) : Kept Q (State.newOrigin a0 a1) := by
  unfold State.newOrigin
  try lift_lets -underBinder
  repeat' with_reducible first
    | assumption | (intro x; refine (fun hx : Kept Q x => ?_) ?_; clear_value x) | (intro x; clear_value x)
    | (intro x; refine (fun hx : Kept Q x => ?_) ?_; rotate_left; unfold x) | (intro x)
    | exact kept_mk (kept_out (by with_reducible assumption)) | exact ok_lit 8 (by decide) hp8
    | apply kept_updObs c | apply kept_w c | apply kept_wb c | apply kept_ite | split | unfold x
    | lift_lets -underBinder

theorem kept_obsRestart (c : Closed N I T M E K W Q) (hE : E) (hp2 : W 2) (hp22 : W 22) (hp3 : W 3) (hp8 : W 8) (a0 : State) (a1 : Nat) (ha0 : Kept Q a0) : Kept Q (State.obsRestart a0 a1) := by
  unfold State.obsRestart
  try lift_lets -underBinder
  repeat' with_reducible first
    | assumption | (intro x; refine (fun hx : Kept Q x => ?_) ?_; clear_value x) | (intro x; clear_value x)
    | (intro x; refine (fun hx : Kept Q x => ?_) ?_; rotate_left; unfold x) | (intro x)
    | exact ok_lit 8 (by decide) hp8 | apply kept_gainUpdate c hE hp2 hp22 hp3 hp8 | apply kept_newOrigin c hp8
    | apply kept_setOst c hp8 | apply kept_updDiv c | apply kept_updObs c | apply kept_w c | apply kept_ite
    | split | unfold x | lift_lets -underBinder

theorem kept_reacquire (c : Closed N I T M E K W Q) (hp8 : W 8) (a0 : State) (a1 : Nat) (ha0 : Kept Q a0) : Kept Q (State.reacquire a0 a1) := by
  unfold State.reacquire
  try lift_lets -underBinder
  repeat' with_reducible first
    | assumption | (intro x; refine (fun hx : Kept Q x => ?_) ?_; clear_value x) | (intro x; clear_value x)
    | (intro x; refine (fun hx : Kept Q x => ?_) ?_; rotate_left; unfold x) | (intro x)
    | exact ok_lit 8 (by decide) hp8 | apply kept_setOst c hp8 | apply kept_w c | apply kept_ite | split
    | unfold x | lift_lets -underBinder

theorem kept_doCoastTimeout (c : Closed N I T M E K W Q) (hE : E) (hp2 : W 2) (hp22 : W 22) (hp3 : W 3) (hp8 : W 8) (a0 : Nat) (a1 : State) (ha1 : Kept Q a1) : Kept Q (doCoastTimeout a0 a1) := by
  unfold doCoastTimeout
  try lift_lets -underBinder
  repeat' with_reducible first
    | assumption | (intro x; refine (fun hx : Kept Q x => ?_) ?_; clear_value x) | (intro x; clear_value x)
    | (intro x; refine (fun hx : Kept Q x => ?_) ?_; rotate_left; unfold x) | (intro x)
    | exact kept_mk (kept_out (by with_reducible assumption)) | apply kept_enterLot c hE hp2 hp22 hp3 hp8
    | apply kept_ite | split | unfold x | lift_lets -underBinder

theorem kept_doLockDeclare (c : Closed N I T M E K W Q) (hp8 : W 8) (a0 : Nat) (a1 : State) (ha1 : Kept Q a1) : Kept Q (doLockDeclare a0 a1) := by
  unfold doLockDeclare
  try lift_lets -underBinder
  repeat' with_reducible first
    | assumption | (intro x; refine (fun hx : Kept Q x => ?_) ?_; clear_value x) | (intro x; clear_value x)
    | (intro x; refine (fun hx : Kept Q x => ?_) ?_; rotate_left; unfold x) | (intro x)
    | exact kept_mk (kept_out (by with_reducible assumption)) | apply kept_setOst c hp8 | apply kept_updObs c
    | apply kept_ite | split | unfold x | lift_lets -underBinder

theorem kept_doLotError (c : Closed N I T M E K W Q) (hE : E) (hp2 : W 2) (hp22 : W 22) (hp3 : W 3) (hp8 : W 8) (a0 : Nat) (a1 : State) (ha1 : Kept Q a1) : Kept Q (doLotError a0 a1) := by
  unfold doLotError
  try lift_lets -underBinder
  repeat' with_reducible first
    | assumption | (intro x; refine (fun hx : Kept Q x => ?_) ?_; clear_value x) | (intro x; clear_value x)
    | (intro x; refine (fun hx : Kept Q x => ?_) ?_; rotate_left; unfold x) | (intro x)
    | exact kept_mk (kept_out (by with_reducible assumption)) | apply kept_enterLot c hE hp2 hp22 hp3 hp8
    | apply kept_ite | split | unfold x | lift_lets -underBinder

theorem kept_doReacquisition (c : Closed N I T M E K W Q) (hp8 : W 8) (a0 : Nat) (a1 : State) (ha1 : Kept Q a1) : Kept Q (doReacquisition a0 a1) := by
  unfold doReacquisition
  try lift_lets -underBinder
  repeat' with_reducible first
    | assumption | (intro x; refine (fun hx : Kept Q x => ?_) ?_; clear_value x) | (intro x; clear_value x)
    | (intro x; refine (fun hx : Kept Q x => ?_) ?_; rotate_left; unfold x) | (intro x)
    | exact kept_mk (kept_out (by with_reducible assumption)) | apply kept_reacquire c hp8 | apply kept_ite
    | split | unfold x | lift_lets -underBinder

theorem kept_obsAcq (c : Closed N I T M E K W Q) (hp8 : W 8) (a0 : State) (a1 : Nat) (ha0 : Kept Q a0) : Kept Q (State.obsAcq a0 a1) := by
  unfold State.obsAcq
  repeat' with_reducible first
    | assumption | apply kept_reacquire c hp8 | apply kept_ite | split

theorem kept_obsMset (c : Closed N I T M E K W Q) (a0 : State) (a1 : Nat) (a2 : Nat) (ha0 : Kept Q a0) : Kept Q (State.obsMset a0 a1 a2) := by
  unfold State.obsMset
  try lift_lets -underBinder
  repeat' with_reducible first
    | assumption | (intro x; refine (fun hx : Kept Q x => ?_) ?_; clear_value x) | (intro x; clear_value x)
    | (intro x; refine (fun hx : Kept Q x => ?_) ?_; rotate_left; unfold x) | (intro x)
    | exact kept_mk (kept_out (by with_reducible assumption)) | apply kept_updObs c | apply kept_ite | split
    | unfold x | lift_lets -underBinder

theorem kept_moveTh (c : Closed N I T M E K W Q) (hE : E) (hp2 : W 2) (hp22 : W 22) (hp3 : W 3) (hp8 : W 8) (a0 : State) (a1 : Nat) (a2 : Int) (ha0 : Kept Q a0) : Kept Q (State.moveTh a0 a1 a2) := by
  unfold State.moveTh
  try lift_lets -underBinder
  repeat' with_reducible first
    | assumption | (intro x; refine (fun hx : Kept Q x => ?_) ?_; clear_value x)
    | (intro x; refine (fun hx : Kept Q x.1 => ?_) ?_; clear_value x) | (intro x; clear_value x)
    | (intro x; refine (fun hx : Kept Q x => ?_) ?_; rotate_left; unfold x) | (intro x)
    | exact kept_mk (kept_out (by with_reducible assumption)) | exact ok_lit 8 (by decide) hp8
    | apply kept_obsStick c hE hp2 hp22 hp3 | apply kept_updObs c | apply kept_ite | split | unfold x
    | lift_lets -underBinder

theorem kept_predictBy (c : Closed N I T M E K W Q) (hE : E) (hp2 : W 2) (hp22 : W 22) (hp3 : W 3) (hp8 : W 8) (a0 : State) (a1 : Nat) (a2 : Int) (ha0 : Kept Q a0) : Kept Q (State.predictBy a0 a1 a2) := by
  unfold State.predictBy
  try lift_lets -underBinder
  repeat' with_reducible first
    | assumption | (intro x; refine (fun hx : Kept Q x => ?_) ?_; clear_value x) | (intro x; clear_value x)
    | (intro x; refine (fun hx : Kept Q x => ?_) ?_; rotate_left; unfold x) | (intro x)
    | exact kept_mk (kept_out (by with_reducible assumption)) | apply kept_moveTh c hE hp2 hp22 hp3 hp8
    | apply kept_updObs c | apply kept_ite | split | unfold x | lift_lets -underBinder

theorem kept_updateBy (c : Closed N I T M E K W Q) (hE : E) (hp2 : W 2) (hp22 : W 22) (hp3 : W 3) (hp8 : W 8) (a0 : State) (a1 : Nat) (a2 : Int) (a3 : Nat) (ha0 : Kept Q a0) : Kept Q (State.updateBy a0 a1 a2 a3) := by
  unfold State.updateBy
  try lift_lets -underBinder
  repeat' with_reducible first
    | assumption | (intro x; refine (fun hx : Kept Q x => ?_) ?_; clear_value x) | (intro x; clear_value x)
    | (intro x; refine (fun hx : Kept Q x => ?_) ?_; rotate_left; unfold x) | (intro x)
    | exact kept_mk (kept_out (by with_reducible assumption)) | apply kept_moveTh c hE hp2 hp22 hp3 hp8
    | apply kept_updObs c | apply kept_ite | split | unfold x | lift_lets -underBinder

theorem kept_rangeCheck (c : Closed N I T M E K W Q) (hE : E) (hp2 : W 2) (hp22 : W 22) (hp3 : W 3) (hp8 : W 8) (a0 : State) (a1 : Nat) (ha0 : Kept Q a0) : Kept Q (State.rangeCheck a0 a1) := by
  unfold State.rangeCheck
  try lift_lets -underBinder
  repeat' with_reducible first
    | assumption | (intro x; refine (fun hx : Kept Q x => ?_) ?_; clear_value x) | (intro x; clear_value x)
    | (intro x; refine (fun hx : Kept Q x => ?_) ?_; rotate_left; unfold x) | (intro x)
    | exact kept_mk (kept_out (by with_reducible assumption)) | exact ok_lit 8 (by decide) hp8
    | apply kept_enterLot c hE hp2 hp22 hp3 hp8 | apply kept_obsStick c hE hp2 hp22 hp3 | apply kept_updObs c
    | apply kept_ite | split | unfold x | lift_lets -underBinder

theorem kept_overspeed (c : Closed N I T M E K W Q) (hE : E) (hp2 : W 2) (hp22 : W 22) (hp3 : W 3) (hp8 : W 8) (a0 : State) (a1 : Nat) (ha0 : Kept Q a0) : Kept Q (State.overspeed a0 a1) := by
  unfold State.overspeed
  try lift_lets -underBinder
  repeat' with_reducible first
    | assumption | (intro x; refine (fun hx : Kept Q x => ?_) ?_; clear_value x) | (intro x; clear_value x)
    | (intro x; refine (fun hx : Kept Q x => ?_) ?_; rotate_left; unfold x) | (intro x)
    | exact ok_lit 8 (by decide) hp8 | apply kept_injInput c | apply kept_obsStick c hE hp2 hp22 hp3
    | apply kept_w c | apply kept_ite | split | unfold x | lift_lets -underBinder

theorem kept_losCheck (c : Closed N I T M E K W Q) (hp8 : W 8) (a0 : State) (a1 : Nat) (a2 : Nat) (ha0 : Kept Q a0) : Kept Q (State.losCheck a0 a1 a2) := by
  unfold State.losCheck
  try lift_lets -underBinder
  repeat' with_reducible first
    | assumption | (intro x; refine (fun hx : Kept Q x => ?_) ?_; clear_value x) | (intro x; clear_value x)
    | (intro x; refine (fun hx : Kept Q x => ?_) ?_; rotate_left; unfold x) | (intro x)
    | exact kept_mk (kept_out (by with_reducible assumption)) | exact ok_lit 8 (by decide) hp8
    | apply kept_injInput c | apply kept_updObs c | apply kept_w c | apply kept_ite | split | unfold x
    | lift_lets -underBinder

theorem kept_loadTurn (c : Closed N I T M E K W Q) (hp8 : W 8) (a0 : State) (a1 : Nat) (ha0 : Kept Q a0) : Kept Q (State.loadTurn a0 a1) := by
  unfold State.loadTurn
  try lift_lets -underBinder
  repeat' with_reducible first
    | assumption | (intro x; refine (fun hx : Kept Q x => ?_) ?_; clear_value x) | (intro x; clear_value x)
    | (intro x; refine (fun hx : Kept Q x => ?_) ?_; rotate_left; unfold x) | (intro x)
    | exact kept_mk (kept_out (by with_reducible assumption)) | exact ok_lit 8 (by decide) hp8
    | apply kept_updObs c | apply kept_w c | apply kept_ite | split | unfold x | lift_lets -underBinder

theorem kept_obsRuns (c : Closed N I T M E K W Q) (hp8 : W 8) (a0 : State) (a1 : Nat) (a2 : Bool) (ha0 : Kept Q a0) : Kept Q (State.obsRuns a0 a1 a2) := by
  unfold State.obsRuns
  try lift_lets -underBinder
  repeat' with_reducible first
    | assumption | (intro x; refine (fun hx : Kept Q x => ?_) ?_; clear_value x) | (intro x; clear_value x)
    | (intro x; refine (fun hx : Kept Q x => ?_) ?_; rotate_left; unfold x) | (intro x)
    | exact kept_mk (kept_out (by with_reducible assumption)) | exact ok_lit 8 (by decide) hp8 | apply kept_bump c
    | apply kept_setOst c hp8 | apply kept_updObs c | apply kept_ite | split | unfold x | lift_lets -underBinder

theorem kept_obsSample (c : Closed N I T M E K W Q) (hE : E) (hp2 : W 2) (hp22 : W 22) (hp3 : W 3) (hp8 : W 8) (a0 : State) (a1 : Nat) (a2 : Bool) (ha0 : Kept Q a0) : Kept Q (State.obsSample a0 a1 a2) := by
  unfold State.obsSample
  try lift_lets -underBinder
  repeat' with_reducible first
    | assumption | (intro x; refine (fun hx : Kept Q x => ?_) ?_; clear_value x)
    | (intro x; refine (fun hx : Kept Q x.1 => ?_) ?_; clear_value x) | (intro x; clear_value x)
    | (intro x; refine (fun hx : Kept Q x => ?_) ?_; rotate_left; unfold x) | (intro x)
    | exact kept_mk (kept_out (by with_reducible assumption)) | apply kept_gainUpdate c hE hp2 hp22 hp3 hp8
    | apply kept_loadTurn c hp8 | apply kept_losCheck c hp8 | apply kept_obsRuns c hp8
    | apply kept_overspeed c hE hp2 hp22 hp3 hp8 | apply kept_predictBy c hE hp2 hp22 hp3 hp8
    | apply kept_rangeCheck c hE hp2 hp22 hp3 hp8 | apply kept_setOst c hp8 | apply kept_updObs c
    | apply kept_updateBy c hE hp2 hp22 hp3 hp8 | apply kept_ite | split | unfold x | lift_lets -underBinder

theorem kept_divSpeed (c : Closed N I T M E K W Q) (a0 : State) (a1 : Nat) (a2 : Nat) (a3 : Int) (ha0 : Kept Q a0) : Kept Q (State.divSpeed a0 a1 a2 a3) := by
  unfold State.divSpeed
  try lift_lets -underBinder
  repeat' with_reducible first
    | assumption | (intro x; refine (fun hx : Kept Q x => ?_) ?_; clear_value x) | (intro x; clear_value x)
    | (intro x; refine (fun hx : Kept Q x => ?_) ?_; rotate_left; unfold x) | (intro x)
    | exact kept_mk (kept_out (by with_reducible assumption)) | apply kept_updDiv c | apply kept_ite | split
    | unfold x | lift_lets -underBinder

theorem kept_divOutput (c : Closed N I T M E K W Q) (hE : E) (hp2 : W 2) (hp22 : W 22) (hp3 : W 3) (hp9 : W 9) (a0 : State) (a1 : Nat) (a2 : Nat) (a3 : Bool) (a4 : Bool) (a5 : Bool) (a6 : Bool) (a7 : Bool) (a8 : Bool) (a9 : Nat) (a10 : Nat) (a11 : Nat) (ha0 : Kept Q a0) : Kept Q (State.divOutput a0 a1 a2 a3 a4 a5 a6 a7 a8 a9 a10 a11) := by
  unfold State.divOutput
  try lift_lets -underBinder
  repeat' with_reducible first
    | assumption | (intro x; refine (fun hx : Kept Q x => ?_) ?_; clear_value x)
    | (intro x; refine (fun hx : Kept Q x.1 => ?_) ?_; clear_value x) | (intro x; clear_value x)
    | (intro x; refine (fun hx : Kept Q x => ?_) ?_; rotate_left; unfold x) | (intro x)
    | exact kept_mk (kept_out (by with_reducible assumption)) | exact ok_lit 9 (by decide) hp9
    | apply kept_divSpeed c | apply kept_measured c | apply kept_stickEv c hE hp2 hp22 hp3 | apply kept_updDiv c
    | apply kept_w c | apply kept_wb c | apply kept_ite | split | unfold x | lift_lets -underBinder

theorem kept_coarseLoad (c : Closed N I T M E K W Q) (hp8 : W 8) (a0 : State) (a1 : Nat) (ha0 : Kept Q a0) : Kept Q (State.coarseLoad a0 a1) := by
  unfold State.coarseLoad
  try lift_lets -underBinder
  repeat' with_reducible first
    | assumption | (intro x; refine (fun hx : Kept Q x => ?_) ?_; clear_value x) | (intro x; clear_value x)
    | (intro x; refine (fun hx : Kept Q x => ?_) ?_; rotate_left; unfold x) | (intro x)
    | exact kept_mk (kept_out (by with_reducible assumption)) | apply kept_setOst c hp8 | apply kept_updObs c
    | apply kept_ite | split | unfold x | lift_lets -underBinder

theorem kept_divDecimated (c : Closed N I T M E K W Q) (hE : E) (hp2 : W 2) (hp22 : W 22) (hp3 : W 3) (hp8 : W 8) (hp9 : W 9) (a0 : State) (a1 : Nat) (ha0 : Kept Q a0) : Kept Q (State.divDecimated a0 a1) := by
  unfold State.divDecimated
  try lift_lets -underBinder
  repeat' with_reducible first
    | assumption | (intro x; refine (fun hx : Kept Q x => ?_) ?_; clear_value x) | (intro x; clear_value x)
    | (intro x; refine (fun hx : Kept Q x => ?_) ?_; rotate_left; unfold x) | (intro x)
    | apply kept_coarseLoad c hp8 | apply kept_divOutput c hE hp2 hp22 hp3 hp9 | unfold x | lift_lets -underBinder

theorem kept_doDiverge (c : Closed N I T M E K W Q) (hE : E) (hp2 : W 2) (hp22 : W 22) (hp3 : W 3) (hp9 : W 9) (a0 : Nat) (a1 : State) (ha1 : Kept Q a1) : Kept Q (doDiverge a0 a1) := by
  unfold doDiverge
  try lift_lets -underBinder
  repeat' with_reducible first
    | assumption | (intro x; refine (fun hx : Kept Q x => ?_) ?_; clear_value x) | (intro x; clear_value x)
    | (intro x; refine (fun hx : Kept Q x => ?_) ?_; rotate_left; unfold x) | (intro x)
    | exact kept_mk (kept_out (by with_reducible assumption)) | exact ok_lit 9 (by decide) hp9 | apply kept_bump c
    | apply kept_stickEv c hE hp2 hp22 hp3 | apply kept_w c | apply kept_ite | split | unfold x
    | lift_lets -underBinder

theorem kept_updLrn (c : Closed N I T M E K W Q) (a0 : State) (a1 : Nat) (a2 : LrnSt → LrnSt) (ha0 : Kept Q a0) : Kept Q (State.updLrn a0 a1 a2) := by
  unfold State.updLrn
  try lift_lets -underBinder
  repeat' with_reducible first
    | assumption | (intro x; refine (fun hx : Kept Q x => ?_) ?_; clear_value x) | (intro x; clear_value x)
    | (intro x; refine (fun hx : Kept Q x => ?_) ?_; rotate_left; unfold x) | (intro x)
    | exact kept_mk (kept_out (by with_reducible assumption)) | unfold x | lift_lets -underBinder

theorem kept_setLrnWord (c : Closed N I T M E K W Q) (hM : M) (a0 : State) (a1 : Nat) (a2 : Nat) (a3 : Nat) (ha0 : Kept Q a0) : Kept Q (State.setLrnWord a0 a1 a2 a3) := by
  unfold State.setLrnWord
  repeat' with_reducible first
    | assumption | apply kept_setSram32 c hM

theorem kept_setEstimate (c : Closed N I T M E K W Q) (hM : M) (a0 : State) (a1 : Nat) (a2 : Nat) (a3 : Int) (ha0 : Kept Q a0) : Kept Q (State.setEstimate a0 a1 a2 a3) := by
  unfold State.setEstimate
  repeat' with_reducible first
    | assumption | apply kept_setLrnWord c hM | apply kept_ite | split

theorem kept_bumpGen (c : Closed N I T M E K W Q) (hM : M) (a0 : State) (a1 : Nat) (ha0 : Kept Q a0) : Kept Q (State.bumpGen a0 a1) := by
  unfold State.bumpGen
  repeat' with_reducible first
    | assumption | apply kept_setLrnWord c hM

theorem kept_rebuildTbl (c : Closed N I T M E K W Q) (hM : M) (a0 : State) (a1 : Nat) (ha0 : Kept Q a0) : Kept Q (State.rebuildTbl a0 a1) := by
  unfold State.rebuildTbl
  try lift_lets -underBinder
  repeat' with_reducible first
    | assumption | (intro x; refine (fun hx : Kept Q x => ?_) ?_; clear_value x) | (intro x; clear_value x)
    | (intro x; refine (fun hx : Kept Q x => ?_) ?_; rotate_left; unfold x) | (intro x) | apply kept_each c
    | apply kept_setLrnWord c hM | apply foldl_kept | apply foldl_kept1 | apply kept_ite | split | unfold x
    | lift_lets -underBinder

theorem kept_lrnDiscard (c : Closed N I T M E K W Q) (hp10 : W 10) (a0 : State) (a1 : Nat) (ha0 : Kept Q a0) : Kept Q (State.lrnDiscard a0 a1) := by
  unfold State.lrnDiscard
  try lift_lets -underBinder
  repeat' with_reducible first
    | assumption | (intro x; refine (fun hx : Kept Q x => ?_) ?_; clear_value x) | (intro x; clear_value x)
    | (intro x; refine (fun hx : Kept Q x => ?_) ?_; rotate_left; unfold x) | (intro x)
    | exact kept_mk (kept_out (by with_reducible assumption)) | exact ok_lit 10 (by decide) hp10
    | apply kept_bump c | apply kept_updLrn c | apply kept_w c | apply kept_ite | split | unfold x
    | lift_lets -underBinder

theorem kept_lrnSample (c : Closed N I T M E K W Q) (hp10 : W 10) (a0 : State) (a1 : Nat) (a2 : Bool) (ha0 : Kept Q a0) : Kept Q (State.lrnSample a0 a1 a2) := by
  unfold State.lrnSample
  try lift_lets -underBinder
  repeat' with_reducible first
    | assumption | (intro x; refine (fun hx : Kept Q x => ?_) ?_; clear_value x) | (intro x; clear_value x)
    | (intro x; refine (fun hx : Kept Q x => ?_) ?_; rotate_left; unfold x) | (intro x)
    | exact kept_mk (kept_out (by with_reducible assumption)) | exact ok_lit 10 (by decide) hp10
    | apply kept_lrnDiscard c hp10 | apply kept_updLrn c | apply kept_w c | apply kept_wb c | apply kept_ite
    | split | unfold x | lift_lets -underBinder

theorem kept_learnOne (c : Closed N I T M E K W Q) (hM : M) (a0 : State) (a1 : Nat) (a2 : Nat) (a3 : Bool) (a4 : Int) (ha0 : Kept Q a0) : Kept Q (State.learnOne a0 a1 a2 a3 a4) := by
  unfold State.learnOne
  try lift_lets -underBinder
  repeat' with_reducible first
    | assumption | (intro x; refine (fun hx : Kept Q x => ?_) ?_; clear_value x) | (intro x; clear_value x)
    | (intro x; refine (fun hx : Kept Q x => ?_) ?_; rotate_left; unfold x) | (intro x)
    | exact kept_mk (kept_out (by with_reducible assumption)) | apply kept_setEstimate c hM | apply kept_updLrn c
    | apply kept_ite | split | unfold x | lift_lets -underBinder

theorem kept_putConf (c : Closed N I T M E K W Q) (hM : M) (a0 : State) (a1 : Nat) (ha0 : Kept Q a0) : Kept Q (State.putConf a0 a1) := by
  unfold State.putConf
  repeat' with_reducible first
    | assumption | apply kept_setLrnWord c hM

theorem kept_checkBounds (c : Closed N I T M E K W Q) (hE : E) (hp10 : W 10) (hp2 : W 2) (hp22 : W 22) (hp3 : W 3) (a0 : State) (a1 : Nat) (ha0 : Kept Q a0) : Kept Q (State.checkBounds a0 a1) := by
  unfold State.checkBounds
  try lift_lets -underBinder
  repeat' with_reducible first
    | assumption | (intro x; refine (fun hx : Kept Q x => ?_) ?_; clear_value x)
    | (intro x; refine (fun hx : Kept Q x.1 => ?_) ?_; clear_value x) | (intro x; clear_value x)
    | (intro x; refine (fun hx : Kept Q x => ?_) ?_; rotate_left; unfold x) | (intro x)
    | exact ok_lit 10 (by decide) hp10 | apply kept_each c | apply kept_stickBits c hE hp2 hp22 hp3
    | apply kept_w c | apply kept_wb c | apply kept_ite | split | unfold x | lift_lets -underBinder

theorem kept_twinCheck (c : Closed N I T M E K W Q) (hE : E) (hp10 : W 10) (hp2 : W 2) (hp22 : W 22) (hp3 : W 3) (a0 : State) (a1 : Nat) (ha0 : Kept Q a0) : Kept Q (State.twinCheck a0 a1) := by
  unfold State.twinCheck
  repeat' with_reducible first
    | assumption | exact ok_lit 10 (by decide) hp10 | apply kept_stickEv c hE hp2 hp22 hp3 | apply kept_ite
    | split

theorem kept_doLearningCycleEnd (c : Closed N I T M E K W Q) (hE : E) (hM : M) (hp10 : W 10) (hp2 : W 2) (hp22 : W 22) (hp3 : W 3) (a0 : Nat) (a1 : State) (ha1 : Kept Q a1) : Kept Q (doLearningCycleEnd a0 a1) := by
  unfold doLearningCycleEnd
  try lift_lets -underBinder
  repeat' with_reducible first
    | assumption | (intro x; refine (fun hx : Kept Q x => ?_) ?_; clear_value x)
    | (intro x; refine (fun hx : Kept Q x.1 => ?_) ?_; clear_value x) | (intro x; clear_value x)
    | (intro x; refine (fun hx : Kept Q x => ?_) ?_; rotate_left; unfold x) | (intro x)
    | exact kept_mk (kept_out (by with_reducible assumption)) | exact ok_lit 10 (by decide) hp10
    | apply kept_bump c | apply kept_checkBounds c hE hp10 hp2 hp22 hp3 | apply kept_learnOne c hM
    | apply kept_putConf c hM | apply kept_rebuildTbl c hM | apply kept_twinCheck c hE hp10 hp2 hp22 hp3
    | apply kept_updLrn c | apply foldl_kept | apply foldl_kept1 | apply kept_ite | split | unfold x
    | lift_lets -underBinder

theorem kept_applyUpdate (c : Closed N I T M E K W Q) (hM : M) (a0 : State) (a1 : Nat) (ha0 : Kept Q a0) : Kept Q (State.applyUpdate a0 a1) := by
  unfold State.applyUpdate
  try lift_lets -underBinder
  repeat' with_reducible first
    | assumption | (intro x; refine (fun hx : Kept Q x => ?_) ?_; clear_value x) | (intro x; clear_value x)
    | (intro x; refine (fun hx : Kept Q x => ?_) ?_; rotate_left; unfold x) | (intro x) | apply kept_bumpGen c hM
    | apply kept_each c | apply kept_setLrnWord c hM | apply foldl_kept | apply foldl_kept1 | apply kept_ite
    | split | unfold x | lift_lets -underBinder

theorem kept_doApplyUpdate (c : Closed N I T M E K W Q) (hM : M) (a0 : Nat) (a1 : State) (ha1 : Kept Q a1) : Kept Q (doApplyUpdate a0 a1) := by
  unfold doApplyUpdate
  try lift_lets -underBinder
  repeat' with_reducible first
    | assumption | (intro x; refine (fun hx : Kept Q x => ?_) ?_; clear_value x) | (intro x; clear_value x)
    | (intro x; refine (fun hx : Kept Q x => ?_) ?_; rotate_left; unfold x) | (intro x)
    | exact kept_mk (kept_out (by with_reducible assumption)) | apply kept_applyUpdate c hM | apply kept_updLrn c
    | apply kept_ite | split | unfold x | lift_lets -underBinder

theorem kept_lrnPut (c : Closed N I T M E K W Q) (hE : E) (hM : M) (hp10 : W 10) (hp2 : W 2) (hp22 : W 22) (hp3 : W 3) (a0 : State) (a1 : Nat) (a2 : Nat) (a3 : Nat) (ha0 : Kept Q a0) : Kept Q (State.lrnPut a0 a1 a2 a3).1 := by
  unfold State.lrnPut
  try lift_lets -underBinder
  repeat' with_reducible first
    | assumption | (intro x; refine (fun hx : Kept Q x => ?_) ?_; clear_value x)
    | (intro x; refine (fun hx : Kept Q x.1 => ?_) ?_; clear_value x) | (intro x; clear_value x)
    | (intro x; refine (fun hx : Kept Q x => ?_) ?_; rotate_left; unfold x) | (intro x)
    | exact ok_lit 10 (by decide) hp10 | apply kept_bumpGen c hM | apply kept_checkBounds c hE hp10 hp2 hp22 hp3
    | apply kept_setLrnWord c hM | apply kept_stickEv c hE hp2 hp22 hp3
    | apply kept_twinCheck c hE hp10 hp2 hp22 hp3 | apply kept_ite | split | unfold x | lift_lets -underBinder

theorem kept_learnTableWrite (c : Closed N I T M E K W Q) (hE : E) (hM : M) (hp10 : W 10) (hp2 : W 2) (hp22 : W 22) (hp3 : W 3) (a0 : State) (a1 : Nat) (ha0 : Kept Q a0) : Kept Q (State.learnTableWrite a0 a1) := by
  unfold State.learnTableWrite
  try lift_lets -underBinder
  repeat' with_reducible first
    | assumption | (intro x; refine (fun hx : Kept Q x => ?_) ?_; clear_value x)
    | (intro x; refine (fun hx : Kept Q x.1 => ?_) ?_; clear_value x) | (intro x; clear_value x)
    | (intro x; refine (fun hx : Kept Q x => ?_) ?_; rotate_left; unfold x) | (intro x)
    | exact ok_lit 10 (by decide) hp10 | apply kept_lrnPut c hE hM hp10 hp2 hp22 hp3 | refine fst_kept ‹_› ?_
    | apply kept_w c | apply kept_ite | split | unfold x | lift_lets -underBinder

theorem kept_lrnClr (c : Closed N I T M E K W Q) (hE : E) (hM : M) (hp10 : W 10) (hp2 : W 2) (hp22 : W 22) (hp3 : W 3) (a0 : State) (a1 : Nat) (ha0 : Kept Q a0) : Kept Q (State.lrnClr a0 a1) := by
  unfold State.lrnClr
  try lift_lets -underBinder
  repeat' with_reducible first
    | assumption | (intro x; refine (fun hx : Kept Q x => ?_) ?_; clear_value x) | (intro x; clear_value x)
    | (intro x; refine (fun hx : Kept Q x => ?_) ?_; rotate_left; unfold x) | (intro x)
    | exact kept_mk (kept_out (by with_reducible assumption)) | apply kept_checkBounds c hE hp10 hp2 hp22 hp3
    | apply kept_setLrnWord c hM | apply kept_updLrn c | apply kept_zeroSram c hM | apply kept_ite | split
    | unfold x | lift_lets -underBinder

theorem kept_clearHarm (c : Closed N I T M E K W Q) (hM : M) (a0 : State) (a1 : Nat) (ha0 : Kept Q a0) : Kept Q (State.clearHarm a0 a1) := by
  unfold State.clearHarm
  repeat' with_reducible first
    | assumption | (intro x; refine (fun hx : Kept Q x => ?_) ?_; clear_value x) | (intro x; clear_value x)
    | (intro x; refine (fun hx : Kept Q x => ?_) ?_; rotate_left; unfold x) | (intro x) | apply kept_each c
    | apply kept_setEstimate c hM | apply kept_ite | split | unfold x | lift_lets -underBinder

theorem kept_showNv (c : Closed N I T M E K W Q) (hp10 : W 10) (a0 : State) (a1 : Nat) (ha0 : Kept Q a0) : Kept Q (State.showNv a0 a1) := by
  unfold State.showNv
  repeat' with_reducible first
    | assumption | exact ok_lit 10 (by decide) hp10 | apply kept_w c | apply kept_ite | split

theorem kept_lrnTake (c : Closed N I T M E K W Q) (hM : M) (a0 : State) (a1 : Nat) (a2 : List Sys2Proof.Byte) (a3 : Nat) (a4 : Nat) (ha0 : Kept Q a0) : Kept Q (State.lrnTake a0 a1 a2 a3 a4) := by
  unfold State.lrnTake
  repeat' with_reducible first
    | assumption | apply kept_setLrnWord c hM

theorem kept_lrnLoad (c : Closed N I T M E K W Q) (hE : E) (hM : M) (hp10 : W 10) (hp2 : W 2) (hp22 : W 22) (hp3 : W 3) (a0 : State) (a1 : Nat) (ha0 : Kept Q a0) : Kept Q (State.lrnLoad a0 a1) := by
  unfold State.lrnLoad
  try lift_lets -underBinder
  repeat' with_reducible first
    | assumption | (intro x; refine (fun hx : Kept Q x => ?_) ?_; clear_value x) | (intro x; clear_value x)
    | (intro x; refine (fun hx : Kept Q x => ?_) ?_; rotate_left; unfold x) | (intro x)
    | exact kept_mk (kept_out (by with_reducible assumption)) | exact ok_lit 10 (by decide) hp10
    | apply kept_checkBounds c hE hp10 hp2 hp22 hp3 | apply kept_each c | apply kept_lrnTake c hM
    | apply kept_rebuildTbl c hM | apply kept_setLrnWord c hM | apply kept_showNv c hp10
    | apply kept_stickEv c hE hp2 hp22 hp3 | apply kept_twinCheck c hE hp10 hp2 hp22 hp3 | apply kept_updLrn c
    | apply kept_ite | split | unfold x | lift_lets -underBinder

theorem kept_loadNv (c : Closed N I T M E K W Q) (a0 : State) (a1 : Nat) (ha0 : Kept Q a0) : Kept Q (State.loadNv a0 a1) := by
  unfold State.loadNv
  try lift_lets -underBinder
  repeat' with_reducible first
    | assumption | (intro x; refine (fun hx : Kept Q x => ?_) ?_; clear_value x) | (intro x; clear_value x)
    | (intro x; refine (fun hx : Kept Q x => ?_) ?_; rotate_left; unfold x) | (intro x)
    | exact kept_mk (kept_out (by with_reducible assumption)) | apply kept_updLrn c | apply kept_ite | split
    | unfold x | lift_lets -underBinder

theorem kept_lrnCommit (c : Closed N I T M E K W Q) (hp10 : W 10) (a0 : State) (a1 : Nat) (ha0 : Kept Q a0) : Kept Q (State.lrnCommit a0 a1) := by
  unfold State.lrnCommit
  try lift_lets -underBinder
  repeat' with_reducible first
    | assumption | (intro x; refine (fun hx : Kept Q x => ?_) ?_; clear_value x) | (intro x; clear_value x)
    | (intro x; refine (fun hx : Kept Q x => ?_) ?_; rotate_left; unfold x) | (intro x)
    | exact kept_mk (kept_out (by with_reducible assumption)) | exact ok_lit 10 (by decide) hp10
    | apply kept_each c | apply kept_w c | apply kept_ite | split | unfold x | lift_lets -underBinder

theorem kept_lrnSnapshot (c : Closed N I T M E K W Q) (a0 : State) (ha0 : Kept Q a0) : Kept Q (State.lrnSnapshot a0) := by
  unfold State.lrnSnapshot
  try lift_lets -underBinder
  repeat' with_reducible first
    | assumption | (intro x; refine (fun hx : Kept Q x => ?_) ?_; clear_value x) | (intro x; clear_value x)
    | (intro x; refine (fun hx : Kept Q x => ?_) ?_; rotate_left; unfold x) | (intro x)
    | exact kept_mk (kept_out (by with_reducible assumption)) | apply kept_ite | split | unfold x
    | lift_lets -underBinder

theorem kept_doLrnNvWriteDone (c : Closed N I T M E K W Q) (hE : E) (hN : N) (hp10 : W 10) (hp2 : W 2) (hp22 : W 22) (hp3 : W 3) (a0 : Bool) (a1 : State) (ha1 : Kept Q a1) : Kept Q (doLrnNvWriteDone a0 a1) := by
  unfold doLrnNvWriteDone
  try lift_lets -underBinder
  repeat' with_reducible first
    | assumption | (intro x; refine (fun hx : Kept Q x => ?_) ?_; clear_value x) | (intro x; clear_value x)
    | (intro x; refine (fun hx : Kept Q x => ?_) ?_; rotate_left; unfold x) | (intro x)
    | exact kept_mk (kept_out (by with_reducible assumption)) | exact ok_lit 10 (by decide) hp10
    | apply kept_bump c | apply kept_each c | apply kept_setNvmBytes c hN | apply kept_showNv c hp10
    | apply kept_stickEv c hE hp2 hp22 hp3 | apply kept_w c | apply kept_ite | split | unfold x
    | lift_lets -underBinder | refine kept_mk (kept_out ?_)

theorem kept_lrnRestart (c : Closed N I T M E K W Q) (hE : E) (hM : M) (hp10 : W 10) (hp2 : W 2) (hp22 : W 22) (hp3 : W 3) (a0 : State) (a1 : Nat) (a2 : Bool) (ha0 : Kept Q a0) : Kept Q (State.lrnRestart a0 a1 a2) := by
  unfold State.lrnRestart
  try lift_lets -underBinder
  repeat' with_reducible first
    | assumption | (intro x; refine (fun hx : Kept Q x => ?_) ?_; clear_value x) | (intro x; clear_value x)
    | (intro x; refine (fun hx : Kept Q x => ?_) ?_; rotate_left; unfold x) | (intro x)
    | exact kept_mk (kept_out (by with_reducible assumption)) | apply kept_lrnDiscard c hp10
    | apply kept_lrnLoad c hE hM hp10 hp2 hp22 hp3 | apply kept_updLrn c | apply kept_ite | split | unfold x
    | lift_lets -underBinder

theorem kept_lrnShow (c : Closed N I T M E K W Q) (a0 : State) (a1 : Nat) (ha0 : Kept Q a0) : Kept Q (State.lrnShow a0 a1) := by
  unfold State.lrnShow
  try lift_lets -underBinder
  repeat' with_reducible first
    | assumption | (intro x; refine (fun hx : Kept Q x => ?_) ?_; clear_value x) | (intro x; clear_value x)
    | (intro x; refine (fun hx : Kept Q x => ?_) ?_; rotate_left; unfold x) | (intro x)
    | exact kept_mk (kept_out (by with_reducible assumption)) | apply kept_updLrn c | apply kept_ite | split
    | unfold x | lift_lets -underBinder

theorem kept_updDfb (c : Closed N I T M E K W Q) (a0 : State) (a1 : Nat) (a2 : DfbSt → DfbSt) (ha0 : Kept Q a0) : Kept Q (State.updDfb a0 a1 a2) := by
  unfold State.updDfb
  try lift_lets -underBinder
  repeat' with_reducible first
    | assumption | (intro x; refine (fun hx : Kept Q x => ?_) ?_; clear_value x) | (intro x; clear_value x)
    | (intro x; refine (fun hx : Kept Q x => ?_) ?_; rotate_left; unfold x) | (intro x)
    | exact kept_mk (kept_out (by with_reducible assumption)) | unfold x | lift_lets -underBinder

theorem kept_updPath (c : Closed N I T M E K W Q) (a0 : State) (a1 : Nat) (a2 : Nat) (a3 : DfbPath → DfbPath) (ha0 : Kept Q a0) : Kept Q (State.updPath a0 a1 a2 a3) := by
  unfold State.updPath
  try lift_lets -underBinder
  repeat' with_reducible first
    | assumption | (intro x; refine (fun hx : Kept Q x => ?_) ?_; clear_value x) | (intro x; clear_value x)
    | (intro x; refine (fun hx : Kept Q x => ?_) ?_; rotate_left; unfold x) | (intro x)
    | exact kept_mk (kept_out (by with_reducible assumption)) | apply kept_updDfb c | apply kept_ite | split
    | unfold x | lift_lets -underBinder

theorem kept_dfbStick (c : Closed N I T M E K W Q) (hE : E) (hp2 : W 2) (hp22 : W 22) (hp3 : W 3) (a0 : State) (a1 : Nat) (a2 : Nat) (a3 : Fld) (ha0 : Kept Q a0) (ha3 : OkFld W a3) : Kept Q (State.dfbStick a0 a1 a2 a3) := by
  unfold State.dfbStick
  repeat' with_reducible first
    | assumption | apply kept_stickEv c hE hp2 hp22 hp3 | apply kept_ite | split

theorem kept_showDfb (c : Closed N I T M E K W Q) (hp11 : W 11) (a0 : State) (a1 : Nat) (ha0 : Kept Q a0) : Kept Q (State.showDfb a0 a1) := by
  unfold State.showDfb
  try lift_lets -underBinder
  repeat' with_reducible first
    | assumption | (intro x; refine (fun hx : Kept Q x => ?_) ?_; clear_value x)
    | (intro x; refine (fun hx : Kept Q x.1 => ?_) ?_; clear_value x) | (intro x; clear_value x)
    | (intro x; refine (fun hx : Kept Q x => ?_) ?_; rotate_left; unfold x) | (intro x)
    | exact ok_lit 11 (by decide) hp11 | apply kept_w c | apply kept_wb c | unfold x | lift_lets -underBinder

theorem kept_count (c : Closed N I T M E K W Q) (hE : E) (hp11 : W 11) (hp2 : W 2) (hp22 : W 22) (hp3 : W 3) (a0 : State) (a1 : Nat) (a2 : Nat) (a3 : Int) (ha0 : Kept Q a0) : Kept Q (State.count a0 a1 a2 a3) := by
  unfold State.count
  try lift_lets -underBinder
  repeat' with_reducible first
    | assumption | (intro x; refine (fun hx : Kept Q x => ?_) ?_; clear_value x) | (intro x; clear_value x)
    | (intro x; refine (fun hx : Kept Q x => ?_) ?_; rotate_left; unfold x) | (intro x)
    | exact kept_mk (kept_out (by with_reducible assumption)) | exact ok_lit 11 (by decide) hp11
    | apply kept_dfbStick c hE hp2 hp22 hp3 | apply kept_updPath c | apply kept_ite | split | unfold x
    | lift_lets -underBinder

theorem kept_illegal (c : Closed N I T M E K W Q) (hp11 : W 11) (a0 : State) (a1 : Nat) (a2 : Nat) (ha0 : Kept Q a0) : Kept Q (State.illegal a0 a1 a2) := by
  unfold State.illegal
  try lift_lets -underBinder
  repeat' with_reducible first
    | assumption | (intro x; refine (fun hx : Kept Q x => ?_) ?_; clear_value x) | (intro x; clear_value x)
    | (intro x; refine (fun hx : Kept Q x => ?_) ?_; rotate_left; unfold x) | (intro x)
    | exact kept_mk (kept_out (by with_reducible assumption)) | exact ok_lit 11 (by decide) hp11
    | apply kept_bump c | apply kept_updPath c | apply kept_ite | split | unfold x | lift_lets -underBinder

theorem kept_zmiss (c : Closed N I T M E K W Q) (hE : E) (hp11 : W 11) (hp2 : W 2) (hp22 : W 22) (hp3 : W 3) (a0 : State) (a1 : Nat) (a2 : Nat) (ha0 : Kept Q a0) : Kept Q (State.zmiss a0 a1 a2) := by
  unfold State.zmiss
  try lift_lets -underBinder
  repeat' with_reducible first
    | assumption | (intro x; refine (fun hx : Kept Q x => ?_) ?_; clear_value x) | (intro x; clear_value x)
    | (intro x; refine (fun hx : Kept Q x => ?_) ?_; rotate_left; unfold x) | (intro x)
    | exact kept_mk (kept_out (by with_reducible assumption)) | exact ok_lit 11 (by decide) hp11
    | apply kept_dfbStick c hE hp2 hp22 hp3 | apply kept_updPath c | apply kept_ite | split | unfold x
    | lift_lets -underBinder

theorem kept_doQuadratureEdge (c : Closed N I T M E K W Q) (hE : E) (hp11 : W 11) (hp2 : W 2) (hp22 : W 22) (hp3 : W 3) (a0 : Nat) (a1 : Sys2Proof.EdgeIn) (a2 : State) (ha2 : Kept Q a2) : Kept Q (doQuadratureEdge a0 a1 a2) := by
  unfold doQuadratureEdge
  try lift_lets -underBinder
  repeat' with_reducible first
    | assumption | (intro x; refine (fun hx : Kept Q x => ?_) ?_; clear_value x) | (intro x; clear_value x)
    | (intro x; refine (fun hx : Kept Q x => ?_) ?_; rotate_left; unfold x) | (intro x)
    | exact kept_mk (kept_out (by with_reducible assumption)) | exact ok_lit 11 (by decide) hp11
    | apply kept_count c hE hp11 hp2 hp22 hp3 | apply kept_dfbStick c hE hp2 hp22 hp3 | apply kept_illegal c hp11
    | apply kept_showDfb c hp11 | apply kept_updPath c | apply kept_zmiss c hE hp11 hp2 hp22 hp3 | apply kept_ite
    | split | unfold x | lift_lets -underBinder

theorem kept_doQuadratureLoss (c : Closed N I T M E K W Q) (hE : E) (hp11 : W 11) (hp2 : W 2) (hp22 : W 22) (hp3 : W 3) (hp8 : W 8) (a0 : Nat) (a1 : State) (ha1 : Kept Q a1) : Kept Q (doQuadratureLoss a0 a1) := by
  unfold doQuadratureLoss
  try lift_lets -underBinder
  repeat' with_reducible first
    | assumption | (intro x; refine (fun hx : Kept Q x => ?_) ?_; clear_value x) | (intro x; clear_value x)
    | (intro x; refine (fun hx : Kept Q x => ?_) ?_; rotate_left; unfold x) | (intro x)
    | exact kept_mk (kept_out (by with_reducible assumption)) | exact ok_lit 11 (by decide) hp11
    | apply kept_dfbStick c hE hp2 hp22 hp3 | apply kept_enterLot c hE hp2 hp22 hp3 hp8
    | apply kept_showDfb c hp11 | apply kept_updPath c | apply kept_ite | split | unfold x
    | lift_lets -underBinder

theorem kept_doIllWindowEnd (c : Closed N I T M E K W Q) (hp11 : W 11) (a0 : Nat) (a1 : State) (ha1 : Kept Q a1) : Kept Q (doIllWindowEnd a0 a1) := by
  unfold doIllWindowEnd
  try lift_lets -underBinder
  repeat' with_reducible first
    | assumption | (intro x; refine (fun hx : Kept Q x => ?_) ?_; clear_value x) | (intro x; clear_value x)
    | (intro x; refine (fun hx : Kept Q x => ?_) ?_; rotate_left; unfold x) | (intro x)
    | exact kept_mk (kept_out (by with_reducible assumption)) | apply kept_showDfb c hp11 | apply kept_updDfb c
    | apply kept_ite | split | unfold x | lift_lets -underBinder

theorem kept_setRef (c : Closed N I T M E K W Q) (a0 : State) (a1 : Nat) (a2 : Nat) (ha0 : Kept Q a0) : Kept Q (State.setRef a0 a1 a2) := by
  unfold State.setRef
  try lift_lets -underBinder
  repeat' with_reducible first
    | assumption | (intro x; refine (fun hx : Kept Q x => ?_) ?_; clear_value x) | (intro x; clear_value x)
    | (intro x; refine (fun hx : Kept Q x => ?_) ?_; rotate_left; unfold x) | (intro x)
    | exact kept_mk (kept_out (by with_reducible assumption)) | apply kept_updObs c | apply kept_updPath c
    | apply kept_ite | split | unfold x | lift_lets -underBinder

theorem kept_doIndex (c : Closed N I T M E K W Q) (hE : E) (hp11 : W 11) (hp2 : W 2) (hp22 : W 22) (hp3 : W 3) (a0 : Nat) (a1 : Sys2Proof.EdgeIn) (a2 : State) (ha2 : Kept Q a2) : Kept Q (doIndex a0 a1 a2) := by
  unfold doIndex
  try lift_lets -underBinder
  repeat' with_reducible first
    | assumption | (intro x; refine (fun hx : Kept Q x => ?_) ?_; clear_value x) | (intro x; clear_value x)
    | (intro x; refine (fun hx : Kept Q x => ?_) ?_; rotate_left; unfold x) | (intro x)
    | exact kept_mk (kept_out (by with_reducible assumption)) | exact ok_lit 11 (by decide) hp11
    | apply kept_dfbStick c hE hp2 hp22 hp3 | apply kept_setRef c | apply kept_showDfb c hp11
    | apply kept_updPath c | apply kept_w c | apply kept_ite | split | unfold x | lift_lets -underBinder

theorem kept_zclr (c : Closed N I T M E K W Q) (hp11 : W 11) (a0 : State) (a1 : Nat) (ha0 : Kept Q a0) : Kept Q (State.zclr a0 a1) := by
  unfold State.zclr
  try lift_lets -underBinder
  repeat' with_reducible first
    | assumption | (intro x; refine (fun hx : Kept Q x => ?_) ?_; clear_value x) | (intro x; clear_value x)
    | (intro x; refine (fun hx : Kept Q x => ?_) ?_; rotate_left; unfold x) | (intro x)
    | exact kept_mk (kept_out (by with_reducible assumption)) | apply kept_showDfb c hp11 | apply kept_updDfb c
    | apply kept_ite | split | unfold x | lift_lets -underBinder

theorem kept_clrdeg (c : Closed N I T M E K W Q) (hp11 : W 11) (a0 : State) (a1 : Nat) (ha0 : Kept Q a0) : Kept Q (State.clrdeg a0 a1) := by
  unfold State.clrdeg
  try lift_lets -underBinder
  repeat' with_reducible first
    | assumption | (intro x; refine (fun hx : Kept Q x => ?_) ?_; clear_value x) | (intro x; clear_value x)
    | (intro x; refine (fun hx : Kept Q x => ?_) ?_; rotate_left; unfold x) | (intro x)
    | exact kept_mk (kept_out (by with_reducible assumption)) | apply kept_showDfb c hp11 | apply kept_updDfb c
    | apply kept_ite | split | unfold x | lift_lets -underBinder

theorem kept_qclr (c : Closed N I T M E K W Q) (hp11 : W 11) (a0 : State) (a1 : Nat) (ha0 : Kept Q a0) : Kept Q (State.qclr a0 a1) := by
  unfold State.qclr
  try lift_lets -underBinder
  repeat' with_reducible first
    | assumption | (intro x; refine (fun hx : Kept Q x => ?_) ?_; clear_value x) | (intro x; clear_value x)
    | (intro x; refine (fun hx : Kept Q x => ?_) ?_; rotate_left; unfold x) | (intro x)
    | exact kept_mk (kept_out (by with_reducible assumption)) | apply kept_showDfb c hp11 | apply kept_updDfb c
    | apply kept_ite | split | unfold x | lift_lets -underBinder

theorem kept_showHall (c : Closed N I T M E K W Q) (hp11 : W 11) (a0 : State) (a1 : Nat) (a2 : Nat) (ha0 : Kept Q a0) : Kept Q (State.showHall a0 a1 a2) := by
  unfold State.showHall
  try lift_lets -underBinder
  repeat' with_reducible first
    | assumption | (intro x; refine (fun hx : Kept Q x => ?_) ?_; clear_value x) | (intro x; clear_value x)
    | (intro x; refine (fun hx : Kept Q x => ?_) ?_; rotate_left; unfold x) | (intro x)
    | exact ok_lit 11 (by decide) hp11 | apply kept_showDfb c hp11 | apply kept_w c | apply kept_wb c
    | apply kept_ite | split | unfold x | lift_lets -underBinder

theorem kept_hallMove (c : Closed N I T M E K W Q) (hE : E) (hp11 : W 11) (hp2 : W 2) (hp22 : W 22) (hp3 : W 3) (a0 : State) (a1 : Nat) (a2 : Nat) (a3 : Nat) (ha0 : Kept Q a0) : Kept Q (State.hallMove a0 a1 a2 a3) := by
  unfold State.hallMove
  try lift_lets -underBinder
  repeat' with_reducible first
    | assumption | (intro x; refine (fun hx : Kept Q x => ?_) ?_; clear_value x) | (intro x; clear_value x)
    | (intro x; refine (fun hx : Kept Q x => ?_) ?_; rotate_left; unfold x) | (intro x)
    | exact kept_mk (kept_out (by with_reducible assumption)) | exact ok_lit 11 (by decide) hp11
    | apply kept_count c hE hp11 hp2 hp22 hp3 | apply kept_dfbStick c hE hp2 hp22 hp3 | apply kept_illegal c hp11
    | apply kept_updPath c | apply kept_ite | split | unfold x | lift_lets -underBinder

theorem kept_doHallEdge (c : Closed N I T M E K W Q) (hE : E) (hp11 : W 11) (hp2 : W 2) (hp22 : W 22) (hp3 : W 3) (a0 : Nat) (a1 : Sys2Proof.HallIn) (a2 : State) (ha2 : Kept Q a2) : Kept Q (doHallEdge a0 a1 a2) := by
  unfold doHallEdge
  try lift_lets -underBinder
  repeat' with_reducible first
    | assumption | (intro x; refine (fun hx : Kept Q x => ?_) ?_; clear_value x) | (intro x; clear_value x)
    | (intro x; refine (fun hx : Kept Q x => ?_) ?_; rotate_left; unfold x) | (intro x)
    | exact kept_mk (kept_out (by with_reducible assumption)) | exact ok_lit 11 (by decide) hp11
    | apply kept_bump c | apply kept_dfbStick c hE hp2 hp22 hp3 | apply kept_hallMove c hE hp11 hp2 hp22 hp3
    | apply kept_showHall c hp11 | apply kept_updPath c | apply kept_ite | split | unfold x
    | lift_lets -underBinder

theorem kept_doFrameRequest (c : Closed N I T M E K W Q) (hE : E) (hp11 : W 11) (hp2 : W 2) (hp22 : W 22) (hp3 : W 3) (a0 : Nat) (a1 : Bool) (a2 : Nat) (a3 : State) (ha3 : Kept Q a3) : Kept Q (doFrameRequest a0 a1 a2 a3) := by
  unfold doFrameRequest
  try lift_lets -underBinder
  repeat' with_reducible first
    | assumption | (intro x; refine (fun hx : Kept Q x => ?_) ?_; clear_value x) | (intro x; clear_value x)
    | (intro x; refine (fun hx : Kept Q x => ?_) ?_; rotate_left; unfold x) | (intro x)
    | exact kept_mk (kept_out (by with_reducible assumption)) | exact ok_lit 11 (by decide) hp11
    | apply kept_bump c | apply kept_stickEv c hE hp2 hp22 hp3 | apply kept_updDfb c | apply kept_w c
    | apply kept_ite | split | unfold x | lift_lets -underBinder

theorem kept_badFrame (c : Closed N I T M E K W Q) (hE : E) (hp11 : W 11) (hp2 : W 2) (hp22 : W 22) (hp3 : W 3) (a0 : State) (a1 : Nat) (a2 : Nat) (ha0 : Kept Q a0) : Kept Q (State.badFrame a0 a1 a2) := by
  unfold State.badFrame
  repeat' with_reducible first
    | assumption | exact ok_lit 11 (by decide) hp11 | apply kept_bump c | apply kept_stickEv c hE hp2 hp22 hp3
    | apply kept_ite | split

theorem kept_dfbDeliver (c : Closed N I T M E K W Q) (hE : E) (hp11 : W 11) (hp2 : W 2) (hp22 : W 22) (hp3 : W 3) (a0 : State) (a1 : Nat) (a2 : Nat) (a3 : Nat) (a4 : Bool) (a5 : Bool) (ha0 : Kept Q a0) : Kept Q (State.dfbDeliver a0 a1 a2 a3 a4 a5) := by
  unfold State.dfbDeliver
  try lift_lets -underBinder
  repeat' with_reducible first
    | assumption | (intro x; refine (fun hx : Kept Q x => ?_) ?_; clear_value x) | (intro x; clear_value x)
    | (intro x; refine (fun hx : Kept Q x => ?_) ?_; rotate_left; unfold x) | (intro x)
    | exact kept_mk (kept_out (by with_reducible assumption)) | exact ok_lit 11 (by decide) hp11
    | apply kept_stickEv c hE hp2 hp22 hp3 | apply kept_updPath c | apply kept_w c | apply kept_wb c
    | apply kept_ite | split | unfold x | lift_lets -underBinder

theorem kept_frameOver (c : Closed N I T M E K W Q) (hp11 : W 11) (a0 : State) (a1 : Nat) (a2 : Int) (ha0 : Kept Q a0) : Kept Q (State.frameOver a0 a1 a2) := by
  unfold State.frameOver
  try lift_lets -underBinder
  repeat' with_reducible first
    | assumption | (intro x; refine (fun hx : Kept Q x => ?_) ?_; clear_value x) | (intro x; clear_value x)
    | (intro x; refine (fun hx : Kept Q x => ?_) ?_; rotate_left; unfold x) | (intro x)
    | exact kept_mk (kept_out (by with_reducible assumption)) | exact ok_lit 11 (by decide) hp11
    | apply kept_updDfb c | apply kept_w c | apply kept_ite | split | unfold x | lift_lets -underBinder

theorem kept_doFrameEnd (c : Closed N I T M E K W Q) (hE : E) (hp11 : W 11) (hp2 : W 2) (hp22 : W 22) (hp3 : W 3) (a0 : Nat) (a1 : Sys2Proof.SerialIn) (a2 : State) (ha2 : Kept Q a2) : Kept Q (doFrameEnd a0 a1 a2) := by
  unfold doFrameEnd
  try lift_lets -underBinder
  repeat' with_reducible first
    | assumption | (intro x; refine (fun hx : Kept Q x => ?_) ?_; clear_value x) | (intro x; clear_value x)
    | (intro x; refine (fun hx : Kept Q x => ?_) ?_; rotate_left; unfold x) | (intro x)
    | exact kept_mk (kept_out (by with_reducible assumption)) | exact ok_lit 11 (by decide) hp11
    | apply kept_badFrame c hE hp11 hp2 hp22 hp3 | apply kept_dfbDeliver c hE hp11 hp2 hp22 hp3
    | apply kept_dfbStick c hE hp2 hp22 hp3 | apply kept_frameOver c hp11 | apply kept_ite | split | unfold x
    | lift_lets -underBinder

theorem kept_doNoStart (c : Closed N I T M E K W Q) (hE : E) (hp11 : W 11) (hp2 : W 2) (hp22 : W 22) (hp3 : W 3) (a0 : Nat) (a1 : Nat) (a2 : State) (ha2 : Kept Q a2) : Kept Q (doNoStart a0 a1 a2) := by
  unfold doNoStart
  try lift_lets -underBinder
  repeat' with_reducible first
    | assumption | (intro x; refine (fun hx : Kept Q x => ?_) ?_; clear_value x) | (intro x; clear_value x)
    | (intro x; refine (fun hx : Kept Q x => ?_) ?_; rotate_left; unfold x) | (intro x)
    | exact kept_mk (kept_out (by with_reducible assumption)) | exact ok_lit 11 (by decide) hp11
    | apply kept_frameOver c hp11 | apply kept_stickEv c hE hp2 hp22 hp3 | apply kept_ite | split | unfold x
    | lift_lets -underBinder

theorem kept_lineState (c : Closed N I T M E K W Q) (hE : E) (hp11 : W 11) (hp2 : W 2) (hp22 : W 22) (hp3 : W 3) (a0 : State) (a1 : Nat) (ha0 : Kept Q a0) : Kept Q (State.lineState a0 a1) := by
  unfold State.lineState
  try lift_lets -underBinder
  repeat' with_reducible first
    | assumption | (intro x; refine (fun hx : Kept Q x => ?_) ?_; clear_value x) | (intro x; clear_value x)
    | (intro x; refine (fun hx : Kept Q x => ?_) ?_; rotate_left; unfold x) | (intro x)
    | exact kept_mk (kept_out (by with_reducible assumption)) | exact ok_lit 11 (by decide) hp11
    | apply kept_stickEv c hE hp2 hp22 hp3 | apply kept_updDfb c | apply kept_wb c | apply kept_ite | split
    | unfold x | lift_lets -underBinder

theorem kept_doLineLevelLow (c : Closed N I T M E K W Q) (hE : E) (hp11 : W 11) (hp2 : W 2) (hp22 : W 22) (hp3 : W 3) (hp4 : W 4) (a0 : Nat) (a1 : Sys2Proof.Pair) (a2 : State) (ha2 : Kept Q a2) : Kept Q (doLineLevelLow a0 a1 a2) := by
  unfold doLineLevelLow
  try lift_lets -underBinder
  repeat' with_reducible first
    | assumption | (intro x; refine (fun hx : Kept Q x => ?_) ?_; clear_value x) | (intro x; clear_value x)
    | (intro x; refine (fun hx : Kept Q x => ?_) ?_; rotate_left; unfold x) | (intro x)
    | exact kept_mk (kept_out (by with_reducible assumption)) | apply kept_lineSet c hE hp2 hp22 hp3 hp4
    | apply kept_lineState c hE hp11 hp2 hp22 hp3 | apply kept_ite | split | unfold x | lift_lets -underBinder

theorem kept_showPos (c : Closed N I T M E K W Q) (hp11 : W 11) (s : State) (n : Nat) (h : Kept Q s) : Kept Q (s.showPos n) := by
  unfold State.showPos
  generalize s.dfbPos n (s.dpath n 0) = p
  obtain ⟨θ, v, dg, tf⟩ := p
  dsimp only
  exact kept_mk (kept_out (kept_w c _ _ _ _ (ok_lit 11 (by decide) hp11) (kept_w c _ _ _ _ (ok_lit 11 (by decide) hp11) (kept_w c _ _ _ _ (ok_lit 11 (by decide) hp11) (kept_w c _ _ _ _ (ok_lit 11 (by decide) hp11) h)))))

theorem kept_dfbSample (c : Closed N I T M E K W Q) (hE : E) (hp11 : W 11) (hp2 : W 2) (hp22 : W 22) (hp3 : W 3) (hp4 : W 4) (a0 : State) (a1 : Nat) (a2 : Int) (a3 : Int) (ha0 : Kept Q a0) : Kept Q (State.dfbSample a0 a1 a2 a3) := by
  unfold State.dfbSample
  try lift_lets -underBinder
  repeat' with_reducible first
    | assumption | (intro x; refine (fun hx : Kept Q x => ?_) ?_; clear_value x) | (intro x; clear_value x)
    | (intro x; refine (fun hx : Kept Q x => ?_) ?_; rotate_left; unfold x) | (intro x)
    | exact kept_mk (kept_out (by with_reducible assumption)) | apply kept_lineSample c hp4
    | apply kept_lineState c hE hp11 hp2 hp22 hp3 | apply kept_showDfb c hp11 | apply kept_showPos c hp11
    | apply kept_updDfb c | apply kept_ite | split | unfold x | lift_lets -underBinder

theorem kept_dfbSecond (c : Closed N I T M E K W Q) (hE : E) (hp2 : W 2) (hp22 : W 22) (hp3 : W 3) (hp9 : W 9) (a0 : State) (a1 : Nat) (ha0 : Kept Q a0) : Kept Q (State.dfbSecond a0 a1) := by
  unfold State.dfbSecond
  try lift_lets -underBinder
  repeat' with_reducible first
    | assumption | (intro x; refine (fun hx : Kept Q x => ?_) ?_; clear_value x)
    | (intro x; refine (fun hx : Kept Q x.1 => ?_) ?_; clear_value x) | (intro x; clear_value x)
    | (intro x; refine (fun hx : Kept Q x => ?_) ?_; rotate_left; unfold x) | (intro x)
    | apply kept_divOutput c hE hp2 hp22 hp3 hp9 | apply kept_ite | split | unfold x | lift_lets -underBinder

theorem kept_dfbRestart (c : Closed N I T M E K W Q) (hp11 : W 11) (a0 : State) (a1 : Nat) (ha0 : Kept Q a0) : Kept Q (State.dfbRestart a0 a1) := by
  unfold State.dfbRestart
  try lift_lets -underBinder
  repeat' with_reducible first
    | assumption | (intro x; refine (fun hx : Kept Q x => ?_) ?_; clear_value x) | (intro x; clear_value x)
    | (intro x; refine (fun hx : Kept Q x => ?_) ?_; rotate_left; unfold x) | (intro x)
    | exact ok_lit 11 (by decide) hp11 | apply kept_showHall c hp11 | apply kept_updDfb c | apply kept_w c
    | apply kept_ite | split | unfold x | lift_lets -underBinder

theorem kept_updEmu (c : Closed N I T M E K W Q) (a0 : State) (a1 : Nat) (a2 : EmuSt → EmuSt) (ha0 : Kept Q a0) : Kept Q (State.updEmu a0 a1 a2) := by
  unfold State.updEmu
  try lift_lets -underBinder
  repeat' with_reducible first
    | assumption | (intro x; refine (fun hx : Kept Q x => ?_) ?_; clear_value x) | (intro x; clear_value x)
    | (intro x; refine (fun hx : Kept Q x => ?_) ?_; rotate_left; unfold x) | (intro x)
    | exact kept_mk (kept_out (by with_reducible assumption)) | unfold x | lift_lets -underBinder

theorem kept_emuStick (c : Closed N I T M E K W Q) (hE : E) (hp2 : W 2) (hp22 : W 22) (hp3 : W 3) (a0 : State) (a1 : Nat) (a2 : Fld) (ha0 : Kept Q a0) (ha2 : OkFld W a2) : Kept Q (State.emuStick a0 a1 a2) := by
  unfold State.emuStick
  repeat' with_reducible first
    | assumption | apply kept_stickEv c hE hp2 hp22 hp3

theorem kept_showEmu (c : Closed N I T M E K W Q) (hp12 : W 12) (a0 : State) (a1 : Nat) (ha0 : Kept Q a0) : Kept Q (State.showEmu a0 a1) := by
  unfold State.showEmu
  try lift_lets -underBinder
  repeat' with_reducible first
    | assumption | (intro x; refine (fun hx : Kept Q x => ?_) ?_; clear_value x) | (intro x; clear_value x)
    | (intro x; refine (fun hx : Kept Q x => ?_) ?_; rotate_left; unfold x) | (intro x)
    | exact ok_lit 12 (by decide) hp12 | apply kept_w c | apply kept_wb c | apply kept_ite | split | unfold x
    | lift_lets -underBinder

theorem kept_realign (c : Closed N I T M E K W Q) (hE : E) (hp12 : W 12) (hp2 : W 2) (hp22 : W 22) (hp3 : W 3) (a0 : State) (a1 : Nat) (a2 : Nat) (ha0 : Kept Q a0) : Kept Q (State.realign a0 a1 a2) := by
  unfold State.realign
  try lift_lets -underBinder
  repeat' with_reducible first
    | assumption | (intro x; refine (fun hx : Kept Q x => ?_) ?_; clear_value x) | (intro x; clear_value x)
    | (intro x; refine (fun hx : Kept Q x => ?_) ?_; rotate_left; unfold x) | (intro x)
    | exact kept_mk (kept_out (by with_reducible assumption)) | exact ok_lit 12 (by decide) hp12
    | apply kept_emuStick c hE hp2 hp22 hp3 | apply kept_updEmu c | apply kept_w c | apply kept_ite | split
    | unfold x | lift_lets -underBinder

theorem kept_firstAlign (c : Closed N I T M E K W Q) (hp12 : W 12) (a0 : State) (a1 : Nat) (a2 : Nat) (ha0 : Kept Q a0) : Kept Q (State.firstAlign a0 a1 a2) := by
  unfold State.firstAlign
  try lift_lets -underBinder
  repeat' with_reducible first
    | assumption | (intro x; refine (fun hx : Kept Q x => ?_) ?_; clear_value x) | (intro x; clear_value x)
    | (intro x; refine (fun hx : Kept Q x => ?_) ?_; rotate_left; unfold x) | (intro x)
    | exact kept_mk (kept_out (by with_reducible assumption)) | exact ok_lit 12 (by decide) hp12
    | apply kept_updEmu c | apply kept_w c | apply kept_ite | split | unfold x | lift_lets -underBinder

theorem kept_emuTarget (c : Closed N I T M E K W Q) (a0 : State) (a1 : Nat) (a2 : Nat) (ha0 : Kept Q a0) : Kept Q (State.emuTarget a0 a1 a2) := by
  unfold State.emuTarget
  try lift_lets -underBinder
  repeat' with_reducible first
    | assumption | (intro x; refine (fun hx : Kept Q x => ?_) ?_; clear_value x) | (intro x; clear_value x)
    | (intro x; refine (fun hx : Kept Q x => ?_) ?_; rotate_left; unfold x) | (intro x)
    | exact kept_mk (kept_out (by with_reducible assumption)) | apply kept_updEmu c | apply kept_ite | split
    | unfold x | lift_lets -underBinder

theorem kept_zRun (c : Closed N I T M E K W Q) (s : State) (i lim : Nat) (l : List (Nat × Bool)) (h : Kept Q s) :
    Kept Q (s.zRun i lim l) := by
  induction l generalizing s with
  | nil => exact kept_updEmu c _ _ _ h
  | cons x l ih =>
    obtain ⟨t, fire⟩ := x
    unfold State.zRun
    repeat' with_reducible first
      | assumption | apply ih | intro x | apply kept_emit c | apply kept_updEmu c | apply kept_ite | split

theorem kept_zSettle (c : Closed N I T M E K W Q) (a0 : State) (a1 : Nat) (a2 : Nat) (ha0 : Kept Q a0) : Kept Q (State.zSettle a0 a1 a2) := by
  unfold State.zSettle
  repeat' with_reducible first
    | assumption | apply kept_zRun c

theorem kept_oneEdge (c : Closed N I T M E K W Q) (hE : E) (hp12 : W 12) (hp2 : W 2) (hp22 : W 22) (hp3 : W 3) (a0 : State) (a1 : Nat) (a2 : Bool) (a3 : Nat) (ha0 : Kept Q a0) : Kept Q (State.oneEdge a0 a1 a2 a3) := by
  unfold State.oneEdge
  try lift_lets -underBinder
  repeat' with_reducible first
    | assumption | (intro x; refine (fun hx : Kept Q x => ?_) ?_; clear_value x) | (intro x; clear_value x)
    | (intro x; refine (fun hx : Kept Q x => ?_) ?_; rotate_left; unfold x) | (intro x)
    | exact kept_mk (kept_out (by with_reducible assumption)) | exact ok_lit 12 (by decide) hp12
    | apply kept_emuStick c hE hp2 hp22 hp3 | apply kept_updEmu c | apply kept_w c | apply kept_wb c
    | apply kept_ite | split | unfold x | lift_lets -underBinder

theorem kept_emitEdges (c : Closed N I T M E K W Q) (hE : E) (hp12 : W 12) (hp2 : W 2) (hp22 : W 22) (hp3 : W 3) (s : State) (i p0 t0 n : Nat) (acc : List (Nat × Nat)) (h : Kept Q s) :
    Kept Q (s.emitEdges i p0 t0 n acc).1 := by
  induction n generalizing s acc with
  | zero => exact h
  | succ n ih =>
    rw [State.emitEdges]
    lift_lets -underBinder
    intros
    split
    · exact h
    · split
      · exact h
      · exact ih _ _ (kept_updEmu c _ _ _ (kept_oneEdge c hE hp12 hp2 hp22 hp3 _ _ _ _ h))

theorem kept_emuWindow (c : Closed N I T M E K W Q) (hE : E) (hp12 : W 12) (hp2 : W 2) (hp22 : W 22) (hp3 : W 3) (a0 : State) (a1 : Nat) (a2 : Nat) (a3 : Nat) (ha0 : Kept Q a0) : Kept Q (State.emuWindow a0 a1 a2 a3) := by
  unfold State.emuWindow
  try lift_lets -underBinder
  repeat' with_reducible first
    | assumption | (intro x; refine (fun hx : Kept Q x => ?_) ?_; clear_value x)
    | (intro x; refine (fun hx : Kept Q x.1 => ?_) ?_; clear_value x) | (intro x; clear_value x)
    | (intro x; refine (fun hx : Kept Q x => ?_) ?_; rotate_left; unfold x) | (intro x) | apply kept_emit c
    | apply kept_emitEdges c hE hp12 hp2 hp22 hp3 | refine fst_kept ‹_› ?_ | apply kept_ite | split | unfold x
    | lift_lets -underBinder

theorem kept_emuBegin (c : Closed N I T M E K W Q) (a0 : State) (a1 : Nat) (ha0 : Kept Q a0) : Kept Q (State.emuBegin a0 a1) := by
  unfold State.emuBegin
  try lift_lets -underBinder
  repeat' with_reducible first
    | assumption | (intro x; refine (fun hx : Kept Q x => ?_) ?_; clear_value x) | (intro x; clear_value x)
    | (intro x; refine (fun hx : Kept Q x => ?_) ?_; rotate_left; unfold x) | (intro x)
    | exact kept_mk (kept_out (by with_reducible assumption)) | apply kept_updEmu c | apply kept_zSettle c
    | apply kept_ite | split | unfold x | lift_lets -underBinder

theorem kept_emuBacklog (c : Closed N I T M E K W Q) (hE : E) (hp12 : W 12) (hp2 : W 2) (hp22 : W 22) (hp3 : W 3) (a0 : State) (a1 : Nat) (ha0 : Kept Q a0) : Kept Q (State.emuBacklog a0 a1) := by
  unfold State.emuBacklog
  try lift_lets -underBinder
  repeat' with_reducible first
    | assumption | (intro x; refine (fun hx : Kept Q x => ?_) ?_; clear_value x) | (intro x; clear_value x)
    | (intro x; refine (fun hx : Kept Q x => ?_) ?_; rotate_left; unfold x) | (intro x)
    | exact ok_lit 12 (by decide) hp12 | apply kept_bump c | apply kept_emuStick c hE hp2 hp22 hp3
    | apply kept_w c | apply kept_wb c | apply kept_ite | split | unfold x | lift_lets -underBinder

theorem kept_emuOverflow (c : Closed N I T M E K W Q) (hE : E) (hp12 : W 12) (hp2 : W 2) (hp22 : W 22) (hp3 : W 3) (a0 : State) (a1 : Nat) (ha0 : Kept Q a0) : Kept Q (State.emuOverflow a0 a1) := by
  unfold State.emuOverflow
  try lift_lets -underBinder
  repeat' with_reducible first
    | assumption | (intro x; refine (fun hx : Kept Q x => ?_) ?_; clear_value x) | (intro x; clear_value x)
    | (intro x; refine (fun hx : Kept Q x => ?_) ?_; rotate_left; unfold x) | (intro x)
    | exact kept_mk (kept_out (by with_reducible assumption)) | exact ok_lit 12 (by decide) hp12
    | apply kept_emuStick c hE hp2 hp22 hp3 | apply kept_updEmu c | apply kept_w c | apply kept_ite | split
    | unfold x | lift_lets -underBinder

theorem kept_emuEmit (c : Closed N I T M E K W Q) (hE : E) (hp12 : W 12) (hp2 : W 2) (hp22 : W 22) (hp3 : W 3) (a0 : State) (a1 : Nat) (a2 : Nat) (a3 : Bool) (ha0 : Kept Q a0) : Kept Q (State.emuEmit a0 a1 a2 a3) := by
  unfold State.emuEmit
  try lift_lets -underBinder
  repeat' with_reducible first
    | assumption | (intro x; refine (fun hx : Kept Q x => ?_) ?_; clear_value x) | (intro x; clear_value x)
    | (intro x; refine (fun hx : Kept Q x => ?_) ?_; rotate_left; unfold x) | (intro x)
    | apply kept_emuBacklog c hE hp12 hp2 hp22 hp3 | apply kept_emuOverflow c hE hp12 hp2 hp22 hp3
    | apply kept_emuTarget c | apply kept_emuWindow c hE hp12 hp2 hp22 hp3
    | apply kept_realign c hE hp12 hp2 hp22 hp3 | apply kept_ite | split | unfold x | lift_lets -underBinder

theorem kept_emuHold (c : Closed N I T M E K W Q) (hE : E) (hp12 : W 12) (hp2 : W 2) (hp22 : W 22) (hp3 : W 3) (a0 : State) (a1 : Nat) (a2 : Nat) (a3 : Bool) (ha0 : Kept Q a0) : Kept Q (State.emuHold a0 a1 a2 a3) := by
  unfold State.emuHold
  try lift_lets -underBinder
  repeat' with_reducible first
    | assumption | (intro x; refine (fun hx : Kept Q x => ?_) ?_; clear_value x) | (intro x; clear_value x)
    | (intro x; refine (fun hx : Kept Q x => ?_) ?_; rotate_left; unfold x) | (intro x)
    | exact kept_mk (kept_out (by with_reducible assumption)) | apply kept_emuBacklog c hE hp12 hp2 hp22 hp3
    | apply kept_emuTarget c | apply kept_realign c hE hp12 hp2 hp22 hp3 | apply kept_updEmu c | apply kept_ite
    | split | unfold x | lift_lets -underBinder

theorem kept_emuSample (c : Closed N I T M E K W Q) (hE : E) (hp12 : W 12) (hp2 : W 2) (hp22 : W 22) (hp3 : W 3) (a0 : State) (a1 : Nat) (ha0 : Kept Q a0) : Kept Q (State.emuSample a0 a1) := by
  unfold State.emuSample
  try lift_lets -underBinder
  repeat' with_reducible first
    | assumption | (intro x; refine (fun hx : Kept Q x => ?_) ?_; clear_value x)
    | (intro x; refine (fun hx : Kept Q x.1 => ?_) ?_; clear_value x) | (intro x; clear_value x)
    | (intro x; refine (fun hx : Kept Q x => ?_) ?_; rotate_left; unfold x) | (intro x)
    | exact kept_mk (kept_out (by with_reducible assumption)) | exact ok_lit 12 (by decide) hp12
    | apply kept_emuBacklog c hE hp12 hp2 hp22 hp3 | apply kept_emuBegin c
    | apply kept_emuEmit c hE hp12 hp2 hp22 hp3 | apply kept_emuHold c hE hp12 hp2 hp22 hp3
    | apply kept_emuStick c hE hp2 hp22 hp3 | apply kept_firstAlign c hp12 | apply kept_showEmu c hp12
    | apply kept_updEmu c | apply kept_w c | apply kept_ite | split | unfold x | lift_lets -underBinder

theorem kept_emuApply (c : Closed N I T M E K W Q) (hE : E) (hp12 : W 12) (hp2 : W 2) (hp22 : W 22) (hp3 : W 3) (a0 : State) (a1 : Nat) (a2 : Bool) (a3 : Nat) (a4 : Nat) (a5 : Nat) (ha0 : Kept Q a0) : Kept Q (State.emuApply a0 a1 a2 a3 a4 a5) := by
  unfold State.emuApply
  try lift_lets -underBinder
  repeat' with_reducible first
    | assumption | (intro x; refine (fun hx : Kept Q x => ?_) ?_; clear_value x) | (intro x; clear_value x)
    | (intro x; refine (fun hx : Kept Q x => ?_) ?_; rotate_left; unfold x) | (intro x)
    | exact kept_mk (kept_out (by with_reducible assumption)) | apply kept_emuBacklog c hE hp12 hp2 hp22 hp3
    | apply kept_showEmu c hp12 | apply kept_updEmu c | apply kept_ite | split | unfold x | lift_lets -underBinder

theorem kept_emuFire (c : Closed N I T M E K W Q) (a0 : State) (a1 : Nat) (a2 : Nat) (ha0 : Kept Q a0) : Kept Q (State.emuFire a0 a1 a2) := by
  unfold State.emuFire
  try lift_lets -underBinder
  repeat' with_reducible first
    | assumption | (intro x; refine (fun hx : Kept Q x => ?_) ?_; clear_value x) | (intro x; clear_value x)
    | (intro x; refine (fun hx : Kept Q x => ?_) ?_; rotate_left; unfold x) | (intro x)
    | exact kept_mk (kept_out (by with_reducible assumption)) | apply kept_updEmu c | apply kept_ite | split
    | unfold x | lift_lets -underBinder

theorem kept_emuAlign (c : Closed N I T M E K W Q) (a0 : State) (a1 : Nat) (ha0 : Kept Q a0) : Kept Q (State.emuAlign a0 a1) := by
  unfold State.emuAlign
  try lift_lets -underBinder
  repeat' with_reducible first
    | assumption | (intro x; refine (fun hx : Kept Q x => ?_) ?_; clear_value x) | (intro x; clear_value x)
    | (intro x; refine (fun hx : Kept Q x => ?_) ?_; rotate_left; unfold x) | (intro x)
    | exact kept_mk (kept_out (by with_reducible assumption)) | apply kept_updEmu c | apply kept_ite | split
    | unfold x | lift_lets -underBinder

theorem kept_emuRearm (c : Closed N I T M E K W Q) (a0 : State) (a1 : Nat) (ha0 : Kept Q a0) : Kept Q (State.emuRearm a0 a1) := by
  unfold State.emuRearm
  try lift_lets -underBinder
  repeat' with_reducible first
    | assumption | (intro x; refine (fun hx : Kept Q x => ?_) ?_; clear_value x) | (intro x; clear_value x)
    | (intro x; refine (fun hx : Kept Q x => ?_) ?_; rotate_left; unfold x) | (intro x)
    | exact kept_mk (kept_out (by with_reducible assumption)) | apply kept_updEmu c | apply kept_ite | split
    | unfold x | lift_lets -underBinder

theorem kept_doZemuPulseEnd (c : Closed N I T M E K W Q) (hp12 : W 12) (a0 : Nat) (a1 : State) (ha1 : Kept Q a1) : Kept Q (doZemuPulseEnd a0 a1) := by
  unfold doZemuPulseEnd
  try lift_lets -underBinder
  repeat' with_reducible first
    | assumption | (intro x; refine (fun hx : Kept Q x => ?_) ?_; clear_value x) | (intro x; clear_value x)
    | (intro x; refine (fun hx : Kept Q x => ?_) ?_; rotate_left; unfold x) | (intro x)
    | exact kept_mk (kept_out (by with_reducible assumption)) | apply kept_emit c | apply kept_showEmu c hp12
    | apply kept_updEmu c | apply kept_zSettle c | apply kept_ite | split | unfold x | lift_lets -underBinder

theorem kept_emuDrivers (c : Closed N I T M E K W Q) (hp12 : W 12) (a0 : State) (a1 : Bool) (ha0 : Kept Q a0) : Kept Q (State.emuDrivers a0 a1) := by
  unfold State.emuDrivers
  try lift_lets -underBinder
  repeat' with_reducible first
    | assumption | (intro x; refine (fun hx : Kept Q x => ?_) ?_; clear_value x) | (intro x; clear_value x)
    | (intro x; refine (fun hx : Kept Q x => ?_) ?_; rotate_left; unfold x) | (intro x)
    | exact kept_mk (kept_out (by with_reducible assumption)) | apply kept_each c | apply kept_showEmu c hp12
    | unfold x | lift_lets -underBinder

end Sys2Proof.Laws
end

