-- ==== Sys2Proof/Laws/KeepEngine.lean ====
section
/-! SUPPORT. What the operations of chapters 9 to 13 keep: each lemma follows the text of its definition. -/

set_option linter.all false

namespace Sys2Proof.Laws
open Sys2Proof.Machine

variable {N I T M E K : Prop} {W : Nat → Prop} {Q : Store → Prop}

theorem kept_setSlot (c : Closed N I T M E K W Q) (a0 : State) (a1 : Nat) (a2 : SlotSt) (ha0 : Kept Q a0) : Kept Q (State.setSlot a0 a1 a2) := by
  unfold State.setSlot
  try lift_lets -underBinder
  repeat' with_reducible first
    | assumption | (intro x; refine (fun hx : Kept Q x => ?_) ?_; clear_value x) | (intro x; clear_value x)
    | (intro x; refine (fun hx : Kept Q x => ?_) ?_; rotate_left; unfold x) | (intro x)
    | exact kept_mk (kept_out (by with_reducible assumption)) | unfold x | lift_lets -underBinder

theorem kept_updSlot (c : Closed N I T M E K W Q) (a0 : State) (a1 : Nat) (a2 : SlotSt → SlotSt) (ha0 : Kept Q a0) : Kept Q (State.updSlot a0 a1 a2) := by
  unfold State.updSlot
  repeat' with_reducible first
    | assumption | apply kept_setSlot c

theorem kept_geyStick (c : Closed N I T M E K W Q) (hE : E) (hp2 : W 2) (hp22 : W 22) (hp3 : W 3) (a0 : State) (a1 : Fld) (a2 : Nat) (ha0 : Kept Q a0) (ha1 : OkFld W a1) : Kept Q (State.geyStick a0 a1 a2) := by
  unfold State.geyStick
  repeat' with_reducible first
    | assumption | apply kept_stickEv c hE hp2 hp22 hp3

theorem kept_stateAt (c : Closed N I T M E K W Q) (hp8 : W 8) (a0 : State) (a1 : Nat) (a2 : Nat) (ha0 : Kept Q a0) : Kept Q (State.stateAt a0 a1 a2) := by
  unfold State.stateAt
  repeat' with_reducible first
    | assumption | apply kept_engAt c hp8

theorem kept_consume (c : Closed N I T M E K W Q) (a0 : State) (a1 : Nat) (ha0 : Kept Q a0) : Kept Q (State.consume a0 a1) := by
  unfold State.consume
  try lift_lets -underBinder
  repeat' with_reducible first
    | assumption | (intro x; refine (fun hx : Kept Q x => ?_) ?_; clear_value x) | (intro x; clear_value x)
    | (intro x; refine (fun hx : Kept Q x => ?_) ?_; rotate_left; unfold x) | (intro x)
    | exact kept_mk (kept_out (by with_reducible assumption)) | apply kept_setSlot c | apply kept_ite | split
    | unfold x | lift_lets -underBinder

theorem kept_commitSlot (c : Closed N I T M E K W Q) (a0 : State) (a1 : Nat) (a2 : Nat) (a3 : Nat) (ha0 : Kept Q a0) : Kept Q (State.commitSlot a0 a1 a2 a3) := by
  unfold State.commitSlot
  try lift_lets -underBinder
  repeat' with_reducible first
    | assumption | (intro x; refine (fun hx : Kept Q x => ?_) ?_; clear_value x) | (intro x; clear_value x)
    | (intro x; refine (fun hx : Kept Q x => ?_) ?_; rotate_left; unfold x) | (intro x)
    | exact kept_mk (kept_out (by with_reducible assumption)) | apply kept_updSlot c | apply kept_ite | split
    | unfold x | lift_lets -underBinder

theorem kept_missed (c : Closed N I T M E K W Q) (hE : E) (hp13 : W 13) (hp2 : W 2) (hp22 : W 22) (hp3 : W 3) (a0 : State) (a1 : Nat) (a2 : Nat) (ha0 : Kept Q a0) : Kept Q (State.missed a0 a1 a2) := by
  unfold State.missed
  try lift_lets -underBinder
  repeat' with_reducible first
    | assumption | (intro x; refine (fun hx : Kept Q x => ?_) ?_; clear_value x) | (intro x; clear_value x)
    | (intro x; refine (fun hx : Kept Q x => ?_) ?_; rotate_left; unfold x) | (intro x)
    | exact kept_mk (kept_out (by with_reducible assumption)) | exact ok_lit 13 (by decide) hp13
    | apply kept_bump c | apply kept_commitSlot c | apply kept_consume c | apply kept_geyStick c hE hp2 hp22 hp3
    | apply kept_updSlot c | apply kept_ite | split | unfold x | lift_lets -underBinder

theorem kept_unserved (c : Closed N I T M E K W Q) (hE : E) (hp13 : W 13) (hp2 : W 2) (hp22 : W 22) (hp3 : W 3) (a0 : State) (a1 : Nat) (a2 : Nat) (a3 : Nat) (ha0 : Kept Q a0) : Kept Q (State.unserved a0 a1 a2 a3) := by
  unfold State.unserved
  try lift_lets -underBinder
  repeat' with_reducible first
    | assumption | (intro x; refine (fun hx : Kept Q x => ?_) ?_; clear_value x) | (intro x; clear_value x)
    | (intro x; refine (fun hx : Kept Q x => ?_) ?_; rotate_left; unfold x) | (intro x)
    | exact kept_mk (kept_out (by with_reducible assumption)) | exact ok_lit 13 (by decide) hp13
    | apply kept_bump c | apply kept_commitSlot c | apply kept_geyStick c hE hp2 hp22 hp3
    | apply kept_missed c hE hp13 hp2 hp22 hp3 | apply kept_updSlot c | apply kept_ite | split | unfold x
    | lift_lets -underBinder

theorem kept_slotPredict (c : Closed N I T M E K W Q) (hE : E) (hp13 : W 13) (hp2 : W 2) (hp22 : W 22) (hp3 : W 3) (a0 : State) (a1 : Nat) (a2 : Nat) (a3 : Int) (a4 : Int) (a5 : Nat) (a6 : Nat) (ha0 : Kept Q a0) : Kept Q (State.slotPredict a0 a1 a2 a3 a4 a5 a6) := by
  unfold State.slotPredict
  try lift_lets -underBinder
  repeat' with_reducible first
    | assumption | (intro x; refine (fun hx : Kept Q x => ?_) ?_; clear_value x)
    | (intro x; refine (fun hx : Kept Q x.1 => ?_) ?_; clear_value x) | (intro x; clear_value x)
    | (intro x; refine (fun hx : Kept Q x => ?_) ?_; rotate_left; unfold x) | (intro x)
    | exact kept_mk (kept_out (by with_reducible assumption)) | exact ok_lit 13 (by decide) hp13
    | apply kept_bump c | apply kept_consume c | apply kept_geyStick c hE hp2 hp22 hp3 | apply kept_updSlot c
    | apply kept_ite | split | unfold x | lift_lets -underBinder

theorem kept_slotStates (c : Closed N I T M E K W Q) (hE : E) (hp13 : W 13) (hp2 : W 2) (hp22 : W 22) (hp3 : W 3) (a0 : State) (a1 : Nat) (a2 : Nat) (a3 : Nat) (a4 : Int) (a5 : Int) (a6 : Nat) (a7 : Nat) (a8 : Bool) (ha0 : Kept Q a0) : Kept Q (State.slotStates a0 a1 a2 a3 a4 a5 a6 a7 a8) := by
  unfold State.slotStates
  try lift_lets -underBinder
  repeat' with_reducible first
    | assumption | (intro x; refine (fun hx : Kept Q x => ?_) ?_; clear_value x) | (intro x; clear_value x)
    | (intro x; refine (fun hx : Kept Q x => ?_) ?_; rotate_left; unfold x) | (intro x)
    | exact kept_mk (kept_out (by with_reducible assumption)) | apply kept_slotPredict c hE hp13 hp2 hp22 hp3
    | apply kept_unserved c hE hp13 hp2 hp22 hp3 | apply kept_updSlot c | apply kept_ite | split | unfold x
    | lift_lets -underBinder

theorem kept_angleEval (c : Closed N I T M E K W Q) (hE : E) (hp13 : W 13) (hp2 : W 2) (hp22 : W 22) (hp3 : W 3) (a0 : State) (a1 : Nat) (ha0 : Kept Q a0) : Kept Q (State.angleEval a0 a1) := by
  unfold State.angleEval
  try lift_lets -underBinder
  repeat' with_reducible first
    | assumption | (intro x; refine (fun hx : Kept Q x => ?_) ?_; clear_value x)
    | (intro x; refine (fun hx : Kept Q x.1 => ?_) ?_; clear_value x) | (intro x; clear_value x)
    | (intro x; refine (fun hx : Kept Q x => ?_) ?_; rotate_left; unfold x) | (intro x)
    | exact kept_mk (kept_out (by with_reducible assumption)) | exact ok_lit 13 (by decide) hp13
    | apply kept_geyStick c hE hp2 hp22 hp3 | apply kept_setSlot c | apply kept_slotPredict c hE hp13 hp2 hp22 hp3
    | apply kept_slotStates c hE hp13 hp2 hp22 hp3 | apply kept_updSlot c | apply kept_ite | split | unfold x
    | lift_lets -underBinder

theorem kept_timeEval (c : Closed N I T M E K W Q) (a0 : State) (a1 : Nat) (ha0 : Kept Q a0) : Kept Q (State.timeEval a0 a1) := by
  unfold State.timeEval
  try lift_lets -underBinder
  repeat' with_reducible first
    | assumption | (intro x; refine (fun hx : Kept Q x => ?_) ?_; clear_value x) | (intro x; clear_value x)
    | (intro x; refine (fun hx : Kept Q x => ?_) ?_; rotate_left; unfold x) | (intro x) | apply kept_commitSlot c
    | apply kept_ite | split | unfold x | lift_lets -underBinder

theorem kept_geyForget (c : Closed N I T M E K W Q) (a0 : State) (ha0 : Kept Q a0) : Kept Q (State.geyForget a0) := by
  unfold State.geyForget
  try lift_lets -underBinder
  repeat' with_reducible first
    | assumption | (intro x; refine (fun hx : Kept Q x => ?_) ?_; clear_value x) | (intro x; clear_value x)
    | (intro x; refine (fun hx : Kept Q x => ?_) ?_; rotate_left; unfold x) | (intro x)
    | exact kept_mk (kept_out (by with_reducible assumption)) | apply kept_updSlot c | apply foldl_kept
    | apply foldl_kept1 | apply kept_ite | split | unfold x | lift_lets -underBinder

theorem kept_geySample (c : Closed N I T M E K W Q) (hE : E) (hp13 : W 13) (hp2 : W 2) (hp22 : W 22) (hp3 : W 3) (a0 : State) (ha0 : Kept Q a0) : Kept Q (State.geySample a0) := by
  unfold State.geySample
  try lift_lets -underBinder
  repeat' with_reducible first
    | assumption | (intro x; refine (fun hx : Kept Q x => ?_) ?_; clear_value x) | (intro x; clear_value x)
    | (intro x; refine (fun hx : Kept Q x => ?_) ?_; rotate_left; unfold x) | (intro x)
    | apply kept_angleEval c hE hp13 hp2 hp22 hp3 | apply kept_geyForget c | apply kept_timeEval c
    | apply foldl_kept | apply foldl_kept1 | apply kept_ite | split | unfold x | lift_lets -underBinder

theorem kept_arm (c : Closed N I T M E K W Q) (hE : E) (hp13 : W 13) (hp2 : W 2) (hp22 : W 22) (hp3 : W 3) (a0 : State) (a1 : Nat) (a2 : Nat) (ha0 : Kept Q a0) : Kept Q (State.arm a0 a1 a2) := by
  unfold State.arm
  try lift_lets -underBinder
  repeat' with_reducible first
    | assumption | (intro x; refine (fun hx : Kept Q x => ?_) ?_; clear_value x) | (intro x; clear_value x)
    | (intro x; refine (fun hx : Kept Q x => ?_) ?_; rotate_left; unfold x) | (intro x)
    | exact kept_mk (kept_out (by with_reducible assumption)) | exact ok_lit 13 (by decide) hp13
    | apply kept_geyStick c hE hp2 hp22 hp3 | apply kept_missed c hE hp13 hp2 hp22 hp3 | apply kept_setSlot c
    | apply kept_timeEval c | apply kept_ite | split | unfold x | lift_lets -underBinder

theorem kept_entryApplied (c : Closed N I T M E K W Q) (hE : E) (hp13 : W 13) (hp2 : W 2) (hp22 : W 22) (hp3 : W 3) (a0 : State) (a1 : Nat) (a2 : Nat) (a3 : List Nat) (ha0 : Kept Q a0) : Kept Q (State.entryApplied a0 a1 a2 a3) := by
  unfold State.entryApplied
  try lift_lets -underBinder
  repeat' with_reducible first
    | assumption | (intro x; refine (fun hx : Kept Q x => ?_) ?_; clear_value x) | (intro x; clear_value x)
    | (intro x; refine (fun hx : Kept Q x => ?_) ?_; rotate_left; unfold x) | (intro x)
    | exact kept_mk (kept_out (by with_reducible assumption)) | apply kept_arm c hE hp13 hp2 hp22 hp3
    | apply kept_setSlot c | apply kept_updSlot c | apply kept_ite | split | unfold x | lift_lets -underBinder

theorem kept_geyEnable (c : Closed N I T M E K W Q) (hE : E) (hp13 : W 13) (hp2 : W 2) (hp22 : W 22) (hp3 : W 3) (a0 : State) (a1 : Nat) (ha0 : Kept Q a0) : Kept Q (State.geyEnable a0 a1) := by
  unfold State.geyEnable
  repeat' with_reducible first
    | assumption | (intro x; refine (fun hx : Kept Q x => ?_) ?_; clear_value x) | (intro x; clear_value x)
    | (intro x; refine (fun hx : Kept Q x => ?_) ?_; rotate_left; unfold x) | (intro x)
    | apply kept_arm c hE hp13 hp2 hp22 hp3 | apply kept_each c | apply kept_updSlot c | apply foldl_kept
    | apply foldl_kept1 | apply kept_ite | split | unfold x | lift_lets -underBinder

theorem kept_geyStep (c : Closed N I T M E K W Q) (hE : E) (hp13 : W 13) (hp2 : W 2) (hp22 : W 22) (hp3 : W 3) (a0 : State) (a1 : Nat) (a2 : Nat) (ha0 : Kept Q a0) : Kept Q (State.geyStep a0 a1 a2) := by
  unfold State.geyStep
  try lift_lets -underBinder
  repeat' with_reducible first
    | assumption | (intro x; refine (fun hx : Kept Q x => ?_) ?_; clear_value x) | (intro x; clear_value x)
    | (intro x; refine (fun hx : Kept Q x => ?_) ?_; rotate_left; unfold x) | (intro x)
    | exact kept_mk (kept_out (by with_reducible assumption)) | apply kept_missed c hE hp13 hp2 hp22 hp3
    | apply kept_updSlot c | apply foldl_kept | apply foldl_kept1 | apply kept_ite | split | unfold x
    | lift_lets -underBinder

theorem kept_shadowWrite (c : Closed N I T M E K W Q) (hE : E) (hM : M) (hp13 : W 13) (hp2 : W 2) (hp22 : W 22) (hp3 : W 3) (a0 : State) (a1 : Nat) (a2 : Nat) (ha0 : Kept Q a0) : Kept Q (State.shadowWrite a0 a1 a2).1 := by
  unfold State.shadowWrite
  try lift_lets -underBinder
  repeat' with_reducible first
    | assumption | (intro x; refine (fun hx : Kept Q x => ?_) ?_; clear_value x)
    | (intro x; refine (fun hx : Kept Q x.1 => ?_) ?_; clear_value x) | (intro x; clear_value x)
    | (intro x; refine (fun hx : Kept Q x => ?_) ?_; rotate_left; unfold x) | (intro x)
    | exact ok_lit 13 (by decide) hp13 | apply kept_geyStick c hE hp2 hp22 hp3 | apply kept_setSram32 c hM
    | apply kept_w c | apply kept_ite | split | unfold x | lift_lets -underBinder

theorem kept_shadowData (c : Closed N I T M E K W Q) (hE : E) (hM : M) (hp13 : W 13) (hp2 : W 2) (hp22 : W 22) (hp3 : W 3) (a0 : State) (a1 : Nat) (ha0 : Kept Q a0) : Kept Q (State.shadowData a0 a1) := by
  unfold State.shadowData
  try lift_lets -underBinder
  repeat' with_reducible first
    | assumption | (intro x; refine (fun hx : Kept Q x => ?_) ?_; clear_value x) | (intro x; clear_value x)
    | (intro x; refine (fun hx : Kept Q x => ?_) ?_; rotate_left; unfold x) | (intro x)
    | exact ok_lit 13 (by decide) hp13 | apply kept_shadowWrite c hE hM hp13 hp2 hp22 hp3 | refine fst_kept ‹_› ?_
    | apply kept_w c | unfold x | lift_lets -underBinder

theorem kept_showPending (c : Closed N I T M E K W Q) (hp13 : W 13) (a0 : State) (ha0 : Kept Q a0) : Kept Q (State.showPending a0) := by
  unfold State.showPending
  try lift_lets -underBinder
  repeat' with_reducible first
    | assumption | (intro x; refine (fun hx : Kept Q x => ?_) ?_; clear_value x) | (intro x; clear_value x)
    | (intro x; refine (fun hx : Kept Q x => ?_) ?_; rotate_left; unfold x) | (intro x)
    | exact ok_lit 13 (by decide) hp13 | apply kept_w c | apply foldl_kept | apply foldl_kept1 | apply kept_ite
    | split | unfold x | lift_lets -underBinder

theorem kept_requestCopy (c : Closed N I T M E K W Q) (hE : E) (hp13 : W 13) (hp2 : W 2) (hp22 : W 22) (hp3 : W 3) (a0 : State) (a1 : Nat) (ha0 : Kept Q a0) : Kept Q (State.requestCopy a0 a1).1 := by
  unfold State.requestCopy
  try lift_lets -underBinder
  repeat' with_reducible first
    | assumption | (intro x; refine (fun hx : Kept Q x => ?_) ?_; clear_value x)
    | (intro x; refine (fun hx : Kept Q x.1 => ?_) ?_; clear_value x) | (intro x; clear_value x)
    | (intro x; refine (fun hx : Kept Q x => ?_) ?_; rotate_left; unfold x) | (intro x)
    | exact kept_mk (kept_out (by with_reducible assumption)) | exact ok_lit 13 (by decide) hp13
    | apply kept_geyStick c hE hp2 hp22 hp3 | apply kept_showPending c hp13 | apply kept_w c | apply kept_ite
    | split | unfold x | lift_lets -underBinder

theorem kept_groupCommand (c : Closed N I T M E K W Q) (hE : E) (hp13 : W 13) (hp2 : W 2) (hp22 : W 22) (hp3 : W 3) (a0 : State) (a1 : Nat) (ha0 : Kept Q a0) : Kept Q (State.groupCommand a0 a1) := by
  unfold State.groupCommand
  repeat' with_reducible first
    | assumption | apply kept_requestCopy c hE hp13 hp2 hp22 hp3 | refine fst_kept ‹_› ?_ | apply kept_ite | split

theorem kept_copyGroup (c : Closed N I T M E K W Q) (hE : E) (hM : M) (hp13 : W 13) (hp2 : W 2) (hp22 : W 22) (hp3 : W 3) (a0 : State) (a1 : Nat) (ha0 : Kept Q a0) : Kept Q (State.copyGroup a0 a1) := by
  unfold State.copyGroup
  try lift_lets -underBinder
  repeat' with_reducible first
    | assumption | (intro x; refine (fun hx : Kept Q x => ?_) ?_; clear_value x) | (intro x; clear_value x)
    | (intro x; refine (fun hx : Kept Q x => ?_) ?_; rotate_left; unfold x) | (intro x)
    | exact kept_mk (kept_out (by with_reducible assumption)) | exact ok_lit 13 (by decide) hp13
    | apply kept_each c | apply kept_eccSeen c hE hp2 hp22 hp3 | apply kept_geyStick c hE hp2 hp22 hp3
    | apply kept_setSram32 c hM | apply kept_showPending c hp13 | apply foldl_kept | apply foldl_kept1
    | apply kept_ite | split | unfold x | lift_lets -underBinder

theorem kept_overtaken (c : Closed N I T M E K W Q) (hE : E) (hp13 : W 13) (hp2 : W 2) (hp22 : W 22) (hp3 : W 3) (a0 : State) (a1 : Nat) (ha0 : Kept Q a0) : Kept Q (State.overtaken a0 a1) := by
  unfold State.overtaken
  try lift_lets -underBinder
  repeat' with_reducible first
    | assumption | (intro x; refine (fun hx : Kept Q x => ?_) ?_; clear_value x) | (intro x; clear_value x)
    | (intro x; refine (fun hx : Kept Q x => ?_) ?_; rotate_left; unfold x) | (intro x)
    | exact kept_mk (kept_out (by with_reducible assumption)) | exact ok_lit 13 (by decide) hp13
    | apply kept_bump c | apply kept_geyStick c hE hp2 hp22 hp3 | apply kept_updSlot c | apply kept_ite | split
    | unfold x | lift_lets -underBinder

theorem kept_oldFire (c : Closed N I T M E K W Q) (hE : E) (hp13 : W 13) (hp2 : W 2) (hp22 : W 22) (hp3 : W 3) (a0 : State) (a1 : Nat) (a2 : Nat) (a3 : Nat) (a4 : List Nat) (ha0 : Kept Q a0) : Kept Q (State.oldFire a0 a1 a2 a3 a4) := by
  unfold State.oldFire
  try lift_lets -underBinder
  repeat' with_reducible first
    | assumption | (intro x; refine (fun hx : Kept Q x => ?_) ?_; clear_value x) | (intro x; clear_value x)
    | (intro x; refine (fun hx : Kept Q x => ?_) ?_; rotate_left; unfold x) | (intro x)
    | exact kept_mk (kept_out (by with_reducible assumption)) | apply kept_overtaken c hE hp13 hp2 hp22 hp3
    | apply kept_updSlot c | apply kept_ite | split | unfold x | lift_lets -underBinder

theorem kept_slotEdge (c : Closed N I T M E K W Q) (hE : E) (hp13 : W 13) (hp2 : W 2) (hp22 : W 22) (hp3 : W 3) (a0 : State) (a1 : Nat) (a2 : Nat) (a3 : Nat) (ha0 : Kept Q a0) : Kept Q (State.slotEdge a0 a1 a2 a3) := by
  unfold State.slotEdge
  try lift_lets -underBinder
  repeat' with_reducible first
    | assumption | (intro x; refine (fun hx : Kept Q x => ?_) ?_; clear_value x) | (intro x; clear_value x)
    | (intro x; refine (fun hx : Kept Q x => ?_) ?_; rotate_left; unfold x) | (intro x)
    | exact kept_mk (kept_out (by with_reducible assumption)) | apply kept_commitSlot c
    | apply kept_overtaken c hE hp13 hp2 hp22 hp3 | apply kept_setSlot c | apply kept_ite | split | unfold x
    | lift_lets -underBinder

theorem kept_oldEdge (c : Closed N I T M E K W Q) (hE : E) (hp13 : W 13) (hp2 : W 2) (hp22 : W 22) (hp3 : W 3) (a0 : State) (a1 : Nat) (a2 : Nat) (a3 : Nat) (a4 : List Nat) (a5 : Nat) (ha0 : Kept Q a0) : Kept Q (State.oldEdge a0 a1 a2 a3 a4 a5) := by
  unfold State.oldEdge
  try lift_lets -underBinder
  repeat' with_reducible first
    | assumption | (intro x; refine (fun hx : Kept Q x => ?_) ?_; clear_value x) | (intro x; clear_value x)
    | (intro x; refine (fun hx : Kept Q x => ?_) ?_; rotate_left; unfold x) | (intro x)
    | exact kept_mk (kept_out (by with_reducible assumption)) | apply kept_oldFire c hE hp13 hp2 hp22 hp3
    | apply kept_updSlot c | apply kept_ite | split | unfold x | lift_lets -underBinder

theorem kept_edgeFor (c : Closed N I T M E K W Q) (hE : E) (hp13 : W 13) (hp2 : W 2) (hp22 : W 22) (hp3 : W 3) (a0 : State) (a1 : Nat) (a2 : Nat) (a3 : Nat) (a4 : Bool) (ha0 : Kept Q a0) : Kept Q (State.edgeFor a0 a1 a2 a3 a4) := by
  unfold State.edgeFor
  try lift_lets -underBinder
  repeat' with_reducible first
    | assumption | (intro x; refine (fun hx : Kept Q x => ?_) ?_; clear_value x) | (intro x; clear_value x)
    | (intro x; refine (fun hx : Kept Q x => ?_) ?_; rotate_left; unfold x) | (intro x)
    | apply kept_oldEdge c hE hp13 hp2 hp22 hp3 | apply kept_slotEdge c hE hp13 hp2 hp22 hp3 | apply kept_ite
    | split | unfold x | lift_lets -underBinder

theorem kept_doPwmsEdge (c : Closed N I T M E K W Q) (hE : E) (hp13 : W 13) (hp2 : W 2) (hp22 : W 22) (hp3 : W 3) (a0 : Nat) (a1 : Bool) (a2 : Nat) (a3 : Nat) (a4 : State) (ha4 : Kept Q a4) : Kept Q (doPwmsEdge a0 a1 a2 a3 a4) := by
  unfold doPwmsEdge
  try lift_lets -underBinder
  repeat' with_reducible first
    | assumption | (intro x; refine (fun hx : Kept Q x => ?_) ?_; clear_value x) | (intro x; clear_value x)
    | (intro x; refine (fun hx : Kept Q x => ?_) ?_; rotate_left; unfold x) | (intro x)
    | exact kept_mk (kept_out (by with_reducible assumption)) | exact ok_lit 13 (by decide) hp13
    | apply kept_edgeFor c hE hp13 hp2 hp22 hp3 | apply kept_w c | apply foldl_kept | apply foldl_kept1
    | apply kept_ite | split | unfold x | lift_lets -underBinder

theorem kept_doPwmsLost (c : Closed N I T M E K W Q) (hE : E) (hp13 : W 13) (hp2 : W 2) (hp22 : W 22) (hp3 : W 3) (a0 : Nat) (a1 : State) (ha1 : Kept Q a1) : Kept Q (doPwmsLost a0 a1) := by
  unfold doPwmsLost
  try lift_lets -underBinder
  repeat' with_reducible first
    | assumption | (intro x; refine (fun hx : Kept Q x => ?_) ?_; clear_value x) | (intro x; clear_value x)
    | (intro x; refine (fun hx : Kept Q x => ?_) ?_; rotate_left; unfold x) | (intro x)
    | exact kept_mk (kept_out (by with_reducible assumption)) | exact ok_lit 13 (by decide) hp13
    | apply kept_stickBits c hE hp2 hp22 hp3 | apply kept_w c | apply kept_ite | split | unfold x
    | lift_lets -underBinder

theorem kept_pwmsApply (c : Closed N I T M E K W Q) (hp13 : W 13) (a0 : State) (a1 : Nat) (a2 : Bool) (ha0 : Kept Q a0) : Kept Q (State.pwmsApply a0 a1 a2) := by
  unfold State.pwmsApply
  try lift_lets -underBinder
  repeat' with_reducible first
    | assumption | (intro x; refine (fun hx : Kept Q x => ?_) ?_; clear_value x) | (intro x; clear_value x)
    | (intro x; refine (fun hx : Kept Q x => ?_) ?_; rotate_left; unfold x) | (intro x)
    | exact kept_mk (kept_out (by with_reducible assumption)) | exact ok_lit 13 (by decide) hp13 | apply kept_w c
    | apply kept_ite | split | unfold x | lift_lets -underBinder

theorem kept_chainFor (c : Closed N I T M E K W Q) (hE : E) (hp13 : W 13) (hp2 : W 2) (hp22 : W 22) (hp3 : W 3) (a0 : State) (a1 : Nat) (a2 : Nat) (a3 : Nat) (a4 : Bool) (ha0 : Kept Q a0) : Kept Q (State.chainFor a0 a1 a2 a3 a4) := by
  unfold State.chainFor
  try lift_lets -underBinder
  repeat' with_reducible first
    | assumption | (intro x; refine (fun hx : Kept Q x => ?_) ?_; clear_value x) | (intro x; clear_value x)
    | (intro x; refine (fun hx : Kept Q x => ?_) ?_; rotate_left; unfold x) | (intro x)
    | exact kept_mk (kept_out (by with_reducible assumption)) | apply kept_commitSlot c
    | apply kept_missed c hE hp13 hp2 hp22 hp3 | apply kept_oldFire c hE hp13 hp2 hp22 hp3
    | apply kept_overtaken c hE hp13 hp2 hp22 hp3 | apply kept_updSlot c | apply kept_ite | split | unfold x
    | lift_lets -underBinder

theorem kept_geyChain (c : Closed N I T M E K W Q) (hE : E) (hp13 : W 13) (hp2 : W 2) (hp22 : W 22) (hp3 : W 3) (a0 : State) (a1 : Nat) (a2 : Nat) (a3 : Bool) (ha0 : Kept Q a0) : Kept Q (State.geyChain a0 a1 a2 a3) := by
  unfold State.geyChain
  repeat' with_reducible first
    | assumption | (intro x; refine (fun hx : Kept Q x => ?_) ?_; clear_value x) | (intro x; clear_value x)
    | (intro x; refine (fun hx : Kept Q x => ?_) ?_; rotate_left; unfold x) | (intro x)
    | apply kept_chainFor c hE hp13 hp2 hp22 hp3 | apply foldl_kept | apply foldl_kept1 | apply kept_ite | split
    | unfold x | lift_lets -underBinder

theorem kept_gtPulse (c : Closed N I T M E K W Q) (a0 : State) (a1 : Nat) (a2 : Nat) (ha0 : Kept Q a0) : Kept Q (State.gtPulse a0 a1 a2) := by
  unfold State.gtPulse
  try lift_lets -underBinder
  repeat' with_reducible first
    | assumption | (intro x; refine (fun hx : Kept Q x => ?_) ?_; clear_value x) | (intro x; clear_value x)
    | (intro x; refine (fun hx : Kept Q x => ?_) ?_; rotate_left; unfold x) | (intro x)
    | exact kept_mk (kept_out (by with_reducible assumption)) | apply kept_emit c | apply kept_ite | split
    | unfold x | lift_lets -underBinder

theorem kept_showStream (c : Closed N I T M E K W Q) (hp13 : W 13) (a0 : State) (ha0 : Kept Q a0) : Kept Q (State.showStream a0) := by
  unfold State.showStream
  repeat' with_reducible first
    | assumption | exact ok_lit 13 (by decide) hp13 | apply kept_w c | apply kept_wb c

theorem kept_streamDrive (c : Closed N I T M E K W Q) (hp13 : W 13) (a0 : State) (ha0 : Kept Q a0) : Kept Q (State.streamDrive a0) := by
  unfold State.streamDrive
  try lift_lets -underBinder
  repeat' with_reducible first
    | assumption | (intro x; refine (fun hx : Kept Q x => ?_) ?_; clear_value x) | (intro x; clear_value x)
    | (intro x; refine (fun hx : Kept Q x => ?_) ?_; rotate_left; unfold x) | (intro x)
    | exact kept_mk (kept_out (by with_reducible assumption)) | apply kept_showStream c hp13 | apply kept_ite
    | split | unfold x | lift_lets -underBinder

theorem kept_setQueue (c : Closed N I T M E K W Q) (hp13 : W 13) (a0 : State) (a1 : List (Nat × List Sys2Proof.Byte)) (ha0 : Kept Q a0) : Kept Q (State.setQueue a0 a1) := by
  unfold State.setQueue
  try lift_lets -underBinder
  repeat' with_reducible first
    | assumption | (intro x; refine (fun hx : Kept Q x => ?_) ?_; clear_value x)
    | (intro x; refine (fun hx : Kept Q x.1 => ?_) ?_; clear_value x) | (intro x; clear_value x)
    | (intro x; refine (fun hx : Kept Q x => ?_) ?_; rotate_left; unfold x) | (intro x)
    | exact kept_mk (kept_out (by with_reducible assumption)) | apply kept_showStream c hp13 | unfold x
    | lift_lets -underBinder

theorem kept_streamPut (c : Closed N I T M E K W Q) (hE : E) (hp13 : W 13) (hp2 : W 2) (hp22 : W 22) (hp3 : W 3) (a0 : State) (a1 : Nat) (a2 : List Sys2Proof.Byte) (ha0 : Kept Q a0) : Kept Q (State.streamPut a0 a1 a2) := by
  unfold State.streamPut
  try lift_lets -underBinder
  repeat' with_reducible first
    | assumption | (intro x; refine (fun hx : Kept Q x => ?_) ?_; clear_value x) | (intro x; clear_value x)
    | (intro x; refine (fun hx : Kept Q x => ?_) ?_; rotate_left; unfold x) | (intro x)
    | exact ok_lit 13 (by decide) hp13 | apply kept_bump c | apply kept_geyStick c hE hp2 hp22 hp3
    | apply kept_setQueue c hp13 | apply kept_ite | split | unfold x | lift_lets -underBinder

theorem kept_streamSample (c : Closed N I T M E K W Q) (hE : E) (hp13 : W 13) (hp2 : W 2) (hp22 : W 22) (hp3 : W 3) (a0 : State) (a1 : Nat) (ha0 : Kept Q a0) : Kept Q (State.streamSample a0 a1) := by
  unfold State.streamSample
  try lift_lets -underBinder
  repeat' with_reducible first
    | assumption | (intro x; refine (fun hx : Kept Q x => ?_) ?_; clear_value x)
    | (intro x; refine (fun hx : Kept Q x.1 => ?_) ?_; clear_value x) | (intro x; clear_value x)
    | (intro x; refine (fun hx : Kept Q x => ?_) ?_; rotate_left; unfold x) | (intro x) | apply kept_each c
    | apply kept_streamPut c hE hp13 hp2 hp22 hp3 | apply kept_ite | split | unfold x | lift_lets -underBinder

theorem kept_doStreamStart (c : Closed N I T M E K W Q) (a0 : State) (ha0 : Kept Q a0) : Kept Q (doStreamStart a0) := by
  unfold doStreamStart
  try lift_lets -underBinder
  repeat' with_reducible first
    | assumption | (intro x; refine (fun hx : Kept Q x => ?_) ?_; clear_value x) | (intro x; clear_value x)
    | (intro x; refine (fun hx : Kept Q x => ?_) ?_; rotate_left; unfold x) | (intro x)
    | exact kept_mk (kept_out (by with_reducible assumption)) | apply kept_emit c | apply kept_ite | split
    | unfold x | lift_lets -underBinder

theorem kept_doStreamRecordSend (c : Closed N I T M E K W Q) (hp13 : W 13) (a0 : State) (ha0 : Kept Q a0) : Kept Q (doStreamRecordSend a0) := by
  unfold doStreamRecordSend
  try lift_lets -underBinder
  repeat' with_reducible first
    | assumption | (intro x; refine (fun hx : Kept Q x => ?_) ?_; clear_value x) | (intro x; clear_value x)
    | (intro x; refine (fun hx : Kept Q x => ?_) ?_; rotate_left; unfold x) | (intro x)
    | exact kept_mk (kept_out (by with_reducible assumption)) | apply kept_emit c | apply kept_showStream c hp13
    | apply kept_ite | split | unfold x | lift_lets -underBinder

theorem kept_updVnt (c : Closed N I T M E K W Q) (a0 : State) (a1 : Nat) (a2 : VntSt → VntSt) (ha0 : Kept Q a0) : Kept Q (State.updVnt a0 a1 a2) := by
  unfold State.updVnt
  try lift_lets -underBinder
  repeat' with_reducible first
    | assumption | (intro x; refine (fun hx : Kept Q x => ?_) ?_; clear_value x) | (intro x; clear_value x)
    | (intro x; refine (fun hx : Kept Q x => ?_) ?_; rotate_left; unfold x) | (intro x)
    | exact kept_mk (kept_out (by with_reducible assumption)) | unfold x | lift_lets -underBinder

theorem kept_setVst (c : Closed N I T M E K W Q) (hp14 : W 14) (a0 : State) (a1 : Nat) (a2 : Nat) (ha0 : Kept Q a0) : Kept Q (State.setVst a0 a1 a2) := by
  unfold State.setVst
  repeat' with_reducible first
    | assumption | exact ok_lit 14 (by decide) hp14 | apply kept_w c

theorem kept_setVreg (c : Closed N I T M E K W Q) (hp14 : W 14) (a0 : State) (a1 : Nat) (a2 : BitVec 3) (a3 : Sys2Proof.Word) (ha0 : Kept Q a0) : Kept Q (State.setVreg a0 a1 a2 a3) := by
  unfold State.setVreg
  repeat' with_reducible first
    | assumption | exact ok_VNT_W_W hp14 | exact ok_lit 14 (by decide) hp14 | apply kept_w c

theorem kept_setVflags (c : Closed N I T M E K W Q) (hp14 : W 14) (a0 : State) (a1 : Nat) (a2 : Flags) (ha0 : Kept Q a0) : Kept Q (State.setVflags a0 a1 a2) := by
  unfold State.setVflags
  repeat' with_reducible first
    | assumption | exact ok_lit 14 (by decide) hp14 | apply kept_w c

theorem kept_setT (c : Closed N I T M E K W Q) (hp14 : W 14) (a0 : State) (a1 : Nat) (a2 : Bool) (ha0 : Kept Q a0) : Kept Q (State.setT a0 a1 a2) := by
  unfold State.setT
  try lift_lets -underBinder
  repeat' with_reducible first
    | assumption | (intro x; refine (fun hx : Kept Q x => ?_) ?_; clear_value x) | (intro x; clear_value x)
    | (intro x; refine (fun hx : Kept Q x => ?_) ?_; rotate_left; unfold x) | (intro x)
    | exact kept_mk (kept_out (by with_reducible assumption)) | apply kept_setVflags c hp14 | unfold x
    | lift_lets -underBinder

theorem kept_ventStick (c : Closed N I T M E K W Q) (hE : E) (hp2 : W 2) (hp22 : W 22) (hp3 : W 3) (a0 : State) (a1 : Nat) (a2 : Fld) (ha0 : Kept Q a0) (ha2 : OkFld W a2) : Kept Q (State.ventStick a0 a1 a2) := by
  unfold State.ventStick
  repeat' with_reducible first
    | assumption | apply kept_stickEv c hE hp2 hp22 hp3

theorem kept_ventLoads (c : Closed N I T M E K W Q) (hp14 : W 14) (a0 : State) (a1 : Nat) (a2 : VStart) (a3 : Nat) (ha0 : Kept Q a0) : Kept Q (State.ventLoads a0 a1 a2 a3) := by
  unfold State.ventLoads
  try lift_lets -underBinder
  repeat' with_reducible first
    | assumption | (intro x; refine (fun hx : Kept Q x => ?_) ?_; clear_value x) | (intro x; clear_value x)
    | (intro x; refine (fun hx : Kept Q x => ?_) ?_; rotate_left; unfold x) | (intro x)
    | exact kept_mk (kept_out (by with_reducible assumption)) | exact ok_lit 14 (by decide) hp14
    | apply kept_setVreg c hp14 | apply kept_setVst c hp14 | apply kept_updVnt c | apply kept_w c | apply kept_ite
    | split | unfold x | lift_lets -underBinder

theorem kept_ventBegin (c : Closed N I T M E K W Q) (hp14 : W 14) (a0 : State) (a1 : Nat) (a2 : VStart) (a3 : Nat) (ha0 : Kept Q a0) : Kept Q (State.ventBegin a0 a1 a2 a3) := by
  unfold State.ventBegin
  try lift_lets -underBinder
  repeat' with_reducible first
    | assumption | (intro x; refine (fun hx : Kept Q x => ?_) ?_; clear_value x) | (intro x; clear_value x)
    | (intro x; refine (fun hx : Kept Q x => ?_) ?_; rotate_left; unfold x) | (intro x)
    | exact kept_mk (kept_out (by with_reducible assumption)) | exact ok_lit 14 (by decide) hp14
    | apply kept_bump c | apply kept_updVnt c | apply kept_ventLoads c hp14 | apply kept_ite | split | unfold x
    | lift_lets -underBinder

theorem kept_ventRefuse (c : Closed N I T M E K W Q) (hE : E) (hp13 : W 13) (hp14 : W 14) (hp2 : W 2) (hp22 : W 22) (hp3 : W 3) (a0 : State) (a1 : Nat) (a2 : VStart) (a3 : Nat) (ha0 : Kept Q a0) : Kept Q (State.ventRefuse a0 a1 a2 a3) := by
  unfold State.ventRefuse
  try lift_lets -underBinder
  repeat' with_reducible first
    | assumption | (intro x; refine (fun hx : Kept Q x => ?_) ?_; clear_value x) | (intro x; clear_value x)
    | (intro x; refine (fun hx : Kept Q x => ?_) ?_; rotate_left; unfold x) | (intro x)
    | exact ok_lit 13 (by decide) hp13 | exact ok_lit 14 (by decide) hp14 | apply kept_geyStick c hE hp2 hp22 hp3
    | apply kept_ventStick c hE hp2 hp22 hp3 | apply kept_w c | apply kept_ite | split | unfold x
    | lift_lets -underBinder

theorem kept_ventSkip (c : Closed N I T M E K W Q) (hE : E) (hp14 : W 14) (hp2 : W 2) (hp22 : W 22) (hp3 : W 3) (a0 : State) (a1 : Nat) (ha0 : Kept Q a0) : Kept Q (State.ventSkip a0 a1) := by
  unfold State.ventSkip
  repeat' with_reducible first
    | assumption | exact ok_lit 14 (by decide) hp14 | apply kept_bump c | apply kept_ventStick c hE hp2 hp22 hp3

theorem kept_ventHold (c : Closed N I T M E K W Q) (hE : E) (hp13 : W 13) (hp14 : W 14) (hp2 : W 2) (hp22 : W 22) (hp3 : W 3) (s : State) (e : Nat) (b : VStart) (h : Kept Q s) : Kept Q (s.ventHold e b) := by
  have put : ∀ s : State, Kept Q s → Kept Q (if b.src = 0 then
      ((s.updVnt e fun v => { v with pend := some b, pacc := some s.t }).w F.VNT_STAT_PEND e 1).w F.VNT_SRES_RES 0 1
      else (s.updVnt e fun v => { v with pend := some b, pacc := some s.t }).w F.VNT_STAT_PEND e 1) := fun s hs =>
    have h1 := kept_w c _ F.VNT_STAT_PEND e 1 (ok_lit 14 (by decide) hp14) (kept_updVnt c s e _ hs)
    kept_ite (kept_w c _ _ _ _ (ok_lit 14 (by decide) hp14) h1) h1
  unfold State.ventHold
  dsimp only
  split
  · exact put s h
  · exact kept_ite (kept_ventRefuse c hE hp13 hp14 hp2 hp22 hp3 _ _ _ _ (put s h)) (kept_ventRefuse c hE hp13 hp14 hp2 hp22 hp3 _ _ _ _ h)

theorem kept_ventStart (c : Closed N I T M E K W Q) (hE : E) (hp13 : W 13) (hp14 : W 14) (hp2 : W 2) (hp22 : W 22) (hp3 : W 3) (s : State) (e : Nat) (b : VStart) (h : Kept Q s) : Kept Q (s.ventStart e b) := by
  have accept : ∀ s : State, Kept Q s → Kept Q (if b.src = 0 then
      (s.updVnt e fun v => { v with acc := some s.t }).w F.VNT_SRES_RES 0 0
      else s.updVnt e fun v => { v with acc := some s.t }) := fun s hs =>
    kept_ite (kept_w c _ _ _ _ (ok_lit 14 (by decide) hp14) (kept_updVnt c s e _ hs)) (kept_updVnt c s e _ hs)
  unfold State.ventStart
  dsimp only
  repeat' with_reducible first
    | assumption | apply kept_ite | apply kept_ventSkip c hE hp14 hp2 hp22 hp3 | apply kept_ventHold c hE hp13 hp14 hp2 hp22 hp3 | apply kept_ventRefuse c hE hp13 hp14 hp2 hp22 hp3
    | apply kept_ventBegin c hp14 | apply kept_ventLoads c hp14 | exact kept_w c _ _ _ _ (ok_lit 14 (by decide) hp14) (kept_updVnt c _ _ _ (kept_ventBegin c hp14 _ _ _ _ h))
    | exact kept_updVnt c _ _ _ (kept_ventBegin c hp14 _ _ _ _ h)
    | exact kept_w c _ _ _ _ (ok_lit 14 (by decide) hp14) (kept_updVnt c _ _ _ (kept_ventLoads c hp14 _ _ _ _ h))
    | exact kept_updVnt c _ _ _ (kept_ventLoads c hp14 _ _ _ _ h)

theorem kept_ventSlot (c : Closed N I T M E K W Q) (hE : E) (hp13 : W 13) (hp14 : W 14) (hp2 : W 2) (hp22 : W 22) (hp3 : W 3) (a0 : State) (a1 : Nat) (a2 : Nat) (a3 : Nat) (a4 : Nat) (ha0 : Kept Q a0) : Kept Q (State.ventSlot a0 a1 a2 a3 a4) := by
  unfold State.ventSlot
  try lift_lets -underBinder
  repeat' with_reducible first
    | assumption | (intro x; refine (fun hx : Kept Q x => ?_) ?_; clear_value x) | (intro x; clear_value x)
    | (intro x; refine (fun hx : Kept Q x => ?_) ?_; rotate_left; unfold x) | (intro x)
    | exact kept_mk (kept_out (by with_reducible assumption)) | apply kept_ventStart c hE hp13 hp14 hp2 hp22 hp3
    | unfold x | lift_lets -underBinder

theorem kept_ventHost (c : Closed N I T M E K W Q) (hE : E) (hp13 : W 13) (hp14 : W 14) (hp2 : W 2) (hp22 : W 22) (hp3 : W 3) (a0 : State) (a1 : Nat) (ha0 : Kept Q a0) : Kept Q (State.ventHost a0 a1) := by
  unfold State.ventHost
  try lift_lets -underBinder
  repeat' with_reducible first
    | assumption | (intro x; refine (fun hx : Kept Q x => ?_) ?_; clear_value x) | (intro x; clear_value x)
    | (intro x; refine (fun hx : Kept Q x => ?_) ?_; rotate_left; unfold x) | (intro x)
    | apply kept_ventStart c hE hp13 hp14 hp2 hp22 hp3 | apply kept_ite | split | unfold x
    | lift_lets -underBinder

theorem kept_doVentPeriodStart (c : Closed N I T M E K W Q) (hE : E) (hp14 : W 14) (hp2 : W 2) (hp22 : W 22) (hp3 : W 3) (a0 : Nat) (a1 : State) (ha1 : Kept Q a1) : Kept Q (doVentPeriodStart a0 a1) := by
  unfold doVentPeriodStart
  dsimp only
  repeat' with_reducible first
    | assumption | intro x | exact kept_mk (kept_out (by with_reducible assumption)) | apply kept_updVnt c
    | apply kept_ventBegin c hp14 | apply kept_ventSkip c hE hp14 hp2 hp22 hp3 | apply kept_ite | split
    | refine kept_mk (kept_out ?_)

theorem kept_ventFault (c : Closed N I T M E K W Q) (hE : E) (hp14 : W 14) (hp2 : W 2) (hp22 : W 22) (hp3 : W 3) (a0 : State) (a1 : Nat) (a2 : Fld) (ha0 : Kept Q a0) (ha2 : OkFld W a2) : Kept Q (State.ventFault a0 a1 a2) := by
  unfold State.ventFault
  try lift_lets -underBinder
  repeat' with_reducible first
    | assumption | (intro x; refine (fun hx : Kept Q x => ?_) ?_; clear_value x) | (intro x; clear_value x)
    | (intro x; refine (fun hx : Kept Q x => ?_) ?_; rotate_left; unfold x) | (intro x)
    | exact kept_mk (kept_out (by with_reducible assumption)) | exact ok_lit 14 (by decide) hp14
    | apply kept_bump c | apply kept_setVst c hp14 | apply kept_updVnt c | apply kept_ventStick c hE hp2 hp22 hp3
    | apply kept_w c | apply kept_ite | split | unfold x | lift_lets -underBinder

theorem kept_ventNext (c : Closed N I T M E K W Q) (hE : E) (hp14 : W 14) (hp2 : W 2) (hp22 : W 22) (hp3 : W 3) (a0 : State) (a1 : Nat) (a2 : Nat) (ha0 : Kept Q a0) : Kept Q (State.ventNext a0 a1 a2) := by
  unfold State.ventNext
  try lift_lets -underBinder
  repeat' with_reducible first
    | assumption | (intro x; refine (fun hx : Kept Q x => ?_) ?_; clear_value x) | (intro x; clear_value x)
    | (intro x; refine (fun hx : Kept Q x => ?_) ?_; rotate_left; unfold x) | (intro x)
    | exact kept_mk (kept_out (by with_reducible assumption)) | exact ok_lit 14 (by decide) hp14
    | apply kept_updVnt c | apply kept_ventFault c hE hp14 hp2 hp22 hp3 | apply kept_w c | apply kept_ite | split
    | unfold x | lift_lets -underBinder

theorem kept_ventEcc (c : Closed N I T M E K W Q) (hE : E) (hp14 : W 14) (hp2 : W 2) (hp22 : W 22) (hp3 : W 3) (a0 : State) (a1 : Nat) (ha0 : Kept Q a0) : Kept Q (State.ventEcc a0 a1) := by
  unfold State.ventEcc
  repeat' with_reducible first
    | assumption | exact ok_lit 14 (by decide) hp14 | apply kept_eccSeen c hE hp2 hp22 hp3
    | apply kept_ventFault c hE hp14 hp2 hp22 hp3

theorem kept_issue (c : Closed N I T M E K W Q) (hE : E) (hp14 : W 14) (hp2 : W 2) (hp22 : W 22) (hp3 : W 3) (a0 : State) (a1 : Nat) (a2 : Nat) (a3 : Sys2Proof.VInstr → Bool) (a4 : Sys2Proof.VInstr → State → State) (ha0 : Kept Q a0) (ha4 : ∀ b s, Kept Q s → Kept Q (a4 b s)) : Kept Q (State.issue a0 a1 a2 a3 a4) := by
  unfold State.issue
  try lift_lets -underBinder
  repeat' with_reducible first
    | assumption | (intro x; refine (fun hx : Kept Q x => ?_) ?_; clear_value x) | (intro x; clear_value x)
    | (intro x; refine (fun hx : Kept Q x => ?_) ?_; rotate_left; unfold x) | (intro x)
    | exact kept_mk (kept_out (by with_reducible assumption)) | exact ok_lit 14 (by decide) hp14
    | apply kept_updVnt c | apply kept_ventEcc c hE hp14 hp2 hp22 hp3
    | apply kept_ventFault c hE hp14 hp2 hp22 hp3 | apply ha4 | apply kept_ite | split | unfold x
    | lift_lets -underBinder

theorem kept_ventMov (c : Closed N I T M E K W Q) (hE : E) (hp14 : W 14) (hp2 : W 2) (hp22 : W 22) (hp3 : W 3) (a0 : Nat) (a1 : Sys2Proof.VInstr) (a2 : State) (ha2 : Kept Q a2) : Kept Q (ventMov a0 a1 a2) := by
  unfold ventMov
  try lift_lets -underBinder
  repeat' with_reducible first
    | assumption | (intro x; refine (fun hx : Kept Q x => ?_) ?_; clear_value x) | (intro x; clear_value x)
    | (intro x; refine (fun hx : Kept Q x => ?_) ?_; rotate_left; unfold x) | (intro x)
    | apply kept_setVflags c hp14 | apply kept_setVreg c hp14 | apply kept_ventNext c hE hp14 hp2 hp22 hp3
    | apply kept_ite | split | unfold x | lift_lets -underBinder

theorem kept_ventMovh (c : Closed N I T M E K W Q) (hE : E) (hp14 : W 14) (hp2 : W 2) (hp22 : W 22) (hp3 : W 3) (a0 : Nat) (a1 : Sys2Proof.VInstr) (a2 : State) (ha2 : Kept Q a2) : Kept Q (ventMovh a0 a1 a2) := by
  unfold ventMovh
  try lift_lets -underBinder
  repeat' with_reducible first
    | assumption | (intro x; refine (fun hx : Kept Q x => ?_) ?_; clear_value x) | (intro x; clear_value x)
    | (intro x; refine (fun hx : Kept Q x => ?_) ?_; rotate_left; unfold x) | (intro x)
    | apply kept_setVflags c hp14 | apply kept_setVreg c hp14 | apply kept_ventNext c hE hp14 hp2 hp22 hp3
    | apply kept_ite | split | unfold x | lift_lets -underBinder

theorem kept_ventAlu (c : Closed N I T M E K W Q) (hE : E) (hp14 : W 14) (hp2 : W 2) (hp22 : W 22) (hp3 : W 3) (a0 : Nat) (a1 : Sys2Proof.VInstr) (a2 : State) (ha2 : Kept Q a2) : Kept Q (ventAlu a0 a1 a2) := by
  unfold ventAlu
  try lift_lets -underBinder
  repeat' with_reducible first
    | assumption | (intro x; refine (fun hx : Kept Q x => ?_) ?_; clear_value x) | (intro x; clear_value x)
    | (intro x; refine (fun hx : Kept Q x => ?_) ?_; rotate_left; unfold x) | (intro x)
    | apply kept_setVflags c hp14 | apply kept_setVreg c hp14 | apply kept_ventNext c hE hp14 hp2 hp22 hp3
    | apply kept_ite | split | unfold x | lift_lets -underBinder

theorem kept_ventCmp (c : Closed N I T M E K W Q) (hE : E) (hp14 : W 14) (hp2 : W 2) (hp22 : W 22) (hp3 : W 3) (a0 : Nat) (a1 : Sys2Proof.VInstr) (a2 : State) (ha2 : Kept Q a2) : Kept Q (ventCmp a0 a1 a2) := by
  unfold ventCmp
  repeat' with_reducible first
    | assumption | apply kept_setVflags c hp14 | apply kept_ventNext c hE hp14 hp2 hp22 hp3 | apply kept_ite
    | split

theorem kept_ventBr (c : Closed N I T M E K W Q) (hE : E) (hp14 : W 14) (hp2 : W 2) (hp22 : W 22) (hp3 : W 3) (a0 : Nat) (a1 : Sys2Proof.VInstr) (a2 : State) (ha2 : Kept Q a2) : Kept Q (ventBr a0 a1 a2) := by
  unfold ventBr
  try lift_lets -underBinder
  repeat' with_reducible first
    | assumption | (intro x; refine (fun hx : Kept Q x => ?_) ?_; clear_value x) | (intro x; clear_value x)
    | (intro x; refine (fun hx : Kept Q x => ?_) ?_; rotate_left; unfold x) | (intro x)
    | exact kept_mk (kept_out (by with_reducible assumption)) | exact ok_lit 14 (by decide) hp14
    | apply kept_updVnt c | apply kept_ventNext c hE hp14 hp2 hp22 hp3 | apply kept_w c | apply kept_ite | split
    | unfold x | lift_lets -underBinder

theorem kept_ventWaits (c : Closed N I T M E K W Q) (hp14 : W 14) (a0 : State) (a1 : Nat) (a2 : VWait) (a3 : Option Nat) (ha0 : Kept Q a0) : Kept Q (State.ventWaits a0 a1 a2 a3) := by
  unfold State.ventWaits
  try lift_lets -underBinder
  repeat' with_reducible first
    | assumption | (intro x; refine (fun hx : Kept Q x => ?_) ?_; clear_value x) | (intro x; clear_value x)
    | (intro x; refine (fun hx : Kept Q x => ?_) ?_; rotate_left; unfold x) | (intro x)
    | exact kept_mk (kept_out (by with_reducible assumption)) | apply kept_setVst c hp14 | apply kept_updVnt c
    | apply kept_ite | split | unfold x | lift_lets -underBinder

theorem kept_ventResume (c : Closed N I T M E K W Q) (hE : E) (hp14 : W 14) (hp2 : W 2) (hp22 : W 22) (hp3 : W 3) (a0 : State) (a1 : Nat) (a2 : Nat) (a3 : Bool) (ha0 : Kept Q a0) : Kept Q (State.ventResume a0 a1 a2 a3) := by
  unfold State.ventResume
  try lift_lets -underBinder
  repeat' with_reducible first
    | assumption | (intro x; refine (fun hx : Kept Q x => ?_) ?_; clear_value x) | (intro x; clear_value x)
    | (intro x; refine (fun hx : Kept Q x => ?_) ?_; rotate_left; unfold x) | (intro x)
    | exact kept_mk (kept_out (by with_reducible assumption)) | apply kept_setT c hp14 | apply kept_setVst c hp14
    | apply kept_updVnt c | apply kept_ventNext c hE hp14 hp2 hp22 hp3 | apply kept_ite | split | unfold x
    | lift_lets -underBinder

theorem kept_ventWait (c : Closed N I T M E K W Q) (hE : E) (hp14 : W 14) (hp2 : W 2) (hp22 : W 22) (hp3 : W 3) (e : Nat) (i : VInstr) (s : State) (h : Kept Q s) :
    Kept Q (ventWait e i s) := by
  cases i
  case wait m ra imm =>
    unfold ventWait
    dsimp only
    split
    · exact kept_ventWaits c hp14 _ _ _ _ h
    · split
      · exact kept_ventResume c hE hp14 hp2 hp22 hp3 _ _ _ _ h
      · exact kept_ventWaits c hp14 _ _ _ _ h
    · split
      · exact kept_ventFault c hE hp14 hp2 hp22 hp3 _ _ _ h (ok_lit 14 (by decide) hp14)
      · exact kept_ventWaits c hp14 _ _ _ _ h
    · exact kept_ventWaits c hp14 _ _ _ _ h
  all_goals exact h

theorem kept_doWaitEnd (c : Closed N I T M E K W Q) (hE : E) (hp14 : W 14) (hp2 : W 2) (hp22 : W 22) (hp3 : W 3) (a0 : Nat) (a1 : State) (ha1 : Kept Q a1) : Kept Q (doWaitEnd a0 a1) := by
  unfold doWaitEnd
  try lift_lets -underBinder
  repeat' with_reducible first
    | assumption | (intro x; refine (fun hx : Kept Q x => ?_) ?_; clear_value x) | (intro x; clear_value x)
    | (intro x; refine (fun hx : Kept Q x => ?_) ?_; rotate_left; unfold x) | (intro x)
    | exact kept_mk (kept_out (by with_reducible assumption)) | apply kept_ventResume c hE hp14 hp2 hp22 hp3
    | apply kept_ite | split | unfold x | lift_lets -underBinder

theorem kept_doWaitto (c : Closed N I T M E K W Q) (hE : E) (hp14 : W 14) (hp2 : W 2) (hp22 : W 22) (hp3 : W 3) (a0 : Nat) (a1 : State) (ha1 : Kept Q a1) : Kept Q (doWaitto a0 a1) := by
  unfold doWaitto
  try lift_lets -underBinder
  repeat' with_reducible first
    | assumption | (intro x; refine (fun hx : Kept Q x => ?_) ?_; clear_value x) | (intro x; clear_value x)
    | (intro x; refine (fun hx : Kept Q x => ?_) ?_; rotate_left; unfold x) | (intro x)
    | exact kept_mk (kept_out (by with_reducible assumption)) | exact ok_lit 14 (by decide) hp14
    | apply kept_ventResume c hE hp14 hp2 hp22 hp3 | apply kept_ventStick c hE hp2 hp22 hp3 | apply kept_ite
    | split | unfold x | lift_lets -underBinder

theorem kept_ventSample (c : Closed N I T M E K W Q) (a0 : State) (ha0 : Kept Q a0) : Kept Q (State.ventSample a0) := by
  unfold State.ventSample
  try lift_lets -underBinder
  repeat' with_reducible first
    | assumption | (intro x; refine (fun hx : Kept Q x => ?_) ?_; clear_value x)
    | (intro x; refine (fun hx : Kept Q x.1 => ?_) ?_; clear_value x) | (intro x; clear_value x)
    | (intro x; refine (fun hx : Kept Q x => ?_) ?_; rotate_left; unfold x) | (intro x)
    | exact kept_mk (kept_out (by with_reducible assumption)) | apply kept_each c | apply kept_updVnt c
    | apply kept_ite | split | unfold x | lift_lets -underBinder

theorem kept_ventZero (c : Closed N I T M E K W Q) (a0 : State) (a1 : Nat) (a2 : Nat) (ha0 : Kept Q a0) : Kept Q (State.ventZero a0 a1 a2) := by
  unfold State.ventZero
  try lift_lets -underBinder
  repeat' with_reducible first
    | assumption | (intro x; refine (fun hx : Kept Q x => ?_) ?_; clear_value x) | (intro x; clear_value x)
    | (intro x; refine (fun hx : Kept Q x => ?_) ?_; rotate_left; unfold x) | (intro x)
    | exact kept_mk (kept_out (by with_reducible assumption)) | apply kept_ite | split | unfold x
    | lift_lets -underBinder

theorem kept_ventPost (c : Closed N I T M E K W Q) (hE : E) (hp14 : W 14) (hp2 : W 2) (hp22 : W 22) (hp3 : W 3) (a0 : Nat) (a1 : Sys2Proof.VInstr) (a2 : State) (ha2 : Kept Q a2) : Kept Q (ventPost a0 a1 a2) := by
  unfold ventPost
  try lift_lets -underBinder
  repeat' with_reducible first
    | assumption | (intro x; refine (fun hx : Kept Q x => ?_) ?_; clear_value x) | (intro x; clear_value x)
    | (intro x; refine (fun hx : Kept Q x => ?_) ?_; rotate_left; unfold x) | (intro x)
    | exact ok_lit 14 (by decide) hp14 | apply kept_endWaits c | apply kept_raiseReg c hE hp2 hp22 hp3
    | apply kept_ventNext c hE hp14 hp2 hp22 hp3 | apply kept_w c | apply kept_ite | split | unfold x
    | lift_lets -underBinder

theorem kept_ventHalt (c : Closed N I T M E K W Q) (hp14 : W 14) (a0 : Nat) (a1 : Sys2Proof.VInstr) (a2 : State) (ha2 : Kept Q a2) : Kept Q (ventHalt a0 a1 a2) := by
  unfold ventHalt
  try lift_lets -underBinder
  repeat' with_reducible first
    | assumption | (intro x; refine (fun hx : Kept Q x => ?_) ?_; clear_value x) | (intro x; clear_value x)
    | (intro x; refine (fun hx : Kept Q x => ?_) ?_; rotate_left; unfold x) | (intro x)
    | exact kept_mk (kept_out (by with_reducible assumption)) | exact ok_lit 14 (by decide) hp14
    | apply kept_setVst c hp14 | apply kept_updVnt c | apply kept_ventBegin c hp14 | apply kept_w c
    | apply kept_ite | split | unfold x | lift_lets -underBinder

theorem kept_ventAbandon (c : Closed N I T M E K W Q) (hp14 : W 14) (a0 : State) (a1 : Nat) (a2 : Nat) (ha0 : Kept Q a0) : Kept Q (State.ventAbandon a0 a1 a2) := by
  unfold State.ventAbandon
  try lift_lets -underBinder
  repeat' with_reducible first
    | assumption | (intro x; refine (fun hx : Kept Q x => ?_) ?_; clear_value x) | (intro x; clear_value x)
    | (intro x; refine (fun hx : Kept Q x => ?_) ?_; rotate_left; unfold x) | (intro x)
    | exact kept_mk (kept_out (by with_reducible assumption)) | exact ok_lit 14 (by decide) hp14
    | apply kept_setVst c hp14 | apply kept_updVnt c | apply kept_w c | apply kept_ite | split | unfold x
    | lift_lets -underBinder

theorem kept_ventClearW (c : Closed N I T M E K W Q) (hp14 : W 14) (a0 : State) (a1 : Nat) (ha0 : Kept Q a0) : Kept Q (State.ventClearW a0 a1) := by
  unfold State.ventClearW
  repeat' with_reducible first
    | assumption | (intro x; refine (fun hx : Kept Q x => ?_) ?_; clear_value x) | (intro x; clear_value x)
    | (intro x; refine (fun hx : Kept Q x => ?_) ?_; rotate_left; unfold x) | (intro x) | exact ok_VNT_W_W hp14
    | exact ok_lit 14 (by decide) hp14 | apply kept_w c | apply foldl_kept | apply foldl_kept1 | apply kept_ite
    | split | unfold x | lift_lets -underBinder

theorem kept_ventClrf (c : Closed N I T M E K W Q) (hp14 : W 14) (a0 : State) (a1 : Nat) (ha0 : Kept Q a0) : Kept Q (State.ventClrf a0 a1) := by
  unfold State.ventClrf
  repeat' with_reducible first
    | assumption | apply kept_setVst c hp14 | apply kept_ite | split

theorem kept_ventStop (c : Closed N I T M E K W Q) (hp14 : W 14) (a0 : State) (a1 : Nat) (ha0 : Kept Q a0) : Kept Q (State.ventStop a0 a1) := by
  unfold State.ventStop
  repeat' with_reducible first
    | assumption | apply kept_ventAbandon c hp14 | apply kept_ite | split

theorem kept_ventClrw (c : Closed N I T M E K W Q) (hp14 : W 14) (a0 : State) (a1 : Nat) (ha0 : Kept Q a0) : Kept Q (State.ventClrw a0 a1) := by
  unfold State.ventClrw
  repeat' with_reducible first
    | assumption | apply kept_ventClearW c hp14 | apply kept_ite | split

theorem kept_ventCommand (c : Closed N I T M E K W Q) (hp14 : W 14) (a0 : State) (a1 : Nat) (a2 : Nat) (ha0 : Kept Q a0) : Kept Q (State.ventCommand a0 a1 a2) := by
  unfold State.ventCommand
  try lift_lets -underBinder
  repeat' with_reducible first
    | assumption | (intro x; refine (fun hx : Kept Q x => ?_) ?_; clear_value x) | (intro x; clear_value x)
    | (intro x; refine (fun hx : Kept Q x => ?_) ?_; rotate_left; unfold x) | (intro x)
    | apply kept_ventClrf c hp14 | apply kept_ventClrw c hp14 | apply kept_ventStop c hp14 | apply kept_ite
    | split | unfold x | lift_lets -underBinder

theorem kept_ventEnable (c : Closed N I T M E K W Q) (hp14 : W 14) (a0 : State) (a1 : Nat) (ha0 : Kept Q a0) : Kept Q (State.ventEnable a0 a1) := by
  unfold State.ventEnable
  try lift_lets -underBinder
  repeat' with_reducible first
    | assumption | (intro x; refine (fun hx : Kept Q x => ?_) ?_; clear_value x) | (intro x; clear_value x)
    | (intro x; refine (fun hx : Kept Q x => ?_) ?_; rotate_left; unfold x) | (intro x) | apply kept_setVst c hp14
    | apply kept_ventAbandon c hp14 | apply kept_ventClearW c hp14 | apply kept_ite | split | unfold x
    | lift_lets -underBinder

theorem kept_ventWrite (c : Closed N I T M E K W Q) (hM : M) (a0 : State) (a1 : Nat) (a2 : Nat) (ha0 : Kept Q a0) : Kept Q (State.ventWrite a0 a1 a2).1 := by
  unfold State.ventWrite
  try lift_lets -underBinder
  repeat' with_reducible first
    | assumption | (intro x; refine (fun hx : Kept Q x => ?_) ?_; clear_value x)
    | (intro x; refine (fun hx : Kept Q x.1 => ?_) ?_; clear_value x) | (intro x; clear_value x)
    | (intro x; refine (fun hx : Kept Q x => ?_) ?_; rotate_left; unfold x) | (intro x)
    | apply kept_setSram32 c hM | apply kept_ite | split | unfold x | lift_lets -underBinder

theorem kept_ventLdata (c : Closed N I T M E K W Q) (hM : M) (hp14 : W 14) (a0 : State) (a1 : Nat) (ha0 : Kept Q a0) : Kept Q (State.ventLdata a0 a1) := by
  unfold State.ventLdata
  try lift_lets -underBinder
  repeat' with_reducible first
    | assumption | (intro x; refine (fun hx : Kept Q x => ?_) ?_; clear_value x)
    | (intro x; refine (fun hx : Kept Q x.1 => ?_) ?_; clear_value x) | (intro x; clear_value x)
    | (intro x; refine (fun hx : Kept Q x => ?_) ?_; rotate_left; unfold x) | (intro x)
    | exact ok_lit 14 (by decide) hp14 | apply kept_ventWrite c hM | refine fst_kept ‹_› ?_ | apply kept_w c
    | unfold x | lift_lets -underBinder

theorem kept_updTmp (c : Closed N I T M E K W Q) (a0 : State) (a1 : Nat) (a2 : TmpSt → TmpSt) (ha0 : Kept Q a0) : Kept Q (State.updTmp a0 a1 a2) := by
  unfold State.updTmp
  try lift_lets -underBinder
  repeat' with_reducible first
    | assumption | (intro x; refine (fun hx : Kept Q x => ?_) ?_; clear_value x) | (intro x; clear_value x)
    | (intro x; refine (fun hx : Kept Q x => ?_) ?_; rotate_left; unfold x) | (intro x)
    | exact kept_mk (kept_out (by with_reducible assumption)) | unfold x | lift_lets -underBinder

theorem kept_updTsl (c : Closed N I T M E K W Q) (a0 : State) (a1 : Nat) (a2 : TslSt → TslSt) (ha0 : Kept Q a0) : Kept Q (State.updTsl a0 a1 a2) := by
  unfold State.updTsl
  try lift_lets -underBinder
  repeat' with_reducible first
    | assumption | (intro x; refine (fun hx : Kept Q x => ?_) ?_; clear_value x) | (intro x; clear_value x)
    | (intro x; refine (fun hx : Kept Q x => ?_) ?_; rotate_left; unfold x) | (intro x)
    | exact kept_mk (kept_out (by with_reducible assumption)) | unfold x | lift_lets -underBinder

theorem kept_tmpSample (c : Closed N I T M E K W Q) (a0 : State) (a1 : Sys2Proof.SampleIn) (ha0 : Kept Q a0) : Kept Q (State.tmpSample a0 a1) := by
  unfold State.tmpSample
  try lift_lets -underBinder
  repeat' with_reducible first
    | assumption | (intro x; refine (fun hx : Kept Q x => ?_) ?_; clear_value x) | (intro x; clear_value x)
    | (intro x; refine (fun hx : Kept Q x => ?_) ?_; rotate_left; unfold x) | (intro x)
    | exact kept_mk (kept_out (by with_reducible assumption)) | apply kept_each c | apply kept_ite | split
    | unfold x | lift_lets -underBinder

theorem kept_sincMark (c : Closed N I T M E K W Q) (a0 : State) (a1 : Nat) (ha0 : Kept Q a0) : Kept Q (State.sincMark a0 a1) := by
  unfold State.sincMark
  try lift_lets -underBinder
  repeat' with_reducible first
    | assumption | (intro x; refine (fun hx : Kept Q x => ?_) ?_; clear_value x) | (intro x; clear_value x)
    | (intro x; refine (fun hx : Kept Q x => ?_) ?_; rotate_left; unfold x) | (intro x)
    | exact kept_mk (kept_out (by with_reducible assumption)) | unfold x | lift_lets -underBinder

theorem kept_tmpStick (c : Closed N I T M E K W Q) (hE : E) (hp15 : W 15) (hp2 : W 2) (hp22 : W 22) (hp3 : W 3) (a0 : State) (a1 : Nat) (a2 : Nat) (ha0 : Kept Q a0) : Kept Q (State.tmpStick a0 a1 a2) := by
  unfold State.tmpStick
  try lift_lets -underBinder
  repeat' with_reducible first
    | assumption | (intro x; refine (fun hx : Kept Q x => ?_) ?_; clear_value x) | (intro x; clear_value x)
    | (intro x; refine (fun hx : Kept Q x => ?_) ?_; rotate_left; unfold x) | (intro x)
    | exact ok_lit 15 (by decide) hp15 | apply kept_stickBits c hE hp2 hp22 hp3 | apply kept_ite | split
    | unfold x | lift_lets -underBinder

theorem kept_tmpLive (c : Closed N I T M E K W Q) (hE : E) (hp15 : W 15) (hp2 : W 2) (hp22 : W 22) (hp3 : W 3) (a0 : State) (a1 : Nat) (a2 : Nat) (a3 : Bool) (ha0 : Kept Q a0) : Kept Q (State.tmpLive a0 a1 a2 a3) := by
  unfold State.tmpLive
  try lift_lets -underBinder
  repeat' with_reducible first
    | assumption | (intro x; refine (fun hx : Kept Q x => ?_) ?_; clear_value x) | (intro x; clear_value x)
    | (intro x; refine (fun hx : Kept Q x => ?_) ?_; rotate_left; unfold x) | (intro x)
    | exact ok_lit 15 (by decide) hp15 | apply kept_tmpStick c hE hp15 hp2 hp22 hp3 | apply kept_w c
    | apply kept_ite | split | unfold x | lift_lets -underBinder

theorem kept_showPair (c : Closed N I T M E K W Q) (a0 : State) (a1 : Nat) (ha0 : Kept Q a0) : Kept Q (State.showPair a0 a1) := by
  unfold State.showPair
  try lift_lets -underBinder
  repeat' with_reducible first
    | assumption | (intro x; refine (fun hx : Kept Q x => ?_) ?_; clear_value x) | (intro x; clear_value x)
    | (intro x; refine (fun hx : Kept Q x => ?_) ?_; rotate_left; unfold x) | (intro x)
    | exact kept_mk (kept_out (by with_reducible assumption)) | apply kept_ite | split | unfold x
    | lift_lets -underBinder

theorem kept_showTmp (c : Closed N I T M E K W Q) (hp15 : W 15) (a0 : State) (a1 : Nat) (ha0 : Kept Q a0) : Kept Q (State.showTmp a0 a1) := by
  unfold State.showTmp
  try lift_lets -underBinder
  repeat' with_reducible first
    | assumption | (intro x; refine (fun hx : Kept Q x => ?_) ?_; clear_value x) | (intro x; clear_value x)
    | (intro x; refine (fun hx : Kept Q x => ?_) ?_; rotate_left; unfold x) | (intro x)
    | exact ok_lit 15 (by decide) hp15 | apply kept_showPair c | apply kept_w c | apply kept_wb c | unfold x
    | lift_lets -underBinder

theorem kept_tmpPost (c : Closed N I T M E K W Q) (hE : E) (hp15 : W 15) (hp2 : W 2) (hp22 : W 22) (hp3 : W 3) (a0 : State) (a1 : Nat) (a2 : Option TmpSet) (ha0 : Kept Q a0) : Kept Q (State.tmpPost a0 a1 a2) := by
  unfold State.tmpPost
  try lift_lets -underBinder
  repeat' with_reducible first
    | assumption | (intro x; refine (fun hx : Kept Q x => ?_) ?_; clear_value x) | (intro x; clear_value x)
    | (intro x; refine (fun hx : Kept Q x => ?_) ?_; rotate_left; unfold x) | (intro x)
    | exact kept_mk (kept_out (by with_reducible assumption)) | exact ok_lit 15 (by decide) hp15
    | apply kept_stickEv c hE hp2 hp22 hp3 | apply kept_updTmp c | apply kept_ite | split | unfold x
    | lift_lets -underBinder

theorem kept_tmpSlotOver (c : Closed N I T M E K W Q) (a0 : State) (a1 : Nat) (a2 : Nat) (ha0 : Kept Q a0) : Kept Q (State.tmpSlotOver a0 a1 a2) := by
  unfold State.tmpSlotOver
  try lift_lets -underBinder
  repeat' with_reducible first
    | assumption | (intro x; refine (fun hx : Kept Q x => ?_) ?_; clear_value x) | (intro x; clear_value x)
    | (intro x; refine (fun hx : Kept Q x => ?_) ?_; rotate_left; unfold x) | (intro x)
    | exact kept_mk (kept_out (by with_reducible assumption)) | apply kept_emit c | apply kept_updTsl c
    | apply kept_ite | split | unfold x | lift_lets -underBinder

theorem kept_tmpChange (c : Closed N I T M E K W Q) (hp15 : W 15) (a0 : State) (a1 : Nat) (a2 : TmpSet) (a3 : Nat) (ha0 : Kept Q a0) : Kept Q (State.tmpChange a0 a1 a2 a3) := by
  unfold State.tmpChange
  try lift_lets -underBinder
  repeat' with_reducible first
    | assumption | (intro x; refine (fun hx : Kept Q x => ?_) ?_; clear_value x) | (intro x; clear_value x)
    | (intro x; refine (fun hx : Kept Q x => ?_) ?_; rotate_left; unfold x) | (intro x)
    | exact kept_mk (kept_out (by with_reducible assumption)) | apply kept_showTmp c hp15
    | apply kept_tmpSlotOver c | apply kept_updTmp c | apply kept_ite | split | unfold x | lift_lets -underBinder

theorem kept_tmpIdle (c : Closed N I T M E K W Q) (hp15 : W 15) (a0 : State) (a1 : Nat) (ha0 : Kept Q a0) : Kept Q (State.tmpIdle a0 a1) := by
  unfold State.tmpIdle
  try lift_lets -underBinder
  repeat' with_reducible first
    | assumption | (intro x; refine (fun hx : Kept Q x => ?_) ?_; clear_value x) | (intro x; clear_value x)
    | (intro x; refine (fun hx : Kept Q x => ?_) ?_; rotate_left; unfold x) | (intro x)
    | exact kept_mk (kept_out (by with_reducible assumption)) | apply kept_tmpChange c hp15 | apply kept_updTmp c
    | apply kept_ite | split | unfold x | lift_lets -underBinder

theorem kept_tmpApply (c : Closed N I T M E K W Q) (hE : E) (hp15 : W 15) (hp2 : W 2) (hp22 : W 22) (hp3 : W 3) (a0 : State) (a1 : Nat) (a2 : TmpSet) (ha0 : Kept Q a0) : Kept Q (State.tmpApply a0 a1 a2) := by
  unfold State.tmpApply
  try lift_lets -underBinder
  repeat' with_reducible first
    | assumption | (intro x; refine (fun hx : Kept Q x => ?_) ?_; clear_value x) | (intro x; clear_value x)
    | (intro x; refine (fun hx : Kept Q x => ?_) ?_; rotate_left; unfold x) | (intro x)
    | exact kept_mk (kept_out (by with_reducible assumption)) | apply kept_showTmp c hp15
    | apply kept_tmpIdle c hp15 | apply kept_tmpPost c hE hp15 hp2 hp22 hp3 | apply kept_updTmp c | apply kept_ite
    | split | unfold x | lift_lets -underBinder

theorem kept_tmpFrame (c : Closed N I T M E K W Q) (hE : E) (hp15 : W 15) (hp2 : W 2) (hp22 : W 22) (hp3 : W 3) (a0 : State) (a1 : Nat) (a2 : Nat) (ha0 : Kept Q a0) : Kept Q (State.tmpFrame a0 a1 a2) := by
  unfold State.tmpFrame
  try lift_lets -underBinder
  repeat' with_reducible first
    | assumption | (intro x; refine (fun hx : Kept Q x => ?_) ?_; clear_value x) | (intro x; clear_value x)
    | (intro x; refine (fun hx : Kept Q x => ?_) ?_; rotate_left; unfold x) | (intro x)
    | exact kept_mk (kept_out (by with_reducible assumption)) | exact ok_lit 15 (by decide) hp15
    | apply kept_bump c | apply kept_each c | apply kept_tmpLive c hE hp15 hp2 hp22 hp3 | apply kept_updTmp c
    | apply kept_updTsl c | apply kept_ite | split | unfold x | lift_lets -underBinder

theorem kept_doTmpFrameStart (c : Closed N I T M E K W Q) (hE : E) (hp15 : W 15) (hp2 : W 2) (hp22 : W 22) (hp3 : W 3) (a0 : Nat) (a1 : State) (ha1 : Kept Q a1) : Kept Q (doTmpFrameStart a0 a1) := by
  unfold doTmpFrameStart
  try lift_lets -underBinder
  repeat' with_reducible first
    | assumption | (intro x; refine (fun hx : Kept Q x => ?_) ?_; clear_value x) | (intro x; clear_value x)
    | (intro x; refine (fun hx : Kept Q x => ?_) ?_; rotate_left; unfold x) | (intro x)
    | exact kept_mk (kept_out (by with_reducible assumption)) | apply kept_tmpFrame c hE hp15 hp2 hp22 hp3
    | apply kept_updTsl c | apply kept_ite | split | unfold x | lift_lets -underBinder

theorem kept_tmpDrive (c : Closed N I T M E K W Q) (hp15 : W 15) (a0 : State) (a1 : Nat) (a2 : Nat) (ha0 : Kept Q a0) : Kept Q (State.tmpDrive a0 a1 a2) := by
  unfold State.tmpDrive
  try lift_lets -underBinder
  repeat' with_reducible first
    | assumption | (intro x; refine (fun hx : Kept Q x => ?_) ?_; clear_value x) | (intro x; clear_value x)
    | (intro x; refine (fun hx : Kept Q x => ?_) ?_; rotate_left; unfold x) | (intro x)
    | exact kept_mk (kept_out (by with_reducible assumption)) | apply kept_emit c | apply kept_showTmp c hp15
    | apply kept_updTmp c | apply kept_ite | split | unfold x | lift_lets -underBinder

theorem kept_doTmpPredrive (c : Closed N I T M E K W Q) (hp15 : W 15) (a0 : Nat) (a1 : State) (ha1 : Kept Q a1) : Kept Q (doTmpPredrive a0 a1) := by
  unfold doTmpPredrive
  try lift_lets -underBinder
  repeat' with_reducible first
    | assumption | (intro x; refine (fun hx : Kept Q x => ?_) ?_; clear_value x) | (intro x; clear_value x)
    | (intro x; refine (fun hx : Kept Q x => ?_) ?_; rotate_left; unfold x) | (intro x)
    | exact kept_mk (kept_out (by with_reducible assumption)) | apply kept_tmpDrive c hp15 | apply kept_ite
    | split | unfold x | lift_lets -underBinder

theorem kept_doTmpSlotStart (c : Closed N I T M E K W Q) (hE : E) (hp15 : W 15) (hp2 : W 2) (hp22 : W 22) (hp3 : W 3) (a0 : Nat) (a1 : State) (ha1 : Kept Q a1) : Kept Q (doTmpSlotStart a0 a1) := by
  unfold doTmpSlotStart
  try lift_lets -underBinder
  repeat' with_reducible first
    | assumption | (intro x; refine (fun hx : Kept Q x => ?_) ?_; clear_value x) | (intro x; clear_value x)
    | (intro x; refine (fun hx : Kept Q x => ?_) ?_; rotate_left; unfold x) | (intro x)
    | exact kept_mk (kept_out (by with_reducible assumption)) | apply kept_showTmp c hp15 | apply kept_sincMark c
    | apply kept_tmpDrive c hp15 | apply kept_tmpIdle c hp15 | apply kept_tmpPost c hE hp15 hp2 hp22 hp3
    | apply kept_updTmp c | apply kept_updTsl c | apply kept_ite | split | unfold x | lift_lets -underBinder

theorem kept_tmpConvert (c : Closed N I T M E K W Q) (a0 : State) (a1 : Nat) (a2 : Int) (ha0 : Kept Q a0) : Kept Q (State.tmpConvert a0 a1 a2).2.2 := by
  unfold State.tmpConvert
  try lift_lets -underBinder
  repeat' with_reducible first
    | assumption | (intro x; refine (fun hx : Kept Q x => ?_) ?_; clear_value x)
    | (intro x; refine (fun hx : Kept Q x.1 => ?_) ?_; clear_value x) | (intro x; clear_value x)
    | (intro x; refine (fun hx : Kept Q x => ?_) ?_; rotate_left; unfold x) | (intro x) | apply kept_draw c
    | refine snd_kept ‹_› ?_ | apply kept_ite | split | unfold x | lift_lets -underBinder

theorem kept_tmpResult (c : Closed N I T M E K W Q) (hE : E) (hp15 : W 15) (hp2 : W 2) (hp22 : W 22) (hp3 : W 3) (a0 : State) (a1 : Nat) (ha0 : Kept Q a0) : Kept Q (State.tmpResult a0 a1) := by
  unfold State.tmpResult
  try lift_lets -underBinder
  repeat' with_reducible first
    | assumption | (intro x; refine (fun hx : Kept Q x => ?_) ?_; clear_value x)
    | (intro x; refine (fun hx : Kept Q x.1 => ?_) ?_; clear_value x) | (intro x; clear_value x)
    | (intro x; refine (fun hx : Kept Q x => ?_) ?_; rotate_left; unfold x) | (intro x)
    | exact ok_lit 15 (by decide) hp15 | apply kept_measured c | apply kept_tmpConvert c | refine trd_kept ‹_› ?_
    | apply kept_tmpLive c hE hp15 hp2 hp22 hp3 | apply kept_w c | apply kept_ite | split | unfold x
    | lift_lets -underBinder

theorem kept_tmpEnd (c : Closed N I T M E K W Q) (hE : E) (hp15 : W 15) (hp2 : W 2) (hp22 : W 22) (hp3 : W 3) (a0 : State) (a1 : Nat) (a2 : Nat) (ha0 : Kept Q a0) : Kept Q (State.tmpEnd a0 a1 a2) := by
  unfold State.tmpEnd
  try lift_lets -underBinder
  repeat' with_reducible first
    | assumption | (intro x; refine (fun hx : Kept Q x => ?_) ?_; clear_value x) | (intro x; clear_value x)
    | (intro x; refine (fun hx : Kept Q x => ?_) ?_; rotate_left; unfold x) | (intro x)
    | apply kept_tmpFrame c hE hp15 hp2 hp22 hp3 | apply kept_tmpSlotOver c | apply kept_updTmp c | apply kept_ite
    | split | unfold x | lift_lets -underBinder

theorem kept_tmpCheck (c : Closed N I T M E K W Q) (hE : E) (hp15 : W 15) (hp2 : W 2) (hp22 : W 22) (hp3 : W 3) (a0 : State) (a1 : Nat → Bool) (ha0 : Kept Q a0) : Kept Q (State.tmpCheck a0 a1) := by
  unfold State.tmpCheck
  try lift_lets -underBinder
  repeat' with_reducible first
    | assumption | (intro x; refine (fun hx : Kept Q x => ?_) ?_; clear_value x) | (intro x; clear_value x)
    | (intro x; refine (fun hx : Kept Q x => ?_) ?_; rotate_left; unfold x) | (intro x)
    | exact ok_lit 15 (by decide) hp15 | apply kept_each c | apply kept_showTmp c hp15
    | apply kept_stickEv c hE hp2 hp22 hp3 | apply kept_tmpEnd c hE hp15 hp2 hp22 hp3 | apply kept_wb c
    | apply kept_ite | split | unfold x | lift_lets -underBinder

theorem kept_tmpPop (c : Closed N I T M E K W Q) (hE : E) (hp15 : W 15) (hp2 : W 2) (hp22 : W 22) (hp3 : W 3) (a0 : State) (a1 : Nat) (a2 : Nat) (ha0 : Kept Q a0) : Kept Q (State.tmpPop a0 a1 a2) := by
  unfold State.tmpPop
  try lift_lets -underBinder
  repeat' with_reducible first
    | assumption | (intro x; refine (fun hx : Kept Q x => ?_) ?_; clear_value x) | (intro x; clear_value x)
    | (intro x; refine (fun hx : Kept Q x => ?_) ?_; rotate_left; unfold x) | (intro x)
    | exact kept_mk (kept_out (by with_reducible assumption)) | apply kept_tmpChange c hp15
    | apply kept_tmpEnd c hE hp15 hp2 hp22 hp3 | apply kept_tmpIdle c hp15
    | apply kept_tmpPost c hE hp15 hp2 hp22 hp3 | apply kept_tmpResult c hE hp15 hp2 hp22 hp3
    | apply kept_updTmp c | apply kept_updTsl c | apply kept_ite | split | unfold x | lift_lets -underBinder

theorem kept_tmpExtend (c : Closed N I T M E K W Q) (hE : E) (hp15 : W 15) (hp2 : W 2) (hp22 : W 22) (hp3 : W 3) (a0 : State) (a1 : Nat) (ha0 : Kept Q a0) : Kept Q (State.tmpExtend a0 a1) := by
  unfold State.tmpExtend
  try lift_lets -underBinder
  repeat' with_reducible first
    | assumption | (intro x; refine (fun hx : Kept Q x => ?_) ?_; clear_value x) | (intro x; clear_value x)
    | (intro x; refine (fun hx : Kept Q x => ?_) ?_; rotate_left; unfold x) | (intro x)
    | exact kept_mk (kept_out (by with_reducible assumption)) | apply kept_tmpLive c hE hp15 hp2 hp22 hp3
    | apply kept_tmpStick c hE hp15 hp2 hp22 hp3 | apply kept_updTmp c | apply kept_ite | split | unfold x
    | lift_lets -underBinder

theorem kept_doTmpFilterOutput (c : Closed N I T M E K W Q) (hE : E) (hp15 : W 15) (hp2 : W 2) (hp22 : W 22) (hp3 : W 3) (a0 : Nat) (a1 : Sys2Proof.TmpIn) (a2 : State) (ha2 : Kept Q a2) : Kept Q (doTmpFilterOutput a0 a1 a2) := by
  unfold doTmpFilterOutput
  try lift_lets -underBinder
  repeat' with_reducible first
    | assumption | (intro x; refine (fun hx : Kept Q x => ?_) ?_; clear_value x) | (intro x; clear_value x)
    | (intro x; refine (fun hx : Kept Q x => ?_) ?_; rotate_left; unfold x) | (intro x)
    | exact kept_mk (kept_out (by with_reducible assumption)) | apply kept_showTmp c hp15 | apply kept_sincMark c
    | apply kept_tmpExtend c hE hp15 hp2 hp22 hp3 | apply kept_tmpPop c hE hp15 hp2 hp22 hp3 | apply kept_updTmp c
    | apply kept_ite | split | unfold x | lift_lets -underBinder

theorem kept_doPhaseExtend (c : Closed N I T M E K W Q) (hE : E) (hp15 : W 15) (hp2 : W 2) (hp22 : W 22) (hp3 : W 3) (a0 : Nat) (a1 : State) (ha1 : Kept Q a1) : Kept Q (doPhaseExtend a0 a1) := by
  unfold doPhaseExtend
  try lift_lets -underBinder
  repeat' with_reducible first
    | assumption | (intro x; refine (fun hx : Kept Q x => ?_) ?_; clear_value x) | (intro x; clear_value x)
    | (intro x; refine (fun hx : Kept Q x => ?_) ?_; rotate_left; unfold x) | (intro x)
    | exact kept_mk (kept_out (by with_reducible assumption)) | apply kept_tmpExtend c hE hp15 hp2 hp22 hp3
    | apply kept_ite | split | unfold x | lift_lets -underBinder

theorem kept_doGuardOverload (c : Closed N I T M E K W Q) (hE : E) (hp15 : W 15) (hp2 : W 2) (hp22 : W 22) (hp3 : W 3) (a0 : Nat) (a1 : State) (ha1 : Kept Q a1) : Kept Q (doGuardOverload a0 a1) := by
  unfold doGuardOverload
  try lift_lets -underBinder
  repeat' with_reducible first
    | assumption | (intro x; refine (fun hx : Kept Q x => ?_) ?_; clear_value x) | (intro x; clear_value x)
    | (intro x; refine (fun hx : Kept Q x => ?_) ?_; rotate_left; unfold x) | (intro x)
    | exact kept_mk (kept_out (by with_reducible assumption)) | exact ok_lit 15 (by decide) hp15
    | apply kept_stickBits c hE hp2 hp22 hp3 | apply kept_ite | split | unfold x | lift_lets -underBinder

theorem kept_tmpOff (c : Closed N I T M E K W Q) (hp15 : W 15) (a0 : State) (ha0 : Kept Q a0) : Kept Q (State.tmpOff a0) := by
  unfold State.tmpOff
  try lift_lets -underBinder
  repeat' with_reducible first
    | assumption | (intro x; refine (fun hx : Kept Q x => ?_) ?_; clear_value x) | (intro x; clear_value x)
    | (intro x; refine (fun hx : Kept Q x => ?_) ?_; rotate_left; unfold x) | (intro x)
    | exact kept_mk (kept_out (by with_reducible assumption)) | apply kept_each c | apply kept_showTmp c hp15
    | apply kept_tmpIdle c hp15 | apply kept_updTmp c | apply kept_ite | split | unfold x | lift_lets -underBinder

theorem kept_tmpRecheck (c : Closed N I T M E K W Q) (hp15 : W 15) (a0 : State) (ha0 : Kept Q a0) : Kept Q (State.tmpRecheck a0) := by
  unfold State.tmpRecheck
  try lift_lets -underBinder
  repeat' with_reducible first
    | assumption | (intro x; refine (fun hx : Kept Q x => ?_) ?_; clear_value x) | (intro x; clear_value x)
    | (intro x; refine (fun hx : Kept Q x => ?_) ?_; rotate_left; unfold x) | (intro x)
    | exact ok_lit 15 (by decide) hp15 | apply kept_each c | apply kept_showPair c | apply kept_tmpOff c hp15
    | apply kept_w c | apply kept_ite | split | unfold x | lift_lets -underBinder

theorem kept_tmpTake (c : Closed N I T M E K W Q) (a0 : State) (a1 : Nat) (ha0 : Kept Q a0) : Kept Q (State.tmpTake a0 a1) := by
  unfold State.tmpTake
  try lift_lets -underBinder
  repeat' with_reducible first
    | assumption | (intro x; refine (fun hx : Kept Q x => ?_) ?_; clear_value x) | (intro x; clear_value x)
    | (intro x; refine (fun hx : Kept Q x => ?_) ?_; rotate_left; unfold x) | (intro x)
    | exact kept_mk (kept_out (by with_reducible assumption)) | apply kept_ite | split | unfold x
    | lift_lets -underBinder

theorem kept_updCan (c : Closed N I T M E K W Q) (a0 : State) (a1 : Nat) (a2 : CanSt → CanSt) (ha0 : Kept Q a0) : Kept Q (State.updCan a0 a1 a2) := by
  unfold State.updCan
  try lift_lets -underBinder
  repeat' with_reducible first
    | assumption | (intro x; refine (fun hx : Kept Q x => ?_) ?_; clear_value x) | (intro x; clear_value x)
    | (intro x; refine (fun hx : Kept Q x => ?_) ?_; rotate_left; unfold x) | (intro x)
    | exact kept_mk (kept_out (by with_reducible assumption)) | unfold x | lift_lets -underBinder

theorem kept_updConn (c : Closed N I T M E K W Q) (a0 : State) (a1 : Nat) (a2 : ConnSt → ConnSt) (ha0 : Kept Q a0) : Kept Q (State.updConn a0 a1 a2) := by
  unfold State.updConn
  try lift_lets -underBinder
  repeat' with_reducible first
    | assumption | (intro x; refine (fun hx : Kept Q x => ?_) ?_; clear_value x) | (intro x; clear_value x)
    | (intro x; refine (fun hx : Kept Q x => ?_) ?_; rotate_left; unfold x) | (intro x)
    | exact kept_mk (kept_out (by with_reducible assumption)) | unfold x | lift_lets -underBinder

theorem kept_here (c : Closed N I T M E K W Q) (a0 : State) (ha0 : Kept Q a0) : Kept Q (State.here a0) := by
  unfold State.here
  try lift_lets -underBinder
  repeat' with_reducible first
    | assumption | (intro x; refine (fun hx : Kept Q x => ?_) ?_; clear_value x) | (intro x; clear_value x)
    | (intro x; refine (fun hx : Kept Q x => ?_) ?_; rotate_left; unfold x) | (intro x)
    | exact kept_mk (kept_out (by with_reducible assumption)) | unfold x | lift_lets -underBinder

theorem kept_setObjW (c : Closed N I T M E K W Q) (hM : M) (a0 : State) (a1 : Nat) (a2 : Nat) (a3 : Nat) (a4 : Nat) (ha0 : Kept Q a0) : Kept Q (State.setObjW a0 a1 a2 a3 a4) := by
  unfold State.setObjW
  repeat' with_reducible first
    | assumption | apply kept_setSram32 c hM

theorem kept_setOstat (c : Closed N I T M E K W Q) (hM : M) (a0 : State) (a1 : Nat) (a2 : Nat) (a3 : Nat) (a4 : Bool) (ha0 : Kept Q a0) : Kept Q (State.setOstat a0 a1 a2 a3 a4) := by
  unfold State.setOstat
  repeat' with_reducible first
    | assumption | apply kept_setObjW c hM

theorem kept_setRes (c : Closed N I T M E K W Q) (hM : M) (a0 : State) (a1 : Nat) (a2 : Nat) (a3 : Nat) (ha0 : Kept Q a0) : Kept Q (State.setRes a0 a1 a2 a3) := by
  unfold State.setRes
  repeat' with_reducible first
    | assumption | apply kept_setObjW c hM

theorem kept_setColln (c : Closed N I T M E K W Q) (hM : M) (a0 : State) (a1 : Nat) (a2 : Nat) (a3 : Nat) (ha0 : Kept Q a0) : Kept Q (State.setColln a0 a1 a2 a3) := by
  unfold State.setColln
  try lift_lets -underBinder
  repeat' with_reducible first
    | assumption | (intro x; refine (fun hx : Kept Q x => ?_) ?_; clear_value x) | (intro x; clear_value x)
    | (intro x; refine (fun hx : Kept Q x => ?_) ?_; rotate_left; unfold x) | (intro x) | apply kept_setObjW c hM
    | unfold x | lift_lets -underBinder

theorem kept_canStick (c : Closed N I T M E K W Q) (hE : E) (hp2 : W 2) (hp22 : W 22) (hp3 : W 3) (a0 : State) (a1 : Nat) (a2 : Fld) (ha0 : Kept Q a0) (ha2 : OkFld W a2) : Kept Q (State.canStick a0 a1 a2) := by
  unfold State.canStick
  try lift_lets -underBinder
  repeat' with_reducible first
    | assumption | (intro x; refine (fun hx : Kept Q x => ?_) ?_; clear_value x) | (intro x; clear_value x)
    | (intro x; refine (fun hx : Kept Q x => ?_) ?_; rotate_left; unfold x) | (intro x)
    | apply kept_stickEv c hE hp2 hp22 hp3 | apply kept_ite | split | unfold x | lift_lets -underBinder

theorem kept_bumpSkip (c : Closed N I T M E K W Q) (hM : M) (a0 : State) (a1 : Nat) (a2 : Nat) (ha0 : Kept Q a0) : Kept Q (State.bumpSkip a0 a1 a2) := by
  unfold State.bumpSkip
  try lift_lets -underBinder
  repeat' with_reducible first
    | assumption | (intro x; refine (fun hx : Kept Q x => ?_) ?_; clear_value x) | (intro x; clear_value x)
    | (intro x; refine (fun hx : Kept Q x => ?_) ?_; rotate_left; unfold x) | (intro x) | apply kept_setObjW c hM
    | apply kept_ite | split | unfold x | lift_lets -underBinder

theorem kept_showCan (c : Closed N I T M E K W Q) (hp18 : W 18) (a0 : State) (a1 : Nat) (ha0 : Kept Q a0) : Kept Q (State.showCan a0 a1) := by
  unfold State.showCan
  try lift_lets -underBinder
  repeat' with_reducible first
    | assumption | (intro x; refine (fun hx : Kept Q x => ?_) ?_; clear_value x) | (intro x; clear_value x)
    | (intro x; refine (fun hx : Kept Q x => ?_) ?_; rotate_left; unfold x) | (intro x)
    | exact ok_lit 18 (by decide) hp18 | apply kept_w c | apply kept_wb c | unfold x | lift_lets -underBinder

theorem kept_showWake (c : Closed N I T M E K W Q) (a0 : State) (ha0 : Kept Q a0) : Kept Q (State.showWake a0) := by
  unfold State.showWake
  try lift_lets -underBinder
  repeat' with_reducible first
    | assumption | (intro x; refine (fun hx : Kept Q x => ?_) ?_; clear_value x) | (intro x; clear_value x)
    | (intro x; refine (fun hx : Kept Q x => ?_) ?_; rotate_left; unfold x) | (intro x)
    | exact kept_mk (kept_out (by with_reducible assumption)) | unfold x | lift_lets -underBinder

theorem kept_consume1 (c : Closed N I T M E K W Q) (hp2 : W 2) (a0 : State) (a1 : Nat) (ha0 : Kept Q a0) : Kept Q (State.consume1 a0 a1) := by
  unfold State.consume1
  try lift_lets -underBinder
  repeat' with_reducible first
    | assumption | (intro x; refine (fun hx : Kept Q x => ?_) ?_; clear_value x) | (intro x; clear_value x)
    | (intro x; refine (fun hx : Kept Q x => ?_) ?_; rotate_left; unfold x) | (intro x) | apply kept_advance c hp2
    | apply kept_cause c | apply kept_ite | split | unfold x | lift_lets -underBinder

theorem kept_entryDone (c : Closed N I T M E K W Q) (hp2 : W 2) (a0 : State) (a1 : Nat) (a2 : Nat) (ha0 : Kept Q a0) : Kept Q (State.entryDone a0 a1 a2) := by
  unfold State.entryDone
  try lift_lets -underBinder
  repeat' with_reducible first
    | assumption | (intro x; refine (fun hx : Kept Q x => ?_) ?_; clear_value x) | (intro x; clear_value x)
    | (intro x; refine (fun hx : Kept Q x => ?_) ?_; rotate_left; unfold x) | (intro x)
    | exact kept_mk (kept_out (by with_reducible assumption)) | apply kept_complete c hp2
    | apply kept_consume1 c hp2 | apply kept_updCan c | apply kept_ite | split | unfold x | lift_lets -underBinder

theorem kept_ringPurge (c : Closed N I T M E K W Q) (hp2 : W 2) (a0 : State) (a1 : Nat) (a2 : Nat) (ha0 : Kept Q a0) : Kept Q (State.ringPurge a0 a1 a2) := by
  unfold State.ringPurge
  try lift_lets -underBinder
  repeat' with_reducible first
    | assumption | (intro x; refine (fun hx : Kept Q x => ?_) ?_; clear_value x) | (intro x; clear_value x)
    | (intro x; refine (fun hx : Kept Q x => ?_) ?_; rotate_left; unfold x) | (intro x)
    | exact kept_mk (kept_out (by with_reducible assumption)) | apply kept_entryDone c hp2 | apply kept_updCan c
    | apply kept_ite | split | unfold x | lift_lets -underBinder

theorem kept_canReq (c : Closed N I T M E K W Q) (hE : E) (hM : M) (hp18 : W 18) (hp2 : W 2) (hp22 : W 22) (hp3 : W 3) (a0 : State) (a1 : Nat) (a2 : Nat) (a3 : Bool) (ha0 : Kept Q a0) : Kept Q (State.canReq a0 a1 a2 a3).1 := by
  unfold State.canReq
  repeat' with_reducible first
    | assumption | exact ok_lit 18 (by decide) hp18 | apply kept_canStick c hE hp2 hp22 hp3
    | apply kept_setOstat c hM | apply kept_setRes c hM | apply kept_ite | split

theorem kept_setObjData (c : Closed N I T M E K W Q) (hM : M) (a0 : State) (a1 : Nat) (a2 : Nat) (a3 : List Sys2Proof.Byte) (ha0 : Kept Q a0) : Kept Q (State.setObjData a0 a1 a2 a3) := by
  unfold State.setObjData
  repeat' with_reducible first
    | assumption | apply kept_setSramBytes c hM

theorem kept_safeLoad (c : Closed N I T M E K W Q) (hE : E) (hM : M) (hp18 : W 18) (hp2 : W 2) (hp22 : W 22) (hp3 : W 3) (a0 : State) (a1 : Nat) (a2 : Nat) (a3 : Nat) (a4 : List Sys2Proof.Byte) (a5 : Nat) (ha0 : Kept Q a0) : Kept Q (State.safeLoad a0 a1 a2 a3 a4 a5) := by
  unfold State.safeLoad
  try lift_lets -underBinder
  repeat' with_reducible first
    | assumption | (intro x; refine (fun hx : Kept Q x => ?_) ?_; clear_value x)
    | (intro x; refine (fun hx : Kept Q x.1 => ?_) ?_; clear_value x) | (intro x; clear_value x)
    | (intro x; refine (fun hx : Kept Q x => ?_) ?_; rotate_left; unfold x) | (intro x)
    | exact kept_mk (kept_out (by with_reducible assumption)) | apply kept_canReq c hE hM hp18 hp2 hp22 hp3
    | refine fst_kept ‹_› ?_ | apply kept_setObjData c hM | apply kept_updConn c | apply kept_ite | split
    | unfold x | lift_lets -underBinder

theorem kept_safeNext (c : Closed N I T M E K W Q) (hE : E) (hM : M) (hp18 : W 18) (hp2 : W 2) (hp22 : W 22) (hp3 : W 3) (a0 : State) (a1 : Nat) (a2 : Nat) (ha0 : Kept Q a0) : Kept Q (State.safeNext a0 a1 a2) := by
  unfold State.safeNext
  repeat' with_reducible first
    | assumption | apply kept_safeLoad c hE hM hp18 hp2 hp22 hp3 | apply kept_ite | split

theorem kept_canDone (c : Closed N I T M E K W Q) (hE : E) (hM : M) (hp18 : W 18) (hp2 : W 2) (hp22 : W 22) (hp3 : W 3) (a0 : State) (a1 : Nat) (a2 : Nat) (a3 : Nat) (ha0 : Kept Q a0) : Kept Q (State.canDone a0 a1 a2 a3) := by
  unfold State.canDone
  try lift_lets -underBinder
  repeat' with_reducible first
    | assumption | (intro x; refine (fun hx : Kept Q x => ?_) ?_; clear_value x) | (intro x; clear_value x)
    | (intro x; refine (fun hx : Kept Q x => ?_) ?_; rotate_left; unfold x) | (intro x)
    | exact kept_mk (kept_out (by with_reducible assumption)) | apply kept_safeNext c hE hM hp18 hp2 hp22 hp3
    | apply kept_setOstat c hM | apply kept_setRes c hM | apply kept_updConn c | apply kept_ite | split | unfold x
    | lift_lets -underBinder

theorem kept_objPurge (c : Closed N I T M E K W Q) (hE : E) (hM : M) (hp18 : W 18) (hp2 : W 2) (hp22 : W 22) (hp3 : W 3) (a0 : State) (a1 : Nat) (a2 : Nat) (ha0 : Kept Q a0) : Kept Q (State.objPurge a0 a1 a2) := by
  unfold State.objPurge
  try lift_lets -underBinder
  repeat' with_reducible first
    | assumption | (intro x; refine (fun hx : Kept Q x => ?_) ?_; clear_value x) | (intro x; clear_value x)
    | (intro x; refine (fun hx : Kept Q x => ?_) ?_; rotate_left; unfold x) | (intro x)
    | apply kept_canDone c hE hM hp18 hp2 hp22 hp3 | apply foldl_kept | apply foldl_kept1 | apply kept_ite | split
    | unfold x | lift_lets -underBinder

theorem kept_canCancel (c : Closed N I T M E K W Q) (hE : E) (hM : M) (hp18 : W 18) (hp2 : W 2) (hp22 : W 22) (hp3 : W 3) (a0 : State) (a1 : Nat) (a2 : Nat) (a3 : Bool) (ha0 : Kept Q a0) : Kept Q (State.canCancel a0 a1 a2 a3).1 := by
  unfold State.canCancel
  repeat' with_reducible first
    | assumption | apply kept_canDone c hE hM hp18 hp2 hp22 hp3 | apply kept_setOstat c hM | apply kept_ite
    | split

theorem kept_canResume (c : Closed N I T M E K W Q) (hE : E) (hM : M) (hp18 : W 18) (hp2 : W 2) (hp22 : W 22) (hp3 : W 3) (a0 : State) (a1 : Nat) (a2 : Nat) (ha0 : Kept Q a0) : Kept Q (State.canResume a0 a1 a2) := by
  unfold State.canResume
  repeat' with_reducible first
    | assumption | apply kept_safeNext c hE hM hp18 hp2 hp22 hp3 | apply kept_setColln c hM
    | apply kept_setOstat c hM

theorem kept_canOcmd (c : Closed N I T M E K W Q) (hE : E) (hM : M) (hp18 : W 18) (hp2 : W 2) (hp22 : W 22) (hp3 : W 3) (a0 : State) (a1 : Nat) (a2 : Nat) (a3 : Bool) (a4 : Bool) (a5 : Bool) (ha0 : Kept Q a0) : Kept Q (State.canOcmd a0 a1 a2 a3 a4 a5) := by
  unfold State.canOcmd
  try lift_lets -underBinder
  repeat' with_reducible first
    | assumption | (intro x; refine (fun hx : Kept Q x => ?_) ?_; clear_value x)
    | (intro x; refine (fun hx : Kept Q x.1 => ?_) ?_; clear_value x) | (intro x; clear_value x)
    | (intro x; refine (fun hx : Kept Q x => ?_) ?_; rotate_left; unfold x) | (intro x)
    | exact ok_lit 18 (by decide) hp18 | apply kept_canCancel c hE hM hp18 hp2 hp22 hp3 | refine fst_kept ‹_› ?_
    | apply kept_canReq c hE hM hp18 hp2 hp22 hp3 | apply kept_canResume c hE hM hp18 hp2 hp22 hp3
    | apply kept_w c | apply kept_ite | split | unfold x | lift_lets -underBinder

theorem kept_canDataWrite (c : Closed N I T M E K W Q) (hE : E) (hM : M) (hp18 : W 18) (hp2 : W 2) (hp22 : W 22) (hp3 : W 3) (a0 : State) (a1 : Nat) (a2 : Nat) (a3 : Nat) (ha0 : Kept Q a0) : Kept Q (State.canDataWrite a0 a1 a2 a3).1 := by
  unfold State.canDataWrite
  try lift_lets -underBinder
  repeat' with_reducible first
    | assumption | (intro x; refine (fun hx : Kept Q x => ?_) ?_; clear_value x)
    | (intro x; refine (fun hx : Kept Q x.1 => ?_) ?_; clear_value x) | (intro x; clear_value x)
    | (intro x; refine (fun hx : Kept Q x => ?_) ?_; rotate_left; unfold x) | (intro x)
    | exact ok_lit 18 (by decide) hp18 | apply kept_canStick c hE hp2 hp22 hp3 | apply kept_setObjW c hM
    | apply kept_ite | split | unfold x | lift_lets -underBinder

theorem kept_canObjApply (c : Closed N I T M E K W Q) (hE : E) (hM : M) (hp18 : W 18) (hp2 : W 2) (hp22 : W 22) (hp3 : W 3) (a0 : State) (a1 : Nat) (a2 : Nat) (a3 : Nat) (ha0 : Kept Q a0) : Kept Q (State.canObjApply a0 a1 a2 a3) := by
  unfold State.canObjApply
  try lift_lets -underBinder
  repeat' with_reducible first
    | assumption | (intro x; refine (fun hx : Kept Q x => ?_) ?_; clear_value x) | (intro x; clear_value x)
    | (intro x; refine (fun hx : Kept Q x => ?_) ?_; rotate_left; unfold x) | (intro x)
    | exact kept_mk (kept_out (by with_reducible assumption)) | apply kept_canDone c hE hM hp18 hp2 hp22 hp3
    | apply kept_safeNext c hE hM hp18 hp2 hp22 hp3 | apply kept_setObjW c hM | apply kept_updCan c
    | apply kept_ite | split | unfold x | lift_lets -underBinder

theorem kept_enterConfig (c : Closed N I T M E K W Q) (hE : E) (hM : M) (hp18 : W 18) (hp2 : W 2) (hp22 : W 22) (hp3 : W 3) (a0 : State) (a1 : Nat) (ha0 : Kept Q a0) : Kept Q (State.enterConfig a0 a1) := by
  unfold State.enterConfig
  try lift_lets -underBinder
  repeat' with_reducible first
    | assumption | (intro x; refine (fun hx : Kept Q x => ?_) ?_; clear_value x) | (intro x; clear_value x)
    | (intro x; refine (fun hx : Kept Q x => ?_) ?_; rotate_left; unfold x) | (intro x)
    | exact kept_mk (kept_out (by with_reducible assumption)) | exact ok_lit 18 (by decide) hp18
    | apply kept_objPurge c hE hM hp18 hp2 hp22 hp3 | apply kept_ringPurge c hp2 | apply kept_showCan c hp18
    | apply kept_updCan c | apply kept_w c | apply kept_ite | split | unfold x | lift_lets -underBinder

theorem kept_leaveConfig (c : Closed N I T M E K W Q) (hp18 : W 18) (a0 : State) (a1 : Nat) (a2 : Nat) (ha0 : Kept Q a0) : Kept Q (State.leaveConfig a0 a1 a2) := by
  unfold State.leaveConfig
  try lift_lets -underBinder
  repeat' with_reducible first
    | assumption | (intro x; refine (fun hx : Kept Q x => ?_) ?_; clear_value x) | (intro x; clear_value x)
    | (intro x; refine (fun hx : Kept Q x => ?_) ?_; rotate_left; unfold x) | (intro x)
    | exact kept_mk (kept_out (by with_reducible assumption)) | exact ok_lit 18 (by decide) hp18
    | apply kept_updCan c | apply kept_w c | apply kept_ite | split | unfold x | lift_lets -underBinder

theorem kept_canModeCheck (c : Closed N I T M E K W Q) (hE : E) (hM : M) (hp18 : W 18) (hp2 : W 2) (hp22 : W 22) (hp3 : W 3) (a0 : State) (a1 : Nat) (ha0 : Kept Q a0) : Kept Q (State.canModeCheck a0 a1) := by
  unfold State.canModeCheck
  try lift_lets -underBinder
  repeat' with_reducible first
    | assumption | (intro x; refine (fun hx : Kept Q x => ?_) ?_; clear_value x) | (intro x; clear_value x)
    | (intro x; refine (fun hx : Kept Q x => ?_) ?_; rotate_left; unfold x) | (intro x)
    | exact kept_mk (kept_out (by with_reducible assumption)) | exact ok_lit 18 (by decide) hp18
    | apply kept_enterConfig c hE hM hp18 hp2 hp22 hp3 | apply kept_leaveConfig c hp18
    | apply kept_objPurge c hE hM hp18 hp2 hp22 hp3 | apply kept_ringPurge c hp2
    | apply kept_safeNext c hE hM hp18 hp2 hp22 hp3 | apply kept_showCan c hp18 | apply kept_showWake c
    | apply kept_updCan c | apply kept_w c | apply foldl_kept | apply foldl_kept1 | apply kept_ite | split
    | unfold x | lift_lets -underBinder

theorem kept_canApply (c : Closed N I T M E K W Q) (hE : E) (hM : M) (hp18 : W 18) (hp2 : W 2) (hp22 : W 22) (hp3 : W 3) (a0 : State) (a1 : Nat) (ha0 : Kept Q a0) : Kept Q (State.canApply a0 a1) := by
  unfold State.canApply
  try lift_lets -underBinder
  repeat' with_reducible first
    | assumption | (intro x; refine (fun hx : Kept Q x => ?_) ?_; clear_value x) | (intro x; clear_value x)
    | (intro x; refine (fun hx : Kept Q x => ?_) ?_; rotate_left; unfold x) | (intro x)
    | exact kept_mk (kept_out (by with_reducible assumption)) | exact ok_lit 18 (by decide) hp18
    | apply kept_canModeCheck c hE hM hp18 hp2 hp22 hp3 | apply kept_updCan c | apply kept_w c | apply kept_ite
    | split | unfold x | lift_lets -underBinder

theorem kept_busOff (c : Closed N I T M E K W Q) (hE : E) (hM : M) (hp18 : W 18) (hp2 : W 2) (hp22 : W 22) (hp3 : W 3) (a0 : State) (a1 : Nat) (ha0 : Kept Q a0) : Kept Q (State.busOff a0 a1) := by
  unfold State.busOff
  try lift_lets -underBinder
  repeat' with_reducible first
    | assumption | (intro x; refine (fun hx : Kept Q x => ?_) ?_; clear_value x) | (intro x; clear_value x)
    | (intro x; refine (fun hx : Kept Q x => ?_) ?_; rotate_left; unfold x) | (intro x)
    | exact kept_mk (kept_out (by with_reducible assumption)) | exact ok_lit 18 (by decide) hp18
    | apply kept_bump c | apply kept_canStick c hE hp2 hp22 hp3 | apply kept_objPurge c hE hM hp18 hp2 hp22 hp3
    | apply kept_ringPurge c hp2 | apply kept_updCan c | apply kept_w c | apply kept_ite | split | unfold x
    | lift_lets -underBinder

theorem kept_canCounters (c : Closed N I T M E K W Q) (hE : E) (hM : M) (hp18 : W 18) (hp2 : W 2) (hp22 : W 22) (hp3 : W 3) (a0 : State) (a1 : Nat) (a2 : Nat) (a3 : Nat) (ha0 : Kept Q a0) : Kept Q (State.canCounters a0 a1 a2 a3) := by
  unfold State.canCounters
  try lift_lets -underBinder
  repeat' with_reducible first
    | assumption | (intro x; refine (fun hx : Kept Q x => ?_) ?_; clear_value x) | (intro x; clear_value x)
    | (intro x; refine (fun hx : Kept Q x => ?_) ?_; rotate_left; unfold x) | (intro x)
    | exact ok_lit 18 (by decide) hp18 | apply kept_busOff c hE hM hp18 hp2 hp22 hp3
    | apply kept_canStick c hE hp2 hp22 hp3 | apply kept_showCan c hp18 | apply kept_w c | apply kept_ite | split
    | unfold x | lift_lets -underBinder

theorem kept_countBy (c : Closed N I T M E K W Q) (hE : E) (hM : M) (hp18 : W 18) (hp2 : W 2) (hp22 : W 22) (hp3 : W 3) (a0 : State) (a1 : Nat) (a2 : CanSt → CanSt) (ha0 : Kept Q a0) : Kept Q (State.countBy a0 a1 a2) := by
  unfold State.countBy
  try lift_lets -underBinder
  repeat' with_reducible first
    | assumption | (intro x; refine (fun hx : Kept Q x => ?_) ?_; clear_value x) | (intro x; clear_value x)
    | (intro x; refine (fun hx : Kept Q x => ?_) ?_; rotate_left; unfold x) | (intro x)
    | apply kept_canCounters c hE hM hp18 hp2 hp22 hp3 | apply kept_updCan c | apply kept_ite | split | unfold x
    | lift_lets -underBinder

theorem kept_startTx (c : Closed N I T M E K W Q) (hM : M) (hp18 : W 18) (a0 : State) (a1 : Nat) (a2 : Nat) (a3 : List Sys2Proof.Byte) (ha0 : Kept Q a0) : Kept Q (State.startTx a0 a1 a2 a3) := by
  unfold State.startTx
  try lift_lets -underBinder
  repeat' with_reducible first
    | assumption | (intro x; refine (fun hx : Kept Q x => ?_) ?_; clear_value x) | (intro x; clear_value x)
    | (intro x; refine (fun hx : Kept Q x => ?_) ?_; rotate_left; unfold x) | (intro x)
    | exact kept_mk (kept_out (by with_reducible assumption)) | apply kept_setOstat c hM
    | apply kept_showCan c hp18 | apply kept_updCan c | apply kept_ite | split | unfold x | lift_lets -underBinder

theorem kept_startEntry (c : Closed N I T M E K W Q) (hM : M) (hp18 : W 18) (a0 : State) (a1 : Nat) (ha0 : Kept Q a0) : Kept Q (State.startEntry a0 a1) := by
  unfold State.startEntry
  try lift_lets -underBinder
  repeat' with_reducible first
    | assumption | (intro x; refine (fun hx : Kept Q x => ?_) ?_; clear_value x) | (intro x; clear_value x)
    | (intro x; refine (fun hx : Kept Q x => ?_) ?_; rotate_left; unfold x) | (intro x)
    | exact kept_mk (kept_out (by with_reducible assumption)) | apply kept_startTx c hM hp18 | apply kept_updCan c
    | apply kept_ite | split | unfold x | lift_lets -underBinder

theorem kept_canSelect (c : Closed N I T M E K W Q) (hE : E) (hM : M) (hp18 : W 18) (hp2 : W 2) (hp22 : W 22) (hp3 : W 3) (a0 : State) (a1 : Nat) (ha0 : Kept Q a0) : Kept Q (State.canSelect a0 a1) := by
  unfold State.canSelect
  try lift_lets -underBinder
  repeat' with_reducible first
    | assumption | (intro x; refine (fun hx : Kept Q x => ?_) ?_; clear_value x)
    | (intro x; refine (fun hx : Kept Q x.1 => ?_) ?_; clear_value x) | (intro x; clear_value x)
    | (intro x; refine (fun hx : Kept Q x => ?_) ?_; rotate_left; unfold x) | (intro x)
    | exact ok_lit 18 (by decide) hp18 | apply kept_bumpSkip c hM | apply kept_canDone c hE hM hp18 hp2 hp22 hp3
    | apply kept_canStick c hE hp2 hp22 hp3 | apply kept_setObjData c hM | apply kept_startEntry c hM hp18
    | apply kept_startTx c hM hp18 | apply kept_ite | split | unfold x | lift_lets -underBinder

theorem kept_canFrameEnd (c : Closed N I T M E K W Q) (hE : E) (hM : M) (hp18 : W 18) (hp2 : W 2) (hp22 : W 22) (hp3 : W 3) (a0 : State) (a1 : Nat) (ha0 : Kept Q a0) : Kept Q (State.canFrameEnd a0 a1) := by
  unfold State.canFrameEnd
  try lift_lets -underBinder
  repeat' with_reducible first
    | assumption | (intro x; refine (fun hx : Kept Q x => ?_) ?_; clear_value x) | (intro x; clear_value x)
    | (intro x; refine (fun hx : Kept Q x => ?_) ?_; rotate_left; unfold x) | (intro x)
    | exact kept_mk (kept_out (by with_reducible assumption)) | apply kept_canModeCheck c hE hM hp18 hp2 hp22 hp3
    | apply kept_canObjApply c hE hM hp18 hp2 hp22 hp3 | apply kept_setOstat c hM | apply kept_updCan c
    | apply foldl_kept | apply foldl_kept1 | apply kept_ite | split | unfold x | lift_lets -underBinder

theorem kept_canSent (c : Closed N I T M E K W Q) (hE : E) (hM : M) (hp18 : W 18) (hp2 : W 2) (hp22 : W 22) (hp3 : W 3) (a0 : State) (a1 : Nat) (a2 : Nat) (ha0 : Kept Q a0) : Kept Q (State.canSent a0 a1 a2) := by
  unfold State.canSent
  try lift_lets -underBinder
  repeat' with_reducible first
    | assumption | (intro x; refine (fun hx : Kept Q x => ?_) ?_; clear_value x)
    | (intro x; refine (fun hx : Kept Q x.1 => ?_) ?_; clear_value x) | (intro x; clear_value x)
    | (intro x; refine (fun hx : Kept Q x => ?_) ?_; rotate_left; unfold x) | (intro x)
    | exact kept_mk (kept_out (by with_reducible assumption)) | exact ok_lit 18 (by decide) hp18
    | apply kept_canDone c hE hM hp18 hp2 hp22 hp3 | apply kept_canFrameEnd c hE hM hp18 hp2 hp22 hp3
    | apply kept_canStick c hE hp2 hp22 hp3 | apply kept_countBy c hE hM hp18 hp2 hp22 hp3 | apply kept_emit c
    | apply kept_entryDone c hp2 | apply kept_setColln c hM | apply kept_setObjW c hM | apply kept_updCan c
    | apply kept_w c | apply kept_ite | split | unfold x | lift_lets -underBinder

theorem kept_canTxFail (c : Closed N I T M E K W Q) (hE : E) (hM : M) (hp18 : W 18) (hp2 : W 2) (hp22 : W 22) (hp3 : W 3) (a0 : State) (a1 : Nat) (a2 : Sys2Proof.CanErrIn) (ha0 : Kept Q a0) : Kept Q (State.canTxFail a0 a1 a2) := by
  unfold State.canTxFail
  try lift_lets -underBinder
  repeat' with_reducible first
    | assumption | (intro x; refine (fun hx : Kept Q x => ?_) ?_; clear_value x) | (intro x; clear_value x)
    | (intro x; refine (fun hx : Kept Q x => ?_) ?_; rotate_left; unfold x) | (intro x)
    | exact kept_mk (kept_out (by with_reducible assumption)) | exact ok_lit 18 (by decide) hp18
    | apply kept_bump c | apply kept_canDone c hE hM hp18 hp2 hp22 hp3 | apply kept_canStick c hE hp2 hp22 hp3
    | apply kept_entryDone c hp2 | apply kept_setColln c hM | apply kept_setOstat c hM | apply kept_updCan c
    | apply kept_ite | split | unfold x | lift_lets -underBinder

theorem kept_canErr (c : Closed N I T M E K W Q) (hE : E) (hM : M) (hp18 : W 18) (hp2 : W 2) (hp22 : W 22) (hp3 : W 3) (a0 : State) (a1 : Nat) (a2 : Sys2Proof.CanErrIn) (ha0 : Kept Q a0) : Kept Q (State.canErr a0 a1 a2) := by
  unfold State.canErr
  try lift_lets -underBinder
  repeat' with_reducible first
    | assumption | (intro x; refine (fun hx : Kept Q x => ?_) ?_; clear_value x) | (intro x; clear_value x)
    | (intro x; refine (fun hx : Kept Q x => ?_) ?_; rotate_left; unfold x) | (intro x)
    | exact kept_mk (kept_out (by with_reducible assumption)) | exact ok_lit 18 (by decide) hp18
    | apply kept_bump c | apply kept_canModeCheck c hE hM hp18 hp2 hp22 hp3
    | apply kept_canObjApply c hE hM hp18 hp2 hp22 hp3 | apply kept_canTxFail c hE hM hp18 hp2 hp22 hp3
    | apply kept_countBy c hE hM hp18 hp2 hp22 hp3 | apply kept_updCan c | apply kept_w c | apply foldl_kept
    | apply foldl_kept1 | apply kept_ite | split | unfold x | lift_lets -underBinder

theorem kept_canStore (c : Closed N I T M E K W Q) (hE : E) (hM : M) (hp18 : W 18) (hp2 : W 2) (hp22 : W 22) (hp3 : W 3) (a0 : State) (a1 : Nat) (a2 : Nat) (a3 : Sys2Proof.CanFrame) (a4 : Nat) (ha0 : Kept Q a0) : Kept Q (State.canStore a0 a1 a2 a3 a4) := by
  unfold State.canStore
  try lift_lets -underBinder
  repeat' with_reducible first
    | assumption | (intro x; refine (fun hx : Kept Q x => ?_) ?_; clear_value x) | (intro x; clear_value x)
    | (intro x; refine (fun hx : Kept Q x => ?_) ?_; rotate_left; unfold x) | (intro x)
    | exact kept_mk (kept_out (by with_reducible assumption)) | exact ok_lit 18 (by decide) hp18
    | apply kept_canStick c hE hp2 hp22 hp3 | apply kept_setObjData c hM | apply kept_setObjW c hM
    | apply kept_setOstat c hM | apply kept_ite | split | unfold x | lift_lets -underBinder

theorem kept_canDeliver (c : Closed N I T M E K W Q) (hE : E) (hp18 : W 18) (hp2 : W 2) (hp22 : W 22) (hp3 : W 3) (a0 : State) (a1 : Nat) (a2 : Sys2Proof.CanFrame) (a3 : Nat) (a4 : Option Nat) (a5 : Bool) (ha0 : Kept Q a0) : Kept Q (State.canDeliver a0 a1 a2 a3 a4 a5) := by
  unfold State.canDeliver
  try lift_lets -underBinder
  repeat' with_reducible first
    | assumption | (intro x; refine (fun hx : Kept Q x => ?_) ?_; clear_value x) | (intro x; clear_value x)
    | (intro x; refine (fun hx : Kept Q x => ?_) ?_; rotate_left; unfold x) | (intro x)
    | exact ok_lit 18 (by decide) hp18 | apply kept_bump c | apply kept_canStick c hE hp2 hp22 hp3
    | apply kept_record c hE hp2 hp22 hp3 | apply kept_ite | split | unfold x | lift_lets -underBinder

theorem kept_canRx (c : Closed N I T M E K W Q) (hE : E) (hM : M) (hp18 : W 18) (hp2 : W 2) (hp22 : W 22) (hp3 : W 3) (a0 : State) (a1 : Nat) (a2 : Sys2Proof.CanFrame) (ha0 : Kept Q a0) : Kept Q (State.canRx a0 a1 a2) := by
  unfold State.canRx
  try lift_lets -underBinder
  repeat' with_reducible first
    | assumption | (intro x; refine (fun hx : Kept Q x => ?_) ?_; clear_value x)
    | (intro x; refine (fun hx : Kept Q x.1 => ?_) ?_; clear_value x) | (intro x; clear_value x)
    | (intro x; refine (fun hx : Kept Q x => ?_) ?_; rotate_left; unfold x) | (intro x)
    | exact kept_mk (kept_out (by with_reducible assumption)) | apply kept_canDeliver c hE hp18 hp2 hp22 hp3
    | apply kept_canStore c hE hM hp18 hp2 hp22 hp3 | apply kept_countBy c hE hM hp18 hp2 hp22 hp3
    | apply kept_draw c | refine snd_kept ‹_› ?_ | apply kept_ite | split | unfold x | lift_lets -underBinder

theorem kept_canSleep (c : Closed N I T M E K W Q) (a0 : State) (a1 : Nat) (ha0 : Kept Q a0) : Kept Q (State.canSleep a0 a1) := by
  unfold State.canSleep
  try lift_lets -underBinder
  repeat' with_reducible first
    | assumption | (intro x; refine (fun hx : Kept Q x => ?_) ?_; clear_value x) | (intro x; clear_value x)
    | (intro x; refine (fun hx : Kept Q x => ?_) ?_; rotate_left; unfold x) | (intro x)
    | exact kept_mk (kept_out (by with_reducible assumption)) | apply kept_showWake c | apply kept_updCan c
    | apply kept_ite | split | unfold x | lift_lets -underBinder

theorem kept_canWakeUp (c : Closed N I T M E K W Q) (hE : E) (hM : M) (hp18 : W 18) (hp2 : W 2) (hp22 : W 22) (hp3 : W 3) (a0 : State) (a1 : Nat) (ha0 : Kept Q a0) : Kept Q (State.canWakeUp a0 a1) := by
  unfold State.canWakeUp
  try lift_lets -underBinder
  repeat' with_reducible first
    | assumption | (intro x; refine (fun hx : Kept Q x => ?_) ?_; clear_value x) | (intro x; clear_value x)
    | (intro x; refine (fun hx : Kept Q x => ?_) ?_; rotate_left; unfold x) | (intro x)
    | exact kept_mk (kept_out (by with_reducible assumption)) | exact ok_lit 18 (by decide) hp18
    | apply kept_canModeCheck c hE hM hp18 hp2 hp22 hp3 | apply kept_canStick c hE hp2 hp22 hp3
    | apply kept_updCan c | apply kept_w c | apply kept_ite | split | unfold x | lift_lets -underBinder

theorem kept_canRecover (c : Closed N I T M E K W Q) (a0 : State) (a1 : Nat) (ha0 : Kept Q a0) : Kept Q (State.canRecover a0 a1) := by
  unfold State.canRecover
  try lift_lets -underBinder
  repeat' with_reducible first
    | assumption | (intro x; refine (fun hx : Kept Q x => ?_) ?_; clear_value x) | (intro x; clear_value x)
    | (intro x; refine (fun hx : Kept Q x => ?_) ?_; rotate_left; unfold x) | (intro x)
    | exact kept_mk (kept_out (by with_reducible assumption)) | apply kept_updCan c | apply kept_ite | split
    | unfold x | lift_lets -underBinder

theorem kept_canRingcan (c : Closed N I T M E K W Q) (hp2 : W 2) (a0 : State) (a1 : Nat) (ha0 : Kept Q a0) : Kept Q (State.canRingcan a0 a1) := by
  unfold State.canRingcan
  repeat' with_reducible first
    | assumption | apply kept_ringPurge c hp2

theorem kept_canCmd (c : Closed N I T M E K W Q) (hE : E) (hM : M) (hp18 : W 18) (hp2 : W 2) (hp22 : W 22) (hp3 : W 3) (a0 : State) (a1 : Nat) (a2 : Nat) (ha0 : Kept Q a0) : Kept Q (State.canCmd a0 a1 a2) := by
  unfold State.canCmd
  try lift_lets -underBinder
  repeat' with_reducible first
    | assumption | (intro x; refine (fun hx : Kept Q x => ?_) ?_; clear_value x) | (intro x; clear_value x)
    | (intro x; refine (fun hx : Kept Q x => ?_) ?_; rotate_left; unfold x) | (intro x)
    | exact kept_mk (kept_out (by with_reducible assumption)) | apply kept_canRecover c
    | apply kept_canRingcan c hp2 | apply kept_canSleep c | apply kept_canWakeUp c hE hM hp18 hp2 hp22 hp3
    | apply kept_showWake c | apply kept_updCan c | apply kept_ite | split | unfold x | lift_lets -underBinder

theorem kept_canLatch (c : Closed N I T M E K W Q) (hM : M) (a0 : State) (a1 : Nat) (ha0 : Kept Q a0) : Kept Q (State.canLatch a0 a1).2 := by
  unfold State.canLatch
  try lift_lets -underBinder
  repeat' with_reducible first
    | assumption | (intro x; refine (fun hx : Kept Q x => ?_) ?_; clear_value x)
    | (intro x; refine (fun hx : Kept Q x.1 => ?_) ?_; clear_value x) | (intro x; clear_value x)
    | (intro x; refine (fun hx : Kept Q x => ?_) ?_; rotate_left; unfold x) | (intro x) | apply kept_setOstat c hM
    | apply kept_ite | split | unfold x | lift_lets -underBinder

theorem kept_writeFields (c : Closed N I T M E K W Q) (hA : ∀ p, W p) (a0 : State) (a1 : Nat) (a2 : Nat) (a3 : Acc) (ha0 : Kept Q a0) : Kept Q (State.writeFields a0 a1 a2 a3) := by
  unfold State.writeFields
  try lift_lets -underBinder
  repeat' with_reducible first
    | assumption | (intro x; refine (fun hx : Kept Q x => ?_) ?_; clear_value x) | (intro x; clear_value x)
    | (intro x; refine (fun hx : Kept Q x => ?_) ?_; rotate_left; unfold x) | (intro x) | exact ok_all hA
    | apply kept_w c | apply foldl_kept | apply foldl_kept1 | apply kept_ite | split | unfold x
    | lift_lets -underBinder

theorem kept_writeClear (c : Closed N I T M E K W Q) (hA : ∀ p, W p) (a0 : State) (a1 : Nat) (a2 : Nat) (ha0 : Kept Q a0) : Kept Q (State.writeClear a0 a1 a2) := by
  unfold State.writeClear
  try lift_lets -underBinder
  repeat' with_reducible first
    | assumption | (intro x; refine (fun hx : Kept Q x => ?_) ?_; clear_value x) | (intro x; clear_value x)
    | (intro x; refine (fun hx : Kept Q x => ?_) ?_; rotate_left; unfold x) | (intro x) | exact ok_all hA
    | apply kept_w c | apply foldl_kept | apply foldl_kept1 | apply kept_ite | split | unfold x
    | lift_lets -underBinder

theorem kept_updAx (c : Closed N I T M E K W Q) (a0 : State) (a1 : Bool) (a2 : Nat) (a3 : AxCh → AxCh) (ha0 : Kept Q a0) : Kept Q (State.updAx a0 a1 a2 a3) := by
  unfold State.updAx
  try lift_lets -underBinder
  repeat' with_reducible first
    | assumption | (intro x; refine (fun hx : Kept Q x => ?_) ?_; clear_value x) | (intro x; clear_value x)
    | (intro x; refine (fun hx : Kept Q x => ?_) ?_; rotate_left; unfold x) | (intro x)
    | exact kept_mk (kept_out (by with_reducible assumption)) | apply kept_ite | split | unfold x
    | lift_lets -underBinder

theorem kept_posUpdate (c : Closed N I T M E K W Q) (a0 : State) (a1 : Bool) (a2 : Nat) (a3 : Nat) (ha0 : Kept Q a0) : Kept Q (State.posUpdate a0 a1 a2 a3) := by
  unfold State.posUpdate
  repeat' with_reducible first
    | assumption | (intro x; refine (fun hx : Kept Q x => ?_) ?_; clear_value x) | (intro x; clear_value x)
    | (intro x; refine (fun hx : Kept Q x => ?_) ?_; rotate_left; unfold x) | (intro x) | apply kept_each c
    | apply kept_updAx c | apply foldl_kept | apply foldl_kept1 | apply kept_ite | split | unfold x
    | lift_lets -underBinder

theorem kept_safStick (c : Closed N I T M E K W Q) (hE : E) (hp2 : W 2) (hp22 : W 22) (hp3 : W 3) (a0 : State) (a1 : Fld) (a2 : Nat) (ha0 : Kept Q a0) (ha1 : OkFld W a1) : Kept Q (State.safStick a0 a1 a2) := by
  unfold State.safStick
  repeat' with_reducible first
    | assumption | apply kept_stickEv c hE hp2 hp22 hp3

theorem kept_ftrip (c : Closed N I T M E K W Q) (hE : E) (hp16 : W 16) (hp2 : W 2) (hp22 : W 22) (hp3 : W 3) (a0 : State) (ha0 : Kept Q a0) : Kept Q (State.ftrip a0) := by
  unfold State.ftrip
  try lift_lets -underBinder
  repeat' with_reducible first
    | assumption | (intro x; refine (fun hx : Kept Q x => ?_) ?_; clear_value x) | (intro x; clear_value x)
    | (intro x; refine (fun hx : Kept Q x => ?_) ?_; rotate_left; unfold x) | (intro x)
    | exact kept_mk (kept_out (by with_reducible assumption)) | exact ok_lit 16 (by decide) hp16
    | apply kept_ashNote c | apply kept_emit c | apply kept_safStick c hE hp2 hp22 hp3 | apply kept_wb c
    | apply kept_ite | split | unfold x | lift_lets -underBinder

theorem kept_axTo (c : Closed N I T M E K W Q) (hE : E) (hp16 : W 16) (hp2 : W 2) (hp22 : W 22) (hp3 : W 3) (a0 : State) (a1 : Bool) (a2 : Nat) (a3 : Nat) (a4 : Nat) (ha0 : Kept Q a0) : Kept Q (State.axTo a0 a1 a2 a3 a4) := by
  unfold State.axTo
  try lift_lets -underBinder
  repeat' with_reducible first
    | assumption | (intro x; refine (fun hx : Kept Q x => ?_) ?_; clear_value x) | (intro x; clear_value x)
    | (intro x; refine (fun hx : Kept Q x => ?_) ?_; rotate_left; unfold x) | (intro x)
    | exact kept_mk (kept_out (by with_reducible assumption)) | exact ok_lit 16 (by decide) hp16
    | apply kept_ashNote c | apply kept_stickEv c hE hp2 hp22 hp3 | apply kept_updAx c | apply kept_ite | split
    | unfold x | lift_lets -underBinder

theorem kept_axEval (c : Closed N I T M E K W Q) (hE : E) (hp16 : W 16) (hp2 : W 2) (hp22 : W 22) (hp3 : W 3) (a0 : State) (a1 : Bool) (a2 : Nat) (a3 : Bool) (ha0 : Kept Q a0) : Kept Q (State.axEval a0 a1 a2 a3) := by
  unfold State.axEval
  try lift_lets -underBinder
  repeat' with_reducible first
    | assumption | (intro x; refine (fun hx : Kept Q x => ?_) ?_; clear_value x) | (intro x; clear_value x)
    | (intro x; refine (fun hx : Kept Q x => ?_) ?_; rotate_left; unfold x) | (intro x)
    | exact kept_mk (kept_out (by with_reducible assumption)) | exact ok_lit 16 (by decide) hp16
    | apply kept_axTo c hE hp16 hp2 hp22 hp3 | apply kept_stickEv c hE hp2 hp22 hp3 | apply kept_updAx c
    | apply kept_ite | split | unfold x | lift_lets -underBinder

theorem kept_tpBall (c : Closed N I T M E K W Q) (a0 : State) (a1 : Bool) (a2 : Nat) (a3 : Nat) (ha0 : Kept Q a0) : Kept Q (State.tpBall a0 a1 a2 a3) := by
  unfold State.tpBall
  repeat' with_reducible first
    | assumption | apply kept_emit c | apply kept_ite | split

theorem kept_tpRise (c : Closed N I T M E K W Q) (a0 : State) (a1 : Bool) (ha0 : Kept Q a0) : Kept Q (State.tpRise a0 a1).1 := by
  unfold State.tpRise
  try lift_lets -underBinder
  repeat' with_reducible first
    | assumption | (intro x; refine (fun hx : Kept Q x => ?_) ?_; clear_value x)
    | (intro x; refine (fun hx : Kept Q x.1 => ?_) ?_; clear_value x) | (intro x; clear_value x)
    | (intro x; refine (fun hx : Kept Q x => ?_) ?_; rotate_left; unfold x) | (intro x) | apply kept_draw c
    | refine snd_kept ‹_› ?_ | apply kept_ite | split | unfold x | lift_lets -underBinder

theorem kept_permit (c : Closed N I T M E K W Q) (hp16 : W 16) (s : State) (b : Bool) (h : Kept Q s) : Kept Q (s.permit b) := by
  have h1 := kept_wb c s (permFld b) 0 (s.permits b) h (ok_permFld hp16)
  unfold State.permit
  dsimp only
  generalize s.wb (permFld b) 0 (s.permits b) = x at h1
  have h2 := kept_tpRise c x b h1
  generalize x.tpRise b = y at h2
  obtain ⟨y, t⟩ := y
  refine kept_ite h (kept_ite (kept_tpBall c _ _ _ _ h1) ?_)
  have h3 := kept_tpBall c { y with permAt := if b then (y.permAt.1, t) else (t, y.permAt.2) } b 2 t (kept_mk (kept_out h2))
  generalize State.tpBall { y with permAt := if b then (y.permAt.1, t) else (t, y.permAt.2) } b 2 t = z at h3
  exact kept_ite (kept_tpBall c _ _ _ _ (kept_mk (kept_out h3))) h3

theorem kept_evalCh (c : Closed N I T M E K W Q) (hE : E) (hp16 : W 16) (hp2 : W 2) (hp22 : W 22) (hp3 : W 3) (a0 : State) (a1 : Bool) (a2 : Nat → Bool) (a3 : Nat) (ha0 : Kept Q a0) : Kept Q (State.evalCh a0 a1 a2 a3) := by
  unfold State.evalCh
  repeat' with_reducible first
    | assumption | (intro x; refine (fun hx : Kept Q x => ?_) ?_; clear_value x) | (intro x; clear_value x)
    | (intro x; refine (fun hx : Kept Q x => ?_) ?_; rotate_left; unfold x) | (intro x)
    | apply kept_axEval c hE hp16 hp2 hp22 hp3 | apply kept_each c | apply kept_permit c hp16 | apply kept_ite
    | split | unfold x | lift_lets -underBinder

theorem kept_devFault (c : Closed N I T M E K W Q) (hE : E) (hp16 : W 16) (hp2 : W 2) (hp22 : W 22) (hp3 : W 3) (a0 : State) (a1 : Nat) (ha0 : Kept Q a0) : Kept Q (State.devFault a0 a1) := by
  unfold State.devFault
  try lift_lets -underBinder
  repeat' with_reducible first
    | assumption | (intro x; refine (fun hx : Kept Q x => ?_) ?_; clear_value x) | (intro x; clear_value x)
    | (intro x; refine (fun hx : Kept Q x => ?_) ?_; rotate_left; unfold x) | (intro x)
    | exact ok_lit 16 (by decide) hp16 | apply kept_ashNote c | apply kept_evalCh c hE hp16 hp2 hp22 hp3
    | apply kept_ftrip c hE hp16 hp2 hp22 hp3 | apply kept_safStick c hE hp2 hp22 hp3 | apply kept_w c
    | apply kept_ite | split | unfold x | lift_lets -underBinder

theorem kept_devCalm (c : Closed N I T M E K W Q) (hp16 : W 16) (a0 : State) (a1 : Nat) (ha0 : Kept Q a0) : Kept Q (State.devCalm a0 a1) := by
  unfold State.devCalm
  repeat' with_reducible first
    | assumption | exact ok_lit 16 (by decide) hp16 | apply kept_w c

theorem kept_xstate (c : Closed N I T M E K W Q) (hE : E) (hp16 : W 16) (hp2 : W 2) (hp22 : W 22) (hp3 : W 3) (a0 : State) (ha0 : Kept Q a0) : Kept Q (State.xstate a0) := by
  unfold State.xstate
  try lift_lets -underBinder
  repeat' with_reducible first
    | assumption | (intro x; refine (fun hx : Kept Q x => ?_) ?_; clear_value x) | (intro x; clear_value x)
    | (intro x; refine (fun hx : Kept Q x => ?_) ?_; rotate_left; unfold x) | (intro x)
    | exact kept_mk (kept_out (by with_reducible assumption)) | apply kept_devCalm c hp16
    | apply kept_devFault c hE hp16 hp2 hp22 hp3 | apply kept_ite | split | unfold x | lift_lets -underBinder

theorem kept_smEval (c : Closed N I T M E K W Q) (hE : E) (hp16 : W 16) (hp2 : W 2) (hp22 : W 22) (hp3 : W 3) (a0 : State) (a1 : Bool) (a2 : Nat → Bool) (a3 : Nat) (ha0 : Kept Q a0) : Kept Q (State.smEval a0 a1 a2 a3) := by
  unfold State.smEval
  repeat' with_reducible first
    | assumption | apply kept_evalCh c hE hp16 hp2 hp22 hp3 | apply kept_xstate c hE hp16 hp2 hp22 hp3
    | apply kept_ite | split

theorem kept_smBoth (c : Closed N I T M E K W Q) (hE : E) (hp16 : W 16) (hp2 : W 2) (hp22 : W 22) (hp3 : W 3) (a0 : State) (ha0 : Kept Q a0) : Kept Q (State.smBoth a0) := by
  unfold State.smBoth
  repeat' with_reducible first
    | assumption | apply kept_smEval c hE hp16 hp2 hp22 hp3

theorem kept_smSample (c : Closed N I T M E K W Q) (hE : E) (hp16 : W 16) (hp2 : W 2) (hp22 : W 22) (hp3 : W 3) (a0 : State) (ha0 : Kept Q a0) : Kept Q (State.smSample a0) := by
  unfold State.smSample
  try lift_lets -underBinder
  repeat' with_reducible first
    | assumption | (intro x; refine (fun hx : Kept Q x => ?_) ?_; clear_value x)
    | (intro x; refine (fun hx : Kept Q x.1 => ?_) ?_; clear_value x) | (intro x; clear_value x)
    | (intro x; refine (fun hx : Kept Q x => ?_) ?_; rotate_left; unfold x) | (intro x) | apply kept_each c
    | apply kept_ftrip c hE hp16 hp2 hp22 hp3 | apply kept_posUpdate c | apply kept_smEval c hE hp16 hp2 hp22 hp3
    | apply kept_ite | split | unfold x | lift_lets -underBinder

theorem kept_smNow (c : Closed N I T M E K W Q) (hE : E) (hp16 : W 16) (hp2 : W 2) (hp22 : W 22) (hp3 : W 3) (a0 : State) (ha0 : Kept Q a0) : Kept Q (State.smNow a0) := by
  unfold State.smNow
  repeat' with_reducible first
    | assumption | apply kept_ftrip c hE hp16 hp2 hp22 hp3 | apply kept_smEval c hE hp16 hp2 hp22 hp3

theorem kept_doEnvelopeBandFault (c : Closed N I T M E K W Q) (hE : E) (hp16 : W 16) (hp2 : W 2) (hp22 : W 22) (hp3 : W 3) (hp6 : W 6) (a0 : Nat) (a1 : Bool) (a2 : State) (ha2 : Kept Q a2) : Kept Q (doEnvelopeBandFault a0 a1 a2) := by
  unfold doEnvelopeBandFault
  try lift_lets -underBinder
  repeat' with_reducible first
    | assumption | (intro x; refine (fun hx : Kept Q x => ?_) ?_; clear_value x) | (intro x; clear_value x)
    | (intro x; refine (fun hx : Kept Q x => ?_) ?_; rotate_left; unfold x) | (intro x)
    | exact kept_mk (kept_out (by with_reducible assumption)) | exact ok_lit 6 (by decide) hp6
    | apply kept_smNow c hE hp16 hp2 hp22 hp3 | apply kept_stickEv c hE hp2 hp22 hp3 | apply kept_w c
    | apply kept_ite | split | unfold x | lift_lets -underBinder

theorem kept_doLossOfSignal (c : Closed N I T M E K W Q) (hE : E) (hp16 : W 16) (hp2 : W 2) (hp22 : W 22) (hp3 : W 3) (hp8 : W 8) (a0 : Nat) (a1 : State) (ha1 : Kept Q a1) : Kept Q (doLossOfSignal a0 a1) := by
  unfold doLossOfSignal
  try lift_lets -underBinder
  repeat' with_reducible first
    | assumption | (intro x; refine (fun hx : Kept Q x => ?_) ?_; clear_value x) | (intro x; clear_value x)
    | (intro x; refine (fun hx : Kept Q x => ?_) ?_; rotate_left; unfold x) | (intro x)
    | exact kept_mk (kept_out (by with_reducible assumption)) | exact ok_lit 8 (by decide) hp8
    | apply kept_obsStick c hE hp2 hp22 hp3 | apply kept_smNow c hE hp16 hp2 hp22 hp3 | apply kept_w c
    | apply kept_ite | split | unfold x | lift_lets -underBinder

theorem kept_smOutput (c : Closed N I T M E K W Q) (hE : E) (hp16 : W 16) (hp2 : W 2) (hp22 : W 22) (hp3 : W 3) (a0 : State) (a1 : Nat) (ha0 : Kept Q a0) : Kept Q (State.smOutput a0 a1) := by
  unfold State.smOutput
  try lift_lets -underBinder
  repeat' with_reducible first
    | assumption | (intro x; refine (fun hx : Kept Q x => ?_) ?_; clear_value x) | (intro x; clear_value x)
    | (intro x; refine (fun hx : Kept Q x => ?_) ?_; rotate_left; unfold x) | (intro x)
    | exact kept_mk (kept_out (by with_reducible assumption)) | apply kept_ftrip c hE hp16 hp2 hp22 hp3
    | apply kept_posUpdate c | apply kept_smEval c hE hp16 hp2 hp22 hp3 | apply kept_ite | split | unfold x
    | lift_lets -underBinder

theorem kept_discCount (c : Closed N I T M E K W Q) (a0 : State) (a1 : Bool) (ha0 : Kept Q a0) : Kept Q (State.discCount a0 a1) := by
  unfold State.discCount
  try lift_lets -underBinder
  repeat' with_reducible first
    | assumption | (intro x; refine (fun hx : Kept Q x => ?_) ?_; clear_value x) | (intro x; clear_value x)
    | (intro x; refine (fun hx : Kept Q x => ?_) ?_; rotate_left; unfold x) | (intro x)
    | exact kept_mk (kept_out (by with_reducible assumption)) | apply kept_ite | split | unfold x
    | lift_lets -underBinder

theorem kept_showDisc (c : Closed N I T M E K W Q) (hp16 : W 16) (a0 : State) (ha0 : Kept Q a0) : Kept Q (State.showDisc a0) := by
  unfold State.showDisc
  repeat' with_reducible first
    | assumption | exact ok_lit 16 (by decide) hp16 | apply kept_w c

theorem kept_doDiscrepancyFault (c : Closed N I T M E K W Q) (hE : E) (hp16 : W 16) (hp2 : W 2) (hp22 : W 22) (hp3 : W 3) (a0 : Bool) (a1 : Nat) (a2 : State) (ha2 : Kept Q a2) : Kept Q (doDiscrepancyFault a0 a1 a2) := by
  unfold doDiscrepancyFault
  try lift_lets -underBinder
  repeat' with_reducible first
    | assumption | (intro x; refine (fun hx : Kept Q x => ?_) ?_; clear_value x) | (intro x; clear_value x)
    | (intro x; refine (fun hx : Kept Q x => ?_) ?_; rotate_left; unfold x) | (intro x)
    | exact kept_mk (kept_out (by with_reducible assumption)) | exact ok_lit 16 (by decide) hp16
    | apply kept_here c | apply kept_showDisc c hp16 | apply kept_smEval c hE hp16 hp2 hp22 hp3
    | apply kept_stickBits c hE hp2 hp22 hp3 | apply kept_ite | split | unfold x | lift_lets -underBinder

theorem kept_discAck (c : Closed N I T M E K W Q) (hE : E) (hp16 : W 16) (hp2 : W 2) (hp22 : W 22) (hp3 : W 3) (a0 : State) (a1 : Nat) (ha0 : Kept Q a0) : Kept Q (State.discAck a0 a1) := by
  unfold State.discAck
  try lift_lets -underBinder
  repeat' with_reducible first
    | assumption | (intro x; refine (fun hx : Kept Q x => ?_) ?_; clear_value x) | (intro x; clear_value x)
    | (intro x; refine (fun hx : Kept Q x => ?_) ?_; rotate_left; unfold x) | (intro x)
    | exact kept_mk (kept_out (by with_reducible assumption)) | apply kept_showDisc c hp16
    | apply kept_smBoth c hE hp16 hp2 hp22 hp3 | apply foldl_kept | apply foldl_kept1 | apply kept_ite | split
    | unfold x | lift_lets -underBinder

theorem kept_setKey (c : Closed N I T M E K W Q) (a0 : State) (a1 : Sys2Proof.Path) (a2 : Nat) (ha0 : Kept Q a0) : Kept Q (State.setKey a0 a1 a2) := by
  unfold State.setKey
  try lift_lets -underBinder
  repeat' with_reducible first
    | assumption | (intro x; refine (fun hx : Kept Q x => ?_) ?_; clear_value x) | (intro x; clear_value x)
    | (intro x; refine (fun hx : Kept Q x => ?_) ?_; rotate_left; unfold x) | (intro x)
    | exact kept_mk (kept_out (by with_reducible assumption)) | apply kept_ite | split | unfold x
    | lift_lets -underBinder

theorem kept_keyErr (c : Closed N I T M E K W Q) (hE : E) (hp16 : W 16) (hp2 : W 2) (hp22 : W 22) (hp3 : W 3) (a0 : State) (ha0 : Kept Q a0) : Kept Q (State.keyErr a0) := by
  unfold State.keyErr
  repeat' with_reducible first
    | assumption | exact ok_lit 16 (by decide) hp16 | apply kept_bump c | apply kept_safStick c hE hp2 hp22 hp3

theorem kept_safKey (c : Closed N I T M E K W Q) (hE : E) (hp16 : W 16) (hp2 : W 2) (hp22 : W 22) (hp3 : W 3) (a0 : State) (a1 : Sys2Proof.Path) (a2 : Nat) (ha0 : Kept Q a0) : Kept Q (State.safKey a0 a1 a2) := by
  unfold State.safKey
  repeat' with_reducible first
    | assumption | apply kept_keyErr c hE hp16 hp2 hp22 hp3 | apply kept_setKey c | apply kept_ite | split

theorem kept_doKeyWindowLapse (c : Closed N I T M E K W Q) (a0 : Sys2Proof.Path) (a1 : State) (ha1 : Kept Q a1) : Kept Q (doKeyWindowLapse a0 a1) := by
  unfold doKeyWindowLapse
  repeat' with_reducible first
    | assumption | apply kept_here c | apply kept_setKey c | apply kept_ite | split

theorem kept_keyed (c : Closed N I T M E K W Q) (hE : E) (hp16 : W 16) (hp2 : W 2) (hp22 : W 22) (hp3 : W 3) (a0 : State) (a1 : Sys2Proof.Path) (a2 : State → State) (ha0 : Kept Q a0) (ha2 : ∀ s, Kept Q s → Kept Q (a2 s)) : Kept Q (State.keyed a0 a1 a2).1 := by
  unfold State.keyed
  repeat' with_reducible first
    | assumption | apply kept_keyErr c hE hp16 hp2 hp22 hp3 | apply kept_setKey c | apply ha2 | apply kept_ite
    | split

theorem kept_safApply (c : Closed N I T M E K W Q) (hE : E) (hp16 : W 16) (hp2 : W 2) (hp22 : W 22) (hp3 : W 3) (s : State) (h : Kept Q s) : Kept Q s.safApply := by
  unfold State.safApply
  lift_lets -underBinder
  intro res x
  have h1 : Kept Q x := kept_w c _ _ _ _ (ok_lit 16 (by decide) hp16) h
  clear_value x
  split
  · exact kept_safStick c hE hp2 hp22 hp3 _ _ _ h1 (ok_lit 16 (by decide) hp16)
  · exact kept_w c _ _ _ _ (ok_lit 16 (by decide) hp16) (c.hold _ _ h1)

theorem inImage_page {k : Nat} (h : inImage (keyBase k) = true) : keyPage k = 16 ∨ keyPage k = 17 := by
  have e : keyPage k = keyBase k / 4096 := by unfold keyPage keyBase; omega
  rw [e]
  revert h
  generalize keyBase k = b
  intro h
  simp only [inImage, Bool.or_eq_true, Bool.and_eq_true, decide_eq_true_eq] at h
  omega

theorem kept_safDiscard (c : Closed N I T M E K W Q) (hp16 : W 16) (hp17 : W 17) (s : State) (h : Kept Q s) : Kept Q s.safDiscard := by
  have hW : ∀ k, inImage (keyBase k) = true → W (keyPage k) := fun k hk => by
    rcases inImage_page hk with e | e
    · rw [e]; exact hp16
    · rw [e]; exact hp17
  have key : ∀ (l : List (Nat × Nat)) (d : Store), (∀ f ∈ l, inImage (keyBase f.1) = true) → Q d →
      Q { d with fields := l.foldl (fun m f => SMap.set 0 m f.1 f.2) d.fields } := by
    intro l
    induction l with
    | nil => intro d _ hd; exact hd
    | cons f l ih =>
      intro d hl hd
      exact ih _ (fun g hg => hl g (List.mem_cons_of_mem _ hg)) (c.field d f.1 f.2 (hW _ (hl f List.mem_cons_self)) hd)
  refine key _ { store s with fields := s.fields.filter fun f => !inImage (keyBase f.1) } ?_ ?_
  · intro f hf
    exact (List.mem_filter.mp hf).2
  · refine c.keep _ _ (fun x hx => ?_) h
    simp only [Bool.not_eq_false'] at hx
    exact hW _ hx

theorem kept_connApply (c : Closed N I T M E K W Q) (hp17 : W 17) (a0 : State) (a1 : Nat) (a2 : Nat) (ha0 : Kept Q a0) : Kept Q (State.connApply a0 a1 a2) := by
  unfold State.connApply
  try lift_lets -underBinder
  repeat' with_reducible first
    | assumption | (intro x; refine (fun hx : Kept Q x => ?_) ?_; clear_value x) | (intro x; clear_value x)
    | (intro x; refine (fun hx : Kept Q x => ?_) ?_; rotate_left; unfold x) | (intro x)
    | exact kept_mk (kept_out (by with_reducible assumption)) | exact ok_lit 17 (by decide) hp17
    | apply kept_updConn c | apply kept_w c | apply kept_ite | split | unfold x | lift_lets -underBinder

theorem kept_takeImage (c : Closed N I T M E K W Q) (hE : E) (hI : I) (hp16 : W 16) (hp17 : W 17) (hp2 : W 2) (hp22 : W 22) (hp3 : W 3) (s : State) (img : List (Nat × Nat))
    (h : Q { store s with actA := img, actB := img, wait := none }) : Kept Q (s.takeImage img) := by
  unfold State.takeImage
  lift_lets
  intro old s'
  have h1 : Kept Q s' := h
  clear_value s'
  intro x
  have h2 : Kept Q x :=
    kept_each c _ _ _ h1 fun s a hs => foldl_kept _ (fun s b hs => kept_updAx c _ _ _ _ (kept_axTo c hE hp16 hp2 hp22 hp3 _ _ _ _ _ hs)) hs
  clear_value x
  intro y
  have h3 : Kept Q y := kept_w c _ _ _ _ (ok_lit 16 (by decide) hp16) h2
  clear_value y
  exact kept_each c _ _ _ h3 fun s n hs => kept_connApply c hp17 _ _ _ hs

theorem kept_imageTick (c : Closed N I T M E K W Q) (hE : E) (hI : I) (hp16 : W 16) (hp17 : W 17) (hp2 : W 2) (hp22 : W 22) (hp3 : W 3) (s : State) (h : Kept Q s) : Kept Q s.imageTick := by
  unfold State.imageTick
  split
  · rename_i img e
    refine kept_evalCh c hE hp16 hp2 hp22 hp3 _ _ _ _ (kept_safStick c hE hp2 hp22 hp3 _ _ _ ?_ (ok_lit 16 (by decide) hp16))
    refine kept_w c _ _ _ _ (ok_lit 16 (by decide) hp16) (kept_w c _ _ _ _ (ok_lit 16 (by decide) hp16) ?_)
    exact kept_takeImage c hE hI hp16 hp17 hp2 hp22 hp3 _ _ (c.image hI _ _ e h)
  · exact h

theorem kept_doConfigCrcCompare (c : Closed N I T M E K W Q) (hE : E) (hp16 : W 16) (hp2 : W 2) (hp22 : W 22) (hp3 : W 3) (a0 : State) (ha0 : Kept Q a0) : Kept Q (doConfigCrcCompare a0) := by
  unfold doConfigCrcCompare
  repeat' with_reducible first
    | assumption | apply kept_devFault c hE hp16 hp2 hp22 hp3 | apply kept_here c | apply kept_ite | split

theorem kept_doSmATick (c : Closed N I T M E K W Q) (hE : E) (hp16 : W 16) (hp2 : W 2) (hp22 : W 22) (hp3 : W 3) (a0 : State) (ha0 : Kept Q a0) : Kept Q (doSmATick a0) := by
  unfold doSmATick
  repeat' with_reducible first
    | assumption | (intro x; refine (fun hx : Kept Q x => ?_) ?_; clear_value x) | (intro x; clear_value x)
    | (intro x; refine (fun hx : Kept Q x => ?_) ?_; rotate_left; unfold x) | (intro x) | apply kept_discCount c
    | apply kept_here c | apply kept_smEval c hE hp16 hp2 hp22 hp3 | apply kept_ite | split | unfold x
    | lift_lets -underBinder

theorem kept_doSmBTick (c : Closed N I T M E K W Q) (hE : E) (hI : I) (hp16 : W 16) (hp17 : W 17) (hp2 : W 2) (hp22 : W 22) (hp3 : W 3) (a0 : State) (ha0 : Kept Q a0) : Kept Q (doSmBTick a0) := by
  unfold doSmBTick
  repeat' with_reducible first
    | assumption | apply kept_discCount c | apply kept_here c
    | apply kept_imageTick c hE hI hp16 hp17 hp2 hp22 hp3 | apply kept_smEval c hE hp16 hp2 hp22 hp3
    | apply kept_ite | split

theorem kept_doSafeInputFiltered (c : Closed N I T M E K W Q) (hE : E) (hp16 : W 16) (hp2 : W 2) (hp22 : W 22) (hp3 : W 3) (a0 : Bool) (a1 : Nat) (a2 : Nat) (a3 : Bool) (a4 : Nat) (a5 : State) (ha5 : Kept Q a5) : Kept Q (doSafeInputFiltered a0 a1 a2 a3 a4 a5) := by
  unfold doSafeInputFiltered
  try lift_lets -underBinder
  repeat' with_reducible first
    | assumption | (intro x; refine (fun hx : Kept Q x => ?_) ?_; clear_value x) | (intro x; clear_value x)
    | (intro x; refine (fun hx : Kept Q x => ?_) ?_; rotate_left; unfold x) | (intro x)
    | exact kept_mk (kept_out (by with_reducible assumption)) | exact ok_lit 16 (by decide) hp16
    | apply kept_here c | apply kept_smEval c hE hp16 hp2 hp22 hp3 | apply kept_w c | apply kept_ite | split
    | unfold x | lift_lets -underBinder

theorem kept_siStart (c : Closed N I T M E K W Q) (hp16 : W 16) (a0 : State) (ha0 : Kept Q a0) : Kept Q (State.siStart a0) := by
  unfold State.siStart
  try lift_lets -underBinder
  repeat' with_reducible first
    | assumption | (intro x; refine (fun hx : Kept Q x => ?_) ?_; clear_value x) | (intro x; clear_value x)
    | (intro x; refine (fun hx : Kept Q x => ?_) ?_; rotate_left; unfold x) | (intro x)
    | exact kept_mk (kept_out (by with_reducible assumption)) | exact ok_lit 16 (by decide) hp16 | apply kept_w c
    | apply foldl_kept | apply foldl_kept1 | apply kept_ite | split | unfold x | lift_lets -underBinder

theorem kept_axisAck (c : Closed N I T M E K W Q) (hE : E) (hp16 : W 16) (hp2 : W 2) (hp22 : W 22) (hp3 : W 3) (a0 : State) (a1 : Nat) (ha0 : Kept Q a0) : Kept Q (State.axisAck a0 a1) := by
  unfold State.axisAck
  repeat' with_reducible first
    | assumption | (intro x; refine (fun hx : Kept Q x => ?_) ?_; clear_value x) | (intro x; clear_value x)
    | (intro x; refine (fun hx : Kept Q x => ?_) ?_; rotate_left; unfold x) | (intro x)
    | apply kept_smEval c hE hp16 hp2 hp22 hp3 | apply kept_ite | split | unfold x | lift_lets -underBinder

theorem kept_devAck (c : Closed N I T M E K W Q) (hE : E) (hp16 : W 16) (hp2 : W 2) (hp22 : W 22) (hp3 : W 3) (a0 : State) (ha0 : Kept Q a0) : Kept Q (State.devAck a0) := by
  unfold State.devAck
  try lift_lets -underBinder
  repeat' with_reducible first
    | assumption | (intro x; refine (fun hx : Kept Q x => ?_) ?_; clear_value x) | (intro x; clear_value x)
    | (intro x; refine (fun hx : Kept Q x => ?_) ?_; rotate_left; unfold x) | (intro x)
    | exact kept_mk (kept_out (by with_reducible assumption)) | exact ok_lit 16 (by decide) hp16
    | apply kept_ftrip c hE hp16 hp2 hp22 hp3 | apply kept_smBoth c hE hp16 hp2 hp22 hp3 | apply kept_w c
    | apply kept_wb c | apply foldl_kept | apply foldl_kept1 | apply kept_ite | split | unfold x
    | lift_lets -underBinder

theorem kept_devLive (c : Closed N I T M E K W Q) (hE : E) (hp16 : W 16) (hp2 : W 2) (hp22 : W 22) (hp3 : W 3) (a0 : State) (a1 : Nat) (a2 : Bool) (ha0 : Kept Q a0) : Kept Q (State.devLive a0 a1 a2) := by
  unfold State.devLive
  repeat' with_reducible first
    | assumption | apply kept_devCalm c hp16 | apply kept_devFault c hE hp16 hp2 hp22 hp3 | apply kept_ite | split

theorem kept_doDeviceFault (c : Closed N I T M E K W Q) (hE : E) (hp16 : W 16) (hp2 : W 2) (hp22 : W 22) (hp3 : W 3) (a0 : Sys2Proof.MonIn) (a1 : Nat) (a2 : State) (ha2 : Kept Q a2) : Kept Q (doDeviceFault a0 a1 a2) := by
  unfold doDeviceFault
  repeat' with_reducible first
    | assumption | apply kept_devLive c hE hp16 hp2 hp22 hp3 | apply kept_here c | apply kept_ite | split

theorem kept_doPermitReadbackFault (c : Closed N I T M E K W Q) (hE : E) (hp16 : W 16) (hp2 : W 2) (hp22 : W 22) (hp3 : W 3) (a0 : Sys2Proof.ReadIn) (a1 : Nat) (a2 : State) (ha2 : Kept Q a2) : Kept Q (doPermitReadbackFault a0 a1 a2) := by
  unfold doPermitReadbackFault
  repeat' with_reducible first
    | assumption | apply kept_devLive c hE hp16 hp2 hp22 hp3 | apply kept_here c | apply kept_ite | split

theorem kept_noticeSwap (c : Closed N I T M E K W Q) (hE : E) (hp16 : W 16) (hp2 : W 2) (hp22 : W 22) (hp3 : W 3) (a0 : State) (a1 : Nat) (a2 : Nat) (ha0 : Kept Q a0) : Kept Q (State.noticeSwap a0 a1 a2) := by
  unfold State.noticeSwap
  try lift_lets -underBinder
  repeat' with_reducible first
    | assumption | (intro x; refine (fun hx : Kept Q x => ?_) ?_; clear_value x) | (intro x; clear_value x)
    | (intro x; refine (fun hx : Kept Q x => ?_) ?_; rotate_left; unfold x) | (intro x)
    | exact kept_mk (kept_out (by with_reducible assumption)) | exact ok_lit 16 (by decide) hp16
    | apply kept_safStick c hE hp2 hp22 hp3 | apply kept_w c | apply kept_ite | split | unfold x
    | lift_lets -underBinder

theorem kept_noticeInj (c : Closed N I T M E K W Q) (hE : E) (hp16 : W 16) (hp2 : W 2) (hp22 : W 22) (hp3 : W 3) (a0 : State) (a1 : Nat) (a2 : Nat) (a3 : Bool) (ha0 : Kept Q a0) : Kept Q (State.noticeInj a0 a1 a2 a3) := by
  unfold State.noticeInj
  try lift_lets -underBinder
  repeat' with_reducible first
    | assumption | (intro x; refine (fun hx : Kept Q x => ?_) ?_; clear_value x) | (intro x; clear_value x)
    | (intro x; refine (fun hx : Kept Q x => ?_) ?_; rotate_left; unfold x) | (intro x)
    | exact ok_lit 16 (by decide) hp16 | apply kept_safStick c hE hp2 hp22 hp3 | apply kept_w c | apply kept_wb c
    | unfold x | lift_lets -underBinder

theorem kept_noticeGap (c : Closed N I T M E K W Q) (hE : E) (hp16 : W 16) (hp2 : W 2) (hp22 : W 22) (hp3 : W 3) (a0 : State) (a1 : List Nat) (ha0 : Kept Q a0) : Kept Q (State.noticeGap a0 a1) := by
  unfold State.noticeGap
  try lift_lets -underBinder
  repeat' with_reducible first
    | assumption | (intro x; refine (fun hx : Kept Q x => ?_) ?_; clear_value x)
    | (intro x; refine (fun hx : Kept Q x.1 => ?_) ?_; clear_value x) | (intro x; clear_value x)
    | (intro x; refine (fun hx : Kept Q x => ?_) ?_; rotate_left; unfold x) | (intro x)
    | exact kept_mk (kept_out (by with_reducible assumption)) | exact ok_lit 16 (by decide) hp16
    | apply kept_safStick c hE hp2 hp22 hp3 | apply kept_ite | split | unfold x | lift_lets -underBinder

theorem kept_connStick (c : Closed N I T M E K W Q) (hE : E) (hp2 : W 2) (hp22 : W 22) (hp3 : W 3) (a0 : State) (a1 : Fld) (ha0 : Kept Q a0) (ha1 : OkFld W a1) : Kept Q (State.connStick a0 a1) := by
  unfold State.connStick
  repeat' with_reducible first
    | assumption | apply kept_safStick c hE hp2 hp22 hp3

theorem kept_connErr (c : Closed N I T M E K W Q) (hp17 : W 17) (a0 : State) (a1 : Nat) (a2 : Nat) (ha0 : Kept Q a0) : Kept Q (State.connErr a0 a1 a2) := by
  unfold State.connErr
  repeat' with_reducible first
    | assumption | exact ok_lit 17 (by decide) hp17 | apply kept_w c

theorem kept_sendDropped (c : Closed N I T M E K W Q) (hE : E) (hp16 : W 16) (hp17 : W 17) (hp2 : W 2) (hp22 : W 22) (hp3 : W 3) (a0 : State) (a1 : Nat) (ha0 : Kept Q a0) : Kept Q (State.sendDropped a0 a1) := by
  unfold State.sendDropped
  repeat' with_reducible first
    | assumption | exact ok_lit 16 (by decide) hp16 | apply kept_bump c | apply kept_connErr c hp17
    | apply kept_connStick c hE hp2 hp22 hp3

theorem kept_nextSeq (c : Closed N I T M E K W Q) (hE : E) (hp16 : W 16) (hp17 : W 17) (hp2 : W 2) (hp22 : W 22) (hp3 : W 3) (a0 : State) (a1 : Nat) (ha0 : Kept Q a0) : Kept Q (State.nextSeq a0 a1) := by
  unfold State.nextSeq
  try lift_lets -underBinder
  repeat' with_reducible first
    | assumption | (intro x; refine (fun hx : Kept Q x => ?_) ?_; clear_value x) | (intro x; clear_value x)
    | (intro x; refine (fun hx : Kept Q x => ?_) ?_; rotate_left; unfold x) | (intro x)
    | exact ok_lit 16 (by decide) hp16 | exact ok_lit 17 (by decide) hp17 | apply kept_connStick c hE hp2 hp22 hp3
    | apply kept_w c | apply kept_ite | split | unfold x | lift_lets -underBinder

theorem kept_generate (c : Closed N I T M E K W Q) (hE : E) (hM : M) (hp16 : W 16) (hp17 : W 17) (hp18 : W 18) (hp2 : W 2) (hp22 : W 22) (hp3 : W 3) (a0 : State) (a1 : Nat) (a2 : List Sys2Proof.Byte) (ha0 : Kept Q a0) : Kept Q (State.generate a0 a1 a2) := by
  unfold State.generate
  try lift_lets -underBinder
  repeat' with_reducible first
    | assumption | (intro x; refine (fun hx : Kept Q x => ?_) ?_; clear_value x) | (intro x; clear_value x)
    | (intro x; refine (fun hx : Kept Q x => ?_) ?_; rotate_left; unfold x) | (intro x) | apply kept_each c
    | apply kept_nextSeq c hE hp16 hp17 hp2 hp22 hp3 | apply kept_safeLoad c hE hM hp18 hp2 hp22 hp3
    | apply kept_sendDropped c hE hp16 hp17 hp2 hp22 hp3 | apply kept_ite | split | unfold x
    | lift_lets -underBinder

theorem kept_doPduGenerate (c : Closed N I T M E K W Q) (hE : E) (hM : M) (hp16 : W 16) (hp17 : W 17) (hp18 : W 18) (hp2 : W 2) (hp22 : W 22) (hp3 : W 3) (a0 : Nat) (a1 : State) (ha1 : Kept Q a1) : Kept Q (doPduGenerate a0 a1) := by
  unfold doPduGenerate
  try lift_lets -underBinder
  repeat' with_reducible first
    | assumption | (intro x; refine (fun hx : Kept Q x => ?_) ?_; clear_value x) | (intro x; clear_value x)
    | (intro x; refine (fun hx : Kept Q x => ?_) ?_; rotate_left; unfold x) | (intro x)
    | exact kept_mk (kept_out (by with_reducible assumption))
    | apply kept_generate c hE hM hp16 hp17 hp18 hp2 hp22 hp3 | apply kept_updConn c | apply kept_ite | split
    | unfold x | lift_lets -underBinder

theorem kept_safSend (c : Closed N I T M E K W Q) (hE : E) (hM : M) (hp16 : W 16) (hp17 : W 17) (hp18 : W 18) (hp2 : W 2) (hp22 : W 22) (hp3 : W 3) (a0 : State) (ha0 : Kept Q a0) : Kept Q (State.safSend a0) := by
  unfold State.safSend
  try lift_lets -underBinder
  repeat' with_reducible first
    | assumption | (intro x; refine (fun hx : Kept Q x => ?_) ?_; clear_value x) | (intro x; clear_value x)
    | (intro x; refine (fun hx : Kept Q x => ?_) ?_; rotate_left; unfold x) | (intro x)
    | apply kept_generate c hE hM hp16 hp17 hp18 hp2 hp22 hp3 | apply kept_ite | split | unfold x
    | lift_lets -underBinder

theorem kept_safeTx (c : Closed N I T M E K W Q) (hE : E) (hM : M) (hp16 : W 16) (hp17 : W 17) (hp18 : W 18) (hp2 : W 2) (hp22 : W 22) (hp3 : W 3) (a0 : State) (a1 : Nat) (ha0 : Kept Q a0) : Kept Q (State.safeTx a0 a1).1 := by
  unfold State.safeTx
  try lift_lets -underBinder
  repeat' with_reducible first
    | assumption | (intro x; refine (fun hx : Kept Q x => ?_) ?_; clear_value x)
    | (intro x; refine (fun hx : Kept Q x.1 => ?_) ?_; clear_value x) | (intro x; clear_value x)
    | (intro x; refine (fun hx : Kept Q x => ?_) ?_; rotate_left; unfold x) | (intro x)
    | exact kept_mk (kept_out (by with_reducible assumption))
    | apply kept_generate c hE hM hp16 hp17 hp18 hp2 hp22 hp3 | apply kept_ite | split | unfold x
    | lift_lets -underBinder

theorem kept_doPduAgeExpiry (c : Closed N I T M E K W Q) (hE : E) (hM : M) (hp16 : W 16) (hp17 : W 17) (hp18 : W 18) (hp2 : W 2) (hp22 : W 22) (hp3 : W 3) (a0 : Nat) (a1 : Nat) (a2 : State) (ha2 : Kept Q a2) : Kept Q (doPduAgeExpiry a0 a1 a2) := by
  unfold doPduAgeExpiry
  try lift_lets -underBinder
  repeat' with_reducible first
    | assumption | (intro x; refine (fun hx : Kept Q x => ?_) ?_; clear_value x) | (intro x; clear_value x)
    | (intro x; refine (fun hx : Kept Q x => ?_) ?_; rotate_left; unfold x) | (intro x)
    | exact kept_mk (kept_out (by with_reducible assumption)) | apply kept_canCancel c hE hM hp18 hp2 hp22 hp3
    | refine fst_kept ‹_› ?_ | apply kept_sendDropped c hE hp16 hp17 hp2 hp22 hp3 | apply kept_updConn c
    | apply kept_ite | split | unfold x | lift_lets -underBinder

theorem kept_connFault (c : Closed N I T M E K W Q) (hE : E) (hp16 : W 16) (hp17 : W 17) (hp2 : W 2) (hp22 : W 22) (hp3 : W 3) (a0 : State) (a1 : Nat) (a2 : Nat) (ha0 : Kept Q a0) : Kept Q (State.connFault a0 a1 a2) := by
  unfold State.connFault
  try lift_lets -underBinder
  repeat' with_reducible first
    | assumption | (intro x; refine (fun hx : Kept Q x => ?_) ?_; clear_value x) | (intro x; clear_value x)
    | (intro x; refine (fun hx : Kept Q x => ?_) ?_; rotate_left; unfold x) | (intro x)
    | exact kept_mk (kept_out (by with_reducible assumption)) | exact ok_lit 16 (by decide) hp16
    | exact ok_lit 17 (by decide) hp17 | apply kept_connErr c hp17 | apply kept_connStick c hE hp2 hp22 hp3
    | apply kept_updConn c | apply kept_w c | apply kept_ite | split | unfold x | lift_lets -underBinder

theorem kept_discard1 (c : Closed N I T M E K W Q) (hE : E) (hp17 : W 17) (hp2 : W 2) (hp22 : W 22) (hp3 : W 3) (a0 : State) (a1 : Nat) (a2 : Fld) (a3 : Fld) (a4 : Nat) (ha0 : Kept Q a0) (ha2 : OkFld W a2) (ha3 : OkFld W a3) : Kept Q (State.discard1 a0 a1 a2 a3 a4) := by
  unfold State.discard1
  repeat' with_reducible first
    | assumption | apply kept_bump c | apply kept_connErr c hp17 | apply kept_connStick c hE hp2 hp22 hp3

theorem kept_deliver (c : Closed N I T M E K W Q) (hE : E) (hp16 : W 16) (hp17 : W 17) (hp2 : W 2) (hp22 : W 22) (hp3 : W 3) (a0 : State) (a1 : Nat) (a2 : List Sys2Proof.Byte) (a3 : Nat) (a4 : Bool) (ha0 : Kept Q a0) : Kept Q (State.deliver a0 a1 a2 a3 a4) := by
  unfold State.deliver
  try lift_lets -underBinder
  repeat' with_reducible first
    | assumption | (intro x; refine (fun hx : Kept Q x => ?_) ?_; clear_value x) | (intro x; clear_value x)
    | (intro x; refine (fun hx : Kept Q x => ?_) ?_; rotate_left; unfold x) | (intro x)
    | exact kept_mk (kept_out (by with_reducible assumption)) | exact ok_lit 16 (by decide) hp16
    | exact ok_lit 17 (by decide) hp17 | apply kept_connStick c hE hp2 hp22 hp3
    | apply kept_discard1 c hE hp17 hp2 hp22 hp3 | apply kept_record c hE hp2 hp22 hp3
    | apply kept_smBoth c hE hp16 hp2 hp22 hp3 | apply kept_updConn c | apply kept_w c | apply kept_ite | split
    | unfold x | lift_lets -underBinder

theorem kept_safeCopy (c : Closed N I T M E K W Q) (hE : E) (hp16 : W 16) (hp17 : W 17) (hp2 : W 2) (hp22 : W 22) (hp3 : W 3) (a0 : State) (a1 : Nat) (a2 : Nat) (a3 : List Sys2Proof.Byte) (ha0 : Kept Q a0) : Kept Q (State.safeCopy a0 a1 a2 a3) := by
  unfold State.safeCopy
  try lift_lets -underBinder
  repeat' with_reducible first
    | assumption | (intro x; refine (fun hx : Kept Q x => ?_) ?_; clear_value x) | (intro x; clear_value x)
    | (intro x; refine (fun hx : Kept Q x => ?_) ?_; rotate_left; unfold x) | (intro x)
    | exact kept_mk (kept_out (by with_reducible assumption)) | exact ok_lit 16 (by decide) hp16
    | apply kept_connFault c hE hp16 hp17 hp2 hp22 hp3 | apply kept_connStick c hE hp2 hp22 hp3
    | apply kept_deliver c hE hp16 hp17 hp2 hp22 hp3 | apply kept_discard1 c hE hp17 hp2 hp22 hp3
    | apply kept_smBoth c hE hp16 hp2 hp22 hp3 | apply kept_updConn c | apply kept_ite | split | unfold x
    | lift_lets -underBinder

theorem kept_safeRx (c : Closed N I T M E K W Q) (hE : E) (hp16 : W 16) (hp17 : W 17) (hp2 : W 2) (hp22 : W 22) (hp3 : W 3) (a0 : State) (a1 : Nat) (a2 : Sys2Proof.CanFrame) (ha0 : Kept Q a0) : Kept Q (State.safeRx a0 a1 a2) := by
  unfold State.safeRx
  repeat' with_reducible first
    | assumption | (intro x; refine (fun hx : Kept Q x => ?_) ?_; clear_value x) | (intro x; clear_value x)
    | (intro x; refine (fun hx : Kept Q x => ?_) ?_; rotate_left; unfold x) | (intro x)
    | apply kept_safeCopy c hE hp16 hp17 hp2 hp22 hp3 | apply foldl_kept | apply foldl_kept1 | apply kept_ite
    | split | unfold x | lift_lets -underBinder

theorem kept_doPairTimeout (c : Closed N I T M E K W Q) (hE : E) (hp16 : W 16) (hp17 : W 17) (hp2 : W 2) (hp22 : W 22) (hp3 : W 3) (a0 : Nat) (a1 : State) (ha1 : Kept Q a1) : Kept Q (doPairTimeout a0 a1) := by
  unfold doPairTimeout
  try lift_lets -underBinder
  repeat' with_reducible first
    | assumption | (intro x; refine (fun hx : Kept Q x => ?_) ?_; clear_value x) | (intro x; clear_value x)
    | (intro x; refine (fun hx : Kept Q x => ?_) ?_; rotate_left; unfold x) | (intro x)
    | exact kept_mk (kept_out (by with_reducible assumption)) | apply kept_deliver c hE hp16 hp17 hp2 hp22 hp3
    | apply kept_updConn c | apply kept_ite | split | unfold x | lift_lets -underBinder

theorem kept_doSingleTimeout (c : Closed N I T M E K W Q) (hE : E) (hp16 : W 16) (hp17 : W 17) (hp2 : W 2) (hp22 : W 22) (hp3 : W 3) (a0 : Nat) (a1 : State) (ha1 : Kept Q a1) : Kept Q (doSingleTimeout a0 a1) := by
  unfold doSingleTimeout
  try lift_lets -underBinder
  repeat' with_reducible first
    | assumption | (intro x; refine (fun hx : Kept Q x => ?_) ?_; clear_value x) | (intro x; clear_value x)
    | (intro x; refine (fun hx : Kept Q x => ?_) ?_; rotate_left; unfold x) | (intro x)
    | exact kept_mk (kept_out (by with_reducible assumption)) | apply kept_connFault c hE hp16 hp17 hp2 hp22 hp3
    | apply kept_smBoth c hE hp16 hp2 hp22 hp3 | apply kept_ite | split | unfold x | lift_lets -underBinder

theorem kept_doConnectionTimeout (c : Closed N I T M E K W Q) (hE : E) (hp16 : W 16) (hp17 : W 17) (hp2 : W 2) (hp22 : W 22) (hp3 : W 3) (a0 : Nat) (a1 : State) (ha1 : Kept Q a1) : Kept Q (doConnectionTimeout a0 a1) := by
  unfold doConnectionTimeout
  try lift_lets -underBinder
  repeat' with_reducible first
    | assumption | (intro x; refine (fun hx : Kept Q x => ?_) ?_; clear_value x) | (intro x; clear_value x)
    | (intro x; refine (fun hx : Kept Q x => ?_) ?_; rotate_left; unfold x) | (intro x)
    | exact kept_mk (kept_out (by with_reducible assumption)) | apply kept_connFault c hE hp16 hp17 hp2 hp22 hp3
    | apply kept_smBoth c hE hp16 hp2 hp22 hp3 | apply kept_ite | split | unfold x | lift_lets -underBinder

theorem kept_connAck (c : Closed N I T M E K W Q) (hp17 : W 17) (a0 : State) (a1 : Nat) (ha0 : Kept Q a0) : Kept Q (State.connAck a0 a1) := by
  unfold State.connAck
  try lift_lets -underBinder
  repeat' with_reducible first
    | assumption | (intro x; refine (fun hx : Kept Q x => ?_) ?_; clear_value x) | (intro x; clear_value x)
    | (intro x; refine (fun hx : Kept Q x => ?_) ?_; rotate_left; unfold x) | (intro x)
    | exact kept_mk (kept_out (by with_reducible assumption)) | exact ok_lit 17 (by decide) hp17
    | apply kept_updConn c | apply kept_w c | apply kept_ite | split | unfold x | lift_lets -underBinder

theorem kept_setCdata (c : Closed N I T M E K W Q) (a0 : State) (a1 : Nat) (a2 : Nat) (ha0 : Kept Q a0) : Kept Q (State.setCdata a0 a1 a2) := by
  unfold State.setCdata
  try lift_lets -underBinder
  repeat' with_reducible first
    | assumption | (intro x; refine (fun hx : Kept Q x => ?_) ?_; clear_value x) | (intro x; clear_value x)
    | (intro x; refine (fun hx : Kept Q x => ?_) ?_; rotate_left; unfold x) | (intro x)
    | exact kept_mk (kept_out (by with_reducible assumption)) | apply kept_updConn c | apply kept_ite | split
    | unfold x | lift_lets -underBinder

theorem kept_doCanSelection (c : Closed N I T M E K W Q) (hE : E) (hM : M) (hp18 : W 18) (hp2 : W 2) (hp22 : W 22) (hp3 : W 3) (a0 : Nat) (a1 : State) (ha1 : Kept Q a1) : Kept Q (doCanSelection a0 a1) := by
  unfold doCanSelection
  repeat' with_reducible first
    | assumption | apply kept_canSelect c hE hM hp18 hp2 hp22 hp3 | apply kept_here c

theorem kept_doCanFrameSent (c : Closed N I T M E K W Q) (hE : E) (hM : M) (hp18 : W 18) (hp2 : W 2) (hp22 : W 22) (hp3 : W 3) (a0 : Nat) (a1 : Nat) (a2 : State) (ha2 : Kept Q a2) : Kept Q (doCanFrameSent a0 a1 a2) := by
  unfold doCanFrameSent
  repeat' with_reducible first
    | assumption | apply kept_canSent c hE hM hp18 hp2 hp22 hp3 | apply kept_here c

theorem kept_doCanError (c : Closed N I T M E K W Q) (hE : E) (hM : M) (hp18 : W 18) (hp2 : W 2) (hp22 : W 22) (hp3 : W 3) (a0 : Nat) (a1 : Sys2Proof.CanErrIn) (a2 : State) (ha2 : Kept Q a2) : Kept Q (doCanError a0 a1 a2) := by
  unfold doCanError
  repeat' with_reducible first
    | assumption | apply kept_canErr c hE hM hp18 hp2 hp22 hp3 | apply kept_here c

theorem kept_doCanFrameReceived (c : Closed N I T M E K W Q) (hE : E) (hM : M) (hp16 : W 16) (hp17 : W 17) (hp18 : W 18) (hp2 : W 2) (hp22 : W 22) (hp3 : W 3) (a0 : Nat) (a1 : Sys2Proof.CanFrame) (a2 : State) (ha2 : Kept Q a2) : Kept Q (doCanFrameReceived a0 a1 a2) := by
  unfold doCanFrameReceived
  repeat' with_reducible first
    | assumption | apply kept_canRx c hE hM hp18 hp2 hp22 hp3 | apply kept_here c
    | apply kept_safeRx c hE hp16 hp17 hp2 hp22 hp3 | apply kept_ite | split

theorem kept_doProtocolException (c : Closed N I T M E K W Q) (hE : E) (hM : M) (hp18 : W 18) (hp2 : W 2) (hp22 : W 22) (hp3 : W 3) (a0 : Nat) (a1 : State) (ha1 : Kept Q a1) : Kept Q (doProtocolException a0 a1) := by
  unfold doProtocolException
  repeat' with_reducible first
    | assumption | exact ok_lit 18 (by decide) hp18 | apply kept_canErr c hE hM hp18 hp2 hp22 hp3
    | apply kept_canStick c hE hp2 hp22 hp3 | apply kept_here c | apply kept_w c | apply kept_ite | split

theorem kept_doRecoveryEnd (c : Closed N I T M E K W Q) (hE : E) (hM : M) (hp18 : W 18) (hp2 : W 2) (hp22 : W 22) (hp3 : W 3) (a0 : Nat) (a1 : State) (ha1 : Kept Q a1) : Kept Q (doRecoveryEnd a0 a1) := by
  unfold doRecoveryEnd
  try lift_lets -underBinder
  repeat' with_reducible first
    | assumption | (intro x; refine (fun hx : Kept Q x => ?_) ?_; clear_value x) | (intro x; clear_value x)
    | (intro x; refine (fun hx : Kept Q x => ?_) ?_; rotate_left; unfold x) | (intro x)
    | exact kept_mk (kept_out (by with_reducible assumption)) | exact ok_lit 18 (by decide) hp18
    | apply kept_canModeCheck c hE hM hp18 hp2 hp22 hp3 | apply kept_canStick c hE hp2 hp22 hp3
    | apply kept_here c | apply kept_updCan c | apply kept_w c | apply kept_ite | split | unfold x
    | lift_lets -underBinder

theorem kept_doIntegrationEnd (c : Closed N I T M E K W Q) (hE : E) (hM : M) (hp18 : W 18) (hp2 : W 2) (hp22 : W 22) (hp3 : W 3) (a0 : Nat) (a1 : State) (ha1 : Kept Q a1) : Kept Q (doIntegrationEnd a0 a1) := by
  unfold doIntegrationEnd
  repeat' with_reducible first
    | assumption | apply kept_canCounters c hE hM hp18 hp2 hp22 hp3 | apply kept_here c | apply kept_ite | split

theorem kept_doSleepEntry (c : Closed N I T M E K W Q) (hE : E) (hM : M) (hp18 : W 18) (hp2 : W 2) (hp22 : W 22) (hp3 : W 3) (a0 : Nat) (a1 : State) (ha1 : Kept Q a1) : Kept Q (doSleepEntry a0 a1) := by
  unfold doSleepEntry
  try lift_lets -underBinder
  repeat' with_reducible first
    | assumption | (intro x; refine (fun hx : Kept Q x => ?_) ?_; clear_value x) | (intro x; clear_value x)
    | (intro x; refine (fun hx : Kept Q x => ?_) ?_; rotate_left; unfold x) | (intro x)
    | exact kept_mk (kept_out (by with_reducible assumption)) | exact ok_lit 18 (by decide) hp18
    | apply kept_here c | apply kept_objPurge c hE hM hp18 hp2 hp22 hp3 | apply kept_ringPurge c hp2
    | apply kept_showCan c hp18 | apply kept_showWake c | apply kept_updCan c | apply kept_w c | apply kept_ite
    | split | unfold x | lift_lets -underBinder

theorem kept_doWakePulse (c : Closed N I T M E K W Q) (hE : E) (hM : M) (hp18 : W 18) (hp2 : W 2) (hp22 : W 22) (hp3 : W 3) (a0 : Nat) (a1 : Nat) (a2 : Bool) (a3 : State) (ha3 : Kept Q a3) : Kept Q (doWakePulse a0 a1 a2 a3) := by
  unfold doWakePulse
  try lift_lets -underBinder
  repeat' with_reducible first
    | assumption | (intro x; refine (fun hx : Kept Q x => ?_) ?_; clear_value x) | (intro x; clear_value x)
    | (intro x; refine (fun hx : Kept Q x => ?_) ?_; rotate_left; unfold x) | (intro x)
    | apply kept_canWakeUp c hE hM hp18 hp2 hp22 hp3 | apply kept_here c | apply kept_showWake c | apply kept_ite
    | split | unfold x | lift_lets -underBinder

theorem kept_doWakeFrame (c : Closed N I T M E K W Q) (hE : E) (hM : M) (hp18 : W 18) (hp2 : W 2) (hp22 : W 22) (hp3 : W 3) (a0 : Nat) (a1 : Sys2Proof.CanFrame) (a2 : State) (ha2 : Kept Q a2) : Kept Q (doWakeFrame a0 a1 a2) := by
  unfold doWakeFrame
  repeat' with_reducible first
    | assumption | apply kept_canDeliver c hE hp18 hp2 hp22 hp3 | apply kept_canWakeUp c hE hM hp18 hp2 hp22 hp3
    | apply kept_here c | apply kept_showWake c | apply kept_ite | split

theorem kept_entryRefused (c : Closed N I T M E K W Q) (hp2 : W 2) (a0 : State) (a1 : Nat) (a2 : CanEntry) (a3 : Nat) (ha0 : Kept Q a0) : Kept Q (State.entryRefused a0 a1 a2 a3) := by
  unfold State.entryRefused
  try lift_lets -underBinder
  repeat' with_reducible first
    | assumption | (intro x; refine (fun hx : Kept Q x => ?_) ?_; clear_value x) | (intro x; clear_value x)
    | (intro x; refine (fun hx : Kept Q x => ?_) ?_; rotate_left; unfold x) | (intro x)
    | exact kept_mk (kept_out (by with_reducible assumption)) | apply kept_entryDone c hp2 | apply kept_updCan c
    | apply kept_ite | split | unfold x | lift_lets -underBinder

theorem kept_doCantxDescriptor (c : Closed N I T M E K W Q) (hp2 : W 2) (a0 : Sys2Proof.Desc) (a1 : Sys2Proof.Byte) (a2 : Sys2Proof.CanFrame) (a3 : State) (ha3 : Kept Q a3) : Kept Q (doCantxDescriptor a0 a1 a2 a3) := by
  unfold doCantxDescriptor
  try lift_lets -underBinder
  repeat' with_reducible first
    | assumption | (intro x; refine (fun hx : Kept Q x => ?_) ?_; clear_value x) | (intro x; clear_value x)
    | (intro x; refine (fun hx : Kept Q x => ?_) ?_; rotate_left; unfold x) | (intro x)
    | exact kept_mk (kept_out (by with_reducible assumption)) | apply kept_complete c hp2
    | apply kept_consume1 c hp2 | apply kept_entryRefused c hp2 | apply kept_here c | apply kept_updCan c
    | apply kept_ite | split | unfold x | lift_lets -underBinder

theorem kept_ventLoad (c : Closed N I T M E K W Q) (hE : E) (hp2 : W 2) (hp22 : W 22) (hp3 : W 3) (s : State) (e a : Nat) (h : Kept Q s) :
    ∀ r, s.ventLoad e a = some r → Kept Q r.2.2 := by
  have hu : ∀ f, Kept Q (s.updVnt e f) := fun f => kept_updVnt c _ _ _ h
  unfold State.ventLoad
  dsimp only
  repeat' (first | with_reducible exact opt_none | with_reducible exact opt_some (hu _) | with_reducible exact opt_some (kept_eccSeen c hE hp2 hp22 hp3 _ _ h) | with_reducible apply opt_ite | exact opt_some h)

theorem kept_ventRequest (c : Closed N I T M E K W Q) (a0 : State) (a1 : Nat) (a2 : Nat) (a3 : Nat) (ha0 : Kept Q a0) : Kept Q (State.ventRequest a0 a1 a2 a3).1 := by
  unfold State.ventRequest
  try lift_lets -underBinder
  repeat' with_reducible first
    | assumption | (intro x; refine (fun hx : Kept Q x => ?_) ?_; clear_value x)
    | (intro x; refine (fun hx : Kept Q x.1 => ?_) ?_; clear_value x) | (intro x; clear_value x)
    | (intro x; refine (fun hx : Kept Q x => ?_) ?_; rotate_left; unfold x) | (intro x)
    | exact kept_mk (kept_out (by with_reducible assumption)) | apply kept_ite | split | unfold x
    | lift_lets -underBinder

theorem kept_ventStore (c : Closed N I T M E K W Q) (hE : E) (hM : M) (hp18 : W 18) (hp2 : W 2) (hp22 : W 22) (hp3 : W 3) (s : State) (e a v : Nat) (h : Kept Q s) :
    ∀ r, s.ventStore e a v = some r → Kept Q r.1 := by
  unfold State.ventStore
  repeat' (first
    | with_reducible exact opt_none
    | with_reducible exact opt_some (kept_updVnt c _ _ _ (kept_setSram32 c hM _ _ _ h))
    | with_reducible exact opt_some (kept_ventRequest c _ _ _ _ h)
    | with_reducible exact opt_some (kept_canDataWrite c hE hM hp18 hp2 hp22 hp3 _ _ _ _ h)
    | with_reducible apply opt_ite)

theorem kept_ventLd (c : Closed N I T M E K W Q) (hE : E) (hp14 : W 14) (hp2 : W 2) (hp22 : W 22) (hp3 : W 3) (e : Nat) (i : VInstr) (s : State) (h : Kept Q s) : Kept Q (ventLd e i s) := by
  cases i
  case ld rd ra x offset =>
    unfold ventLd
    dsimp only
    split
    · exact kept_ventFault c hE hp14 hp2 hp22 hp3 _ _ _ h (ok_lit 14 (by decide) hp14)
    · rename_i hr
      exact kept_ventNext c hE hp14 hp2 hp22 hp3 _ _ _ (kept_setVflags c hp14 _ _ _ (kept_setVreg c hp14 _ _ _ _ (kept_ventLoad c hE hp2 hp22 hp3 _ _ _ h _ hr)))
  all_goals exact h

theorem kept_ventSt (c : Closed N I T M E K W Q) (hE : E) (hM : M) (hp14 : W 14) (hp18 : W 18) (hp2 : W 2) (hp22 : W 22) (hp3 : W 3) (e : Nat) (i : VInstr) (s : State) (h : Kept Q s) : Kept Q (ventSt e i s) := by
  cases i
  case st rs ra x offset =>
    unfold ventSt
    dsimp only
    split
    · exact kept_ventFault c hE hp14 hp2 hp22 hp3 _ _ _ h (ok_lit 14 (by decide) hp14)
    · rename_i hr
      exact kept_ventNext c hE hp14 hp2 hp22 hp3 _ _ _ (kept_setT c hp14 _ _ _ (kept_ventStore c hE hM hp18 hp2 hp22 hp3 _ _ _ _ h _ hr))
  all_goals exact h

theorem kept_ventPulses (c : Closed N I T M E K W Q) (a0 : State) (a1 : Nat) (ha0 : Kept Q a0) : Kept Q (State.ventPulses a0 a1) := by
  unfold State.ventPulses
  try lift_lets -underBinder
  repeat' with_reducible first
    | assumption | (intro x; refine (fun hx : Kept Q x => ?_) ?_; clear_value x)
    | (intro x; refine (fun hx : Kept Q x.1 => ?_) ?_; clear_value x) | (intro x; clear_value x)
    | (intro x; refine (fun hx : Kept Q x => ?_) ?_; rotate_left; unfold x) | (intro x)
    | exact kept_mk (kept_out (by with_reducible assumption)) | apply kept_each c | apply kept_gtPulse c
    | apply kept_updVnt c | apply kept_ite | split | unfold x | lift_lets -underBinder

theorem kept_actDone (c : Closed N I T M E K W Q) (hE : E) (hp14 : W 14) (hp2 : W 2) (hp22 : W 22) (hp3 : W 3) (a0 : State) (a1 : Nat) (a2 : Bool) (ha0 : Kept Q a0) : Kept Q (State.actDone a0 a1 a2) := by
  unfold State.actDone
  repeat' with_reducible first
    | assumption | apply kept_setT c hp14 | apply kept_ventNext c hE hp14 hp2 hp22 hp3

theorem kept_ventAct (c : Closed N I T M E K W Q) (hE : E) (hp14 : W 14) (hp2 : W 2) (hp22 : W 22) (hp3 : W 3) (a0 : Nat) (a1 : Nat → Nat → Nat → State → State × Bool) (a2 : Sys2Proof.VInstr) (a3 : State) (ha1 : ∀ a b d s, Kept Q s → Kept Q (a1 a b d s).1) (ha3 : Kept Q a3) : Kept Q (ventAct a0 a1 a2 a3) := by
  unfold ventAct
  try lift_lets -underBinder
  repeat' with_reducible first
    | assumption | (intro x; refine (fun hx : Kept Q x => ?_) ?_; clear_value x)
    | (intro x; refine (fun hx : Kept Q x.1 => ?_) ?_; clear_value x) | (intro x; clear_value x)
    | (intro x; refine (fun hx : Kept Q x => ?_) ?_; rotate_left; unfold x) | (intro x)
    | apply kept_actDone c hE hp14 hp2 hp22 hp3 | apply ha1 | apply kept_ite | split | unfold x
    | lift_lets -underBinder

theorem kept_actPulse (c : Closed N I T M E K W Q) (a0 : Nat) (a1 : Nat) (a2 : Nat) (a3 : Nat) (a4 : State) (ha4 : Kept Q a4) : Kept Q (actPulse a0 a1 a2 a3 a4).1 := by
  unfold actPulse
  try lift_lets -underBinder
  repeat' with_reducible first
    | assumption | (intro x; refine (fun hx : Kept Q x => ?_) ?_; clear_value x)
    | (intro x; refine (fun hx : Kept Q x.1 => ?_) ?_; clear_value x) | (intro x; clear_value x)
    | (intro x; refine (fun hx : Kept Q x => ?_) ?_; rotate_left; unfold x) | (intro x)
    | exact kept_mk (kept_out (by with_reducible assumption)) | apply kept_updVnt c | apply kept_ventPulses c
    | apply kept_ite | split | unfold x | lift_lets -underBinder

theorem kept_actBlank (c : Closed N I T M E K W Q) (a0 : Nat) (a1 : Nat) (a2 : Nat) (a3 : Nat) (a4 : State) (ha4 : Kept Q a4) : Kept Q (actBlank a0 a1 a2 a3 a4).1 := by
  unfold actBlank
  try lift_lets -underBinder
  repeat' with_reducible first
    | assumption | (intro x; refine (fun hx : Kept Q x => ?_) ?_; clear_value x)
    | (intro x; refine (fun hx : Kept Q x.1 => ?_) ?_; clear_value x) | (intro x; clear_value x)
    | (intro x; refine (fun hx : Kept Q x => ?_) ?_; rotate_left; unfold x) | (intro x)
    | exact kept_mk (kept_out (by with_reducible assumption)) | apply kept_ite | split | unfold x
    | lift_lets -underBinder

theorem kept_actCanreq (c : Closed N I T M E K W Q) (hE : E) (hM : M) (hp18 : W 18) (hp2 : W 2) (hp22 : W 22) (hp3 : W 3) (a0 : Nat) (a1 : Nat) (a2 : Nat) (a3 : State) (ha3 : Kept Q a3) : Kept Q (actCanreq a0 a1 a2 a3).1 := by
  unfold actCanreq
  try lift_lets -underBinder
  repeat' with_reducible first
    | assumption | (intro x; refine (fun hx : Kept Q x => ?_) ?_; clear_value x)
    | (intro x; refine (fun hx : Kept Q x.1 => ?_) ?_; clear_value x) | (intro x; clear_value x)
    | (intro x; refine (fun hx : Kept Q x => ?_) ?_; rotate_left; unfold x) | (intro x)
    | apply kept_canReq c hE hM hp18 hp2 hp22 hp3 | refine fst_kept ‹_› ?_ | unfold x | lift_lets -underBinder

theorem kept_actZemu (c : Closed N I T M E K W Q) (a0 : Nat) (a1 : Nat) (a2 : Nat) (a3 : State) (ha3 : Kept Q a3) : Kept Q (actZemu a0 a1 a2 a3).1 := by
  unfold actZemu
  repeat' with_reducible first
    | assumption | (intro x; refine (fun hx : Kept Q x => ?_) ?_; clear_value x)
    | (intro x; refine (fun hx : Kept Q x.1 => ?_) ?_; clear_value x) | (intro x; clear_value x)
    | (intro x; refine (fun hx : Kept Q x => ?_) ?_; rotate_left; unfold x) | (intro x) | apply kept_each c
    | apply kept_emuFire c | apply kept_ite | split | unfold x | lift_lets -underBinder

theorem kept_actGcopy (c : Closed N I T M E K W Q) (hE : E) (hp13 : W 13) (hp2 : W 2) (hp22 : W 22) (hp3 : W 3) (a0 : Nat) (a1 : Nat) (a2 : Nat) (a3 : State) (ha3 : Kept Q a3) : Kept Q (actGcopy a0 a1 a2 a3).1 := by
  unfold actGcopy
  try lift_lets -underBinder
  repeat' with_reducible first
    | assumption | (intro x; refine (fun hx : Kept Q x => ?_) ?_; clear_value x)
    | (intro x; refine (fun hx : Kept Q x.1 => ?_) ?_; clear_value x) | (intro x; clear_value x)
    | (intro x; refine (fun hx : Kept Q x => ?_) ?_; rotate_left; unfold x) | (intro x)
    | apply kept_requestCopy c hE hp13 hp2 hp22 hp3 | refine fst_kept ‹_› ?_ | unfold x | lift_lets -underBinder

theorem kept_userEvent (c : Closed N I T M E K W Q) (hE : E) (hp13 : W 13) (hp2 : W 2) (hp22 : W 22) (hp3 : W 3) (a0 : State) (a1 : Nat) (ha0 : Kept Q a0) : Kept Q (State.userEvent a0 a1) := by
  unfold State.userEvent
  repeat' with_reducible first
    | assumption | exact ok_lit 13 (by decide) hp13 | apply kept_stickBits c hE hp2 hp22 hp3

theorem kept_actUevent (c : Closed N I T M E K W Q) (hE : E) (hp13 : W 13) (hp2 : W 2) (hp22 : W 22) (hp3 : W 3) (a0 : Nat) (a1 : Nat) (a2 : Nat) (a3 : State) (ha3 : Kept Q a3) : Kept Q (actUevent a0 a1 a2 a3).1 := by
  unfold actUevent
  repeat' with_reducible first
    | assumption | apply kept_userEvent c hE hp13 hp2 hp22 hp3

theorem kept_ventZwait (c : Closed N I T M E K W Q) (hE : E) (hp14 : W 14) (hp2 : W 2) (hp22 : W 22) (hp3 : W 3) (a0 : Nat) (a1 : Sys2Proof.VInstr) (a2 : State) (ha2 : Kept Q a2) : Kept Q (ventZwait a0 a1 a2) := by
  unfold ventZwait
  try lift_lets -underBinder
  repeat' with_reducible first
    | assumption | (intro x; refine (fun hx : Kept Q x => ?_) ?_; clear_value x) | (intro x; clear_value x)
    | (intro x; refine (fun hx : Kept Q x => ?_) ?_; rotate_left; unfold x) | (intro x)
    | apply kept_actDone c hE hp14 hp2 hp22 hp3 | apply kept_ventWaits c hp14 | apply kept_ite | split | unfold x
    | lift_lets -underBinder

theorem kept_actFrel (c : Closed N I T M E K W Q) (a0 : Nat) (a1 : Nat) (a2 : Nat) (a3 : State) (ha3 : Kept Q a3) : Kept Q (actFrel a0 a1 a2 a3).1 := by
  unfold actFrel
  try lift_lets -underBinder
  repeat' with_reducible first
    | assumption | (intro x; refine (fun hx : Kept Q x => ?_) ?_; clear_value x)
    | (intro x; refine (fun hx : Kept Q x.1 => ?_) ?_; clear_value x) | (intro x; clear_value x)
    | (intro x; refine (fun hx : Kept Q x => ?_) ?_; rotate_left; unfold x) | (intro x)
    | exact kept_mk (kept_out (by with_reducible assumption)) | apply kept_ite | split | unfold x
    | lift_lets -underBinder

theorem kept_ventRequests (c : Closed N I T M E K W Q) (hp5 : W 5) (a0 : State) (ha0 : Kept Q a0) : Kept Q (State.ventRequests a0) := by
  unfold State.ventRequests
  try lift_lets -underBinder
  repeat' with_reducible first
    | assumption | (intro x; refine (fun hx : Kept Q x => ?_) ?_; clear_value x)
    | (intro x; refine (fun hx : Kept Q x.1 => ?_) ?_; clear_value x) | (intro x; clear_value x)
    | (intro x; refine (fun hx : Kept Q x => ?_) ?_; rotate_left; unfold x) | (intro x)
    | exact kept_mk (kept_out (by with_reducible assumption)) | apply kept_requestAmp c hp5
    | apply kept_requestFreq c hp5 | apply kept_updExc c | apply foldl_kept | apply foldl_kept1 | apply kept_ite
    | split | unfold x | lift_lets -underBinder

theorem kept_actInj (c : Closed N I T M E K W Q) (hE : E) (hp16 : W 16) (hp2 : W 2) (hp22 : W 22) (hp3 : W 3) (a0 : Nat) (a1 : Nat) (a2 : Nat) (a3 : State) (ha3 : Kept Q a3) : Kept Q (actInj a0 a1 a2 a3).1 := by
  unfold actInj
  try lift_lets -underBinder
  repeat' with_reducible first
    | assumption | (intro x; refine (fun hx : Kept Q x => ?_) ?_; clear_value x)
    | (intro x; refine (fun hx : Kept Q x.1 => ?_) ?_; clear_value x) | (intro x; clear_value x)
    | (intro x; refine (fun hx : Kept Q x => ?_) ?_; rotate_left; unfold x) | (intro x)
    | exact kept_mk (kept_out (by with_reducible assumption)) | apply kept_noticeInj c hE hp16 hp2 hp22 hp3
    | apply kept_ite | split | unfold x | lift_lets -underBinder

theorem kept_doInjectionEnd (c : Closed N I T M E K W Q) (hp16 : W 16) (a0 : Nat) (a1 : State) (ha1 : Kept Q a1) : Kept Q (doInjectionEnd a0 a1) := by
  unfold doInjectionEnd
  try lift_lets -underBinder
  repeat' with_reducible first
    | assumption | (intro x; refine (fun hx : Kept Q x => ?_) ?_; clear_value x) | (intro x; clear_value x)
    | (intro x; refine (fun hx : Kept Q x => ?_) ?_; rotate_left; unfold x) | (intro x)
    | exact kept_mk (kept_out (by with_reducible assumption)) | exact ok_lit 16 (by decide) hp16 | apply kept_wb c
    | apply kept_ite | split | unfold x | lift_lets -underBinder

theorem kept_actSel (c : Closed N I T M E K W Q) (a0 : Nat) (a1 : Nat) (a2 : Nat) (a3 : Nat) (a4 : State) (ha4 : Kept Q a4) : Kept Q (actSel a0 a1 a2 a3 a4).1 := by
  unfold actSel
  try lift_lets -underBinder
  repeat' with_reducible first
    | assumption | (intro x; refine (fun hx : Kept Q x => ?_) ?_; clear_value x)
    | (intro x; refine (fun hx : Kept Q x.1 => ?_) ?_; clear_value x) | (intro x; clear_value x)
    | (intro x; refine (fun hx : Kept Q x => ?_) ?_; rotate_left; unfold x) | (intro x)
    | exact kept_mk (kept_out (by with_reducible assumption)) | apply kept_updVnt c | apply kept_ite | split
    | unfold x | lift_lets -underBinder

theorem kept_actTxreq (c : Closed N I T M E K W Q) (hE : E) (hM : M) (hp18 : W 18) (hp2 : W 2) (hp22 : W 22) (hp3 : W 3) (a0 : Nat) (a1 : Nat) (a2 : Nat) (a3 : Nat) (a4 : State) (ha4 : Kept Q a4) : Kept Q (actTxreq a0 a1 a2 a3 a4).1 := by
  unfold actTxreq
  try lift_lets -underBinder
  repeat' with_reducible first
    | assumption | (intro x; refine (fun hx : Kept Q x => ?_) ?_; clear_value x)
    | (intro x; refine (fun hx : Kept Q x.1 => ?_) ?_; clear_value x) | (intro x; clear_value x)
    | (intro x; refine (fun hx : Kept Q x => ?_) ?_; rotate_left; unfold x) | (intro x)
    | apply kept_canReq c hE hM hp18 hp2 hp22 hp3 | refine fst_kept ‹_› ?_ | unfold x | lift_lets -underBinder

theorem kept_actCancel (c : Closed N I T M E K W Q) (hE : E) (hM : M) (hp18 : W 18) (hp2 : W 2) (hp22 : W 22) (hp3 : W 3) (a0 : Nat) (a1 : Nat) (a2 : Nat) (a3 : Nat) (a4 : State) (ha4 : Kept Q a4) : Kept Q (actCancel a0 a1 a2 a3 a4).1 := by
  unfold actCancel
  try lift_lets -underBinder
  repeat' with_reducible first
    | assumption | (intro x; refine (fun hx : Kept Q x => ?_) ?_; clear_value x)
    | (intro x; refine (fun hx : Kept Q x.1 => ?_) ?_; clear_value x) | (intro x; clear_value x)
    | (intro x; refine (fun hx : Kept Q x => ?_) ?_; rotate_left; unfold x) | (intro x)
    | apply kept_canCancel c hE hM hp18 hp2 hp22 hp3 | refine fst_kept ‹_› ?_ | unfold x | lift_lets -underBinder

theorem kept_actSafetx (c : Closed N I T M E K W Q) (hE : E) (hM : M) (hp16 : W 16) (hp17 : W 17) (hp18 : W 18) (hp2 : W 2) (hp22 : W 22) (hp3 : W 3) (a0 : Nat) (a1 : Nat) (a2 : Nat) (a3 : State) (ha3 : Kept Q a3) : Kept Q (actSafetx a0 a1 a2 a3).1 := by
  unfold actSafetx
  try lift_lets -underBinder
  repeat' with_reducible first
    | assumption | (intro x; refine (fun hx : Kept Q x => ?_) ?_; clear_value x)
    | (intro x; refine (fun hx : Kept Q x.1 => ?_) ?_; clear_value x) | (intro x; clear_value x)
    | (intro x; refine (fun hx : Kept Q x => ?_) ?_; rotate_left; unfold x) | (intro x)
    | apply kept_safeTx c hE hM hp16 hp17 hp18 hp2 hp22 hp3 | refine fst_kept ‹_› ?_ | unfold x
    | lift_lets -underBinder

theorem kept_doIllegalOpcode (c : Closed N I T M E K W Q) (hE : E) (hp14 : W 14) (hp2 : W 2) (hp22 : W 22) (hp3 : W 3) (a0 : Nat) (a1 : State) (ha1 : Kept Q a1) : Kept Q (doIllegalOpcode a0 a1) := by
  unfold doIllegalOpcode
  try lift_lets -underBinder
  repeat' with_reducible first
    | assumption | (intro x; refine (fun hx : Kept Q x => ?_) ?_; clear_value x) | (intro x; clear_value x)
    | (intro x; refine (fun hx : Kept Q x => ?_) ?_; rotate_left; unfold x) | (intro x)
    | exact kept_mk (kept_out (by with_reducible assumption)) | exact ok_lit 14 (by decide) hp14
    | apply kept_ventEcc c hE hp14 hp2 hp22 hp3 | apply kept_ventFault c hE hp14 hp2 hp22 hp3 | apply kept_ite
    | split | unfold x | lift_lets -underBinder

theorem kept_fireSerial (c : Closed N I T M E K W Q) (a0 : State) (a1 : Nat) (a2 : Nat) (ha0 : Kept Q a0) : Kept Q (State.fireSerial a0 a1 a2) := by
  unfold State.fireSerial
  try lift_lets -underBinder
  repeat' with_reducible first
    | assumption | (intro x; refine (fun hx : Kept Q x => ?_) ?_; clear_value x) | (intro x; clear_value x)
    | (intro x; refine (fun hx : Kept Q x => ?_) ?_; rotate_left; unfold x) | (intro x)
    | exact kept_mk (kept_out (by with_reducible assumption)) | apply kept_each c | apply kept_updDfb c
    | apply kept_ite | split | unfold x | lift_lets -underBinder

theorem kept_fireActions (c : Closed N I T M E K W Q) (hE : E) (hM : M) (hp13 : W 13) (hp14 : W 14) (hp18 : W 18) (hp2 : W 2) (hp22 : W 22) (hp3 : W 3) (a0 : State) (a1 : Nat) (a2 : List Nat) (a3 : Nat) (ha0 : Kept Q a0) : Kept Q (State.fireActions a0 a1 a2 a3) := by
  unfold State.fireActions
  try lift_lets -underBinder
  repeat' with_reducible first
    | assumption | (intro x; refine (fun hx : Kept Q x => ?_) ?_; clear_value x) | (intro x; clear_value x)
    | (intro x; refine (fun hx : Kept Q x => ?_) ?_; rotate_left; unfold x) | (intro x)
    | exact kept_mk (kept_out (by with_reducible assumption)) | exact ok_lit 13 (by decide) hp13
    | apply kept_canReq c hE hM hp18 hp2 hp22 hp3 | refine fst_kept ‹_› ?_ | apply kept_each c
    | apply kept_emuFire c | apply kept_fireSerial c | apply kept_geyStick c hE hp2 hp22 hp3
    | apply kept_gtPulse c | apply kept_record c hE hp2 hp22 hp3 | apply kept_setSramBytes c hM
    | apply kept_streamPut c hE hp13 hp2 hp22 hp3 | apply kept_updSlot c
    | apply kept_userEvent c hE hp13 hp2 hp22 hp3 | apply kept_ventPulses c
    | apply kept_ventSlot c hE hp13 hp14 hp2 hp22 hp3 | apply kept_ite | split | unfold x | lift_lets -underBinder

theorem kept_gtEnd (c : Closed N I T M E K W Q) (a0 : State) (a1 : Nat) (ha0 : Kept Q a0) : Kept Q (State.gtEnd a0 a1) := by
  unfold State.gtEnd
  try lift_lets -underBinder
  repeat' with_reducible first
    | assumption | (intro x; refine (fun hx : Kept Q x => ?_) ?_; clear_value x) | (intro x; clear_value x)
    | (intro x; refine (fun hx : Kept Q x => ?_) ?_; rotate_left; unfold x) | (intro x)
    | exact kept_mk (kept_out (by with_reducible assumption)) | apply kept_emit c | apply kept_ite | split
    | unfold x | lift_lets -underBinder

theorem kept_doGtrigPulseEnd (c : Closed N I T M E K W Q) (a0 : Nat) (a1 : State) (ha1 : Kept Q a1) : Kept Q (doGtrigPulseEnd a0 a1) := by
  unfold doGtrigPulseEnd
  repeat' with_reducible first
    | assumption | apply kept_gtEnd c | apply kept_ventPulses c | apply kept_ite | split

theorem kept_doSlotFire (c : Closed N I T M E K W Q) (hE : E) (hM : M) (hp13 : W 13) (hp14 : W 14) (hp18 : W 18) (hp2 : W 2) (hp22 : W 22) (hp3 : W 3) (a0 : Nat) (a1 : State) (ha1 : Kept Q a1) : Kept Q (doSlotFire a0 a1) := by
  unfold doSlotFire
  try lift_lets -underBinder
  repeat' with_reducible first
    | assumption | (intro x; refine (fun hx : Kept Q x => ?_) ?_; clear_value x) | (intro x; clear_value x)
    | (intro x; refine (fun hx : Kept Q x => ?_) ?_; rotate_left; unfold x) | (intro x)
    | exact kept_mk (kept_out (by with_reducible assumption)) | apply kept_angleEval c hE hp13 hp2 hp22 hp3
    | apply kept_consume c | apply kept_fireActions c hE hM hp13 hp14 hp18 hp2 hp22 hp3 | apply kept_updSlot c
    | apply kept_ite | split | unfold x | lift_lets -underBinder

end Sys2Proof.Laws
end

