-- ==== Sys2Proof/Laws/KeepHost.lean ====
section
/-! SUPPORT. What the operations of chapters 14 to 17, the buses and the sample keep: each lemma follows the text of its definition. -/

set_option linter.all false

namespace Sys2Proof.Laws
open Sys2Proof.Machine

variable {N I T M E K : Prop} {W : Nat → Prop} {Q : Store → Prop}

theorem kept_wordDone (c : Closed N I T M E K W Q) (a0 : State) (a1 : Nat) (a2 : Bool) (ha0 : Kept Q a0) : Kept Q (State.wordDone a0 a1 a2) := by
  unfold State.wordDone
  try lift_lets -underBinder
  repeat' with_reducible first
    | assumption | (intro x; refine (fun hx : Kept Q x => ?_) ?_; clear_value x) | (intro x; clear_value x)
    | (intro x; refine (fun hx : Kept Q x => ?_) ?_; rotate_left; unfold x) | (intro x)
    | exact kept_mk (kept_out (by with_reducible assumption)) | apply kept_ite | split | unfold x
    | lift_lets -underBinder

theorem kept_wordsDropped (c : Closed N I T M E K W Q) (a0 : State) (a1 : Nat) (ha0 : Kept Q a0) : Kept Q (State.wordsDropped a0 a1) := by
  unfold State.wordsDropped
  try lift_lets -underBinder
  repeat' with_reducible first
    | assumption | (intro x; refine (fun hx : Kept Q x => ?_) ?_; clear_value x) | (intro x; clear_value x)
    | (intro x; refine (fun hx : Kept Q x => ?_) ?_; rotate_left; unfold x) | (intro x)
    | exact kept_mk (kept_out (by with_reducible assumption)) | apply kept_ite | split | unfold x
    | lift_lets -underBinder

theorem kept_showStage (c : Closed N I T M E K W Q) (hp0 : W 0) (hp2 : W 2) (a0 : State) (a1 : Option Sys2Proof.Path) (ha0 : Kept Q a0) : Kept Q (State.showStage a0 a1) := by
  unfold State.showStage
  try lift_lets -underBinder
  repeat' with_reducible first
    | assumption | (intro x; refine (fun hx : Kept Q x => ?_) ?_; clear_value x) | (intro x; clear_value x)
    | (intro x; refine (fun hx : Kept Q x => ?_) ?_; rotate_left; unfold x) | (intro x)
    | exact ok_lit 0 (by decide) hp0 | exact ok_lit 2 (by decide) hp2 | apply kept_w c | apply kept_ite | split
    | unfold x | lift_lets -underBinder

theorem kept_enter (c : Closed N I T M E K W Q) (hp0 : W 0) (hp2 : W 2) (a0 : State) (a1 : Sys2Proof.Path) (a2 : StagedItem) (ha0 : Kept Q a0) : Kept Q (State.enter a0 a1 a2) := by
  unfold State.enter
  try lift_lets -underBinder
  repeat' with_reducible first
    | assumption | (intro x; refine (fun hx : Kept Q x => ?_) ?_; clear_value x) | (intro x; clear_value x)
    | (intro x; refine (fun hx : Kept Q x => ?_) ?_; rotate_left; unfold x) | (intro x)
    | exact kept_mk (kept_out (by with_reducible assumption)) | apply kept_showStage c hp0 hp2
    | apply kept_wordDone c | apply kept_ite | split | unfold x | lift_lets -underBinder

theorem kept_stage (c : Closed N I T M E K W Q) (hp0 : W 0) (hp2 : W 2) (a0 : State) (a1 : Sys2Proof.Path) (a2 : Target) (a3 : Nat) (ha0 : Kept Q a0) : Kept Q (State.stage a0 a1 a2 a3).1 := by
  unfold State.stage
  try lift_lets -underBinder
  repeat' with_reducible first
    | assumption | (intro x; refine (fun hx : Kept Q x => ?_) ?_; clear_value x)
    | (intro x; refine (fun hx : Kept Q x.1 => ?_) ?_; clear_value x) | (intro x; clear_value x)
    | (intro x; refine (fun hx : Kept Q x => ?_) ?_; rotate_left; unfold x) | (intro x)
    | exact kept_mk (kept_out (by with_reducible assumption)) | exact ok_lit 0 (by decide) hp0
    | apply kept_enter c hp0 hp2 | apply kept_w c | apply kept_ite | split | unfold x | lift_lets -underBinder

theorem kept_emptySet (c : Closed N I T M E K W Q) (hp0 : W 0) (hp2 : W 2) (a0 : State) (ha0 : Kept Q a0) : Kept Q (State.emptySet a0) := by
  unfold State.emptySet
  try lift_lets -underBinder
  repeat' with_reducible first
    | assumption | (intro x; refine (fun hx : Kept Q x => ?_) ?_; clear_value x) | (intro x; clear_value x)
    | (intro x; refine (fun hx : Kept Q x => ?_) ?_; rotate_left; unfold x) | (intro x)
    | exact kept_mk (kept_out (by with_reducible assumption)) | apply kept_showStage c hp0 hp2
    | apply kept_wordsDropped c | apply foldl_kept | apply foldl_kept1 | apply kept_ite | split | unfold x
    | lift_lets -underBinder

theorem kept_discard (c : Closed N I T M E K W Q) (hp0 : W 0) (hp2 : W 2) (a0 : State) (a1 : Sys2Proof.Path) (ha0 : Kept Q a0) : Kept Q (State.discard a0 a1).1 := by
  unfold State.discard
  repeat' with_reducible first
    | assumption | exact ok_lit 0 (by decide) hp0 | apply kept_emptySet c hp0 hp2 | apply kept_w c
    | apply kept_ite | split

theorem kept_doCommit (c : Closed N I T M E K W Q) (hM : M) (hp0 : W 0) (hp2 : W 2) (a0 : State) (a1 : Sys2Proof.Path) (ha0 : Kept Q a0) : Kept Q (State.doCommit a0 a1).1 := by
  unfold State.doCommit
  try lift_lets -underBinder
  repeat' with_reducible first
    | assumption | (intro x; refine (fun hx : Kept Q x => ?_) ?_; clear_value x)
    | (intro x; refine (fun hx : Kept Q x.1 => ?_) ?_; clear_value x) | (intro x; clear_value x)
    | (intro x; refine (fun hx : Kept Q x => ?_) ?_; rotate_left; unfold x) | (intro x)
    | exact kept_mk (kept_out (by with_reducible assumption)) | exact ok_lit 0 (by decide) hp0
    | apply kept_emptySet c hp0 hp2 | apply kept_showStage c hp0 hp2 | apply kept_w c | apply kept_zeroSram c hM
    | apply kept_ite | split | unfold x | lift_lets -underBinder

theorem kept_commitWrite (c : Closed N I T M E K W Q) (hM : M) (hp0 : W 0) (hp2 : W 2) (a0 : State) (a1 : Sys2Proof.Path) (a2 : Nat) (ha0 : Kept Q a0) : Kept Q (State.commitWrite a0 a1 a2).1 := by
  unfold State.commitWrite
  repeat' with_reducible first
    | assumption | exact ok_lit 0 (by decide) hp0 | apply kept_discard c hp0 hp2 | refine fst_kept ‹_› ?_
    | apply kept_doCommit c hM hp0 hp2 | apply kept_w c | apply kept_ite | split

theorem kept_setFlags (c : Closed N I T M E K W Q) (hp0 : W 0) (a0 : State) (a1 : Bool) (a2 : Bool) (ha0 : Kept Q a0) : Kept Q (State.setFlags a0 a1 a2) := by
  unfold State.setFlags
  try lift_lets -underBinder
  repeat' with_reducible first
    | assumption | (intro x; refine (fun hx : Kept Q x => ?_) ?_; clear_value x) | (intro x; clear_value x)
    | (intro x; refine (fun hx : Kept Q x => ?_) ?_; rotate_left; unfold x) | (intro x)
    | exact kept_mk (kept_out (by with_reducible assumption)) | exact ok_lit 0 (by decide) hp0 | apply kept_wb c
    | apply kept_ite | split | unfold x | lift_lets -underBinder

theorem kept_updChn (c : Closed N I T M E K W Q) (a0 : State) (a1 : ChnSt → ChnSt) (ha0 : Kept Q a0) : Kept Q (State.updChn a0 a1) := by
  unfold State.updChn
  try lift_lets -underBinder
  repeat' with_reducible first
    | assumption | (intro x; refine (fun hx : Kept Q x => ?_) ?_; clear_value x) | (intro x; clear_value x)
    | (intro x; refine (fun hx : Kept Q x => ?_) ?_; rotate_left; unfold x) | (intro x)
    | exact kept_mk (kept_out (by with_reducible assumption)) | unfold x | lift_lets -underBinder

theorem kept_chnStick (c : Closed N I T M E K W Q) (hE : E) (hp2 : W 2) (hp22 : W 22) (hp3 : W 3) (a0 : State) (a1 : Fld) (ha0 : Kept Q a0) (ha1 : OkFld W a1) : Kept Q (State.chnStick a0 a1) := by
  unfold State.chnStick
  repeat' with_reducible first
    | assumption | apply kept_stickEv c hE hp2 hp22 hp3 | apply kept_ite | split

theorem kept_chnEmit (c : Closed N I T M E K W Q) (a0 : State) (a1 : Nat) (a2 : List Sys2Proof.Byte) (ha0 : Kept Q a0) : Kept Q (State.chnEmit a0 a1 a2) := by
  unfold State.chnEmit
  try lift_lets -underBinder
  repeat' with_reducible first
    | assumption | (intro x; refine (fun hx : Kept Q x => ?_) ?_; clear_value x) | (intro x; clear_value x)
    | (intro x; refine (fun hx : Kept Q x => ?_) ?_; rotate_left; unfold x) | (intro x)
    | exact kept_mk (kept_out (by with_reducible assumption)) | apply kept_emit c | apply kept_updChn c
    | apply kept_ite | split | unfold x | lift_lets -underBinder

theorem kept_chnOwn (c : Closed N I T M E K W Q) (a0 : State) (a1 : List Sys2Proof.Byte) (ha0 : Kept Q a0) : Kept Q (State.chnOwn a0 a1) := by
  unfold State.chnOwn
  try lift_lets -underBinder
  repeat' with_reducible first
    | assumption | (intro x; refine (fun hx : Kept Q x => ?_) ?_; clear_value x) | (intro x; clear_value x)
    | (intro x; refine (fun hx : Kept Q x => ?_) ?_; rotate_left; unfold x) | (intro x)
    | exact kept_mk (kept_out (by with_reducible assumption)) | apply kept_chnEmit c | apply kept_updChn c
    | apply kept_ite | split | unfold x | lift_lets -underBinder

theorem kept_repeatFrame (c : Closed N I T M E K W Q) (a0 : State) (a1 : List Sys2Proof.Byte) (ha0 : Kept Q a0) : Kept Q (State.repeatFrame a0 a1) := by
  unfold State.repeatFrame
  repeat' with_reducible first
    | assumption | apply kept_chnEmit c

theorem kept_showChn (c : Closed N I T M E K W Q) (hp20 : W 20) (a0 : State) (ha0 : Kept Q a0) : Kept Q (State.showChn a0) := by
  unfold State.showChn
  try lift_lets -underBinder
  repeat' with_reducible first
    | assumption | (intro x; refine (fun hx : Kept Q x => ?_) ?_; clear_value x) | (intro x; clear_value x)
    | (intro x; refine (fun hx : Kept Q x => ?_) ?_; rotate_left; unfold x) | (intro x)
    | exact ok_lit 20 (by decide) hp20 | apply kept_w c | apply kept_wb c | apply kept_ite | split | unfold x
    | lift_lets -underBinder

theorem kept_setHold (c : Closed N I T M E K W Q) (hE : E) (hp0 : W 0) (hp2 : W 2) (hp20 : W 20) (hp22 : W 22) (hp3 : W 3) (a0 : State) (a1 : Bool) (ha0 : Kept Q a0) : Kept Q (State.setHold a0 a1) := by
  unfold State.setHold
  try lift_lets -underBinder
  repeat' with_reducible first
    | assumption | (intro x; refine (fun hx : Kept Q x => ?_) ?_; clear_value x) | (intro x; clear_value x)
    | (intro x; refine (fun hx : Kept Q x => ?_) ?_; rotate_left; unfold x) | (intro x)
    | exact kept_mk (kept_out (by with_reducible assumption)) | exact ok_lit 20 (by decide) hp20
    | apply kept_chnStick c hE hp2 hp22 hp3 | apply kept_setFlags c hp0 | apply kept_showChn c hp20
    | apply kept_updChn c | apply kept_ite | split | unfold x | lift_lets -underBinder

theorem kept_chnSeen (c : Closed N I T M E K W Q) (hp20 : W 20) (a0 : State) (a1 : Bool) (ha0 : Kept Q a0) : Kept Q (State.chnSeen a0 a1) := by
  unfold State.chnSeen
  try lift_lets -underBinder
  repeat' with_reducible first
    | assumption | (intro x; refine (fun hx : Kept Q x => ?_) ?_; clear_value x) | (intro x; clear_value x)
    | (intro x; refine (fun hx : Kept Q x => ?_) ?_; rotate_left; unfold x) | (intro x)
    | exact kept_mk (kept_out (by with_reducible assumption)) | exact ok_lit 20 (by decide) hp20
    | apply kept_showChn c hp20 | apply kept_updChn c | apply kept_w c | apply kept_ite | split | unfold x
    | lift_lets -underBinder

theorem kept_chainIn (c : Closed N I T M E K W Q) (hp20 : W 20) (a0 : State) (a1 : Sys2Proof.ChainIn) (a2 : Nat) (a3 : Bool → State → State) (ha0 : Kept Q a0) (ha3 : ∀ b s, Kept Q s → Kept Q (a3 b s)) : Kept Q (State.chainIn a0 a1 a2 a3) := by
  unfold State.chainIn
  try lift_lets -underBinder
  repeat' with_reducible first
    | assumption | (intro x; refine (fun hx : Kept Q x => ?_) ?_; clear_value x) | (intro x; clear_value x)
    | (intro x; refine (fun hx : Kept Q x => ?_) ?_; rotate_left; unfold x) | (intro x)
    | exact kept_mk (kept_out (by with_reducible assumption)) | apply kept_chnSeen c hp20
    | apply kept_repeatFrame c | apply ha3 | apply kept_ite | split | unfold x | lift_lets -underBinder

theorem kept_foreign (c : Closed N I T M E K W Q) (hE : E) (hp2 : W 2) (hp20 : W 20) (hp22 : W 22) (hp3 : W 3) (a0 : State) (a1 : Bool) (a2 : State → State) (ha0 : Kept Q a0) (ha2 : ∀ s, Kept Q s → Kept Q (a2 s)) : Kept Q (State.foreign a0 a1 a2) := by
  unfold State.foreign
  repeat' with_reducible first
    | assumption | exact ok_lit 20 (by decide) hp20 | apply kept_chnStick c hE hp2 hp22 hp3 | apply ha2
    | apply kept_ite | split

theorem kept_enumerate (c : Closed N I T M E K W Q) (a0 : State) (ha0 : Kept Q a0) : Kept Q (State.enumerate a0) := by
  unfold State.enumerate
  try lift_lets -underBinder
  repeat' with_reducible first
    | assumption | (intro x; refine (fun hx : Kept Q x => ?_) ?_; clear_value x) | (intro x; clear_value x)
    | (intro x; refine (fun hx : Kept Q x => ?_) ?_; rotate_left; unfold x) | (intro x)
    | exact kept_mk (kept_out (by with_reducible assumption)) | apply kept_chnOwn c | apply kept_updChn c
    | apply kept_ite | split | unfold x | lift_lets -underBinder

theorem kept_doEnumeration (c : Closed N I T M E K W Q) (a0 : State) (ha0 : Kept Q a0) : Kept Q (doEnumeration a0) := by
  unfold doEnumeration
  try lift_lets -underBinder
  repeat' with_reducible first
    | assumption | (intro x; refine (fun hx : Kept Q x => ?_) ?_; clear_value x) | (intro x; clear_value x)
    | (intro x; refine (fun hx : Kept Q x => ?_) ?_; rotate_left; unfold x) | (intro x)
    | exact kept_mk (kept_out (by with_reducible assumption)) | apply kept_enumerate c | apply kept_ite | split
    | unfold x | lift_lets -underBinder

theorem kept_takeNumber (c : Closed N I T M E K W Q) (hE : E) (hp2 : W 2) (hp20 : W 20) (hp22 : W 22) (hp3 : W 3) (a0 : State) (a1 : Nat) (ha0 : Kept Q a0) : Kept Q (State.takeNumber a0 a1) := by
  unfold State.takeNumber
  try lift_lets -underBinder
  repeat' with_reducible first
    | assumption | (intro x; refine (fun hx : Kept Q x => ?_) ?_; clear_value x) | (intro x; clear_value x)
    | (intro x; refine (fun hx : Kept Q x => ?_) ?_; rotate_left; unfold x) | (intro x)
    | exact ok_lit 20 (by decide) hp20 | apply kept_chnStick c hE hp2 hp22 hp3 | apply kept_w c | apply kept_wb c
    | apply kept_ite | split | unfold x | lift_lets -underBinder

theorem kept_doToken (c : Closed N I T M E K W Q) (hE : E) (hp2 : W 2) (hp20 : W 20) (hp22 : W 22) (hp3 : W 3) (a0 : Sys2Proof.ChainIn) (a1 : State) (ha1 : Kept Q a1) : Kept Q (doToken a0 a1) := by
  unfold doToken
  try lift_lets -underBinder
  repeat' with_reducible first
    | assumption | (intro x; refine (fun hx : Kept Q x => ?_) ?_; clear_value x) | (intro x; clear_value x)
    | (intro x; refine (fun hx : Kept Q x => ?_) ?_; rotate_left; unfold x) | (intro x)
    | exact kept_mk (kept_out (by with_reducible assumption)) | apply kept_chainIn c hp20
    | apply kept_foreign c hE hp2 hp20 hp22 hp3 | apply kept_repeatFrame c
    | apply kept_takeNumber c hE hp2 hp20 hp22 hp3 | apply kept_updChn c | apply kept_ite | split | unfold x
    | lift_lets -underBinder

theorem kept_doTokenReturn (c : Closed N I T M E K W Q) (hE : E) (hp2 : W 2) (hp20 : W 20) (hp22 : W 22) (hp3 : W 3) (a0 : Sys2Proof.ChainIn) (a1 : State) (ha1 : Kept Q a1) : Kept Q (doTokenReturn a0 a1) := by
  unfold doTokenReturn
  try lift_lets -underBinder
  repeat' with_reducible first
    | assumption | (intro x; refine (fun hx : Kept Q x => ?_) ?_; clear_value x) | (intro x; clear_value x)
    | (intro x; refine (fun hx : Kept Q x => ?_) ?_; rotate_left; unfold x) | (intro x)
    | exact kept_mk (kept_out (by with_reducible assumption)) | exact ok_lit 20 (by decide) hp20
    | apply kept_chainIn c hp20 | apply kept_chnOwn c | apply kept_chnStick c hE hp2 hp22 hp3
    | apply kept_updChn c | apply kept_w c | apply kept_ite | split | unfold x | lift_lets -underBinder

theorem kept_doCal (c : Closed N I T M E K W Q) (hE : E) (hp2 : W 2) (hp20 : W 20) (hp22 : W 22) (hp3 : W 3) (a0 : Sys2Proof.ChainIn) (a1 : State) (ha1 : Kept Q a1) : Kept Q (doCal a0 a1) := by
  unfold doCal
  try lift_lets -underBinder
  repeat' with_reducible first
    | assumption | (intro x; refine (fun hx : Kept Q x => ?_) ?_; clear_value x) | (intro x; clear_value x)
    | (intro x; refine (fun hx : Kept Q x => ?_) ?_; rotate_left; unfold x) | (intro x)
    | exact ok_lit 20 (by decide) hp20 | apply kept_chainIn c hp20 | apply kept_foreign c hE hp2 hp20 hp22 hp3
    | apply kept_repeatFrame c | apply kept_w c | apply kept_ite | split | unfold x | lift_lets -underBinder

theorem kept_doTimeSend (c : Closed N I T M E K W Q) (a0 : State) (ha0 : Kept Q a0) : Kept Q (doTimeSend a0) := by
  unfold doTimeSend
  try lift_lets -underBinder
  repeat' with_reducible first
    | assumption | (intro x; refine (fun hx : Kept Q x => ?_) ?_; clear_value x) | (intro x; clear_value x)
    | (intro x; refine (fun hx : Kept Q x => ?_) ?_; rotate_left; unfold x) | (intro x)
    | exact kept_mk (kept_out (by with_reducible assumption)) | apply kept_chnOwn c | apply kept_updChn c
    | apply kept_ite | split | unfold x | lift_lets -underBinder

theorem kept_stepTime (c : Closed N I T M E K W Q) (hE : E) (hT : T) (hp0 : W 0) (hp13 : W 13) (hp2 : W 2) (hp20 : W 20) (hp22 : W 22) (hp3 : W 3) (a0 : State) (a1 : Nat) (a2 : Bool) (ha0 : Kept Q a0) : Kept Q (State.stepTime a0 a1 a2) := by
  unfold State.stepTime
  try lift_lets -underBinder
  repeat' first
    | with_reducible assumption | (intro x; refine (fun hx : Kept Q x => ?_) ?_; clear_value x)
    | (intro x; clear_value x) | (intro x; refine (fun hx : Kept Q x => ?_) ?_; rotate_left; unfold x) | (intro x)
    | with_reducible exact kept_mk (kept_out (by with_reducible assumption))
    | with_reducible exact ok_lit 20 (by decide) hp20 | with_reducible apply kept_chnStick c hE hp2 hp22 hp3
    | with_reducible apply kept_geyStep c hE hp13 hp2 hp22 hp3 | with_reducible apply kept_setFlags c hp0
    | exact c.time hT _ _ (by assumption) | unfold x | lift_lets -underBinder

theorem kept_timeError (c : Closed N I T M E K W Q) (hE : E) (hT : T) (hp0 : W 0) (hp13 : W 13) (hp2 : W 2) (hp20 : W 20) (hp22 : W 22) (hp3 : W 3) (a0 : State) (a1 : Int) (a2 : Bool) (ha0 : Kept Q a0) : Kept Q (State.timeError a0 a1 a2) := by
  unfold State.timeError
  try lift_lets -underBinder
  repeat' with_reducible first
    | assumption | (intro x; refine (fun hx : Kept Q x => ?_) ?_; clear_value x)
    | (intro x; refine (fun hx : Kept Q x.1 => ?_) ?_; clear_value x) | (intro x; clear_value x)
    | (intro x; refine (fun hx : Kept Q x => ?_) ?_; rotate_left; unfold x) | (intro x)
    | exact kept_mk (kept_out (by with_reducible assumption)) | exact ok_lit 20 (by decide) hp20
    | apply kept_chnStick c hE hp2 hp22 hp3 | apply kept_draw c | refine snd_kept ‹_› ?_
    | apply kept_stepTime c hE hT hp0 hp13 hp2 hp20 hp22 hp3 | apply kept_updChn c | apply kept_w c
    | apply kept_ite | split | unfold x | lift_lets -underBinder

theorem kept_doTime (c : Closed N I T M E K W Q) (hE : E) (hT : T) (hp0 : W 0) (hp13 : W 13) (hp2 : W 2) (hp20 : W 20) (hp22 : W 22) (hp3 : W 3) (a0 : Sys2Proof.ChainIn) (a1 : State) (ha1 : Kept Q a1) : Kept Q (doTime a0 a1) := by
  unfold doTime
  try lift_lets -underBinder
  repeat' with_reducible first
    | assumption | (intro x; refine (fun hx : Kept Q x => ?_) ?_; clear_value x) | (intro x; clear_value x)
    | (intro x; refine (fun hx : Kept Q x => ?_) ?_; rotate_left; unfold x) | (intro x)
    | exact kept_mk (kept_out (by with_reducible assumption)) | apply kept_chainIn c hp20
    | apply kept_foreign c hE hp2 hp20 hp22 hp3 | apply kept_repeatFrame c
    | apply kept_setHold c hE hp0 hp2 hp20 hp22 hp3 | apply kept_showChn c hp20
    | apply kept_timeError c hE hT hp0 hp13 hp2 hp20 hp22 hp3 | apply kept_updChn c | apply kept_ite | split
    | unfold x | lift_lets -underBinder

theorem kept_doChainLoss (c : Closed N I T M E K W Q) (hE : E) (hp0 : W 0) (hp2 : W 2) (hp20 : W 20) (hp22 : W 22) (hp3 : W 3) (a0 : State) (ha0 : Kept Q a0) : Kept Q (doChainLoss a0) := by
  unfold doChainLoss
  try lift_lets -underBinder
  repeat' with_reducible first
    | assumption | (intro x; refine (fun hx : Kept Q x => ?_) ?_; clear_value x) | (intro x; clear_value x)
    | (intro x; refine (fun hx : Kept Q x => ?_) ?_; rotate_left; unfold x) | (intro x)
    | exact kept_mk (kept_out (by with_reducible assumption)) | exact ok_lit 20 (by decide) hp20
    | apply kept_chnStick c hE hp2 hp22 hp3 | apply kept_setHold c hE hp0 hp2 hp20 hp22 hp3
    | apply kept_showChn c hp20 | apply kept_updChn c | apply kept_w c | apply kept_ite | split | unfold x
    | lift_lets -underBinder

theorem kept_doChainCrcError (c : Closed N I T M E K W Q) (hE : E) (hp2 : W 2) (hp20 : W 20) (hp22 : W 22) (hp3 : W 3) (a0 : Nat) (a1 : State) (ha1 : Kept Q a1) : Kept Q (doChainCrcError a0 a1) := by
  unfold doChainCrcError
  try lift_lets -underBinder
  repeat' with_reducible first
    | assumption | (intro x; refine (fun hx : Kept Q x => ?_) ?_; clear_value x) | (intro x; clear_value x)
    | (intro x; refine (fun hx : Kept Q x => ?_) ?_; rotate_left; unfold x) | (intro x)
    | exact kept_mk (kept_out (by with_reducible assumption)) | exact ok_lit 20 (by decide) hp20
    | apply kept_bump c | apply kept_chnStick c hE hp2 hp22 hp3 | apply kept_ite | split | unfold x
    | lift_lets -underBinder

theorem kept_chnApply (c : Closed N I T M E K W Q) (hE : E) (hp0 : W 0) (hp2 : W 2) (hp20 : W 20) (hp22 : W 22) (hp3 : W 3) (a0 : State) (a1 : Bool) (a2 : Bool) (ha0 : Kept Q a0) : Kept Q (State.chnApply a0 a1 a2) := by
  unfold State.chnApply
  try lift_lets -underBinder
  repeat' with_reducible first
    | assumption | (intro x; refine (fun hx : Kept Q x => ?_) ?_; clear_value x)
    | (intro x; refine (fun hx : Kept Q x.1 => ?_) ?_; clear_value x) | (intro x; clear_value x)
    | (intro x; refine (fun hx : Kept Q x => ?_) ?_; rotate_left; unfold x) | (intro x)
    | exact kept_mk (kept_out (by with_reducible assumption)) | exact ok_lit 20 (by decide) hp20
    | apply kept_draw c | refine snd_kept ‹_› ?_ | apply kept_setHold c hE hp0 hp2 hp20 hp22 hp3
    | apply kept_showChn c hp20 | apply kept_updChn c | apply kept_w c | apply kept_ite | split | unfold x
    | lift_lets -underBinder | refine kept_mk (kept_out ?_)

theorem kept_syncReset (c : Closed N I T M E K W Q) (hE : E) (hp16 : W 16) (hp2 : W 2) (hp20 : W 20) (hp22 : W 22) (hp3 : W 3) (hp6 : W 6) (hp7 : W 7) (a0 : State) (ha0 : Kept Q a0) : Kept Q (State.syncReset a0) := by
  unfold State.syncReset
  try lift_lets -underBinder
  repeat' with_reducible first
    | assumption | (intro x; refine (fun hx : Kept Q x => ?_) ?_; clear_value x) | (intro x; clear_value x)
    | (intro x; refine (fun hx : Kept Q x => ?_) ?_; rotate_left; unfold x) | (intro x)
    | exact kept_mk (kept_out (by with_reducible assumption)) | exact ok_lit 20 (by decide) hp20
    | apply kept_decRestart c hE hp2 hp22 hp3 hp6 hp7 | apply kept_noticeGap c hE hp16 hp2 hp22 hp3
    | apply kept_updChn c | apply kept_w c | apply foldl_kept | apply foldl_kept1 | apply kept_ite | split
    | unfold x | lift_lets -underBinder

theorem kept_doSynchronisingReset (c : Closed N I T M E K W Q) (hE : E) (hp16 : W 16) (hp2 : W 2) (hp20 : W 20) (hp22 : W 22) (hp3 : W 3) (hp6 : W 6) (hp7 : W 7) (a0 : State) (ha0 : Kept Q a0) : Kept Q (doSynchronisingReset a0) := by
  unfold doSynchronisingReset
  try lift_lets -underBinder
  repeat' with_reducible first
    | assumption | (intro x; refine (fun hx : Kept Q x => ?_) ?_; clear_value x) | (intro x; clear_value x)
    | (intro x; refine (fun hx : Kept Q x => ?_) ?_; rotate_left; unfold x) | (intro x)
    | exact kept_mk (kept_out (by with_reducible assumption)) | exact ok_lit 20 (by decide) hp20
    | apply kept_chnStick c hE hp2 hp22 hp3 | apply kept_syncReset c hE hp16 hp2 hp20 hp22 hp3 hp6 hp7
    | apply kept_updChn c | apply kept_ite | split | unfold x | lift_lets -underBinder

theorem kept_takeCmd (c : Closed N I T M E K W Q) (hE : E) (hp13 : W 13) (hp2 : W 2) (hp20 : W 20) (hp22 : W 22) (hp3 : W 3) (a0 : State) (a1 : Nat) (a2 : Nat) (a3 : Nat) (ha0 : Kept Q a0) : Kept Q (State.takeCmd a0 a1 a2 a3) := by
  unfold State.takeCmd
  try lift_lets -underBinder
  repeat' with_reducible first
    | assumption | (intro x; refine (fun hx : Kept Q x => ?_) ?_; clear_value x) | (intro x; clear_value x)
    | (intro x; refine (fun hx : Kept Q x => ?_) ?_; rotate_left; unfold x) | (intro x)
    | exact kept_mk (kept_out (by with_reducible assumption)) | exact ok_lit 20 (by decide) hp20
    | apply kept_chnStick c hE hp2 hp22 hp3 | apply kept_geyChain c hE hp13 hp2 hp22 hp3 | apply kept_updChn c
    | apply kept_ite | split | unfold x | lift_lets -underBinder

theorem kept_doCmd (c : Closed N I T M E K W Q) (hE : E) (hp13 : W 13) (hp2 : W 2) (hp20 : W 20) (hp22 : W 22) (hp3 : W 3) (a0 : Sys2Proof.ChainIn) (a1 : State) (ha1 : Kept Q a1) : Kept Q (doCmd a0 a1) := by
  unfold doCmd
  repeat' with_reducible first
    | assumption | (intro x; refine (fun hx : Kept Q x => ?_) ?_; clear_value x) | (intro x; clear_value x)
    | (intro x; refine (fun hx : Kept Q x => ?_) ?_; rotate_left; unfold x) | (intro x)
    | apply kept_chainIn c hp20 | apply kept_repeatFrame c | apply kept_takeCmd c hE hp13 hp2 hp20 hp22 hp3
    | apply kept_ite | split | unfold x | lift_lets -underBinder

theorem kept_doChainCommandAct (c : Closed N I T M E K W Q) (hE : E) (hp13 : W 13) (hp16 : W 16) (hp2 : W 2) (hp20 : W 20) (hp22 : W 22) (hp3 : W 3) (hp6 : W 6) (hp7 : W 7) (a0 : State) (ha0 : Kept Q a0) : Kept Q (doChainCommandAct a0) := by
  unfold doChainCommandAct
  try lift_lets -underBinder
  repeat' with_reducible first
    | assumption | (intro x; refine (fun hx : Kept Q x => ?_) ?_; clear_value x)
    | (intro x; refine (fun hx : Kept Q x.1 => ?_) ?_; clear_value x) | (intro x; clear_value x)
    | (intro x; refine (fun hx : Kept Q x => ?_) ?_; rotate_left; unfold x) | (intro x)
    | exact kept_mk (kept_out (by with_reducible assumption)) | exact ok_lit 20 (by decide) hp20
    | apply kept_chnStick c hE hp2 hp22 hp3 | apply kept_geyChain c hE hp13 hp2 hp22 hp3
    | apply kept_syncReset c hE hp16 hp2 hp20 hp22 hp3 hp6 hp7 | apply kept_updChn c | apply foldl_kept
    | apply foldl_kept1 | apply kept_ite | split | unfold x | lift_lets -underBinder

theorem kept_originate (c : Closed N I T M E K W Q) (hE : E) (hp13 : W 13) (hp2 : W 2) (hp20 : W 20) (hp22 : W 22) (hp3 : W 3) (a0 : State) (a1 : Nat) (a2 : Nat) (a3 : Nat) (ha0 : Kept Q a0) : Kept Q (State.originate a0 a1 a2 a3) := by
  unfold State.originate
  try lift_lets -underBinder
  repeat' with_reducible first
    | assumption | (intro x; refine (fun hx : Kept Q x => ?_) ?_; clear_value x) | (intro x; clear_value x)
    | (intro x; refine (fun hx : Kept Q x => ?_) ?_; rotate_left; unfold x) | (intro x) | apply kept_chnOwn c
    | apply kept_takeCmd c hE hp13 hp2 hp20 hp22 hp3 | unfold x | lift_lets -underBinder

theorem kept_chainSend (c : Closed N I T M E K W Q) (hE : E) (hp13 : W 13) (hp2 : W 2) (hp20 : W 20) (hp22 : W 22) (hp3 : W 3) (a0 : State) (a1 : Nat) (ha0 : Kept Q a0) : Kept Q (State.chainSend a0 a1) := by
  unfold State.chainSend
  try lift_lets -underBinder
  repeat' with_reducible first
    | assumption | (intro x; refine (fun hx : Kept Q x => ?_) ?_; clear_value x) | (intro x; clear_value x)
    | (intro x; refine (fun hx : Kept Q x => ?_) ?_; rotate_left; unfold x) | (intro x)
    | exact ok_lit 20 (by decide) hp20 | apply kept_originate c hE hp13 hp2 hp20 hp22 hp3 | apply kept_w c
    | apply kept_ite | split | unfold x | lift_lets -underBinder

theorem kept_syncPulse (c : Closed N I T M E K W Q) (a0 : State) (ha0 : Kept Q a0) : Kept Q (State.syncPulse a0) := by
  unfold State.syncPulse
  try lift_lets -underBinder
  repeat' with_reducible first
    | assumption | (intro x; refine (fun hx : Kept Q x => ?_) ?_; clear_value x) | (intro x; clear_value x)
    | (intro x; refine (fun hx : Kept Q x => ?_) ?_; rotate_left; unfold x) | (intro x)
    | exact kept_mk (kept_out (by with_reducible assumption)) | apply kept_emit c | apply kept_updChn c
    | apply kept_ite | split | unfold x | lift_lets -underBinder

theorem kept_doSyncNEdge (c : Closed N I T M E K W Q) (hE : E) (hp13 : W 13) (hp2 : W 2) (hp20 : W 20) (hp22 : W 22) (hp3 : W 3) (a0 : Nat) (a1 : State) (ha1 : Kept Q a1) : Kept Q (doSyncNEdge a0 a1) := by
  unfold doSyncNEdge
  try lift_lets -underBinder
  repeat' with_reducible first
    | assumption | (intro x; refine (fun hx : Kept Q x => ?_) ?_; clear_value x) | (intro x; clear_value x)
    | (intro x; refine (fun hx : Kept Q x => ?_) ?_; rotate_left; unfold x) | (intro x)
    | exact kept_mk (kept_out (by with_reducible assumption)) | exact ok_lit 20 (by decide) hp20
    | apply kept_chnStick c hE hp2 hp22 hp3 | apply kept_originate c hE hp13 hp2 hp20 hp22 hp3
    | apply kept_updChn c | apply kept_ite | split | unfold x | lift_lets -underBinder

theorem kept_chnCommand (c : Closed N I T M E K W Q) (hE : E) (hp13 : W 13) (hp2 : W 2) (hp20 : W 20) (hp22 : W 22) (hp3 : W 3) (a0 : State) (a1 : Nat) (ha0 : Kept Q a0) : Kept Q (State.chnCommand a0 a1) := by
  unfold State.chnCommand
  try lift_lets -underBinder
  repeat' with_reducible first
    | assumption | (intro x; refine (fun hx : Kept Q x => ?_) ?_; clear_value x) | (intro x; clear_value x)
    | (intro x; refine (fun hx : Kept Q x => ?_) ?_; rotate_left; unfold x) | (intro x)
    | apply kept_chainSend c hE hp13 hp2 hp20 hp22 hp3 | apply kept_enumerate c | apply kept_syncPulse c
    | apply kept_ite | split | unfold x | lift_lets -underBinder

theorem kept_updTwn (c : Closed N I T M E K W Q) (a0 : State) (a1 : TwnSt → TwnSt) (ha0 : Kept Q a0) : Kept Q (State.updTwn a0 a1) := by
  unfold State.updTwn
  try lift_lets -underBinder
  repeat' with_reducible first
    | assumption | (intro x; refine (fun hx : Kept Q x => ?_) ?_; clear_value x) | (intro x; clear_value x)
    | (intro x; refine (fun hx : Kept Q x => ?_) ?_; rotate_left; unfold x) | (intro x)
    | exact kept_mk (kept_out (by with_reducible assumption)) | unfold x | lift_lets -underBinder

theorem kept_twnStick (c : Closed N I T M E K W Q) (hE : E) (hp2 : W 2) (hp22 : W 22) (hp3 : W 3) (a0 : State) (a1 : Fld) (ha0 : Kept Q a0) (ha1 : OkFld W a1) : Kept Q (State.twnStick a0 a1) := by
  unfold State.twnStick
  repeat' with_reducible first
    | assumption | apply kept_stickEv c hE hp2 hp22 hp3 | apply kept_ite | split

theorem kept_setTko (c : Closed N I T M E K W Q) (a0 : State) (a1 : Bool) (ha0 : Kept Q a0) : Kept Q (State.setTko a0 a1) := by
  unfold State.setTko
  try lift_lets -underBinder
  repeat' with_reducible first
    | assumption | (intro x; refine (fun hx : Kept Q x => ?_) ?_; clear_value x) | (intro x; clear_value x)
    | (intro x; refine (fun hx : Kept Q x => ?_) ?_; rotate_left; unfold x) | (intro x)
    | exact kept_mk (kept_out (by with_reducible assumption)) | apply kept_emit c | apply kept_updTwn c
    | apply kept_ite | split | unfold x | lift_lets -underBinder

theorem kept_putRole (c : Closed N I T M E K W Q) (hp0 : W 0) (hp21 : W 21) (a0 : State) (a1 : Nat) (ha0 : Kept Q a0) : Kept Q (State.putRole a0 a1) := by
  unfold State.putRole
  repeat' with_reducible first
    | assumption | exact ok_lit 0 (by decide) hp0 | exact ok_lit 21 (by decide) hp21 | apply kept_w c

theorem kept_roleChanged (c : Closed N I T M E K W Q) (hE : E) (hM : M) (hp10 : W 10) (hp15 : W 15) (hp16 : W 16) (hp18 : W 18) (hp2 : W 2) (hp22 : W 22) (hp3 : W 3) (hp4 : W 4) (a0 : State) (ha0 : Kept Q a0) : Kept Q (State.roleChanged a0) := by
  unfold State.roleChanged
  try lift_lets -underBinder
  repeat' with_reducible first
    | assumption | (intro x; refine (fun hx : Kept Q x => ?_) ?_; clear_value x) | (intro x; clear_value x)
    | (intro x; refine (fun hx : Kept Q x => ?_) ?_; rotate_left; unfold x) | (intro x)
    | exact kept_mk (kept_out (by with_reducible assumption)) | exact ok_lit 10 (by decide) hp10
    | apply kept_canModeCheck c hE hM hp18 hp2 hp22 hp3 | apply kept_each c | apply kept_showBias c hp4
    | apply kept_smBoth c hE hp16 hp2 hp22 hp3 | apply kept_tmpRecheck c hp15 | apply kept_updPrt c
    | apply kept_wb c | apply kept_windingStop c hp4 | apply kept_ite | split | unfold x | lift_lets -underBinder

theorem kept_skipSeq (c : Closed N I T M E K W Q) (hE : E) (hp16 : W 16) (hp17 : W 17) (hp2 : W 2) (hp22 : W 22) (hp3 : W 3) (a0 : State) (ha0 : Kept Q a0) : Kept Q (State.skipSeq a0) := by
  unfold State.skipSeq
  repeat' with_reducible first
    | assumption | (intro x; refine (fun hx : Kept Q x => ?_) ?_; clear_value x) | (intro x; clear_value x)
    | (intro x; refine (fun hx : Kept Q x => ?_) ?_; rotate_left; unfold x) | (intro x) | apply kept_each c
    | apply kept_nextSeq c hE hp16 hp17 hp2 hp22 hp3 | apply kept_ite | split | unfold x | lift_lets -underBinder

theorem kept_becomeActive (c : Closed N I T M E K W Q) (hE : E) (hM : M) (hp0 : W 0) (hp10 : W 10) (hp15 : W 15) (hp16 : W 16) (hp17 : W 17) (hp18 : W 18) (hp2 : W 2) (hp21 : W 21) (hp22 : W 22) (hp3 : W 3) (hp4 : W 4) (a0 : State) (a1 : Nat) (ha0 : Kept Q a0) : Kept Q (State.becomeActive a0 a1) := by
  unfold State.becomeActive
  try lift_lets -underBinder
  repeat' with_reducible first
    | assumption | (intro x; refine (fun hx : Kept Q x => ?_) ?_; clear_value x) | (intro x; clear_value x)
    | (intro x; refine (fun hx : Kept Q x => ?_) ?_; rotate_left; unfold x) | (intro x)
    | exact kept_mk (kept_out (by with_reducible assumption)) | exact ok_lit 21 (by decide) hp21
    | apply kept_bump c | apply kept_each c | apply kept_putRole c hp0 hp21
    | apply kept_roleChanged c hE hM hp10 hp15 hp16 hp18 hp2 hp22 hp3 hp4 | apply kept_setTko c
    | apply kept_skipSeq c hE hp16 hp17 hp2 hp22 hp3 | apply kept_tmpTake c
    | apply kept_twnStick c hE hp2 hp22 hp3 | apply kept_updExc c | apply kept_updTwn c | apply kept_w c
    | apply kept_ite | split | unfold x | lift_lets -underBinder

theorem kept_becomeStandby (c : Closed N I T M E K W Q) (hE : E) (hM : M) (hp0 : W 0) (hp10 : W 10) (hp13 : W 13) (hp15 : W 15) (hp16 : W 16) (hp18 : W 18) (hp2 : W 2) (hp21 : W 21) (hp22 : W 22) (hp3 : W 3) (hp4 : W 4) (a0 : State) (a1 : Nat) (ha0 : Kept Q a0) : Kept Q (State.becomeStandby a0 a1) := by
  unfold State.becomeStandby
  try lift_lets -underBinder
  repeat' with_reducible first
    | assumption | (intro x; refine (fun hx : Kept Q x => ?_) ?_; clear_value x) | (intro x; clear_value x)
    | (intro x; refine (fun hx : Kept Q x => ?_) ?_; rotate_left; unfold x) | (intro x)
    | exact kept_mk (kept_out (by with_reducible assumption)) | exact ok_lit 21 (by decide) hp21
    | apply kept_each c | apply kept_putRole c hp0 hp21
    | apply kept_roleChanged c hE hM hp10 hp15 hp16 hp18 hp2 hp22 hp3 hp4 | apply kept_streamDrive c hp13
    | apply kept_updExc c | apply kept_updTwn c | apply kept_w c | apply kept_ite | split | unfold x
    | lift_lets -underBinder

theorem kept_twnEnter (c : Closed N I T M E K W Q) (hE : E) (hM : M) (hp0 : W 0) (hp10 : W 10) (hp12 : W 12) (hp13 : W 13) (hp15 : W 15) (hp16 : W 16) (hp18 : W 18) (hp2 : W 2) (hp21 : W 21) (hp22 : W 22) (hp3 : W 3) (hp4 : W 4) (hp5 : W 5) (hp6 : W 6) (a0 : State) (ha0 : Kept Q a0) : Kept Q (State.twnEnter a0) := by
  unfold State.twnEnter
  try lift_lets -underBinder
  repeat' with_reducible first
    | assumption | (intro x; refine (fun hx : Kept Q x => ?_) ?_; clear_value x) | (intro x; clear_value x)
    | (intro x; refine (fun hx : Kept Q x => ?_) ?_; rotate_left; unfold x) | (intro x)
    | exact kept_mk (kept_out (by with_reducible assumption)) | apply kept_each c | apply kept_emuDrivers c hp12
    | apply kept_enterSense c hp5 hp6 | apply kept_putRole c hp0 hp21
    | apply kept_roleChanged c hE hM hp10 hp15 hp16 hp18 hp2 hp22 hp3 hp4 | apply kept_streamDrive c hp13
    | apply kept_updTwn c | apply kept_ite | split | unfold x | lift_lets -underBinder

theorem kept_twnLeave (c : Closed N I T M E K W Q) (hE : E) (hM : M) (hp0 : W 0) (hp10 : W 10) (hp12 : W 12) (hp13 : W 13) (hp15 : W 15) (hp16 : W 16) (hp18 : W 18) (hp2 : W 2) (hp21 : W 21) (hp22 : W 22) (hp3 : W 3) (hp4 : W 4) (hp5 : W 5) (hp6 : W 6) (a0 : State) (ha0 : Kept Q a0) : Kept Q (State.twnLeave a0) := by
  unfold State.twnLeave
  try lift_lets -underBinder
  repeat' with_reducible first
    | assumption | (intro x; refine (fun hx : Kept Q x => ?_) ?_; clear_value x) | (intro x; clear_value x)
    | (intro x; refine (fun hx : Kept Q x => ?_) ?_; rotate_left; unfold x) | (intro x)
    | exact kept_mk (kept_out (by with_reducible assumption)) | exact ok_lit 21 (by decide) hp21
    | apply kept_each c | apply kept_emuDrivers c hp12 | apply kept_leaveSense c hp5 hp6
    | apply kept_putRole c hp0 hp21 | apply kept_roleChanged c hE hM hp10 hp15 hp16 hp18 hp2 hp22 hp3 hp4
    | apply kept_setTko c | apply kept_streamDrive c hp13 | apply kept_updExc c | apply kept_updTwn c
    | apply kept_w c | apply kept_ite | split | unfold x | lift_lets -underBinder

theorem kept_twnApply (c : Closed N I T M E K W Q) (hE : E) (hM : M) (hp0 : W 0) (hp10 : W 10) (hp12 : W 12) (hp13 : W 13) (hp15 : W 15) (hp16 : W 16) (hp18 : W 18) (hp2 : W 2) (hp21 : W 21) (hp22 : W 22) (hp3 : W 3) (hp4 : W 4) (hp5 : W 5) (hp6 : W 6) (a0 : State) (a1 : Bool) (ha0 : Kept Q a0) : Kept Q (State.twnApply a0 a1) := by
  unfold State.twnApply
  repeat' with_reducible first
    | assumption | apply kept_twnLeave c hE hM hp0 hp10 hp12 hp13 hp15 hp16 hp18 hp2 hp21 hp22 hp3 hp4 hp5 hp6
    | apply kept_ite | split

theorem kept_takeDriven (c : Closed N I T M E K W Q) (hE : E) (hp2 : W 2) (hp22 : W 22) (hp3 : W 3) (hp5 : W 5) (hp6 : W 6) (a0 : State) (a1 : Nat) (a2 : Nat) (ha0 : Kept Q a0) : Kept Q (State.takeDriven a0 a1 a2) := by
  unfold State.takeDriven
  try lift_lets -underBinder
  repeat' with_reducible first
    | assumption | (intro x; refine (fun hx : Kept Q x => ?_) ?_; clear_value x) | (intro x; clear_value x)
    | (intro x; refine (fun hx : Kept Q x => ?_) ?_; rotate_left; unfold x) | (intro x)
    | exact kept_mk (kept_out (by with_reducible assumption)) | apply kept_freqAtCrossing c hE hp2 hp22 hp3 hp5
    | apply kept_putWave c | apply kept_requestAmp c hp5 | apply kept_setDrv c hp5 hp6
    | apply kept_setLocked c hp5 hp6 | apply kept_showPend c hp5 | apply kept_stepAtCrossing c hp5
    | apply kept_updExc c | apply kept_ite | split | unfold x | lift_lets -underBinder

theorem kept_doTakeoverCrossing (c : Closed N I T M E K W Q) (hE : E) (hp2 : W 2) (hp22 : W 22) (hp3 : W 3) (hp4 : W 4) (hp5 : W 5) (hp6 : W 6) (a0 : Nat) (a1 : State) (ha1 : Kept Q a1) : Kept Q (doTakeoverCrossing a0 a1) := by
  unfold doTakeoverCrossing
  try lift_lets -underBinder
  repeat' with_reducible first
    | assumption | (intro x; refine (fun hx : Kept Q x => ?_) ?_; clear_value x) | (intro x; clear_value x)
    | (intro x; refine (fun hx : Kept Q x => ?_) ?_; rotate_left; unfold x) | (intro x)
    | exact kept_mk (kept_out (by with_reducible assumption)) | exact ok_lit 5 (by decide) hp5
    | apply kept_driverFault c hE hp2 hp22 hp3 hp5 hp6 | apply kept_enterSense c hp5 hp6
    | apply kept_enterSoft c hp5 hp6 | apply kept_faultDrv c hp5 hp6 | apply kept_leaveSense c hp5 hp6
    | apply kept_showBias c hp4 | apply kept_stickEv c hE hp2 hp22 hp3
    | apply kept_takeDriven c hE hp2 hp22 hp3 hp5 hp6 | apply kept_updExc c | apply kept_ite | split | unfold x
    | lift_lets -underBinder

theorem kept_doTakeoverOutputEnable (c : Closed N I T M E K W Q) (hp13 : W 13) (a0 : State) (ha0 : Kept Q a0) : Kept Q (doTakeoverOutputEnable a0) := by
  unfold doTakeoverOutputEnable
  try lift_lets -underBinder
  repeat' with_reducible first
    | assumption | (intro x; refine (fun hx : Kept Q x => ?_) ?_; clear_value x) | (intro x; clear_value x)
    | (intro x; refine (fun hx : Kept Q x => ?_) ?_; rotate_left; unfold x) | (intro x)
    | exact kept_mk (kept_out (by with_reducible assumption)) | apply kept_streamDrive c hp13
    | apply kept_updTwn c | apply kept_ite | split | unfold x | lift_lets -underBinder

theorem kept_doEmuDriverEnable (c : Closed N I T M E K W Q) (hp12 : W 12) (a0 : State) (ha0 : Kept Q a0) : Kept Q (doEmuDriverEnable a0) := by
  unfold doEmuDriverEnable
  try lift_lets -underBinder
  repeat' with_reducible first
    | assumption | (intro x; refine (fun hx : Kept Q x => ?_) ?_; clear_value x) | (intro x; clear_value x)
    | (intro x; refine (fun hx : Kept Q x => ?_) ?_; rotate_left; unfold x) | (intro x)
    | exact kept_mk (kept_out (by with_reducible assumption)) | apply kept_emuDrivers c hp12 | apply kept_updTwn c
    | apply kept_ite | split | unfold x | lift_lets -underBinder

theorem kept_showHeart (c : Closed N I T M E K W Q) (hp21 : W 21) (a0 : State) (ha0 : Kept Q a0) : Kept Q (State.showHeart a0) := by
  unfold State.showHeart
  repeat' with_reducible first
    | assumption | exact ok_lit 21 (by decide) hp21 | apply kept_wb c

theorem kept_heartEdge (c : Closed N I T M E K W Q) (a0 : State) (ha0 : Kept Q a0) : Kept Q (State.heartEdge a0) := by
  unfold State.heartEdge
  try lift_lets -underBinder
  repeat' with_reducible first
    | assumption | (intro x; refine (fun hx : Kept Q x => ?_) ?_; clear_value x) | (intro x; clear_value x)
    | (intro x; refine (fun hx : Kept Q x => ?_) ?_; rotate_left; unfold x) | (intro x)
    | exact kept_mk (kept_out (by with_reducible assumption)) | apply kept_emit c | apply kept_updTwn c
    | apply kept_ite | split | unfold x | lift_lets -underBinder

theorem kept_doHeartbeatRestart (c : Closed N I T M E K W Q) (hp21 : W 21) (a0 : State) (ha0 : Kept Q a0) : Kept Q (doHeartbeatRestart a0) := by
  unfold doHeartbeatRestart
  try lift_lets -underBinder
  repeat' with_reducible first
    | assumption | (intro x; refine (fun hx : Kept Q x => ?_) ?_; clear_value x) | (intro x; clear_value x)
    | (intro x; refine (fun hx : Kept Q x => ?_) ?_; rotate_left; unfold x) | (intro x)
    | exact kept_mk (kept_out (by with_reducible assumption)) | apply kept_showHeart c hp21 | apply kept_updTwn c
    | apply kept_ite | split | unfold x | lift_lets -underBinder

theorem kept_doPartnerHeartbeatLost (c : Closed N I T M E K W Q) (hE : E) (hp2 : W 2) (hp21 : W 21) (hp22 : W 22) (hp3 : W 3) (a0 : State) (ha0 : Kept Q a0) : Kept Q (doPartnerHeartbeatLost a0) := by
  unfold doPartnerHeartbeatLost
  try lift_lets -underBinder
  repeat' with_reducible first
    | assumption | (intro x; refine (fun hx : Kept Q x => ?_) ?_; clear_value x) | (intro x; clear_value x)
    | (intro x; refine (fun hx : Kept Q x => ?_) ?_; rotate_left; unfold x) | (intro x)
    | exact kept_mk (kept_out (by with_reducible assumption)) | exact ok_lit 21 (by decide) hp21 | apply ok_ite
    | apply kept_twnStick c hE hp2 hp22 hp3 | apply kept_updTwn c | apply kept_w c | apply kept_ite | split
    | unfold x | lift_lets -underBinder

theorem kept_doPartnerHeartbeatEdge (c : Closed N I T M E K W Q) (hp21 : W 21) (a0 : State) (ha0 : Kept Q a0) : Kept Q (doPartnerHeartbeatEdge a0) := by
  unfold doPartnerHeartbeatEdge
  try lift_lets -underBinder
  repeat' with_reducible first
    | assumption | (intro x; refine (fun hx : Kept Q x => ?_) ?_; clear_value x) | (intro x; clear_value x)
    | (intro x; refine (fun hx : Kept Q x => ?_) ?_; rotate_left; unfold x) | (intro x)
    | exact kept_mk (kept_out (by with_reducible assumption)) | exact ok_lit 21 (by decide) hp21
    | apply kept_updTwn c | apply kept_w c | apply kept_ite | split | unfold x | lift_lets -underBinder

theorem kept_startClaim (c : Closed N I T M E K W Q) (hp21 : W 21) (a0 : State) (ha0 : Kept Q a0) : Kept Q (State.startClaim a0) := by
  unfold State.startClaim
  try lift_lets -underBinder
  repeat' with_reducible first
    | assumption | (intro x; refine (fun hx : Kept Q x => ?_) ?_; clear_value x) | (intro x; clear_value x)
    | (intro x; refine (fun hx : Kept Q x => ?_) ?_; rotate_left; unfold x) | (intro x)
    | exact kept_mk (kept_out (by with_reducible assumption)) | exact ok_lit 21 (by decide) hp21
    | apply kept_setTko c | apply kept_updTwn c | apply kept_w c | apply kept_ite | split | unfold x
    | lift_lets -underBinder

theorem kept_endClaim (c : Closed N I T M E K W Q) (hp21 : W 21) (a0 : State) (ha0 : Kept Q a0) : Kept Q (State.endClaim a0) := by
  unfold State.endClaim
  try lift_lets -underBinder
  repeat' with_reducible first
    | assumption | (intro x; refine (fun hx : Kept Q x => ?_) ?_; clear_value x) | (intro x; clear_value x)
    | (intro x; refine (fun hx : Kept Q x => ?_) ?_; rotate_left; unfold x) | (intro x)
    | exact kept_mk (kept_out (by with_reducible assumption)) | exact ok_lit 21 (by decide) hp21
    | apply kept_setTko c | apply kept_updTwn c | apply kept_w c | apply kept_ite | split | unfold x
    | lift_lets -underBinder

theorem kept_doClaim (c : Closed N I T M E K W Q) (hp21 : W 21) (a0 : State) (ha0 : Kept Q a0) : Kept Q (doClaim a0) := by
  unfold doClaim
  try lift_lets -underBinder
  repeat' with_reducible first
    | assumption | (intro x; refine (fun hx : Kept Q x => ?_) ?_; clear_value x) | (intro x; clear_value x)
    | (intro x; refine (fun hx : Kept Q x => ?_) ?_; rotate_left; unfold x) | (intro x)
    | exact kept_mk (kept_out (by with_reducible assumption)) | apply kept_startClaim c hp21 | apply kept_ite
    | split | unfold x | lift_lets -underBinder

theorem kept_twnTake (c : Closed N I T M E K W Q) (hp21 : W 21) (a0 : State) (ha0 : Kept Q a0) : Kept Q (State.twnTake a0) := by
  unfold State.twnTake
  repeat' with_reducible first
    | assumption | apply kept_startClaim c hp21 | apply kept_ite | split

theorem kept_doInitialClaim (c : Closed N I T M E K W Q) (hp21 : W 21) (a0 : State) (ha0 : Kept Q a0) : Kept Q (doInitialClaim a0) := by
  unfold doInitialClaim
  try lift_lets -underBinder
  repeat' with_reducible first
    | assumption | (intro x; refine (fun hx : Kept Q x => ?_) ?_; clear_value x) | (intro x; clear_value x)
    | (intro x; refine (fun hx : Kept Q x => ?_) ?_; rotate_left; unfold x) | (intro x)
    | exact kept_mk (kept_out (by with_reducible assumption)) | apply kept_startClaim c hp21 | apply kept_updTwn c
    | apply kept_ite | split | unfold x | lift_lets -underBinder

theorem kept_doClaimCheck (c : Closed N I T M E K W Q) (hE : E) (hM : M) (hp0 : W 0) (hp10 : W 10) (hp15 : W 15) (hp16 : W 16) (hp17 : W 17) (hp18 : W 18) (hp2 : W 2) (hp21 : W 21) (hp22 : W 22) (hp3 : W 3) (hp4 : W 4) (a0 : Bool) (a1 : State) (ha1 : Kept Q a1) : Kept Q (doClaimCheck a0 a1) := by
  unfold doClaimCheck
  try lift_lets -underBinder
  repeat' with_reducible first
    | assumption | (intro x; refine (fun hx : Kept Q x => ?_) ?_; clear_value x) | (intro x; clear_value x)
    | (intro x; refine (fun hx : Kept Q x => ?_) ?_; rotate_left; unfold x) | (intro x)
    | exact kept_mk (kept_out (by with_reducible assumption)) | exact ok_lit 21 (by decide) hp21
    | apply kept_becomeActive c hE hM hp0 hp10 hp15 hp16 hp17 hp18 hp2 hp21 hp22 hp3 hp4
    | apply kept_endClaim c hp21 | apply kept_twnStick c hE hp2 hp22 hp3 | apply kept_updTwn c | apply kept_ite
    | split | unfold x | lift_lets -underBinder

theorem kept_doForcedTakeover (c : Closed N I T M E K W Q) (hE : E) (hM : M) (hp0 : W 0) (hp10 : W 10) (hp15 : W 15) (hp16 : W 16) (hp17 : W 17) (hp18 : W 18) (hp2 : W 2) (hp21 : W 21) (hp22 : W 22) (hp3 : W 3) (hp4 : W 4) (a0 : State) (ha0 : Kept Q a0) : Kept Q (doForcedTakeover a0) := by
  unfold doForcedTakeover
  repeat' with_reducible first
    | assumption | exact ok_lit 21 (by decide) hp21
    | apply kept_becomeActive c hE hM hp0 hp10 hp15 hp16 hp17 hp18 hp2 hp21 hp22 hp3 hp4
    | apply kept_twnStick c hE hp2 hp22 hp3 | apply kept_ite | split

theorem kept_tokenFall (c : Closed N I T M E K W Q) (hE : E) (hp2 : W 2) (hp21 : W 21) (hp22 : W 22) (hp3 : W 3) (a0 : State) (ha0 : Kept Q a0) : Kept Q (State.tokenFall a0) := by
  unfold State.tokenFall
  try lift_lets -underBinder
  repeat' with_reducible first
    | assumption | (intro x; refine (fun hx : Kept Q x => ?_) ?_; clear_value x) | (intro x; clear_value x)
    | (intro x; refine (fun hx : Kept Q x => ?_) ?_; rotate_left; unfold x) | (intro x)
    | exact kept_mk (kept_out (by with_reducible assumption)) | exact ok_lit 21 (by decide) hp21
    | apply kept_twnStick c hE hp2 hp22 hp3 | apply kept_updTwn c | apply kept_w c | apply kept_ite | split
    | unfold x | lift_lets -underBinder

theorem kept_tokenLevel (c : Closed N I T M E K W Q) (hE : E) (hp2 : W 2) (hp21 : W 21) (hp22 : W 22) (hp3 : W 3) (a0 : State) (a1 : Bool) (ha0 : Kept Q a0) : Kept Q (State.tokenLevel a0 a1) := by
  unfold State.tokenLevel
  repeat' with_reducible first
    | assumption | exact ok_lit 21 (by decide) hp21 | apply kept_tokenFall c hE hp2 hp21 hp22 hp3 | apply kept_w c
    | apply kept_ite | split

theorem kept_doYield (c : Closed N I T M E K W Q) (hE : E) (hp2 : W 2) (hp21 : W 21) (hp22 : W 22) (hp3 : W 3) (a0 : State) (ha0 : Kept Q a0) : Kept Q (doYield a0) := by
  unfold doYield
  try lift_lets -underBinder
  repeat' with_reducible first
    | assumption | (intro x; refine (fun hx : Kept Q x => ?_) ?_; clear_value x) | (intro x; clear_value x)
    | (intro x; refine (fun hx : Kept Q x => ?_) ?_; rotate_left; unfold x) | (intro x)
    | exact kept_mk (kept_out (by with_reducible assumption)) | apply kept_tokenFall c hE hp2 hp21 hp22 hp3
    | apply kept_ite | split | unfold x | lift_lets -underBinder

theorem kept_twinTick (c : Closed N I T M E K W Q) (hE : E) (hM : M) (hp0 : W 0) (hp10 : W 10) (hp12 : W 12) (hp13 : W 13) (hp15 : W 15) (hp16 : W 16) (hp18 : W 18) (hp2 : W 2) (hp21 : W 21) (hp22 : W 22) (hp3 : W 3) (hp4 : W 4) (a0 : State) (ha0 : Kept Q a0) : Kept Q (State.twinTick a0) := by
  unfold State.twinTick
  try lift_lets -underBinder
  repeat' with_reducible first
    | assumption | (intro x; refine (fun hx : Kept Q x => ?_) ?_; clear_value x) | (intro x; clear_value x)
    | (intro x; refine (fun hx : Kept Q x => ?_) ?_; rotate_left; unfold x) | (intro x)
    | exact kept_mk (kept_out (by with_reducible assumption)) | exact ok_lit 21 (by decide) hp21
    | apply kept_becomeStandby c hE hM hp0 hp10 hp13 hp15 hp16 hp18 hp2 hp21 hp22 hp3 hp4
    | apply kept_emuDrivers c hp12 | apply kept_endClaim c hp21 | apply kept_heartEdge c | apply kept_setTko c
    | apply kept_showHeart c hp21 | apply kept_twnStick c hE hp2 hp22 hp3 | apply kept_updTwn c | apply kept_w c
    | apply foldl_kept | apply foldl_kept1 | apply kept_ite | split | unfold x | lift_lets -underBinder

theorem kept_twnRelease (c : Closed N I T M E K W Q) (hp21 : W 21) (a0 : State) (ha0 : Kept Q a0) : Kept Q (State.twnRelease a0) := by
  unfold State.twnRelease
  try lift_lets -underBinder
  repeat' with_reducible first
    | assumption | (intro x; refine (fun hx : Kept Q x => ?_) ?_; clear_value x) | (intro x; clear_value x)
    | (intro x; refine (fun hx : Kept Q x => ?_) ?_; rotate_left; unfold x) | (intro x)
    | exact kept_mk (kept_out (by with_reducible assumption)) | exact ok_lit 21 (by decide) hp21
    | apply kept_showHeart c hp21 | apply kept_updTwn c | apply kept_w c | apply kept_ite | split | unfold x
    | lift_lets -underBinder

theorem kept_doReleaseTimeout (c : Closed N I T M E K W Q) (hE : E) (hp2 : W 2) (hp21 : W 21) (hp22 : W 22) (hp3 : W 3) (a0 : State) (ha0 : Kept Q a0) : Kept Q (doReleaseTimeout a0) := by
  unfold doReleaseTimeout
  try lift_lets -underBinder
  repeat' with_reducible first
    | assumption | (intro x; refine (fun hx : Kept Q x => ?_) ?_; clear_value x) | (intro x; clear_value x)
    | (intro x; refine (fun hx : Kept Q x => ?_) ?_; rotate_left; unfold x) | (intro x)
    | exact kept_mk (kept_out (by with_reducible assumption)) | exact ok_lit 21 (by decide) hp21
    | apply kept_showHeart c hp21 | apply kept_twnStick c hE hp2 hp22 hp3 | apply kept_w c | apply kept_ite
    | split | unfold x | lift_lets -underBinder

theorem kept_twnCommand (c : Closed N I T M E K W Q) (hp21 : W 21) (a0 : State) (a1 : Nat) (ha0 : Kept Q a0) : Kept Q (State.twnCommand a0 a1) := by
  unfold State.twnCommand
  try lift_lets -underBinder
  repeat' with_reducible first
    | assumption | (intro x; refine (fun hx : Kept Q x => ?_) ?_; clear_value x) | (intro x; clear_value x)
    | (intro x; refine (fun hx : Kept Q x => ?_) ?_; rotate_left; unfold x) | (intro x)
    | apply kept_twnRelease c hp21 | apply kept_twnTake c hp21 | apply kept_ite | split | unfold x
    | lift_lets -underBinder

theorem kept_mirPart (c : Closed N I T M E K W Q) (a0 : State) (ha0 : Kept Q a0) : Kept Q (State.mirPart a0).1 := by
  unfold State.mirPart
  try lift_lets -underBinder
  repeat' with_reducible first
    | assumption | (intro x; refine (fun hx : Kept Q x => ?_) ?_; clear_value x)
    | (intro x; refine (fun hx : Kept Q x.1 => ?_) ?_; clear_value x) | (intro x; clear_value x)
    | (intro x; refine (fun hx : Kept Q x => ?_) ?_; rotate_left; unfold x) | (intro x)
    | exact kept_mk (kept_out (by with_reducible assumption)) | apply kept_updTwn c | apply kept_ite | split
    | unfold x | lift_lets -underBinder

theorem kept_mirBuild (c : Closed N I T M E K W Q) (a0 : State) (a1 : Nat) (ha0 : Kept Q a0) : Kept Q (State.mirBuild a0 a1) := by
  unfold State.mirBuild
  try lift_lets -underBinder
  repeat' with_reducible first
    | assumption | (intro x; refine (fun hx : Kept Q x => ?_) ?_; clear_value x)
    | (intro x; refine (fun hx : Kept Q x.1 => ?_) ?_; clear_value x) | (intro x; clear_value x)
    | (intro x; refine (fun hx : Kept Q x => ?_) ?_; rotate_left; unfold x) | (intro x)
    | exact kept_mk (kept_out (by with_reducible assumption)) | apply kept_mirPart c | refine fst_kept ‹_› ?_
    | apply kept_updTwn c | apply kept_ite | split | unfold x | lift_lets -underBinder

theorem kept_doMirrorFrameSend (c : Closed N I T M E K W Q) (a0 : State) (ha0 : Kept Q a0) : Kept Q (doMirrorFrameSend a0) := by
  unfold doMirrorFrameSend
  try lift_lets -underBinder
  repeat' with_reducible first
    | assumption | (intro x; refine (fun hx : Kept Q x => ?_) ?_; clear_value x) | (intro x; clear_value x)
    | (intro x; refine (fun hx : Kept Q x => ?_) ?_; rotate_left; unfold x) | (intro x)
    | exact kept_mk (kept_out (by with_reducible assumption)) | apply kept_bufClear c | apply kept_emit c
    | apply kept_updTwn c | apply kept_ite | split | unfold x | lift_lets -underBinder

theorem kept_mirBad (c : Closed N I T M E K W Q) (hE : E) (hp2 : W 2) (hp21 : W 21) (hp22 : W 22) (hp3 : W 3) (a0 : State) (ha0 : Kept Q a0) : Kept Q (State.mirBad a0) := by
  unfold State.mirBad
  try lift_lets -underBinder
  repeat' with_reducible first
    | assumption | (intro x; refine (fun hx : Kept Q x => ?_) ?_; clear_value x) | (intro x; clear_value x)
    | (intro x; refine (fun hx : Kept Q x => ?_) ?_; rotate_left; unfold x) | (intro x)
    | exact kept_mk (kept_out (by with_reducible assumption)) | exact ok_lit 21 (by decide) hp21
    | apply kept_bump c | apply kept_twnStick c hE hp2 hp22 hp3 | apply kept_updTwn c | apply kept_ite | split
    | unfold x | lift_lets -underBinder

theorem kept_doMirrorFrameCrcError (c : Closed N I T M E K W Q) (hE : E) (hp2 : W 2) (hp21 : W 21) (hp22 : W 22) (hp3 : W 3) (a0 : State) (ha0 : Kept Q a0) : Kept Q (doMirrorFrameCrcError a0) := by
  unfold doMirrorFrameCrcError
  try lift_lets -underBinder
  repeat' with_reducible first
    | assumption | (intro x; refine (fun hx : Kept Q x => ?_) ?_; clear_value x) | (intro x; clear_value x)
    | (intro x; refine (fun hx : Kept Q x => ?_) ?_; rotate_left; unfold x) | (intro x)
    | exact kept_mk (kept_out (by with_reducible assumption)) | apply kept_mirBad c hE hp2 hp21 hp22 hp3
    | apply kept_ite | split | unfold x | lift_lets -underBinder

theorem kept_doTwinLinkDown (c : Closed N I T M E K W Q) (hE : E) (hp2 : W 2) (hp21 : W 21) (hp22 : W 22) (hp3 : W 3) (a0 : State) (ha0 : Kept Q a0) : Kept Q (doTwinLinkDown a0) := by
  unfold doTwinLinkDown
  try lift_lets -underBinder
  repeat' with_reducible first
    | assumption | (intro x; refine (fun hx : Kept Q x => ?_) ?_; clear_value x) | (intro x; clear_value x)
    | (intro x; refine (fun hx : Kept Q x => ?_) ?_; rotate_left; unfold x) | (intro x)
    | exact kept_mk (kept_out (by with_reducible assumption)) | exact ok_lit 21 (by decide) hp21
    | apply kept_twnStick c hE hp2 hp22 hp3 | apply kept_updTwn c | apply kept_w c | apply kept_ite | split
    | unfold x | lift_lets -underBinder

theorem kept_mirTurn (c : Closed N I T M E K W Q) (hp8 : W 8) (a0 : State) (a1 : Nat) (a2 : Nat) (a3 : Nat) (a4 : Nat) (a5 : Int) (a6 : Int) (ha0 : Kept Q a0) : Kept Q (State.mirTurn a0 a1 a2 a3 a4 a5 a6).1 := by
  unfold State.mirTurn
  try lift_lets -underBinder
  repeat' with_reducible first
    | assumption | (intro x; refine (fun hx : Kept Q x => ?_) ?_; clear_value x)
    | (intro x; refine (fun hx : Kept Q x.1 => ?_) ?_; clear_value x) | (intro x; clear_value x)
    | (intro x; refine (fun hx : Kept Q x => ?_) ?_; rotate_left; unfold x) | (intro x)
    | exact kept_mk (kept_out (by with_reducible assumption)) | exact ok_lit 8 (by decide) hp8
    | apply kept_updObs c | apply kept_w c | apply kept_ite | split | unfold x | lift_lets -underBinder

theorem kept_mirCompare (c : Closed N I T M E K W Q) (hE : E) (hp2 : W 2) (hp21 : W 21) (hp22 : W 22) (hp3 : W 3) (hp8 : W 8) (a0 : State) (a1 : Nat) (a2 : Nat) (a3 : List Sys2Proof.Byte) (ha0 : Kept Q a0) : Kept Q (State.mirCompare a0 a1 a2 a3) := by
  unfold State.mirCompare
  try lift_lets -underBinder
  repeat' with_reducible first
    | assumption | (intro x; refine (fun hx : Kept Q x => ?_) ?_; clear_value x)
    | (intro x; refine (fun hx : Kept Q x.1 => ?_) ?_; clear_value x) | (intro x; clear_value x)
    | (intro x; refine (fun hx : Kept Q x => ?_) ?_; rotate_left; unfold x) | (intro x)
    | exact kept_mk (kept_out (by with_reducible assumption)) | exact ok_lit 21 (by decide) hp21
    | apply kept_mirTurn c hp8 | refine fst_kept ‹_› ?_ | apply kept_twnStick c hE hp2 hp22 hp3
    | apply kept_updTwn c | apply kept_w c | apply kept_ite | split | unfold x | lift_lets -underBinder

theorem kept_mirTake (c : Closed N I T M E K W Q) (hE : E) (hp2 : W 2) (hp21 : W 21) (hp22 : W 22) (hp3 : W 3) (a0 : State) (a1 : Nat) (a2 : List Sys2Proof.Byte) (ha0 : Kept Q a0) : Kept Q (State.mirTake a0 a1 a2) := by
  unfold State.mirTake
  try lift_lets -underBinder
  repeat' with_reducible first
    | assumption | (intro x; refine (fun hx : Kept Q x => ?_) ?_; clear_value x) | (intro x; clear_value x)
    | (intro x; refine (fun hx : Kept Q x => ?_) ?_; rotate_left; unfold x) | (intro x)
    | exact kept_mk (kept_out (by with_reducible assumption)) | exact ok_lit 21 (by decide) hp21
    | apply kept_setSlot c | apply kept_twnStick c hE hp2 hp22 hp3 | apply kept_ite | split | unfold x
    | lift_lets -underBinder

theorem kept_mirAxes (c : Closed N I T M E K W Q) (hE : E) (hp2 : W 2) (hp21 : W 21) (hp22 : W 22) (hp3 : W 3) (a0 : State) (a1 : List Sys2Proof.Byte) (ha0 : Kept Q a0) : Kept Q (State.mirAxes a0 a1) := by
  unfold State.mirAxes
  try lift_lets -underBinder
  repeat' with_reducible first
    | assumption | (intro x; refine (fun hx : Kept Q x => ?_) ?_; clear_value x) | (intro x; clear_value x)
    | (intro x; refine (fun hx : Kept Q x => ?_) ?_; rotate_left; unfold x) | (intro x)
    | exact kept_mk (kept_out (by with_reducible assumption)) | exact ok_lit 21 (by decide) hp21
    | apply kept_twnStick c hE hp2 hp22 hp3 | apply kept_updTwn c | apply kept_ite | split | unfold x
    | lift_lets -underBinder

theorem kept_mirLearn (c : Closed N I T M E K W Q) (a0 : State) (a1 : List Sys2Proof.Byte) (ha0 : Kept Q a0) : Kept Q (State.mirLearn a0 a1) := by
  unfold State.mirLearn
  try lift_lets -underBinder
  repeat' with_reducible first
    | assumption | (intro x; refine (fun hx : Kept Q x => ?_) ?_; clear_value x)
    | (intro x; refine (fun hx : Kept Q x.1 => ?_) ?_; clear_value x) | (intro x; clear_value x)
    | (intro x; refine (fun hx : Kept Q x => ?_) ?_; rotate_left; unfold x) | (intro x)
    | exact kept_mk (kept_out (by with_reducible assumption)) | apply kept_updTwn c | apply kept_ite | split
    | unfold x | lift_lets -underBinder

theorem kept_twnSets (c : Closed N I T M E K W Q) (hE : E) (hM : M) (hp10 : W 10) (hp2 : W 2) (hp22 : W 22) (hp3 : W 3) (a0 : State) (ha0 : Kept Q a0) : Kept Q (State.twnSets a0) := by
  unfold State.twnSets
  try lift_lets -underBinder
  repeat' with_reducible first
    | assumption | (intro x; refine (fun hx : Kept Q x => ?_) ?_; clear_value x)
    | (intro x; refine (fun hx : Kept Q x.1 => ?_) ?_; clear_value x) | (intro x; clear_value x)
    | (intro x; refine (fun hx : Kept Q x => ?_) ?_; rotate_left; unfold x) | (intro x)
    | exact kept_mk (kept_out (by with_reducible assumption)) | apply kept_setLrnWord c hM
    | apply kept_twinCheck c hE hp10 hp2 hp22 hp3 | apply kept_updTwn c | apply foldl_kept | apply foldl_kept1
    | apply kept_ite | split | unfold x | lift_lets -underBinder

theorem kept_mirTakeFrame (c : Closed N I T M E K W Q) (hE : E) (hp17 : W 17) (hp2 : W 2) (hp21 : W 21) (hp22 : W 22) (hp3 : W 3) (hp8 : W 8) (a0 : State) (a1 : List Sys2Proof.Byte) (ha0 : Kept Q a0) : Kept Q (State.mirTakeFrame a0 a1) := by
  unfold State.mirTakeFrame
  try lift_lets -underBinder
  repeat' with_reducible first
    | assumption | (intro x; refine (fun hx : Kept Q x => ?_) ?_; clear_value x) | (intro x; clear_value x)
    | (intro x; refine (fun hx : Kept Q x => ?_) ?_; rotate_left; unfold x) | (intro x)
    | exact kept_mk (kept_out (by with_reducible assumption)) | exact ok_lit 17 (by decide) hp17
    | exact ok_lit 21 (by decide) hp21 | apply kept_each c | apply kept_mirAxes c hE hp2 hp21 hp22 hp3
    | apply kept_mirCompare c hE hp2 hp21 hp22 hp3 hp8 | apply kept_mirLearn c
    | apply kept_mirTake c hE hp2 hp21 hp22 hp3 | apply kept_showHeart c hp21
    | apply kept_twnStick c hE hp2 hp22 hp3 | apply kept_updTwn c | apply kept_w c | apply kept_wb c
    | apply kept_ite | split | unfold x | lift_lets -underBinder

theorem kept_doMirrorFrameReceived (c : Closed N I T M E K W Q) (hE : E) (hp17 : W 17) (hp2 : W 2) (hp21 : W 21) (hp22 : W 22) (hp3 : W 3) (hp8 : W 8) (a0 : List Sys2Proof.Byte) (a1 : State) (ha1 : Kept Q a1) : Kept Q (doMirrorFrameReceived a0 a1) := by
  unfold doMirrorFrameReceived
  try lift_lets -underBinder
  repeat' with_reducible first
    | assumption | (intro x; refine (fun hx : Kept Q x => ?_) ?_; clear_value x) | (intro x; clear_value x)
    | (intro x; refine (fun hx : Kept Q x => ?_) ?_; rotate_left; unfold x) | (intro x)
    | exact kept_mk (kept_out (by with_reducible assumption)) | apply kept_mirBad c hE hp2 hp21 hp22 hp3
    | apply kept_mirTakeFrame c hE hp17 hp2 hp21 hp22 hp3 hp8 | apply kept_ite | split | unfold x
    | lift_lets -underBinder

theorem kept_updSnt (c : Closed N I T M E K W Q) (a0 : State) (a1 : IntSt → IntSt) (ha0 : Kept Q a0) : Kept Q (State.updSnt a0 a1) := by
  unfold State.updSnt
  try lift_lets -underBinder
  repeat' with_reducible first
    | assumption | (intro x; refine (fun hx : Kept Q x => ?_) ?_; clear_value x) | (intro x; clear_value x)
    | (intro x; refine (fun hx : Kept Q x => ?_) ?_; rotate_left; unfold x) | (intro x)
    | exact kept_mk (kept_out (by with_reducible assumption)) | unfold x | lift_lets -underBinder

theorem kept_intStick (c : Closed N I T M E K W Q) (hE : E) (hp2 : W 2) (hp22 : W 22) (hp3 : W 3) (a0 : State) (a1 : Fld) (ha0 : Kept Q a0) (ha1 : OkFld W a1) : Kept Q (State.intStick a0 a1) := by
  unfold State.intStick
  repeat' with_reducible first
    | assumption | apply kept_stickEv c hE hp2 hp22 hp3

theorem kept_showSw (c : Closed N I T M E K W Q) (hp22 : W 22) (hp7 : W 7) (a0 : State) (ha0 : Kept Q a0) : Kept Q (State.showSw a0) := by
  unfold State.showSw
  try lift_lets -underBinder
  repeat' with_reducible first
    | assumption | (intro x; refine (fun hx : Kept Q x => ?_) ?_; clear_value x) | (intro x; clear_value x)
    | (intro x; refine (fun hx : Kept Q x => ?_) ?_; rotate_left; unfold x) | (intro x)
    | exact ok_lit 7 (by decide) hp7 | exact ok_lit 22 (by decide) hp22 | apply kept_w c | apply kept_wb c
    | apply kept_ite | split | unfold x | lift_lets -underBinder

theorem kept_nvStart (c : Closed N I T M E K W Q) (a0 : State) (ha0 : Kept Q a0) : Kept Q (State.nvStart a0) := by
  unfold State.nvStart
  try lift_lets -underBinder
  repeat' with_reducible first
    | assumption | (intro x; refine (fun hx : Kept Q x => ?_) ?_; clear_value x) | (intro x; clear_value x)
    | (intro x; refine (fun hx : Kept Q x => ?_) ?_; rotate_left; unfold x) | (intro x)
    | exact kept_mk (kept_out (by with_reducible assumption)) | apply kept_updSnt c | apply kept_ite | split
    | unfold x | lift_lets -underBinder

theorem kept_mapChange (c : Closed N I T M E K W Q) (a0 : State) (ha0 : Kept Q a0) : Kept Q (State.mapChange a0) := by
  unfold State.mapChange
  try lift_lets -underBinder
  repeat' with_reducible first
    | assumption | (intro x; refine (fun hx : Kept Q x => ?_) ?_; clear_value x) | (intro x; clear_value x)
    | (intro x; refine (fun hx : Kept Q x => ?_) ?_; rotate_left; unfold x) | (intro x)
    | exact kept_mk (kept_out (by with_reducible assumption)) | apply kept_nvStart c | apply kept_updSnt c
    | apply kept_ite | split | unfold x | lift_lets -underBinder

theorem kept_mapCommit (c : Closed N I T M E K W Q) (hp22 : W 22) (a0 : State) (ha0 : Kept Q a0) : Kept Q (State.mapCommit a0) := by
  unfold State.mapCommit
  repeat' with_reducible first
    | assumption | exact ok_lit 22 (by decide) hp22 | apply kept_mapChange c | apply kept_w c | apply kept_ite
    | split

theorem kept_doMapCommitDaily (c : Closed N I T M E K W Q) (a0 : State) (ha0 : Kept Q a0) : Kept Q (doMapCommitDaily a0) := by
  unfold doMapCommitDaily
  try lift_lets -underBinder
  repeat' with_reducible first
    | assumption | (intro x; refine (fun hx : Kept Q x => ?_) ?_; clear_value x) | (intro x; clear_value x)
    | (intro x; refine (fun hx : Kept Q x => ?_) ?_; rotate_left; unfold x) | (intro x)
    | exact kept_mk (kept_out (by with_reducible assumption)) | apply kept_mapChange c | apply kept_updSnt c
    | apply kept_ite | split | unfold x | lift_lets -underBinder

theorem kept_swapBegin (c : Closed N I T M E K W Q) (hE : E) (hp16 : W 16) (hp2 : W 2) (hp22 : W 22) (hp3 : W 3) (hp7 : W 7) (a0 : State) (ha0 : Kept Q a0) : Kept Q (State.swapBegin a0) := by
  unfold State.swapBegin
  try lift_lets -underBinder
  repeat' with_reducible first
    | assumption | (intro x; refine (fun hx : Kept Q x => ?_) ?_; clear_value x) | (intro x; clear_value x)
    | (intro x; refine (fun hx : Kept Q x => ?_) ?_; rotate_left; unfold x) | (intro x)
    | exact kept_mk (kept_out (by with_reducible assumption)) | exact ok_lit 22 (by decide) hp22
    | apply kept_intStick c hE hp2 hp22 hp3 | apply kept_noticeSwap c hE hp16 hp2 hp22 hp3
    | apply kept_showSw c hp22 hp7 | apply kept_updExc c | apply kept_updSnt c | apply kept_ite | split | unfold x
    | lift_lets -underBinder | refine kept_mk (kept_out ?_)

theorem kept_swapNext (c : Closed N I T M E K W Q) (hE : E) (hp16 : W 16) (hp2 : W 2) (hp22 : W 22) (hp3 : W 3) (hp7 : W 7) (a0 : State) (ha0 : Kept Q a0) : Kept Q (State.swapNext a0) := by
  unfold State.swapNext
  repeat' with_reducible first
    | assumption | apply kept_swapBegin c hE hp16 hp2 hp22 hp3 hp7

theorem kept_swapRequest (c : Closed N I T M E K W Q) (hE : E) (hp16 : W 16) (hp2 : W 2) (hp22 : W 22) (hp3 : W 3) (hp7 : W 7) (a0 : State) (a1 : Swap) (ha0 : Kept Q a0) : Kept Q (State.swapRequest a0 a1).1 := by
  unfold State.swapRequest
  try lift_lets -underBinder
  repeat' with_reducible first
    | assumption | (intro x; refine (fun hx : Kept Q x => ?_) ?_; clear_value x)
    | (intro x; refine (fun hx : Kept Q x.1 => ?_) ?_; clear_value x) | (intro x; clear_value x)
    | (intro x; refine (fun hx : Kept Q x => ?_) ?_; rotate_left; unfold x) | (intro x)
    | exact kept_mk (kept_out (by with_reducible assumption)) | exact ok_lit 22 (by decide) hp22
    | apply kept_intStick c hE hp2 hp22 hp3 | apply kept_swapNext c hE hp16 hp2 hp22 hp3 hp7 | apply kept_updSnt c
    | apply kept_ite | split | unfold x | lift_lets -underBinder

theorem kept_swapCommand (c : Closed N I T M E K W Q) (hE : E) (hp16 : W 16) (hp2 : W 2) (hp22 : W 22) (hp3 : W 3) (hp7 : W 7) (a0 : State) (a1 : Nat) (ha0 : Kept Q a0) : Kept Q (State.swapCommand a0 a1) := by
  unfold State.swapCommand
  try lift_lets -underBinder
  repeat' with_reducible first
    | assumption | (intro x; refine (fun hx : Kept Q x => ?_) ?_; clear_value x)
    | (intro x; refine (fun hx : Kept Q x.1 => ?_) ?_; clear_value x) | (intro x; clear_value x)
    | (intro x; refine (fun hx : Kept Q x => ?_) ?_; rotate_left; unfold x) | (intro x)
    | exact ok_lit 22 (by decide) hp22 | apply kept_swapRequest c hE hp16 hp2 hp22 hp3 hp7
    | refine fst_kept ‹_› ?_ | apply kept_w c | apply kept_ite | split | unfold x | lift_lets -underBinder

theorem kept_swapDone (c : Closed N I T M E K W Q) (hE : E) (hp16 : W 16) (hp2 : W 2) (hp22 : W 22) (hp3 : W 3) (hp7 : W 7) (a0 : State) (ha0 : Kept Q a0) : Kept Q (State.swapDone a0) := by
  unfold State.swapDone
  try lift_lets -underBinder
  repeat' with_reducible first
    | assumption | (intro x; refine (fun hx : Kept Q x => ?_) ?_; clear_value x) | (intro x; clear_value x)
    | (intro x; refine (fun hx : Kept Q x => ?_) ?_; rotate_left; unfold x) | (intro x)
    | exact kept_mk (kept_out (by with_reducible assumption)) | exact ok_lit 22 (by decide) hp22
    | apply kept_intStick c hE hp2 hp22 hp3 | apply kept_mapChange c
    | apply kept_swapNext c hE hp16 hp2 hp22 hp3 hp7 | apply kept_updSnt c | apply kept_ite | split | unfold x
    | lift_lets -underBinder

theorem kept_swapFail (c : Closed N I T M E K W Q) (hE : E) (hp16 : W 16) (hp2 : W 2) (hp22 : W 22) (hp3 : W 3) (hp7 : W 7) (a0 : State) (a1 : SwapRun) (ha0 : Kept Q a0) : Kept Q (State.swapFail a0 a1) := by
  unfold State.swapFail
  try lift_lets -underBinder
  repeat' with_reducible first
    | assumption | (intro x; refine (fun hx : Kept Q x => ?_) ?_; clear_value x) | (intro x; clear_value x)
    | (intro x; refine (fun hx : Kept Q x => ?_) ?_; rotate_left; unfold x) | (intro x)
    | exact kept_mk (kept_out (by with_reducible assumption)) | exact ok_lit 22 (by decide) hp22
    | apply kept_intStick c hE hp2 hp22 hp3 | apply kept_mapChange c | apply kept_showSw c hp22 hp7
    | apply kept_swapNext c hE hp16 hp2 hp22 hp3 hp7 | apply kept_updSnt c | apply kept_w c | apply kept_ite
    | split | unfold x | lift_lets -underBinder

theorem kept_doSliceSwapStep (c : Closed N I T M E K W Q) (hE : E) (hp16 : W 16) (hp2 : W 2) (hp22 : W 22) (hp3 : W 3) (hp7 : W 7) (a0 : Bool) (a1 : Bool) (a2 : State) (ha2 : Kept Q a2) : Kept Q (doSliceSwapStep a0 a1 a2) := by
  unfold doSliceSwapStep
  try lift_lets -underBinder
  repeat' with_reducible first
    | assumption | (intro x; refine (fun hx : Kept Q x => ?_) ?_; clear_value x) | (intro x; clear_value x)
    | (intro x; refine (fun hx : Kept Q x => ?_) ?_; rotate_left; unfold x) | (intro x)
    | exact kept_mk (kept_out (by with_reducible assumption)) | exact ok_lit 16 (by decide) hp16
    | apply kept_noticeSwap c hE hp16 hp2 hp22 hp3 | apply kept_safStick c hE hp2 hp22 hp3
    | apply kept_swapFail c hE hp16 hp2 hp22 hp3 hp7 | apply kept_updSnt c | apply kept_w c | apply kept_ite
    | split | unfold x | lift_lets -underBinder | refine kept_mk (kept_out ?_)

theorem kept_doSliceSwap (c : Closed N I T M E K W Q) (hE : E) (hp16 : W 16) (hp2 : W 2) (hp22 : W 22) (hp3 : W 3) (hp7 : W 7) (a0 : State) (ha0 : Kept Q a0) : Kept Q (doSliceSwap a0) := by
  unfold doSliceSwap
  try lift_lets -underBinder
  repeat' with_reducible first
    | assumption | (intro x; refine (fun hx : Kept Q x => ?_) ?_; clear_value x)
    | (intro x; refine (fun hx : Kept Q x.1 => ?_) ?_; clear_value x) | (intro x; clear_value x)
    | (intro x; refine (fun hx : Kept Q x => ?_) ?_; rotate_left; unfold x) | (intro x)
    | exact kept_mk (kept_out (by with_reducible assumption)) | exact ok_lit 22 (by decide) hp22
    | apply kept_swapDone c hE hp16 hp2 hp22 hp3 hp7 | apply kept_updSnt c | apply kept_w c | apply kept_ite
    | split | unfold x | lift_lets -underBinder | refine kept_mk (kept_out ?_)

theorem kept_copyObsRegs (c : Closed N I T M E K W Q) (hp8 : W 8) (s : State) (a b : Nat) (h : Kept Q s) : Kept Q (s.copyObsRegs a b) := by
  have key : ∀ (l : List (Nat × Nat)) (d : Store), (∀ f ∈ l, keyPage f.1 = 8) → Q d →
      Q { d with fields := l.foldl (fun m f => SMap.set 0 m (f.1 % 4194304 + 4194304 * a) f.2) d.fields } := by
    intro l
    induction l with
    | nil => intro d _ hd; exact hd
    | cons f l ih =>
      intro d hl hd
      refine ih _ (fun g hg => hl g (List.mem_cons_of_mem _ hg)) (c.field d _ f.2 ?_ hd)
      have h8 : keyPage f.1 = 8 := hl f List.mem_cons_self
      have e : keyPage (f.1 % 4194304 + 4194304 * a) = keyPage f.1 := by unfold keyPage; omega
      rw [e, h8]; exact hp8
  refine key _ { store s with fields := s.fields.filter fun f => !(decide (keyPage f.1 = 8) && decide (keyInst f.1 = a)) } ?_ ?_
  · intro f hf
    have h1 := (List.mem_filter.mp hf).2
    simp only [Bool.and_eq_true, decide_eq_true_eq] at h1
    exact h1.1
  · refine c.keep _ _ (fun x hx => ?_) h
    simp only [Bool.not_eq_false', Bool.and_eq_true, decide_eq_true_eq] at hx
    rw [hx.1]; exact hp8

theorem kept_shadowRun (c : Closed N I T M E K W Q) (hE : E) (hp2 : W 2) (hp22 : W 22) (hp3 : W 3) (hp8 : W 8) (a0 : State) (a1 : State) (a2 : Nat) (a3 : Bool) (ha0 : Kept Q a0) (ha1 : Kept Q a1) : Kept Q (State.shadowRun a0 a1 a2 a3) := by
  unfold State.shadowRun
  try lift_lets -underBinder
  repeat' with_reducible first
    | assumption | (intro x; refine (fun hx : Kept Q x => ?_) ?_; clear_value x) | (intro x; clear_value x)
    | (intro x; refine (fun hx : Kept Q x => ?_) ?_; rotate_left; unfold x) | (intro x)
    | exact kept_mk (kept_out (by with_reducible assumption)) | apply kept_obsSample c hE hp2 hp22 hp3 hp8
    | apply kept_updSnt c | apply kept_ite | split | unfold x | lift_lets -underBinder

theorem kept_doEngineSwap (c : Closed N I T M E K W Q) (hE : E) (hp16 : W 16) (hp2 : W 2) (hp22 : W 22) (hp3 : W 3) (hp7 : W 7) (hp8 : W 8) (a0 : State) (ha0 : Kept Q a0) : Kept Q (doEngineSwap a0) := by
  unfold doEngineSwap
  try lift_lets -underBinder
  repeat' with_reducible first
    | assumption | (intro x; refine (fun hx : Kept Q x => ?_) ?_; clear_value x) | (intro x; clear_value x)
    | (intro x; refine (fun hx : Kept Q x => ?_) ?_; rotate_left; unfold x) | (intro x)
    | exact kept_mk (kept_out (by with_reducible assumption)) | exact ok_lit 8 (by decide) hp8
    | exact ok_lit 22 (by decide) hp22 | apply kept_copyObsRegs c hp8
    | apply kept_noticeSwap c hE hp16 hp2 hp22 hp3 | apply kept_reacquire c hp8 | apply kept_setOst c hp8
    | apply kept_swapDone c hE hp16 hp2 hp22 hp3 hp7 | apply kept_updObs c | apply kept_updSnt c | apply kept_w c
    | apply kept_ite | split | unfold x | lift_lets -underBinder | refine kept_mk (kept_out ?_)

theorem kept_doEngineFailure (c : Closed N I T M E K W Q) (hE : E) (hp16 : W 16) (hp2 : W 2) (hp22 : W 22) (hp3 : W 3) (hp7 : W 7) (hp8 : W 8) (a0 : Nat) (a1 : State) (ha1 : Kept Q a1) : Kept Q (doEngineFailure a0 a1) := by
  unfold doEngineFailure
  try lift_lets -underBinder
  repeat' with_reducible first
    | assumption | (intro x; refine (fun hx : Kept Q x => ?_) ?_; clear_value x) | (intro x; clear_value x)
    | (intro x; refine (fun hx : Kept Q x => ?_) ?_; rotate_left; unfold x) | (intro x)
    | exact kept_mk (kept_out (by with_reducible assumption)) | apply kept_enterLot c hE hp2 hp22 hp3 hp8
    | apply kept_swapRequest c hE hp16 hp2 hp22 hp3 hp7 | refine fst_kept ‹_› ?_ | apply kept_updObs c
    | apply kept_ite | split | unfold x | lift_lets -underBinder

theorem kept_datapath (c : Closed N I T M E K W Q) (hE : E) (hp2 : W 2) (hp22 : W 22) (hp3 : W 3) (a0 : State) (a1 : Nat) (a2 : Bool) (ha0 : Kept Q a0) : Kept Q (State.datapath a0 a1 a2) := by
  unfold State.datapath
  try lift_lets -underBinder
  repeat' with_reducible first
    | assumption | (intro x; refine (fun hx : Kept Q x => ?_) ?_; clear_value x) | (intro x; clear_value x)
    | (intro x; refine (fun hx : Kept Q x => ?_) ?_; rotate_left; unfold x) | (intro x)
    | exact kept_mk (kept_out (by with_reducible assumption)) | exact ok_lit 22 (by decide) hp22
    | apply kept_bump c | apply kept_intStick c hE hp2 hp22 hp3 | apply kept_updObs c | apply kept_ite | split
    | unfold x | lift_lets -underBinder

theorem kept_doLegMeasure (c : Closed N I T M E K W Q) (hE : E) (hp16 : W 16) (hp2 : W 2) (hp22 : W 22) (hp3 : W 3) (hp5 : W 5) (hp7 : W 7) (a0 : Nat) (a1 : Vector (BitVec 16) 4) (a2 : BitVec 4) (a3 : State) (ha3 : Kept Q a3) : Kept Q (doLegMeasure a0 a1 a2 a3) := by
  unfold doLegMeasure
  try lift_lets -underBinder
  repeat' with_reducible first
    | assumption | (intro x; refine (fun hx : Kept Q x => ?_) ?_; clear_value x) | (intro x; clear_value x)
    | (intro x; refine (fun hx : Kept Q x => ?_) ?_; rotate_left; unfold x) | (intro x)
    | exact kept_mk (kept_out (by with_reducible assumption)) | exact ok_EXC_LEG_LSTATE hp5
    | exact ok_EXC_LEG_RES hp5 | exact ok_EXC_LEG_STATUS hp5 | exact ok_lit 5 (by decide) hp5 | apply kept_each c
    | apply kept_measured c | apply kept_stickEv c hE hp2 hp22 hp3
    | apply kept_swapRequest c hE hp16 hp2 hp22 hp3 hp7 | refine fst_kept ‹_› ?_ | apply kept_updExc c
    | apply kept_updSnt c | apply kept_w c | apply kept_ite | split | unfold x | lift_lets -underBinder

theorem kept_doLegRetire (c : Closed N I T M E K W Q) (hE : E) (hp16 : W 16) (hp2 : W 2) (hp22 : W 22) (hp3 : W 3) (hp5 : W 5) (hp6 : W 6) (hp7 : W 7) (a0 : Nat) (a1 : State) (ha1 : Kept Q a1) : Kept Q (doLegRetire a0 a1) := by
  unfold doLegRetire
  dsimp only
  repeat' with_reducible first
    | assumption | intro x | exact kept_mk (kept_out (by with_reducible assumption)) | exact ok_EXC_LEG_LSTATE hp5
    | exact ok_lit 5 (by decide) hp5 | apply kept_faultDrv c hp5 hp6 | apply kept_stickEv c hE hp2 hp22 hp3
    | apply kept_swapDone c hE hp16 hp2 hp22 hp3 hp7 | apply kept_updExc c | apply kept_w c | apply kept_ite
    | split | refine kept_mk (kept_out ?_)

theorem kept_calSample (c : Closed N I T M E K W Q) (a0 : State) (a1 : Sys2Proof.SampleIn) (ha0 : Kept Q a0) : Kept Q (State.calSample a0 a1) := by
  unfold State.calSample
  try lift_lets -underBinder
  repeat' with_reducible first
    | assumption | (intro x; refine (fun hx : Kept Q x => ?_) ?_; clear_value x) | (intro x; clear_value x)
    | (intro x; refine (fun hx : Kept Q x => ?_) ?_; rotate_left; unfold x) | (intro x)
    | exact kept_mk (kept_out (by with_reducible assumption)) | apply kept_ite | split | unfold x
    | lift_lets -underBinder

theorem kept_doCalibrationStep (c : Closed N I T M E K W Q) (hE : E) (hp16 : W 16) (hp2 : W 2) (hp22 : W 22) (hp3 : W 3) (hp7 : W 7) (a0 : Nat) (a1 : State) (ha1 : Kept Q a1) : Kept Q (doCalibrationStep a0 a1) := by
  unfold doCalibrationStep
  try lift_lets -underBinder
  repeat' with_reducible first
    | assumption | (intro x; refine (fun hx : Kept Q x => ?_) ?_; clear_value x)
    | (intro x; refine (fun hx : Kept Q x.1 => ?_) ?_; clear_value x) | (intro x; clear_value x)
    | (intro x; refine (fun hx : Kept Q x => ?_) ?_; rotate_left; unfold x) | (intro x)
    | exact kept_mk (kept_out (by with_reducible assumption)) | exact ok_lit 7 (by decide) hp7
    | apply kept_swapRequest c hE hp16 hp2 hp22 hp3 hp7 | refine fst_kept ‹_› ?_ | apply kept_updSnt c
    | apply kept_w c | apply kept_ite | split | unfold x | lift_lets -underBinder | refine kept_mk (kept_out ?_)

theorem kept_queueRow (c : Closed N I T M E K W Q) (hE : E) (hp2 : W 2) (hp22 : W 22) (hp3 : W 3) (a0 : State) (a1 : Nat) (a2 : Nat) (ha0 : Kept Q a0) : Kept Q (State.queueRow a0 a1 a2) := by
  unfold State.queueRow
  try lift_lets -underBinder
  repeat' with_reducible first
    | assumption | (intro x; refine (fun hx : Kept Q x => ?_) ?_; clear_value x) | (intro x; clear_value x)
    | (intro x; refine (fun hx : Kept Q x => ?_) ?_; rotate_left; unfold x) | (intro x)
    | exact kept_mk (kept_out (by with_reducible assumption)) | exact ok_lit 22 (by decide) hp22
    | apply kept_intStick c hE hp2 hp22 hp3 | apply kept_mapChange c | apply kept_updSnt c | apply kept_w c
    | apply kept_ite | split | unfold x | lift_lets -underBinder

theorem kept_rowRequest (c : Closed N I T M E K W Q) (hE : E) (hp2 : W 2) (hp22 : W 22) (hp3 : W 3) (a0 : State) (a1 : Nat) (ha0 : Kept Q a0) : Kept Q (State.rowRequest a0 a1) := by
  unfold State.rowRequest
  repeat' with_reducible first
    | assumption | apply kept_queueRow c hE hp2 hp22 hp3 | apply kept_ite | split

theorem kept_slotPoisoned (c : Closed N I T M E K W Q) (hE : E) (hp13 : W 13) (hp2 : W 2) (hp22 : W 22) (hp3 : W 3) (a0 : State) (a1 : Nat) (ha0 : Kept Q a0) : Kept Q (State.slotPoisoned a0 a1) := by
  unfold State.slotPoisoned
  try lift_lets -underBinder
  repeat' with_reducible first
    | assumption | (intro x; refine (fun hx : Kept Q x => ?_) ?_; clear_value x) | (intro x; clear_value x)
    | (intro x; refine (fun hx : Kept Q x => ?_) ?_; rotate_left; unfold x) | (intro x)
    | exact kept_mk (kept_out (by with_reducible assumption)) | exact ok_lit 13 (by decide) hp13
    | apply kept_geyStick c hE hp2 hp22 hp3 | apply kept_setSlot c | apply kept_ite | split | unfold x
    | lift_lets -underBinder

theorem kept_eccBad (c : Closed N I T M E K W Q) (hE : E) (hp13 : W 13) (hp2 : W 2) (hp22 : W 22) (hp3 : W 3) (a0 : State) (a1 : Nat) (ha0 : Kept Q a0) : Kept Q (State.eccBad a0 a1) := by
  unfold State.eccBad
  try lift_lets -underBinder
  repeat' with_reducible first
    | assumption | (intro x; refine (fun hx : Kept Q x => ?_) ?_; clear_value x) | (intro x; clear_value x)
    | (intro x; refine (fun hx : Kept Q x => ?_) ?_; rotate_left; unfold x) | (intro x)
    | exact kept_mk (kept_out (by with_reducible assumption)) | exact ok_lit 22 (by decide) hp22
    | apply kept_bump c | apply kept_intStick c hE hp2 hp22 hp3 | apply kept_queueRow c hE hp2 hp22 hp3
    | apply kept_slotPoisoned c hE hp13 hp2 hp22 hp3 | apply kept_w c | apply kept_ite | split | unfold x
    | lift_lets -underBinder

theorem kept_eccFixed (c : Closed N I T M E K W Q) (hE : E) (hp2 : W 2) (hp22 : W 22) (hp3 : W 3) (a0 : State) (a1 : Nat) (a2 : Nat) (a3 : Nat) (ha0 : Kept Q a0) : Kept Q (State.eccFixed a0 a1 a2 a3) := by
  unfold State.eccFixed
  try lift_lets -underBinder
  repeat' with_reducible first
    | assumption | (intro x; refine (fun hx : Kept Q x => ?_) ?_; clear_value x) | (intro x; clear_value x)
    | (intro x; refine (fun hx : Kept Q x => ?_) ?_; rotate_left; unfold x) | (intro x)
    | exact ok_lit 22 (by decide) hp22 | apply kept_bump c | apply kept_intStick c hE hp2 hp22 hp3
    | apply kept_queueRow c hE hp2 hp22 hp3 | apply kept_w c | apply kept_ite | split | unfold x
    | lift_lets -underBinder

theorem kept_eccHit (c : Closed N I T M E K W Q) (hE : E) (hM : M) (hp13 : W 13) (hp2 : W 2) (hp22 : W 22) (hp3 : W 3) (a0 : State) (a1 : List (Nat × Nat × Nat)) (a2 : Sys2Proof.EccHit) (ha0 : Kept Q a0) : Kept Q (State.eccHit a0 a1 a2) := by
  unfold State.eccHit
  try lift_lets -underBinder
  repeat' with_reducible first
    | assumption | (intro x; refine (fun hx : Kept Q x => ?_) ?_; clear_value x)
    | (intro x; refine (fun hx : Kept Q x.1 => ?_) ?_; clear_value x) | (intro x; clear_value x)
    | (intro x; refine (fun hx : Kept Q x => ?_) ?_; rotate_left; unfold x) | (intro x)
    | exact kept_mk (kept_out (by with_reducible assumption)) | apply kept_eccBad c hE hp13 hp2 hp22 hp3
    | apply kept_eccFixed c hE hp2 hp22 hp3 | apply kept_setSramBytes c hM | apply kept_updSnt c | apply kept_ite
    | split | unfold x | lift_lets -underBinder

theorem kept_doScrubPass (c : Closed N I T M E K W Q) (hE : E) (hM : M) (hp13 : W 13) (hp2 : W 2) (hp22 : W 22) (hp3 : W 3) (a0 : List Sys2Proof.EccHit) (a1 : State) (ha1 : Kept Q a1) : Kept Q (doScrubPass a0 a1) := by
  unfold doScrubPass
  try lift_lets -underBinder
  repeat' with_reducible first
    | assumption | (intro x; refine (fun hx : Kept Q x => ?_) ?_; clear_value x) | (intro x; clear_value x)
    | (intro x; refine (fun hx : Kept Q x => ?_) ?_; rotate_left; unfold x) | (intro x)
    | exact kept_mk (kept_out (by with_reducible assumption)) | exact ok_lit 22 (by decide) hp22
    | apply kept_eccBad c hE hp13 hp2 hp22 hp3 | apply kept_eccHit c hE hM hp13 hp2 hp22 hp3 | apply kept_updSnt c
    | apply kept_w c | apply foldl_kept | apply foldl_kept1 | apply kept_ite | split | unfold x
    | lift_lets -underBinder

theorem kept_doRegisterParityCheck (c : Closed N I T M E K W Q) (hE : E) (hp2 : W 2) (hp22 : W 22) (hp3 : W 3) (a0 : Option Nat) (a1 : State) (ha1 : Kept Q a1) : Kept Q (doRegisterParityCheck a0 a1) := by
  unfold doRegisterParityCheck
  try lift_lets -underBinder
  repeat' with_reducible first
    | assumption | (intro x; refine (fun hx : Kept Q x => ?_) ?_; clear_value x) | (intro x; clear_value x)
    | (intro x; refine (fun hx : Kept Q x => ?_) ?_; rotate_left; unfold x) | (intro x)
    | exact kept_mk (kept_out (by with_reducible assumption)) | exact ok_lit 22 (by decide) hp22
    | apply kept_intStick c hE hp2 hp22 hp3 | apply kept_ite | split | unfold x | lift_lets -underBinder
    | refine kept_mk (kept_out ?_)

theorem kept_repairRow (c : Closed N I T M E K W Q) (hE : E) (hp2 : W 2) (hp22 : W 22) (hp3 : W 3) (a0 : State) (a1 : Nat) (a2 : Nat) (ha0 : Kept Q a0) : Kept Q (State.repairRow a0 a1 a2) := by
  unfold State.repairRow
  try lift_lets -underBinder
  repeat' with_reducible first
    | assumption | (intro x; refine (fun hx : Kept Q x => ?_) ?_; clear_value x) | (intro x; clear_value x)
    | (intro x; refine (fun hx : Kept Q x => ?_) ?_; rotate_left; unfold x) | (intro x)
    | exact kept_mk (kept_out (by with_reducible assumption)) | exact ok_lit 22 (by decide) hp22
    | apply kept_intStick c hE hp2 hp22 hp3 | apply kept_updSnt c | apply kept_w c | apply kept_ite | split
    | unfold x | lift_lets -underBinder

theorem kept_repairRows (c : Closed N I T M E K W Q) (hE : E) (hp2 : W 2) (hp22 : W 22) (hp3 : W 3) (a0 : State) (ha0 : Kept Q a0) : Kept Q (State.repairRows a0) := by
  unfold State.repairRows
  try lift_lets -underBinder
  repeat' with_reducible first
    | assumption | (intro x; refine (fun hx : Kept Q x => ?_) ?_; clear_value x)
    | (intro x; refine (fun hx : Kept Q x.1 => ?_) ?_; clear_value x) | (intro x; clear_value x)
    | (intro x; refine (fun hx : Kept Q x => ?_) ?_; rotate_left; unfold x) | (intro x)
    | exact kept_mk (kept_out (by with_reducible assumption)) | exact ok_lit 22 (by decide) hp22
    | apply kept_each c | apply kept_mapChange c | apply kept_repairRow c hE hp2 hp22 hp3 | apply kept_updSnt c
    | apply kept_w c | apply foldl_kept | apply foldl_kept1 | apply kept_ite | split | unfold x
    | lift_lets -underBinder

theorem kept_ageStep (c : Closed N I T M E K W Q) (hE : E) (hp2 : W 2) (hp22 : W 22) (hp3 : W 3) (a0 : State) (a1 : Nat) (a2 : Bool) (a3 : Fld) (a4 : Nat) (ha0 : Kept Q a0) (ha3 : OkFld W a3) : Kept Q (State.ageStep a0 a1 a2 a3 a4) := by
  unfold State.ageStep
  try lift_lets -underBinder
  repeat' with_reducible first
    | assumption | (intro x; refine (fun hx : Kept Q x => ?_) ?_; clear_value x) | (intro x; clear_value x)
    | (intro x; refine (fun hx : Kept Q x => ?_) ?_; rotate_left; unfold x) | (intro x)
    | exact kept_mk (kept_out (by with_reducible assumption)) | exact ok_lit 22 (by decide) hp22
    | apply kept_intStick c hE hp2 hp22 hp3 | apply kept_measured c | apply kept_updSnt c | apply kept_ite | split
    | unfold x | lift_lets -underBinder

theorem kept_doAgingMeasure (c : Closed N I T M E K W Q) (hE : E) (hp2 : W 2) (hp22 : W 22) (hp3 : W 3) (a0 : Sys2Proof.AgeIn) (a1 : State) (ha1 : Kept Q a1) : Kept Q (doAgingMeasure a0 a1) := by
  unfold doAgingMeasure
  try lift_lets -underBinder
  repeat' with_reducible first
    | assumption | (intro x; refine (fun hx : Kept Q x => ?_) ?_; clear_value x) | (intro x; clear_value x)
    | (intro x; refine (fun hx : Kept Q x => ?_) ?_; rotate_left; unfold x) | (intro x)
    | exact kept_mk (kept_out (by with_reducible assumption)) | exact ok_lit 22 (by decide) hp22
    | apply kept_ageStep c hE hp2 hp22 hp3 | apply kept_measured c | apply kept_w c | apply kept_ite | split
    | unfold x | lift_lets -underBinder

theorem kept_doHealthCount (c : Closed N I T M E K W Q) (hp22 : W 22) (a0 : Bool) (a1 : State) (ha1 : Kept Q a1) : Kept Q (doHealthCount a0 a1) := by
  unfold doHealthCount
  try lift_lets -underBinder
  repeat' with_reducible first
    | assumption | (intro x; refine (fun hx : Kept Q x => ?_) ?_; clear_value x) | (intro x; clear_value x)
    | (intro x; refine (fun hx : Kept Q x => ?_) ?_; rotate_left; unfold x) | (intro x)
    | exact kept_mk (kept_out (by with_reducible assumption)) | exact ok_lit 22 (by decide) hp22
    | apply kept_bump c | apply kept_ite | split | unfold x | lift_lets -underBinder

theorem kept_ashKeep (c : Closed N I T M E K W Q) (a0 : State) (a1 : Nat) (ha0 : Kept Q a0) : Kept Q (State.ashKeep a0 a1) := by
  unfold State.ashKeep
  try lift_lets -underBinder
  repeat' with_reducible first
    | assumption | (intro x; refine (fun hx : Kept Q x => ?_) ?_; clear_value x) | (intro x; clear_value x)
    | (intro x; refine (fun hx : Kept Q x => ?_) ?_; rotate_left; unfold x) | (intro x)
    | exact kept_mk (kept_out (by with_reducible assumption)) | apply kept_updAcq c | apply kept_ite | split
    | unfold x | lift_lets -underBinder

theorem kept_ashDec (c : Closed N I T M E K W Q) (hE : E) (hp22 : W 22) (a0 : State) (a1 : Nat) (ha0 : Kept Q a0) : Kept Q (State.ashDec a0 a1) := by
  unfold State.ashDec
  try lift_lets -underBinder
  repeat' with_reducible first
    | assumption | (intro x; refine (fun hx : Kept Q x => ?_) ?_; clear_value x) | (intro x; clear_value x)
    | (intro x; refine (fun hx : Kept Q x => ?_) ?_; rotate_left; unfold x) | (intro x)
    | apply kept_ashPut c hE hp22 | apply kept_ite | split | unfold x | lift_lets -underBinder

theorem kept_doAshEntry (c : Closed N I T M E K W Q) (hE : E) (hp2 : W 2) (hp22 : W 22) (hp3 : W 3) (a0 : State) (ha0 : Kept Q a0) : Kept Q (doAshEntry a0) := by
  unfold doAshEntry
  try lift_lets -underBinder
  repeat' with_reducible first
    | assumption | (intro x; refine (fun hx : Kept Q x => ?_) ?_; clear_value x) | (intro x; clear_value x)
    | (intro x; refine (fun hx : Kept Q x => ?_) ?_; rotate_left; unfold x) | (intro x)
    | exact kept_mk (kept_out (by with_reducible assumption)) | apply kept_ashDec c hE hp22
    | apply kept_ashFlush c hE hp2 hp22 hp3 | apply kept_each c | apply kept_updSnt c | apply kept_ite | split
    | unfold x | lift_lets -underBinder

theorem kept_ashTime (c : Closed N I T M E K W Q) (hE : E) (hp2 : W 2) (hp22 : W 22) (hp3 : W 3) (a0 : State) (a1 : Nat) (ha0 : Kept Q a0) : Kept Q (State.ashTime a0 a1) := by
  unfold State.ashTime
  repeat' with_reducible first
    | assumption | apply kept_ashFlush c hE hp2 hp22 hp3 | apply kept_ashPut c hE hp22

theorem kept_ashTrigger (c : Closed N I T M E K W Q) (hE : E) (hp2 : W 2) (hp22 : W 22) (hp3 : W 3) (a0 : State) (a1 : Nat) (a2 : Nat) (ha0 : Kept Q a0) : Kept Q (State.ashTrigger a0 a1 a2) := by
  unfold State.ashTrigger
  try lift_lets -underBinder
  repeat' with_reducible first
    | assumption | (intro x; refine (fun hx : Kept Q x => ?_) ?_; clear_value x) | (intro x; clear_value x)
    | (intro x; refine (fun hx : Kept Q x => ?_) ?_; rotate_left; unfold x) | (intro x)
    | exact kept_mk (kept_out (by with_reducible assumption)) | exact ok_lit 22 (by decide) hp22
    | apply kept_ashFlush c hE hp2 hp22 hp3 | apply kept_ashPut c hE hp22 | apply kept_bump c
    | apply kept_updSnt c | apply kept_w c | apply kept_ite | split | unfold x | lift_lets -underBinder

theorem kept_doAshTrigger (c : Closed N I T M E K W Q) (hE : E) (hp2 : W 2) (hp22 : W 22) (hp3 : W 3) (a0 : Nat) (a1 : State) (ha1 : Kept Q a1) : Kept Q (doAshTrigger a0 a1) := by
  unfold doAshTrigger
  try lift_lets -underBinder
  repeat' with_reducible first
    | assumption | (intro x; refine (fun hx : Kept Q x => ?_) ?_; clear_value x) | (intro x; clear_value x)
    | (intro x; refine (fun hx : Kept Q x => ?_) ?_; rotate_left; unfold x) | (intro x)
    | exact kept_mk (kept_out (by with_reducible assumption)) | apply kept_ashTrigger c hE hp2 hp22 hp3
    | apply kept_ite | split | unfold x | lift_lets -underBinder

theorem kept_ashArm (c : Closed N I T M E K W Q) (hp22 : W 22) (a0 : State) (ha0 : Kept Q a0) : Kept Q (State.ashArm a0) := by
  unfold State.ashArm
  repeat' with_reducible first
    | assumption | exact ok_lit 22 (by decide) hp22 | apply kept_w c | apply kept_ite | split

theorem kept_ashCommand (c : Closed N I T M E K W Q) (hE : E) (hp2 : W 2) (hp22 : W 22) (hp3 : W 3) (a0 : State) (a1 : Nat) (ha0 : Kept Q a0) : Kept Q (State.ashCommand a0 a1) := by
  unfold State.ashCommand
  try lift_lets -underBinder
  repeat' with_reducible first
    | assumption | (intro x; refine (fun hx : Kept Q x => ?_) ?_; clear_value x) | (intro x; clear_value x)
    | (intro x; refine (fun hx : Kept Q x => ?_) ?_; rotate_left; unfold x) | (intro x) | apply kept_ashArm c hp22
    | apply kept_ashTrigger c hE hp2 hp22 hp3 | apply kept_ite | split | unfold x | lift_lets -underBinder

theorem kept_ashEnable (c : Closed N I T M E K W Q) (hp22 : W 22) (a0 : State) (ha0 : Kept Q a0) : Kept Q (State.ashEnable a0) := by
  unfold State.ashEnable
  try lift_lets -underBinder
  repeat' with_reducible first
    | assumption | (intro x; refine (fun hx : Kept Q x => ?_) ?_; clear_value x) | (intro x; clear_value x)
    | (intro x; refine (fun hx : Kept Q x => ?_) ?_; rotate_left; unfold x) | (intro x)
    | exact ok_lit 22 (by decide) hp22 | apply kept_w c | apply kept_ite | split | unfold x
    | lift_lets -underBinder

theorem kept_updHost (c : Closed N I T M E K W Q) (a0 : State) (a1 : HostSt → HostSt) (ha0 : Kept Q a0) : Kept Q (State.updHost a0 a1) := by
  unfold State.updHost
  try lift_lets -underBinder
  repeat' with_reducible first
    | assumption | (intro x; refine (fun hx : Kept Q x => ?_) ?_; clear_value x) | (intro x; clear_value x)
    | (intro x; refine (fun hx : Kept Q x => ?_) ?_; rotate_left; unfold x) | (intro x)
    | exact kept_mk (kept_out (by with_reducible assumption)) | unfold x | lift_lets -underBinder

theorem kept_hifStick (c : Closed N I T M E K W Q) (hE : E) (hp2 : W 2) (hp22 : W 22) (hp3 : W 3) (a0 : State) (a1 : Fld) (ha0 : Kept Q a0) (ha1 : OkFld W a1) : Kept Q (State.hifStick a0 a1) := by
  unfold State.hifStick
  repeat' with_reducible first
    | assumption | apply kept_stickEv c hE hp2 hp22 hp3 | apply kept_ite | split

theorem kept_ringGone (c : Closed N I T M E K W Q) (a0 : State) (a1 : Nat) (ha0 : Kept Q a0) : Kept Q (State.ringGone a0 a1) := by
  unfold State.ringGone
  try lift_lets -underBinder
  repeat' with_reducible first
    | assumption | (intro x; refine (fun hx : Kept Q x => ?_) ?_; clear_value x) | (intro x; clear_value x)
    | (intro x; refine (fun hx : Kept Q x => ?_) ?_; rotate_left; unfold x) | (intro x)
    | exact kept_mk (kept_out (by with_reducible assumption)) | apply kept_updCan c | apply kept_updHost c
    | apply foldl_kept | apply foldl_kept1 | apply kept_ite | split | unfold x | lift_lets -underBinder

theorem kept_ringCfg (c : Closed N I T M E K W Q) (hA : ∀ p, W p) (hE : E) (a0 : State) (a1 : Nat) (a2 : Nat) (ha0 : Kept Q a0) : Kept Q (State.ringCfg a0 a1 a2) := by
  unfold State.ringCfg
  try lift_lets -underBinder
  repeat' with_reducible first
    | assumption | (intro x; refine (fun hx : Kept Q x => ?_) ?_; clear_value x) | (intro x; clear_value x)
    | (intro x; refine (fun hx : Kept Q x => ?_) ?_; rotate_left; unfold x) | (intro x) | exact ok_all hA
    | apply kept_hifStick c hE (hA 2) (hA 22) (hA 3) | apply kept_record c hE (hA 2) (hA 22) (hA 3)
    | apply kept_ringGone c | apply kept_statusBlock c | apply kept_w c | apply kept_writeFields c hA
    | apply kept_ite | split | unfold x | lift_lets -underBinder

theorem kept_ringBase (c : Closed N I T M E K W Q) (hA : ∀ p, W p) (a0 : State) (a1 : Nat) (a2 : Nat) (a3 : Nat) (ha0 : Kept Q a0) : Kept Q (State.ringBase a0 a1 a2 a3) := by
  unfold State.ringBase
  repeat' with_reducible first
    | assumption | apply kept_writeFields c hA | apply kept_ite | split

theorem kept_doorbell (c : Closed N I T M E K W Q) (hE : E) (hp2 : W 2) (hp22 : W 22) (hp3 : W 3) (a0 : State) (a1 : Nat) (a2 : Nat) (ha0 : Kept Q a0) : Kept Q (State.doorbell a0 a1 a2) := by
  unfold State.doorbell
  try lift_lets -underBinder
  repeat' with_reducible first
    | assumption | (intro x; refine (fun hx : Kept Q x => ?_) ?_; clear_value x) | (intro x; clear_value x)
    | (intro x; refine (fun hx : Kept Q x => ?_) ?_; rotate_left; unfold x) | (intro x)
    | exact ok_lit 2 (by decide) hp2 | apply kept_flushOwed c hp2 | apply kept_hifStick c hE hp2 hp22 hp3
    | apply kept_w c | apply kept_ite | split | unfold x | lift_lets -underBinder

theorem kept_doHostMemoryAccessFailure (c : Closed N I T M E K W Q) (hE : E) (hp2 : W 2) (hp22 : W 22) (hp3 : W 3) (a0 : Nat) (a1 : Nat) (a2 : State) (ha2 : Kept Q a2) : Kept Q (doHostMemoryAccessFailure a0 a1 a2) := by
  unfold doHostMemoryAccessFailure
  try lift_lets -underBinder
  repeat' with_reducible first
    | assumption | (intro x; refine (fun hx : Kept Q x => ?_) ?_; clear_value x) | (intro x; clear_value x)
    | (intro x; refine (fun hx : Kept Q x => ?_) ?_; rotate_left; unfold x) | (intro x)
    | exact kept_mk (kept_out (by with_reducible assumption)) | exact ok_lit 2 (by decide) hp2
    | apply kept_hifStick c hE hp2 hp22 hp3 | apply kept_w c | apply kept_ite | split | unfold x
    | lift_lets -underBinder

theorem kept_descr (c : Closed N I T M E K W Q) (hp2 : W 2) (a0 : State) (a1 : Sys2Proof.Desc) (a2 : State → State × Option (Nat × Nat)) (a3 : Nat) (ha0 : Kept Q a0) (ha2 : ∀ s, Kept Q s → Kept Q (a2 s).1) : Kept Q (State.descr a0 a1 a2 a3) := by
  unfold State.descr
  try lift_lets -underBinder
  repeat' first
    | with_reducible assumption | (intro x; refine (fun hx : Kept Q x => ?_) ?_; clear_value x)
    | (intro x; refine (fun hx : Kept Q x.1 => ?_) ?_; clear_value x) | (intro x; clear_value x)
    | (intro x; refine (fun hx : Kept Q x => ?_) ?_; rotate_left; unfold x) | (intro x)
    | with_reducible apply kept_complete c hp2 | with_reducible apply kept_consume1 c hp2
    | with_reducible apply kept_here c | with_reducible apply ha2 | refine fst_kept ‹_› ?_
    | with_reducible apply kept_ite | split | unfold x | lift_lets -underBinder

theorem kept_defer (c : Closed N I T M E K W Q) (a0 : State) (a1 : Sys2Proof.Desc) (a2 : Nat) (a3 : Await) (ha0 : Kept Q a0) : Kept Q (State.defer a0 a1 a2 a3) := by
  unfold State.defer
  try lift_lets -underBinder
  repeat' with_reducible first
    | assumption | (intro x; refine (fun hx : Kept Q x => ?_) ?_; clear_value x) | (intro x; clear_value x)
    | (intro x; refine (fun hx : Kept Q x => ?_) ?_; rotate_left; unfold x) | (intro x)
    | exact kept_mk (kept_out (by with_reducible assumption)) | apply kept_updHost c | apply kept_ite | split
    | unfold x | lift_lets -underBinder

theorem kept_sramStage (c : Closed N I T M E K W Q) (hp0 : W 0) (hp2 : W 2) (a0 : State) (a1 : Sys2Proof.Desc) (a2 : Nat) (a3 : Nat) (a4 : Nat) (a5 : List Sys2Proof.Word) (ha0 : Kept Q a0) : Kept Q (State.sramStage a0 a1 a2 a3 a4 a5).1 := by
  unfold State.sramStage
  try lift_lets -underBinder
  repeat' with_reducible first
    | assumption | (intro x; refine (fun hx : Kept Q x => ?_) ?_; clear_value x)
    | (intro x; refine (fun hx : Kept Q x.1 => ?_) ?_; clear_value x) | (intro x; clear_value x)
    | (intro x; refine (fun hx : Kept Q x => ?_) ?_; rotate_left; unfold x) | (intro x)
    | exact kept_mk (kept_out (by with_reducible assumption)) | exact ok_lit 0 (by decide) hp0
    | apply kept_defer c | apply kept_enter c hp0 hp2 | apply kept_updHost c | apply kept_w c | apply foldl_kept
    | apply foldl_kept1 | apply kept_ite | split | unfold x | lift_lets -underBinder

theorem kept_cmdCommit (c : Closed N I T M E K W Q) (hM : M) (hp0 : W 0) (hp2 : W 2) (a0 : State) (a1 : Sys2Proof.Desc) (ha0 : Kept Q a0) : Kept Q (State.cmdCommit a0 a1).1 := by
  unfold State.cmdCommit
  repeat' with_reducible first
    | assumption | apply kept_defer c | apply kept_doCommit c hM hp0 hp2 | refine fst_kept ‹_› ?_ | apply kept_ite
    | split

theorem kept_unfence (c : Closed N I T M E K W Q) (hp2 : W 2) (a0 : State) (a1 : Nat) (ha0 : Kept Q a0) : Kept Q (State.unfence a0 a1) := by
  unfold State.unfence
  try lift_lets -underBinder
  repeat' with_reducible first
    | assumption | (intro x; refine (fun hx : Kept Q x => ?_) ?_; clear_value x) | (intro x; clear_value x)
    | (intro x; refine (fun hx : Kept Q x => ?_) ?_; rotate_left; unfold x) | (intro x)
    | exact kept_mk (kept_out (by with_reducible assumption)) | apply kept_complete c hp2
    | apply kept_consume1 c hp2 | apply kept_updHost c | apply kept_ite | split | unfold x
    | lift_lets -underBinder

theorem kept_doFence (c : Closed N I T M E K W Q) (hp2 : W 2) (a0 : Sys2Proof.Desc) (a1 : State) (ha1 : Kept Q a1) : Kept Q (doFence a0 a1) := by
  unfold doFence
  try lift_lets -underBinder
  repeat' with_reducible first
    | assumption | (intro x; refine (fun hx : Kept Q x => ?_) ?_; clear_value x) | (intro x; clear_value x)
    | (intro x; refine (fun hx : Kept Q x => ?_) ?_; rotate_left; unfold x) | (intro x) | apply kept_here c
    | apply kept_unfence c hp2 | apply kept_updHost c | apply kept_ite | split | unfold x | lift_lets -underBinder

theorem kept_ashRead (c : Closed N I T M E K W Q) (hE : E) (hp2 : W 2) (hp22 : W 22) (hp3 : W 3) (a0 : State) (a1 : Nat) (ha0 : Kept Q a0) : Kept Q (State.ashRead a0 a1).1 := by
  unfold State.ashRead
  try lift_lets -underBinder
  repeat' with_reducible first
    | assumption | (intro x; refine (fun hx : Kept Q x => ?_) ?_; clear_value x)
    | (intro x; refine (fun hx : Kept Q x.1 => ?_) ?_; clear_value x) | (intro x; clear_value x)
    | (intro x; refine (fun hx : Kept Q x => ?_) ?_; rotate_left; unfold x) | (intro x) | apply kept_draw c
    | refine snd_kept ‹_› ?_ | apply kept_eccSeen c hE hp2 hp22 hp3 | apply foldl_kept | apply foldl_kept1
    | apply kept_ite | split | unfold x | lift_lets -underBinder

theorem kept_ashRecord (c : Closed N I T M E K W Q) (hE : E) (hp2 : W 2) (hp22 : W 22) (hp3 : W 3) (a0 : State) (a1 : Nat) (a2 : Nat) (ha0 : Kept Q a0) : Kept Q (State.ashRecord a0 a1 a2) := by
  unfold State.ashRecord
  try lift_lets -underBinder
  repeat' with_reducible first
    | assumption | (intro x; refine (fun hx : Kept Q x => ?_) ?_; clear_value x)
    | (intro x; refine (fun hx : Kept Q x.1 => ?_) ?_; clear_value x) | (intro x; clear_value x)
    | (intro x; refine (fun hx : Kept Q x => ?_) ?_; rotate_left; unfold x) | (intro x)
    | apply kept_ashRead c hE hp2 hp22 hp3 | refine fst_kept ‹_› ?_ | apply kept_recordWait c hp2 | unfold x
    | lift_lets -underBinder

theorem kept_ashDesc (c : Closed N I T M E K W Q) (hE : E) (hp2 : W 2) (hp22 : W 22) (hp3 : W 3) (a0 : State) (a1 : Sys2Proof.Desc) (a2 : Nat) (a3 : Nat) (ha0 : Kept Q a0) : Kept Q (State.ashDesc a0 a1 a2 a3).1 := by
  unfold State.ashDesc
  try lift_lets -underBinder
  repeat' with_reducible first
    | assumption | (intro x; refine (fun hx : Kept Q x => ?_) ?_; clear_value x)
    | (intro x; refine (fun hx : Kept Q x.1 => ?_) ?_; clear_value x) | (intro x; clear_value x)
    | (intro x; refine (fun hx : Kept Q x => ?_) ?_; rotate_left; unfold x) | (intro x)
    | apply kept_ashRecord c hE hp2 hp22 hp3 | apply kept_defer c | apply foldl_kept | apply foldl_kept1
    | apply kept_ite | split | unfold x | lift_lets -underBinder

theorem kept_doDeferredCompletion (c : Closed N I T M E K W Q) (hp2 : W 2) (a0 : Nat) (a1 : State) (ha1 : Kept Q a1) : Kept Q (doDeferredCompletion a0 a1) := by
  unfold doDeferredCompletion
  try lift_lets -underBinder
  repeat' with_reducible first
    | assumption | (intro x; refine (fun hx : Kept Q x => ?_) ?_; clear_value x)
    | (intro x; refine (fun hx : Kept Q x.1 => ?_) ?_; clear_value x) | (intro x; clear_value x)
    | (intro x; refine (fun hx : Kept Q x => ?_) ?_; rotate_left; unfold x) | (intro x)
    | exact kept_mk (kept_out (by with_reducible assumption)) | apply kept_complete c hp2 | apply kept_updHost c
    | apply kept_ite | split | unfold x | lift_lets -underBinder | refine kept_mk (kept_out ?_)

theorem kept_commitDone (c : Closed N I T M E K W Q) (a0 : State) (ha0 : Kept Q a0) : Kept Q (State.commitDone a0) := by
  unfold State.commitDone
  try lift_lets -underBinder
  repeat' with_reducible first
    | assumption | (intro x; refine (fun hx : Kept Q x => ?_) ?_; clear_value x) | (intro x; clear_value x)
    | (intro x; refine (fun hx : Kept Q x => ?_) ?_; rotate_left; unfold x) | (intro x)
    | exact kept_mk (kept_out (by with_reducible assumption)) | apply kept_updHost c | apply kept_ite | split
    | unfold x | lift_lets -underBinder

theorem kept_doTimeRecord (c : Closed N I T M E K W Q) (hE : E) (hp2 : W 2) (hp22 : W 22) (hp3 : W 3) (a0 : State) (ha0 : Kept Q a0) : Kept Q (doTimeRecord a0) := by
  unfold doTimeRecord
  try lift_lets -underBinder
  repeat' with_reducible first
    | assumption | (intro x; refine (fun hx : Kept Q x => ?_) ?_; clear_value x) | (intro x; clear_value x)
    | (intro x; refine (fun hx : Kept Q x => ?_) ?_; rotate_left; unfold x) | (intro x)
    | exact kept_mk (kept_out (by with_reducible assumption)) | apply kept_ashTime c hE hp2 hp22 hp3
    | apply kept_each c | apply kept_record c hE hp2 hp22 hp3 | apply kept_updHost c | apply kept_ite | split
    | unfold x | lift_lets -underBinder

theorem kept_doMsixMessage (c : Closed N I T M E K W Q) (hp2 : W 2) (a0 : Nat) (a1 : State) (ha1 : Kept Q a1) : Kept Q (doMsixMessage a0 a1) := by
  unfold doMsixMessage
  try lift_lets -underBinder
  repeat' with_reducible first
    | assumption | (intro x; refine (fun hx : Kept Q x => ?_) ?_; clear_value x) | (intro x; clear_value x)
    | (intro x; refine (fun hx : Kept Q x => ?_) ?_; rotate_left; unfold x) | (intro x)
    | exact kept_mk (kept_out (by with_reducible assumption)) | exact ok_lit 2 (by decide) hp2 | apply kept_emit c
    | apply kept_here c | apply kept_updHost c | apply kept_w c | apply kept_ite | split | unfold x
    | lift_lets -underBinder

theorem kept_heartbeat (c : Closed N I T M E K W Q) (a0 : State) (a1 : Sys2Proof.Path) (ha0 : Kept Q a0) : Kept Q (State.heartbeat a0 a1) := by
  unfold State.heartbeat
  try lift_lets -underBinder
  repeat' with_reducible first
    | assumption | (intro x; refine (fun hx : Kept Q x => ?_) ?_; clear_value x) | (intro x; clear_value x)
    | (intro x; refine (fun hx : Kept Q x => ?_) ?_; rotate_left; unfold x) | (intro x)
    | exact kept_mk (kept_out (by with_reducible assumption)) | apply kept_updHost c | apply kept_ite | split
    | unfold x | lift_lets -underBinder

theorem kept_hbCfg (c : Closed N I T M E K W Q) (hA : ∀ p, W p) (a0 : State) (a1 : Nat) (ha0 : Kept Q a0) : Kept Q (State.hbCfg a0 a1) := by
  unfold State.hbCfg
  try lift_lets -underBinder
  repeat' with_reducible first
    | assumption | (intro x; refine (fun hx : Kept Q x => ?_) ?_; clear_value x) | (intro x; clear_value x)
    | (intro x; refine (fun hx : Kept Q x => ?_) ?_; rotate_left; unfold x) | (intro x)
    | exact kept_mk (kept_out (by with_reducible assumption)) | apply kept_updHost c | apply kept_writeFields c hA
    | apply kept_ite | split | unfold x | lift_lets -underBinder

theorem kept_doHostHeartbeatExpiry (c : Closed N I T M E K W Q) (hE : E) (hp2 : W 2) (hp22 : W 22) (hp3 : W 3) (a0 : State) (ha0 : Kept Q a0) : Kept Q (doHostHeartbeatExpiry a0) := by
  unfold doHostHeartbeatExpiry
  try lift_lets -underBinder
  repeat' with_reducible first
    | assumption | (intro x; refine (fun hx : Kept Q x => ?_) ?_; clear_value x) | (intro x; clear_value x)
    | (intro x; refine (fun hx : Kept Q x => ?_) ?_; rotate_left; unfold x) | (intro x)
    | exact kept_mk (kept_out (by with_reducible assumption)) | exact ok_lit 2 (by decide) hp2
    | apply kept_canRingcan c hp2 | apply kept_hifStick c hE hp2 hp22 hp3 | apply kept_updHost c | apply kept_ite
    | split | unfold x | lift_lets -underBinder

theorem kept_linkReset (c : Closed N I T M E K W Q) (hp0 : W 0) (hp2 : W 2) (s : State) (h : Kept Q s) : Kept Q s.linkReset := by
  have h1 : Kept Q ((List.range 32).foldl State.ringGone s) := foldl_kept _ (fun s n hs => kept_ringGone c s n hs) h
  unfold State.linkReset
  generalize (List.range 32).foldl State.ringGone s = x at h1
  have h2 := c.keep _ (fun f => decide (keyPage f.1 ≠ 2))
    (fun y hy => by simp only [ne_eq, decide_not, Bool.not_eq_false', decide_eq_true_eq] at hy; rw [hy]; exact hp2) h1
  dsimp only
  split
  · exact kept_emptySet c hp0 hp2 _ h2
  · exact h2

theorem kept_doLinkTrainingDone (c : Closed N I T M E K W Q) (hp2 : W 2) (a0 : Nat) (a1 : Nat) (a2 : State) (ha2 : Kept Q a2) : Kept Q (doLinkTrainingDone a0 a1 a2) := by
  unfold doLinkTrainingDone
  try lift_lets -underBinder
  repeat' with_reducible first
    | assumption | (intro x; refine (fun hx : Kept Q x => ?_) ?_; clear_value x) | (intro x; clear_value x)
    | (intro x; refine (fun hx : Kept Q x => ?_) ?_; rotate_left; unfold x) | (intro x)
    | exact kept_mk (kept_out (by with_reducible assumption)) | exact ok_lit 2 (by decide) hp2
    | apply kept_updHost c | apply kept_w c | apply kept_ite | split | unfold x | lift_lets -underBinder

theorem kept_doConfigurationRequest (c : Closed N I T M E K W Q) (hp2 : W 2) (a0 : Sys2Proof.CfgReq) (a1 : State) (ha1 : Kept Q a1) : Kept Q (doConfigurationRequest a0 a1) := by
  unfold doConfigurationRequest
  try lift_lets -underBinder
  repeat' with_reducible first
    | assumption | (intro x; refine (fun hx : Kept Q x => ?_) ?_; clear_value x) | (intro x; clear_value x)
    | (intro x; refine (fun hx : Kept Q x => ?_) ?_; rotate_left; unfold x) | (intro x)
    | exact kept_mk (kept_out (by with_reducible assumption)) | exact ok_lit 2 (by decide) hp2 | apply kept_here c
    | apply kept_updHost c | apply kept_wb c | apply kept_ite | split | unfold x | lift_lets -underBinder

theorem kept_doPerstNRelease (c : Closed N I T M E K W Q) (a0 : State) (ha0 : Kept Q a0) : Kept Q (doPerstNRelease a0) := by
  unfold doPerstNRelease
  try lift_lets -underBinder
  repeat' with_reducible first
    | assumption | (intro x; refine (fun hx : Kept Q x => ?_) ?_; clear_value x) | (intro x; clear_value x)
    | (intro x; refine (fun hx : Kept Q x => ?_) ?_; rotate_left; unfold x) | (intro x)
    | exact kept_mk (kept_out (by with_reducible assumption)) | apply kept_ite | split | unfold x
    | lift_lets -underBinder

theorem kept_hostRelease (c : Closed N I T M E K W Q) (a0 : State) (ha0 : Kept Q a0) : Kept Q (State.hostRelease a0) := by
  unfold State.hostRelease
  try lift_lets -underBinder
  repeat' with_reducible first
    | assumption | (intro x; refine (fun hx : Kept Q x => ?_) ?_; clear_value x) | (intro x; clear_value x)
    | (intro x; refine (fun hx : Kept Q x => ?_) ?_; rotate_left; unfold x) | (intro x)
    | exact kept_mk (kept_out (by with_reducible assumption)) | apply kept_updHost c | apply kept_ite | split
    | unfold x | lift_lets -underBinder

theorem kept_updRst (c : Closed N I T M E K W Q) (a0 : State) (a1 : RstSt → RstSt) (ha0 : Kept Q a0) : Kept Q (State.updRst a0 a1) := by
  unfold State.updRst
  try lift_lets -underBinder
  repeat' with_reducible first
    | assumption | (intro x; refine (fun hx : Kept Q x => ?_) ?_; clear_value x) | (intro x; clear_value x)
    | (intro x; refine (fun hx : Kept Q x => ?_) ?_; rotate_left; unfold x) | (intro x)
    | exact kept_mk (kept_out (by with_reducible assumption)) | unfold x | lift_lets -underBinder

theorem kept_rstStick (c : Closed N I T M E K W Q) (hE : E) (hp1 : W 1) (hp2 : W 2) (hp22 : W 22) (hp3 : W 3) (a0 : State) (a1 : Nat) (ha0 : Kept Q a0) : Kept Q (State.rstStick a0 a1) := by
  unfold State.rstStick
  repeat' with_reducible first
    | assumption | exact ok_lit 1 (by decide) hp1 | apply kept_stickBits c hE hp2 hp22 hp3

theorem kept_setRstCause (c : Closed N I T M E K W Q) (hp1 : W 1) (a0 : State) (a1 : Nat) (ha0 : Kept Q a0) : Kept Q (State.setRstCause a0 a1) := by
  unfold State.setRstCause
  repeat' with_reducible first
    | assumption | exact ok_causeFld hp1 | exact ok_lit 1 (by decide) hp1 | apply kept_w c

theorem kept_ashReset (c : Closed N I T M E K W Q) (hE : E) (hp22 : W 22) (a0 : State) (a1 : Nat) (ha0 : Kept Q a0) : Kept Q (State.ashReset a0 a1) := by
  unfold State.ashReset
  try lift_lets -underBinder
  repeat' with_reducible first
    | assumption | (intro x; refine (fun hx : Kept Q x => ?_) ?_; clear_value x) | (intro x; clear_value x)
    | (intro x; refine (fun hx : Kept Q x => ?_) ?_; rotate_left; unfold x) | (intro x)
    | exact ok_lit 22 (by decide) hp22 | apply kept_ashWrite c hE hp22 | apply kept_w c | apply kept_ite | split
    | unfold x | lift_lets -underBinder

theorem kept_nvTorn (c : Closed N I T M E K W Q) (hN : N) (a0 : State) (ha0 : Kept Q a0) : Kept Q (State.nvTorn a0) := by
  unfold State.nvTorn
  try lift_lets -underBinder
  repeat' with_reducible first
    | assumption | (intro x; refine (fun hx : Kept Q x => ?_) ?_; clear_value x) | (intro x; clear_value x)
    | (intro x; refine (fun hx : Kept Q x => ?_) ?_; rotate_left; unfold x) | (intro x)
    | exact kept_mk (kept_out (by with_reducible assumption)) | apply kept_setNvmBytes c hN | apply kept_ite
    | split | unfold x | lift_lets -underBinder

theorem kept_warmClear (c : Closed N I T M E K W Q) (hA : ∀ p, W p) (hI : I) (hK : K) (s : State) (h : Kept Q s) : Kept Q s.warmClear := by
  unfold State.warmClear
  apply kept_showSw c (hA 22) (hA 7)
  exact c.count hK _ 0 false s.wrapped <| c.blank hI _ (c.keep _ (fun f => keptField f.1) (fun _ _ => hA _) h)

theorem kept_warmAssert (c : Closed N I T M E K W Q) (hA : ∀ p, W p) (hE : E) (hI : I) (hK : K) (hN : N) (a0 : State) (a1 : Nat) (a2 : Bool) (ha0 : Kept Q a0) : Kept Q (State.warmAssert a0 a1 a2) := by
  unfold State.warmAssert
  try lift_lets -underBinder
  repeat' with_reducible first
    | assumption | (intro x; refine (fun hx : Kept Q x => ?_) ?_; clear_value x) | (intro x; clear_value x)
    | (intro x; refine (fun hx : Kept Q x => ?_) ?_; rotate_left; unfold x) | (intro x)
    | exact kept_mk (kept_out (by with_reducible assumption)) | exact ok_all hA | apply kept_ashReset c hE (hA 22)
    | apply kept_bump c | apply kept_nvTorn c hN | apply kept_setRstCause c (hA 1) | apply kept_updRst c
    | apply kept_w c | apply kept_warmClear c hA hI hK | apply kept_ite | split | unfold x
    | lift_lets -underBinder

theorem kept_goDormant (c : Closed N I T M E K W Q) (hA : ∀ p, W p) (hE : E) (hI : I) (hK : K) (hN : N) (a0 : State) (a1 : Nat) (ha0 : Kept Q a0) : Kept Q (State.goDormant a0 a1) := by
  unfold State.goDormant
  repeat' with_reducible first
    | assumption | exact ok_all hA | apply kept_w c | apply kept_warmAssert c hA hE hI hK hN

theorem kept_doWarmReset (c : Closed N I T M E K W Q) (hA : ∀ p, W p) (hE : E) (hI : I) (hK : K) (hN : N) (a0 : Nat) (a1 : State) (ha1 : Kept Q a1) : Kept Q (doWarmReset a0 a1) := by
  unfold doWarmReset
  try lift_lets -underBinder
  repeat' with_reducible first
    | assumption | (intro x; refine (fun hx : Kept Q x => ?_) ?_; clear_value x) | (intro x; clear_value x)
    | (intro x; refine (fun hx : Kept Q x => ?_) ?_; rotate_left; unfold x) | (intro x)
    | exact kept_mk (kept_out (by with_reducible assumption)) | apply kept_warmAssert c hA hE hI hK hN
    | apply kept_ite | split | unfold x | lift_lets -underBinder

theorem kept_doWarmResetRelease (c : Closed N I T M E K W Q) (hp1 : W 1) (a0 : State) (ha0 : Kept Q a0) : Kept Q (doWarmResetRelease a0) := by
  unfold doWarmResetRelease
  try lift_lets -underBinder
  repeat' with_reducible first
    | assumption | (intro x; refine (fun hx : Kept Q x => ?_) ?_; clear_value x) | (intro x; clear_value x)
    | (intro x; refine (fun hx : Kept Q x => ?_) ?_; rotate_left; unfold x) | (intro x)
    | exact kept_mk (kept_out (by with_reducible assumption)) | exact ok_lit 1 (by decide) hp1
    | apply kept_updRst c | apply kept_w c | apply kept_ite | split | unfold x | lift_lets -underBinder

theorem kept_doColdReset (c : Closed N I T M E K W Q) (hA : ∀ p, W p) (hE : E) (hI : I) (hK : K) (hM : M) (hN : N) (hT : T) (a0 : ColdIn) (s : State) (h : Kept Q s) :
    Kept Q (doColdReset a0 s) := by
  unfold doColdReset
  have h := kept_nvTorn c hN _ h
  generalize s.nvTorn = s at h
  have h1 := c.count hK _ 0 false false <| c.time hT _ 0 (c.blank hI _ (c.zero hM _ (fun _ => false) (c.keep _ (fun _ => false) (fun _ _ => hA _) h)))
  have e1 : s.fields.filter (fun _ => false) = [] := by simp
  have e2 : s.sram.filter (fun _ => false) = [] := by simp
  have h2 : Q ⟨[], [], s.nvm, [], [], 0, s.pending, none, 0, false, false⟩ := by
    have h3 : Q ⟨s.fields.filter (fun _ => false), s.sram.filter (fun _ => false), s.nvm, [], [], 0, s.pending, none, 0, false, false⟩ := h1
    rwa [e1, e2] at h3
  dsimp only
  refine kept_w c _ _ _ _ (ok_all hA) (kept_updRst c _ _ (kept_w c _ _ _ _ (ok_all hA) (kept_w c _ _ _ _ (ok_all hA) ?_)))
  split
  · exact kept_w c _ _ _ _ (ok_all hA) (kept_w c _ _ _ _ (ok_all hA) (kept_w c _ _ _ _ (ok_all hA) h2))
  · exact h2

theorem kept_pinStuck (c : Closed N I T M E K W Q) (hA : ∀ p, W p) (hE : E) (hI : I) (hK : K) (hN : N) (a0 : State) (ha0 : Kept Q a0) : Kept Q (State.pinStuck a0) := by
  unfold State.pinStuck
  try lift_lets -underBinder
  repeat' with_reducible first
    | assumption | (intro x; refine (fun hx : Kept Q x => ?_) ?_; clear_value x) | (intro x; clear_value x)
    | (intro x; refine (fun hx : Kept Q x => ?_) ?_; rotate_left; unfold x) | (intro x)
    | exact kept_mk (kept_out (by with_reducible assumption)) | exact ok_all hA | apply kept_setRstCause c (hA 1)
    | apply kept_updRst c | apply kept_w c | apply kept_warmAssert c hA hE hI hK hN | apply kept_ite | split
    | unfold x | lift_lets -underBinder

theorem kept_doResetNPulse (c : Closed N I T M E K W Q) (hA : ∀ p, W p) (hE : E) (hI : I) (hK : K) (hN : N) (a0 : Nat) (a1 : Bool) (a2 : State) (ha2 : Kept Q a2) : Kept Q (doResetNPulse a0 a1 a2) := by
  unfold doResetNPulse
  try lift_lets -underBinder
  repeat' with_reducible first
    | assumption | (intro x; refine (fun hx : Kept Q x => ?_) ?_; clear_value x) | (intro x; clear_value x)
    | (intro x; refine (fun hx : Kept Q x => ?_) ?_; rotate_left; unfold x) | (intro x)
    | exact kept_mk (kept_out (by with_reducible assumption)) | exact ok_all hA | apply kept_bump c
    | apply kept_pinStuck c hA hE hI hK hN | apply kept_rstStick c hE (hA 1) (hA 2) (hA 22) (hA 3)
    | apply kept_updRst c | apply kept_warmAssert c hA hE hI hK hN | apply kept_ite | split | unfold x
    | lift_lets -underBinder

theorem kept_doResetNStuck (c : Closed N I T M E K W Q) (hA : ∀ p, W p) (hE : E) (hI : I) (hK : K) (hN : N) (a0 : State) (ha0 : Kept Q a0) : Kept Q (doResetNStuck a0) := by
  unfold doResetNStuck
  try lift_lets -underBinder
  repeat' with_reducible first
    | assumption | (intro x; refine (fun hx : Kept Q x => ?_) ?_; clear_value x) | (intro x; clear_value x)
    | (intro x; refine (fun hx : Kept Q x => ?_) ?_; rotate_left; unfold x) | (intro x)
    | exact kept_mk (kept_out (by with_reducible assumption)) | exact ok_all hA
    | apply kept_pinStuck c hA hE hI hK hN | apply kept_updRst c | apply kept_w c | apply kept_ite | split
    | unfold x | lift_lets -underBinder

theorem kept_leave (c : Closed N I T M E K W Q) (hA : ∀ p, W p) (hE : E) (hI : I) (hK : K) (hN : N) (a0 : State) (a1 : Option Nat) (ha0 : Kept Q a0) : Kept Q (State.leave a0 a1) := by
  unfold State.leave
  try lift_lets -underBinder
  repeat' with_reducible first
    | assumption | (intro x; refine (fun hx : Kept Q x => ?_) ?_; clear_value x) | (intro x; clear_value x)
    | (intro x; refine (fun hx : Kept Q x => ?_) ?_; rotate_left; unfold x) | (intro x)
    | exact kept_mk (kept_out (by with_reducible assumption)) | exact ok_all hA | apply kept_updRst c
    | apply kept_w c | apply kept_warmAssert c hA hE hI hK hN | apply kept_ite | split | unfold x
    | lift_lets -underBinder

theorem kept_doStuckPinRelease (c : Closed N I T M E K W Q) (hA : ∀ p, W p) (hE : E) (hI : I) (hK : K) (hN : N) (a0 : State) (ha0 : Kept Q a0) : Kept Q (doStuckPinRelease a0) := by
  unfold doStuckPinRelease
  try lift_lets -underBinder
  repeat' with_reducible first
    | assumption | (intro x; refine (fun hx : Kept Q x => ?_) ?_; clear_value x) | (intro x; clear_value x)
    | (intro x; refine (fun hx : Kept Q x => ?_) ?_; rotate_left; unfold x) | (intro x)
    | exact kept_mk (kept_out (by with_reducible assumption)) | exact ok_all hA
    | apply kept_leave c hA hE hI hK hN | apply kept_updRst c | apply kept_w c | apply kept_ite | split | unfold x
    | lift_lets -underBinder

theorem kept_doPerstNAssert (c : Closed N I T M E K W Q) (hA : ∀ p, W p) (hE : E) (hI : I) (hK : K) (hN : N) (a0 : State) (ha0 : Kept Q a0) : Kept Q (doPerstNAssert a0) := by
  unfold doPerstNAssert
  try lift_lets -underBinder
  repeat' with_reducible first
    | assumption | (intro x; refine (fun hx : Kept Q x => ?_) ?_; clear_value x) | (intro x; clear_value x)
    | (intro x; refine (fun hx : Kept Q x => ?_) ?_; rotate_left; unfold x) | (intro x)
    | exact kept_mk (kept_out (by with_reducible assumption)) | apply kept_linkReset c (hA 0) (hA 2)
    | apply kept_updRst c | apply kept_warmAssert c hA hE hI hK hN | apply kept_ite | split | unfold x
    | lift_lets -underBinder

theorem kept_confirm (c : Closed N I T M E K W Q) (hE : E) (hp1 : W 1) (hp2 : W 2) (hp22 : W 22) (hp3 : W 3) (a0 : State) (ha0 : Kept Q a0) : Kept Q (State.confirm a0) := by
  unfold State.confirm
  try lift_lets -underBinder
  repeat' with_reducible first
    | assumption | (intro x; refine (fun hx : Kept Q x => ?_) ?_; clear_value x) | (intro x; clear_value x)
    | (intro x; refine (fun hx : Kept Q x => ?_) ?_; rotate_left; unfold x) | (intro x)
    | exact kept_mk (kept_out (by with_reducible assumption)) | exact ok_lit 1 (by decide) hp1
    | apply kept_rstStick c hE hp1 hp2 hp22 hp3 | apply kept_updRst c | apply kept_w c | apply kept_ite | split
    | unfold x | lift_lets -underBinder

theorem kept_doAutoConfirm (c : Closed N I T M E K W Q) (hE : E) (hp1 : W 1) (hp2 : W 2) (hp22 : W 22) (hp3 : W 3) (a0 : State) (ha0 : Kept Q a0) : Kept Q (doAutoConfirm a0) := by
  unfold doAutoConfirm
  try lift_lets -underBinder
  repeat' with_reducible first
    | assumption | (intro x; refine (fun hx : Kept Q x => ?_) ?_; clear_value x) | (intro x; clear_value x)
    | (intro x; refine (fun hx : Kept Q x => ?_) ?_; rotate_left; unfold x) | (intro x)
    | exact kept_mk (kept_out (by with_reducible assumption)) | apply kept_confirm c hE hp1 hp2 hp22 hp3
    | apply kept_ite | split | unfold x | lift_lets -underBinder

theorem kept_putTwo (c : Closed N I T M E K W Q) (a0 : State) (a1 : Nat) (a2 : Fld) (a3 : Nat) (ha0 : Kept Q a0) (ha2 : OkFld W a2) : Kept Q (State.putTwo a0 a1 a2 a3) := by
  unfold State.putTwo
  try lift_lets -underBinder
  repeat' with_reducible first
    | assumption | (intro x; refine (fun hx : Kept Q x => ?_) ?_; clear_value x) | (intro x; clear_value x)
    | (intro x; refine (fun hx : Kept Q x => ?_) ?_; rotate_left; unfold x) | (intro x) | apply kept_each c
    | apply kept_w c | apply kept_ite | split | unfold x | lift_lets -underBinder

theorem kept_applyRecord (c : Closed N I T M E K W Q) (hp10 : W 10) (hp11 : W 11) (hp12 : W 12) (hp13 : W 13) (hp15 : W 15) (hp18 : W 18) (hp20 : W 20) (hp21 : W 21) (hp4 : W 4) (hp5 : W 5) (a0 : State) (a1 : List Sys2Proof.Byte) (ha0 : Kept Q a0) : Kept Q (State.applyRecord a0 a1) := by
  unfold State.applyRecord
  try lift_lets -underBinder
  repeat' with_reducible first
    | assumption | (intro x; refine (fun hx : Kept Q x => ?_) ?_; clear_value x) | (intro x; clear_value x)
    | (intro x; refine (fun hx : Kept Q x => ?_) ?_; rotate_left; unfold x) | (intro x)
    | exact ok_lit 4 (by decide) hp4 | exact ok_lit 5 (by decide) hp5 | exact ok_lit 10 (by decide) hp10
    | exact ok_lit 11 (by decide) hp11 | exact ok_lit 12 (by decide) hp12 | exact ok_lit 13 (by decide) hp13
    | exact ok_lit 15 (by decide) hp15 | exact ok_lit 18 (by decide) hp18 | exact ok_lit 20 (by decide) hp20
    | exact ok_lit 21 (by decide) hp21 | apply kept_each c | apply kept_putTwo c | apply kept_w c
    | apply kept_wb c | apply kept_ite | split | unfold x | lift_lets -underBinder

theorem kept_standAlone (c : Closed N I T M E K W Q) (hp12 : W 12) (hp4 : W 4) (hp5 : W 5) (a0 : State) (ha0 : Kept Q a0) : Kept Q (State.standAlone a0) := by
  unfold State.standAlone
  try lift_lets -underBinder
  repeat' with_reducible first
    | assumption | (intro x; refine (fun hx : Kept Q x => ?_) ?_; clear_value x) | (intro x; clear_value x)
    | (intro x; refine (fun hx : Kept Q x => ?_) ?_; rotate_left; unfold x) | (intro x)
    | exact ok_lit 4 (by decide) hp4 | exact ok_lit 5 (by decide) hp5 | exact ok_lit 12 (by decide) hp12
    | apply kept_each c | apply kept_w c | apply kept_ite | split | unfold x | lift_lets -underBinder

theorem kept_recordWatch (c : Closed N I T M E K W Q) (hp1 : W 1) (a0 : State) (a1 : Nat) (a2 : Nat) (a3 : Nat) (ha0 : Kept Q a0) : Kept Q (State.recordWatch a0 a1 a2 a3) := by
  unfold State.recordWatch
  try lift_lets -underBinder
  repeat' with_reducible first
    | assumption | (intro x; refine (fun hx : Kept Q x => ?_) ?_; clear_value x) | (intro x; clear_value x)
    | (intro x; refine (fun hx : Kept Q x => ?_) ?_; rotate_left; unfold x) | (intro x)
    | exact kept_mk (kept_out (by with_reducible assumption)) | exact ok_lit 1 (by decide) hp1
    | apply kept_updRst c | apply kept_w c | apply kept_ite | split | unfold x | lift_lets -underBinder

theorem kept_calInit (c : Closed N I T M E K W Q) (s : State) (h : Kept Q s) : Kept Q s.calInit := by
  refine kept_each c _ _ _ h fun s i hs => ?_
  dsimp only
  exact kept_mk (kept_out (kept_draw c _ _ (kept_draw c _ _ hs)))

theorem kept_enterStep (c : Closed N I T M E K W Q) (hE : E) (hK : K) (hM : M) (hp0 : W 0) (hp1 : W 1) (hp10 : W 10) (hp11 : W 11) (hp12 : W 12) (hp13 : W 13) (hp18 : W 18) (hp2 : W 2) (hp20 : W 20) (hp22 : W 22) (hp3 : W 3) (hp4 : W 4) (hp5 : W 5) (hp6 : W 6) (hp7 : W 7) (hp8 : W 8) (a0 : State) (a1 : Nat) (ha0 : Kept Q a0) : Kept Q (State.enterStep a0 a1) := by
  unfold State.enterStep
  try lift_lets -underBinder
  repeat' first
    | with_reducible assumption | (intro x; refine (fun hx : Kept Q x => ?_) ?_; clear_value x)
    | (intro x; clear_value x) | (intro x; refine (fun hx : Kept Q x => ?_) ?_; rotate_left; unfold x) | (intro x)
    | with_reducible exact kept_mk (kept_out (by with_reducible assumption))
    | with_reducible exact ok_lit 1 (by decide) hp1
    | with_reducible apply kept_acqRestart c hE hp2 hp22 hp3 hp6 hp7 | with_reducible apply kept_calInit c
    | with_reducible apply kept_canApply c hE hM hp18 hp2 hp22 hp3 | with_reducible apply kept_checkOff c hp5 hp6
    | with_reducible apply kept_chnApply c hE hp0 hp2 hp20 hp22 hp3 | with_reducible apply kept_dfbRestart c hp11
    | with_reducible apply kept_each c | with_reducible apply kept_emuApply c hE hp12 hp2 hp22 hp3
    | with_reducible apply kept_excRestart c hp5 hp6 | with_reducible apply kept_geyEnable c hE hp13 hp2 hp22 hp3
    | with_reducible apply kept_lrnRestart c hE hM hp10 hp2 hp22 hp3
    | with_reducible apply kept_obsRestart c hE hp2 hp22 hp3 hp8 | with_reducible apply kept_restartRanges c hp4
    | with_reducible apply kept_showBias c hp4 | with_reducible apply kept_showWake c
    | with_reducible apply kept_updRst c | with_reducible apply kept_updSnt c | with_reducible apply kept_w c
    | exact c.count hK _ _ _ _ (by assumption) | refine c.count hK _ _ _ _ ?_ | with_reducible apply kept_ite
    | split | unfold x | lift_lets -underBinder

theorem kept_optload (c : Closed N I T M E K W Q) (hE : E) (hK : K) (hM : M) (hp0 : W 0) (hp1 : W 1) (hp10 : W 10) (hp11 : W 11) (hp12 : W 12) (hp13 : W 13) (hp15 : W 15) (hp18 : W 18) (hp2 : W 2) (hp20 : W 20) (hp21 : W 21) (hp22 : W 22) (hp3 : W 3) (hp4 : W 4) (hp5 : W 5) (hp6 : W 6) (hp7 : W 7) (hp8 : W 8) (a0 : State) (ha0 : Kept Q a0) : Kept Q (State.optload a0) := by
  unfold State.optload
  try lift_lets -underBinder
  repeat' with_reducible first
    | assumption | (intro x; refine (fun hx : Kept Q x => ?_) ?_; clear_value x) | (intro x; clear_value x)
    | (intro x; refine (fun hx : Kept Q x => ?_) ?_; rotate_left; unfold x) | (intro x)
    | exact kept_mk (kept_out (by with_reducible assumption)) | exact ok_lit 1 (by decide) hp1
    | apply kept_applyRecord c hp10 hp11 hp12 hp13 hp15 hp18 hp20 hp21 hp4 hp5
    | apply kept_enterStep c hE hK hM hp0 hp1 hp10 hp11 hp12 hp13 hp18 hp2 hp20 hp22 hp3 hp4 hp5 hp6 hp7 hp8
    | apply kept_recordWatch c hp1 | apply kept_updHost c | apply kept_updRst c | apply kept_w c | apply kept_ite
    | split | unfold x | lift_lets -underBinder

theorem kept_nvRequest (c : Closed N I T M E K W Q) (hp1 : W 1) (a0 : State) (a1 : Nat) (a2 : State → State) (ha0 : Kept Q a0) (ha2 : ∀ s, Kept Q s → Kept Q (a2 s)) : Kept Q (State.nvRequest a0 a1 a2) := by
  unfold State.nvRequest
  try lift_lets -underBinder
  repeat' with_reducible first
    | assumption | (intro x; refine (fun hx : Kept Q x => ?_) ?_; clear_value x) | (intro x; clear_value x)
    | (intro x; refine (fun hx : Kept Q x => ?_) ?_; rotate_left; unfold x) | (intro x)
    | exact kept_mk (kept_out (by with_reducible assumption)) | exact ok_lit 1 (by decide) hp1 | apply kept_w c
    | apply ha2 | apply kept_ite | split | unfold x | lift_lets -underBinder

theorem kept_nvBoot (c : Closed N I T M E K W Q) (hp1 : W 1) (a0 : State) (ha0 : Kept Q a0) : Kept Q (State.nvBoot a0) := by
  unfold State.nvBoot
  try lift_lets -underBinder
  repeat' with_reducible first
    | assumption | (intro x; refine (fun hx : Kept Q x => ?_) ?_; clear_value x) | (intro x; clear_value x)
    | (intro x; refine (fun hx : Kept Q x => ?_) ?_; rotate_left; unfold x) | (intro x)
    | exact kept_mk (kept_out (by with_reducible assumption)) | exact ok_lit 1 (by decide) hp1
    | apply kept_nvRequest c hp1 | apply kept_updRst c | apply kept_w c | apply kept_ite | split | unfold x
    | lift_lets -underBinder

theorem kept_nvSafe (c : Closed N I T M E K W Q) (hp1 : W 1) (a0 : State) (ha0 : Kept Q a0) : Kept Q (State.nvSafe a0) := by
  unfold State.nvSafe
  try lift_lets -underBinder
  repeat' with_reducible first
    | assumption | (intro x; refine (fun hx : Kept Q x => ?_) ?_; clear_value x) | (intro x; clear_value x)
    | (intro x; refine (fun hx : Kept Q x => ?_) ?_; rotate_left; unfold x) | (intro x)
    | exact kept_mk (kept_out (by with_reducible assumption)) | apply kept_nvRequest c hp1 | apply kept_updRst c
    | apply kept_ite | split | unfold x | lift_lets -underBinder

theorem kept_rstKeyed (c : Closed N I T M E K W Q) (hE : E) (hp1 : W 1) (hp2 : W 2) (hp22 : W 22) (hp3 : W 3) (a0 : State) (a1 : Nat) (a2 : State → State) (ha0 : Kept Q a0) (ha2 : ∀ s, Kept Q s → Kept Q (a2 s)) : Kept Q (State.rstKeyed a0 a1 a2) := by
  unfold State.rstKeyed
  repeat' with_reducible first
    | assumption | apply kept_rstStick c hE hp1 hp2 hp22 hp3 | apply ha2 | apply kept_ite | split

theorem kept_unlessReset (c : Closed N I T M E K W Q) (a0 : State) (a1 : Bool) (a2 : State → State) (ha0 : Kept Q a0) (ha2 : ∀ s, Kept Q s → Kept Q (a2 s)) : Kept Q (State.unlessReset a0 a1 a2) := by
  unfold State.unlessReset
  repeat' with_reducible first
    | assumption | apply ha2 | apply kept_ite | split

theorem kept_rstCommand (c : Closed N I T M E K W Q) (hA : ∀ p, W p) (hE : E) (hI : I) (hK : K) (hM : M) (hN : N) (a0 : State) (a1 : Nat) (ha0 : Kept Q a0) : Kept Q (State.rstCommand a0 a1) := by
  unfold State.rstCommand
  try lift_lets -underBinder
  repeat' with_reducible first
    | assumption | (intro x; refine (fun hx : Kept Q x => ?_) ?_; clear_value x) | (intro x; clear_value x)
    | (intro x; refine (fun hx : Kept Q x => ?_) ?_; rotate_left; unfold x) | (intro x)
    | apply kept_confirm c hE (hA 1) (hA 2) (hA 22) (hA 3) | apply kept_goDormant c hA hE hI hK hN
    | apply kept_leave c hA hE hI hK hN | apply kept_nvBoot c (hA 1) | apply kept_nvSafe c (hA 1)
    | apply kept_optload c hE hK hM (hA 0) (hA 1) (hA 10) (hA 11) (hA 12) (hA 13) (hA 15) (hA 18) (hA 2) (hA 20) (hA 21) (hA 22) (hA 3) (hA 4) (hA 5) (hA 6) (hA 7) (hA 8)
    | apply kept_rstKeyed c hE (hA 1) (hA 2) (hA 22) (hA 3) | apply kept_unlessReset c
    | apply kept_warmAssert c hA hE hI hK hN | apply kept_ite | split | unfold x | lift_lets -underBinder

theorem kept_doNvmWriteDone (c : Closed N I T M E K W Q) (hE : E) (hN : N) (hp1 : W 1) (hp2 : W 2) (hp22 : W 22) (hp3 : W 3) (a0 : Bool) (a1 : State) (ha1 : Kept Q a1) : Kept Q (doNvmWriteDone a0 a1) := by
  unfold doNvmWriteDone
  dsimp only
  repeat' with_reducible first
    | assumption | intro x | exact kept_mk (kept_out (by with_reducible assumption))
    | exact ok_lit 1 (by decide) hp1 | exact ok_lit 22 (by decide) hp22 | apply kept_intStick c hE hp2 hp22 hp3
    | apply kept_mapChange c | apply kept_nvTorn c hN | apply kept_rstStick c hE hp1 hp2 hp22 hp3
    | apply kept_setNvmBytes c hN | apply kept_updSnt c | apply kept_w c | apply kept_ite | split
    | refine kept_mk (kept_out ?_)

theorem kept_wdCfg (c : Closed N I T M E K W Q) (hp1 : W 1) (a0 : State) (a1 : Nat) (ha0 : Kept Q a0) : Kept Q (State.wdCfg a0 a1) := by
  unfold State.wdCfg
  try lift_lets -underBinder
  repeat' with_reducible first
    | assumption | (intro x; refine (fun hx : Kept Q x => ?_) ?_; clear_value x) | (intro x; clear_value x)
    | (intro x; refine (fun hx : Kept Q x => ?_) ?_; rotate_left; unfold x) | (intro x)
    | exact kept_mk (kept_out (by with_reducible assumption)) | exact ok_lit 1 (by decide) hp1
    | apply kept_updRst c | apply kept_w c | apply kept_ite | split | unfold x | lift_lets -underBinder

theorem kept_wdKick (c : Closed N I T M E K W Q) (a0 : State) (a1 : Nat) (ha0 : Kept Q a0) : Kept Q (State.wdKick a0 a1) := by
  unfold State.wdKick
  try lift_lets -underBinder
  repeat' with_reducible first
    | assumption | (intro x; refine (fun hx : Kept Q x => ?_) ?_; clear_value x) | (intro x; clear_value x)
    | (intro x; refine (fun hx : Kept Q x => ?_) ?_; rotate_left; unfold x) | (intro x)
    | exact kept_mk (kept_out (by with_reducible assumption)) | apply kept_updRst c | apply kept_ite | split
    | unfold x | lift_lets -underBinder

theorem kept_doWatchdogExpiry (c : Closed N I T M E K W Q) (hA : ∀ p, W p) (hE : E) (hI : I) (hK : K) (hN : N) (a0 : State) (ha0 : Kept Q a0) : Kept Q (doWatchdogExpiry a0) := by
  unfold doWatchdogExpiry
  try lift_lets -underBinder
  repeat' with_reducible first
    | assumption | (intro x; refine (fun hx : Kept Q x => ?_) ?_; clear_value x) | (intro x; clear_value x)
    | (intro x; refine (fun hx : Kept Q x => ?_) ?_; rotate_left; unfold x) | (intro x)
    | exact kept_mk (kept_out (by with_reducible assumption)) | apply kept_warmAssert c hA hE hI hK hN
    | apply kept_ite | split | unfold x | lift_lets -underBinder

theorem kept_doBringupWatchdogExpiry (c : Closed N I T M E K W Q) (hA : ∀ p, W p) (hE : E) (hI : I) (hK : K) (hN : N) (a0 : State) (ha0 : Kept Q a0) : Kept Q (doBringupWatchdogExpiry a0) := by
  unfold doBringupWatchdogExpiry
  try lift_lets -underBinder
  repeat' with_reducible first
    | assumption | (intro x; refine (fun hx : Kept Q x => ?_) ?_; clear_value x) | (intro x; clear_value x)
    | (intro x; refine (fun hx : Kept Q x => ?_) ?_; rotate_left; unfold x) | (intro x)
    | exact kept_mk (kept_out (by with_reducible assumption)) | apply kept_warmAssert c hA hE hI hK hN
    | apply kept_ite | split | unfold x | lift_lets -underBinder

theorem kept_coreFail (c : Closed N I T M E K W Q) (hA : ∀ p, W p) (hE : E) (hI : I) (hK : K) (hN : N) (a0 : State) (a1 : Bool) (ha0 : Kept Q a0) : Kept Q (State.coreFail a0 a1) := by
  unfold State.coreFail
  try lift_lets -underBinder
  repeat' with_reducible first
    | assumption | (intro x; refine (fun hx : Kept Q x => ?_) ?_; clear_value x) | (intro x; clear_value x)
    | (intro x; refine (fun hx : Kept Q x => ?_) ?_; rotate_left; unfold x) | (intro x)
    | exact kept_mk (kept_out (by with_reducible assumption)) | exact ok_all hA | apply kept_updRst c
    | apply kept_w c | apply kept_warmAssert c hA hE hI hK hN | apply kept_ite | split | unfold x
    | lift_lets -underBinder

theorem kept_doClockFailure (c : Closed N I T M E K W Q) (hA : ∀ p, W p) (hE : E) (hI : I) (hK : K) (hN : N) (a0 : Nat) (a1 : State) (ha1 : Kept Q a1) : Kept Q (doClockFailure a0 a1) := by
  unfold doClockFailure
  try lift_lets -underBinder
  repeat' with_reducible first
    | assumption | (intro x; refine (fun hx : Kept Q x => ?_) ?_; clear_value x) | (intro x; clear_value x)
    | (intro x; refine (fun hx : Kept Q x => ?_) ?_; rotate_left; unfold x) | (intro x)
    | exact kept_mk (kept_out (by with_reducible assumption)) | exact ok_all hA
    | apply kept_coreFail c hA hE hI hK hN | apply kept_linkReset c (hA 0) (hA 2)
    | apply kept_rstStick c hE (hA 1) (hA 2) (hA 22) (hA 3) | apply kept_w c | apply kept_ite | split | unfold x
    | lift_lets -underBinder

theorem kept_doClockQualifyTimeout (c : Closed N I T M E K W Q) (hA : ∀ p, W p) (hE : E) (hI : I) (hK : K) (hN : N) (a0 : State) (ha0 : Kept Q a0) : Kept Q (doClockQualifyTimeout a0) := by
  unfold doClockQualifyTimeout
  try lift_lets -underBinder
  repeat' with_reducible first
    | assumption | (intro x; refine (fun hx : Kept Q x => ?_) ?_; clear_value x) | (intro x; clear_value x)
    | (intro x; refine (fun hx : Kept Q x => ?_) ?_; rotate_left; unfold x) | (intro x)
    | exact kept_mk (kept_out (by with_reducible assumption)) | apply kept_warmAssert c hA hE hI hK hN
    | apply kept_ite | split | unfold x | lift_lets -underBinder

theorem kept_restartTime (c : Closed N I T M E K W Q) (hK : K) (hT : T) (hp1 : W 1) (a0 : State) (ha0 : Kept Q a0) : Kept Q (State.restartTime a0) := by
  unfold State.restartTime
  try lift_lets -underBinder
  repeat' first
    | with_reducible assumption | (intro x; refine (fun hx : Kept Q x => ?_) ?_; clear_value x)
    | (intro x; clear_value x) | (intro x; refine (fun hx : Kept Q x => ?_) ?_; rotate_left; unfold x) | (intro x)
    | with_reducible exact kept_mk (kept_out (by with_reducible assumption))
    | with_reducible exact ok_lit 1 (by decide) hp1 | with_reducible apply kept_updRst c
    | with_reducible apply kept_w c | exact c.count hK _ _ _ _ (c.time hT _ _ (by assumption))
    | with_reducible apply kept_ite | split | unfold x | lift_lets -underBinder

theorem kept_coreQualified (c : Closed N I T M E K W Q) (hK : K) (hT : T) (hp1 : W 1) (a0 : State) (ha0 : Kept Q a0) : Kept Q (State.coreQualified a0) := by
  unfold State.coreQualified
  try lift_lets -underBinder
  repeat' with_reducible first
    | assumption | (intro x; refine (fun hx : Kept Q x => ?_) ?_; clear_value x)
    | (intro x; refine (fun hx : Kept Q x.1 => ?_) ?_; clear_value x) | (intro x; clear_value x)
    | (intro x; refine (fun hx : Kept Q x => ?_) ?_; rotate_left; unfold x) | (intro x)
    | exact ok_lit 1 (by decide) hp1 | apply kept_draw c | refine snd_kept ‹_› ?_ | apply kept_hostRelease c
    | apply kept_restartTime c hK hT hp1 | apply kept_w c | apply kept_ite | split | unfold x
    | lift_lets -underBinder

theorem kept_doClockQualification (c : Closed N I T M E K W Q) (hK : K) (hT : T) (hp1 : W 1) (a0 : Nat) (a1 : State) (ha1 : Kept Q a1) : Kept Q (doClockQualification a0 a1) := by
  unfold doClockQualification
  try lift_lets -underBinder
  repeat' with_reducible first
    | assumption | (intro x; refine (fun hx : Kept Q x => ?_) ?_; clear_value x) | (intro x; clear_value x)
    | (intro x; refine (fun hx : Kept Q x => ?_) ?_; rotate_left; unfold x) | (intro x)
    | exact ok_lit 1 (by decide) hp1 | apply kept_coreQualified c hK hT hp1 | apply kept_w c | apply kept_ite
    | split | unfold x | lift_lets -underBinder

theorem kept_doSupplyWarning (c : Closed N I T M E K W Q) (hE : E) (hp1 : W 1) (hp2 : W 2) (hp22 : W 22) (hp3 : W 3) (a0 : State) (ha0 : Kept Q a0) : Kept Q (doSupplyWarning a0) := by
  unfold doSupplyWarning
  try lift_lets -underBinder
  repeat' with_reducible first
    | assumption | (intro x; refine (fun hx : Kept Q x => ?_) ?_; clear_value x) | (intro x; clear_value x)
    | (intro x; refine (fun hx : Kept Q x => ?_) ?_; rotate_left; unfold x) | (intro x)
    | exact kept_mk (kept_out (by with_reducible assumption)) | apply kept_rstStick c hE hp1 hp2 hp22 hp3
    | apply kept_ite | split | unfold x | lift_lets -underBinder

theorem kept_doPhySupplyFail (c : Closed N I T M E K W Q) (hp0 : W 0) (hp2 : W 2) (a0 : State) (ha0 : Kept Q a0) : Kept Q (doPhySupplyFail a0) := by
  unfold doPhySupplyFail
  try lift_lets -underBinder
  repeat' with_reducible first
    | assumption | (intro x; refine (fun hx : Kept Q x => ?_) ?_; clear_value x) | (intro x; clear_value x)
    | (intro x; refine (fun hx : Kept Q x => ?_) ?_; rotate_left; unfold x) | (intro x)
    | exact kept_mk (kept_out (by with_reducible assumption)) | apply kept_linkReset c hp0 hp2
    | apply kept_updRst c | apply kept_ite | split | unfold x | lift_lets -underBinder

theorem kept_loadBoot (c : Closed N I T M E K W Q) (hE : E) (hp1 : W 1) (hp2 : W 2) (hp22 : W 22) (hp3 : W 3) (a0 : State) (ha0 : Kept Q a0) : Kept Q (State.loadBoot a0) := by
  unfold State.loadBoot
  try lift_lets -underBinder
  repeat' with_reducible first
    | assumption | (intro x; refine (fun hx : Kept Q x => ?_) ?_; clear_value x) | (intro x; clear_value x)
    | (intro x; refine (fun hx : Kept Q x => ?_) ?_; rotate_left; unfold x) | (intro x)
    | exact kept_mk (kept_out (by with_reducible assumption)) | exact ok_lit 1 (by decide) hp1
    | apply kept_rstStick c hE hp1 hp2 hp22 hp3 | apply kept_w c | apply kept_wb c | apply kept_ite | split
    | unfold x | lift_lets -underBinder

theorem kept_chooseRecord (c : Closed N I T M E K W Q) (hA : ∀ p, W p) (hE : E) (hI : I) (hK : K) (hN : N) (a0 : State) (ha0 : Kept Q a0) : Kept Q (State.chooseRecord a0) := by
  unfold State.chooseRecord
  try lift_lets -underBinder
  repeat' with_reducible first
    | assumption | (intro x; refine (fun hx : Kept Q x => ?_) ?_; clear_value x) | (intro x; clear_value x)
    | (intro x; refine (fun hx : Kept Q x => ?_) ?_; rotate_left; unfold x) | (intro x)
    | exact kept_mk (kept_out (by with_reducible assumption)) | exact ok_all hA
    | apply kept_applyRecord c (hA 10) (hA 11) (hA 12) (hA 13) (hA 15) (hA 18) (hA 20) (hA 21) (hA 4) (hA 5)
    | apply kept_each c | apply kept_goDormant c hA hE hI hK hN
    | apply kept_loadBoot c hE (hA 1) (hA 2) (hA 22) (hA 3) | apply kept_recordWatch c (hA 1)
    | apply kept_rstStick c hE (hA 1) (hA 2) (hA 22) (hA 3) | apply kept_standAlone c (hA 12) (hA 4) (hA 5)
    | apply kept_updHost c | apply kept_updRst c | apply kept_w c | apply kept_wb c | apply kept_ite | split
    | unfold x | lift_lets -underBinder

theorem kept_putImage (c : Closed N I T M E K W Q) (hA : ∀ p, W p) (a0 : State) (a1 : List Sys2Proof.Byte) (ha0 : Kept Q a0) : Kept Q (State.putImage a0 a1) := by
  unfold State.putImage
  repeat' with_reducible first
    | assumption | (intro x; refine (fun hx : Kept Q x => ?_) ?_; clear_value x) | (intro x; clear_value x)
    | (intro x; refine (fun hx : Kept Q x => ?_) ?_; rotate_left; unfold x) | (intro x) | exact ok_all hA
    | apply kept_w c | apply foldl_kept | apply foldl_kept1 | apply kept_ite | split | unfold x
    | lift_lets -underBinder

theorem kept_startMonitor (c : Closed N I T M E K W Q) (hA : ∀ p, W p) (hE : E) (hI : I) (s : State) (h : Kept Q s) : Kept Q s.startMonitor := by
  unfold State.startMonitor
  lift_lets -underBinder
  intro x
  have h0 : Kept Q x := h
  clear_value x
  intro torn y
  have h1 : Kept Q y := kept_ite (kept_rstStick c hE (hA 1) (hA 2) (hA 22) (hA 3) _ _ h0) h0
  clear_value y
  intro z
  have h2 : Kept Q z := by
    show Kept Q (ite _ _ _)
    apply kept_ite _ h0
    cases y.safeForce with
    | none => exact kept_rstStick c hE (hA 1) (hA 2) (hA 22) (hA 3) _ _ h1
    | some p =>
      apply kept_ite
      · have h3 := kept_putImage c hA _ p.2 h1
        have h4 : ∀ v : State, Kept Q v → Kept Q (v.takeImage v.pendImage) := fun v hv =>
          kept_takeImage c hE hI (hA 16) (hA 17) (hA 2) (hA 22) (hA 3) _ _ (c.image hI { store v with wait := some v.pendImage } _ rfl (c.hold _ _ hv))
        exact kept_w c _ _ _ _ (ok_all hA) (h4 _ h3)
      · exact kept_rstStick c hE (hA 1) (hA 2) (hA 22) (hA 3) _ _ h1
  clear_value z
  exact kept_smBoth c hE (hA 16) (hA 2) (hA 22) (hA 3) _ (kept_siStart c (hA 16) _ h2)

theorem kept_putCount (c : Closed N I T M E K W Q) (a0 : State) (a1 : Fld) (a2 : Nat) (a3 : Nat) (ha0 : Kept Q a0) (ha1 : OkFld W a1) : Kept Q (State.putCount a0 a1 a2 a3) := by
  unfold State.putCount
  repeat' with_reducible first
    | assumption | exact ok_sat (by assumption) | apply kept_w c

theorem kept_loadMap (c : Closed N I T M E K W Q) (hE : E) (hp2 : W 2) (hp22 : W 22) (hp3 : W 3) (hp5 : W 5) (hp8 : W 8) (a0 : State) (ha0 : Kept Q a0) : Kept Q (State.loadMap a0) := by
  unfold State.loadMap
  try lift_lets -underBinder
  repeat' with_reducible first
    | assumption | (intro x; refine (fun hx : Kept Q x => ?_) ?_; clear_value x)
    | (intro x; refine (fun hx : Kept Q x.1 => ?_) ?_; clear_value x) | (intro x; clear_value x)
    | (intro x; refine (fun hx : Kept Q x => ?_) ?_; rotate_left; unfold x) | (intro x)
    | exact kept_mk (kept_out (by with_reducible assumption)) | exact ok_EXC_LEG_LSTATE hp5
    | exact ok_lit 5 (by decide) hp5 | exact ok_lit 8 (by decide) hp8 | exact ok_lit 22 (by decide) hp22
    | apply kept_each c | apply kept_intStick c hE hp2 hp22 hp3 | apply kept_putCount c | apply kept_updSnt c
    | apply kept_w c | apply foldl_kept | apply foldl_kept1 | apply kept_ite | split | unfold x
    | lift_lets -underBinder

theorem kept_initMemory (c : Closed N I T M E K W Q) (hE : E) (hM : M) (hp2 : W 2) (hp22 : W 22) (hp3 : W 3) (hp5 : W 5) (hp7 : W 7) (hp8 : W 8) (a0 : State) (ha0 : Kept Q a0) : Kept Q (State.initMemory a0) := by
  unfold State.initMemory
  try lift_lets -underBinder
  repeat' with_reducible first
    | assumption | (intro x; refine (fun hx : Kept Q x => ?_) ?_; clear_value x) | (intro x; clear_value x)
    | (intro x; refine (fun hx : Kept Q x => ?_) ?_; rotate_left; unfold x) | (intro x)
    | exact kept_mk (kept_out (by with_reducible assumption)) | exact ok_lit 22 (by decide) hp22
    | apply kept_bump c | apply kept_each c | apply kept_initFilters c hM
    | apply kept_loadMap c hE hp2 hp22 hp3 hp5 hp8 | apply kept_repairRows c hE hp2 hp22 hp3
    | apply kept_showSw c hp22 hp7 | apply kept_updRst c | apply kept_w c | apply kept_zeroSram c hM
    | apply kept_ite | split | unfold x | lift_lets -underBinder

theorem kept_enterDormant (c : Closed N I T M E K W Q) (hE : E) (hp0 : W 0) (hp1 : W 1) (hp16 : W 16) (hp2 : W 2) (hp20 : W 20) (hp22 : W 22) (hp3 : W 3) (a0 : State) (ha0 : Kept Q a0) : Kept Q (State.enterDormant a0) := by
  unfold State.enterDormant
  try lift_lets -underBinder
  repeat' with_reducible first
    | assumption | (intro x; refine (fun hx : Kept Q x => ?_) ?_; clear_value x)
    | (intro x; refine (fun hx : Kept Q x.1 => ?_) ?_; clear_value x) | (intro x; clear_value x)
    | (intro x; refine (fun hx : Kept Q x => ?_) ?_; rotate_left; unfold x) | (intro x)
    | exact kept_mk (kept_out (by with_reducible assumption)) | exact ok_lit 0 (by decide) hp0
    | exact ok_lit 1 (by decide) hp1 | exact ok_lit 20 (by decide) hp20 | apply kept_draw c
    | refine snd_kept ‹_› ?_ | apply kept_hostRelease c | apply kept_rstStick c hE hp1 hp2 hp22 hp3
    | apply kept_smBoth c hE hp16 hp2 hp22 hp3 | apply kept_updRst c | apply kept_w c | apply kept_ite | split
    | unfold x | lift_lets -underBinder

theorem kept_enterRun (c : Closed N I T M E K W Q) (hE : E) (hM : M) (hp0 : W 0) (hp1 : W 1) (hp10 : W 10) (hp12 : W 12) (hp13 : W 13) (hp14 : W 14) (hp15 : W 15) (hp16 : W 16) (hp18 : W 18) (hp2 : W 2) (hp21 : W 21) (hp22 : W 22) (hp3 : W 3) (hp4 : W 4) (hp5 : W 5) (hp6 : W 6) (a0 : State) (ha0 : Kept Q a0) : Kept Q (State.enterRun a0) := by
  unfold State.enterRun
  try lift_lets -underBinder
  repeat' with_reducible first
    | assumption | (intro x; refine (fun hx : Kept Q x => ?_) ?_; clear_value x) | (intro x; clear_value x)
    | (intro x; refine (fun hx : Kept Q x => ?_) ?_; rotate_left; unfold x) | (intro x)
    | exact kept_mk (kept_out (by with_reducible assumption)) | exact ok_lit 0 (by decide) hp0
    | exact ok_lit 1 (by decide) hp1 | apply kept_each c | apply kept_hostRelease c
    | apply kept_rstStick c hE hp1 hp2 hp22 hp3 | apply kept_smBoth c hE hp16 hp2 hp22 hp3
    | apply kept_tmpRecheck c hp15
    | apply kept_twnEnter c hE hM hp0 hp10 hp12 hp13 hp15 hp16 hp18 hp2 hp21 hp22 hp3 hp4 hp5 hp6
    | apply kept_updRst c | apply kept_ventEnable c hp14 | apply kept_w c | apply kept_ite | split | unfold x
    | lift_lets -underBinder

theorem kept_doBringupStepEnd (c : Closed N I T M E K W Q) (hA : ∀ p, W p) (hE : E) (hI : I) (hK : K) (hM : M) (hN : N) (a0 : State) (ha0 : Kept Q a0) : Kept Q (doBringupStepEnd a0) := by
  unfold doBringupStepEnd
  try lift_lets -underBinder
  repeat' with_reducible first
    | assumption | (intro x; refine (fun hx : Kept Q x => ?_) ?_; clear_value x) | (intro x; clear_value x)
    | (intro x; refine (fun hx : Kept Q x => ?_) ?_; rotate_left; unfold x) | (intro x)
    | exact kept_mk (kept_out (by with_reducible assumption)) | apply kept_ashEnable c (hA 22)
    | apply kept_chooseRecord c hA hE hI hK hN
    | apply kept_enterDormant c hE (hA 0) (hA 1) (hA 16) (hA 2) (hA 20) (hA 22) (hA 3)
    | apply kept_enterRun c hE hM (hA 0) (hA 1) (hA 10) (hA 12) (hA 13) (hA 14) (hA 15) (hA 16) (hA 18) (hA 2) (hA 21) (hA 22) (hA 3) (hA 4) (hA 5) (hA 6)
    | apply kept_enterStep c hE hK hM (hA 0) (hA 1) (hA 10) (hA 11) (hA 12) (hA 13) (hA 18) (hA 2) (hA 20) (hA 22) (hA 3) (hA 4) (hA 5) (hA 6) (hA 7) (hA 8)
    | apply kept_hostRelease c | apply kept_initMemory c hE hM (hA 2) (hA 22) (hA 3) (hA 5) (hA 7) (hA 8)
    | apply kept_startMonitor c hA hE hI | apply kept_updRst c | apply kept_ite | split | unfold x
    | lift_lets -underBinder

theorem kept_showBalls (c : Closed N I T M E K W Q) (a0 : State) (ha0 : Kept Q a0) : Kept Q (State.showBalls a0) := by
  unfold State.showBalls
  try lift_lets -underBinder
  repeat' with_reducible first
    | assumption | (intro x; refine (fun hx : Kept Q x => ?_) ?_; clear_value x) | (intro x; clear_value x)
    | (intro x; refine (fun hx : Kept Q x => ?_) ?_; rotate_left; unfold x) | (intro x) | apply kept_emit c
    | apply kept_ite | split | unfold x | lift_lets -underBinder

theorem kept_doTapInstruction (c : Closed N I T M E K W Q) (a0 : Sys2Proof.TapIn) (a1 : State) (ha1 : Kept Q a1) : Kept Q (doTapInstruction a0 a1) := by
  unfold doTapInstruction
  try lift_lets -underBinder
  repeat' with_reducible first
    | assumption | (intro x; refine (fun hx : Kept Q x => ?_) ?_; clear_value x) | (intro x; clear_value x)
    | (intro x; refine (fun hx : Kept Q x => ?_) ?_; rotate_left; unfold x) | (intro x)
    | exact kept_mk (kept_out (by with_reducible assumption)) | apply kept_showBalls c | apply kept_ite | split
    | unfold x | lift_lets -underBinder

theorem kept_doStagedWrite (c : Closed N I T M E K W Q) (hp0 : W 0) (hp2 : W 2) (a0 : Sys2Proof.Src) (a1 : Nat) (a2 : Nat) (a3 : State) (ha3 : Kept Q a3) : Kept Q (doStagedWrite a0 a1 a2 a3) := by
  unfold doStagedWrite
  repeat' with_reducible first
    | assumption | (intro x; refine (fun hx : Kept Q x => ?_) ?_; clear_value x) | (intro x; clear_value x)
    | (intro x; refine (fun hx : Kept Q x => ?_) ?_; rotate_left; unfold x) | (intro x)
    | apply kept_stage c hp0 hp2 | refine fst_kept ‹_› ?_ | apply kept_via c | apply kept_ite | split | unfold x
    | lift_lets -underBinder

theorem kept_portRestart (c : Closed N I T M E K W Q) (hE : E) (hM : M) (hp10 : W 10) (hp11 : W 11) (hp2 : W 2) (hp22 : W 22) (hp3 : W 3) (hp4 : W 4) (hp5 : W 5) (hp6 : W 6) (hp7 : W 7) (hp8 : W 8) (a0 : State) (a1 : Nat) (a2 : Bool) (a3 : Bool) (ha0 : Kept Q a0) : Kept Q (State.portRestart a0 a1 a2 a3) := by
  unfold State.portRestart
  try lift_lets -underBinder
  repeat' with_reducible first
    | assumption | (intro x; refine (fun hx : Kept Q x => ?_) ?_; clear_value x) | (intro x; clear_value x)
    | (intro x; refine (fun hx : Kept Q x => ?_) ?_; rotate_left; unfold x) | (intro x)
    | apply kept_acqRestart c hE hp2 hp22 hp3 hp6 hp7 | apply kept_dfbRestart c hp11
    | apply kept_excRestart c hp5 hp6 | apply kept_farOff c hp5 | apply kept_lrnRestart c hE hM hp10 hp2 hp22 hp3
    | apply kept_obsRestart c hE hp2 hp22 hp3 hp8 | apply kept_restartRanges c hp4 | apply kept_showBias c hp4
    | apply kept_ite | split | unfold x | lift_lets -underBinder

theorem kept_applyReg (c : Closed N I T M E K W Q) (hA : ∀ p, W p) (a0 : State) (a1 : Nat) (a2 : Nat) (ha0 : Kept Q a0) : Kept Q (State.applyReg a0 a1 a2) := by
  unfold State.applyReg
  repeat' with_reducible first
    | assumption | apply kept_writeFields c hA | apply kept_ite | split

theorem kept_freqApplied (c : Closed N I T M E K W Q) (hp5 : W 5) (a0 : State) (a1 : State) (a2 : Nat) (a3 : Bool) (ha0 : Kept Q a0) (ha1 : Kept Q a1) : Kept Q (State.freqApplied a0 a1 a2 a3) := by
  unfold State.freqApplied
  try lift_lets -underBinder
  repeat' with_reducible first
    | assumption | (intro x; refine (fun hx : Kept Q x => ?_) ?_; clear_value x) | (intro x; clear_value x)
    | (intro x; refine (fun hx : Kept Q x => ?_) ?_; rotate_left; unfold x) | (intro x)
    | exact kept_mk (kept_out (by with_reducible assumption)) | apply kept_requestFreq c hp5 | apply kept_updExc c
    | apply kept_ite | split | unfold x | lift_lets -underBinder

theorem kept_rangesApplied (c : Closed N I T M E K W Q) (hp4 : W 4) (a0 : State) (a1 : State) (a2 : Nat) (ha0 : Kept Q a0) (ha1 : Kept Q a1) : Kept Q (State.rangesApplied a0 a1 a2) := by
  unfold State.rangesApplied
  try lift_lets -underBinder
  repeat' with_reducible first
    | assumption | (intro x; refine (fun hx : Kept Q x => ?_) ?_; clear_value x) | (intro x; clear_value x)
    | (intro x; refine (fun hx : Kept Q x => ?_) ?_; rotate_left; unfold x) | (intro x)
    | apply kept_requestRange c hp4 | apply kept_ite | split | unfold x | lift_lets -underBinder

theorem kept_obsApplied (c : Closed N I T M E K W Q) (hE : E) (hp10 : W 10) (hp2 : W 2) (hp22 : W 22) (hp3 : W 3) (hp8 : W 8) (a0 : State) (a1 : State) (a2 : Nat) (a3 : List StagedItem) (ha0 : Kept Q a0) (ha1 : Kept Q a1) : Kept Q (State.obsApplied a0 a1 a2 a3) := by
  unfold State.obsApplied
  try lift_lets -underBinder
  repeat' with_reducible first
    | assumption | (intro x; refine (fun hx : Kept Q x => ?_) ?_; clear_value x) | (intro x; clear_value x)
    | (intro x; refine (fun hx : Kept Q x => ?_) ?_; rotate_left; unfold x) | (intro x)
    | apply kept_gainUpdate c hE hp2 hp22 hp3 hp8 | apply kept_lrnDiscard c hp10 | apply kept_newOrigin c hp8
    | apply kept_ite | split | unfold x | lift_lets -underBinder

theorem kept_lrnApplied (c : Closed N I T M E K W Q) (hE : E) (hM : M) (hp10 : W 10) (hp2 : W 2) (hp22 : W 22) (hp3 : W 3) (a0 : State) (a1 : State) (a2 : Nat) (a3 : List StagedItem) (ha0 : Kept Q a0) (ha1 : Kept Q a1) : Kept Q (State.lrnApplied a0 a1 a2 a3) := by
  unfold State.lrnApplied
  try lift_lets -underBinder
  repeat' with_reducible first
    | assumption | (intro x; refine (fun hx : Kept Q x => ?_) ?_; clear_value x) | (intro x; clear_value x)
    | (intro x; refine (fun hx : Kept Q x => ?_) ?_; rotate_left; unfold x) | (intro x)
    | exact kept_mk (kept_out (by with_reducible assumption)) | apply kept_checkBounds c hE hp10 hp2 hp22 hp3
    | apply kept_clearHarm c hM | apply kept_lrnDiscard c hp10 | apply kept_twinCheck c hE hp10 hp2 hp22 hp3
    | apply kept_updLrn c | apply kept_ite | split | unfold x | lift_lets -underBinder

theorem kept_portApplied (c : Closed N I T M E K W Q) (hE : E) (hM : M) (hp10 : W 10) (hp11 : W 11) (hp2 : W 2) (hp22 : W 22) (hp3 : W 3) (hp4 : W 4) (hp5 : W 5) (hp6 : W 6) (hp7 : W 7) (hp8 : W 8) (a0 : State) (a1 : State) (a2 : Nat) (a3 : List StagedItem) (ha0 : Kept Q a0) (ha1 : Kept Q a1) : Kept Q (State.portApplied a0 a1 a2 a3) := by
  unfold State.portApplied
  try lift_lets -underBinder
  repeat' with_reducible first
    | assumption | (intro x; refine (fun hx : Kept Q x => ?_) ?_; clear_value x) | (intro x; clear_value x)
    | (intro x; refine (fun hx : Kept Q x => ?_) ?_; rotate_left; unfold x) | (intro x)
    | exact kept_mk (kept_out (by with_reducible assumption)) | exact ok_lit 11 (by decide) hp11
    | apply kept_checkDrift c hE hp2 hp22 hp3 hp5 | apply kept_decRestart c hE hp2 hp22 hp3 hp6 hp7
    | apply kept_enableChanged c hp5 hp6 | apply kept_farOff c hp5 | apply kept_freqApplied c hp5
    | apply kept_lrnApplied c hE hM hp10 hp2 hp22 hp3 | apply kept_obsApplied c hE hp10 hp2 hp22 hp3 hp8
    | apply kept_portRestart c hE hM hp10 hp11 hp2 hp22 hp3 hp4 hp5 hp6 hp7 hp8 | apply kept_rangesApplied c hp4
    | apply kept_requestAmp c hp5 | apply kept_showBias c hp4 | apply kept_updExc c | apply kept_w c
    | apply kept_ite | split | unfold x | lift_lets -underBinder

theorem kept_excApplied (c : Closed N I T M E K W Q) (hp5 : W 5) (a0 : State) (a1 : State) (ha0 : Kept Q a0) (ha1 : Kept Q a1) : Kept Q (State.excApplied a0 a1) := by
  unfold State.excApplied
  try lift_lets -underBinder
  repeat' with_reducible first
    | assumption | (intro x; refine (fun hx : Kept Q x => ?_) ?_; clear_value x) | (intro x; clear_value x)
    | (intro x; refine (fun hx : Kept Q x => ?_) ?_; rotate_left; unfold x) | (intro x)
    | exact ok_lit 5 (by decide) hp5 | apply kept_each c | apply kept_freqApplied c hp5 | apply kept_w c
    | apply kept_ite | split | unfold x | lift_lets -underBinder

theorem kept_emuApplied (c : Closed N I T M E K W Q) (hE : E) (hp12 : W 12) (hp2 : W 2) (hp22 : W 22) (hp3 : W 3) (a0 : State) (a1 : State) (ha0 : Kept Q a0) (ha1 : Kept Q a1) : Kept Q (State.emuApplied a0 a1) := by
  unfold State.emuApplied
  repeat' with_reducible first
    | assumption | (intro x; refine (fun hx : Kept Q x => ?_) ?_; clear_value x) | (intro x; clear_value x)
    | (intro x; refine (fun hx : Kept Q x => ?_) ?_; rotate_left; unfold x) | (intro x) | apply kept_each c
    | apply kept_emuApply c hE hp12 hp2 hp22 hp3 | apply kept_showEmu c hp12 | apply kept_ite | split | unfold x
    | lift_lets -underBinder

theorem kept_geyApplied (c : Closed N I T M E K W Q) (hp13 : W 13) (a0 : State) (a1 : State) (ha0 : Kept Q a0) (ha1 : Kept Q a1) : Kept Q (State.geyApplied a0 a1) := by
  unfold State.geyApplied
  try lift_lets -underBinder
  repeat' with_reducible first
    | assumption | (intro x; refine (fun hx : Kept Q x => ?_) ?_; clear_value x) | (intro x; clear_value x)
    | (intro x; refine (fun hx : Kept Q x => ?_) ?_; rotate_left; unfold x) | (intro x)
    | exact kept_mk (kept_out (by with_reducible assumption)) | apply kept_each c | apply kept_emit c
    | apply kept_pwmsApply c hp13 | apply kept_streamDrive c hp13 | apply kept_ite | split | unfold x
    | lift_lets -underBinder

theorem kept_tmpApplied (c : Closed N I T M E K W Q) (hE : E) (hp15 : W 15) (hp2 : W 2) (hp22 : W 22) (hp3 : W 3) (a0 : State) (a1 : State) (ha0 : Kept Q a0) (ha1 : Kept Q a1) : Kept Q (State.tmpApplied a0 a1) := by
  unfold State.tmpApplied
  try lift_lets -underBinder
  repeat' with_reducible first
    | assumption | (intro x; refine (fun hx : Kept Q x => ?_) ?_; clear_value x) | (intro x; clear_value x)
    | (intro x; refine (fun hx : Kept Q x => ?_) ?_; rotate_left; unfold x) | (intro x) | apply kept_each c
    | apply kept_tmpApply c hE hp15 hp2 hp22 hp3 | apply kept_tmpCheck c hE hp15 hp2 hp22 hp3
    | apply kept_tmpRecheck c hp15 | apply kept_ite | split | unfold x | lift_lets -underBinder

theorem kept_applyItem (c : Closed N I T M E K W Q) (hA : ∀ p, W p) (hE : E) (hM : M) (a0 : State) (a1 : StagedItem) (ha0 : Kept Q a0) : Kept Q (State.applyItem a0 a1) := by
  unfold State.applyItem
  try lift_lets -underBinder
  repeat' with_reducible first
    | assumption | (intro x; refine (fun hx : Kept Q x => ?_) ?_; clear_value x) | (intro x; clear_value x)
    | (intro x; refine (fun hx : Kept Q x => ?_) ?_; rotate_left; unfold x) | (intro x) | apply kept_applyReg c hA
    | apply kept_canObjApply c hE hM (hA 18) (hA 2) (hA 22) (hA 3) | apply kept_setSram32 c hM
    | apply kept_wordDone c | apply kept_ite | split | unfold x | lift_lets -underBinder

theorem kept_applyWord (c : Closed N I T M E K W Q) (hE : E) (hM : M) (hp10 : W 10) (hp13 : W 13) (hp18 : W 18) (hp2 : W 2) (hp22 : W 22) (hp3 : W 3) (hp7 : W 7) (a0 : State) (a1 : Nat) (a2 : Nat) (ha0 : Kept Q a0) : Kept Q (State.applyWord a0 a1 a2).1 := by
  unfold State.applyWord
  try lift_lets -underBinder
  repeat' with_reducible first
    | assumption | (intro x; refine (fun hx : Kept Q x => ?_) ?_; clear_value x)
    | (intro x; refine (fun hx : Kept Q x.1 => ?_) ?_; clear_value x) | (intro x; clear_value x)
    | (intro x; refine (fun hx : Kept Q x => ?_) ?_; rotate_left; unfold x) | (intro x)
    | exact ok_lit 7 (by decide) hp7 | exact ok_lit 13 (by decide) hp13
    | apply kept_canDataWrite c hE hM hp18 hp2 hp22 hp3 | refine fst_kept ‹_› ?_
    | apply kept_lrnPut c hE hM hp10 hp2 hp22 hp3 | apply kept_setSram32 c hM
    | apply kept_shadowWrite c hE hM hp13 hp2 hp22 hp3 | apply kept_ventWrite c hM | apply kept_w c
    | apply kept_ite | split | unfold x | lift_lets -underBinder

theorem kept_applyWords (c : Closed N I T M E K W Q) (hE : E) (hM : M) (hp10 : W 10) (hp13 : W 13) (hp18 : W 18) (hp2 : W 2) (hp22 : W 22) (hp3 : W 3) (hp7 : W 7) (a0 : State) (a1 : List StagedItem) (ha0 : Kept Q a0) : Kept Q (State.applyWords a0 a1) := by
  unfold State.applyWords
  try lift_lets -underBinder
  repeat' with_reducible first
    | assumption | (intro x; refine (fun hx : Kept Q x => ?_) ?_; clear_value x)
    | (intro x; refine (fun hx : Kept Q x.1 => ?_) ?_; clear_value x) | (intro x; clear_value x)
    | (intro x; refine (fun hx : Kept Q x => ?_) ?_; rotate_left; unfold x) | (intro x)
    | apply kept_applyWord c hE hM hp10 hp13 hp18 hp2 hp22 hp3 hp7 | refine fst_kept ‹_› ?_
    | apply kept_wordDone c | apply foldl_kept | apply foldl_kept1 | apply kept_ite | split | unfold x
    | lift_lets -underBinder

theorem kept_spareApplied (c : Closed N I T M E K W Q) (hE : E) (hp2 : W 2) (hp22 : W 22) (hp3 : W 3) (hp8 : W 8) (a0 : State) (a1 : State) (a2 : List StagedItem) (ha0 : Kept Q a0) (ha1 : Kept Q a1) : Kept Q (State.spareApplied a0 a1 a2) := by
  unfold State.spareApplied
  try lift_lets -underBinder
  repeat' with_reducible first
    | assumption | (intro x; refine (fun hx : Kept Q x => ?_) ?_; clear_value x) | (intro x; clear_value x)
    | (intro x; refine (fun hx : Kept Q x => ?_) ?_; rotate_left; unfold x) | (intro x)
    | apply kept_gainUpdate c hE hp2 hp22 hp3 hp8 | apply kept_newOrigin c hp8 | apply foldl_kept
    | apply foldl_kept1 | apply kept_ite | split | unfold x | lift_lets -underBinder

theorem kept_applyGroup (c : Closed N I T M E K W Q) (hA : ∀ p, W p) (hE : E) (hM : M) (a0 : State) (a1 : Group) (a2 : List StagedItem) (ha0 : Kept Q a0) : Kept Q (State.applyGroup a0 a1 a2) := by
  unfold State.applyGroup
  try lift_lets -underBinder
  repeat' with_reducible first
    | assumption | (intro x; refine (fun hx : Kept Q x => ?_) ?_; clear_value x) | (intro x; clear_value x)
    | (intro x; refine (fun hx : Kept Q x => ?_) ?_; rotate_left; unfold x) | (intro x)
    | exact kept_mk (kept_out (by with_reducible assumption)) | apply kept_applyItem c hA hE hM
    | apply kept_applyWords c hE hM (hA 10) (hA 13) (hA 18) (hA 2) (hA 22) (hA 3) (hA 7)
    | apply kept_ashEnable c (hA 22) | apply kept_canApply c hE hM (hA 18) (hA 2) (hA 22) (hA 3)
    | apply kept_chnApply c hE (hA 0) (hA 2) (hA 20) (hA 22) (hA 3) | apply kept_each c
    | apply kept_emuApplied c hE (hA 12) (hA 2) (hA 22) (hA 3) | apply kept_excApplied c (hA 5)
    | apply kept_geyApplied c (hA 13)
    | apply kept_portApplied c hE hM (hA 10) (hA 11) (hA 2) (hA 22) (hA 3) (hA 4) (hA 5) (hA 6) (hA 7) (hA 8)
    | apply kept_spareApplied c hE (hA 2) (hA 22) (hA 3) (hA 8)
    | apply kept_tmpApplied c hE (hA 15) (hA 2) (hA 22) (hA 3)
    | apply kept_twnApply c hE hM (hA 0) (hA 10) (hA 12) (hA 13) (hA 15) (hA 16) (hA 18) (hA 2) (hA 21) (hA 22) (hA 3) (hA 4) (hA 5) (hA 6)
    | apply kept_ventEnable c (hA 14) | apply foldl_kept | apply foldl_kept1 | apply kept_ite | split | unfold x
    | lift_lets -underBinder

theorem kept_nextEpoch (c : Closed N I T M E K W Q) (hE : E) (hp0 : W 0) (hp2 : W 2) (hp22 : W 22) (hp3 : W 3) (a0 : State) (ha0 : Kept Q a0) : Kept Q (State.nextEpoch a0) := by
  unfold State.nextEpoch
  try lift_lets -underBinder
  repeat' with_reducible first
    | assumption | (intro x; refine (fun hx : Kept Q x => ?_) ?_; clear_value x) | (intro x; clear_value x)
    | (intro x; refine (fun hx : Kept Q x => ?_) ?_; rotate_left; unfold x) | (intro x)
    | exact ok_lit 0 (by decide) hp0 | apply kept_raiseReg c hE hp2 hp22 hp3 | apply kept_w c | apply kept_ite
    | split | unfold x | lift_lets -underBinder

theorem kept_commitEnds (c : Closed N I T M E K W Q) (hE : E) (hp0 : W 0) (hp2 : W 2) (hp22 : W 22) (hp3 : W 3) (a0 : State) (a1 : Option Nat) (ha0 : Kept Q a0) : Kept Q (State.commitEnds a0 a1) := by
  unfold State.commitEnds
  try lift_lets -underBinder
  repeat' with_reducible first
    | assumption | (intro x; refine (fun hx : Kept Q x => ?_) ?_; clear_value x) | (intro x; clear_value x)
    | (intro x; refine (fun hx : Kept Q x => ?_) ?_; rotate_left; unfold x) | (intro x)
    | exact kept_mk (kept_out (by with_reducible assumption)) | exact ok_lit 0 (by decide) hp0
    | apply kept_commitDone c | apply kept_raiseReg c hE hp2 hp22 hp3 | apply kept_w c | unfold x
    | lift_lets -underBinder

theorem kept_boundary (c : Closed N I T M E K W Q) (hA : ∀ p, W p) (hE : E) (hK : K) (hM : M) (a0 : State) (ha0 : Kept Q a0) : Kept Q (State.boundary a0) := by
  unfold State.boundary
  try lift_lets -underBinder
  repeat' first
    | with_reducible assumption | (intro x; refine (fun hx : Kept Q x => ?_) ?_; clear_value x)
    | (intro x; refine (fun hx : Kept Q x.1 => ?_) ?_; clear_value x) | (intro x; clear_value x)
    | (intro x; refine (fun hx : Kept Q x => ?_) ?_; rotate_left; unfold x) | (intro x)
    | with_reducible exact kept_mk (kept_out (by with_reducible assumption))
    | with_reducible apply kept_applyGroup c hA hE hM
    | with_reducible apply kept_commitEnds c hE (hA 0) (hA 2) (hA 22) (hA 3)
    | with_reducible apply kept_copyGroup c hE hM (hA 13) (hA 2) (hA 22) (hA 3) | with_reducible apply kept_each c
    | with_reducible apply kept_entryApplied c hE (hA 13) (hA 2) (hA 22) (hA 3)
    | with_reducible apply kept_geyEnable c hE (hA 13) (hA 2) (hA 22) (hA 3)
    | with_reducible apply kept_lrnLoad c hE hM (hA 10) (hA 2) (hA 22) (hA 3)
    | with_reducible apply kept_nextEpoch c hE (hA 0) (hA 2) (hA 22) (hA 3)
    | with_reducible apply kept_twnSets c hE hM (hA 10) (hA 2) (hA 22) (hA 3) | with_reducible apply kept_updLrn c
    | with_reducible apply foldl_kept | with_reducible apply foldl_kept1
    | exact c.count hK _ _ _ _ (by assumption) | refine c.count hK _ _ _ _ ?_ | with_reducible apply kept_ite
    | split | unfold x | lift_lets -underBinder | with_reducible refine kept_mk (kept_out ?_)

theorem kept_doEpochBoundary (c : Closed N I T M E K W Q) (hA : ∀ p, W p) (hE : E) (hK : K) (hM : M) (a0 : State) (ha0 : Kept Q a0) : Kept Q (doEpochBoundary a0) := by
  unfold doEpochBoundary
  repeat' with_reducible first
    | assumption | apply kept_boundary c hA hE hK hM | apply kept_ite | split

theorem kept_doStimeWrap (c : Closed N I T M E K W Q) (hE : E) (hK : K) (hp0 : W 0) (hp2 : W 2) (hp22 : W 22) (hp3 : W 3) (s : State) (h : Kept Q s) : Kept Q (doStimeWrap s) := by
  unfold doStimeWrap
  exact kept_ite (kept_raiseReg c hE hp2 hp22 hp3 _ _ _ (kept_setFlags c hp0 _ _ _ (c.count hK (store s) _ _ true h))) h

theorem kept_snapWords (c : Closed N I T M E K W Q) (hM : M) (a0 : State) (a1 : Nat) (a2 : List Nat) (ha0 : Kept Q a0) : Kept Q (State.snapWords a0 a1 a2).1 := by
  unfold State.snapWords
  try lift_lets -underBinder
  repeat' with_reducible first
    | assumption | (intro x; refine (fun hx : Kept Q x => ?_) ?_; clear_value x)
    | (intro x; refine (fun hx : Kept Q x.1 => ?_) ?_; clear_value x) | (intro x; clear_value x)
    | (intro x; refine (fun hx : Kept Q x => ?_) ?_; rotate_left; unfold x) | (intro x) | apply kept_canLatch c hM
    | refine snd_kept ‹_› ?_ | apply kept_ite | split | unfold x | lift_lets -underBinder

theorem kept_busRead (c : Closed N I T M E K W Q) (hM : M) (a0 : State) (a1 : Sys2Proof.Path) (a2 : Nat) (ha0 : Kept Q a0) : Kept Q (State.busRead a0 a1 a2).1 := by
  unfold State.busRead
  try lift_lets -underBinder
  repeat' with_reducible first
    | assumption | (intro x; refine (fun hx : Kept Q x => ?_) ?_; clear_value x)
    | (intro x; refine (fun hx : Kept Q x.1 => ?_) ?_; clear_value x) | (intro x; clear_value x)
    | (intro x; refine (fun hx : Kept Q x => ?_) ?_; rotate_left; unfold x) | (intro x) | apply kept_latch c
    | apply kept_snapWords c hM | refine fst_kept ‹_› ?_ | apply kept_ite | split | unfold x
    | lift_lets -underBinder

theorem kept_readOut (c : Closed N I T M E K W Q) (hM : M) (a0 : State) (a1 : Sys2Proof.Path) (a2 : Nat) (a3 : Nat) (ha0 : Kept Q a0) : Kept Q (State.readOut a0 a1 a2 a3) := by
  unfold State.readOut
  try lift_lets -underBinder
  repeat' with_reducible first
    | assumption | (intro x; refine (fun hx : Kept Q x => ?_) ?_; clear_value x)
    | (intro x; refine (fun hx : Kept Q x.1 => ?_) ?_; clear_value x) | (intro x; clear_value x)
    | (intro x; refine (fun hx : Kept Q x => ?_) ?_; rotate_left; unfold x) | (intro x) | apply kept_busRead c hM
    | refine fst_kept ‹_› ?_ | apply kept_emit c | unfold x | lift_lets -underBinder

theorem kept_safAck (c : Closed N I T M E K W Q) (hE : E) (hp16 : W 16) (hp2 : W 2) (hp22 : W 22) (hp3 : W 3) (a0 : State) (a1 : Nat) (ha0 : Kept Q a0) : Kept Q (State.safAck a0 a1) := by
  unfold State.safAck
  try lift_lets -underBinder
  repeat' with_reducible first
    | assumption | (intro x; refine (fun hx : Kept Q x => ?_) ?_; clear_value x) | (intro x; clear_value x)
    | (intro x; refine (fun hx : Kept Q x => ?_) ?_; rotate_left; unfold x) | (intro x)
    | apply kept_axisAck c hE hp16 hp2 hp22 hp3 | apply kept_devAck c hE hp16 hp2 hp22 hp3
    | apply kept_discAck c hE hp16 hp2 hp22 hp3 | apply kept_ite | split | unfold x | lift_lets -underBinder

theorem kept_keyedPut (c : Closed N I T M E K W Q) (hA : ∀ p, W p) (hE : E) (a0 : State) (a1 : Nat) (a2 : Nat) (ha0 : Kept Q a0) : Kept Q (State.keyedPut a0 a1 a2) := by
  unfold State.keyedPut
  try lift_lets -underBinder
  repeat' with_reducible first
    | assumption | (intro x; refine (fun hx : Kept Q x => ?_) ?_; clear_value x) | (intro x; clear_value x)
    | (intro x; refine (fun hx : Kept Q x => ?_) ?_; rotate_left; unfold x) | (intro x) | exact ok_all hA
    | apply kept_connAck c (hA 17) | apply kept_safAck c hE (hA 16) (hA 2) (hA 22) (hA 3)
    | apply kept_safApply c hE (hA 16) (hA 2) (hA 22) (hA 3) | apply kept_safDiscard c (hA 16) (hA 17)
    | apply kept_w c | apply kept_writeFields c hA | apply kept_ite | split | unfold x | lift_lets -underBinder

theorem kept_keyedWrite (c : Closed N I T M E K W Q) (hA : ∀ p, W p) (hE : E) (a0 : State) (a1 : Sys2Proof.Path) (a2 : Nat) (a3 : Nat) (ha0 : Kept Q a0) : Kept Q (State.keyedWrite a0 a1 a2 a3).1 := by
  unfold State.keyedWrite
  try lift_lets -underBinder
  repeat' with_reducible first
    | assumption | (intro x; refine (fun hx : Kept Q x => ?_) ?_; clear_value x)
    | (intro x; refine (fun hx : Kept Q x.1 => ?_) ?_; clear_value x) | (intro x; clear_value x)
    | (intro x; refine (fun hx : Kept Q x => ?_) ?_; rotate_left; unfold x) | (intro x)
    | apply kept_keyed c hE (hA 16) (hA 2) (hA 22) (hA 3) | refine fst_kept ‹_› ?_ | apply kept_keyedPut c hA hE
    | apply kept_ite | split | unfold x | lift_lets -underBinder

theorem kept_liveTableWrite (c : Closed N I T M E K W Q) (hp0 : W 0) (hp13 : W 13) (hp2 : W 2) (a0 : State) (a1 : Sys2Proof.Path) (a2 : Nat) (ha0 : Kept Q a0) : Kept Q (State.liveTableWrite a0 a1 a2).1 := by
  unfold State.liveTableWrite
  try lift_lets -underBinder
  repeat' with_reducible first
    | assumption | (intro x; refine (fun hx : Kept Q x => ?_) ?_; clear_value x)
    | (intro x; refine (fun hx : Kept Q x.1 => ?_) ?_; clear_value x) | (intro x; clear_value x)
    | (intro x; refine (fun hx : Kept Q x => ?_) ?_; rotate_left; unfold x) | (intro x)
    | exact ok_lit 13 (by decide) hp13 | apply kept_stage c hp0 hp2 | refine fst_kept ‹_› ?_ | apply kept_w c
    | unfold x | lift_lets -underBinder

theorem kept_objectWrite (c : Closed N I T M E K W Q) (hE : E) (hM : M) (hp0 : W 0) (hp18 : W 18) (hp2 : W 2) (hp22 : W 22) (hp3 : W 3) (a0 : State) (a1 : Sys2Proof.Path) (a2 : Nat) (a3 : Nat) (ha0 : Kept Q a0) : Kept Q (State.objectWrite a0 a1 a2 a3).1 := by
  unfold State.objectWrite
  try lift_lets -underBinder
  repeat' with_reducible first
    | assumption | (intro x; refine (fun hx : Kept Q x => ?_) ?_; clear_value x)
    | (intro x; refine (fun hx : Kept Q x.1 => ?_) ?_; clear_value x) | (intro x; clear_value x)
    | (intro x; refine (fun hx : Kept Q x => ?_) ?_; rotate_left; unfold x) | (intro x)
    | exact ok_lit 18 (by decide) hp18 | apply kept_canDataWrite c hE hM hp18 hp2 hp22 hp3
    | refine fst_kept ‹_› ?_ | apply kept_stage c hp0 hp2 | apply kept_w c | apply kept_ite | split | unfold x
    | lift_lets -underBinder

theorem kept_writePlain (c : Closed N I T M E K W Q) (hA : ∀ p, W p) (a0 : State) (a1 : Nat) (a2 : Nat) (ha0 : Kept Q a0) : Kept Q (State.writePlain a0 a1 a2) := by
  unfold State.writePlain
  repeat' with_reducible first
    | assumption | apply kept_writeClear c hA | apply kept_writeFields c hA

theorem kept_writeGlb (c : Closed N I T M E K W Q) (hA : ∀ p, W p) (hE : E) (hI : I) (hK : K) (hM : M) (hN : N) (a0 : State) (a1 : Nat) (a2 : Nat) (ha0 : Kept Q a0) : Kept Q (State.writeGlb a0 a1 a2) := by
  unfold State.writeGlb
  repeat' with_reducible first
    | assumption | exact ok_all hA | apply kept_rstCommand c hA hE hI hK hM hN | apply kept_w c
    | apply kept_wdCfg c (hA 1) | apply kept_wdKick c | apply kept_writePlain c hA | apply kept_ite | split

theorem kept_writeHif (c : Closed N I T M E K W Q) (hA : ∀ p, W p) (hE : E) (a0 : State) (a1 : Sys2Proof.Path) (a2 : Nat) (a3 : Nat) (ha0 : Kept Q a0) : Kept Q (State.writeHif a0 a1 a2 a3) := by
  unfold State.writeHif
  try lift_lets -underBinder
  repeat' with_reducible first
    | assumption | (intro x; refine (fun hx : Kept Q x => ?_) ?_; clear_value x) | (intro x; clear_value x)
    | (intro x; refine (fun hx : Kept Q x => ?_) ?_; rotate_left; unfold x) | (intro x)
    | apply kept_doorbell c hE (hA 2) (hA 22) (hA 3) | apply kept_hbCfg c hA | apply kept_heartbeat c
    | apply kept_ringBase c hA | apply kept_ringCfg c hA hE | apply kept_writePlain c hA | apply kept_ite | split
    | unfold x | lift_lets -underBinder

theorem kept_writePrt (c : Closed N I T M E K W Q) (hA : ∀ p, W p) (hE : E) (hM : M) (a0 : State) (a1 : Nat) (a2 : Nat) (ha0 : Kept Q a0) : Kept Q (State.writePrt a0 a1 a2) := by
  unfold State.writePrt
  try lift_lets -underBinder
  repeat' with_reducible first
    | assumption | (intro x; refine (fun hx : Kept Q x => ?_) ?_; clear_value x) | (intro x; clear_value x)
    | (intro x; refine (fun hx : Kept Q x => ?_) ?_; rotate_left; unfold x) | (intro x) | apply kept_phReacq c
    | apply kept_portRestart c hE hM (hA 10) (hA 11) (hA 2) (hA 22) (hA 3) (hA 4) (hA 5) (hA 6) (hA 7) (hA 8)
    | apply kept_restartDrv c (hA 5) (hA 6) | apply kept_w2wNow c (hA 4) | apply kept_writeClear c hA
    | apply kept_ite | split | unfold x | lift_lets -underBinder

theorem kept_writeAcq (c : Closed N I T M E K W Q) (hA : ∀ p, W p) (hM : M) (a0 : State) (a1 : Nat) (a2 : Nat) (ha0 : Kept Q a0) : Kept Q (State.writeAcq a0 a1 a2) := by
  unfold State.writeAcq
  try lift_lets -underBinder
  repeat' with_reducible first
    | assumption | (intro x; refine (fun hx : Kept Q x => ?_) ?_; clear_value x) | (intro x; clear_value x)
    | (intro x; refine (fun hx : Kept Q x => ?_) ?_; rotate_left; unfold x) | (intro x)
    | apply kept_filterLoad c hM (hA 7) | apply kept_filterSwap c (hA 6) (hA 7) | apply kept_pkClr c (hA 6)
    | apply kept_writeClear c hA | apply kept_writePlain c hA | apply kept_xcClr c | apply kept_ite | split
    | unfold x | lift_lets -underBinder

theorem kept_writeObs (c : Closed N I T M E K W Q) (hA : ∀ p, W p) (a0 : State) (a1 : Nat) (a2 : Nat) (a3 : Nat) (ha0 : Kept Q a0) : Kept Q (State.writeObs a0 a1 a2 a3) := by
  unfold State.writeObs
  try lift_lets -underBinder
  repeat' with_reducible first
    | assumption | (intro x; refine (fun hx : Kept Q x => ?_) ?_; clear_value x) | (intro x; clear_value x)
    | (intro x; refine (fun hx : Kept Q x => ?_) ?_; rotate_left; unfold x) | (intro x)
    | apply kept_obsAcq c (hA 8) | apply kept_obsMset c | apply kept_writePlain c hA | apply kept_ite | split
    | unfold x | lift_lets -underBinder

theorem kept_writeLrn (c : Closed N I T M E K W Q) (hA : ∀ p, W p) (hE : E) (hM : M) (a0 : State) (a1 : Nat) (a2 : Nat) (ha0 : Kept Q a0) : Kept Q (State.writeLrn a0 a1 a2) := by
  unfold State.writeLrn
  try lift_lets -underBinder
  repeat' with_reducible first
    | assumption | (intro x; refine (fun hx : Kept Q x => ?_) ?_; clear_value x) | (intro x; clear_value x)
    | (intro x; refine (fun hx : Kept Q x => ?_) ?_; rotate_left; unfold x) | (intro x)
    | apply kept_clrdeg c (hA 11) | apply kept_learnTableWrite c hE hM (hA 10) (hA 2) (hA 22) (hA 3)
    | apply kept_loadNv c | apply kept_lrnClr c hE hM (hA 10) (hA 2) (hA 22) (hA 3)
    | apply kept_lrnCommit c (hA 10) | apply kept_qclr c (hA 11) | apply kept_writeClear c hA
    | apply kept_writePlain c hA | apply kept_zclr c (hA 11) | apply kept_ite | split | unfold x
    | lift_lets -underBinder

theorem kept_writeEmu (c : Closed N I T M E K W Q) (hA : ∀ p, W p) (hE : E) (hM : M) (a0 : State) (a1 : Nat) (a2 : Nat) (ha0 : Kept Q a0) : Kept Q (State.writeEmu a0 a1 a2) := by
  unfold State.writeEmu
  try lift_lets -underBinder
  repeat' with_reducible first
    | assumption | (intro x; refine (fun hx : Kept Q x => ?_) ?_; clear_value x) | (intro x; clear_value x)
    | (intro x; refine (fun hx : Kept Q x => ?_) ?_; rotate_left; unfold x) | (intro x) | exact ok_all hA
    | apply kept_emuAlign c | apply kept_emuRearm c | apply kept_groupCommand c hE (hA 13) (hA 2) (hA 22) (hA 3)
    | apply kept_shadowData c hE hM (hA 13) (hA 2) (hA 22) (hA 3) | apply kept_w c | apply kept_writeClear c hA
    | apply kept_writePlain c hA | apply kept_ite | split | unfold x | lift_lets -underBinder

theorem kept_writeVnt (c : Closed N I T M E K W Q) (hA : ∀ p, W p) (hE : E) (hM : M) (a0 : State) (a1 : Nat) (a2 : Nat) (ha0 : Kept Q a0) : Kept Q (State.writeVnt a0 a1 a2) := by
  unfold State.writeVnt
  repeat' with_reducible first
    | assumption | apply kept_ventCommand c (hA 14)
    | apply kept_ventHost c hE (hA 13) (hA 14) (hA 2) (hA 22) (hA 3) | apply kept_ventLdata c hM (hA 14)
    | apply kept_writeClear c hA | apply kept_writePlain c hA | apply kept_ite | split

theorem kept_writeSaf (c : Closed N I T M E K W Q) (hA : ∀ p, W p) (hE : E) (hM : M) (a0 : State) (a1 : Sys2Proof.Path) (a2 : Nat) (a3 : Nat) (ha0 : Kept Q a0) : Kept Q (State.writeSaf a0 a1 a2 a3) := by
  unfold State.writeSaf
  repeat' with_reducible first
    | assumption | apply kept_safKey c hE (hA 16) (hA 2) (hA 22) (hA 3)
    | apply kept_safSend c hE hM (hA 16) (hA 17) (hA 18) (hA 2) (hA 22) (hA 3) | apply kept_setCdata c
    | apply kept_writePlain c hA | apply kept_ite | split

theorem kept_writeCan (c : Closed N I T M E K W Q) (hA : ∀ p, W p) (hE : E) (hM : M) (a0 : State) (a1 : Nat) (a2 : Nat) (a3 : Nat) (ha0 : Kept Q a0) : Kept Q (State.writeCan a0 a1 a2 a3) := by
  unfold State.writeCan
  try lift_lets -underBinder
  repeat' with_reducible first
    | assumption | (intro x; refine (fun hx : Kept Q x => ?_) ?_; clear_value x) | (intro x; clear_value x)
    | (intro x; refine (fun hx : Kept Q x => ?_) ?_; rotate_left; unfold x) | (intro x)
    | apply kept_canCmd c hE hM (hA 18) (hA 2) (hA 22) (hA 3)
    | apply kept_canOcmd c hE hM (hA 18) (hA 2) (hA 22) (hA 3) | apply kept_writeClear c hA
    | apply kept_writePlain c hA | apply kept_ite | split | unfold x | lift_lets -underBinder

theorem kept_writeChn (c : Closed N I T M E K W Q) (hA : ∀ p, W p) (hE : E) (a0 : State) (a1 : Nat) (a2 : Nat) (ha0 : Kept Q a0) : Kept Q (State.writeChn a0 a1 a2) := by
  unfold State.writeChn
  repeat' with_reducible first
    | assumption | apply kept_ashCommand c hE (hA 2) (hA 22) (hA 3)
    | apply kept_chnCommand c hE (hA 13) (hA 2) (hA 20) (hA 22) (hA 3) | apply kept_mapCommit c (hA 22)
    | apply kept_rowRequest c hE (hA 2) (hA 22) (hA 3)
    | apply kept_swapCommand c hE (hA 16) (hA 2) (hA 22) (hA 3) (hA 7) | apply kept_twnCommand c (hA 21)
    | apply kept_writeClear c hA | apply kept_writePlain c hA | apply kept_ite | split

theorem kept_writeNow (c : Closed N I T M E K W Q) (hA : ∀ p, W p) (hE : E) (hI : I) (hK : K) (hM : M) (hN : N) (a0 : State) (a1 : Sys2Proof.Path) (a2 : Nat) (a3 : Nat) (ha0 : Kept Q a0) : Kept Q (State.writeNow a0 a1 a2 a3) := by
  unfold State.writeNow
  repeat' with_reducible first
    | assumption | apply kept_writeAcq c hA hM | apply kept_writeCan c hA hE hM | apply kept_writeChn c hA hE
    | apply kept_writeClear c hA | apply kept_writeEmu c hA hE hM | apply kept_writeGlb c hA hE hI hK hM hN
    | apply kept_writeHif c hA hE | apply kept_writeLrn c hA hE hM | apply kept_writeObs c hA
    | apply kept_writePrt c hA hE hM | apply kept_writeSaf c hA hE hM | apply kept_writeVnt c hA hE hM
    | apply kept_ite | split

theorem kept_busWrite (c : Closed N I T M E K W Q) (hA : ∀ p, W p) (hE : E) (hI : I) (hK : K) (hM : M) (hN : N) (a0 : State) (a1 : Sys2Proof.Path) (a2 : Nat) (a3 : Nat) (ha0 : Kept Q a0) : Kept Q (State.busWrite a0 a1 a2 a3).1 := by
  unfold State.busWrite
  try lift_lets -underBinder
  repeat' with_reducible first
    | assumption | (intro x; refine (fun hx : Kept Q x => ?_) ?_; clear_value x)
    | (intro x; refine (fun hx : Kept Q x.1 => ?_) ?_; clear_value x) | (intro x; clear_value x)
    | (intro x; refine (fun hx : Kept Q x => ?_) ?_; rotate_left; unfold x) | (intro x)
    | apply kept_commitWrite c hM (hA 0) (hA 2) | refine fst_kept ‹_› ?_ | apply kept_keyedWrite c hA hE
    | apply kept_liveTableWrite c (hA 0) (hA 13) (hA 2)
    | apply kept_objectWrite c hE hM (hA 0) (hA 18) (hA 2) (hA 22) (hA 3) | apply kept_stage c (hA 0) (hA 2)
    | apply kept_writeNow c hA hE hI hK hM hN | apply kept_ite | split | unfold x | lift_lets -underBinder

theorem kept_bar2Put (c : Closed N I T M E K W Q) (hM : M) (a0 : State) (a1 : Nat) (a2 : Nat) (ha0 : Kept Q a0) : Kept Q (State.bar2Put a0 a1 a2).1 := by
  unfold State.bar2Put
  repeat' with_reducible first
    | assumption | apply kept_setSram32 c hM | apply kept_ite | split

theorem kept_regPairs (c : Closed N I T M E K W Q) (hA : ∀ p, W p) (hE : E) (hI : I) (hK : K) (hM : M) (hN : N) (s : State) (p : Path) (qs : List RegPair) (h : Kept Q s) :
    Kept Q (s.regPairs p qs).1 := by
  induction qs generalizing s with
  | nil => exact h
  | cons q qs ih => exact ih _ (kept_busWrite c hA hE hI hK hM hN _ _ _ _ h)

theorem kept_regwrDesc (c : Closed N I T M E K W Q) (hA : ∀ p, W p) (hE : E) (hI : I) (hK : K) (hM : M) (hN : N) (a0 : State) (a1 : Sys2Proof.Desc) (a2 : List Sys2Proof.RegPair) (ha0 : Kept Q a0) : Kept Q (State.regwrDesc a0 a1 a2).1 := by
  unfold State.regwrDesc
  try lift_lets -underBinder
  repeat' with_reducible first
    | assumption | (intro x; refine (fun hx : Kept Q x => ?_) ?_; clear_value x)
    | (intro x; refine (fun hx : Kept Q x.1 => ?_) ?_; clear_value x) | (intro x; clear_value x)
    | (intro x; refine (fun hx : Kept Q x => ?_) ?_; rotate_left; unfold x) | (intro x)
    | apply kept_regPairs c hA hE hI hK hM hN | refine fst_kept ‹_› ?_ | apply kept_ite | split | unfold x
    | lift_lets -underBinder

theorem kept_regrdDesc (c : Closed N I T M E K W Q) (hM : M) (a0 : State) (a1 : Sys2Proof.Desc) (a2 : Nat) (ha0 : Kept Q a0) : Kept Q (State.regrdDesc a0 a1 a2).1 := by
  unfold State.regrdDesc
  try lift_lets -underBinder
  repeat' with_reducible first
    | assumption | (intro x; refine (fun hx : Kept Q x => ?_) ?_; clear_value x)
    | (intro x; refine (fun hx : Kept Q x.1 => ?_) ?_; clear_value x) | (intro x; clear_value x)
    | (intro x; refine (fun hx : Kept Q x => ?_) ?_; rotate_left; unfold x) | (intro x) | apply kept_busRead c hM
    | refine fst_kept ‹_› ?_ | apply kept_ite | split | unfold x | lift_lets -underBinder

theorem kept_spiReads (c : Closed N I T M E K W Q) (hE : E) (hM : M) (hp2 : W 2) (hp22 : W 22) (hp3 : W 3) (s : State) (b : List Byte) (bar2 : Bool) (base n : Nat) (h : Kept Q s) :
    Kept Q (s.spiReads b bar2 base n).1 := by
  induction n with
  | zero => exact h
  | succ n ih =>
    rw [State.spiReads]
    dsimp only
    split
    · split <;> (split <;> first | exact kept_eccSeen c hE hp2 hp22 hp3 _ _ ih | exact ih)
    · split <;> (split <;> first | exact kept_busRead c hM _ _ _ ih | exact ih)

theorem kept_spiWrites (c : Closed N I T M E K W Q) (hA : ∀ p, W p) (hE : E) (hI : I) (hK : K) (hM : M) (hN : N) (s : State) (b : List Byte) (bar2 : Bool) (base n : Nat) (h : Kept Q s) :
    Kept Q (s.spiWrites b bar2 base n).1 := by
  induction n with
  | zero => exact h
  | succ n ih =>
    rw [State.spiWrites]
    dsimp only
    split
    · exact kept_bar2Put c hM _ _ _ ih
    · exact kept_busWrite c hA hE hI hK hM hN _ _ _ _ ih

theorem kept_spiRun (c : Closed N I T M E K W Q) (hA : ∀ p, W p) (hE : E) (hI : I) (hK : K) (hM : M) (hN : N) (a0 : State) (a1 : List Sys2Proof.Byte) (ha0 : Kept Q a0) : Kept Q (State.spiRun a0 a1).1 := by
  unfold State.spiRun
  try lift_lets -underBinder
  repeat' with_reducible first
    | assumption | (intro x; refine (fun hx : Kept Q x => ?_) ?_; clear_value x)
    | (intro x; refine (fun hx : Kept Q x.1 => ?_) ?_; clear_value x) | (intro x; clear_value x)
    | (intro x; refine (fun hx : Kept Q x => ?_) ?_; rotate_left; unfold x) | (intro x) | exact ok_all hA
    | apply kept_bump c | apply kept_hifStick c hE (hA 2) (hA 22) (hA 3)
    | apply kept_spiReads c hE hM (hA 2) (hA 22) (hA 3) | refine fst_kept ‹_› ?_
    | apply kept_spiWrites c hA hE hI hK hM hN | apply kept_ite | split | unfold x | lift_lets -underBinder

theorem kept_spiFrame (c : Closed N I T M E K W Q) (hA : ∀ p, W p) (hE : E) (hI : I) (hK : K) (hM : M) (hN : N) (a0 : State) (a1 : Bool) (a2 : List Sys2Proof.Byte) (a3 : Nat) (ha0 : Kept Q a0) : Kept Q (State.spiFrame a0 a1 a2 a3) := by
  unfold State.spiFrame
  try lift_lets -underBinder
  repeat' with_reducible first
    | assumption | (intro x; refine (fun hx : Kept Q x => ?_) ?_; clear_value x)
    | (intro x; refine (fun hx : Kept Q x.1 => ?_) ?_; clear_value x) | (intro x; clear_value x)
    | (intro x; refine (fun hx : Kept Q x => ?_) ?_; rotate_left; unfold x) | (intro x)
    | exact kept_mk (kept_out (by with_reducible assumption)) | apply kept_emit c
    | apply kept_spiRun c hA hE hI hK hM hN | refine fst_kept ‹_› ?_ | apply kept_ite | split | unfold x
    | lift_lets -underBinder

theorem kept_doSpiAbort (c : Closed N I T M E K W Q) (hA : ∀ p, W p) (hE : E) (hI : I) (hK : K) (hM : M) (hN : N) (a0 : List Sys2Proof.Byte) (a1 : Nat) (a2 : State) (ha2 : Kept Q a2) : Kept Q (doSpiAbort a0 a1 a2) := by
  unfold doSpiAbort
  try lift_lets -underBinder
  repeat' with_reducible first
    | assumption | (intro x; refine (fun hx : Kept Q x => ?_) ?_; clear_value x) | (intro x; clear_value x)
    | (intro x; refine (fun hx : Kept Q x => ?_) ?_; rotate_left; unfold x) | (intro x)
    | exact kept_mk (kept_out (by with_reducible assumption)) | exact ok_all hA | apply kept_bump c
    | apply kept_hifStick c hE (hA 2) (hA 22) (hA 3) | apply kept_spiRun c hA hE hI hK hM hN
    | refine fst_kept ‹_› ?_ | apply kept_ite | split | unfold x | lift_lets -underBinder

theorem kept_expire (c : Closed N I T M E K W Q) (a0 : State) (a1 : Nat) (a2 : Fld) (a3 : Nat) (ha0 : Kept Q a0) (ha2 : OkFld W a2) : Kept Q (State.expire a0 a1 a2 a3) := by
  unfold State.expire
  repeat' with_reducible first
    | assumption | apply kept_w c

theorem kept_doFreshnessExpiry (c : Closed N I T M E K W Q) (hA : ∀ p, W p) (hM : M) (a0 : Sys2Proof.FreshItem) (a1 : State) (ha1 : Kept Q a1) : Kept Q (doFreshnessExpiry a0 a1) := by
  unfold doFreshnessExpiry
  try lift_lets -underBinder
  repeat' with_reducible first
    | assumption | (intro x; refine (fun hx : Kept Q x => ?_) ?_; clear_value x) | (intro x; clear_value x)
    | (intro x; refine (fun hx : Kept Q x => ?_) ?_; rotate_left; unfold x) | (intro x)
    | exact kept_mk (kept_out (by with_reducible assumption)) | exact ok_all hA | apply kept_expire c
    | apply kept_here c | apply kept_setObjW c hM | apply kept_ite | split | unfold x | lift_lets -underBinder

theorem kept_tick (c : Closed N I T M E K W Q) (hK : K) (hT : T) (a0 : State) (ha0 : Kept Q a0) : Kept Q (State.tick a0) := by
  unfold State.tick
  try lift_lets -underBinder
  repeat' first
    | with_reducible assumption | (intro x; refine (fun hx : Kept Q x => ?_) ?_; clear_value x)
    | (intro x; clear_value x) | (intro x; refine (fun hx : Kept Q x => ?_) ?_; rotate_left; unfold x) | (intro x)
    | with_reducible exact kept_mk (kept_out (by with_reducible assumption))
    | exact c.count hK _ _ _ _ (c.time hT _ _ (by assumption)) | unfold x | lift_lets -underBinder

theorem kept_portSample (c : Closed N I T M E K W Q) (hE : E) (hp11 : W 11) (hp2 : W 2) (hp22 : W 22) (hp3 : W 3) (hp4 : W 4) (hp6 : W 6) (a0 : State) (a1 : Sys2Proof.SampleIn) (a2 : Nat) (ha0 : Kept Q a0) : Kept Q (State.portSample a0 a1 a2) := by
  unfold State.portSample
  try lift_lets -underBinder
  repeat' with_reducible first
    | assumption | (intro x; refine (fun hx : Kept Q x => ?_) ?_; clear_value x) | (intro x; clear_value x)
    | (intro x; refine (fun hx : Kept Q x => ?_) ?_; rotate_left; unfold x) | (intro x)
    | apply kept_acqPush c hE hp2 hp22 hp3 hp4 hp6 | apply kept_dfbSample c hE hp11 hp2 hp22 hp3 hp4
    | apply kept_gapNote c hE hp2 hp22 hp3 hp6 | apply kept_ite | split | unfold x | lift_lets -underBinder

theorem kept_chainSample (c : Closed N I T M E K W Q) (hE : E) (hp2 : W 2) (hp22 : W 22) (hp3 : W 3) (hp6 : W 6) (a0 : State) (a1 : Nat) (ha0 : Kept Q a0) : Kept Q (State.chainSample a0 a1) := by
  unfold State.chainSample
  repeat' with_reducible first
    | assumption | apply kept_acqComb c | apply kept_acqStages c hE hp2 hp22 hp3 hp6 | apply kept_ite | split

theorem kept_lagOf (c : Closed N I T M E K W Q) (a0 : State) (a1 : Sys2Proof.SampleIn) (a2 : Nat) (ha0 : Kept Q a0) : Kept Q (State.lagOf a0 a1 a2) := by
  unfold State.lagOf
  try lift_lets -underBinder
  repeat' with_reducible first
    | assumption | (intro x; refine (fun hx : Kept Q x => ?_) ?_; clear_value x) | (intro x; clear_value x)
    | (intro x; refine (fun hx : Kept Q x => ?_) ?_; rotate_left; unfold x) | (intro x) | apply kept_lagSample c
    | apply kept_ite | split | unfold x | lift_lets -underBinder

theorem kept_engineSample (c : Closed N I T M E K W Q) (hE : E) (hp10 : W 10) (hp2 : W 2) (hp22 : W 22) (hp3 : W 3) (hp8 : W 8) (a0 : State) (a1 : Sys2Proof.SampleIn) (a2 : Nat) (ha0 : Kept Q a0) : Kept Q (State.engineSample a0 a1 a2) := by
  unfold State.engineSample
  try lift_lets -underBinder
  repeat' with_reducible first
    | assumption | (intro x; refine (fun hx : Kept Q x => ?_) ?_; clear_value x) | (intro x; clear_value x)
    | (intro x; refine (fun hx : Kept Q x => ?_) ?_; rotate_left; unfold x) | (intro x)
    | apply kept_lrnSample c hp10 | apply kept_obsSample c hE hp2 hp22 hp3 hp8
    | apply kept_shadowRun c hE hp2 hp22 hp3 hp8 | apply kept_ite | split | unfold x | lift_lets -underBinder

theorem kept_trackNote (c : Closed N I T M E K W Q) (a0 : State) (ha0 : Kept Q a0) : Kept Q (State.trackNote a0) := by
  unfold State.trackNote
  try lift_lets -underBinder
  repeat' with_reducible first
    | assumption | (intro x; refine (fun hx : Kept Q x => ?_) ?_; clear_value x) | (intro x; clear_value x)
    | (intro x; refine (fun hx : Kept Q x => ?_) ?_; rotate_left; unfold x) | (intro x)
    | exact kept_mk (kept_out (by with_reducible assumption)) | apply kept_updRst c | apply kept_ite | split
    | unfold x | lift_lets -underBinder

theorem kept_prune (c : Closed N I T M E K W Q) (a0 : State) (ha0 : Kept Q a0) : Kept Q (State.prune a0) := by
  unfold State.prune
  try lift_lets -underBinder
  repeat' with_reducible first
    | assumption | (intro x; refine (fun hx : Kept Q x => ?_) ?_; clear_value x) | (intro x; clear_value x)
    | (intro x; refine (fun hx : Kept Q x => ?_) ?_; rotate_left; unfold x) | (intro x)
    | exact kept_mk (kept_out (by with_reducible assumption)) | apply kept_ite | split | unfold x
    | lift_lets -underBinder

theorem kept_sampleFront (c : Closed N I T M E K W Q) (hE : E) (hp11 : W 11) (hp2 : W 2) (hp22 : W 22) (hp3 : W 3) (hp4 : W 4) (hp5 : W 5) (hp6 : W 6) (a0 : State) (a1 : Sys2Proof.SampleIn) (ha0 : Kept Q a0) : Kept Q (State.sampleFront a0 a1) := by
  unfold State.sampleFront
  try lift_lets -underBinder
  repeat' with_reducible first
    | assumption | (intro x; refine (fun hx : Kept Q x => ?_) ?_; clear_value x) | (intro x; clear_value x)
    | (intro x; refine (fun hx : Kept Q x => ?_) ?_; rotate_left; unfold x) | (intro x)
    | exact kept_mk (kept_out (by with_reducible assumption)) | apply kept_calSample c
    | apply kept_chainSample c hE hp2 hp22 hp3 hp6 | apply kept_each c
    | apply kept_excSample c hE hp2 hp22 hp3 hp5 hp6 | apply kept_portSample c hE hp11 hp2 hp22 hp3 hp4 hp6
    | apply kept_tmpSample c | apply kept_ventRequests c hp5 | apply kept_ite | split | unfold x
    | lift_lets -underBinder

theorem kept_sampleObserve (c : Closed N I T M E K W Q) (hE : E) (hp10 : W 10) (hp2 : W 2) (hp22 : W 22) (hp3 : W 3) (hp8 : W 8) (a0 : State) (a1 : Sys2Proof.SampleIn) (ha0 : Kept Q a0) : Kept Q (State.sampleObserve a0 a1) := by
  unfold State.sampleObserve
  try lift_lets -underBinder
  repeat' with_reducible first
    | assumption | (intro x; refine (fun hx : Kept Q x => ?_) ?_; clear_value x) | (intro x; clear_value x)
    | (intro x; refine (fun hx : Kept Q x => ?_) ?_; rotate_left; unfold x) | (intro x)
    | apply kept_datapath c hE hp2 hp22 hp3 | apply kept_each c
    | apply kept_engineSample c hE hp10 hp2 hp22 hp3 hp8 | apply kept_ite | split | unfold x
    | lift_lets -underBinder

theorem kept_sampleOut (c : Closed N I T M E K W Q) (hE : E) (hp12 : W 12) (hp13 : W 13) (hp16 : W 16) (hp2 : W 2) (hp22 : W 22) (hp3 : W 3) (a0 : State) (ha0 : Kept Q a0) : Kept Q (State.sampleOut a0) := by
  unfold State.sampleOut
  try lift_lets -underBinder
  repeat' with_reducible first
    | assumption | (intro x; refine (fun hx : Kept Q x => ?_) ?_; clear_value x) | (intro x; clear_value x)
    | (intro x; refine (fun hx : Kept Q x => ?_) ?_; rotate_left; unfold x) | (intro x) | apply kept_each c
    | apply kept_emuSample c hE hp12 hp2 hp22 hp3 | apply kept_geySample c hE hp13 hp2 hp22 hp3
    | apply kept_smSample c hE hp16 hp2 hp22 hp3 | apply kept_streamSample c hE hp13 hp2 hp22 hp3
    | apply kept_ventSample c | unfold x | lift_lets -underBinder

theorem kept_digitalOutput (c : Closed N I T M E K W Q) (hE : E) (hp16 : W 16) (hp2 : W 2) (hp22 : W 22) (hp3 : W 3) (hp9 : W 9) (a0 : State) (a1 : Nat) (ha0 : Kept Q a0) : Kept Q (State.digitalOutput a0 a1) := by
  unfold State.digitalOutput
  repeat' with_reducible first
    | assumption | apply kept_dfbSecond c hE hp2 hp22 hp3 hp9 | apply kept_smOutput c hE hp16 hp2 hp22 hp3
    | apply kept_ite | split

theorem kept_sampleRun (c : Closed N I T M E K W Q) (hE : E) (hK : K) (hT : T) (hp10 : W 10) (hp11 : W 11) (hp12 : W 12) (hp13 : W 13) (hp16 : W 16) (hp2 : W 2) (hp22 : W 22) (hp3 : W 3) (hp4 : W 4) (hp5 : W 5) (hp6 : W 6) (hp8 : W 8) (hp9 : W 9) (a0 : State) (a1 : Sys2Proof.SampleIn) (a2 : Bool) (ha0 : Kept Q a0) : Kept Q (State.sampleRun a0 a1 a2) := by
  unfold State.sampleRun
  try lift_lets -underBinder
  repeat' first
    | with_reducible assumption | (intro x; refine (fun hx : Kept Q x => ?_) ?_; clear_value x)
    | (intro x; clear_value x) | (intro x; refine (fun hx : Kept Q x => ?_) ?_; rotate_left; unfold x) | (intro x)
    | with_reducible exact kept_mk (kept_out (by with_reducible assumption))
    | with_reducible apply kept_digitalOutput c hE hp16 hp2 hp22 hp3 hp9 | with_reducible apply kept_each c
    | with_reducible apply kept_keepObs c | with_reducible apply kept_lagOf c
    | with_reducible apply kept_lrnShow c | with_reducible apply kept_lrnSnapshot c
    | with_reducible apply kept_mirBuild c
    | with_reducible apply kept_sampleFront c hE hp11 hp2 hp22 hp3 hp4 hp5 hp6
    | with_reducible apply kept_sampleObserve c hE hp10 hp2 hp22 hp3 hp8
    | with_reducible apply kept_sampleOut c hE hp12 hp13 hp16 hp2 hp22 hp3
    | with_reducible apply kept_tick c hK hT | with_reducible apply kept_trackNote c
    | with_reducible apply kept_ventPulses c | with_reducible apply kept_ventZero c
    | exact c.count hK _ _ _ _ (by assumption) | refine c.count hK _ _ _ _ ?_ | with_reducible apply kept_ite
    | split | unfold x | lift_lets -underBinder

theorem kept_doSample (c : Closed N I T M E K W Q) (hE : E) (hK : K) (hM : M) (hT : T) (hp0 : W 0) (hp10 : W 10) (hp11 : W 11) (hp12 : W 12) (hp13 : W 13) (hp15 : W 15) (hp16 : W 16) (hp18 : W 18) (hp2 : W 2) (hp21 : W 21) (hp22 : W 22) (hp3 : W 3) (hp4 : W 4) (hp5 : W 5) (hp6 : W 6) (hp8 : W 8) (hp9 : W 9) (a0 : Sys2Proof.SampleIn) (a1 : State) (ha1 : Kept Q a1) : Kept Q (doSample a0 a1) := by
  unfold doSample
  try lift_lets -underBinder
  repeat' with_reducible first
    | assumption | (intro x; refine (fun hx : Kept Q x => ?_) ?_; clear_value x) | (intro x; clear_value x)
    | (intro x; refine (fun hx : Kept Q x => ?_) ?_; rotate_left; unfold x) | (intro x) | apply kept_nvStart c
    | apply kept_prune c
    | apply kept_sampleRun c hE hK hT hp10 hp11 hp12 hp13 hp16 hp2 hp22 hp3 hp4 hp5 hp6 hp8 hp9
    | apply kept_tick c hK hT | apply kept_tokenLevel c hE hp2 hp21 hp22 hp3
    | apply kept_twinTick c hE hM hp0 hp10 hp12 hp13 hp15 hp16 hp18 hp2 hp21 hp22 hp3 hp4 | apply kept_ite | split
    | unfold x | lift_lets -underBinder

theorem kept_doDecimatedOutput (c : Closed N I T M E K W Q) (hE : E) (hp16 : W 16) (hp2 : W 2) (hp22 : W 22) (hp3 : W 3) (hp6 : W 6) (hp7 : W 7) (hp8 : W 8) (hp9 : W 9) (a0 : Nat) (a1 : State) (ha1 : Kept Q a1) : Kept Q (doDecimatedOutput a0 a1) := by
  unfold doDecimatedOutput
  try lift_lets -underBinder
  repeat' with_reducible first
    | assumption | (intro x; refine (fun hx : Kept Q x => ?_) ?_; clear_value x) | (intro x; clear_value x)
    | (intro x; refine (fun hx : Kept Q x => ?_) ?_; rotate_left; unfold x) | (intro x) | apply kept_ashKeep c
    | apply kept_decOutput c hE hp2 hp22 hp3 hp6 hp7 | apply kept_divDecimated c hE hp2 hp22 hp3 hp8 hp9
    | apply kept_smOutput c hE hp16 hp2 hp22 hp3 | apply kept_ite | split | unfold x | lift_lets -underBinder

end Sys2Proof.Laws
end

