-- ==== Sys2Proof/Laws/KeepExec.lean ====
section
/-! SUPPORT. What every command keeps: it answers a next state, and a closed property of the stored contents still holds
of it. `hN`: the command may write NVM; `hI`: it may change the active safety image; `hT`: it may move STIME. -/

set_option linter.all false

namespace Sys2Proof.Laws
open Sys2Proof.Machine

variable {N I T M E K : Prop} {W : Nat → Prop} {Q : Store → Prop}

theorem kept_execRangeChange (c : Closed N I T M E K W Q) (hE : E) (hp2 : W 2) (hp22 : W 22) (hp3 : W 3) (hp4 : W 4) (a0 : Fin 16) (a1 : State) (ha1 : Kept Q a1) :
    ∃ t, execRangeChange a0 a1 = .next t ∧ Kept Q t := by
  refine ⟨_, rfl, ?_⟩
  repeat' with_reducible first
    | assumption | apply kept_doRangeChange c hE hp2 hp22 hp3 hp4 | intro x

theorem kept_execRangeImmediate (c : Closed N I T M E K W Q) (hE : E) (hp2 : W 2) (hp22 : W 22) (hp3 : W 3) (hp4 : W 4) (a0 : Fin 16) (a1 : State) (ha1 : Kept Q a1) :
    ∃ t, execRangeImmediate a0 a1 = .next t ∧ Kept Q t := by
  refine ⟨_, rfl, ?_⟩
  repeat' with_reducible first
    | assumption | apply kept_doRangeImmediate c hE hp2 hp22 hp3 hp4 | intro x

theorem kept_execLeadReading (c : Closed N I T M E K W Q) (hE : E) (hp2 : W 2) (hp22 : W 22) (hp3 : W 3) (hp4 : W 4) (a0 : Fin 16) (a1 : BitVec 16) (a2 : State) (ha2 : Kept Q a2) :
    ∃ t, execLeadReading a0 a1 a2 = .next t ∧ Kept Q t := by
  refine ⟨_, rfl, ?_⟩
  repeat' with_reducible first
    | assumption | apply kept_doLeadReading c hE hp2 hp22 hp3 hp4 | intro x

theorem kept_execWindingTestStart (c : Closed N I T M E K W Q) (hp4 : W 4) (a0 : Fin 16) (a1 : State) (ha1 : Kept Q a1) :
    ∃ t, execWindingTestStart a0 a1 = .next t ∧ Kept Q t := by
  refine ⟨_, rfl, ?_⟩
  repeat' with_reducible first
    | assumption | apply kept_doWindingTestStart c hp4 | intro x

theorem kept_execW2wNow (c : Closed N I T M E K W Q) (hp4 : W 4) (a0 : Sys2Proof.Src) (a1 : Fin 16) (a2 : State) (ha2 : Kept Q a2) :
    ∃ t, execW2wNow a0 a1 a2 = .next t ∧ Kept Q t := by
  refine ⟨_, rfl, ?_⟩
  repeat' with_reducible first
    | assumption | apply kept_via c | apply kept_w2wNow c hp4 | intro x

theorem kept_execWindingTestEnd (c : Closed N I T M E K W Q) (hE : E) (hp2 : W 2) (hp22 : W 22) (hp3 : W 3) (hp4 : W 4) (a0 : Fin 16) (a1 : State) (ha1 : Kept Q a1) :
    ∃ t, execWindingTestEnd a0 a1 = .next t ∧ Kept Q t := by
  refine ⟨_, rfl, ?_⟩
  repeat' with_reducible first
    | assumption | apply kept_doWindingTestEnd c hE hp2 hp22 hp3 hp4 | intro x

theorem kept_execClampConduct (c : Closed N I T M E K W Q) (hE : E) (hp2 : W 2) (hp22 : W 22) (hp3 : W 3) (hp4 : W 4) (a0 : Fin 16) (a1 : BitVec 6) (a2 : State) (ha2 : Kept Q a2) :
    ∃ t, execClampConduct a0 a1 a2 = .next t ∧ Kept Q t := by
  refine ⟨_, rfl, ?_⟩
  repeat' with_reducible first
    | assumption | apply kept_doClampConduct c hE hp2 hp22 hp3 hp4 | intro x

theorem kept_execSoftStartBegin (c : Closed N I T M E K W Q) (a0 : Fin 16) (a1 : State) (ha1 : Kept Q a1) :
    ∃ t, execSoftStartBegin a0 a1 = .next t ∧ Kept Q t := by
  refine ⟨_, rfl, ?_⟩
  repeat' with_reducible first
    | assumption | apply kept_doSoftStartBegin c | intro x

theorem kept_execSoftStartEnd (c : Closed N I T M E K W Q) (hE : E) (hp2 : W 2) (hp22 : W 22) (hp3 : W 3) (hp5 : W 5) (hp6 : W 6) (a0 : Fin 16) (a1 : State) (ha1 : Kept Q a1) :
    ∃ t, execSoftStartEnd a0 a1 = .next t ∧ Kept Q t := by
  refine ⟨_, rfl, ?_⟩
  repeat' with_reducible first
    | assumption | apply kept_doSoftStartEnd c hE hp2 hp22 hp3 hp5 hp6 | intro x

theorem kept_execStopBegin (c : Closed N I T M E K W Q) (a0 : Fin 16) (a1 : State) (ha1 : Kept Q a1) :
    ∃ t, execStopBegin a0 a1 = .next t ∧ Kept Q t := by
  refine ⟨_, rfl, ?_⟩
  repeat' with_reducible first
    | assumption | apply kept_doStopBegin c | intro x

theorem kept_execStopEnd (c : Closed N I T M E K W Q) (hp5 : W 5) (hp6 : W 6) (a0 : Fin 16) (a1 : State) (ha1 : Kept Q a1) :
    ∃ t, execStopEnd a0 a1 = .next t ∧ Kept Q t := by
  refine ⟨_, rfl, ?_⟩
  repeat' with_reducible first
    | assumption | apply kept_doStopEnd c hp5 hp6 | intro x

theorem kept_execFrequencyChangeStart (c : Closed N I T M E K W Q) (hE : E) (hp2 : W 2) (hp22 : W 22) (hp3 : W 3) (hp5 : W 5) (hp6 : W 6) (a0 : Fin 16) (a1 : State) (ha1 : Kept Q a1) :
    ∃ t, execFrequencyChangeStart a0 a1 = .next t ∧ Kept Q t := by
  refine ⟨_, rfl, ?_⟩
  repeat' with_reducible first
    | assumption | apply kept_doFrequencyChangeStart c hE hp2 hp22 hp3 hp5 hp6 | intro x

theorem kept_execAmplitudeChangeStart (c : Closed N I T M E K W Q) (hE : E) (hp2 : W 2) (hp22 : W 22) (hp3 : W 3) (hp5 : W 5) (hp6 : W 6) (a0 : Fin 16) (a1 : State) (ha1 : Kept Q a1) :
    ∃ t, execAmplitudeChangeStart a0 a1 = .next t ∧ Kept Q t := by
  refine ⟨_, rfl, ?_⟩
  repeat' with_reducible first
    | assumption | apply kept_doAmplitudeChangeStart c hE hp2 hp22 hp3 hp5 hp6 | intro x

theorem kept_execChangeWindowEnd (c : Closed N I T M E K W Q) (hp5 : W 5) (hp6 : W 6) (a0 : Fin 16) (a1 : State) (ha1 : Kept Q a1) :
    ∃ t, execChangeWindowEnd a0 a1 = .next t ∧ Kept Q t := by
  refine ⟨_, rfl, ?_⟩
  repeat' with_reducible first
    | assumption | apply kept_doChangeWindowEnd c hp5 hp6 | intro x

theorem kept_execPhReacq (c : Closed N I T M E K W Q) (a0 : Sys2Proof.Src) (a1 : Fin 16) (a2 : State) (ha2 : Kept Q a2) :
    ∃ t, execPhReacq a0 a1 a2 = .next t ∧ Kept Q t := by
  refine ⟨_, rfl, ?_⟩
  repeat' with_reducible first
    | assumption | apply kept_phReacq c | apply kept_via c | intro x

theorem kept_execPhReacqDone (c : Closed N I T M E K W Q) (hE : E) (hp2 : W 2) (hp22 : W 22) (hp3 : W 3) (hp5 : W 5) (a0 : Fin 16) (a1 : State) (ha1 : Kept Q a1) :
    ∃ t, execPhReacqDone a0 a1 = .next t ∧ Kept Q t := by
  refine ⟨_, rfl, ?_⟩
  repeat' with_reducible first
    | assumption | apply kept_doPhReacqDone c hE hp2 hp22 hp3 hp5 | intro x

theorem kept_execPhEstStale (c : Closed N I T M E K W Q) (a0 : Fin 16) (a1 : State) (ha1 : Kept Q a1) :
    ∃ t, execPhEstStale a0 a1 = .next t ∧ Kept Q t := by
  refine ⟨_, rfl, ?_⟩
  repeat' with_reducible first
    | assumption | apply kept_doPhEstStale c | intro x

theorem kept_execCurrentLimit (c : Closed N I T M E K W Q) (hp5 : W 5) (a0 : Sys2Proof.LimitIn) (a1 : State) (ha1 : Kept Q a1) :
    ∃ t, execCurrentLimit a0 a1 = .next t ∧ Kept Q t := by
  refine ⟨_, rfl, ?_⟩
  repeat' with_reducible first
    | assumption | apply kept_doCurrentLimit c hp5 | intro x

theorem kept_execDriverTempMeasure (c : Closed N I T M E K W Q) (hE : E) (hp2 : W 2) (hp22 : W 22) (hp3 : W 3) (hp5 : W 5) (hp6 : W 6) (a0 : Fin 16) (a1 : BitVec 16) (a2 : State) (ha2 : Kept Q a2) :
    ∃ t, execDriverTempMeasure a0 a1 a2 = .next t ∧ Kept Q t := by
  refine ⟨_, rfl, ?_⟩
  repeat' with_reducible first
    | assumption | apply kept_doDriverTempMeasure c hE hp2 hp22 hp3 hp5 hp6 | intro x

theorem kept_execVexcMeasure (c : Closed N I T M E K W Q) (hE : E) (hp2 : W 2) (hp22 : W 22) (hp3 : W 3) (hp5 : W 5) (a0 : BitVec 16) (a1 : State) (ha1 : Kept Q a1) :
    ∃ t, execVexcMeasure a0 a1 = .next t ∧ Kept Q t := by
  refine ⟨_, rfl, ?_⟩
  repeat' with_reducible first
    | assumption | apply kept_doVexcMeasure c hE hp2 hp22 hp3 hp5 | intro x

theorem kept_execRestartDrv (c : Closed N I T M E K W Q) (hp5 : W 5) (hp6 : W 6) (a0 : Sys2Proof.Src) (a1 : Fin 16) (a2 : State) (ha2 : Kept Q a2) :
    ∃ t, execRestartDrv a0 a1 a2 = .next t ∧ Kept Q t := by
  refine ⟨_, rfl, ?_⟩
  repeat' with_reducible first
    | assumption | apply kept_restartDrv c hp5 hp6 | apply kept_via c | intro x

theorem kept_execFilterLoad (c : Closed N I T M E K W Q) (hM : M) (hp7 : W 7) (a0 : Sys2Proof.Src) (a1 : Sys2Proof.Word) (a2 : State) (ha2 : Kept Q a2) :
    ∃ t, execFilterLoad a0 a1 a2 = .next t ∧ Kept Q t := by
  refine ⟨_, rfl, ?_⟩
  repeat' with_reducible first
    | assumption | apply kept_filterLoad c hM hp7 | apply kept_via c | intro x

theorem kept_execFilterSwap (c : Closed N I T M E K W Q) (hp6 : W 6) (hp7 : W 7) (a0 : Sys2Proof.Src) (a1 : Sys2Proof.Word) (a2 : State) (ha2 : Kept Q a2) :
    ∃ t, execFilterSwap a0 a1 a2 = .next t ∧ Kept Q t := by
  refine ⟨_, rfl, ?_⟩
  repeat' with_reducible first
    | assumption | apply kept_filterSwap c hp6 hp7 | apply kept_via c | intro x

theorem kept_execCarrierPeriodEnd (c : Closed N I T M E K W Q) (hE : E) (hp2 : W 2) (hp22 : W 22) (hp3 : W 3) (hp4 : W 4) (hp5 : W 5) (hp6 : W 6) (a0 : Fin 16) (a1 : Sys2Proof.PeriodIn) (a2 : State) (ha2 : Kept Q a2) :
    ∃ t, execCarrierPeriodEnd a0 a1 a2 = .next t ∧ Kept Q t := by
  refine ⟨_, rfl, ?_⟩
  repeat' with_reducible first
    | assumption | apply kept_doCarrierPeriodEnd c hE hp2 hp22 hp3 hp4 hp5 hp6 | intro x

theorem kept_execPkClr (c : Closed N I T M E K W Q) (hp6 : W 6) (a0 : Sys2Proof.Src) (a1 : Fin 16) (a2 : State) (ha2 : Kept Q a2) :
    ∃ t, execPkClr a0 a1 a2 = .next t ∧ Kept Q t := by
  refine ⟨_, rfl, ?_⟩
  repeat' with_reducible first
    | assumption | apply kept_pkClr c hp6 | apply kept_via c | intro x

theorem kept_execXcClr (c : Closed N I T M E K W Q) (a0 : Sys2Proof.Src) (a1 : Fin 16) (a2 : State) (ha2 : Kept Q a2) :
    ∃ t, execXcClr a0 a1 a2 = .next t ∧ Kept Q t := by
  refine ⟨_, rfl, ?_⟩
  repeat' with_reducible first
    | assumption | apply kept_via c | apply kept_xcClr c | intro x

theorem kept_execCoastTimeout (c : Closed N I T M E K W Q) (hE : E) (hp2 : W 2) (hp22 : W 22) (hp3 : W 3) (hp8 : W 8) (a0 : Fin 18) (a1 : State) (ha1 : Kept Q a1) :
    ∃ t, execCoastTimeout a0 a1 = .next t ∧ Kept Q t := by
  refine ⟨_, rfl, ?_⟩
  repeat' with_reducible first
    | assumption | apply kept_doCoastTimeout c hE hp2 hp22 hp3 hp8 | intro x

theorem kept_execLockDeclare (c : Closed N I T M E K W Q) (hp8 : W 8) (a0 : Fin 18) (a1 : State) (ha1 : Kept Q a1) :
    ∃ t, execLockDeclare a0 a1 = .next t ∧ Kept Q t := by
  refine ⟨_, rfl, ?_⟩
  repeat' with_reducible first
    | assumption | apply kept_doLockDeclare c hp8 | intro x

theorem kept_execLotError (c : Closed N I T M E K W Q) (hE : E) (hp2 : W 2) (hp22 : W 22) (hp3 : W 3) (hp8 : W 8) (a0 : Fin 18) (a1 : State) (ha1 : Kept Q a1) :
    ∃ t, execLotError a0 a1 = .next t ∧ Kept Q t := by
  refine ⟨_, rfl, ?_⟩
  repeat' with_reducible first
    | assumption | apply kept_doLotError c hE hp2 hp22 hp3 hp8 | intro x

theorem kept_execReacquisition (c : Closed N I T M E K W Q) (hp8 : W 8) (a0 : Fin 18) (a1 : State) (ha1 : Kept Q a1) :
    ∃ t, execReacquisition a0 a1 = .next t ∧ Kept Q t := by
  refine ⟨_, rfl, ?_⟩
  repeat' with_reducible first
    | assumption | apply kept_doReacquisition c hp8 | intro x

theorem kept_execObsAcq (c : Closed N I T M E K W Q) (hp8 : W 8) (a0 : Sys2Proof.Src) (a1 : Fin 18) (a2 : State) (ha2 : Kept Q a2) :
    ∃ t, execObsAcq a0 a1 a2 = .next t ∧ Kept Q t := by
  refine ⟨_, rfl, ?_⟩
  repeat' with_reducible first
    | assumption | apply kept_obsAcq c hp8 | apply kept_via c | intro x

theorem kept_execMset (c : Closed N I T M E K W Q) (a0 : Sys2Proof.Src) (a1 : Fin 18) (a2 : BitVec 8) (a3 : State) (ha3 : Kept Q a3) :
    ∃ t, execMset a0 a1 a2 a3 = .next t ∧ Kept Q t := by
  refine ⟨_, rfl, ?_⟩
  repeat' with_reducible first
    | assumption | apply kept_obsMset c | apply kept_via c | intro x

theorem kept_execDiverge (c : Closed N I T M E K W Q) (hE : E) (hp2 : W 2) (hp22 : W 22) (hp3 : W 3) (hp9 : W 9) (a0 : Fin 16) (a1 : State) (ha1 : Kept Q a1) :
    ∃ t, execDiverge a0 a1 = .next t ∧ Kept Q t := by
  refine ⟨_, rfl, ?_⟩
  repeat' with_reducible first
    | assumption | apply kept_doDiverge c hE hp2 hp22 hp3 hp9 | intro x

theorem kept_execLearningCycleEnd (c : Closed N I T M E K W Q) (hE : E) (hM : M) (hp10 : W 10) (hp2 : W 2) (hp22 : W 22) (hp3 : W 3) (a0 : Fin 16) (a1 : State) (ha1 : Kept Q a1) :
    ∃ t, execLearningCycleEnd a0 a1 = .next t ∧ Kept Q t := by
  refine ⟨_, rfl, ?_⟩
  repeat' with_reducible first
    | assumption | apply kept_doLearningCycleEnd c hE hM hp10 hp2 hp22 hp3 | intro x

theorem kept_execApplyUpdate (c : Closed N I T M E K W Q) (hM : M) (a0 : Fin 16) (a1 : State) (ha1 : Kept Q a1) :
    ∃ t, execApplyUpdate a0 a1 = .next t ∧ Kept Q t := by
  refine ⟨_, rfl, ?_⟩
  repeat' with_reducible first
    | assumption | apply kept_doApplyUpdate c hM | intro x

theorem kept_execLearnTableWrite (c : Closed N I T M E K W Q) (hE : E) (hM : M) (hp10 : W 10) (hp2 : W 2) (hp22 : W 22) (hp3 : W 3) (a0 : Sys2Proof.Src) (a1 : Sys2Proof.Word) (a2 : State) (ha2 : Kept Q a2) :
    ∃ t, execLearnTableWrite a0 a1 a2 = .next t ∧ Kept Q t := by
  refine ⟨_, rfl, ?_⟩
  repeat' with_reducible first
    | assumption | apply kept_learnTableWrite c hE hM hp10 hp2 hp22 hp3 | apply kept_via c | intro x

theorem kept_execLrnClr (c : Closed N I T M E K W Q) (hE : E) (hM : M) (hp10 : W 10) (hp2 : W 2) (hp22 : W 22) (hp3 : W 3) (a0 : Sys2Proof.Src) (a1 : Fin 16) (a2 : State) (ha2 : Kept Q a2) :
    ∃ t, execLrnClr a0 a1 a2 = .next t ∧ Kept Q t := by
  refine ⟨_, rfl, ?_⟩
  repeat' with_reducible first
    | assumption | apply kept_lrnClr c hE hM hp10 hp2 hp22 hp3 | apply kept_via c | intro x

theorem kept_execLoadNv (c : Closed N I T M E K W Q) (a0 : Sys2Proof.Src) (a1 : Fin 16) (a2 : State) (ha2 : Kept Q a2) :
    ∃ t, execLoadNv a0 a1 a2 = .next t ∧ Kept Q t := by
  refine ⟨_, rfl, ?_⟩
  repeat' with_reducible first
    | assumption | apply kept_loadNv c | apply kept_via c | intro x

theorem kept_execLrnNvCommit (c : Closed N I T M E K W Q) (hp10 : W 10) (a0 : Sys2Proof.Src) (a1 : BitVec 16) (a2 : State) (ha2 : Kept Q a2) :
    ∃ t, execLrnNvCommit a0 a1 a2 = .next t ∧ Kept Q t := by
  refine ⟨_, rfl, ?_⟩
  repeat' with_reducible first
    | assumption | apply kept_lrnCommit c hp10 | apply kept_via c | intro x

theorem kept_execLrnNvWriteDone (c : Closed N I T M E K W Q) (hE : E) (hN : N) (hp10 : W 10) (hp2 : W 2) (hp22 : W 22) (hp3 : W 3) (a0 : Bool) (a1 : State) (ha1 : Kept Q a1) :
    ∃ t, execLrnNvWriteDone a0 a1 = .next t ∧ Kept Q t := by
  refine ⟨_, rfl, ?_⟩
  repeat' with_reducible first
    | assumption | apply kept_doLrnNvWriteDone c hE hN hp10 hp2 hp22 hp3 | intro x

theorem kept_execQuadratureEdge (c : Closed N I T M E K W Q) (hE : E) (hp11 : W 11) (hp2 : W 2) (hp22 : W 22) (hp3 : W 3) (a0 : Fin 16) (a1 : Sys2Proof.EdgeIn) (a2 : State) (ha2 : Kept Q a2) :
    ∃ t, execQuadratureEdge a0 a1 a2 = .next t ∧ Kept Q t := by
  refine ⟨_, rfl, ?_⟩
  repeat' with_reducible first
    | assumption | apply kept_doQuadratureEdge c hE hp11 hp2 hp22 hp3 | intro x

theorem kept_execQuadratureLoss (c : Closed N I T M E K W Q) (hE : E) (hp11 : W 11) (hp2 : W 2) (hp22 : W 22) (hp3 : W 3) (hp8 : W 8) (a0 : Fin 16) (a1 : State) (ha1 : Kept Q a1) :
    ∃ t, execQuadratureLoss a0 a1 = .next t ∧ Kept Q t := by
  refine ⟨_, rfl, ?_⟩
  repeat' with_reducible first
    | assumption | apply kept_doQuadratureLoss c hE hp11 hp2 hp22 hp3 hp8 | intro x

theorem kept_execIllWindowEnd (c : Closed N I T M E K W Q) (hp11 : W 11) (a0 : Fin 16) (a1 : State) (ha1 : Kept Q a1) :
    ∃ t, execIllWindowEnd a0 a1 = .next t ∧ Kept Q t := by
  refine ⟨_, rfl, ?_⟩
  repeat' with_reducible first
    | assumption | apply kept_doIllWindowEnd c hp11 | intro x

theorem kept_execIndex (c : Closed N I T M E K W Q) (hE : E) (hp11 : W 11) (hp2 : W 2) (hp22 : W 22) (hp3 : W 3) (a0 : Fin 16) (a1 : Sys2Proof.EdgeIn) (a2 : State) (ha2 : Kept Q a2) :
    ∃ t, execIndex a0 a1 a2 = .next t ∧ Kept Q t := by
  refine ⟨_, rfl, ?_⟩
  repeat' with_reducible first
    | assumption | apply kept_doIndex c hE hp11 hp2 hp22 hp3 | intro x

theorem kept_execZclr (c : Closed N I T M E K W Q) (hp11 : W 11) (a0 : Sys2Proof.Src) (a1 : Fin 16) (a2 : State) (ha2 : Kept Q a2) :
    ∃ t, execZclr a0 a1 a2 = .next t ∧ Kept Q t := by
  refine ⟨_, rfl, ?_⟩
  repeat' with_reducible first
    | assumption | apply kept_via c | apply kept_zclr c hp11 | intro x

theorem kept_execClrdeg (c : Closed N I T M E K W Q) (hp11 : W 11) (a0 : Sys2Proof.Src) (a1 : Fin 16) (a2 : State) (ha2 : Kept Q a2) :
    ∃ t, execClrdeg a0 a1 a2 = .next t ∧ Kept Q t := by
  refine ⟨_, rfl, ?_⟩
  repeat' with_reducible first
    | assumption | apply kept_clrdeg c hp11 | apply kept_via c | intro x

theorem kept_execQclr (c : Closed N I T M E K W Q) (hp11 : W 11) (a0 : Sys2Proof.Src) (a1 : Fin 16) (a2 : State) (ha2 : Kept Q a2) :
    ∃ t, execQclr a0 a1 a2 = .next t ∧ Kept Q t := by
  refine ⟨_, rfl, ?_⟩
  repeat' with_reducible first
    | assumption | apply kept_qclr c hp11 | apply kept_via c | intro x

theorem kept_execHallEdge (c : Closed N I T M E K W Q) (hE : E) (hp11 : W 11) (hp2 : W 2) (hp22 : W 22) (hp3 : W 3) (a0 : Fin 16) (a1 : Sys2Proof.HallIn) (a2 : State) (ha2 : Kept Q a2) :
    ∃ t, execHallEdge a0 a1 a2 = .next t ∧ Kept Q t := by
  refine ⟨_, rfl, ?_⟩
  repeat' with_reducible first
    | assumption | apply kept_doHallEdge c hE hp11 hp2 hp22 hp3 | intro x

theorem kept_execFrameRequest (c : Closed N I T M E K W Q) (hE : E) (hp11 : W 11) (hp2 : W 2) (hp22 : W 22) (hp3 : W 3) (a0 : Fin 16) (a1 : Bool) (a2 : Nat) (a3 : State) (ha3 : Kept Q a3) :
    ∃ t, execFrameRequest a0 a1 a2 a3 = .next t ∧ Kept Q t := by
  refine ⟨_, rfl, ?_⟩
  repeat' with_reducible first
    | assumption | apply kept_doFrameRequest c hE hp11 hp2 hp22 hp3 | intro x

theorem kept_execFrameEnd (c : Closed N I T M E K W Q) (hE : E) (hp11 : W 11) (hp2 : W 2) (hp22 : W 22) (hp3 : W 3) (a0 : Fin 16) (a1 : Sys2Proof.SerialIn) (a2 : State) (ha2 : Kept Q a2) :
    ∃ t, execFrameEnd a0 a1 a2 = .next t ∧ Kept Q t := by
  refine ⟨_, rfl, ?_⟩
  repeat' with_reducible first
    | assumption | apply kept_doFrameEnd c hE hp11 hp2 hp22 hp3 | intro x

theorem kept_execNoStart (c : Closed N I T M E K W Q) (hE : E) (hp11 : W 11) (hp2 : W 2) (hp22 : W 22) (hp3 : W 3) (a0 : Fin 16) (a1 : Fin 2) (a2 : State) (ha2 : Kept Q a2) :
    ∃ t, execNoStart a0 a1 a2 = .next t ∧ Kept Q t := by
  refine ⟨_, rfl, ?_⟩
  repeat' with_reducible first
    | assumption | apply kept_doNoStart c hE hp11 hp2 hp22 hp3 | intro x

theorem kept_execLineLevelLow (c : Closed N I T M E K W Q) (hE : E) (hp11 : W 11) (hp2 : W 2) (hp22 : W 22) (hp3 : W 3) (hp4 : W 4) (a0 : Fin 16) (a1 : Sys2Proof.Pair) (a2 : State) (ha2 : Kept Q a2) :
    ∃ t, execLineLevelLow a0 a1 a2 = .next t ∧ Kept Q t := by
  refine ⟨_, rfl, ?_⟩
  repeat' with_reducible first
    | assumption | apply kept_doLineLevelLow c hE hp11 hp2 hp22 hp3 hp4 | intro x

theorem kept_execAlign (c : Closed N I T M E K W Q) (a0 : Sys2Proof.Src) (a1 : Fin 8) (a2 : State) (ha2 : Kept Q a2) :
    ∃ t, execAlign a0 a1 a2 = .next t ∧ Kept Q t := by
  refine ⟨_, rfl, ?_⟩
  repeat' with_reducible first
    | assumption | apply kept_emuAlign c | apply kept_via c | intro x

theorem kept_execRearm (c : Closed N I T M E K W Q) (a0 : Sys2Proof.Src) (a1 : Fin 8) (a2 : State) (ha2 : Kept Q a2) :
    ∃ t, execRearm a0 a1 a2 = .next t ∧ Kept Q t := by
  refine ⟨_, rfl, ?_⟩
  repeat' with_reducible first
    | assumption | apply kept_emuRearm c | apply kept_via c | intro x

theorem kept_execZemuPulseEnd (c : Closed N I T M E K W Q) (hp12 : W 12) (a0 : Fin 8) (a1 : State) (ha1 : Kept Q a1) :
    ∃ t, execZemuPulseEnd a0 a1 = .next t ∧ Kept Q t := by
  refine ⟨_, rfl, ?_⟩
  repeat' with_reducible first
    | assumption | apply kept_doZemuPulseEnd c hp12 | intro x

theorem kept_execShadowWrite (c : Closed N I T M E K W Q) (hE : E) (hM : M) (hp13 : W 13) (hp2 : W 2) (hp22 : W 22) (hp3 : W 3) (a0 : Sys2Proof.Src) (a1 : Sys2Proof.Word) (a2 : State) (ha2 : Kept Q a2) :
    ∃ t, execShadowWrite a0 a1 a2 = .next t ∧ Kept Q t := by
  refine ⟨_, rfl, ?_⟩
  repeat' with_reducible first
    | assumption | apply kept_shadowData c hE hM hp13 hp2 hp22 hp3 | apply kept_via c | intro x

theorem kept_execGroupCopyRequest (c : Closed N I T M E K W Q) (hE : E) (hp13 : W 13) (hp2 : W 2) (hp22 : W 22) (hp3 : W 3) (a0 : Sys2Proof.Src) (a1 : Sys2Proof.Word) (a2 : State) (ha2 : Kept Q a2) :
    ∃ t, execGroupCopyRequest a0 a1 a2 = .next t ∧ Kept Q t := by
  refine ⟨_, rfl, ?_⟩
  repeat' with_reducible first
    | assumption | apply kept_groupCommand c hE hp13 hp2 hp22 hp3 | apply kept_via c | intro x

theorem kept_execPwmsEdge (c : Closed N I T M E K W Q) (hE : E) (hp13 : W 13) (hp2 : W 2) (hp22 : W 22) (hp3 : W 3) (a0 : Fin 4) (a1 : Sys2Proof.LineIn) (a2 : Nat) (a3 : State) (ha3 : Kept Q a3) :
    ∃ t, execPwmsEdge a0 a1 a2 a3 = .next t ∧ Kept Q t := by
  refine ⟨_, rfl, ?_⟩
  repeat' with_reducible first
    | assumption | apply kept_doPwmsEdge c hE hp13 hp2 hp22 hp3 | intro x

theorem kept_execPwmsLost (c : Closed N I T M E K W Q) (hE : E) (hp13 : W 13) (hp2 : W 2) (hp22 : W 22) (hp3 : W 3) (a0 : Fin 4) (a1 : State) (ha1 : Kept Q a1) :
    ∃ t, execPwmsLost a0 a1 = .next t ∧ Kept Q t := by
  refine ⟨_, rfl, ?_⟩
  repeat' with_reducible first
    | assumption | apply kept_doPwmsLost c hE hp13 hp2 hp22 hp3 | intro x

theorem kept_execStreamStart (c : Closed N I T M E K W Q) (a0 : State) (ha0 : Kept Q a0) :
    ∃ t, execStreamStart a0 = .next t ∧ Kept Q t := by
  refine ⟨_, rfl, ?_⟩
  repeat' with_reducible first
    | assumption | apply kept_doStreamStart c | intro x

theorem kept_execStreamRecordSend (c : Closed N I T M E K W Q) (hp13 : W 13) (a0 : State) (ha0 : Kept Q a0) :
    ∃ t, execStreamRecordSend a0 = .next t ∧ Kept Q t := by
  refine ⟨_, rfl, ?_⟩
  repeat' with_reducible first
    | assumption | apply kept_doStreamRecordSend c hp13 | intro x

theorem kept_execVentHostStart (c : Closed N I T M E K W Q) (hE : E) (hp13 : W 13) (hp14 : W 14) (hp2 : W 2) (hp22 : W 22) (hp3 : W 3) (a0 : Sys2Proof.Src) (a1 : Sys2Proof.Word) (a2 : State) (ha2 : Kept Q a2) :
    ∃ t, execVentHostStart a0 a1 a2 = .next t ∧ Kept Q t := by
  refine ⟨_, rfl, ?_⟩
  repeat' with_reducible first
    | assumption | apply kept_ventHost c hE hp13 hp14 hp2 hp22 hp3 | apply kept_via c | intro x

theorem kept_execVentPeriodStart (c : Closed N I T M E K W Q) (hE : E) (hp14 : W 14) (hp2 : W 2) (hp22 : W 22) (hp3 : W 3) (a0 : Fin 7) (a1 : State) (ha1 : Kept Q a1) :
    ∃ t, execVentPeriodStart a0 a1 = .next t ∧ Kept Q t := by
  refine ⟨_, rfl, ?_⟩
  repeat' with_reducible first
    | assumption | apply kept_doVentPeriodStart c hE hp14 hp2 hp22 hp3 | intro x

theorem kept_execMov (c : Closed N I T M E K W Q) (hE : E) (hp14 : W 14) (hp2 : W 2) (hp22 : W 22) (hp3 : W 3) (a0 : Fin 7) (a1 : State) (ha1 : Kept Q a1) :
    ∃ t, execMov a0 a1 = .next t ∧ Kept Q t := by
  refine ⟨_, rfl, ?_⟩
  repeat' with_reducible first
    | assumption | apply kept_issue c hE hp14 hp2 hp22 hp3 | apply kept_ventMov c hE hp14 hp2 hp22 hp3 | intro x

theorem kept_execMovh (c : Closed N I T M E K W Q) (hE : E) (hp14 : W 14) (hp2 : W 2) (hp22 : W 22) (hp3 : W 3) (a0 : Fin 7) (a1 : State) (ha1 : Kept Q a1) :
    ∃ t, execMovh a0 a1 = .next t ∧ Kept Q t := by
  refine ⟨_, rfl, ?_⟩
  repeat' with_reducible first
    | assumption | apply kept_issue c hE hp14 hp2 hp22 hp3 | apply kept_ventMovh c hE hp14 hp2 hp22 hp3 | intro x

theorem kept_execAdd (c : Closed N I T M E K W Q) (hE : E) (hp14 : W 14) (hp2 : W 2) (hp22 : W 22) (hp3 : W 3) (a0 : Fin 7) (a1 : State) (ha1 : Kept Q a1) :
    ∃ t, execAdd a0 a1 = .next t ∧ Kept Q t := by
  refine ⟨_, rfl, ?_⟩
  repeat' with_reducible first
    | assumption | apply kept_issue c hE hp14 hp2 hp22 hp3 | apply kept_ventAlu c hE hp14 hp2 hp22 hp3 | intro x

theorem kept_execSub (c : Closed N I T M E K W Q) (hE : E) (hp14 : W 14) (hp2 : W 2) (hp22 : W 22) (hp3 : W 3) (a0 : Fin 7) (a1 : State) (ha1 : Kept Q a1) :
    ∃ t, execSub a0 a1 = .next t ∧ Kept Q t := by
  refine ⟨_, rfl, ?_⟩
  repeat' with_reducible first
    | assumption | apply kept_issue c hE hp14 hp2 hp22 hp3 | apply kept_ventAlu c hE hp14 hp2 hp22 hp3 | intro x

theorem kept_execAnd (c : Closed N I T M E K W Q) (hE : E) (hp14 : W 14) (hp2 : W 2) (hp22 : W 22) (hp3 : W 3) (a0 : Fin 7) (a1 : State) (ha1 : Kept Q a1) :
    ∃ t, execAnd a0 a1 = .next t ∧ Kept Q t := by
  refine ⟨_, rfl, ?_⟩
  repeat' with_reducible first
    | assumption | apply kept_issue c hE hp14 hp2 hp22 hp3 | apply kept_ventAlu c hE hp14 hp2 hp22 hp3 | intro x

theorem kept_execOr (c : Closed N I T M E K W Q) (hE : E) (hp14 : W 14) (hp2 : W 2) (hp22 : W 22) (hp3 : W 3) (a0 : Fin 7) (a1 : State) (ha1 : Kept Q a1) :
    ∃ t, execOr a0 a1 = .next t ∧ Kept Q t := by
  refine ⟨_, rfl, ?_⟩
  repeat' with_reducible first
    | assumption | apply kept_issue c hE hp14 hp2 hp22 hp3 | apply kept_ventAlu c hE hp14 hp2 hp22 hp3 | intro x

theorem kept_execXor (c : Closed N I T M E K W Q) (hE : E) (hp14 : W 14) (hp2 : W 2) (hp22 : W 22) (hp3 : W 3) (a0 : Fin 7) (a1 : State) (ha1 : Kept Q a1) :
    ∃ t, execXor a0 a1 = .next t ∧ Kept Q t := by
  refine ⟨_, rfl, ?_⟩
  repeat' with_reducible first
    | assumption | apply kept_issue c hE hp14 hp2 hp22 hp3 | apply kept_ventAlu c hE hp14 hp2 hp22 hp3 | intro x

theorem kept_execShl (c : Closed N I T M E K W Q) (hE : E) (hp14 : W 14) (hp2 : W 2) (hp22 : W 22) (hp3 : W 3) (a0 : Fin 7) (a1 : State) (ha1 : Kept Q a1) :
    ∃ t, execShl a0 a1 = .next t ∧ Kept Q t := by
  refine ⟨_, rfl, ?_⟩
  repeat' with_reducible first
    | assumption | apply kept_issue c hE hp14 hp2 hp22 hp3 | apply kept_ventAlu c hE hp14 hp2 hp22 hp3 | intro x

theorem kept_execShr (c : Closed N I T M E K W Q) (hE : E) (hp14 : W 14) (hp2 : W 2) (hp22 : W 22) (hp3 : W 3) (a0 : Fin 7) (a1 : State) (ha1 : Kept Q a1) :
    ∃ t, execShr a0 a1 = .next t ∧ Kept Q t := by
  refine ⟨_, rfl, ?_⟩
  repeat' with_reducible first
    | assumption | apply kept_issue c hE hp14 hp2 hp22 hp3 | apply kept_ventAlu c hE hp14 hp2 hp22 hp3 | intro x

theorem kept_execSar (c : Closed N I T M E K W Q) (hE : E) (hp14 : W 14) (hp2 : W 2) (hp22 : W 22) (hp3 : W 3) (a0 : Fin 7) (a1 : State) (ha1 : Kept Q a1) :
    ∃ t, execSar a0 a1 = .next t ∧ Kept Q t := by
  refine ⟨_, rfl, ?_⟩
  repeat' with_reducible first
    | assumption | apply kept_issue c hE hp14 hp2 hp22 hp3 | apply kept_ventAlu c hE hp14 hp2 hp22 hp3 | intro x

theorem kept_execCmp (c : Closed N I T M E K W Q) (hE : E) (hp14 : W 14) (hp2 : W 2) (hp22 : W 22) (hp3 : W 3) (a0 : Fin 7) (a1 : State) (ha1 : Kept Q a1) :
    ∃ t, execCmp a0 a1 = .next t ∧ Kept Q t := by
  refine ⟨_, rfl, ?_⟩
  repeat' with_reducible first
    | assumption | apply kept_issue c hE hp14 hp2 hp22 hp3 | apply kept_ventCmp c hE hp14 hp2 hp22 hp3 | intro x

theorem kept_execBr (c : Closed N I T M E K W Q) (hE : E) (hp14 : W 14) (hp2 : W 2) (hp22 : W 22) (hp3 : W 3) (a0 : Fin 7) (a1 : State) (ha1 : Kept Q a1) :
    ∃ t, execBr a0 a1 = .next t ∧ Kept Q t := by
  refine ⟨_, rfl, ?_⟩
  repeat' with_reducible first
    | assumption | apply kept_issue c hE hp14 hp2 hp22 hp3 | apply kept_ventBr c hE hp14 hp2 hp22 hp3 | intro x

theorem kept_execWaitDelay (c : Closed N I T M E K W Q) (hE : E) (hp14 : W 14) (hp2 : W 2) (hp22 : W 22) (hp3 : W 3) (a0 : Fin 7) (a1 : State) (ha1 : Kept Q a1) :
    ∃ t, execWaitDelay a0 a1 = .next t ∧ Kept Q t := by
  refine ⟨_, rfl, ?_⟩
  repeat' with_reducible first
    | assumption | apply kept_issue c hE hp14 hp2 hp22 hp3 | apply kept_ventWait c hE hp14 hp2 hp22 hp3 | intro x

theorem kept_execWaitUntil (c : Closed N I T M E K W Q) (hE : E) (hp14 : W 14) (hp2 : W 2) (hp22 : W 22) (hp3 : W 3) (a0 : Fin 7) (a1 : State) (ha1 : Kept Q a1) :
    ∃ t, execWaitUntil a0 a1 = .next t ∧ Kept Q t := by
  refine ⟨_, rfl, ?_⟩
  repeat' with_reducible first
    | assumption | apply kept_issue c hE hp14 hp2 hp22 hp3 | apply kept_ventWait c hE hp14 hp2 hp22 hp3 | intro x

theorem kept_execWaitAngle (c : Closed N I T M E K W Q) (hE : E) (hp14 : W 14) (hp2 : W 2) (hp22 : W 22) (hp3 : W 3) (a0 : Fin 7) (a1 : State) (ha1 : Kept Q a1) :
    ∃ t, execWaitAngle a0 a1 = .next t ∧ Kept Q t := by
  refine ⟨_, rfl, ?_⟩
  repeat' with_reducible first
    | assumption | apply kept_issue c hE hp14 hp2 hp22 hp3 | apply kept_ventWait c hE hp14 hp2 hp22 hp3 | intro x

theorem kept_execWaitEvent (c : Closed N I T M E K W Q) (hE : E) (hp14 : W 14) (hp2 : W 2) (hp22 : W 22) (hp3 : W 3) (a0 : Fin 7) (a1 : State) (ha1 : Kept Q a1) :
    ∃ t, execWaitEvent a0 a1 = .next t ∧ Kept Q t := by
  refine ⟨_, rfl, ?_⟩
  repeat' with_reducible first
    | assumption | apply kept_issue c hE hp14 hp2 hp22 hp3 | apply kept_ventWait c hE hp14 hp2 hp22 hp3 | intro x

theorem kept_execWaitEnd (c : Closed N I T M E K W Q) (hE : E) (hp14 : W 14) (hp2 : W 2) (hp22 : W 22) (hp3 : W 3) (a0 : Fin 7) (a1 : State) (ha1 : Kept Q a1) :
    ∃ t, execWaitEnd a0 a1 = .next t ∧ Kept Q t := by
  refine ⟨_, rfl, ?_⟩
  repeat' with_reducible first
    | assumption | apply kept_doWaitEnd c hE hp14 hp2 hp22 hp3 | intro x

theorem kept_execWaitto (c : Closed N I T M E K W Q) (hE : E) (hp14 : W 14) (hp2 : W 2) (hp22 : W 22) (hp3 : W 3) (a0 : Fin 7) (a1 : State) (ha1 : Kept Q a1) :
    ∃ t, execWaitto a0 a1 = .next t ∧ Kept Q t := by
  refine ⟨_, rfl, ?_⟩
  repeat' with_reducible first
    | assumption | apply kept_doWaitto c hE hp14 hp2 hp22 hp3 | intro x

theorem kept_execPost (c : Closed N I T M E K W Q) (hE : E) (hp14 : W 14) (hp2 : W 2) (hp22 : W 22) (hp3 : W 3) (a0 : Fin 7) (a1 : State) (ha1 : Kept Q a1) :
    ∃ t, execPost a0 a1 = .next t ∧ Kept Q t := by
  refine ⟨_, rfl, ?_⟩
  repeat' with_reducible first
    | assumption | apply kept_issue c hE hp14 hp2 hp22 hp3 | apply kept_ventPost c hE hp14 hp2 hp22 hp3 | intro x

theorem kept_execHalt (c : Closed N I T M E K W Q) (hE : E) (hp14 : W 14) (hp2 : W 2) (hp22 : W 22) (hp3 : W 3) (a0 : Fin 7) (a1 : State) (ha1 : Kept Q a1) :
    ∃ t, execHalt a0 a1 = .next t ∧ Kept Q t := by
  refine ⟨_, rfl, ?_⟩
  repeat' with_reducible first
    | assumption | apply kept_issue c hE hp14 hp2 hp22 hp3 | apply kept_ventHalt c hp14 | intro x

theorem kept_execClrf (c : Closed N I T M E K W Q) (hp14 : W 14) (a0 : Sys2Proof.Src) (a1 : Fin 7) (a2 : State) (ha2 : Kept Q a2) :
    ∃ t, execClrf a0 a1 a2 = .next t ∧ Kept Q t := by
  refine ⟨_, rfl, ?_⟩
  repeat' with_reducible first
    | assumption | apply kept_ventClrf c hp14 | apply kept_via c | intro x

theorem kept_execStop (c : Closed N I T M E K W Q) (hp14 : W 14) (a0 : Sys2Proof.Src) (a1 : Fin 7) (a2 : State) (ha2 : Kept Q a2) :
    ∃ t, execStop a0 a1 a2 = .next t ∧ Kept Q t := by
  refine ⟨_, rfl, ?_⟩
  repeat' with_reducible first
    | assumption | apply kept_ventStop c hp14 | apply kept_via c | intro x

theorem kept_execClrw (c : Closed N I T M E K W Q) (hp14 : W 14) (a0 : Sys2Proof.Src) (a1 : Fin 7) (a2 : State) (ha2 : Kept Q a2) :
    ∃ t, execClrw a0 a1 a2 = .next t ∧ Kept Q t := by
  refine ⟨_, rfl, ?_⟩
  repeat' with_reducible first
    | assumption | apply kept_ventClrw c hp14 | apply kept_via c | intro x

theorem kept_execVentProgramWrite (c : Closed N I T M E K W Q) (hM : M) (hp14 : W 14) (a0 : Sys2Proof.Src) (a1 : Sys2Proof.Word) (a2 : State) (ha2 : Kept Q a2) :
    ∃ t, execVentProgramWrite a0 a1 a2 = .next t ∧ Kept Q t := by
  refine ⟨_, rfl, ?_⟩
  repeat' with_reducible first
    | assumption | apply kept_ventLdata c hM hp14 | apply kept_via c | intro x

theorem kept_execTmpFrameStart (c : Closed N I T M E K W Q) (hE : E) (hp15 : W 15) (hp2 : W 2) (hp22 : W 22) (hp3 : W 3) (a0 : Fin 2) (a1 : State) (ha1 : Kept Q a1) :
    ∃ t, execTmpFrameStart a0 a1 = .next t ∧ Kept Q t := by
  refine ⟨_, rfl, ?_⟩
  repeat' with_reducible first
    | assumption | apply kept_doTmpFrameStart c hE hp15 hp2 hp22 hp3 | intro x

theorem kept_execTmpPredrive (c : Closed N I T M E K W Q) (hp15 : W 15) (a0 : Fin 16) (a1 : State) (ha1 : Kept Q a1) :
    ∃ t, execTmpPredrive a0 a1 = .next t ∧ Kept Q t := by
  refine ⟨_, rfl, ?_⟩
  repeat' with_reducible first
    | assumption | apply kept_doTmpPredrive c hp15 | intro x

theorem kept_execTmpSlotStart (c : Closed N I T M E K W Q) (hE : E) (hp15 : W 15) (hp2 : W 2) (hp22 : W 22) (hp3 : W 3) (a0 : Fin 16) (a1 : State) (ha1 : Kept Q a1) :
    ∃ t, execTmpSlotStart a0 a1 = .next t ∧ Kept Q t := by
  refine ⟨_, rfl, ?_⟩
  repeat' with_reducible first
    | assumption | apply kept_doTmpSlotStart c hE hp15 hp2 hp22 hp3 | intro x

theorem kept_execTmpFilterOutput (c : Closed N I T M E K W Q) (hE : E) (hp15 : W 15) (hp2 : W 2) (hp22 : W 22) (hp3 : W 3) (a0 : Fin 16) (a1 : Sys2Proof.TmpIn) (a2 : State) (ha2 : Kept Q a2) :
    ∃ t, execTmpFilterOutput a0 a1 a2 = .next t ∧ Kept Q t := by
  refine ⟨_, rfl, ?_⟩
  repeat' with_reducible first
    | assumption | apply kept_doTmpFilterOutput c hE hp15 hp2 hp22 hp3 | intro x

theorem kept_execPhaseExtend (c : Closed N I T M E K W Q) (hE : E) (hp15 : W 15) (hp2 : W 2) (hp22 : W 22) (hp3 : W 3) (a0 : Fin 16) (a1 : State) (ha1 : Kept Q a1) :
    ∃ t, execPhaseExtend a0 a1 = .next t ∧ Kept Q t := by
  refine ⟨_, rfl, ?_⟩
  repeat' with_reducible first
    | assumption | apply kept_doPhaseExtend c hE hp15 hp2 hp22 hp3 | intro x

theorem kept_execGuardOverload (c : Closed N I T M E K W Q) (hE : E) (hp15 : W 15) (hp2 : W 2) (hp22 : W 22) (hp3 : W 3) (a0 : Fin 4) (a1 : State) (ha1 : Kept Q a1) :
    ∃ t, execGuardOverload a0 a1 = .next t ∧ Kept Q t := by
  refine ⟨_, rfl, ?_⟩
  repeat' with_reducible first
    | assumption | apply kept_doGuardOverload c hE hp15 hp2 hp22 hp3 | intro x

theorem kept_execEnvelopeBandFault (c : Closed N I T M E K W Q) (hE : E) (hp16 : W 16) (hp2 : W 2) (hp22 : W 22) (hp3 : W 3) (hp6 : W 6) (a0 : Fin 16) (a1 : Bool) (a2 : State) (ha2 : Kept Q a2) :
    ∃ t, execEnvelopeBandFault a0 a1 a2 = .next t ∧ Kept Q t := by
  refine ⟨_, rfl, ?_⟩
  repeat' with_reducible first
    | assumption | apply kept_doEnvelopeBandFault c hE hp16 hp2 hp22 hp3 hp6 | intro x

theorem kept_execLossOfSignal (c : Closed N I T M E K W Q) (hE : E) (hp16 : W 16) (hp2 : W 2) (hp22 : W 22) (hp3 : W 3) (hp8 : W 8) (a0 : Fin 18) (a1 : State) (ha1 : Kept Q a1) :
    ∃ t, execLossOfSignal a0 a1 = .next t ∧ Kept Q t := by
  refine ⟨_, rfl, ?_⟩
  repeat' with_reducible first
    | assumption | apply kept_doLossOfSignal c hE hp16 hp2 hp22 hp3 hp8 | intro x

theorem kept_execDiscrepancyFault (c : Closed N I T M E K W Q) (hE : E) (hp16 : W 16) (hp2 : W 2) (hp22 : W 22) (hp3 : W 3) (a0 : Fin 2) (a1 : Fin 8) (a2 : State) (ha2 : Kept Q a2) :
    ∃ t, execDiscrepancyFault a0 a1 a2 = .next t ∧ Kept Q t := by
  refine ⟨_, rfl, ?_⟩
  repeat' with_reducible first
    | assumption | apply kept_doDiscrepancyFault c hE hp16 hp2 hp22 hp3 | intro x

theorem kept_execSafKey (c : Closed N I T M E K W Q) (hE : E) (hp16 : W 16) (hp2 : W 2) (hp22 : W 22) (hp3 : W 3) (a0 : Sys2Proof.Src) (a1 : Sys2Proof.Word) (a2 : State) (ha2 : Kept Q a2) :
    ∃ t, execSafKey a0 a1 a2 = .next t ∧ Kept Q t := by
  refine ⟨_, rfl, ?_⟩
  repeat' with_reducible first
    | assumption | apply kept_safKey c hE hp16 hp2 hp22 hp3 | apply kept_via c | intro x

theorem kept_execKeyWindowLapse (c : Closed N I T M E K W Q) (a0 : Sys2Proof.Path) (a1 : State) (ha1 : Kept Q a1) :
    ∃ t, execKeyWindowLapse a0 a1 = .next t ∧ Kept Q t := by
  refine ⟨_, rfl, ?_⟩
  repeat' with_reducible first
    | assumption | apply kept_doKeyWindowLapse c | intro x

theorem kept_execConfigCrcCompare (c : Closed N I T M E K W Q) (hE : E) (hp16 : W 16) (hp2 : W 2) (hp22 : W 22) (hp3 : W 3) (a0 : State) (ha0 : Kept Q a0) :
    ∃ t, execConfigCrcCompare a0 = .next t ∧ Kept Q t := by
  refine ⟨_, rfl, ?_⟩
  repeat' with_reducible first
    | assumption | apply kept_doConfigCrcCompare c hE hp16 hp2 hp22 hp3 | intro x

theorem kept_execSmATick (c : Closed N I T M E K W Q) (hE : E) (hp16 : W 16) (hp2 : W 2) (hp22 : W 22) (hp3 : W 3) (a0 : State) (ha0 : Kept Q a0) :
    ∃ t, execSmATick a0 = .next t ∧ Kept Q t := by
  refine ⟨_, rfl, ?_⟩
  repeat' with_reducible first
    | assumption | apply kept_doSmATick c hE hp16 hp2 hp22 hp3 | intro x

theorem kept_execSmBTick (c : Closed N I T M E K W Q) (hE : E) (hI : I) (hp16 : W 16) (hp17 : W 17) (hp2 : W 2) (hp22 : W 22) (hp3 : W 3) (a0 : State) (ha0 : Kept Q a0) :
    ∃ t, execSmBTick a0 = .next t ∧ Kept Q t := by
  refine ⟨_, rfl, ?_⟩
  repeat' with_reducible first
    | assumption | apply kept_doSmBTick c hE hI hp16 hp17 hp2 hp22 hp3 | intro x

theorem kept_execSafeInputFiltered (c : Closed N I T M E K W Q) (hE : E) (hp16 : W 16) (hp2 : W 2) (hp22 : W 22) (hp3 : W 3) (a0 : Fin 2) (a1 : Fin 2) (a2 : Fin 8) (a3 : Sys2Proof.LineIn) (a4 : State) (ha4 : Kept Q a4) :
    ∃ t, execSafeInputFiltered a0 a1 a2 a3 a4 = .next t ∧ Kept Q t := by
  refine ⟨_, rfl, ?_⟩
  repeat' with_reducible first
    | assumption | apply kept_doSafeInputFiltered c hE hp16 hp2 hp22 hp3 | intro x

theorem kept_execDeviceFault (c : Closed N I T M E K W Q) (hE : E) (hp16 : W 16) (hp2 : W 2) (hp22 : W 22) (hp3 : W 3) (a0 : Sys2Proof.MonIn) (a1 : Nat) (a2 : State) (ha2 : Kept Q a2) :
    ∃ t, execDeviceFault a0 a1 a2 = .next t ∧ Kept Q t := by
  refine ⟨_, rfl, ?_⟩
  repeat' with_reducible first
    | assumption | apply kept_doDeviceFault c hE hp16 hp2 hp22 hp3 | intro x

theorem kept_execPermitReadbackFault (c : Closed N I T M E K W Q) (hE : E) (hp16 : W 16) (hp2 : W 2) (hp22 : W 22) (hp3 : W 3) (a0 : Sys2Proof.ReadIn) (a1 : Nat) (a2 : State) (ha2 : Kept Q a2) :
    ∃ t, execPermitReadbackFault a0 a1 a2 = .next t ∧ Kept Q t := by
  refine ⟨_, rfl, ?_⟩
  repeat' with_reducible first
    | assumption | apply kept_doPermitReadbackFault c hE hp16 hp2 hp22 hp3 | intro x

theorem kept_execPduGenerate (c : Closed N I T M E K W Q) (hE : E) (hM : M) (hp16 : W 16) (hp17 : W 17) (hp18 : W 18) (hp2 : W 2) (hp22 : W 22) (hp3 : W 3) (a0 : Fin 256) (a1 : State) (ha1 : Kept Q a1) :
    ∃ t, execPduGenerate a0 a1 = .next t ∧ Kept Q t := by
  refine ⟨_, rfl, ?_⟩
  repeat' with_reducible first
    | assumption | apply kept_doPduGenerate c hE hM hp16 hp17 hp18 hp2 hp22 hp3 | intro x

theorem kept_execSend (c : Closed N I T M E K W Q) (hE : E) (hM : M) (hp16 : W 16) (hp17 : W 17) (hp18 : W 18) (hp2 : W 2) (hp22 : W 22) (hp3 : W 3) (a0 : Sys2Proof.Src) (a1 : State) (ha1 : Kept Q a1) :
    ∃ t, execSend a0 a1 = .next t ∧ Kept Q t := by
  refine ⟨_, rfl, ?_⟩
  repeat' with_reducible first
    | assumption | apply kept_safSend c hE hM hp16 hp17 hp18 hp2 hp22 hp3 | apply kept_via c | intro x

theorem kept_execPduAgeExpiry (c : Closed N I T M E K W Q) (hE : E) (hM : M) (hp16 : W 16) (hp17 : W 17) (hp18 : W 18) (hp2 : W 2) (hp22 : W 22) (hp3 : W 3) (a0 : Fin 256) (a1 : Fin 2) (a2 : State) (ha2 : Kept Q a2) :
    ∃ t, execPduAgeExpiry a0 a1 a2 = .next t ∧ Kept Q t := by
  refine ⟨_, rfl, ?_⟩
  repeat' with_reducible first
    | assumption | apply kept_doPduAgeExpiry c hE hM hp16 hp17 hp18 hp2 hp22 hp3 | intro x

theorem kept_execPairTimeout (c : Closed N I T M E K W Q) (hE : E) (hp16 : W 16) (hp17 : W 17) (hp2 : W 2) (hp22 : W 22) (hp3 : W 3) (a0 : Fin 256) (a1 : State) (ha1 : Kept Q a1) :
    ∃ t, execPairTimeout a0 a1 = .next t ∧ Kept Q t := by
  refine ⟨_, rfl, ?_⟩
  repeat' with_reducible first
    | assumption | apply kept_doPairTimeout c hE hp16 hp17 hp2 hp22 hp3 | intro x

theorem kept_execSingleTimeout (c : Closed N I T M E K W Q) (hE : E) (hp16 : W 16) (hp17 : W 17) (hp2 : W 2) (hp22 : W 22) (hp3 : W 3) (a0 : Fin 256) (a1 : State) (ha1 : Kept Q a1) :
    ∃ t, execSingleTimeout a0 a1 = .next t ∧ Kept Q t := by
  refine ⟨_, rfl, ?_⟩
  repeat' with_reducible first
    | assumption | apply kept_doSingleTimeout c hE hp16 hp17 hp2 hp22 hp3 | intro x

theorem kept_execConnectionTimeout (c : Closed N I T M E K W Q) (hE : E) (hp16 : W 16) (hp17 : W 17) (hp2 : W 2) (hp22 : W 22) (hp3 : W 3) (a0 : Fin 256) (a1 : State) (ha1 : Kept Q a1) :
    ∃ t, execConnectionTimeout a0 a1 = .next t ∧ Kept Q t := by
  refine ⟨_, rfl, ?_⟩
  repeat' with_reducible first
    | assumption | apply kept_doConnectionTimeout c hE hp16 hp17 hp2 hp22 hp3 | intro x

theorem kept_execCanSelection (c : Closed N I T M E K W Q) (hE : E) (hM : M) (hp18 : W 18) (hp2 : W 2) (hp22 : W 22) (hp3 : W 3) (a0 : Fin 2) (a1 : State) (ha1 : Kept Q a1) :
    ∃ t, execCanSelection a0 a1 = .next t ∧ Kept Q t := by
  refine ⟨_, rfl, ?_⟩
  repeat' with_reducible first
    | assumption | apply kept_doCanSelection c hE hM hp18 hp2 hp22 hp3 | intro x

theorem kept_execCanFrameSent (c : Closed N I T M E K W Q) (hE : E) (hM : M) (hp18 : W 18) (hp2 : W 2) (hp22 : W 22) (hp3 : W 3) (a0 : Fin 2) (a1 : Nat) (a2 : State) (ha2 : Kept Q a2) :
    ∃ t, execCanFrameSent a0 a1 a2 = .next t ∧ Kept Q t := by
  refine ⟨_, rfl, ?_⟩
  repeat' with_reducible first
    | assumption | apply kept_doCanFrameSent c hE hM hp18 hp2 hp22 hp3 | intro x

theorem kept_execCanError (c : Closed N I T M E K W Q) (hE : E) (hM : M) (hp18 : W 18) (hp2 : W 2) (hp22 : W 22) (hp3 : W 3) (a0 : Fin 2) (a1 : Sys2Proof.CanErrIn) (a2 : State) (ha2 : Kept Q a2) :
    ∃ t, execCanError a0 a1 a2 = .next t ∧ Kept Q t := by
  refine ⟨_, rfl, ?_⟩
  repeat' with_reducible first
    | assumption | apply kept_doCanError c hE hM hp18 hp2 hp22 hp3 | intro x

theorem kept_execCanFrameReceived (c : Closed N I T M E K W Q) (hE : E) (hM : M) (hp16 : W 16) (hp17 : W 17) (hp18 : W 18) (hp2 : W 2) (hp22 : W 22) (hp3 : W 3) (a0 : Fin 2) (a1 : Sys2Proof.CanFrame) (a2 : State) (ha2 : Kept Q a2) :
    ∃ t, execCanFrameReceived a0 a1 a2 = .next t ∧ Kept Q t := by
  refine ⟨_, rfl, ?_⟩
  repeat' with_reducible first
    | assumption | apply kept_doCanFrameReceived c hE hM hp16 hp17 hp18 hp2 hp22 hp3 | intro x

theorem kept_execProtocolException (c : Closed N I T M E K W Q) (hE : E) (hM : M) (hp18 : W 18) (hp2 : W 2) (hp22 : W 22) (hp3 : W 3) (a0 : Fin 2) (a1 : State) (ha1 : Kept Q a1) :
    ∃ t, execProtocolException a0 a1 = .next t ∧ Kept Q t := by
  refine ⟨_, rfl, ?_⟩
  repeat' with_reducible first
    | assumption | apply kept_doProtocolException c hE hM hp18 hp2 hp22 hp3 | intro x

theorem kept_execRecoveryEnd (c : Closed N I T M E K W Q) (hE : E) (hM : M) (hp18 : W 18) (hp2 : W 2) (hp22 : W 22) (hp3 : W 3) (a0 : Fin 2) (a1 : State) (ha1 : Kept Q a1) :
    ∃ t, execRecoveryEnd a0 a1 = .next t ∧ Kept Q t := by
  refine ⟨_, rfl, ?_⟩
  repeat' with_reducible first
    | assumption | apply kept_doRecoveryEnd c hE hM hp18 hp2 hp22 hp3 | intro x

theorem kept_execIntegrationEnd (c : Closed N I T M E K W Q) (hE : E) (hM : M) (hp18 : W 18) (hp2 : W 2) (hp22 : W 22) (hp3 : W 3) (a0 : Fin 2) (a1 : State) (ha1 : Kept Q a1) :
    ∃ t, execIntegrationEnd a0 a1 = .next t ∧ Kept Q t := by
  refine ⟨_, rfl, ?_⟩
  repeat' with_reducible first
    | assumption | apply kept_doIntegrationEnd c hE hM hp18 hp2 hp22 hp3 | intro x

theorem kept_execTxreq (c : Closed N I T M E K W Q) (hE : E) (hM : M) (hp18 : W 18) (hp2 : W 2) (hp22 : W 22) (hp3 : W 3) (a0 : Sys2Proof.Src) (a1 : Fin 2) (a2 : Fin 128) (a3 : State) (ha3 : Kept Q a3) :
    ∃ t, execTxreq a0 a1 a2 a3 = .next t ∧ Kept Q t := by
  refine ⟨_, rfl, ?_⟩
  repeat' with_reducible first
    | assumption | apply kept_canOcmd c hE hM hp18 hp2 hp22 hp3 | apply kept_via c | intro x

theorem kept_execCancel (c : Closed N I T M E K W Q) (hE : E) (hM : M) (hp18 : W 18) (hp2 : W 2) (hp22 : W 22) (hp3 : W 3) (a0 : Sys2Proof.Src) (a1 : Fin 2) (a2 : Fin 128) (a3 : State) (ha3 : Kept Q a3) :
    ∃ t, execCancel a0 a1 a2 a3 = .next t ∧ Kept Q t := by
  refine ⟨_, rfl, ?_⟩
  repeat' with_reducible first
    | assumption | apply kept_canOcmd c hE hM hp18 hp2 hp22 hp3 | apply kept_via c | intro x

theorem kept_execResume (c : Closed N I T M E K W Q) (hE : E) (hM : M) (hp18 : W 18) (hp2 : W 2) (hp22 : W 22) (hp3 : W 3) (a0 : Sys2Proof.Src) (a1 : Fin 2) (a2 : Fin 128) (a3 : State) (ha3 : Kept Q a3) :
    ∃ t, execResume a0 a1 a2 a3 = .next t ∧ Kept Q t := by
  refine ⟨_, rfl, ?_⟩
  repeat' with_reducible first
    | assumption | apply kept_canOcmd c hE hM hp18 hp2 hp22 hp3 | apply kept_via c | intro x

theorem kept_execRecover (c : Closed N I T M E K W Q) (hE : E) (hM : M) (hp18 : W 18) (hp2 : W 2) (hp22 : W 22) (hp3 : W 3) (a0 : Sys2Proof.Src) (a1 : Fin 2) (a2 : State) (ha2 : Kept Q a2) :
    ∃ t, execRecover a0 a1 a2 = .next t ∧ Kept Q t := by
  refine ⟨_, rfl, ?_⟩
  repeat' with_reducible first
    | assumption | apply kept_canCmd c hE hM hp18 hp2 hp22 hp3 | apply kept_via c | intro x

theorem kept_execSleep (c : Closed N I T M E K W Q) (hE : E) (hM : M) (hp18 : W 18) (hp2 : W 2) (hp22 : W 22) (hp3 : W 3) (a0 : Sys2Proof.Src) (a1 : Fin 2) (a2 : State) (ha2 : Kept Q a2) :
    ∃ t, execSleep a0 a1 a2 = .next t ∧ Kept Q t := by
  refine ⟨_, rfl, ?_⟩
  repeat' with_reducible first
    | assumption | apply kept_canCmd c hE hM hp18 hp2 hp22 hp3 | apply kept_via c | intro x

theorem kept_execWake (c : Closed N I T M E K W Q) (hE : E) (hM : M) (hp18 : W 18) (hp2 : W 2) (hp22 : W 22) (hp3 : W 3) (a0 : Sys2Proof.Src) (a1 : Fin 2) (a2 : State) (ha2 : Kept Q a2) :
    ∃ t, execWake a0 a1 a2 = .next t ∧ Kept Q t := by
  refine ⟨_, rfl, ?_⟩
  repeat' with_reducible first
    | assumption | apply kept_canCmd c hE hM hp18 hp2 hp22 hp3 | apply kept_via c | intro x

theorem kept_execRingcan (c : Closed N I T M E K W Q) (hE : E) (hM : M) (hp18 : W 18) (hp2 : W 2) (hp22 : W 22) (hp3 : W 3) (a0 : Sys2Proof.Src) (a1 : Fin 2) (a2 : State) (ha2 : Kept Q a2) :
    ∃ t, execRingcan a0 a1 a2 = .next t ∧ Kept Q t := by
  refine ⟨_, rfl, ?_⟩
  repeat' with_reducible first
    | assumption | apply kept_canCmd c hE hM hp18 hp2 hp22 hp3 | apply kept_via c | intro x

theorem kept_execSleepEntry (c : Closed N I T M E K W Q) (hE : E) (hM : M) (hp18 : W 18) (hp2 : W 2) (hp22 : W 22) (hp3 : W 3) (a0 : Fin 2) (a1 : State) (ha1 : Kept Q a1) :
    ∃ t, execSleepEntry a0 a1 = .next t ∧ Kept Q t := by
  refine ⟨_, rfl, ?_⟩
  repeat' with_reducible first
    | assumption | apply kept_doSleepEntry c hE hM hp18 hp2 hp22 hp3 | intro x

theorem kept_execWakePulse (c : Closed N I T M E K W Q) (hE : E) (hM : M) (hp18 : W 18) (hp2 : W 2) (hp22 : W 22) (hp3 : W 3) (a0 : Sys2Proof.WakeIn) (a1 : State) (ha1 : Kept Q a1) :
    ∃ t, execWakePulse a0 a1 = .next t ∧ Kept Q t := by
  refine ⟨_, rfl, ?_⟩
  repeat' with_reducible first
    | assumption | apply kept_doWakePulse c hE hM hp18 hp2 hp22 hp3 | intro x

theorem kept_execWakeFrame (c : Closed N I T M E K W Q) (hE : E) (hM : M) (hp18 : W 18) (hp2 : W 2) (hp22 : W 22) (hp3 : W 3) (a0 : Fin 2) (a1 : Sys2Proof.CanFrame) (a2 : State) (ha2 : Kept Q a2) :
    ∃ t, execWakeFrame a0 a1 a2 = .next t ∧ Kept Q t := by
  refine ⟨_, rfl, ?_⟩
  repeat' with_reducible first
    | assumption | apply kept_doWakeFrame c hE hM hp18 hp2 hp22 hp3 | intro x

theorem kept_execCantxDescriptor (c : Closed N I T M E K W Q) (hp2 : W 2) (a0 : Sys2Proof.Desc) (a1 : Sys2Proof.Byte) (a2 : Sys2Proof.CanFrame) (a3 : State) (ha3 : Kept Q a3) :
    ∃ t, execCantxDescriptor a0 a1 a2 a3 = .next t ∧ Kept Q t := by
  refine ⟨_, rfl, ?_⟩
  repeat' with_reducible first
    | assumption | apply kept_doCantxDescriptor c hp2 | intro x

theorem kept_execLd (c : Closed N I T M E K W Q) (hE : E) (hp14 : W 14) (hp2 : W 2) (hp22 : W 22) (hp3 : W 3) (a0 : Fin 7) (a1 : State) (ha1 : Kept Q a1) :
    ∃ t, execLd a0 a1 = .next t ∧ Kept Q t := by
  refine ⟨_, rfl, ?_⟩
  repeat' with_reducible first
    | assumption | apply kept_issue c hE hp14 hp2 hp22 hp3 | apply kept_ventLd c hE hp14 hp2 hp22 hp3 | intro x

theorem kept_execSt (c : Closed N I T M E K W Q) (hE : E) (hM : M) (hp14 : W 14) (hp18 : W 18) (hp2 : W 2) (hp22 : W 22) (hp3 : W 3) (a0 : Fin 7) (a1 : State) (ha1 : Kept Q a1) :
    ∃ t, execSt a0 a1 = .next t ∧ Kept Q t := by
  refine ⟨_, rfl, ?_⟩
  repeat' with_reducible first
    | assumption | apply kept_issue c hE hp14 hp2 hp22 hp3 | apply kept_ventSt c hE hM hp14 hp18 hp2 hp22 hp3
    | intro x

theorem kept_execActPulse (c : Closed N I T M E K W Q) (hE : E) (hp14 : W 14) (hp2 : W 2) (hp22 : W 22) (hp3 : W 3) (a0 : Fin 7) (a1 : State) (ha1 : Kept Q a1) :
    ∃ t, execActPulse a0 a1 = .next t ∧ Kept Q t := by
  refine ⟨_, rfl, ?_⟩
  repeat' with_reducible first
    | assumption | apply kept_issue c hE hp14 hp2 hp22 hp3 | apply kept_actPulse c
    | apply kept_ventAct c hE hp14 hp2 hp22 hp3 | intro x

theorem kept_execActBlank (c : Closed N I T M E K W Q) (hE : E) (hp14 : W 14) (hp2 : W 2) (hp22 : W 22) (hp3 : W 3) (a0 : Fin 7) (a1 : State) (ha1 : Kept Q a1) :
    ∃ t, execActBlank a0 a1 = .next t ∧ Kept Q t := by
  refine ⟨_, rfl, ?_⟩
  repeat' with_reducible first
    | assumption | apply kept_issue c hE hp14 hp2 hp22 hp3 | apply kept_actBlank c
    | apply kept_ventAct c hE hp14 hp2 hp22 hp3 | intro x

theorem kept_execActCanreq (c : Closed N I T M E K W Q) (hE : E) (hM : M) (hp14 : W 14) (hp18 : W 18) (hp2 : W 2) (hp22 : W 22) (hp3 : W 3) (a0 : Fin 7) (a1 : State) (ha1 : Kept Q a1) :
    ∃ t, execActCanreq a0 a1 = .next t ∧ Kept Q t := by
  refine ⟨_, rfl, ?_⟩
  repeat' with_reducible first
    | assumption | apply kept_issue c hE hp14 hp2 hp22 hp3 | apply kept_actCanreq c hE hM hp18 hp2 hp22 hp3
    | apply kept_ventAct c hE hp14 hp2 hp22 hp3 | intro x

theorem kept_execActZemu (c : Closed N I T M E K W Q) (hE : E) (hp14 : W 14) (hp2 : W 2) (hp22 : W 22) (hp3 : W 3) (a0 : Fin 7) (a1 : State) (ha1 : Kept Q a1) :
    ∃ t, execActZemu a0 a1 = .next t ∧ Kept Q t := by
  refine ⟨_, rfl, ?_⟩
  repeat' with_reducible first
    | assumption | apply kept_issue c hE hp14 hp2 hp22 hp3 | apply kept_actZemu c
    | apply kept_ventAct c hE hp14 hp2 hp22 hp3 | intro x

theorem kept_execActGcopy (c : Closed N I T M E K W Q) (hE : E) (hp13 : W 13) (hp14 : W 14) (hp2 : W 2) (hp22 : W 22) (hp3 : W 3) (a0 : Fin 7) (a1 : State) (ha1 : Kept Q a1) :
    ∃ t, execActGcopy a0 a1 = .next t ∧ Kept Q t := by
  refine ⟨_, rfl, ?_⟩
  repeat' with_reducible first
    | assumption | apply kept_issue c hE hp14 hp2 hp22 hp3 | apply kept_actGcopy c hE hp13 hp2 hp22 hp3
    | apply kept_ventAct c hE hp14 hp2 hp22 hp3 | intro x

theorem kept_execActUevent (c : Closed N I T M E K W Q) (hE : E) (hp13 : W 13) (hp14 : W 14) (hp2 : W 2) (hp22 : W 22) (hp3 : W 3) (a0 : Fin 7) (a1 : State) (ha1 : Kept Q a1) :
    ∃ t, execActUevent a0 a1 = .next t ∧ Kept Q t := by
  refine ⟨_, rfl, ?_⟩
  repeat' with_reducible first
    | assumption | apply kept_issue c hE hp14 hp2 hp22 hp3 | apply kept_actUevent c hE hp13 hp2 hp22 hp3
    | apply kept_ventAct c hE hp14 hp2 hp22 hp3 | intro x

theorem kept_execActZwait (c : Closed N I T M E K W Q) (hE : E) (hp14 : W 14) (hp2 : W 2) (hp22 : W 22) (hp3 : W 3) (a0 : Fin 7) (a1 : State) (ha1 : Kept Q a1) :
    ∃ t, execActZwait a0 a1 = .next t ∧ Kept Q t := by
  refine ⟨_, rfl, ?_⟩
  repeat' with_reducible first
    | assumption | apply kept_issue c hE hp14 hp2 hp22 hp3 | apply kept_ventZwait c hE hp14 hp2 hp22 hp3 | intro x

theorem kept_execActFrel (c : Closed N I T M E K W Q) (hE : E) (hp14 : W 14) (hp2 : W 2) (hp22 : W 22) (hp3 : W 3) (a0 : Fin 7) (a1 : State) (ha1 : Kept Q a1) :
    ∃ t, execActFrel a0 a1 = .next t ∧ Kept Q t := by
  refine ⟨_, rfl, ?_⟩
  repeat' with_reducible first
    | assumption | apply kept_issue c hE hp14 hp2 hp22 hp3 | apply kept_actFrel c
    | apply kept_ventAct c hE hp14 hp2 hp22 hp3 | intro x

theorem kept_execActInj (c : Closed N I T M E K W Q) (hE : E) (hp14 : W 14) (hp16 : W 16) (hp2 : W 2) (hp22 : W 22) (hp3 : W 3) (a0 : Fin 7) (a1 : State) (ha1 : Kept Q a1) :
    ∃ t, execActInj a0 a1 = .next t ∧ Kept Q t := by
  refine ⟨_, rfl, ?_⟩
  repeat' with_reducible first
    | assumption | apply kept_issue c hE hp14 hp2 hp22 hp3 | apply kept_actInj c hE hp16 hp2 hp22 hp3
    | apply kept_ventAct c hE hp14 hp2 hp22 hp3 | intro x

theorem kept_execInjectionEnd (c : Closed N I T M E K W Q) (hp16 : W 16) (a0 : Fin 16) (a1 : State) (ha1 : Kept Q a1) :
    ∃ t, execInjectionEnd a0 a1 = .next t ∧ Kept Q t := by
  refine ⟨_, rfl, ?_⟩
  repeat' with_reducible first
    | assumption | apply kept_doInjectionEnd c hp16 | intro x

theorem kept_execActSel (c : Closed N I T M E K W Q) (hE : E) (hp14 : W 14) (hp2 : W 2) (hp22 : W 22) (hp3 : W 3) (a0 : Fin 7) (a1 : State) (ha1 : Kept Q a1) :
    ∃ t, execActSel a0 a1 = .next t ∧ Kept Q t := by
  refine ⟨_, rfl, ?_⟩
  repeat' with_reducible first
    | assumption | apply kept_issue c hE hp14 hp2 hp22 hp3 | apply kept_actSel c
    | apply kept_ventAct c hE hp14 hp2 hp22 hp3 | intro x

theorem kept_execActTxreq (c : Closed N I T M E K W Q) (hE : E) (hM : M) (hp14 : W 14) (hp18 : W 18) (hp2 : W 2) (hp22 : W 22) (hp3 : W 3) (a0 : Fin 7) (a1 : State) (ha1 : Kept Q a1) :
    ∃ t, execActTxreq a0 a1 = .next t ∧ Kept Q t := by
  refine ⟨_, rfl, ?_⟩
  repeat' with_reducible first
    | assumption | apply kept_issue c hE hp14 hp2 hp22 hp3 | apply kept_actTxreq c hE hM hp18 hp2 hp22 hp3
    | apply kept_ventAct c hE hp14 hp2 hp22 hp3 | intro x

theorem kept_execActCancel (c : Closed N I T M E K W Q) (hE : E) (hM : M) (hp14 : W 14) (hp18 : W 18) (hp2 : W 2) (hp22 : W 22) (hp3 : W 3) (a0 : Fin 7) (a1 : State) (ha1 : Kept Q a1) :
    ∃ t, execActCancel a0 a1 = .next t ∧ Kept Q t := by
  refine ⟨_, rfl, ?_⟩
  repeat' with_reducible first
    | assumption | apply kept_issue c hE hp14 hp2 hp22 hp3 | apply kept_actCancel c hE hM hp18 hp2 hp22 hp3
    | apply kept_ventAct c hE hp14 hp2 hp22 hp3 | intro x

theorem kept_execActSafetx (c : Closed N I T M E K W Q) (hE : E) (hM : M) (hp14 : W 14) (hp16 : W 16) (hp17 : W 17) (hp18 : W 18) (hp2 : W 2) (hp22 : W 22) (hp3 : W 3) (a0 : Fin 7) (a1 : State) (ha1 : Kept Q a1) :
    ∃ t, execActSafetx a0 a1 = .next t ∧ Kept Q t := by
  refine ⟨_, rfl, ?_⟩
  repeat' with_reducible first
    | assumption | apply kept_issue c hE hp14 hp2 hp22 hp3
    | apply kept_actSafetx c hE hM hp16 hp17 hp18 hp2 hp22 hp3 | apply kept_ventAct c hE hp14 hp2 hp22 hp3
    | intro x

theorem kept_execIllegalOpcode (c : Closed N I T M E K W Q) (hE : E) (hp14 : W 14) (hp2 : W 2) (hp22 : W 22) (hp3 : W 3) (a0 : Fin 7) (a1 : State) (ha1 : Kept Q a1) :
    ∃ t, execIllegalOpcode a0 a1 = .next t ∧ Kept Q t := by
  refine ⟨_, rfl, ?_⟩
  repeat' with_reducible first
    | assumption | apply kept_doIllegalOpcode c hE hp14 hp2 hp22 hp3 | intro x

theorem kept_execGtrigPulseEnd (c : Closed N I T M E K W Q) (a0 : Fin 16) (a1 : State) (ha1 : Kept Q a1) :
    ∃ t, execGtrigPulseEnd a0 a1 = .next t ∧ Kept Q t := by
  refine ⟨_, rfl, ?_⟩
  repeat' with_reducible first
    | assumption | apply kept_doGtrigPulseEnd c | intro x

theorem kept_execSlotFire (c : Closed N I T M E K W Q) (hE : E) (hM : M) (hp13 : W 13) (hp14 : W 14) (hp18 : W 18) (hp2 : W 2) (hp22 : W 22) (hp3 : W 3) (a0 : Fin 256) (a1 : State) (ha1 : Kept Q a1) :
    ∃ t, execSlotFire a0 a1 = .next t ∧ Kept Q t := by
  refine ⟨_, rfl, ?_⟩
  repeat' with_reducible first
    | assumption | apply kept_doSlotFire c hE hM hp13 hp14 hp18 hp2 hp22 hp3 | intro x

theorem kept_execCommit (c : Closed N I T M E K W Q) (hM : M) (hp0 : W 0) (hp2 : W 2) (a0 : Sys2Proof.Src) (a1 : State) (ha1 : Kept Q a1) :
    ∃ t, execCommit a0 a1 = .next t ∧ Kept Q t := by
  refine ⟨_, rfl, ?_⟩
  repeat' with_reducible first
    | assumption | apply kept_doCommit c hM hp0 hp2 | apply kept_via c | intro x

theorem kept_execDiscard (c : Closed N I T M E K W Q) (hp0 : W 0) (hp2 : W 2) (a0 : Sys2Proof.Src) (a1 : State) (ha1 : Kept Q a1) :
    ∃ t, execDiscard a0 a1 = .next t ∧ Kept Q t := by
  refine ⟨_, rfl, ?_⟩
  repeat' with_reducible first
    | assumption | apply kept_discard c hp0 hp2 | apply kept_via c | intro x

theorem kept_execEnumeration (c : Closed N I T M E K W Q) (a0 : State) (ha0 : Kept Q a0) :
    ∃ t, execEnumeration a0 = .next t ∧ Kept Q t := by
  refine ⟨_, rfl, ?_⟩
  repeat' with_reducible first
    | assumption | apply kept_doEnumeration c | intro x

theorem kept_execEnum (c : Closed N I T M E K W Q) (a0 : Sys2Proof.Src) (a1 : State) (ha1 : Kept Q a1) :
    ∃ t, execEnum a0 a1 = .next t ∧ Kept Q t := by
  refine ⟨_, rfl, ?_⟩
  repeat' with_reducible first
    | assumption | apply kept_enumerate c | apply kept_via c | intro x

theorem kept_execToken (c : Closed N I T M E K W Q) (hE : E) (hp2 : W 2) (hp20 : W 20) (hp22 : W 22) (hp3 : W 3) (a0 : Sys2Proof.ChainIn) (a1 : State) (ha1 : Kept Q a1) :
    ∃ t, execToken a0 a1 = .next t ∧ Kept Q t := by
  refine ⟨_, rfl, ?_⟩
  repeat' with_reducible first
    | assumption | apply kept_doToken c hE hp2 hp20 hp22 hp3 | intro x

theorem kept_execTokenReturn (c : Closed N I T M E K W Q) (hE : E) (hp2 : W 2) (hp20 : W 20) (hp22 : W 22) (hp3 : W 3) (a0 : Sys2Proof.ChainIn) (a1 : State) (ha1 : Kept Q a1) :
    ∃ t, execTokenReturn a0 a1 = .next t ∧ Kept Q t := by
  refine ⟨_, rfl, ?_⟩
  repeat' with_reducible first
    | assumption | apply kept_doTokenReturn c hE hp2 hp20 hp22 hp3 | intro x

theorem kept_execCal (c : Closed N I T M E K W Q) (hE : E) (hp2 : W 2) (hp20 : W 20) (hp22 : W 22) (hp3 : W 3) (a0 : Sys2Proof.ChainIn) (a1 : State) (ha1 : Kept Q a1) :
    ∃ t, execCal a0 a1 = .next t ∧ Kept Q t := by
  refine ⟨_, rfl, ?_⟩
  repeat' with_reducible first
    | assumption | apply kept_doCal c hE hp2 hp20 hp22 hp3 | intro x

theorem kept_execTimeSend (c : Closed N I T M E K W Q) (a0 : State) (ha0 : Kept Q a0) :
    ∃ t, execTimeSend a0 = .next t ∧ Kept Q t := by
  refine ⟨_, rfl, ?_⟩
  repeat' with_reducible first
    | assumption | apply kept_doTimeSend c | intro x

theorem kept_execTime (c : Closed N I T M E K W Q) (hE : E) (hT : T) (hp0 : W 0) (hp13 : W 13) (hp2 : W 2) (hp20 : W 20) (hp22 : W 22) (hp3 : W 3) (a0 : Sys2Proof.ChainIn) (a1 : State) (ha1 : Kept Q a1) :
    ∃ t, execTime a0 a1 = .next t ∧ Kept Q t := by
  refine ⟨_, rfl, ?_⟩
  repeat' with_reducible first
    | assumption | apply kept_doTime c hE hT hp0 hp13 hp2 hp20 hp22 hp3 | intro x

theorem kept_execChainLoss (c : Closed N I T M E K W Q) (hE : E) (hp0 : W 0) (hp2 : W 2) (hp20 : W 20) (hp22 : W 22) (hp3 : W 3) (a0 : State) (ha0 : Kept Q a0) :
    ∃ t, execChainLoss a0 = .next t ∧ Kept Q t := by
  refine ⟨_, rfl, ?_⟩
  repeat' with_reducible first
    | assumption | apply kept_doChainLoss c hE hp0 hp2 hp20 hp22 hp3 | intro x

theorem kept_execChainCrcError (c : Closed N I T M E K W Q) (hE : E) (hp2 : W 2) (hp20 : W 20) (hp22 : W 22) (hp3 : W 3) (a0 : Nat) (a1 : State) (ha1 : Kept Q a1) :
    ∃ t, execChainCrcError a0 a1 = .next t ∧ Kept Q t := by
  refine ⟨_, rfl, ?_⟩
  repeat' with_reducible first
    | assumption | apply kept_doChainCrcError c hE hp2 hp20 hp22 hp3 | intro x

theorem kept_execSynchronisingReset (c : Closed N I T M E K W Q) (hE : E) (hp16 : W 16) (hp2 : W 2) (hp20 : W 20) (hp22 : W 22) (hp3 : W 3) (hp6 : W 6) (hp7 : W 7) (a0 : State) (ha0 : Kept Q a0) :
    ∃ t, execSynchronisingReset a0 = .next t ∧ Kept Q t := by
  refine ⟨_, rfl, ?_⟩
  repeat' with_reducible first
    | assumption | apply kept_doSynchronisingReset c hE hp16 hp2 hp20 hp22 hp3 hp6 hp7 | intro x

theorem kept_execCmd (c : Closed N I T M E K W Q) (hE : E) (hp13 : W 13) (hp2 : W 2) (hp20 : W 20) (hp22 : W 22) (hp3 : W 3) (a0 : Sys2Proof.ChainIn) (a1 : State) (ha1 : Kept Q a1) :
    ∃ t, execCmd a0 a1 = .next t ∧ Kept Q t := by
  refine ⟨_, rfl, ?_⟩
  repeat' with_reducible first
    | assumption | apply kept_doCmd c hE hp13 hp2 hp20 hp22 hp3 | intro x

theorem kept_execChainCommandAct (c : Closed N I T M E K W Q) (hE : E) (hp13 : W 13) (hp16 : W 16) (hp2 : W 2) (hp20 : W 20) (hp22 : W 22) (hp3 : W 3) (hp6 : W 6) (hp7 : W 7) (a0 : State) (ha0 : Kept Q a0) :
    ∃ t, execChainCommandAct a0 = .next t ∧ Kept Q t := by
  refine ⟨_, rfl, ?_⟩
  repeat' with_reducible first
    | assumption | apply kept_doChainCommandAct c hE hp13 hp16 hp2 hp20 hp22 hp3 hp6 hp7 | intro x

theorem kept_execChainSend (c : Closed N I T M E K W Q) (hE : E) (hp13 : W 13) (hp2 : W 2) (hp20 : W 20) (hp22 : W 22) (hp3 : W 3) (a0 : Sys2Proof.Src) (a1 : Sys2Proof.Word) (a2 : State) (ha2 : Kept Q a2) :
    ∃ t, execChainSend a0 a1 a2 = .next t ∧ Kept Q t := by
  refine ⟨_, rfl, ?_⟩
  repeat' with_reducible first
    | assumption | apply kept_chainSend c hE hp13 hp2 hp20 hp22 hp3 | apply kept_via c | intro x

theorem kept_execPulse (c : Closed N I T M E K W Q) (a0 : Sys2Proof.Src) (a1 : State) (ha1 : Kept Q a1) :
    ∃ t, execPulse a0 a1 = .next t ∧ Kept Q t := by
  refine ⟨_, rfl, ?_⟩
  repeat' with_reducible first
    | assumption | apply kept_syncPulse c | apply kept_via c | intro x

theorem kept_execSyncNEdge (c : Closed N I T M E K W Q) (hE : E) (hp13 : W 13) (hp2 : W 2) (hp20 : W 20) (hp22 : W 22) (hp3 : W 3) (a0 : Nat) (a1 : State) (ha1 : Kept Q a1) :
    ∃ t, execSyncNEdge a0 a1 = .next t ∧ Kept Q t := by
  refine ⟨_, rfl, ?_⟩
  repeat' with_reducible first
    | assumption | apply kept_doSyncNEdge c hE hp13 hp2 hp20 hp22 hp3 | intro x

theorem kept_execTakeoverCrossing (c : Closed N I T M E K W Q) (hE : E) (hp2 : W 2) (hp22 : W 22) (hp3 : W 3) (hp4 : W 4) (hp5 : W 5) (hp6 : W 6) (a0 : Fin 16) (a1 : State) (ha1 : Kept Q a1) :
    ∃ t, execTakeoverCrossing a0 a1 = .next t ∧ Kept Q t := by
  refine ⟨_, rfl, ?_⟩
  repeat' with_reducible first
    | assumption | apply kept_doTakeoverCrossing c hE hp2 hp22 hp3 hp4 hp5 hp6 | intro x

theorem kept_execTakeoverOutputEnable (c : Closed N I T M E K W Q) (hp13 : W 13) (a0 : State) (ha0 : Kept Q a0) :
    ∃ t, execTakeoverOutputEnable a0 = .next t ∧ Kept Q t := by
  refine ⟨_, rfl, ?_⟩
  repeat' with_reducible first
    | assumption | apply kept_doTakeoverOutputEnable c hp13 | intro x

theorem kept_execEmuDriverEnable (c : Closed N I T M E K W Q) (hp12 : W 12) (a0 : State) (ha0 : Kept Q a0) :
    ∃ t, execEmuDriverEnable a0 = .next t ∧ Kept Q t := by
  refine ⟨_, rfl, ?_⟩
  repeat' with_reducible first
    | assumption | apply kept_doEmuDriverEnable c hp12 | intro x

theorem kept_execHeartbeatRestart (c : Closed N I T M E K W Q) (hp21 : W 21) (a0 : State) (ha0 : Kept Q a0) :
    ∃ t, execHeartbeatRestart a0 = .next t ∧ Kept Q t := by
  refine ⟨_, rfl, ?_⟩
  repeat' with_reducible first
    | assumption | apply kept_doHeartbeatRestart c hp21 | intro x

theorem kept_execPartnerHeartbeatLost (c : Closed N I T M E K W Q) (hE : E) (hp2 : W 2) (hp21 : W 21) (hp22 : W 22) (hp3 : W 3) (a0 : State) (ha0 : Kept Q a0) :
    ∃ t, execPartnerHeartbeatLost a0 = .next t ∧ Kept Q t := by
  refine ⟨_, rfl, ?_⟩
  repeat' with_reducible first
    | assumption | apply kept_doPartnerHeartbeatLost c hE hp2 hp21 hp22 hp3 | intro x

theorem kept_execPartnerHeartbeatEdge (c : Closed N I T M E K W Q) (hp21 : W 21) (a0 : State) (ha0 : Kept Q a0) :
    ∃ t, execPartnerHeartbeatEdge a0 = .next t ∧ Kept Q t := by
  refine ⟨_, rfl, ?_⟩
  repeat' with_reducible first
    | assumption | apply kept_doPartnerHeartbeatEdge c hp21 | intro x

theorem kept_execClaim (c : Closed N I T M E K W Q) (hp21 : W 21) (a0 : State) (ha0 : Kept Q a0) :
    ∃ t, execClaim a0 = .next t ∧ Kept Q t := by
  refine ⟨_, rfl, ?_⟩
  repeat' with_reducible first
    | assumption | apply kept_doClaim c hp21 | intro x

theorem kept_execTake (c : Closed N I T M E K W Q) (hp21 : W 21) (a0 : Sys2Proof.Src) (a1 : State) (ha1 : Kept Q a1) :
    ∃ t, execTake a0 a1 = .next t ∧ Kept Q t := by
  refine ⟨_, rfl, ?_⟩
  repeat' with_reducible first
    | assumption | apply kept_twnTake c hp21 | apply kept_via c | intro x

theorem kept_execInitialClaim (c : Closed N I T M E K W Q) (hp21 : W 21) (a0 : State) (ha0 : Kept Q a0) :
    ∃ t, execInitialClaim a0 = .next t ∧ Kept Q t := by
  refine ⟨_, rfl, ?_⟩
  repeat' with_reducible first
    | assumption | apply kept_doInitialClaim c hp21 | intro x

theorem kept_execClaimCheck (c : Closed N I T M E K W Q) (hE : E) (hM : M) (hp0 : W 0) (hp10 : W 10) (hp15 : W 15) (hp16 : W 16) (hp17 : W 17) (hp18 : W 18) (hp2 : W 2) (hp21 : W 21) (hp22 : W 22) (hp3 : W 3) (hp4 : W 4) (a0 : Bool) (a1 : State) (ha1 : Kept Q a1) :
    ∃ t, execClaimCheck a0 a1 = .next t ∧ Kept Q t := by
  refine ⟨_, rfl, ?_⟩
  repeat' with_reducible first
    | assumption | apply kept_doClaimCheck c hE hM hp0 hp10 hp15 hp16 hp17 hp18 hp2 hp21 hp22 hp3 hp4 | intro x

theorem kept_execForcedTakeover (c : Closed N I T M E K W Q) (hE : E) (hM : M) (hp0 : W 0) (hp10 : W 10) (hp15 : W 15) (hp16 : W 16) (hp17 : W 17) (hp18 : W 18) (hp2 : W 2) (hp21 : W 21) (hp22 : W 22) (hp3 : W 3) (hp4 : W 4) (a0 : State) (ha0 : Kept Q a0) :
    ∃ t, execForcedTakeover a0 = .next t ∧ Kept Q t := by
  refine ⟨_, rfl, ?_⟩
  repeat' with_reducible first
    | assumption | apply kept_doForcedTakeover c hE hM hp0 hp10 hp15 hp16 hp17 hp18 hp2 hp21 hp22 hp3 hp4
    | intro x

theorem kept_execYield (c : Closed N I T M E K W Q) (hE : E) (hp2 : W 2) (hp21 : W 21) (hp22 : W 22) (hp3 : W 3) (a0 : State) (ha0 : Kept Q a0) :
    ∃ t, execYield a0 = .next t ∧ Kept Q t := by
  refine ⟨_, rfl, ?_⟩
  repeat' with_reducible first
    | assumption | apply kept_doYield c hE hp2 hp21 hp22 hp3 | intro x

theorem kept_execRelease (c : Closed N I T M E K W Q) (hp21 : W 21) (a0 : Sys2Proof.Src) (a1 : State) (ha1 : Kept Q a1) :
    ∃ t, execRelease a0 a1 = .next t ∧ Kept Q t := by
  refine ⟨_, rfl, ?_⟩
  repeat' with_reducible first
    | assumption | apply kept_twnRelease c hp21 | apply kept_via c | intro x

theorem kept_execReleaseTimeout (c : Closed N I T M E K W Q) (hE : E) (hp2 : W 2) (hp21 : W 21) (hp22 : W 22) (hp3 : W 3) (a0 : State) (ha0 : Kept Q a0) :
    ∃ t, execReleaseTimeout a0 = .next t ∧ Kept Q t := by
  refine ⟨_, rfl, ?_⟩
  repeat' with_reducible first
    | assumption | apply kept_doReleaseTimeout c hE hp2 hp21 hp22 hp3 | intro x

theorem kept_execMirrorFrameSend (c : Closed N I T M E K W Q) (a0 : State) (ha0 : Kept Q a0) :
    ∃ t, execMirrorFrameSend a0 = .next t ∧ Kept Q t := by
  refine ⟨_, rfl, ?_⟩
  repeat' with_reducible first
    | assumption | apply kept_doMirrorFrameSend c | intro x

theorem kept_execMirrorFrameCrcError (c : Closed N I T M E K W Q) (hE : E) (hp2 : W 2) (hp21 : W 21) (hp22 : W 22) (hp3 : W 3) (a0 : State) (ha0 : Kept Q a0) :
    ∃ t, execMirrorFrameCrcError a0 = .next t ∧ Kept Q t := by
  refine ⟨_, rfl, ?_⟩
  repeat' with_reducible first
    | assumption | apply kept_doMirrorFrameCrcError c hE hp2 hp21 hp22 hp3 | intro x

theorem kept_execTwinLinkDown (c : Closed N I T M E K W Q) (hE : E) (hp2 : W 2) (hp21 : W 21) (hp22 : W 22) (hp3 : W 3) (a0 : State) (ha0 : Kept Q a0) :
    ∃ t, execTwinLinkDown a0 = .next t ∧ Kept Q t := by
  refine ⟨_, rfl, ?_⟩
  repeat' with_reducible first
    | assumption | apply kept_doTwinLinkDown c hE hp2 hp21 hp22 hp3 | intro x

theorem kept_execMirrorFrameReceived (c : Closed N I T M E K W Q) (hE : E) (hp17 : W 17) (hp2 : W 2) (hp21 : W 21) (hp22 : W 22) (hp3 : W 3) (hp8 : W 8) (a0 : List Sys2Proof.Byte) (a1 : State) (ha1 : Kept Q a1) :
    ∃ t, execMirrorFrameReceived a0 a1 = .next t ∧ Kept Q t := by
  refine ⟨_, rfl, ?_⟩
  repeat' with_reducible first
    | assumption | apply kept_doMirrorFrameReceived c hE hp17 hp2 hp21 hp22 hp3 hp8 | intro x

theorem kept_execMapCommit (c : Closed N I T M E K W Q) (hp22 : W 22) (a0 : Sys2Proof.Src) (a1 : State) (ha1 : Kept Q a1) :
    ∃ t, execMapCommit a0 a1 = .next t ∧ Kept Q t := by
  refine ⟨_, rfl, ?_⟩
  repeat' with_reducible first
    | assumption | apply kept_mapCommit c hp22 | apply kept_via c | intro x

theorem kept_execMapCommitDaily (c : Closed N I T M E K W Q) (a0 : State) (ha0 : Kept Q a0) :
    ∃ t, execMapCommitDaily a0 = .next t ∧ Kept Q t := by
  refine ⟨_, rfl, ?_⟩
  repeat' with_reducible first
    | assumption | apply kept_doMapCommitDaily c | intro x

theorem kept_execSwapRequest (c : Closed N I T M E K W Q) (hE : E) (hp16 : W 16) (hp2 : W 2) (hp22 : W 22) (hp3 : W 3) (hp7 : W 7) (a0 : Sys2Proof.Src) (a1 : Sys2Proof.Word) (a2 : State) (ha2 : Kept Q a2) :
    ∃ t, execSwapRequest a0 a1 a2 = .next t ∧ Kept Q t := by
  refine ⟨_, rfl, ?_⟩
  repeat' with_reducible first
    | assumption | apply kept_swapCommand c hE hp16 hp2 hp22 hp3 hp7 | apply kept_via c | intro x

theorem kept_execSliceSwapStep (c : Closed N I T M E K W Q) (hE : E) (hp16 : W 16) (hp2 : W 2) (hp22 : W 22) (hp3 : W 3) (hp7 : W 7) (a0 : Bool) (a1 : Bool) (a2 : State) (ha2 : Kept Q a2) :
    ∃ t, execSliceSwapStep a0 a1 a2 = .next t ∧ Kept Q t := by
  refine ⟨_, rfl, ?_⟩
  repeat' with_reducible first
    | assumption | apply kept_doSliceSwapStep c hE hp16 hp2 hp22 hp3 hp7 | intro x

theorem kept_execSliceSwap (c : Closed N I T M E K W Q) (hE : E) (hp16 : W 16) (hp2 : W 2) (hp22 : W 22) (hp3 : W 3) (hp7 : W 7) (a0 : State) (ha0 : Kept Q a0) :
    ∃ t, execSliceSwap a0 = .next t ∧ Kept Q t := by
  refine ⟨_, rfl, ?_⟩
  repeat' with_reducible first
    | assumption | apply kept_doSliceSwap c hE hp16 hp2 hp22 hp3 hp7 | intro x

theorem kept_execEngineSwap (c : Closed N I T M E K W Q) (hE : E) (hp16 : W 16) (hp2 : W 2) (hp22 : W 22) (hp3 : W 3) (hp7 : W 7) (hp8 : W 8) (a0 : State) (ha0 : Kept Q a0) :
    ∃ t, execEngineSwap a0 = .next t ∧ Kept Q t := by
  refine ⟨_, rfl, ?_⟩
  repeat' with_reducible first
    | assumption | apply kept_doEngineSwap c hE hp16 hp2 hp22 hp3 hp7 hp8 | intro x

theorem kept_execEngineFailure (c : Closed N I T M E K W Q) (hE : E) (hp16 : W 16) (hp2 : W 2) (hp22 : W 22) (hp3 : W 3) (hp7 : W 7) (hp8 : W 8) (a0 : Fin 18) (a1 : State) (ha1 : Kept Q a1) :
    ∃ t, execEngineFailure a0 a1 = .next t ∧ Kept Q t := by
  refine ⟨_, rfl, ?_⟩
  repeat' with_reducible first
    | assumption | apply kept_doEngineFailure c hE hp16 hp2 hp22 hp3 hp7 hp8 | intro x

theorem kept_execLegMeasure (c : Closed N I T M E K W Q) (hE : E) (hp16 : W 16) (hp2 : W 2) (hp22 : W 22) (hp3 : W 3) (hp5 : W 5) (hp7 : W 7) (a0 : Fin 16) (a1 : Vector (BitVec 16) 4) (a2 : BitVec 4) (a3 : State) (ha3 : Kept Q a3) :
    ∃ t, execLegMeasure a0 a1 a2 a3 = .next t ∧ Kept Q t := by
  refine ⟨_, rfl, ?_⟩
  repeat' with_reducible first
    | assumption | apply kept_doLegMeasure c hE hp16 hp2 hp22 hp3 hp5 hp7 | intro x

theorem kept_execLegRetire (c : Closed N I T M E K W Q) (hE : E) (hp16 : W 16) (hp2 : W 2) (hp22 : W 22) (hp3 : W 3) (hp5 : W 5) (hp6 : W 6) (hp7 : W 7) (a0 : Fin 16) (a1 : State) (ha1 : Kept Q a1) :
    ∃ t, execLegRetire a0 a1 = .next t ∧ Kept Q t := by
  refine ⟨_, rfl, ?_⟩
  repeat' with_reducible first
    | assumption | apply kept_doLegRetire c hE hp16 hp2 hp22 hp3 hp5 hp6 hp7 | intro x

theorem kept_execCalibrationStep (c : Closed N I T M E K W Q) (hE : E) (hp16 : W 16) (hp2 : W 2) (hp22 : W 22) (hp3 : W 3) (hp7 : W 7) (a0 : Fin 35) (a1 : State) (ha1 : Kept Q a1) :
    ∃ t, execCalibrationStep a0 a1 = .next t ∧ Kept Q t := by
  refine ⟨_, rfl, ?_⟩
  repeat' with_reducible first
    | assumption | apply kept_doCalibrationStep c hE hp16 hp2 hp22 hp3 hp7 | intro x

theorem kept_execRowreq (c : Closed N I T M E K W Q) (hE : E) (hp2 : W 2) (hp22 : W 22) (hp3 : W 3) (a0 : Sys2Proof.Src) (a1 : Sys2Proof.Word) (a2 : State) (ha2 : Kept Q a2) :
    ∃ t, execRowreq a0 a1 a2 = .next t ∧ Kept Q t := by
  refine ⟨_, rfl, ?_⟩
  repeat' with_reducible first
    | assumption | apply kept_rowRequest c hE hp2 hp22 hp3 | apply kept_via c | intro x

theorem kept_execScrubPass (c : Closed N I T M E K W Q) (hE : E) (hM : M) (hp13 : W 13) (hp2 : W 2) (hp22 : W 22) (hp3 : W 3) (a0 : List Sys2Proof.EccHit) (a1 : State) (ha1 : Kept Q a1) :
    ∃ t, execScrubPass a0 a1 = .next t ∧ Kept Q t := by
  refine ⟨_, rfl, ?_⟩
  repeat' with_reducible first
    | assumption | apply kept_doScrubPass c hE hM hp13 hp2 hp22 hp3 | intro x

theorem kept_execRegisterParityCheck (c : Closed N I T M E K W Q) (hE : E) (hp2 : W 2) (hp22 : W 22) (hp3 : W 3) (a0 : Option Nat) (a1 : State) (ha1 : Kept Q a1) :
    ∃ t, execRegisterParityCheck a0 a1 = .next t ∧ Kept Q t := by
  refine ⟨_, rfl, ?_⟩
  repeat' with_reducible first
    | assumption | apply kept_doRegisterParityCheck c hE hp2 hp22 hp3 | intro x

theorem kept_execAgingMeasure (c : Closed N I T M E K W Q) (hE : E) (hp2 : W 2) (hp22 : W 22) (hp3 : W 3) (a0 : Sys2Proof.AgeIn) (a1 : State) (ha1 : Kept Q a1) :
    ∃ t, execAgingMeasure a0 a1 = .next t ∧ Kept Q t := by
  refine ⟨_, rfl, ?_⟩
  repeat' with_reducible first
    | assumption | apply kept_doAgingMeasure c hE hp2 hp22 hp3 | intro x

theorem kept_execHealthCount (c : Closed N I T M E K W Q) (hp22 : W 22) (a0 : Bool) (a1 : State) (ha1 : Kept Q a1) :
    ∃ t, execHealthCount a0 a1 = .next t ∧ Kept Q t := by
  refine ⟨_, rfl, ?_⟩
  repeat' with_reducible first
    | assumption | apply kept_doHealthCount c hp22 | intro x

theorem kept_execAshEntry (c : Closed N I T M E K W Q) (hE : E) (hp2 : W 2) (hp22 : W 22) (hp3 : W 3) (a0 : State) (ha0 : Kept Q a0) :
    ∃ t, execAshEntry a0 = .next t ∧ Kept Q t := by
  refine ⟨_, rfl, ?_⟩
  repeat' with_reducible first
    | assumption | apply kept_doAshEntry c hE hp2 hp22 hp3 | intro x

theorem kept_execAshTrigger (c : Closed N I T M E K W Q) (hE : E) (hp2 : W 2) (hp22 : W 22) (hp3 : W 3) (a0 : Fin 8) (a1 : State) (ha1 : Kept Q a1) :
    ∃ t, execAshTrigger a0 a1 = .next t ∧ Kept Q t := by
  refine ⟨_, rfl, ?_⟩
  repeat' with_reducible first
    | assumption | apply kept_doAshTrigger c hE hp2 hp22 hp3 | intro x

theorem kept_execArm (c : Closed N I T M E K W Q) (hp22 : W 22) (a0 : Sys2Proof.Src) (a1 : State) (ha1 : Kept Q a1) :
    ∃ t, execArm a0 a1 = .next t ∧ Kept Q t := by
  refine ⟨_, rfl, ?_⟩
  repeat' with_reducible first
    | assumption | apply kept_ashArm c hp22 | apply kept_via c | intro x

theorem kept_execTrig (c : Closed N I T M E K W Q) (hE : E) (hp2 : W 2) (hp22 : W 22) (hp3 : W 3) (a0 : Sys2Proof.Src) (a1 : State) (ha1 : Kept Q a1) :
    ∃ t, execTrig a0 a1 = .next t ∧ Kept Q t := by
  refine ⟨_, rfl, ?_⟩
  repeat' with_reducible first
    | assumption | apply kept_ashTrigger c hE hp2 hp22 hp3 | apply kept_via c | intro x

theorem kept_execRingEnable (c : Closed N I T M E K W Q) (hA : ∀ p, W p) (hE : E) (a0 : Sys2Proof.Src) (a1 : Fin 32) (a2 : Sys2Proof.Word) (a3 : State) (ha3 : Kept Q a3) :
    ∃ t, execRingEnable a0 a1 a2 a3 = .next t ∧ Kept Q t := by
  refine ⟨_, rfl, ?_⟩
  repeat' with_reducible first
    | assumption | apply kept_ringCfg c hA hE | apply kept_via c | intro x

theorem kept_execDoorbell (c : Closed N I T M E K W Q) (hE : E) (hp2 : W 2) (hp22 : W 22) (hp3 : W 3) (a0 : Sys2Proof.Src) (a1 : Fin 32) (a2 : Sys2Proof.Word) (a3 : State) (ha3 : Kept Q a3) :
    ∃ t, execDoorbell a0 a1 a2 a3 = .next t ∧ Kept Q t := by
  refine ⟨_, rfl, ?_⟩
  repeat' with_reducible first
    | assumption | apply kept_doorbell c hE hp2 hp22 hp3 | apply kept_via c | intro x

theorem kept_execHostMemoryAccessFailure (c : Closed N I T M E K W Q) (hE : E) (hp2 : W 2) (hp22 : W 22) (hp3 : W 3) (a0 : Fin 32) (a1 : Fin 3) (a2 : State) (ha2 : Kept Q a2) :
    ∃ t, execHostMemoryAccessFailure a0 a1 a2 = .next t ∧ Kept Q t := by
  refine ⟨_, rfl, ?_⟩
  repeat' with_reducible first
    | assumption | apply kept_doHostMemoryAccessFailure c hE hp2 hp22 hp3 | intro x

theorem kept_execNop (c : Closed N I T M E K W Q) (hp2 : W 2) (a0 : Sys2Proof.Desc) (a1 : State) (ha1 : Kept Q a1) :
    ∃ t, execNop a0 a1 = .next t ∧ Kept Q t := by
  refine ⟨_, rfl, ?_⟩
  repeat' with_reducible first
    | assumption | apply kept_descr c hp2 | intro x

theorem kept_execSramwr (c : Closed N I T M E K W Q) (hp0 : W 0) (hp2 : W 2) (a0 : Sys2Proof.Desc) (a1 : Nat) (a2 : List Sys2Proof.Word) (a3 : State) (ha3 : Kept Q a3) :
    ∃ t, execSramwr a0 a1 a2 a3 = .next t ∧ Kept Q t := by
  refine ⟨_, rfl, ?_⟩
  repeat' with_reducible first
    | assumption | apply kept_descr c hp2 | apply kept_sramStage c hp0 hp2 | intro x

theorem kept_execSramwrb (c : Closed N I T M E K W Q) (hp0 : W 0) (hp2 : W 2) (a0 : Sys2Proof.Desc) (a1 : Nat) (a2 : List Sys2Proof.Word) (a3 : State) (ha3 : Kept Q a3) :
    ∃ t, execSramwrb a0 a1 a2 a3 = .next t ∧ Kept Q t := by
  refine ⟨_, rfl, ?_⟩
  repeat' with_reducible first
    | assumption | apply kept_descr c hp2 | apply kept_sramStage c hp0 hp2 | intro x

theorem kept_execOpCommit (c : Closed N I T M E K W Q) (hM : M) (hp0 : W 0) (hp2 : W 2) (a0 : Sys2Proof.Desc) (a1 : State) (ha1 : Kept Q a1) :
    ∃ t, execOpCommit a0 a1 = .next t ∧ Kept Q t := by
  refine ⟨_, rfl, ?_⟩
  repeat' with_reducible first
    | assumption | apply kept_cmdCommit c hM hp0 hp2 | apply kept_descr c hp2 | intro x

theorem kept_execOpDiscard (c : Closed N I T M E K W Q) (hp0 : W 0) (hp2 : W 2) (a0 : Sys2Proof.Desc) (a1 : State) (ha1 : Kept Q a1) :
    ∃ t, execOpDiscard a0 a1 = .next t ∧ Kept Q t := by
  refine ⟨_, rfl, ?_⟩
  repeat' with_reducible first
    | assumption | apply kept_descr c hp2 | apply kept_discard c hp0 hp2 | intro x

theorem kept_execBadDescriptor (c : Closed N I T M E K W Q) (hp2 : W 2) (a0 : Sys2Proof.Desc) (a1 : Sys2Proof.Byte) (a2 : State) (ha2 : Kept Q a2) :
    ∃ t, execBadDescriptor a0 a1 a2 = .next t ∧ Kept Q t := by
  refine ⟨_, rfl, ?_⟩
  repeat' with_reducible first
    | assumption | apply kept_descr c hp2 | intro x

theorem kept_execFence (c : Closed N I T M E K W Q) (hp2 : W 2) (a0 : Sys2Proof.Desc) (a1 : State) (ha1 : Kept Q a1) :
    ∃ t, execFence a0 a1 = .next t ∧ Kept Q t := by
  refine ⟨_, rfl, ?_⟩
  repeat' with_reducible first
    | assumption | apply kept_doFence c hp2 | intro x

theorem kept_execFenceRelease (c : Closed N I T M E K W Q) (hp2 : W 2) (a0 : Fin 8) (a1 : State) (ha1 : Kept Q a1) :
    ∃ t, execFenceRelease a0 a1 = .next t ∧ Kept Q t := by
  refine ⟨_, rfl, ?_⟩
  repeat' with_reducible first
    | assumption | apply kept_here c | apply kept_unfence c hp2 | intro x

theorem kept_execAshrd (c : Closed N I T M E K W Q) (hE : E) (hp2 : W 2) (hp22 : W 22) (hp3 : W 3) (a0 : Sys2Proof.Desc) (a1 : Nat) (a2 : Nat) (a3 : State) (ha3 : Kept Q a3) :
    ∃ t, execAshrd a0 a1 a2 a3 = .next t ∧ Kept Q t := by
  refine ⟨_, rfl, ?_⟩
  repeat' with_reducible first
    | assumption | apply kept_ashDesc c hE hp2 hp22 hp3 | apply kept_descr c hp2 | intro x

theorem kept_execDeferredCompletion (c : Closed N I T M E K W Q) (hp2 : W 2) (a0 : Fin 8) (a1 : State) (ha1 : Kept Q a1) :
    ∃ t, execDeferredCompletion a0 a1 = .next t ∧ Kept Q t := by
  refine ⟨_, rfl, ?_⟩
  repeat' with_reducible first
    | assumption | apply kept_doDeferredCompletion c hp2 | intro x

theorem kept_execTimeRecord (c : Closed N I T M E K W Q) (hE : E) (hp2 : W 2) (hp22 : W 22) (hp3 : W 3) (a0 : State) (ha0 : Kept Q a0) :
    ∃ t, execTimeRecord a0 = .next t ∧ Kept Q t := by
  refine ⟨_, rfl, ?_⟩
  repeat' with_reducible first
    | assumption | apply kept_doTimeRecord c hE hp2 hp22 hp3 | intro x

theorem kept_execMsixMessage (c : Closed N I T M E K W Q) (hp2 : W 2) (a0 : Fin 32) (a1 : State) (ha1 : Kept Q a1) :
    ∃ t, execMsixMessage a0 a1 = .next t ∧ Kept Q t := by
  refine ⟨_, rfl, ?_⟩
  repeat' with_reducible first
    | assumption | apply kept_doMsixMessage c hp2 | intro x

theorem kept_execHeartbeat (c : Closed N I T M E K W Q) (a0 : Sys2Proof.Src) (a1 : State) (ha1 : Kept Q a1) :
    ∃ t, execHeartbeat a0 a1 = .next t ∧ Kept Q t := by
  refine ⟨_, rfl, ?_⟩
  repeat' with_reducible first
    | assumption | apply kept_heartbeat c | apply kept_via c | intro x

theorem kept_execHbcfgWrite (c : Closed N I T M E K W Q) (hA : ∀ p, W p) (a0 : Sys2Proof.Src) (a1 : Sys2Proof.Word) (a2 : State) (ha2 : Kept Q a2) :
    ∃ t, execHbcfgWrite a0 a1 a2 = .next t ∧ Kept Q t := by
  refine ⟨_, rfl, ?_⟩
  repeat' with_reducible first
    | assumption | apply kept_hbCfg c hA | apply kept_via c | intro x

theorem kept_execHostHeartbeatExpiry (c : Closed N I T M E K W Q) (hE : E) (hp2 : W 2) (hp22 : W 22) (hp3 : W 3) (a0 : State) (ha0 : Kept Q a0) :
    ∃ t, execHostHeartbeatExpiry a0 = .next t ∧ Kept Q t := by
  refine ⟨_, rfl, ?_⟩
  repeat' with_reducible first
    | assumption | apply kept_doHostHeartbeatExpiry c hE hp2 hp22 hp3 | intro x

theorem kept_execLinkReset (c : Closed N I T M E K W Q) (hp0 : W 0) (hp2 : W 2) (a0 : State) (ha0 : Kept Q a0) :
    ∃ t, execLinkReset a0 = .next t ∧ Kept Q t := by
  refine ⟨_, rfl, ?_⟩
  repeat' with_reducible first
    | assumption | apply kept_here c | apply kept_linkReset c hp0 hp2 | intro x | apply kept_ite | split

theorem kept_execLinkTrainingDone (c : Closed N I T M E K W Q) (hp2 : W 2) (a0 : Fin 4) (a1 : Fin 3) (a2 : State) (ha2 : Kept Q a2) :
    ∃ t, execLinkTrainingDone a0 a1 a2 = .next t ∧ Kept Q t := by
  refine ⟨_, rfl, ?_⟩
  repeat' with_reducible first
    | assumption | apply kept_doLinkTrainingDone c hp2 | intro x

theorem kept_execConfigurationRequest (c : Closed N I T M E K W Q) (hp2 : W 2) (a0 : Sys2Proof.CfgReq) (a1 : State) (ha1 : Kept Q a1) :
    ∃ t, execConfigurationRequest a0 a1 = .next t ∧ Kept Q t := by
  refine ⟨_, rfl, ?_⟩
  repeat' with_reducible first
    | assumption | apply kept_doConfigurationRequest c hp2 | intro x

theorem kept_execPerstNRelease (c : Closed N I T M E K W Q) (a0 : State) (ha0 : Kept Q a0) :
    ∃ t, execPerstNRelease a0 = .next t ∧ Kept Q t := by
  refine ⟨_, rfl, ?_⟩
  repeat' with_reducible first
    | assumption | apply kept_doPerstNRelease c | intro x

theorem kept_execWarmReset (c : Closed N I T M E K W Q) (hA : ∀ p, W p) (hE : E) (hI : I) (hK : K) (hN : N) (a0 : Fin 8) (a1 : State) (ha1 : Kept Q a1) :
    ∃ t, execWarmReset a0 a1 = .next t ∧ Kept Q t := by
  refine ⟨_, rfl, ?_⟩
  repeat' with_reducible first
    | assumption | apply kept_doWarmReset c hA hE hI hK hN | intro x

theorem kept_execWarmResetRelease (c : Closed N I T M E K W Q) (hp1 : W 1) (a0 : State) (ha0 : Kept Q a0) :
    ∃ t, execWarmResetRelease a0 = .next t ∧ Kept Q t := by
  refine ⟨_, rfl, ?_⟩
  repeat' with_reducible first
    | assumption | apply kept_doWarmResetRelease c hp1 | intro x

theorem kept_execColdReset (c : Closed N I T M E K W Q) (hA : ∀ p, W p) (hE : E) (hI : I) (hK : K) (hM : M) (hN : N) (hT : T) (a0 : Sys2Proof.ColdIn) (a1 : State) (ha1 : Kept Q a1) :
    ∃ t, execColdReset a0 a1 = .next t ∧ Kept Q t := by
  refine ⟨_, rfl, ?_⟩
  repeat' with_reducible first
    | assumption | apply kept_doColdReset c hA hE hI hK hM hN hT | intro x

theorem kept_execResetNPulse (c : Closed N I T M E K W Q) (hA : ∀ p, W p) (hE : E) (hI : I) (hK : K) (hN : N) (a0 : Nat) (a1 : Bool) (a2 : State) (ha2 : Kept Q a2) :
    ∃ t, execResetNPulse a0 a1 a2 = .next t ∧ Kept Q t := by
  refine ⟨_, rfl, ?_⟩
  repeat' with_reducible first
    | assumption | apply kept_doResetNPulse c hA hE hI hK hN | intro x

theorem kept_execResetNStuck (c : Closed N I T M E K W Q) (hA : ∀ p, W p) (hE : E) (hI : I) (hK : K) (hN : N) (a0 : State) (ha0 : Kept Q a0) :
    ∃ t, execResetNStuck a0 = .next t ∧ Kept Q t := by
  refine ⟨_, rfl, ?_⟩
  repeat' with_reducible first
    | assumption | apply kept_doResetNStuck c hA hE hI hK hN | intro x

theorem kept_execStuckPinRelease (c : Closed N I T M E K W Q) (hA : ∀ p, W p) (hE : E) (hI : I) (hK : K) (hN : N) (a0 : State) (ha0 : Kept Q a0) :
    ∃ t, execStuckPinRelease a0 = .next t ∧ Kept Q t := by
  refine ⟨_, rfl, ?_⟩
  repeat' with_reducible first
    | assumption | apply kept_doStuckPinRelease c hA hE hI hK hN | intro x

theorem kept_execPerstNAssert (c : Closed N I T M E K W Q) (hA : ∀ p, W p) (hE : E) (hI : I) (hK : K) (hN : N) (a0 : State) (ha0 : Kept Q a0) :
    ∃ t, execPerstNAssert a0 = .next t ∧ Kept Q t := by
  refine ⟨_, rfl, ?_⟩
  repeat' with_reducible first
    | assumption | apply kept_doPerstNAssert c hA hE hI hK hN | intro x

theorem kept_execAutoConfirm (c : Closed N I T M E K W Q) (hE : E) (hp1 : W 1) (hp2 : W 2) (hp22 : W 22) (hp3 : W 3) (a0 : State) (ha0 : Kept Q a0) :
    ∃ t, execAutoConfirm a0 = .next t ∧ Kept Q t := by
  refine ⟨_, rfl, ?_⟩
  repeat' with_reducible first
    | assumption | apply kept_doAutoConfirm c hE hp1 hp2 hp22 hp3 | intro x

theorem kept_execRunConfirm (c : Closed N I T M E K W Q) (hE : E) (hp1 : W 1) (hp2 : W 2) (hp22 : W 22) (hp3 : W 3) (a0 : Sys2Proof.Src) (a1 : BitVec 16) (a2 : State) (ha2 : Kept Q a2) :
    ∃ t, execRunConfirm a0 a1 a2 = .next t ∧ Kept Q t := by
  refine ⟨_, rfl, ?_⟩
  repeat' with_reducible first
    | assumption | apply kept_confirm c hE hp1 hp2 hp22 hp3 | apply kept_rstKeyed c hE hp1 hp2 hp22 hp3
    | apply kept_via c | intro x

theorem kept_execFullrst (c : Closed N I T M E K W Q) (hA : ∀ p, W p) (hE : E) (hI : I) (hK : K) (hN : N) (a0 : Sys2Proof.Src) (a1 : BitVec 16) (a2 : State) (ha2 : Kept Q a2) :
    ∃ t, execFullrst a0 a1 a2 = .next t ∧ Kept Q t := by
  refine ⟨_, rfl, ?_⟩
  repeat' with_reducible first
    | assumption | apply kept_rstKeyed c hE (hA 1) (hA 2) (hA 22) (hA 3) | apply kept_via c
    | apply kept_warmAssert c hA hE hI hK hN | intro x

theorem kept_execDormant (c : Closed N I T M E K W Q) (hA : ∀ p, W p) (hE : E) (hI : I) (hK : K) (hN : N) (a0 : Sys2Proof.Src) (a1 : BitVec 16) (a2 : State) (ha2 : Kept Q a2) :
    ∃ t, execDormant a0 a1 a2 = .next t ∧ Kept Q t := by
  refine ⟨_, rfl, ?_⟩
  repeat' with_reducible first
    | assumption | apply kept_goDormant c hA hE hI hK hN | apply kept_rstKeyed c hE (hA 1) (hA 2) (hA 22) (hA 3)
    | apply kept_via c | intro x

theorem kept_execLeave (c : Closed N I T M E K W Q) (hA : ∀ p, W p) (hE : E) (hI : I) (hK : K) (hN : N) (a0 : Sys2Proof.Src) (a1 : BitVec 16) (a2 : BitVec 2) (a3 : State) (ha3 : Kept Q a3) :
    ∃ t, execLeave a0 a1 a2 a3 = .next t ∧ Kept Q t := by
  refine ⟨_, rfl, ?_⟩
  repeat' with_reducible first
    | assumption | apply kept_leave c hA hE hI hK hN | apply kept_rstKeyed c hE (hA 1) (hA 2) (hA 22) (hA 3)
    | apply kept_via c | intro x | apply kept_ite | split

theorem kept_execOptload (c : Closed N I T M E K W Q) (hE : E) (hK : K) (hM : M) (hp0 : W 0) (hp1 : W 1) (hp10 : W 10) (hp11 : W 11) (hp12 : W 12) (hp13 : W 13) (hp15 : W 15) (hp18 : W 18) (hp2 : W 2) (hp20 : W 20) (hp21 : W 21) (hp22 : W 22) (hp3 : W 3) (hp4 : W 4) (hp5 : W 5) (hp6 : W 6) (hp7 : W 7) (hp8 : W 8) (a0 : Sys2Proof.Src) (a1 : BitVec 16) (a2 : State) (ha2 : Kept Q a2) :
    ∃ t, execOptload a0 a1 a2 = .next t ∧ Kept Q t := by
  refine ⟨_, rfl, ?_⟩
  repeat' with_reducible first
    | assumption
    | apply kept_optload c hE hK hM hp0 hp1 hp10 hp11 hp12 hp13 hp15 hp18 hp2 hp20 hp21 hp22 hp3 hp4 hp5 hp6 hp7 hp8
    | apply kept_rstKeyed c hE hp1 hp2 hp22 hp3 | apply kept_via c | intro x

theorem kept_execNvboot (c : Closed N I T M E K W Q) (hE : E) (hp1 : W 1) (hp2 : W 2) (hp22 : W 22) (hp3 : W 3) (a0 : Sys2Proof.Src) (a1 : BitVec 16) (a2 : State) (ha2 : Kept Q a2) :
    ∃ t, execNvboot a0 a1 a2 = .next t ∧ Kept Q t := by
  refine ⟨_, rfl, ?_⟩
  repeat' with_reducible first
    | assumption | apply kept_nvBoot c hp1 | apply kept_rstKeyed c hE hp1 hp2 hp22 hp3 | apply kept_via c
    | intro x

theorem kept_execNvsafe (c : Closed N I T M E K W Q) (hE : E) (hp1 : W 1) (hp2 : W 2) (hp22 : W 22) (hp3 : W 3) (a0 : Sys2Proof.Src) (a1 : BitVec 16) (a2 : State) (ha2 : Kept Q a2) :
    ∃ t, execNvsafe a0 a1 a2 = .next t ∧ Kept Q t := by
  refine ⟨_, rfl, ?_⟩
  repeat' with_reducible first
    | assumption | apply kept_nvSafe c hp1 | apply kept_rstKeyed c hE hp1 hp2 hp22 hp3 | apply kept_via c
    | intro x

theorem kept_execNvmWriteDone (c : Closed N I T M E K W Q) (hE : E) (hN : N) (hp1 : W 1) (hp2 : W 2) (hp22 : W 22) (hp3 : W 3) (a0 : Bool) (a1 : State) (ha1 : Kept Q a1) :
    ∃ t, execNvmWriteDone a0 a1 = .next t ∧ Kept Q t := by
  refine ⟨_, rfl, ?_⟩
  repeat' with_reducible first
    | assumption | apply kept_nvStart c | apply kept_doNvmWriteDone c hE hN hp1 hp2 hp22 hp3 | intro x

theorem kept_execWdcfgWrite (c : Closed N I T M E K W Q) (hp1 : W 1) (a0 : Sys2Proof.Src) (a1 : Sys2Proof.Word) (a2 : State) (ha2 : Kept Q a2) :
    ∃ t, execWdcfgWrite a0 a1 a2 = .next t ∧ Kept Q t := by
  refine ⟨_, rfl, ?_⟩
  repeat' with_reducible first
    | assumption | apply kept_via c | apply kept_wdCfg c hp1 | intro x

theorem kept_execWdkick (c : Closed N I T M E K W Q) (a0 : Sys2Proof.Src) (a1 : Sys2Proof.Word) (a2 : State) (ha2 : Kept Q a2) :
    ∃ t, execWdkick a0 a1 a2 = .next t ∧ Kept Q t := by
  refine ⟨_, rfl, ?_⟩
  repeat' with_reducible first
    | assumption | apply kept_via c | apply kept_wdKick c | intro x

theorem kept_execWatchdogExpiry (c : Closed N I T M E K W Q) (hA : ∀ p, W p) (hE : E) (hI : I) (hK : K) (hN : N) (a0 : State) (ha0 : Kept Q a0) :
    ∃ t, execWatchdogExpiry a0 = .next t ∧ Kept Q t := by
  refine ⟨_, rfl, ?_⟩
  repeat' with_reducible first
    | assumption | apply kept_doWatchdogExpiry c hA hE hI hK hN | intro x

theorem kept_execBringupWatchdogExpiry (c : Closed N I T M E K W Q) (hA : ∀ p, W p) (hE : E) (hI : I) (hK : K) (hN : N) (a0 : State) (ha0 : Kept Q a0) :
    ∃ t, execBringupWatchdogExpiry a0 = .next t ∧ Kept Q t := by
  refine ⟨_, rfl, ?_⟩
  repeat' with_reducible first
    | assumption | apply kept_doBringupWatchdogExpiry c hA hE hI hK hN | intro x

theorem kept_execClockFailure (c : Closed N I T M E K W Q) (hA : ∀ p, W p) (hE : E) (hI : I) (hK : K) (hN : N) (a0 : Fin 3) (a1 : State) (ha1 : Kept Q a1) :
    ∃ t, execClockFailure a0 a1 = .next t ∧ Kept Q t := by
  refine ⟨_, rfl, ?_⟩
  repeat' with_reducible first
    | assumption | apply kept_doClockFailure c hA hE hI hK hN | intro x

theorem kept_execClockQualifyTimeout (c : Closed N I T M E K W Q) (hA : ∀ p, W p) (hE : E) (hI : I) (hK : K) (hN : N) (a0 : State) (ha0 : Kept Q a0) :
    ∃ t, execClockQualifyTimeout a0 = .next t ∧ Kept Q t := by
  refine ⟨_, rfl, ?_⟩
  repeat' with_reducible first
    | assumption | apply kept_doClockQualifyTimeout c hA hE hI hK hN | intro x

theorem kept_execClockQualification (c : Closed N I T M E K W Q) (hK : K) (hT : T) (hp1 : W 1) (a0 : Fin 3) (a1 : State) (ha1 : Kept Q a1) :
    ∃ t, execClockQualification a0 a1 = .next t ∧ Kept Q t := by
  refine ⟨_, rfl, ?_⟩
  repeat' with_reducible first
    | assumption | apply kept_doClockQualification c hK hT hp1 | intro x

theorem kept_execSupplyWarning (c : Closed N I T M E K W Q) (hE : E) (hp1 : W 1) (hp2 : W 2) (hp22 : W 22) (hp3 : W 3) (a0 : Fin 3) (a1 : State) (ha1 : Kept Q a1) :
    ∃ t, execSupplyWarning a0 a1 = .next t ∧ Kept Q t := by
  refine ⟨_, rfl, ?_⟩
  repeat' with_reducible first
    | assumption | apply kept_doSupplyWarning c hE hp1 hp2 hp22 hp3 | intro x

theorem kept_execPhySupplyFail (c : Closed N I T M E K W Q) (hp0 : W 0) (hp2 : W 2) (a0 : State) (ha0 : Kept Q a0) :
    ∃ t, execPhySupplyFail a0 = .next t ∧ Kept Q t := by
  refine ⟨_, rfl, ?_⟩
  repeat' with_reducible first
    | assumption | apply kept_doPhySupplyFail c hp0 hp2 | intro x

theorem kept_execPhySupplyReturn (c : Closed N I T M E K W Q) (a0 : State) (ha0 : Kept Q a0) :
    ∃ t, execPhySupplyReturn a0 = .next t ∧ Kept Q t := by
  refine ⟨_, rfl, ?_⟩
  repeat' with_reducible first
    | assumption | apply kept_updRst c | intro x | exact kept_mk (kept_out (by assumption))

theorem kept_execBringupStepEnd (c : Closed N I T M E K W Q) (hA : ∀ p, W p) (hE : E) (hI : I) (hK : K) (hM : M) (hN : N) (a0 : State) (ha0 : Kept Q a0) :
    ∃ t, execBringupStepEnd a0 = .next t ∧ Kept Q t := by
  refine ⟨_, rfl, ?_⟩
  repeat' with_reducible first
    | assumption | apply kept_doBringupStepEnd c hA hE hI hK hM hN | intro x

theorem kept_execTapInstruction (c : Closed N I T M E K W Q) (a0 : Sys2Proof.TapIn) (a1 : State) (ha1 : Kept Q a1) :
    ∃ t, execTapInstruction a0 a1 = .next t ∧ Kept Q t := by
  refine ⟨_, rfl, ?_⟩
  repeat' with_reducible first
    | assumption | apply kept_doTapInstruction c | intro x

theorem kept_execStagedWrite (c : Closed N I T M E K W Q) (hp0 : W 0) (hp2 : W 2) (a0 : Sys2Proof.Src) (a1 : Nat) (a2 : Sys2Proof.Word) (a3 : State) (ha3 : Kept Q a3) :
    ∃ t, execStagedWrite a0 a1 a2 a3 = .next t ∧ Kept Q t := by
  refine ⟨_, rfl, ?_⟩
  repeat' with_reducible first
    | assumption | apply kept_doStagedWrite c hp0 hp2 | intro x

theorem kept_execPortRestart (c : Closed N I T M E K W Q) (hE : E) (hM : M) (hp10 : W 10) (hp11 : W 11) (hp2 : W 2) (hp22 : W 22) (hp3 : W 3) (hp4 : W 4) (hp5 : W 5) (hp6 : W 6) (hp7 : W 7) (hp8 : W 8) (a0 : Sys2Proof.Src) (a1 : Fin 16) (a2 : State) (ha2 : Kept Q a2) :
    ∃ t, execPortRestart a0 a1 a2 = .next t ∧ Kept Q t := by
  refine ⟨_, rfl, ?_⟩
  repeat' with_reducible first
    | assumption | apply kept_portRestart c hE hM hp10 hp11 hp2 hp22 hp3 hp4 hp5 hp6 hp7 hp8 | apply kept_via c
    | intro x

theorem kept_execEpochBoundary (c : Closed N I T M E K W Q) (hA : ∀ p, W p) (hE : E) (hK : K) (hM : M) (a0 : State) (ha0 : Kept Q a0) :
    ∃ t, execEpochBoundary a0 = .next t ∧ Kept Q t := by
  refine ⟨_, rfl, ?_⟩
  repeat' with_reducible first
    | assumption | apply kept_doEpochBoundary c hA hE hK hM | intro x

theorem kept_execStimeWrap (c : Closed N I T M E K W Q) (hE : E) (hK : K) (hp0 : W 0) (hp2 : W 2) (hp22 : W 22) (hp3 : W 3) (a0 : State) (ha0 : Kept Q a0) :
    ∃ t, execStimeWrap a0 = .next t ∧ Kept Q t := by
  refine ⟨_, rfl, ?_⟩
  repeat' with_reducible first
    | assumption | apply kept_doStimeWrap c hE hK hp0 hp2 hp22 hp3 | intro x

theorem kept_execSnapshotRead (c : Closed N I T M E K W Q) (hM : M) (a0 : Sys2Proof.Src) (a1 : Sys2Proof.Access) (a2 : State) (ha2 : Kept Q a2) :
    ∃ t, execSnapshotRead a0 a1 a2 = .next t ∧ Kept Q t := by
  refine ⟨_, rfl, ?_⟩
  repeat' with_reducible first
    | assumption | apply kept_readOut c hM | apply kept_via c | intro x

theorem kept_execPredictionRead (c : Closed N I T M E K W Q) (hM : M) (a0 : Sys2Proof.Src) (a1 : Fin 18) (a2 : State) (ha2 : Kept Q a2) :
    ∃ t, execPredictionRead a0 a1 a2 = .next t ∧ Kept Q t := by
  refine ⟨_, rfl, ?_⟩
  repeat' with_reducible first
    | assumption | apply kept_readOut c hM | apply kept_via c | intro x

theorem kept_execKeyedWrite (c : Closed N I T M E K W Q) (hA : ∀ p, W p) (hE : E) (a0 : Sys2Proof.Src) (a1 : Nat) (a2 : Sys2Proof.Word) (a3 : State) (ha3 : Kept Q a3) :
    ∃ t, execKeyedWrite a0 a1 a2 a3 = .next t ∧ Kept Q t := by
  refine ⟨_, rfl, ?_⟩
  repeat' with_reducible first
    | assumption | apply kept_keyedWrite c hA hE | apply kept_via c | intro x | apply kept_ite | split

theorem kept_execApply (c : Closed N I T M E K W Q) (hE : E) (hp16 : W 16) (hp2 : W 2) (hp22 : W 22) (hp3 : W 3) (a0 : Sys2Proof.Src) (a1 : State) (ha1 : Kept Q a1) :
    ∃ t, execApply a0 a1 = .next t ∧ Kept Q t := by
  refine ⟨_, rfl, ?_⟩
  repeat' with_reducible first
    | assumption | apply kept_keyed c hE hp16 hp2 hp22 hp3 | apply kept_safApply c hE hp16 hp2 hp22 hp3
    | apply kept_via c | intro x

theorem kept_execSafCfgDiscard (c : Closed N I T M E K W Q) (hE : E) (hp16 : W 16) (hp17 : W 17) (hp2 : W 2) (hp22 : W 22) (hp3 : W 3) (a0 : Sys2Proof.Src) (a1 : State) (ha1 : Kept Q a1) :
    ∃ t, execSafCfgDiscard a0 a1 = .next t ∧ Kept Q t := by
  refine ⟨_, rfl, ?_⟩
  repeat' with_reducible first
    | assumption | apply kept_keyed c hE hp16 hp2 hp22 hp3 | apply kept_safDiscard c hp16 hp17 | apply kept_via c
    | intro x

theorem kept_execAxisAck (c : Closed N I T M E K W Q) (hE : E) (hp16 : W 16) (hp2 : W 2) (hp22 : W 22) (hp3 : W 3) (a0 : Sys2Proof.Src) (a1 : BitVec 8) (a2 : State) (ha2 : Kept Q a2) :
    ∃ t, execAxisAck a0 a1 a2 = .next t ∧ Kept Q t := by
  refine ⟨_, rfl, ?_⟩
  repeat' with_reducible first
    | assumption | apply kept_axisAck c hE hp16 hp2 hp22 hp3 | apply kept_keyed c hE hp16 hp2 hp22 hp3
    | apply kept_via c | intro x

theorem kept_execDevAck (c : Closed N I T M E K W Q) (hE : E) (hp16 : W 16) (hp2 : W 2) (hp22 : W 22) (hp3 : W 3) (a0 : Sys2Proof.Src) (a1 : State) (ha1 : Kept Q a1) :
    ∃ t, execDevAck a0 a1 = .next t ∧ Kept Q t := by
  refine ⟨_, rfl, ?_⟩
  repeat' with_reducible first
    | assumption | apply kept_devAck c hE hp16 hp2 hp22 hp3 | apply kept_keyed c hE hp16 hp2 hp22 hp3
    | apply kept_via c | intro x

theorem kept_execDiscAck (c : Closed N I T M E K W Q) (hE : E) (hp16 : W 16) (hp2 : W 2) (hp22 : W 22) (hp3 : W 3) (a0 : Sys2Proof.Src) (a1 : BitVec 8) (a2 : State) (ha2 : Kept Q a2) :
    ∃ t, execDiscAck a0 a1 a2 = .next t ∧ Kept Q t := by
  refine ⟨_, rfl, ?_⟩
  repeat' with_reducible first
    | assumption | apply kept_discAck c hE hp16 hp2 hp22 hp3 | apply kept_keyed c hE hp16 hp2 hp22 hp3
    | apply kept_via c | intro x

theorem kept_execConnAck (c : Closed N I T M E K W Q) (hE : E) (hp16 : W 16) (hp17 : W 17) (hp2 : W 2) (hp22 : W 22) (hp3 : W 3) (a0 : Sys2Proof.Src) (a1 : BitVec 8) (a2 : State) (ha2 : Kept Q a2) :
    ∃ t, execConnAck a0 a1 a2 = .next t ∧ Kept Q t := by
  refine ⟨_, rfl, ?_⟩
  repeat' with_reducible first
    | assumption | apply kept_connAck c hp17 | apply kept_keyed c hE hp16 hp2 hp22 hp3 | apply kept_via c
    | intro x

theorem kept_execLiveTableWrite (c : Closed N I T M E K W Q) (hp0 : W 0) (hp13 : W 13) (hp2 : W 2) (a0 : Sys2Proof.Src) (a1 : Sys2Proof.Word) (a2 : State) (ha2 : Kept Q a2) :
    ∃ t, execLiveTableWrite a0 a1 a2 = .next t ∧ Kept Q t := by
  refine ⟨_, rfl, ?_⟩
  repeat' with_reducible first
    | assumption | apply kept_liveTableWrite c hp0 hp13 hp2 | apply kept_via c | intro x

theorem kept_execObjectWrite (c : Closed N I T M E K W Q) (hE : E) (hM : M) (hp0 : W 0) (hp18 : W 18) (hp2 : W 2) (hp22 : W 22) (hp3 : W 3) (a0 : Sys2Proof.Src) (a1 : Fin 2) (a2 : Sys2Proof.Word) (a3 : State) (ha3 : Kept Q a3) :
    ∃ t, execObjectWrite a0 a1 a2 a3 = .next t ∧ Kept Q t := by
  refine ⟨_, rfl, ?_⟩
  repeat' with_reducible first
    | assumption | apply kept_objectWrite c hE hM hp0 hp18 hp2 hp22 hp3 | apply kept_via c | intro x

theorem kept_execRegisterWrite (c : Closed N I T M E K W Q) (hA : ∀ p, W p) (hE : E) (hI : I) (hK : K) (hM : M) (hN : N) (a0 : Sys2Proof.Src) (a1 : Nat) (a2 : Sys2Proof.Word) (a3 : Nat) (a4 : State) (ha4 : Kept Q a4) :
    ∃ t, execRegisterWrite a0 a1 a2 a3 a4 = .next t ∧ Kept Q t := by
  refine ⟨_, rfl, ?_⟩
  repeat' with_reducible first
    | assumption | apply kept_at c | apply kept_busWrite c hA hE hI hK hM hN | intro x | apply kept_ite | split

theorem kept_execSatClear (c : Closed N I T M E K W Q) (hA : ∀ p, W p) (hE : E) (hI : I) (hK : K) (hM : M) (hN : N) (a0 : Sys2Proof.Src) (a1 : Nat) (a2 : State) (ha2 : Kept Q a2) :
    ∃ t, execSatClear a0 a1 a2 = .next t ∧ Kept Q t := by
  refine ⟨_, rfl, ?_⟩
  repeat' with_reducible first
    | assumption | apply kept_at c | apply kept_busWrite c hA hE hI hK hM hN | intro x | apply kept_ite | split

theorem kept_execBar2Write (c : Closed N I T M E K W Q) (hM : M) (a0 : Sys2Proof.Src) (a1 : Nat) (a2 : Sys2Proof.Word) (a3 : State) (ha3 : Kept Q a3) :
    ∃ t, execBar2Write a0 a1 a2 a3 = .next t ∧ Kept Q t := by
  refine ⟨_, rfl, ?_⟩
  repeat' with_reducible first
    | assumption | apply kept_bar2Put c hM | apply kept_via c | intro x

theorem kept_execRegwr (c : Closed N I T M E K W Q) (hA : ∀ p, W p) (hE : E) (hI : I) (hK : K) (hM : M) (hN : N) (a0 : Sys2Proof.Desc) (a1 : List Sys2Proof.RegPair) (a2 : State) (ha2 : Kept Q a2) :
    ∃ t, execRegwr a0 a1 a2 = .next t ∧ Kept Q t := by
  refine ⟨_, rfl, ?_⟩
  repeat' with_reducible first
    | assumption | apply kept_descr c (hA 2) | apply kept_regwrDesc c hA hE hI hK hM hN | intro x

theorem kept_execRegrd (c : Closed N I T M E K W Q) (hM : M) (hp2 : W 2) (a0 : Sys2Proof.Desc) (a1 : Nat) (a2 : State) (ha2 : Kept Q a2) :
    ∃ t, execRegrd a0 a1 a2 = .next t ∧ Kept Q t := by
  refine ⟨_, rfl, ?_⟩
  repeat' with_reducible first
    | assumption | apply kept_descr c hp2 | apply kept_regrdDesc c hM | intro x

theorem kept_execSpiRead (c : Closed N I T M E K W Q) (hA : ∀ p, W p) (hE : E) (hI : I) (hK : K) (hM : M) (hN : N) (a0 : List Sys2Proof.Byte) (a1 : Nat) (a2 : State) (ha2 : Kept Q a2) :
    ∃ t, execSpiRead a0 a1 a2 = .next t ∧ Kept Q t := by
  refine ⟨_, rfl, ?_⟩
  repeat' with_reducible first
    | assumption | apply kept_spiFrame c hA hE hI hK hM hN | intro x

theorem kept_execSpiWrite (c : Closed N I T M E K W Q) (hA : ∀ p, W p) (hE : E) (hI : I) (hK : K) (hM : M) (hN : N) (a0 : List Sys2Proof.Byte) (a1 : Nat) (a2 : State) (ha2 : Kept Q a2) :
    ∃ t, execSpiWrite a0 a1 a2 = .next t ∧ Kept Q t := by
  refine ⟨_, rfl, ?_⟩
  repeat' with_reducible first
    | assumption | apply kept_spiFrame c hA hE hI hK hM hN | intro x

theorem kept_execSpiAbort (c : Closed N I T M E K W Q) (hA : ∀ p, W p) (hE : E) (hI : I) (hK : K) (hM : M) (hN : N) (a0 : List Sys2Proof.Byte) (a1 : Nat) (a2 : State) (ha2 : Kept Q a2) :
    ∃ t, execSpiAbort a0 a1 a2 = .next t ∧ Kept Q t := by
  refine ⟨_, rfl, ?_⟩
  repeat' with_reducible first
    | assumption | apply kept_doSpiAbort c hA hE hI hK hM hN | intro x

theorem kept_execFreshnessExpiry (c : Closed N I T M E K W Q) (hA : ∀ p, W p) (hM : M) (a0 : Sys2Proof.FreshItem) (a1 : State) (ha1 : Kept Q a1) :
    ∃ t, execFreshnessExpiry a0 a1 = .next t ∧ Kept Q t := by
  refine ⟨_, rfl, ?_⟩
  repeat' with_reducible first
    | assumption | apply kept_doFreshnessExpiry c hA hM | intro x

theorem kept_execSample (c : Closed N I T M E K W Q) (hE : E) (hK : K) (hM : M) (hT : T) (hp0 : W 0) (hp10 : W 10) (hp11 : W 11) (hp12 : W 12) (hp13 : W 13) (hp15 : W 15) (hp16 : W 16) (hp18 : W 18) (hp2 : W 2) (hp21 : W 21) (hp22 : W 22) (hp3 : W 3) (hp4 : W 4) (hp5 : W 5) (hp6 : W 6) (hp8 : W 8) (hp9 : W 9) (a0 : Sys2Proof.SampleIn) (a1 : State) (ha1 : Kept Q a1) :
    ∃ t, execSample a0 a1 = .next t ∧ Kept Q t := by
  refine ⟨_, rfl, ?_⟩
  repeat' with_reducible first
    | assumption
    | apply kept_doSample c hE hK hM hT hp0 hp10 hp11 hp12 hp13 hp15 hp16 hp18 hp2 hp21 hp22 hp3 hp4 hp5 hp6 hp8 hp9
    | intro x

theorem kept_execDecimatedOutput (c : Closed N I T M E K W Q) (hE : E) (hp16 : W 16) (hp2 : W 2) (hp22 : W 22) (hp3 : W 3) (hp6 : W 6) (hp7 : W 7) (hp8 : W 8) (hp9 : W 9) (a0 : Fin 16) (a1 : State) (ha1 : Kept Q a1) :
    ∃ t, execDecimatedOutput a0 a1 = .next t ∧ Kept Q t := by
  refine ⟨_, rfl, ?_⟩
  repeat' with_reducible first
    | assumption | apply kept_doDecimatedOutput c hE hp16 hp2 hp22 hp3 hp6 hp7 hp8 hp9 | intro x

end Sys2Proof.Laws
end

