-- ==== Sys2Proof/Laws/State.lean ====
section
/-! SUPPORT. What each update of one part of the state leaves: one lemma per update and field, true by `rfl`. -/

namespace Sys2Proof.Machine

set_option linter.all false

/-! ### `State.w` -/

@[simp] theorem State.w_now (s : State) (f : Fld) (n v : Nat) : (s.w f n v).now = s.now := rfl
@[simp] theorem State.w_t (s : State) (f : Fld) (n v : Nat) : (s.w f n v).t = s.t := rfl
@[simp] theorem State.w_sram (s : State) (f : Fld) (n v : Nat) : (s.w f n v).sram = s.sram := rfl
@[simp] theorem State.w_nvm (s : State) (f : Fld) (n v : Nat) : (s.w f n v).nvm = s.nvm := rfl
@[simp] theorem State.w_free (s : State) (f : Fld) (n v : Nat) : (s.w f n v).free = s.free := rfl
@[simp] theorem State.w_wrapped (s : State) (f : Fld) (n v : Nat) : (s.w f n v).wrapped = s.wrapped := rfl
@[simp] theorem State.w_adcOn (s : State) (f : Fld) (n v : Nat) : (s.w f n v).adcOn = s.adcOn := rfl
@[simp] theorem State.w_k (s : State) (f : Fld) (n v : Nat) : (s.w f n v).k = s.k := rfl
@[simp] theorem State.w_bDone (s : State) (f : Fld) (n v : Nat) : (s.w f n v).bDone = s.bDone := rfl
@[simp] theorem State.w_kB (s : State) (f : Fld) (n v : Nat) : (s.w f n v).kB = s.kB := rfl
@[simp] theorem State.w_s0 (s : State) (f : Fld) (n v : Nat) : (s.w f n v).s0 = s.s0 := rfl
@[simp] theorem State.w_staged (s : State) (f : Fld) (n v : Nat) : (s.w f n v).staged = s.staged := rfl
@[simp] theorem State.w_overflow (s : State) (f : Fld) (n v : Nat) : (s.w f n v).overflow = s.overflow := rfl
@[simp] theorem State.w_commit (s : State) (f : Fld) (n v : Nat) : (s.w f n v).commit = s.commit := rfl
@[simp] theorem State.w_epochs (s : State) (f : Fld) (n v : Nat) : (s.w f n v).epochs = s.epochs := rfl
@[simp] theorem State.w_latches (s : State) (f : Fld) (n v : Nat) : (s.w f n v).latches = s.latches := rfl
@[simp] theorem State.w_prt (s : State) (f : Fld) (n v : Nat) : (s.w f n v).prt = s.prt := rfl
@[simp] theorem State.w_exc (s : State) (f : Fld) (n v : Nat) : (s.w f n v).exc = s.exc := rfl
@[simp] theorem State.w_acq (s : State) (f : Fld) (n v : Nat) : (s.w f n v).acq = s.acq := rfl
@[simp] theorem State.w_obs (s : State) (f : Fld) (n v : Nat) : (s.w f n v).obs = s.obs := rfl
@[simp] theorem State.w_div (s : State) (f : Fld) (n v : Nat) : (s.w f n v).div = s.div := rfl
@[simp] theorem State.w_cal (s : State) (f : Fld) (n v : Nat) : (s.w f n v).cal = s.cal := rfl
@[simp] theorem State.w_calStep (s : State) (f : Fld) (n v : Nat) : (s.w f n v).calStep = s.calStep := rfl
@[simp] theorem State.w_calAcc (s : State) (f : Fld) (n v : Nat) : (s.w f n v).calAcc = s.calAcc := rfl
@[simp] theorem State.w_swpAcc (s : State) (f : Fld) (n v : Nat) : (s.w f n v).swpAcc = s.swpAcc := rfl
@[simp] theorem State.w_obsLim (s : State) (f : Fld) (n v : Nat) : (s.w f n v).obsLim = s.obsLim := rfl
@[simp] theorem State.w_sinc (s : State) (f : Fld) (n v : Nat) : (s.w f n v).sinc = s.sinc := rfl
@[simp] theorem State.w_tsrc (s : State) (f : Fld) (n v : Nat) : (s.w f n v).tsrc = s.tsrc := rfl
@[simp] theorem State.w_safPar (s : State) (f : Fld) (n v : Nat) : (s.w f n v).safPar = s.safPar := rfl
@[simp] theorem State.w_permAt (s : State) (f : Fld) (n v : Nat) : (s.w f n v).permAt = s.permAt := rfl
@[simp] theorem State.w_stamps (s : State) (f : Fld) (n v : Nat) : (s.w f n v).stamps = s.stamps := rfl
@[simp] theorem State.w_lrn (s : State) (f : Fld) (n v : Nat) : (s.w f n v).lrn = s.lrn := rfl
@[simp] theorem State.w_nvq (s : State) (f : Fld) (n v : Nat) : (s.w f n v).nvq = s.nvq := rfl
@[simp] theorem State.w_nvPorts (s : State) (f : Fld) (n v : Nat) : (s.w f n v).nvPorts = s.nvPorts := rfl
@[simp] theorem State.w_nvBuf (s : State) (f : Fld) (n v : Nat) : (s.w f n v).nvBuf = s.nvBuf := rfl
@[simp] theorem State.w_dfb (s : State) (f : Fld) (n v : Nat) : (s.w f n v).dfb = s.dfb := rfl
@[simp] theorem State.w_emu (s : State) (f : Fld) (n v : Nat) : (s.w f n v).emu = s.emu := rfl
@[simp] theorem State.w_emuDrv (s : State) (f : Fld) (n v : Nat) : (s.w f n v).emuDrv = s.emuDrv := rfl
@[simp] theorem State.w_blankWin (s : State) (f : Fld) (n v : Nat) : (s.w f n v).blankWin = s.blankWin := rfl
@[simp] theorem State.w_obsOld (s : State) (f : Fld) (n v : Nat) : (s.w f n v).obsOld = s.obsOld := rfl
@[simp] theorem State.w_slots (s : State) (f : Fld) (n v : Nat) : (s.w f n v).slots = s.slots := rfl
@[simp] theorem State.w_copies (s : State) (f : Fld) (n v : Nat) : (s.w f n v).copies = s.copies := rfl
@[simp] theorem State.w_pwms (s : State) (f : Fld) (n v : Nat) : (s.w f n v).pwms = s.pwms := rfl
@[simp] theorem State.w_gt (s : State) (f : Fld) (n v : Nat) : (s.w f n v).gt = s.gt := rfl
@[simp] theorem State.w_stream (s : State) (f : Fld) (n v : Nat) : (s.w f n v).stream = s.stream := rfl
@[simp] theorem State.w_geyDrv (s : State) (f : Fld) (n v : Nat) : (s.w f n v).geyDrv = s.geyDrv := rfl
@[simp] theorem State.w_vnt (s : State) (f : Fld) (n v : Nat) : (s.w f n v).vnt = s.vnt := rfl
@[simp] theorem State.w_ventReq (s : State) (f : Fld) (n v : Nat) : (s.w f n v).ventReq = s.ventReq := rfl
@[simp] theorem State.w_inj (s : State) (f : Fld) (n v : Nat) : (s.w f n v).inj = s.inj := rfl
@[simp] theorem State.w_injEnd (s : State) (f : Fld) (n v : Nat) : (s.w f n v).injEnd = s.injEnd := rfl
@[simp] theorem State.w_poison (s : State) (f : Fld) (n v : Nat) : (s.w f n v).poison = s.poison := rfl
@[simp] theorem State.w_ashDue (s : State) (f : Fld) (n v : Nat) : (s.w f n v).ashDue = s.ashDue := rfl
@[simp] theorem State.w_tmp (s : State) (f : Fld) (n v : Nat) : (s.w f n v).tmp = s.tmp := rfl
@[simp] theorem State.w_tsl (s : State) (f : Fld) (n v : Nat) : (s.w f n v).tsl = s.tsl := rfl
@[simp] theorem State.w_pairEnd (s : State) (f : Fld) (n v : Nat) : (s.w f n v).pairEnd = s.pairEnd := rfl
@[simp] theorem State.w_tmpFrom (s : State) (f : Fld) (n v : Nat) : (s.w f n v).tmpFrom = s.tmpFrom := rfl
@[simp] theorem State.w_actA (s : State) (f : Fld) (n v : Nat) : (s.w f n v).actA = s.actA := rfl
@[simp] theorem State.w_actB (s : State) (f : Fld) (n v : Nat) : (s.w f n v).actB = s.actB := rfl
@[simp] theorem State.w_axA (s : State) (f : Fld) (n v : Nat) : (s.w f n v).axA = s.axA := rfl
@[simp] theorem State.w_axB (s : State) (f : Fld) (n v : Nat) : (s.w f n v).axB = s.axB := rfl
@[simp] theorem State.w_siB (s : State) (f : Fld) (n v : Nat) : (s.w f n v).siB = s.siB := rfl
@[simp] theorem State.w_discA (s : State) (f : Fld) (n v : Nat) : (s.w f n v).discA = s.discA := rfl
@[simp] theorem State.w_discB (s : State) (f : Fld) (n v : Nat) : (s.w f n v).discB = s.discB := rfl
@[simp] theorem State.w_latA (s : State) (f : Fld) (n v : Nat) : (s.w f n v).latA = s.latA := rfl
@[simp] theorem State.w_latB (s : State) (f : Fld) (n v : Nat) : (s.w f n v).latB = s.latB := rfl
@[simp] theorem State.w_keys (s : State) (f : Fld) (n v : Nat) : (s.w f n v).keys = s.keys := rfl
@[simp] theorem State.w_xst (s : State) (f : Fld) (n v : Nat) : (s.w f n v).xst = s.xst := rfl
@[simp] theorem State.w_appWait (s : State) (f : Fld) (n v : Nat) : (s.w f n v).appWait = s.appWait := rfl
@[simp] theorem State.w_ftLat (s : State) (f : Fld) (n v : Nat) : (s.w f n v).ftLat = s.ftLat := rfl
@[simp] theorem State.w_susp (s : State) (f : Fld) (n v : Nat) : (s.w f n v).susp = s.susp := rfl
@[simp] theorem State.w_gapAt (s : State) (f : Fld) (n v : Nat) : (s.w f n v).gapAt = s.gapAt := rfl
@[simp] theorem State.w_smOn (s : State) (f : Fld) (n v : Nat) : (s.w f n v).smOn = s.smOn := rfl
@[simp] theorem State.w_conns (s : State) (f : Fld) (n v : Nat) : (s.w f n v).conns = s.conns := rfl
@[simp] theorem State.w_can (s : State) (f : Fld) (n v : Nat) : (s.w f n v).can = s.can := rfl
@[simp] theorem State.w_canAt (s : State) (f : Fld) (n v : Nat) : (s.w f n v).canAt = s.canAt := rfl
@[simp] theorem State.w_canWake (s : State) (f : Fld) (n v : Nat) : (s.w f n v).canWake = s.canWake := rfl
@[simp] theorem State.w_flagHist (s : State) (f : Fld) (n v : Nat) : (s.w f n v).flagHist = s.flagHist := rfl
@[simp] theorem State.w_chn (s : State) (f : Fld) (n v : Nat) : (s.w f n v).chn = s.chn := rfl
@[simp] theorem State.w_twn (s : State) (f : Fld) (n v : Nat) : (s.w f n v).twn = s.twn := rfl
@[simp] theorem State.w_rst (s : State) (f : Fld) (n v : Nat) : (s.w f n v).rst = s.rst := rfl
@[simp] theorem State.w_snt (s : State) (f : Fld) (n v : Nat) : (s.w f n v).snt = s.snt := rfl
@[simp] theorem State.w_tap (s : State) (f : Fld) (n v : Nat) : (s.w f n v).tap = s.tap := rfl
@[simp] theorem State.w_host (s : State) (f : Fld) (n v : Nat) : (s.w f n v).host = s.host := rfl
@[simp] theorem State.w_pending (s : State) (f : Fld) (n v : Nat) : (s.w f n v).pending = s.pending := rfl
@[simp] theorem State.w_outbox (s : State) (f : Fld) (n v : Nat) : (s.w f n v).outbox = s.outbox := rfl

/-! ### `State.setSramByte` -/

@[simp] theorem State.setSramByte_now (s : State) (a : Nat) (v : Byte) : (s.setSramByte a v).now = s.now := rfl
@[simp] theorem State.setSramByte_t (s : State) (a : Nat) (v : Byte) : (s.setSramByte a v).t = s.t := rfl
@[simp] theorem State.setSramByte_fields (s : State) (a : Nat) (v : Byte) : (s.setSramByte a v).fields = s.fields := rfl
@[simp] theorem State.setSramByte_nvm (s : State) (a : Nat) (v : Byte) : (s.setSramByte a v).nvm = s.nvm := rfl
@[simp] theorem State.setSramByte_free (s : State) (a : Nat) (v : Byte) : (s.setSramByte a v).free = s.free := rfl
@[simp] theorem State.setSramByte_wrapped (s : State) (a : Nat) (v : Byte) : (s.setSramByte a v).wrapped = s.wrapped := rfl
@[simp] theorem State.setSramByte_adcOn (s : State) (a : Nat) (v : Byte) : (s.setSramByte a v).adcOn = s.adcOn := rfl
@[simp] theorem State.setSramByte_k (s : State) (a : Nat) (v : Byte) : (s.setSramByte a v).k = s.k := rfl
@[simp] theorem State.setSramByte_bDone (s : State) (a : Nat) (v : Byte) : (s.setSramByte a v).bDone = s.bDone := rfl
@[simp] theorem State.setSramByte_kB (s : State) (a : Nat) (v : Byte) : (s.setSramByte a v).kB = s.kB := rfl
@[simp] theorem State.setSramByte_s0 (s : State) (a : Nat) (v : Byte) : (s.setSramByte a v).s0 = s.s0 := rfl
@[simp] theorem State.setSramByte_staged (s : State) (a : Nat) (v : Byte) : (s.setSramByte a v).staged = s.staged := rfl
@[simp] theorem State.setSramByte_overflow (s : State) (a : Nat) (v : Byte) : (s.setSramByte a v).overflow = s.overflow := rfl
@[simp] theorem State.setSramByte_commit (s : State) (a : Nat) (v : Byte) : (s.setSramByte a v).commit = s.commit := rfl
@[simp] theorem State.setSramByte_epochs (s : State) (a : Nat) (v : Byte) : (s.setSramByte a v).epochs = s.epochs := rfl
@[simp] theorem State.setSramByte_latches (s : State) (a : Nat) (v : Byte) : (s.setSramByte a v).latches = s.latches := rfl
@[simp] theorem State.setSramByte_prt (s : State) (a : Nat) (v : Byte) : (s.setSramByte a v).prt = s.prt := rfl
@[simp] theorem State.setSramByte_exc (s : State) (a : Nat) (v : Byte) : (s.setSramByte a v).exc = s.exc := rfl
@[simp] theorem State.setSramByte_acq (s : State) (a : Nat) (v : Byte) : (s.setSramByte a v).acq = s.acq := rfl
@[simp] theorem State.setSramByte_obs (s : State) (a : Nat) (v : Byte) : (s.setSramByte a v).obs = s.obs := rfl
@[simp] theorem State.setSramByte_div (s : State) (a : Nat) (v : Byte) : (s.setSramByte a v).div = s.div := rfl
@[simp] theorem State.setSramByte_cal (s : State) (a : Nat) (v : Byte) : (s.setSramByte a v).cal = s.cal := rfl
@[simp] theorem State.setSramByte_calStep (s : State) (a : Nat) (v : Byte) : (s.setSramByte a v).calStep = s.calStep := rfl
@[simp] theorem State.setSramByte_calAcc (s : State) (a : Nat) (v : Byte) : (s.setSramByte a v).calAcc = s.calAcc := rfl
@[simp] theorem State.setSramByte_swpAcc (s : State) (a : Nat) (v : Byte) : (s.setSramByte a v).swpAcc = s.swpAcc := rfl
@[simp] theorem State.setSramByte_obsLim (s : State) (a : Nat) (v : Byte) : (s.setSramByte a v).obsLim = s.obsLim := rfl
@[simp] theorem State.setSramByte_sinc (s : State) (a : Nat) (v : Byte) : (s.setSramByte a v).sinc = s.sinc := rfl
@[simp] theorem State.setSramByte_tsrc (s : State) (a : Nat) (v : Byte) : (s.setSramByte a v).tsrc = s.tsrc := rfl
@[simp] theorem State.setSramByte_safPar (s : State) (a : Nat) (v : Byte) : (s.setSramByte a v).safPar = s.safPar := rfl
@[simp] theorem State.setSramByte_permAt (s : State) (a : Nat) (v : Byte) : (s.setSramByte a v).permAt = s.permAt := rfl
@[simp] theorem State.setSramByte_stamps (s : State) (a : Nat) (v : Byte) : (s.setSramByte a v).stamps = s.stamps := rfl
@[simp] theorem State.setSramByte_lrn (s : State) (a : Nat) (v : Byte) : (s.setSramByte a v).lrn = s.lrn := rfl
@[simp] theorem State.setSramByte_nvq (s : State) (a : Nat) (v : Byte) : (s.setSramByte a v).nvq = s.nvq := rfl
@[simp] theorem State.setSramByte_nvPorts (s : State) (a : Nat) (v : Byte) : (s.setSramByte a v).nvPorts = s.nvPorts := rfl
@[simp] theorem State.setSramByte_nvBuf (s : State) (a : Nat) (v : Byte) : (s.setSramByte a v).nvBuf = s.nvBuf := rfl
@[simp] theorem State.setSramByte_dfb (s : State) (a : Nat) (v : Byte) : (s.setSramByte a v).dfb = s.dfb := rfl
@[simp] theorem State.setSramByte_emu (s : State) (a : Nat) (v : Byte) : (s.setSramByte a v).emu = s.emu := rfl
@[simp] theorem State.setSramByte_emuDrv (s : State) (a : Nat) (v : Byte) : (s.setSramByte a v).emuDrv = s.emuDrv := rfl
@[simp] theorem State.setSramByte_blankWin (s : State) (a : Nat) (v : Byte) : (s.setSramByte a v).blankWin = s.blankWin := rfl
@[simp] theorem State.setSramByte_obsOld (s : State) (a : Nat) (v : Byte) : (s.setSramByte a v).obsOld = s.obsOld := rfl
@[simp] theorem State.setSramByte_slots (s : State) (a : Nat) (v : Byte) : (s.setSramByte a v).slots = s.slots := rfl
@[simp] theorem State.setSramByte_copies (s : State) (a : Nat) (v : Byte) : (s.setSramByte a v).copies = s.copies := rfl
@[simp] theorem State.setSramByte_pwms (s : State) (a : Nat) (v : Byte) : (s.setSramByte a v).pwms = s.pwms := rfl
@[simp] theorem State.setSramByte_gt (s : State) (a : Nat) (v : Byte) : (s.setSramByte a v).gt = s.gt := rfl
@[simp] theorem State.setSramByte_stream (s : State) (a : Nat) (v : Byte) : (s.setSramByte a v).stream = s.stream := rfl
@[simp] theorem State.setSramByte_geyDrv (s : State) (a : Nat) (v : Byte) : (s.setSramByte a v).geyDrv = s.geyDrv := rfl
@[simp] theorem State.setSramByte_vnt (s : State) (a : Nat) (v : Byte) : (s.setSramByte a v).vnt = s.vnt := rfl
@[simp] theorem State.setSramByte_ventReq (s : State) (a : Nat) (v : Byte) : (s.setSramByte a v).ventReq = s.ventReq := rfl
@[simp] theorem State.setSramByte_inj (s : State) (a : Nat) (v : Byte) : (s.setSramByte a v).inj = s.inj := rfl
@[simp] theorem State.setSramByte_injEnd (s : State) (a : Nat) (v : Byte) : (s.setSramByte a v).injEnd = s.injEnd := rfl
@[simp] theorem State.setSramByte_ashDue (s : State) (a : Nat) (v : Byte) : (s.setSramByte a v).ashDue = s.ashDue := rfl
@[simp] theorem State.setSramByte_tmp (s : State) (a : Nat) (v : Byte) : (s.setSramByte a v).tmp = s.tmp := rfl
@[simp] theorem State.setSramByte_tsl (s : State) (a : Nat) (v : Byte) : (s.setSramByte a v).tsl = s.tsl := rfl
@[simp] theorem State.setSramByte_pairEnd (s : State) (a : Nat) (v : Byte) : (s.setSramByte a v).pairEnd = s.pairEnd := rfl
@[simp] theorem State.setSramByte_tmpFrom (s : State) (a : Nat) (v : Byte) : (s.setSramByte a v).tmpFrom = s.tmpFrom := rfl
@[simp] theorem State.setSramByte_actA (s : State) (a : Nat) (v : Byte) : (s.setSramByte a v).actA = s.actA := rfl
@[simp] theorem State.setSramByte_actB (s : State) (a : Nat) (v : Byte) : (s.setSramByte a v).actB = s.actB := rfl
@[simp] theorem State.setSramByte_axA (s : State) (a : Nat) (v : Byte) : (s.setSramByte a v).axA = s.axA := rfl
@[simp] theorem State.setSramByte_axB (s : State) (a : Nat) (v : Byte) : (s.setSramByte a v).axB = s.axB := rfl
@[simp] theorem State.setSramByte_siB (s : State) (a : Nat) (v : Byte) : (s.setSramByte a v).siB = s.siB := rfl
@[simp] theorem State.setSramByte_discA (s : State) (a : Nat) (v : Byte) : (s.setSramByte a v).discA = s.discA := rfl
@[simp] theorem State.setSramByte_discB (s : State) (a : Nat) (v : Byte) : (s.setSramByte a v).discB = s.discB := rfl
@[simp] theorem State.setSramByte_latA (s : State) (a : Nat) (v : Byte) : (s.setSramByte a v).latA = s.latA := rfl
@[simp] theorem State.setSramByte_latB (s : State) (a : Nat) (v : Byte) : (s.setSramByte a v).latB = s.latB := rfl
@[simp] theorem State.setSramByte_keys (s : State) (a : Nat) (v : Byte) : (s.setSramByte a v).keys = s.keys := rfl
@[simp] theorem State.setSramByte_xst (s : State) (a : Nat) (v : Byte) : (s.setSramByte a v).xst = s.xst := rfl
@[simp] theorem State.setSramByte_appWait (s : State) (a : Nat) (v : Byte) : (s.setSramByte a v).appWait = s.appWait := rfl
@[simp] theorem State.setSramByte_ftLat (s : State) (a : Nat) (v : Byte) : (s.setSramByte a v).ftLat = s.ftLat := rfl
@[simp] theorem State.setSramByte_susp (s : State) (a : Nat) (v : Byte) : (s.setSramByte a v).susp = s.susp := rfl
@[simp] theorem State.setSramByte_gapAt (s : State) (a : Nat) (v : Byte) : (s.setSramByte a v).gapAt = s.gapAt := rfl
@[simp] theorem State.setSramByte_smOn (s : State) (a : Nat) (v : Byte) : (s.setSramByte a v).smOn = s.smOn := rfl
@[simp] theorem State.setSramByte_conns (s : State) (a : Nat) (v : Byte) : (s.setSramByte a v).conns = s.conns := rfl
@[simp] theorem State.setSramByte_can (s : State) (a : Nat) (v : Byte) : (s.setSramByte a v).can = s.can := rfl
@[simp] theorem State.setSramByte_canAt (s : State) (a : Nat) (v : Byte) : (s.setSramByte a v).canAt = s.canAt := rfl
@[simp] theorem State.setSramByte_canWake (s : State) (a : Nat) (v : Byte) : (s.setSramByte a v).canWake = s.canWake := rfl
@[simp] theorem State.setSramByte_flagHist (s : State) (a : Nat) (v : Byte) : (s.setSramByte a v).flagHist = s.flagHist := rfl
@[simp] theorem State.setSramByte_chn (s : State) (a : Nat) (v : Byte) : (s.setSramByte a v).chn = s.chn := rfl
@[simp] theorem State.setSramByte_twn (s : State) (a : Nat) (v : Byte) : (s.setSramByte a v).twn = s.twn := rfl
@[simp] theorem State.setSramByte_rst (s : State) (a : Nat) (v : Byte) : (s.setSramByte a v).rst = s.rst := rfl
@[simp] theorem State.setSramByte_snt (s : State) (a : Nat) (v : Byte) : (s.setSramByte a v).snt = s.snt := rfl
@[simp] theorem State.setSramByte_tap (s : State) (a : Nat) (v : Byte) : (s.setSramByte a v).tap = s.tap := rfl
@[simp] theorem State.setSramByte_host (s : State) (a : Nat) (v : Byte) : (s.setSramByte a v).host = s.host := rfl
@[simp] theorem State.setSramByte_pending (s : State) (a : Nat) (v : Byte) : (s.setSramByte a v).pending = s.pending := rfl
@[simp] theorem State.setSramByte_outbox (s : State) (a : Nat) (v : Byte) : (s.setSramByte a v).outbox = s.outbox := rfl
@[simp] theorem State.setSramByte_g (s : State) (a : Nat) (v : Byte) (fld : Fld) (i : Nat) : (s.setSramByte a v).g fld i = s.g fld i := rfl
@[simp] theorem State.setSramByte_gb (s : State) (a : Nat) (v : Byte) (fld : Fld) (i : Nat) : (s.setSramByte a v).gb fld i = s.gb fld i := rfl
@[simp] theorem State.setSramByte_gi (s : State) (a : Nat) (v : Byte) (fld : Fld) (i : Nat) : (s.setSramByte a v).gi fld i = s.gi fld i := rfl

/-! ### `State.setNvmByte` -/

@[simp] theorem State.setNvmByte_now (s : State) (a : Nat) (v : Byte) : (s.setNvmByte a v).now = s.now := rfl
@[simp] theorem State.setNvmByte_t (s : State) (a : Nat) (v : Byte) : (s.setNvmByte a v).t = s.t := rfl
@[simp] theorem State.setNvmByte_fields (s : State) (a : Nat) (v : Byte) : (s.setNvmByte a v).fields = s.fields := rfl
@[simp] theorem State.setNvmByte_sram (s : State) (a : Nat) (v : Byte) : (s.setNvmByte a v).sram = s.sram := rfl
@[simp] theorem State.setNvmByte_free (s : State) (a : Nat) (v : Byte) : (s.setNvmByte a v).free = s.free := rfl
@[simp] theorem State.setNvmByte_wrapped (s : State) (a : Nat) (v : Byte) : (s.setNvmByte a v).wrapped = s.wrapped := rfl
@[simp] theorem State.setNvmByte_adcOn (s : State) (a : Nat) (v : Byte) : (s.setNvmByte a v).adcOn = s.adcOn := rfl
@[simp] theorem State.setNvmByte_k (s : State) (a : Nat) (v : Byte) : (s.setNvmByte a v).k = s.k := rfl
@[simp] theorem State.setNvmByte_bDone (s : State) (a : Nat) (v : Byte) : (s.setNvmByte a v).bDone = s.bDone := rfl
@[simp] theorem State.setNvmByte_kB (s : State) (a : Nat) (v : Byte) : (s.setNvmByte a v).kB = s.kB := rfl
@[simp] theorem State.setNvmByte_s0 (s : State) (a : Nat) (v : Byte) : (s.setNvmByte a v).s0 = s.s0 := rfl
@[simp] theorem State.setNvmByte_staged (s : State) (a : Nat) (v : Byte) : (s.setNvmByte a v).staged = s.staged := rfl
@[simp] theorem State.setNvmByte_overflow (s : State) (a : Nat) (v : Byte) : (s.setNvmByte a v).overflow = s.overflow := rfl
@[simp] theorem State.setNvmByte_commit (s : State) (a : Nat) (v : Byte) : (s.setNvmByte a v).commit = s.commit := rfl
@[simp] theorem State.setNvmByte_epochs (s : State) (a : Nat) (v : Byte) : (s.setNvmByte a v).epochs = s.epochs := rfl
@[simp] theorem State.setNvmByte_latches (s : State) (a : Nat) (v : Byte) : (s.setNvmByte a v).latches = s.latches := rfl
@[simp] theorem State.setNvmByte_prt (s : State) (a : Nat) (v : Byte) : (s.setNvmByte a v).prt = s.prt := rfl
@[simp] theorem State.setNvmByte_exc (s : State) (a : Nat) (v : Byte) : (s.setNvmByte a v).exc = s.exc := rfl
@[simp] theorem State.setNvmByte_acq (s : State) (a : Nat) (v : Byte) : (s.setNvmByte a v).acq = s.acq := rfl
@[simp] theorem State.setNvmByte_obs (s : State) (a : Nat) (v : Byte) : (s.setNvmByte a v).obs = s.obs := rfl
@[simp] theorem State.setNvmByte_div (s : State) (a : Nat) (v : Byte) : (s.setNvmByte a v).div = s.div := rfl
@[simp] theorem State.setNvmByte_cal (s : State) (a : Nat) (v : Byte) : (s.setNvmByte a v).cal = s.cal := rfl
@[simp] theorem State.setNvmByte_calStep (s : State) (a : Nat) (v : Byte) : (s.setNvmByte a v).calStep = s.calStep := rfl
@[simp] theorem State.setNvmByte_calAcc (s : State) (a : Nat) (v : Byte) : (s.setNvmByte a v).calAcc = s.calAcc := rfl
@[simp] theorem State.setNvmByte_swpAcc (s : State) (a : Nat) (v : Byte) : (s.setNvmByte a v).swpAcc = s.swpAcc := rfl
@[simp] theorem State.setNvmByte_obsLim (s : State) (a : Nat) (v : Byte) : (s.setNvmByte a v).obsLim = s.obsLim := rfl
@[simp] theorem State.setNvmByte_sinc (s : State) (a : Nat) (v : Byte) : (s.setNvmByte a v).sinc = s.sinc := rfl
@[simp] theorem State.setNvmByte_tsrc (s : State) (a : Nat) (v : Byte) : (s.setNvmByte a v).tsrc = s.tsrc := rfl
@[simp] theorem State.setNvmByte_safPar (s : State) (a : Nat) (v : Byte) : (s.setNvmByte a v).safPar = s.safPar := rfl
@[simp] theorem State.setNvmByte_permAt (s : State) (a : Nat) (v : Byte) : (s.setNvmByte a v).permAt = s.permAt := rfl
@[simp] theorem State.setNvmByte_stamps (s : State) (a : Nat) (v : Byte) : (s.setNvmByte a v).stamps = s.stamps := rfl
@[simp] theorem State.setNvmByte_lrn (s : State) (a : Nat) (v : Byte) : (s.setNvmByte a v).lrn = s.lrn := rfl
@[simp] theorem State.setNvmByte_nvq (s : State) (a : Nat) (v : Byte) : (s.setNvmByte a v).nvq = s.nvq := rfl
@[simp] theorem State.setNvmByte_nvPorts (s : State) (a : Nat) (v : Byte) : (s.setNvmByte a v).nvPorts = s.nvPorts := rfl
@[simp] theorem State.setNvmByte_nvBuf (s : State) (a : Nat) (v : Byte) : (s.setNvmByte a v).nvBuf = s.nvBuf := rfl
@[simp] theorem State.setNvmByte_dfb (s : State) (a : Nat) (v : Byte) : (s.setNvmByte a v).dfb = s.dfb := rfl
@[simp] theorem State.setNvmByte_emu (s : State) (a : Nat) (v : Byte) : (s.setNvmByte a v).emu = s.emu := rfl
@[simp] theorem State.setNvmByte_emuDrv (s : State) (a : Nat) (v : Byte) : (s.setNvmByte a v).emuDrv = s.emuDrv := rfl
@[simp] theorem State.setNvmByte_blankWin (s : State) (a : Nat) (v : Byte) : (s.setNvmByte a v).blankWin = s.blankWin := rfl
@[simp] theorem State.setNvmByte_obsOld (s : State) (a : Nat) (v : Byte) : (s.setNvmByte a v).obsOld = s.obsOld := rfl
@[simp] theorem State.setNvmByte_slots (s : State) (a : Nat) (v : Byte) : (s.setNvmByte a v).slots = s.slots := rfl
@[simp] theorem State.setNvmByte_copies (s : State) (a : Nat) (v : Byte) : (s.setNvmByte a v).copies = s.copies := rfl
@[simp] theorem State.setNvmByte_pwms (s : State) (a : Nat) (v : Byte) : (s.setNvmByte a v).pwms = s.pwms := rfl
@[simp] theorem State.setNvmByte_gt (s : State) (a : Nat) (v : Byte) : (s.setNvmByte a v).gt = s.gt := rfl
@[simp] theorem State.setNvmByte_stream (s : State) (a : Nat) (v : Byte) : (s.setNvmByte a v).stream = s.stream := rfl
@[simp] theorem State.setNvmByte_geyDrv (s : State) (a : Nat) (v : Byte) : (s.setNvmByte a v).geyDrv = s.geyDrv := rfl
@[simp] theorem State.setNvmByte_vnt (s : State) (a : Nat) (v : Byte) : (s.setNvmByte a v).vnt = s.vnt := rfl
@[simp] theorem State.setNvmByte_ventReq (s : State) (a : Nat) (v : Byte) : (s.setNvmByte a v).ventReq = s.ventReq := rfl
@[simp] theorem State.setNvmByte_inj (s : State) (a : Nat) (v : Byte) : (s.setNvmByte a v).inj = s.inj := rfl
@[simp] theorem State.setNvmByte_injEnd (s : State) (a : Nat) (v : Byte) : (s.setNvmByte a v).injEnd = s.injEnd := rfl
@[simp] theorem State.setNvmByte_poison (s : State) (a : Nat) (v : Byte) : (s.setNvmByte a v).poison = s.poison := rfl
@[simp] theorem State.setNvmByte_ashDue (s : State) (a : Nat) (v : Byte) : (s.setNvmByte a v).ashDue = s.ashDue := rfl
@[simp] theorem State.setNvmByte_tmp (s : State) (a : Nat) (v : Byte) : (s.setNvmByte a v).tmp = s.tmp := rfl
@[simp] theorem State.setNvmByte_tsl (s : State) (a : Nat) (v : Byte) : (s.setNvmByte a v).tsl = s.tsl := rfl
@[simp] theorem State.setNvmByte_pairEnd (s : State) (a : Nat) (v : Byte) : (s.setNvmByte a v).pairEnd = s.pairEnd := rfl
@[simp] theorem State.setNvmByte_tmpFrom (s : State) (a : Nat) (v : Byte) : (s.setNvmByte a v).tmpFrom = s.tmpFrom := rfl
@[simp] theorem State.setNvmByte_actA (s : State) (a : Nat) (v : Byte) : (s.setNvmByte a v).actA = s.actA := rfl
@[simp] theorem State.setNvmByte_actB (s : State) (a : Nat) (v : Byte) : (s.setNvmByte a v).actB = s.actB := rfl
@[simp] theorem State.setNvmByte_axA (s : State) (a : Nat) (v : Byte) : (s.setNvmByte a v).axA = s.axA := rfl
@[simp] theorem State.setNvmByte_axB (s : State) (a : Nat) (v : Byte) : (s.setNvmByte a v).axB = s.axB := rfl
@[simp] theorem State.setNvmByte_siB (s : State) (a : Nat) (v : Byte) : (s.setNvmByte a v).siB = s.siB := rfl
@[simp] theorem State.setNvmByte_discA (s : State) (a : Nat) (v : Byte) : (s.setNvmByte a v).discA = s.discA := rfl
@[simp] theorem State.setNvmByte_discB (s : State) (a : Nat) (v : Byte) : (s.setNvmByte a v).discB = s.discB := rfl
@[simp] theorem State.setNvmByte_latA (s : State) (a : Nat) (v : Byte) : (s.setNvmByte a v).latA = s.latA := rfl
@[simp] theorem State.setNvmByte_latB (s : State) (a : Nat) (v : Byte) : (s.setNvmByte a v).latB = s.latB := rfl
@[simp] theorem State.setNvmByte_keys (s : State) (a : Nat) (v : Byte) : (s.setNvmByte a v).keys = s.keys := rfl
@[simp] theorem State.setNvmByte_xst (s : State) (a : Nat) (v : Byte) : (s.setNvmByte a v).xst = s.xst := rfl
@[simp] theorem State.setNvmByte_appWait (s : State) (a : Nat) (v : Byte) : (s.setNvmByte a v).appWait = s.appWait := rfl
@[simp] theorem State.setNvmByte_ftLat (s : State) (a : Nat) (v : Byte) : (s.setNvmByte a v).ftLat = s.ftLat := rfl
@[simp] theorem State.setNvmByte_susp (s : State) (a : Nat) (v : Byte) : (s.setNvmByte a v).susp = s.susp := rfl
@[simp] theorem State.setNvmByte_gapAt (s : State) (a : Nat) (v : Byte) : (s.setNvmByte a v).gapAt = s.gapAt := rfl
@[simp] theorem State.setNvmByte_smOn (s : State) (a : Nat) (v : Byte) : (s.setNvmByte a v).smOn = s.smOn := rfl
@[simp] theorem State.setNvmByte_conns (s : State) (a : Nat) (v : Byte) : (s.setNvmByte a v).conns = s.conns := rfl
@[simp] theorem State.setNvmByte_can (s : State) (a : Nat) (v : Byte) : (s.setNvmByte a v).can = s.can := rfl
@[simp] theorem State.setNvmByte_canAt (s : State) (a : Nat) (v : Byte) : (s.setNvmByte a v).canAt = s.canAt := rfl
@[simp] theorem State.setNvmByte_canWake (s : State) (a : Nat) (v : Byte) : (s.setNvmByte a v).canWake = s.canWake := rfl
@[simp] theorem State.setNvmByte_flagHist (s : State) (a : Nat) (v : Byte) : (s.setNvmByte a v).flagHist = s.flagHist := rfl
@[simp] theorem State.setNvmByte_chn (s : State) (a : Nat) (v : Byte) : (s.setNvmByte a v).chn = s.chn := rfl
@[simp] theorem State.setNvmByte_twn (s : State) (a : Nat) (v : Byte) : (s.setNvmByte a v).twn = s.twn := rfl
@[simp] theorem State.setNvmByte_rst (s : State) (a : Nat) (v : Byte) : (s.setNvmByte a v).rst = s.rst := rfl
@[simp] theorem State.setNvmByte_snt (s : State) (a : Nat) (v : Byte) : (s.setNvmByte a v).snt = s.snt := rfl
@[simp] theorem State.setNvmByte_tap (s : State) (a : Nat) (v : Byte) : (s.setNvmByte a v).tap = s.tap := rfl
@[simp] theorem State.setNvmByte_host (s : State) (a : Nat) (v : Byte) : (s.setNvmByte a v).host = s.host := rfl
@[simp] theorem State.setNvmByte_pending (s : State) (a : Nat) (v : Byte) : (s.setNvmByte a v).pending = s.pending := rfl
@[simp] theorem State.setNvmByte_outbox (s : State) (a : Nat) (v : Byte) : (s.setNvmByte a v).outbox = s.outbox := rfl
@[simp] theorem State.setNvmByte_g (s : State) (a : Nat) (v : Byte) (fld : Fld) (i : Nat) : (s.setNvmByte a v).g fld i = s.g fld i := rfl
@[simp] theorem State.setNvmByte_gb (s : State) (a : Nat) (v : Byte) (fld : Fld) (i : Nat) : (s.setNvmByte a v).gb fld i = s.gb fld i := rfl
@[simp] theorem State.setNvmByte_gi (s : State) (a : Nat) (v : Byte) (fld : Fld) (i : Nat) : (s.setNvmByte a v).gi fld i = s.gi fld i := rfl

/-! ### `State.at` -/

@[simp] theorem State.at_now (s : State) (src : Src) : (s.at src).now = s.now := rfl
@[simp] theorem State.at_fields (s : State) (src : Src) : (s.at src).fields = s.fields := rfl
@[simp] theorem State.at_sram (s : State) (src : Src) : (s.at src).sram = s.sram := rfl
@[simp] theorem State.at_nvm (s : State) (src : Src) : (s.at src).nvm = s.nvm := rfl
@[simp] theorem State.at_free (s : State) (src : Src) : (s.at src).free = s.free := rfl
@[simp] theorem State.at_wrapped (s : State) (src : Src) : (s.at src).wrapped = s.wrapped := rfl
@[simp] theorem State.at_adcOn (s : State) (src : Src) : (s.at src).adcOn = s.adcOn := rfl
@[simp] theorem State.at_k (s : State) (src : Src) : (s.at src).k = s.k := rfl
@[simp] theorem State.at_bDone (s : State) (src : Src) : (s.at src).bDone = s.bDone := rfl
@[simp] theorem State.at_kB (s : State) (src : Src) : (s.at src).kB = s.kB := rfl
@[simp] theorem State.at_s0 (s : State) (src : Src) : (s.at src).s0 = s.s0 := rfl
@[simp] theorem State.at_staged (s : State) (src : Src) : (s.at src).staged = s.staged := rfl
@[simp] theorem State.at_overflow (s : State) (src : Src) : (s.at src).overflow = s.overflow := rfl
@[simp] theorem State.at_commit (s : State) (src : Src) : (s.at src).commit = s.commit := rfl
@[simp] theorem State.at_epochs (s : State) (src : Src) : (s.at src).epochs = s.epochs := rfl
@[simp] theorem State.at_latches (s : State) (src : Src) : (s.at src).latches = s.latches := rfl
@[simp] theorem State.at_prt (s : State) (src : Src) : (s.at src).prt = s.prt := rfl
@[simp] theorem State.at_exc (s : State) (src : Src) : (s.at src).exc = s.exc := rfl
@[simp] theorem State.at_acq (s : State) (src : Src) : (s.at src).acq = s.acq := rfl
@[simp] theorem State.at_obs (s : State) (src : Src) : (s.at src).obs = s.obs := rfl
@[simp] theorem State.at_div (s : State) (src : Src) : (s.at src).div = s.div := rfl
@[simp] theorem State.at_cal (s : State) (src : Src) : (s.at src).cal = s.cal := rfl
@[simp] theorem State.at_calStep (s : State) (src : Src) : (s.at src).calStep = s.calStep := rfl
@[simp] theorem State.at_calAcc (s : State) (src : Src) : (s.at src).calAcc = s.calAcc := rfl
@[simp] theorem State.at_swpAcc (s : State) (src : Src) : (s.at src).swpAcc = s.swpAcc := rfl
@[simp] theorem State.at_obsLim (s : State) (src : Src) : (s.at src).obsLim = s.obsLim := rfl
@[simp] theorem State.at_sinc (s : State) (src : Src) : (s.at src).sinc = s.sinc := rfl
@[simp] theorem State.at_tsrc (s : State) (src : Src) : (s.at src).tsrc = s.tsrc := rfl
@[simp] theorem State.at_safPar (s : State) (src : Src) : (s.at src).safPar = s.safPar := rfl
@[simp] theorem State.at_permAt (s : State) (src : Src) : (s.at src).permAt = s.permAt := rfl
@[simp] theorem State.at_stamps (s : State) (src : Src) : (s.at src).stamps = s.stamps := rfl
@[simp] theorem State.at_lrn (s : State) (src : Src) : (s.at src).lrn = s.lrn := rfl
@[simp] theorem State.at_nvq (s : State) (src : Src) : (s.at src).nvq = s.nvq := rfl
@[simp] theorem State.at_nvPorts (s : State) (src : Src) : (s.at src).nvPorts = s.nvPorts := rfl
@[simp] theorem State.at_nvBuf (s : State) (src : Src) : (s.at src).nvBuf = s.nvBuf := rfl
@[simp] theorem State.at_dfb (s : State) (src : Src) : (s.at src).dfb = s.dfb := rfl
@[simp] theorem State.at_emu (s : State) (src : Src) : (s.at src).emu = s.emu := rfl
@[simp] theorem State.at_emuDrv (s : State) (src : Src) : (s.at src).emuDrv = s.emuDrv := rfl
@[simp] theorem State.at_blankWin (s : State) (src : Src) : (s.at src).blankWin = s.blankWin := rfl
@[simp] theorem State.at_obsOld (s : State) (src : Src) : (s.at src).obsOld = s.obsOld := rfl
@[simp] theorem State.at_slots (s : State) (src : Src) : (s.at src).slots = s.slots := rfl
@[simp] theorem State.at_copies (s : State) (src : Src) : (s.at src).copies = s.copies := rfl
@[simp] theorem State.at_pwms (s : State) (src : Src) : (s.at src).pwms = s.pwms := rfl
@[simp] theorem State.at_gt (s : State) (src : Src) : (s.at src).gt = s.gt := rfl
@[simp] theorem State.at_stream (s : State) (src : Src) : (s.at src).stream = s.stream := rfl
@[simp] theorem State.at_geyDrv (s : State) (src : Src) : (s.at src).geyDrv = s.geyDrv := rfl
@[simp] theorem State.at_vnt (s : State) (src : Src) : (s.at src).vnt = s.vnt := rfl
@[simp] theorem State.at_ventReq (s : State) (src : Src) : (s.at src).ventReq = s.ventReq := rfl
@[simp] theorem State.at_inj (s : State) (src : Src) : (s.at src).inj = s.inj := rfl
@[simp] theorem State.at_injEnd (s : State) (src : Src) : (s.at src).injEnd = s.injEnd := rfl
@[simp] theorem State.at_poison (s : State) (src : Src) : (s.at src).poison = s.poison := rfl
@[simp] theorem State.at_ashDue (s : State) (src : Src) : (s.at src).ashDue = s.ashDue := rfl
@[simp] theorem State.at_tmp (s : State) (src : Src) : (s.at src).tmp = s.tmp := rfl
@[simp] theorem State.at_tsl (s : State) (src : Src) : (s.at src).tsl = s.tsl := rfl
@[simp] theorem State.at_pairEnd (s : State) (src : Src) : (s.at src).pairEnd = s.pairEnd := rfl
@[simp] theorem State.at_tmpFrom (s : State) (src : Src) : (s.at src).tmpFrom = s.tmpFrom := rfl
@[simp] theorem State.at_actA (s : State) (src : Src) : (s.at src).actA = s.actA := rfl
@[simp] theorem State.at_actB (s : State) (src : Src) : (s.at src).actB = s.actB := rfl
@[simp] theorem State.at_axA (s : State) (src : Src) : (s.at src).axA = s.axA := rfl
@[simp] theorem State.at_axB (s : State) (src : Src) : (s.at src).axB = s.axB := rfl
@[simp] theorem State.at_siB (s : State) (src : Src) : (s.at src).siB = s.siB := rfl
@[simp] theorem State.at_discA (s : State) (src : Src) : (s.at src).discA = s.discA := rfl
@[simp] theorem State.at_discB (s : State) (src : Src) : (s.at src).discB = s.discB := rfl
@[simp] theorem State.at_latA (s : State) (src : Src) : (s.at src).latA = s.latA := rfl
@[simp] theorem State.at_latB (s : State) (src : Src) : (s.at src).latB = s.latB := rfl
@[simp] theorem State.at_keys (s : State) (src : Src) : (s.at src).keys = s.keys := rfl
@[simp] theorem State.at_xst (s : State) (src : Src) : (s.at src).xst = s.xst := rfl
@[simp] theorem State.at_appWait (s : State) (src : Src) : (s.at src).appWait = s.appWait := rfl
@[simp] theorem State.at_ftLat (s : State) (src : Src) : (s.at src).ftLat = s.ftLat := rfl
@[simp] theorem State.at_susp (s : State) (src : Src) : (s.at src).susp = s.susp := rfl
@[simp] theorem State.at_gapAt (s : State) (src : Src) : (s.at src).gapAt = s.gapAt := rfl
@[simp] theorem State.at_smOn (s : State) (src : Src) : (s.at src).smOn = s.smOn := rfl
@[simp] theorem State.at_conns (s : State) (src : Src) : (s.at src).conns = s.conns := rfl
@[simp] theorem State.at_can (s : State) (src : Src) : (s.at src).can = s.can := rfl
@[simp] theorem State.at_canAt (s : State) (src : Src) : (s.at src).canAt = s.canAt := rfl
@[simp] theorem State.at_canWake (s : State) (src : Src) : (s.at src).canWake = s.canWake := rfl
@[simp] theorem State.at_flagHist (s : State) (src : Src) : (s.at src).flagHist = s.flagHist := rfl
@[simp] theorem State.at_chn (s : State) (src : Src) : (s.at src).chn = s.chn := rfl
@[simp] theorem State.at_twn (s : State) (src : Src) : (s.at src).twn = s.twn := rfl
@[simp] theorem State.at_rst (s : State) (src : Src) : (s.at src).rst = s.rst := rfl
@[simp] theorem State.at_snt (s : State) (src : Src) : (s.at src).snt = s.snt := rfl
@[simp] theorem State.at_tap (s : State) (src : Src) : (s.at src).tap = s.tap := rfl
@[simp] theorem State.at_host (s : State) (src : Src) : (s.at src).host = s.host := rfl
@[simp] theorem State.at_pending (s : State) (src : Src) : (s.at src).pending = s.pending := rfl
@[simp] theorem State.at_outbox (s : State) (src : Src) : (s.at src).outbox = s.outbox := rfl
@[simp] theorem State.at_g (s : State) (src : Src) (fld : Fld) (i : Nat) : (s.at src).g fld i = s.g fld i := rfl
@[simp] theorem State.at_gb (s : State) (src : Src) (fld : Fld) (i : Nat) : (s.at src).gb fld i = s.gb fld i := rfl
@[simp] theorem State.at_gi (s : State) (src : Src) (fld : Fld) (i : Nat) : (s.at src).gi fld i = s.gi fld i := rfl

/-! ### `State.here` -/

@[simp] theorem State.here_now (s : State)  : (s.here).now = s.now := rfl
@[simp] theorem State.here_fields (s : State)  : (s.here).fields = s.fields := rfl
@[simp] theorem State.here_sram (s : State)  : (s.here).sram = s.sram := rfl
@[simp] theorem State.here_nvm (s : State)  : (s.here).nvm = s.nvm := rfl
@[simp] theorem State.here_free (s : State)  : (s.here).free = s.free := rfl
@[simp] theorem State.here_wrapped (s : State)  : (s.here).wrapped = s.wrapped := rfl
@[simp] theorem State.here_adcOn (s : State)  : (s.here).adcOn = s.adcOn := rfl
@[simp] theorem State.here_k (s : State)  : (s.here).k = s.k := rfl
@[simp] theorem State.here_bDone (s : State)  : (s.here).bDone = s.bDone := rfl
@[simp] theorem State.here_kB (s : State)  : (s.here).kB = s.kB := rfl
@[simp] theorem State.here_s0 (s : State)  : (s.here).s0 = s.s0 := rfl
@[simp] theorem State.here_staged (s : State)  : (s.here).staged = s.staged := rfl
@[simp] theorem State.here_overflow (s : State)  : (s.here).overflow = s.overflow := rfl
@[simp] theorem State.here_commit (s : State)  : (s.here).commit = s.commit := rfl
@[simp] theorem State.here_epochs (s : State)  : (s.here).epochs = s.epochs := rfl
@[simp] theorem State.here_latches (s : State)  : (s.here).latches = s.latches := rfl
@[simp] theorem State.here_prt (s : State)  : (s.here).prt = s.prt := rfl
@[simp] theorem State.here_exc (s : State)  : (s.here).exc = s.exc := rfl
@[simp] theorem State.here_acq (s : State)  : (s.here).acq = s.acq := rfl
@[simp] theorem State.here_obs (s : State)  : (s.here).obs = s.obs := rfl
@[simp] theorem State.here_div (s : State)  : (s.here).div = s.div := rfl
@[simp] theorem State.here_cal (s : State)  : (s.here).cal = s.cal := rfl
@[simp] theorem State.here_calStep (s : State)  : (s.here).calStep = s.calStep := rfl
@[simp] theorem State.here_calAcc (s : State)  : (s.here).calAcc = s.calAcc := rfl
@[simp] theorem State.here_swpAcc (s : State)  : (s.here).swpAcc = s.swpAcc := rfl
@[simp] theorem State.here_obsLim (s : State)  : (s.here).obsLim = s.obsLim := rfl
@[simp] theorem State.here_sinc (s : State)  : (s.here).sinc = s.sinc := rfl
@[simp] theorem State.here_tsrc (s : State)  : (s.here).tsrc = s.tsrc := rfl
@[simp] theorem State.here_safPar (s : State)  : (s.here).safPar = s.safPar := rfl
@[simp] theorem State.here_permAt (s : State)  : (s.here).permAt = s.permAt := rfl
@[simp] theorem State.here_stamps (s : State)  : (s.here).stamps = s.stamps := rfl
@[simp] theorem State.here_lrn (s : State)  : (s.here).lrn = s.lrn := rfl
@[simp] theorem State.here_nvq (s : State)  : (s.here).nvq = s.nvq := rfl
@[simp] theorem State.here_nvPorts (s : State)  : (s.here).nvPorts = s.nvPorts := rfl
@[simp] theorem State.here_nvBuf (s : State)  : (s.here).nvBuf = s.nvBuf := rfl
@[simp] theorem State.here_dfb (s : State)  : (s.here).dfb = s.dfb := rfl
@[simp] theorem State.here_emu (s : State)  : (s.here).emu = s.emu := rfl
@[simp] theorem State.here_emuDrv (s : State)  : (s.here).emuDrv = s.emuDrv := rfl
@[simp] theorem State.here_blankWin (s : State)  : (s.here).blankWin = s.blankWin := rfl
@[simp] theorem State.here_obsOld (s : State)  : (s.here).obsOld = s.obsOld := rfl
@[simp] theorem State.here_slots (s : State)  : (s.here).slots = s.slots := rfl
@[simp] theorem State.here_copies (s : State)  : (s.here).copies = s.copies := rfl
@[simp] theorem State.here_pwms (s : State)  : (s.here).pwms = s.pwms := rfl
@[simp] theorem State.here_gt (s : State)  : (s.here).gt = s.gt := rfl
@[simp] theorem State.here_stream (s : State)  : (s.here).stream = s.stream := rfl
@[simp] theorem State.here_geyDrv (s : State)  : (s.here).geyDrv = s.geyDrv := rfl
@[simp] theorem State.here_vnt (s : State)  : (s.here).vnt = s.vnt := rfl
@[simp] theorem State.here_ventReq (s : State)  : (s.here).ventReq = s.ventReq := rfl
@[simp] theorem State.here_inj (s : State)  : (s.here).inj = s.inj := rfl
@[simp] theorem State.here_injEnd (s : State)  : (s.here).injEnd = s.injEnd := rfl
@[simp] theorem State.here_poison (s : State)  : (s.here).poison = s.poison := rfl
@[simp] theorem State.here_ashDue (s : State)  : (s.here).ashDue = s.ashDue := rfl
@[simp] theorem State.here_tmp (s : State)  : (s.here).tmp = s.tmp := rfl
@[simp] theorem State.here_tsl (s : State)  : (s.here).tsl = s.tsl := rfl
@[simp] theorem State.here_pairEnd (s : State)  : (s.here).pairEnd = s.pairEnd := rfl
@[simp] theorem State.here_tmpFrom (s : State)  : (s.here).tmpFrom = s.tmpFrom := rfl
@[simp] theorem State.here_actA (s : State)  : (s.here).actA = s.actA := rfl
@[simp] theorem State.here_actB (s : State)  : (s.here).actB = s.actB := rfl
@[simp] theorem State.here_axA (s : State)  : (s.here).axA = s.axA := rfl
@[simp] theorem State.here_axB (s : State)  : (s.here).axB = s.axB := rfl
@[simp] theorem State.here_siB (s : State)  : (s.here).siB = s.siB := rfl
@[simp] theorem State.here_discA (s : State)  : (s.here).discA = s.discA := rfl
@[simp] theorem State.here_discB (s : State)  : (s.here).discB = s.discB := rfl
@[simp] theorem State.here_latA (s : State)  : (s.here).latA = s.latA := rfl
@[simp] theorem State.here_latB (s : State)  : (s.here).latB = s.latB := rfl
@[simp] theorem State.here_keys (s : State)  : (s.here).keys = s.keys := rfl
@[simp] theorem State.here_xst (s : State)  : (s.here).xst = s.xst := rfl
@[simp] theorem State.here_appWait (s : State)  : (s.here).appWait = s.appWait := rfl
@[simp] theorem State.here_ftLat (s : State)  : (s.here).ftLat = s.ftLat := rfl
@[simp] theorem State.here_susp (s : State)  : (s.here).susp = s.susp := rfl
@[simp] theorem State.here_gapAt (s : State)  : (s.here).gapAt = s.gapAt := rfl
@[simp] theorem State.here_smOn (s : State)  : (s.here).smOn = s.smOn := rfl
@[simp] theorem State.here_conns (s : State)  : (s.here).conns = s.conns := rfl
@[simp] theorem State.here_can (s : State)  : (s.here).can = s.can := rfl
@[simp] theorem State.here_canAt (s : State)  : (s.here).canAt = s.canAt := rfl
@[simp] theorem State.here_canWake (s : State)  : (s.here).canWake = s.canWake := rfl
@[simp] theorem State.here_flagHist (s : State)  : (s.here).flagHist = s.flagHist := rfl
@[simp] theorem State.here_chn (s : State)  : (s.here).chn = s.chn := rfl
@[simp] theorem State.here_twn (s : State)  : (s.here).twn = s.twn := rfl
@[simp] theorem State.here_rst (s : State)  : (s.here).rst = s.rst := rfl
@[simp] theorem State.here_snt (s : State)  : (s.here).snt = s.snt := rfl
@[simp] theorem State.here_tap (s : State)  : (s.here).tap = s.tap := rfl
@[simp] theorem State.here_host (s : State)  : (s.here).host = s.host := rfl
@[simp] theorem State.here_pending (s : State)  : (s.here).pending = s.pending := rfl
@[simp] theorem State.here_outbox (s : State)  : (s.here).outbox = s.outbox := rfl
@[simp] theorem State.here_g (s : State)  (fld : Fld) (i : Nat) : (s.here).g fld i = s.g fld i := rfl
@[simp] theorem State.here_gb (s : State)  (fld : Fld) (i : Nat) : (s.here).gb fld i = s.gb fld i := rfl
@[simp] theorem State.here_gi (s : State)  (fld : Fld) (i : Nat) : (s.here).gi fld i = s.gi fld i := rfl

/-! ### `State.emit` -/

@[simp] theorem State.emit_now (s : State) (o : Output) : (s.emit o).now = s.now := rfl
@[simp] theorem State.emit_t (s : State) (o : Output) : (s.emit o).t = s.t := rfl
@[simp] theorem State.emit_fields (s : State) (o : Output) : (s.emit o).fields = s.fields := rfl
@[simp] theorem State.emit_sram (s : State) (o : Output) : (s.emit o).sram = s.sram := rfl
@[simp] theorem State.emit_nvm (s : State) (o : Output) : (s.emit o).nvm = s.nvm := rfl
@[simp] theorem State.emit_free (s : State) (o : Output) : (s.emit o).free = s.free := rfl
@[simp] theorem State.emit_wrapped (s : State) (o : Output) : (s.emit o).wrapped = s.wrapped := rfl
@[simp] theorem State.emit_adcOn (s : State) (o : Output) : (s.emit o).adcOn = s.adcOn := rfl
@[simp] theorem State.emit_k (s : State) (o : Output) : (s.emit o).k = s.k := rfl
@[simp] theorem State.emit_bDone (s : State) (o : Output) : (s.emit o).bDone = s.bDone := rfl
@[simp] theorem State.emit_kB (s : State) (o : Output) : (s.emit o).kB = s.kB := rfl
@[simp] theorem State.emit_s0 (s : State) (o : Output) : (s.emit o).s0 = s.s0 := rfl
@[simp] theorem State.emit_staged (s : State) (o : Output) : (s.emit o).staged = s.staged := rfl
@[simp] theorem State.emit_overflow (s : State) (o : Output) : (s.emit o).overflow = s.overflow := rfl
@[simp] theorem State.emit_commit (s : State) (o : Output) : (s.emit o).commit = s.commit := rfl
@[simp] theorem State.emit_epochs (s : State) (o : Output) : (s.emit o).epochs = s.epochs := rfl
@[simp] theorem State.emit_latches (s : State) (o : Output) : (s.emit o).latches = s.latches := rfl
@[simp] theorem State.emit_prt (s : State) (o : Output) : (s.emit o).prt = s.prt := rfl
@[simp] theorem State.emit_exc (s : State) (o : Output) : (s.emit o).exc = s.exc := rfl
@[simp] theorem State.emit_acq (s : State) (o : Output) : (s.emit o).acq = s.acq := rfl
@[simp] theorem State.emit_obs (s : State) (o : Output) : (s.emit o).obs = s.obs := rfl
@[simp] theorem State.emit_div (s : State) (o : Output) : (s.emit o).div = s.div := rfl
@[simp] theorem State.emit_cal (s : State) (o : Output) : (s.emit o).cal = s.cal := rfl
@[simp] theorem State.emit_calStep (s : State) (o : Output) : (s.emit o).calStep = s.calStep := rfl
@[simp] theorem State.emit_calAcc (s : State) (o : Output) : (s.emit o).calAcc = s.calAcc := rfl
@[simp] theorem State.emit_swpAcc (s : State) (o : Output) : (s.emit o).swpAcc = s.swpAcc := rfl
@[simp] theorem State.emit_obsLim (s : State) (o : Output) : (s.emit o).obsLim = s.obsLim := rfl
@[simp] theorem State.emit_sinc (s : State) (o : Output) : (s.emit o).sinc = s.sinc := rfl
@[simp] theorem State.emit_tsrc (s : State) (o : Output) : (s.emit o).tsrc = s.tsrc := rfl
@[simp] theorem State.emit_safPar (s : State) (o : Output) : (s.emit o).safPar = s.safPar := rfl
@[simp] theorem State.emit_permAt (s : State) (o : Output) : (s.emit o).permAt = s.permAt := rfl
@[simp] theorem State.emit_stamps (s : State) (o : Output) : (s.emit o).stamps = s.stamps := rfl
@[simp] theorem State.emit_lrn (s : State) (o : Output) : (s.emit o).lrn = s.lrn := rfl
@[simp] theorem State.emit_nvq (s : State) (o : Output) : (s.emit o).nvq = s.nvq := rfl
@[simp] theorem State.emit_nvPorts (s : State) (o : Output) : (s.emit o).nvPorts = s.nvPorts := rfl
@[simp] theorem State.emit_nvBuf (s : State) (o : Output) : (s.emit o).nvBuf = s.nvBuf := rfl
@[simp] theorem State.emit_dfb (s : State) (o : Output) : (s.emit o).dfb = s.dfb := rfl
@[simp] theorem State.emit_emu (s : State) (o : Output) : (s.emit o).emu = s.emu := rfl
@[simp] theorem State.emit_emuDrv (s : State) (o : Output) : (s.emit o).emuDrv = s.emuDrv := rfl
@[simp] theorem State.emit_blankWin (s : State) (o : Output) : (s.emit o).blankWin = s.blankWin := rfl
@[simp] theorem State.emit_obsOld (s : State) (o : Output) : (s.emit o).obsOld = s.obsOld := rfl
@[simp] theorem State.emit_slots (s : State) (o : Output) : (s.emit o).slots = s.slots := rfl
@[simp] theorem State.emit_copies (s : State) (o : Output) : (s.emit o).copies = s.copies := rfl
@[simp] theorem State.emit_pwms (s : State) (o : Output) : (s.emit o).pwms = s.pwms := rfl
@[simp] theorem State.emit_gt (s : State) (o : Output) : (s.emit o).gt = s.gt := rfl
@[simp] theorem State.emit_stream (s : State) (o : Output) : (s.emit o).stream = s.stream := rfl
@[simp] theorem State.emit_geyDrv (s : State) (o : Output) : (s.emit o).geyDrv = s.geyDrv := rfl
@[simp] theorem State.emit_vnt (s : State) (o : Output) : (s.emit o).vnt = s.vnt := rfl
@[simp] theorem State.emit_ventReq (s : State) (o : Output) : (s.emit o).ventReq = s.ventReq := rfl
@[simp] theorem State.emit_inj (s : State) (o : Output) : (s.emit o).inj = s.inj := rfl
@[simp] theorem State.emit_injEnd (s : State) (o : Output) : (s.emit o).injEnd = s.injEnd := rfl
@[simp] theorem State.emit_poison (s : State) (o : Output) : (s.emit o).poison = s.poison := rfl
@[simp] theorem State.emit_ashDue (s : State) (o : Output) : (s.emit o).ashDue = s.ashDue := rfl
@[simp] theorem State.emit_tmp (s : State) (o : Output) : (s.emit o).tmp = s.tmp := rfl
@[simp] theorem State.emit_tsl (s : State) (o : Output) : (s.emit o).tsl = s.tsl := rfl
@[simp] theorem State.emit_pairEnd (s : State) (o : Output) : (s.emit o).pairEnd = s.pairEnd := rfl
@[simp] theorem State.emit_tmpFrom (s : State) (o : Output) : (s.emit o).tmpFrom = s.tmpFrom := rfl
@[simp] theorem State.emit_actA (s : State) (o : Output) : (s.emit o).actA = s.actA := rfl
@[simp] theorem State.emit_actB (s : State) (o : Output) : (s.emit o).actB = s.actB := rfl
@[simp] theorem State.emit_axA (s : State) (o : Output) : (s.emit o).axA = s.axA := rfl
@[simp] theorem State.emit_axB (s : State) (o : Output) : (s.emit o).axB = s.axB := rfl
@[simp] theorem State.emit_siB (s : State) (o : Output) : (s.emit o).siB = s.siB := rfl
@[simp] theorem State.emit_discA (s : State) (o : Output) : (s.emit o).discA = s.discA := rfl
@[simp] theorem State.emit_discB (s : State) (o : Output) : (s.emit o).discB = s.discB := rfl
@[simp] theorem State.emit_latA (s : State) (o : Output) : (s.emit o).latA = s.latA := rfl
@[simp] theorem State.emit_latB (s : State) (o : Output) : (s.emit o).latB = s.latB := rfl
@[simp] theorem State.emit_keys (s : State) (o : Output) : (s.emit o).keys = s.keys := rfl
@[simp] theorem State.emit_xst (s : State) (o : Output) : (s.emit o).xst = s.xst := rfl
@[simp] theorem State.emit_appWait (s : State) (o : Output) : (s.emit o).appWait = s.appWait := rfl
@[simp] theorem State.emit_ftLat (s : State) (o : Output) : (s.emit o).ftLat = s.ftLat := rfl
@[simp] theorem State.emit_susp (s : State) (o : Output) : (s.emit o).susp = s.susp := rfl
@[simp] theorem State.emit_gapAt (s : State) (o : Output) : (s.emit o).gapAt = s.gapAt := rfl
@[simp] theorem State.emit_smOn (s : State) (o : Output) : (s.emit o).smOn = s.smOn := rfl
@[simp] theorem State.emit_conns (s : State) (o : Output) : (s.emit o).conns = s.conns := rfl
@[simp] theorem State.emit_can (s : State) (o : Output) : (s.emit o).can = s.can := rfl
@[simp] theorem State.emit_canAt (s : State) (o : Output) : (s.emit o).canAt = s.canAt := rfl
@[simp] theorem State.emit_canWake (s : State) (o : Output) : (s.emit o).canWake = s.canWake := rfl
@[simp] theorem State.emit_flagHist (s : State) (o : Output) : (s.emit o).flagHist = s.flagHist := rfl
@[simp] theorem State.emit_chn (s : State) (o : Output) : (s.emit o).chn = s.chn := rfl
@[simp] theorem State.emit_twn (s : State) (o : Output) : (s.emit o).twn = s.twn := rfl
@[simp] theorem State.emit_rst (s : State) (o : Output) : (s.emit o).rst = s.rst := rfl
@[simp] theorem State.emit_snt (s : State) (o : Output) : (s.emit o).snt = s.snt := rfl
@[simp] theorem State.emit_tap (s : State) (o : Output) : (s.emit o).tap = s.tap := rfl
@[simp] theorem State.emit_host (s : State) (o : Output) : (s.emit o).host = s.host := rfl
@[simp] theorem State.emit_pending (s : State) (o : Output) : (s.emit o).pending = s.pending := rfl
@[simp] theorem State.emit_g (s : State) (o : Output) (fld : Fld) (i : Nat) : (s.emit o).g fld i = s.g fld i := rfl
@[simp] theorem State.emit_gb (s : State) (o : Output) (fld : Fld) (i : Nat) : (s.emit o).gb fld i = s.gb fld i := rfl
@[simp] theorem State.emit_gi (s : State) (o : Output) (fld : Fld) (i : Nat) : (s.emit o).gi fld i = s.gi fld i := rfl

/-! ### `State.updPrt` -/

@[simp] theorem State.updPrt_now (s : State) (n : Nat) (f : PortSt → PortSt) : (s.updPrt n f).now = s.now := rfl
@[simp] theorem State.updPrt_t (s : State) (n : Nat) (f : PortSt → PortSt) : (s.updPrt n f).t = s.t := rfl
@[simp] theorem State.updPrt_fields (s : State) (n : Nat) (f : PortSt → PortSt) : (s.updPrt n f).fields = s.fields := rfl
@[simp] theorem State.updPrt_sram (s : State) (n : Nat) (f : PortSt → PortSt) : (s.updPrt n f).sram = s.sram := rfl
@[simp] theorem State.updPrt_nvm (s : State) (n : Nat) (f : PortSt → PortSt) : (s.updPrt n f).nvm = s.nvm := rfl
@[simp] theorem State.updPrt_free (s : State) (n : Nat) (f : PortSt → PortSt) : (s.updPrt n f).free = s.free := rfl
@[simp] theorem State.updPrt_wrapped (s : State) (n : Nat) (f : PortSt → PortSt) : (s.updPrt n f).wrapped = s.wrapped := rfl
@[simp] theorem State.updPrt_adcOn (s : State) (n : Nat) (f : PortSt → PortSt) : (s.updPrt n f).adcOn = s.adcOn := rfl
@[simp] theorem State.updPrt_k (s : State) (n : Nat) (f : PortSt → PortSt) : (s.updPrt n f).k = s.k := rfl
@[simp] theorem State.updPrt_bDone (s : State) (n : Nat) (f : PortSt → PortSt) : (s.updPrt n f).bDone = s.bDone := rfl
@[simp] theorem State.updPrt_kB (s : State) (n : Nat) (f : PortSt → PortSt) : (s.updPrt n f).kB = s.kB := rfl
@[simp] theorem State.updPrt_s0 (s : State) (n : Nat) (f : PortSt → PortSt) : (s.updPrt n f).s0 = s.s0 := rfl
@[simp] theorem State.updPrt_staged (s : State) (n : Nat) (f : PortSt → PortSt) : (s.updPrt n f).staged = s.staged := rfl
@[simp] theorem State.updPrt_overflow (s : State) (n : Nat) (f : PortSt → PortSt) : (s.updPrt n f).overflow = s.overflow := rfl
@[simp] theorem State.updPrt_commit (s : State) (n : Nat) (f : PortSt → PortSt) : (s.updPrt n f).commit = s.commit := rfl
@[simp] theorem State.updPrt_epochs (s : State) (n : Nat) (f : PortSt → PortSt) : (s.updPrt n f).epochs = s.epochs := rfl
@[simp] theorem State.updPrt_latches (s : State) (n : Nat) (f : PortSt → PortSt) : (s.updPrt n f).latches = s.latches := rfl
@[simp] theorem State.updPrt_exc (s : State) (n : Nat) (f : PortSt → PortSt) : (s.updPrt n f).exc = s.exc := rfl
@[simp] theorem State.updPrt_acq (s : State) (n : Nat) (f : PortSt → PortSt) : (s.updPrt n f).acq = s.acq := rfl
@[simp] theorem State.updPrt_obs (s : State) (n : Nat) (f : PortSt → PortSt) : (s.updPrt n f).obs = s.obs := rfl
@[simp] theorem State.updPrt_div (s : State) (n : Nat) (f : PortSt → PortSt) : (s.updPrt n f).div = s.div := rfl
@[simp] theorem State.updPrt_cal (s : State) (n : Nat) (f : PortSt → PortSt) : (s.updPrt n f).cal = s.cal := rfl
@[simp] theorem State.updPrt_calStep (s : State) (n : Nat) (f : PortSt → PortSt) : (s.updPrt n f).calStep = s.calStep := rfl
@[simp] theorem State.updPrt_calAcc (s : State) (n : Nat) (f : PortSt → PortSt) : (s.updPrt n f).calAcc = s.calAcc := rfl
@[simp] theorem State.updPrt_swpAcc (s : State) (n : Nat) (f : PortSt → PortSt) : (s.updPrt n f).swpAcc = s.swpAcc := rfl
@[simp] theorem State.updPrt_obsLim (s : State) (n : Nat) (f : PortSt → PortSt) : (s.updPrt n f).obsLim = s.obsLim := rfl
@[simp] theorem State.updPrt_sinc (s : State) (n : Nat) (f : PortSt → PortSt) : (s.updPrt n f).sinc = s.sinc := rfl
@[simp] theorem State.updPrt_tsrc (s : State) (n : Nat) (f : PortSt → PortSt) : (s.updPrt n f).tsrc = s.tsrc := rfl
@[simp] theorem State.updPrt_safPar (s : State) (n : Nat) (f : PortSt → PortSt) : (s.updPrt n f).safPar = s.safPar := rfl
@[simp] theorem State.updPrt_permAt (s : State) (n : Nat) (f : PortSt → PortSt) : (s.updPrt n f).permAt = s.permAt := rfl
@[simp] theorem State.updPrt_stamps (s : State) (n : Nat) (f : PortSt → PortSt) : (s.updPrt n f).stamps = s.stamps := rfl
@[simp] theorem State.updPrt_lrn (s : State) (n : Nat) (f : PortSt → PortSt) : (s.updPrt n f).lrn = s.lrn := rfl
@[simp] theorem State.updPrt_nvq (s : State) (n : Nat) (f : PortSt → PortSt) : (s.updPrt n f).nvq = s.nvq := rfl
@[simp] theorem State.updPrt_nvPorts (s : State) (n : Nat) (f : PortSt → PortSt) : (s.updPrt n f).nvPorts = s.nvPorts := rfl
@[simp] theorem State.updPrt_nvBuf (s : State) (n : Nat) (f : PortSt → PortSt) : (s.updPrt n f).nvBuf = s.nvBuf := rfl
@[simp] theorem State.updPrt_dfb (s : State) (n : Nat) (f : PortSt → PortSt) : (s.updPrt n f).dfb = s.dfb := rfl
@[simp] theorem State.updPrt_emu (s : State) (n : Nat) (f : PortSt → PortSt) : (s.updPrt n f).emu = s.emu := rfl
@[simp] theorem State.updPrt_emuDrv (s : State) (n : Nat) (f : PortSt → PortSt) : (s.updPrt n f).emuDrv = s.emuDrv := rfl
@[simp] theorem State.updPrt_blankWin (s : State) (n : Nat) (f : PortSt → PortSt) : (s.updPrt n f).blankWin = s.blankWin := rfl
@[simp] theorem State.updPrt_obsOld (s : State) (n : Nat) (f : PortSt → PortSt) : (s.updPrt n f).obsOld = s.obsOld := rfl
@[simp] theorem State.updPrt_slots (s : State) (n : Nat) (f : PortSt → PortSt) : (s.updPrt n f).slots = s.slots := rfl
@[simp] theorem State.updPrt_copies (s : State) (n : Nat) (f : PortSt → PortSt) : (s.updPrt n f).copies = s.copies := rfl
@[simp] theorem State.updPrt_pwms (s : State) (n : Nat) (f : PortSt → PortSt) : (s.updPrt n f).pwms = s.pwms := rfl
@[simp] theorem State.updPrt_gt (s : State) (n : Nat) (f : PortSt → PortSt) : (s.updPrt n f).gt = s.gt := rfl
@[simp] theorem State.updPrt_stream (s : State) (n : Nat) (f : PortSt → PortSt) : (s.updPrt n f).stream = s.stream := rfl
@[simp] theorem State.updPrt_geyDrv (s : State) (n : Nat) (f : PortSt → PortSt) : (s.updPrt n f).geyDrv = s.geyDrv := rfl
@[simp] theorem State.updPrt_vnt (s : State) (n : Nat) (f : PortSt → PortSt) : (s.updPrt n f).vnt = s.vnt := rfl
@[simp] theorem State.updPrt_ventReq (s : State) (n : Nat) (f : PortSt → PortSt) : (s.updPrt n f).ventReq = s.ventReq := rfl
@[simp] theorem State.updPrt_inj (s : State) (n : Nat) (f : PortSt → PortSt) : (s.updPrt n f).inj = s.inj := rfl
@[simp] theorem State.updPrt_injEnd (s : State) (n : Nat) (f : PortSt → PortSt) : (s.updPrt n f).injEnd = s.injEnd := rfl
@[simp] theorem State.updPrt_poison (s : State) (n : Nat) (f : PortSt → PortSt) : (s.updPrt n f).poison = s.poison := rfl
@[simp] theorem State.updPrt_ashDue (s : State) (n : Nat) (f : PortSt → PortSt) : (s.updPrt n f).ashDue = s.ashDue := rfl
@[simp] theorem State.updPrt_tmp (s : State) (n : Nat) (f : PortSt → PortSt) : (s.updPrt n f).tmp = s.tmp := rfl
@[simp] theorem State.updPrt_tsl (s : State) (n : Nat) (f : PortSt → PortSt) : (s.updPrt n f).tsl = s.tsl := rfl
@[simp] theorem State.updPrt_pairEnd (s : State) (n : Nat) (f : PortSt → PortSt) : (s.updPrt n f).pairEnd = s.pairEnd := rfl
@[simp] theorem State.updPrt_tmpFrom (s : State) (n : Nat) (f : PortSt → PortSt) : (s.updPrt n f).tmpFrom = s.tmpFrom := rfl
@[simp] theorem State.updPrt_actA (s : State) (n : Nat) (f : PortSt → PortSt) : (s.updPrt n f).actA = s.actA := rfl
@[simp] theorem State.updPrt_actB (s : State) (n : Nat) (f : PortSt → PortSt) : (s.updPrt n f).actB = s.actB := rfl
@[simp] theorem State.updPrt_axA (s : State) (n : Nat) (f : PortSt → PortSt) : (s.updPrt n f).axA = s.axA := rfl
@[simp] theorem State.updPrt_axB (s : State) (n : Nat) (f : PortSt → PortSt) : (s.updPrt n f).axB = s.axB := rfl
@[simp] theorem State.updPrt_siB (s : State) (n : Nat) (f : PortSt → PortSt) : (s.updPrt n f).siB = s.siB := rfl
@[simp] theorem State.updPrt_discA (s : State) (n : Nat) (f : PortSt → PortSt) : (s.updPrt n f).discA = s.discA := rfl
@[simp] theorem State.updPrt_discB (s : State) (n : Nat) (f : PortSt → PortSt) : (s.updPrt n f).discB = s.discB := rfl
@[simp] theorem State.updPrt_latA (s : State) (n : Nat) (f : PortSt → PortSt) : (s.updPrt n f).latA = s.latA := rfl
@[simp] theorem State.updPrt_latB (s : State) (n : Nat) (f : PortSt → PortSt) : (s.updPrt n f).latB = s.latB := rfl
@[simp] theorem State.updPrt_keys (s : State) (n : Nat) (f : PortSt → PortSt) : (s.updPrt n f).keys = s.keys := rfl
@[simp] theorem State.updPrt_xst (s : State) (n : Nat) (f : PortSt → PortSt) : (s.updPrt n f).xst = s.xst := rfl
@[simp] theorem State.updPrt_appWait (s : State) (n : Nat) (f : PortSt → PortSt) : (s.updPrt n f).appWait = s.appWait := rfl
@[simp] theorem State.updPrt_ftLat (s : State) (n : Nat) (f : PortSt → PortSt) : (s.updPrt n f).ftLat = s.ftLat := rfl
@[simp] theorem State.updPrt_susp (s : State) (n : Nat) (f : PortSt → PortSt) : (s.updPrt n f).susp = s.susp := rfl
@[simp] theorem State.updPrt_gapAt (s : State) (n : Nat) (f : PortSt → PortSt) : (s.updPrt n f).gapAt = s.gapAt := rfl
@[simp] theorem State.updPrt_smOn (s : State) (n : Nat) (f : PortSt → PortSt) : (s.updPrt n f).smOn = s.smOn := rfl
@[simp] theorem State.updPrt_conns (s : State) (n : Nat) (f : PortSt → PortSt) : (s.updPrt n f).conns = s.conns := rfl
@[simp] theorem State.updPrt_can (s : State) (n : Nat) (f : PortSt → PortSt) : (s.updPrt n f).can = s.can := rfl
@[simp] theorem State.updPrt_canAt (s : State) (n : Nat) (f : PortSt → PortSt) : (s.updPrt n f).canAt = s.canAt := rfl
@[simp] theorem State.updPrt_canWake (s : State) (n : Nat) (f : PortSt → PortSt) : (s.updPrt n f).canWake = s.canWake := rfl
@[simp] theorem State.updPrt_flagHist (s : State) (n : Nat) (f : PortSt → PortSt) : (s.updPrt n f).flagHist = s.flagHist := rfl
@[simp] theorem State.updPrt_chn (s : State) (n : Nat) (f : PortSt → PortSt) : (s.updPrt n f).chn = s.chn := rfl
@[simp] theorem State.updPrt_twn (s : State) (n : Nat) (f : PortSt → PortSt) : (s.updPrt n f).twn = s.twn := rfl
@[simp] theorem State.updPrt_rst (s : State) (n : Nat) (f : PortSt → PortSt) : (s.updPrt n f).rst = s.rst := rfl
@[simp] theorem State.updPrt_snt (s : State) (n : Nat) (f : PortSt → PortSt) : (s.updPrt n f).snt = s.snt := rfl
@[simp] theorem State.updPrt_tap (s : State) (n : Nat) (f : PortSt → PortSt) : (s.updPrt n f).tap = s.tap := rfl
@[simp] theorem State.updPrt_host (s : State) (n : Nat) (f : PortSt → PortSt) : (s.updPrt n f).host = s.host := rfl
@[simp] theorem State.updPrt_pending (s : State) (n : Nat) (f : PortSt → PortSt) : (s.updPrt n f).pending = s.pending := rfl
@[simp] theorem State.updPrt_outbox (s : State) (n : Nat) (f : PortSt → PortSt) : (s.updPrt n f).outbox = s.outbox := rfl
@[simp] theorem State.updPrt_g (s : State) (n : Nat) (f : PortSt → PortSt) (fld : Fld) (i : Nat) : (s.updPrt n f).g fld i = s.g fld i := rfl
@[simp] theorem State.updPrt_gb (s : State) (n : Nat) (f : PortSt → PortSt) (fld : Fld) (i : Nat) : (s.updPrt n f).gb fld i = s.gb fld i := rfl
@[simp] theorem State.updPrt_gi (s : State) (n : Nat) (f : PortSt → PortSt) (fld : Fld) (i : Nat) : (s.updPrt n f).gi fld i = s.gi fld i := rfl

/-! ### `State.updExc` -/

@[simp] theorem State.updExc_now (s : State) (n : Nat) (f : ExcSt → ExcSt) : (s.updExc n f).now = s.now := rfl
@[simp] theorem State.updExc_t (s : State) (n : Nat) (f : ExcSt → ExcSt) : (s.updExc n f).t = s.t := rfl
@[simp] theorem State.updExc_fields (s : State) (n : Nat) (f : ExcSt → ExcSt) : (s.updExc n f).fields = s.fields := rfl
@[simp] theorem State.updExc_sram (s : State) (n : Nat) (f : ExcSt → ExcSt) : (s.updExc n f).sram = s.sram := rfl
@[simp] theorem State.updExc_nvm (s : State) (n : Nat) (f : ExcSt → ExcSt) : (s.updExc n f).nvm = s.nvm := rfl
@[simp] theorem State.updExc_free (s : State) (n : Nat) (f : ExcSt → ExcSt) : (s.updExc n f).free = s.free := rfl
@[simp] theorem State.updExc_wrapped (s : State) (n : Nat) (f : ExcSt → ExcSt) : (s.updExc n f).wrapped = s.wrapped := rfl
@[simp] theorem State.updExc_adcOn (s : State) (n : Nat) (f : ExcSt → ExcSt) : (s.updExc n f).adcOn = s.adcOn := rfl
@[simp] theorem State.updExc_k (s : State) (n : Nat) (f : ExcSt → ExcSt) : (s.updExc n f).k = s.k := rfl
@[simp] theorem State.updExc_bDone (s : State) (n : Nat) (f : ExcSt → ExcSt) : (s.updExc n f).bDone = s.bDone := rfl
@[simp] theorem State.updExc_kB (s : State) (n : Nat) (f : ExcSt → ExcSt) : (s.updExc n f).kB = s.kB := rfl
@[simp] theorem State.updExc_s0 (s : State) (n : Nat) (f : ExcSt → ExcSt) : (s.updExc n f).s0 = s.s0 := rfl
@[simp] theorem State.updExc_staged (s : State) (n : Nat) (f : ExcSt → ExcSt) : (s.updExc n f).staged = s.staged := rfl
@[simp] theorem State.updExc_overflow (s : State) (n : Nat) (f : ExcSt → ExcSt) : (s.updExc n f).overflow = s.overflow := rfl
@[simp] theorem State.updExc_commit (s : State) (n : Nat) (f : ExcSt → ExcSt) : (s.updExc n f).commit = s.commit := rfl
@[simp] theorem State.updExc_epochs (s : State) (n : Nat) (f : ExcSt → ExcSt) : (s.updExc n f).epochs = s.epochs := rfl
@[simp] theorem State.updExc_latches (s : State) (n : Nat) (f : ExcSt → ExcSt) : (s.updExc n f).latches = s.latches := rfl
@[simp] theorem State.updExc_prt (s : State) (n : Nat) (f : ExcSt → ExcSt) : (s.updExc n f).prt = s.prt := rfl
@[simp] theorem State.updExc_acq (s : State) (n : Nat) (f : ExcSt → ExcSt) : (s.updExc n f).acq = s.acq := rfl
@[simp] theorem State.updExc_obs (s : State) (n : Nat) (f : ExcSt → ExcSt) : (s.updExc n f).obs = s.obs := rfl
@[simp] theorem State.updExc_div (s : State) (n : Nat) (f : ExcSt → ExcSt) : (s.updExc n f).div = s.div := rfl
@[simp] theorem State.updExc_cal (s : State) (n : Nat) (f : ExcSt → ExcSt) : (s.updExc n f).cal = s.cal := rfl
@[simp] theorem State.updExc_calStep (s : State) (n : Nat) (f : ExcSt → ExcSt) : (s.updExc n f).calStep = s.calStep := rfl
@[simp] theorem State.updExc_calAcc (s : State) (n : Nat) (f : ExcSt → ExcSt) : (s.updExc n f).calAcc = s.calAcc := rfl
@[simp] theorem State.updExc_swpAcc (s : State) (n : Nat) (f : ExcSt → ExcSt) : (s.updExc n f).swpAcc = s.swpAcc := rfl
@[simp] theorem State.updExc_obsLim (s : State) (n : Nat) (f : ExcSt → ExcSt) : (s.updExc n f).obsLim = s.obsLim := rfl
@[simp] theorem State.updExc_sinc (s : State) (n : Nat) (f : ExcSt → ExcSt) : (s.updExc n f).sinc = s.sinc := rfl
@[simp] theorem State.updExc_tsrc (s : State) (n : Nat) (f : ExcSt → ExcSt) : (s.updExc n f).tsrc = s.tsrc := rfl
@[simp] theorem State.updExc_safPar (s : State) (n : Nat) (f : ExcSt → ExcSt) : (s.updExc n f).safPar = s.safPar := rfl
@[simp] theorem State.updExc_permAt (s : State) (n : Nat) (f : ExcSt → ExcSt) : (s.updExc n f).permAt = s.permAt := rfl
@[simp] theorem State.updExc_stamps (s : State) (n : Nat) (f : ExcSt → ExcSt) : (s.updExc n f).stamps = s.stamps := rfl
@[simp] theorem State.updExc_lrn (s : State) (n : Nat) (f : ExcSt → ExcSt) : (s.updExc n f).lrn = s.lrn := rfl
@[simp] theorem State.updExc_nvq (s : State) (n : Nat) (f : ExcSt → ExcSt) : (s.updExc n f).nvq = s.nvq := rfl
@[simp] theorem State.updExc_nvPorts (s : State) (n : Nat) (f : ExcSt → ExcSt) : (s.updExc n f).nvPorts = s.nvPorts := rfl
@[simp] theorem State.updExc_nvBuf (s : State) (n : Nat) (f : ExcSt → ExcSt) : (s.updExc n f).nvBuf = s.nvBuf := rfl
@[simp] theorem State.updExc_dfb (s : State) (n : Nat) (f : ExcSt → ExcSt) : (s.updExc n f).dfb = s.dfb := rfl
@[simp] theorem State.updExc_emu (s : State) (n : Nat) (f : ExcSt → ExcSt) : (s.updExc n f).emu = s.emu := rfl
@[simp] theorem State.updExc_emuDrv (s : State) (n : Nat) (f : ExcSt → ExcSt) : (s.updExc n f).emuDrv = s.emuDrv := rfl
@[simp] theorem State.updExc_blankWin (s : State) (n : Nat) (f : ExcSt → ExcSt) : (s.updExc n f).blankWin = s.blankWin := rfl
@[simp] theorem State.updExc_obsOld (s : State) (n : Nat) (f : ExcSt → ExcSt) : (s.updExc n f).obsOld = s.obsOld := rfl
@[simp] theorem State.updExc_slots (s : State) (n : Nat) (f : ExcSt → ExcSt) : (s.updExc n f).slots = s.slots := rfl
@[simp] theorem State.updExc_copies (s : State) (n : Nat) (f : ExcSt → ExcSt) : (s.updExc n f).copies = s.copies := rfl
@[simp] theorem State.updExc_pwms (s : State) (n : Nat) (f : ExcSt → ExcSt) : (s.updExc n f).pwms = s.pwms := rfl
@[simp] theorem State.updExc_gt (s : State) (n : Nat) (f : ExcSt → ExcSt) : (s.updExc n f).gt = s.gt := rfl
@[simp] theorem State.updExc_stream (s : State) (n : Nat) (f : ExcSt → ExcSt) : (s.updExc n f).stream = s.stream := rfl
@[simp] theorem State.updExc_geyDrv (s : State) (n : Nat) (f : ExcSt → ExcSt) : (s.updExc n f).geyDrv = s.geyDrv := rfl
@[simp] theorem State.updExc_vnt (s : State) (n : Nat) (f : ExcSt → ExcSt) : (s.updExc n f).vnt = s.vnt := rfl
@[simp] theorem State.updExc_ventReq (s : State) (n : Nat) (f : ExcSt → ExcSt) : (s.updExc n f).ventReq = s.ventReq := rfl
@[simp] theorem State.updExc_inj (s : State) (n : Nat) (f : ExcSt → ExcSt) : (s.updExc n f).inj = s.inj := rfl
@[simp] theorem State.updExc_injEnd (s : State) (n : Nat) (f : ExcSt → ExcSt) : (s.updExc n f).injEnd = s.injEnd := rfl
@[simp] theorem State.updExc_poison (s : State) (n : Nat) (f : ExcSt → ExcSt) : (s.updExc n f).poison = s.poison := rfl
@[simp] theorem State.updExc_ashDue (s : State) (n : Nat) (f : ExcSt → ExcSt) : (s.updExc n f).ashDue = s.ashDue := rfl
@[simp] theorem State.updExc_tmp (s : State) (n : Nat) (f : ExcSt → ExcSt) : (s.updExc n f).tmp = s.tmp := rfl
@[simp] theorem State.updExc_tsl (s : State) (n : Nat) (f : ExcSt → ExcSt) : (s.updExc n f).tsl = s.tsl := rfl
@[simp] theorem State.updExc_pairEnd (s : State) (n : Nat) (f : ExcSt → ExcSt) : (s.updExc n f).pairEnd = s.pairEnd := rfl
@[simp] theorem State.updExc_tmpFrom (s : State) (n : Nat) (f : ExcSt → ExcSt) : (s.updExc n f).tmpFrom = s.tmpFrom := rfl
@[simp] theorem State.updExc_actA (s : State) (n : Nat) (f : ExcSt → ExcSt) : (s.updExc n f).actA = s.actA := rfl
@[simp] theorem State.updExc_actB (s : State) (n : Nat) (f : ExcSt → ExcSt) : (s.updExc n f).actB = s.actB := rfl
@[simp] theorem State.updExc_axA (s : State) (n : Nat) (f : ExcSt → ExcSt) : (s.updExc n f).axA = s.axA := rfl
@[simp] theorem State.updExc_axB (s : State) (n : Nat) (f : ExcSt → ExcSt) : (s.updExc n f).axB = s.axB := rfl
@[simp] theorem State.updExc_siB (s : State) (n : Nat) (f : ExcSt → ExcSt) : (s.updExc n f).siB = s.siB := rfl
@[simp] theorem State.updExc_discA (s : State) (n : Nat) (f : ExcSt → ExcSt) : (s.updExc n f).discA = s.discA := rfl
@[simp] theorem State.updExc_discB (s : State) (n : Nat) (f : ExcSt → ExcSt) : (s.updExc n f).discB = s.discB := rfl
@[simp] theorem State.updExc_latA (s : State) (n : Nat) (f : ExcSt → ExcSt) : (s.updExc n f).latA = s.latA := rfl
@[simp] theorem State.updExc_latB (s : State) (n : Nat) (f : ExcSt → ExcSt) : (s.updExc n f).latB = s.latB := rfl
@[simp] theorem State.updExc_keys (s : State) (n : Nat) (f : ExcSt → ExcSt) : (s.updExc n f).keys = s.keys := rfl
@[simp] theorem State.updExc_xst (s : State) (n : Nat) (f : ExcSt → ExcSt) : (s.updExc n f).xst = s.xst := rfl
@[simp] theorem State.updExc_appWait (s : State) (n : Nat) (f : ExcSt → ExcSt) : (s.updExc n f).appWait = s.appWait := rfl
@[simp] theorem State.updExc_ftLat (s : State) (n : Nat) (f : ExcSt → ExcSt) : (s.updExc n f).ftLat = s.ftLat := rfl
@[simp] theorem State.updExc_susp (s : State) (n : Nat) (f : ExcSt → ExcSt) : (s.updExc n f).susp = s.susp := rfl
@[simp] theorem State.updExc_gapAt (s : State) (n : Nat) (f : ExcSt → ExcSt) : (s.updExc n f).gapAt = s.gapAt := rfl
@[simp] theorem State.updExc_smOn (s : State) (n : Nat) (f : ExcSt → ExcSt) : (s.updExc n f).smOn = s.smOn := rfl
@[simp] theorem State.updExc_conns (s : State) (n : Nat) (f : ExcSt → ExcSt) : (s.updExc n f).conns = s.conns := rfl
@[simp] theorem State.updExc_can (s : State) (n : Nat) (f : ExcSt → ExcSt) : (s.updExc n f).can = s.can := rfl
@[simp] theorem State.updExc_canAt (s : State) (n : Nat) (f : ExcSt → ExcSt) : (s.updExc n f).canAt = s.canAt := rfl
@[simp] theorem State.updExc_canWake (s : State) (n : Nat) (f : ExcSt → ExcSt) : (s.updExc n f).canWake = s.canWake := rfl
@[simp] theorem State.updExc_flagHist (s : State) (n : Nat) (f : ExcSt → ExcSt) : (s.updExc n f).flagHist = s.flagHist := rfl
@[simp] theorem State.updExc_chn (s : State) (n : Nat) (f : ExcSt → ExcSt) : (s.updExc n f).chn = s.chn := rfl
@[simp] theorem State.updExc_twn (s : State) (n : Nat) (f : ExcSt → ExcSt) : (s.updExc n f).twn = s.twn := rfl
@[simp] theorem State.updExc_rst (s : State) (n : Nat) (f : ExcSt → ExcSt) : (s.updExc n f).rst = s.rst := rfl
@[simp] theorem State.updExc_snt (s : State) (n : Nat) (f : ExcSt → ExcSt) : (s.updExc n f).snt = s.snt := rfl
@[simp] theorem State.updExc_tap (s : State) (n : Nat) (f : ExcSt → ExcSt) : (s.updExc n f).tap = s.tap := rfl
@[simp] theorem State.updExc_host (s : State) (n : Nat) (f : ExcSt → ExcSt) : (s.updExc n f).host = s.host := rfl
@[simp] theorem State.updExc_pending (s : State) (n : Nat) (f : ExcSt → ExcSt) : (s.updExc n f).pending = s.pending := rfl
@[simp] theorem State.updExc_outbox (s : State) (n : Nat) (f : ExcSt → ExcSt) : (s.updExc n f).outbox = s.outbox := rfl
@[simp] theorem State.updExc_g (s : State) (n : Nat) (f : ExcSt → ExcSt) (fld : Fld) (i : Nat) : (s.updExc n f).g fld i = s.g fld i := rfl
@[simp] theorem State.updExc_gb (s : State) (n : Nat) (f : ExcSt → ExcSt) (fld : Fld) (i : Nat) : (s.updExc n f).gb fld i = s.gb fld i := rfl
@[simp] theorem State.updExc_gi (s : State) (n : Nat) (f : ExcSt → ExcSt) (fld : Fld) (i : Nat) : (s.updExc n f).gi fld i = s.gi fld i := rfl

/-! ### `State.updAcq` -/

@[simp] theorem State.updAcq_now (s : State) (n : Nat) (f : AcqSt → AcqSt) : (s.updAcq n f).now = s.now := rfl
@[simp] theorem State.updAcq_t (s : State) (n : Nat) (f : AcqSt → AcqSt) : (s.updAcq n f).t = s.t := rfl
@[simp] theorem State.updAcq_fields (s : State) (n : Nat) (f : AcqSt → AcqSt) : (s.updAcq n f).fields = s.fields := rfl
@[simp] theorem State.updAcq_sram (s : State) (n : Nat) (f : AcqSt → AcqSt) : (s.updAcq n f).sram = s.sram := rfl
@[simp] theorem State.updAcq_nvm (s : State) (n : Nat) (f : AcqSt → AcqSt) : (s.updAcq n f).nvm = s.nvm := rfl
@[simp] theorem State.updAcq_free (s : State) (n : Nat) (f : AcqSt → AcqSt) : (s.updAcq n f).free = s.free := rfl
@[simp] theorem State.updAcq_wrapped (s : State) (n : Nat) (f : AcqSt → AcqSt) : (s.updAcq n f).wrapped = s.wrapped := rfl
@[simp] theorem State.updAcq_adcOn (s : State) (n : Nat) (f : AcqSt → AcqSt) : (s.updAcq n f).adcOn = s.adcOn := rfl
@[simp] theorem State.updAcq_k (s : State) (n : Nat) (f : AcqSt → AcqSt) : (s.updAcq n f).k = s.k := rfl
@[simp] theorem State.updAcq_bDone (s : State) (n : Nat) (f : AcqSt → AcqSt) : (s.updAcq n f).bDone = s.bDone := rfl
@[simp] theorem State.updAcq_kB (s : State) (n : Nat) (f : AcqSt → AcqSt) : (s.updAcq n f).kB = s.kB := rfl
@[simp] theorem State.updAcq_s0 (s : State) (n : Nat) (f : AcqSt → AcqSt) : (s.updAcq n f).s0 = s.s0 := rfl
@[simp] theorem State.updAcq_staged (s : State) (n : Nat) (f : AcqSt → AcqSt) : (s.updAcq n f).staged = s.staged := rfl
@[simp] theorem State.updAcq_overflow (s : State) (n : Nat) (f : AcqSt → AcqSt) : (s.updAcq n f).overflow = s.overflow := rfl
@[simp] theorem State.updAcq_commit (s : State) (n : Nat) (f : AcqSt → AcqSt) : (s.updAcq n f).commit = s.commit := rfl
@[simp] theorem State.updAcq_epochs (s : State) (n : Nat) (f : AcqSt → AcqSt) : (s.updAcq n f).epochs = s.epochs := rfl
@[simp] theorem State.updAcq_latches (s : State) (n : Nat) (f : AcqSt → AcqSt) : (s.updAcq n f).latches = s.latches := rfl
@[simp] theorem State.updAcq_prt (s : State) (n : Nat) (f : AcqSt → AcqSt) : (s.updAcq n f).prt = s.prt := rfl
@[simp] theorem State.updAcq_exc (s : State) (n : Nat) (f : AcqSt → AcqSt) : (s.updAcq n f).exc = s.exc := rfl
@[simp] theorem State.updAcq_obs (s : State) (n : Nat) (f : AcqSt → AcqSt) : (s.updAcq n f).obs = s.obs := rfl
@[simp] theorem State.updAcq_div (s : State) (n : Nat) (f : AcqSt → AcqSt) : (s.updAcq n f).div = s.div := rfl
@[simp] theorem State.updAcq_cal (s : State) (n : Nat) (f : AcqSt → AcqSt) : (s.updAcq n f).cal = s.cal := rfl
@[simp] theorem State.updAcq_calStep (s : State) (n : Nat) (f : AcqSt → AcqSt) : (s.updAcq n f).calStep = s.calStep := rfl
@[simp] theorem State.updAcq_calAcc (s : State) (n : Nat) (f : AcqSt → AcqSt) : (s.updAcq n f).calAcc = s.calAcc := rfl
@[simp] theorem State.updAcq_swpAcc (s : State) (n : Nat) (f : AcqSt → AcqSt) : (s.updAcq n f).swpAcc = s.swpAcc := rfl
@[simp] theorem State.updAcq_obsLim (s : State) (n : Nat) (f : AcqSt → AcqSt) : (s.updAcq n f).obsLim = s.obsLim := rfl
@[simp] theorem State.updAcq_sinc (s : State) (n : Nat) (f : AcqSt → AcqSt) : (s.updAcq n f).sinc = s.sinc := rfl
@[simp] theorem State.updAcq_tsrc (s : State) (n : Nat) (f : AcqSt → AcqSt) : (s.updAcq n f).tsrc = s.tsrc := rfl
@[simp] theorem State.updAcq_safPar (s : State) (n : Nat) (f : AcqSt → AcqSt) : (s.updAcq n f).safPar = s.safPar := rfl
@[simp] theorem State.updAcq_permAt (s : State) (n : Nat) (f : AcqSt → AcqSt) : (s.updAcq n f).permAt = s.permAt := rfl
@[simp] theorem State.updAcq_stamps (s : State) (n : Nat) (f : AcqSt → AcqSt) : (s.updAcq n f).stamps = s.stamps := rfl
@[simp] theorem State.updAcq_lrn (s : State) (n : Nat) (f : AcqSt → AcqSt) : (s.updAcq n f).lrn = s.lrn := rfl
@[simp] theorem State.updAcq_nvq (s : State) (n : Nat) (f : AcqSt → AcqSt) : (s.updAcq n f).nvq = s.nvq := rfl
@[simp] theorem State.updAcq_nvPorts (s : State) (n : Nat) (f : AcqSt → AcqSt) : (s.updAcq n f).nvPorts = s.nvPorts := rfl
@[simp] theorem State.updAcq_nvBuf (s : State) (n : Nat) (f : AcqSt → AcqSt) : (s.updAcq n f).nvBuf = s.nvBuf := rfl
@[simp] theorem State.updAcq_dfb (s : State) (n : Nat) (f : AcqSt → AcqSt) : (s.updAcq n f).dfb = s.dfb := rfl
@[simp] theorem State.updAcq_emu (s : State) (n : Nat) (f : AcqSt → AcqSt) : (s.updAcq n f).emu = s.emu := rfl
@[simp] theorem State.updAcq_emuDrv (s : State) (n : Nat) (f : AcqSt → AcqSt) : (s.updAcq n f).emuDrv = s.emuDrv := rfl
@[simp] theorem State.updAcq_blankWin (s : State) (n : Nat) (f : AcqSt → AcqSt) : (s.updAcq n f).blankWin = s.blankWin := rfl
@[simp] theorem State.updAcq_obsOld (s : State) (n : Nat) (f : AcqSt → AcqSt) : (s.updAcq n f).obsOld = s.obsOld := rfl
@[simp] theorem State.updAcq_slots (s : State) (n : Nat) (f : AcqSt → AcqSt) : (s.updAcq n f).slots = s.slots := rfl
@[simp] theorem State.updAcq_copies (s : State) (n : Nat) (f : AcqSt → AcqSt) : (s.updAcq n f).copies = s.copies := rfl
@[simp] theorem State.updAcq_pwms (s : State) (n : Nat) (f : AcqSt → AcqSt) : (s.updAcq n f).pwms = s.pwms := rfl
@[simp] theorem State.updAcq_gt (s : State) (n : Nat) (f : AcqSt → AcqSt) : (s.updAcq n f).gt = s.gt := rfl
@[simp] theorem State.updAcq_stream (s : State) (n : Nat) (f : AcqSt → AcqSt) : (s.updAcq n f).stream = s.stream := rfl
@[simp] theorem State.updAcq_geyDrv (s : State) (n : Nat) (f : AcqSt → AcqSt) : (s.updAcq n f).geyDrv = s.geyDrv := rfl
@[simp] theorem State.updAcq_vnt (s : State) (n : Nat) (f : AcqSt → AcqSt) : (s.updAcq n f).vnt = s.vnt := rfl
@[simp] theorem State.updAcq_ventReq (s : State) (n : Nat) (f : AcqSt → AcqSt) : (s.updAcq n f).ventReq = s.ventReq := rfl
@[simp] theorem State.updAcq_inj (s : State) (n : Nat) (f : AcqSt → AcqSt) : (s.updAcq n f).inj = s.inj := rfl
@[simp] theorem State.updAcq_injEnd (s : State) (n : Nat) (f : AcqSt → AcqSt) : (s.updAcq n f).injEnd = s.injEnd := rfl
@[simp] theorem State.updAcq_poison (s : State) (n : Nat) (f : AcqSt → AcqSt) : (s.updAcq n f).poison = s.poison := rfl
@[simp] theorem State.updAcq_ashDue (s : State) (n : Nat) (f : AcqSt → AcqSt) : (s.updAcq n f).ashDue = s.ashDue := rfl
@[simp] theorem State.updAcq_tmp (s : State) (n : Nat) (f : AcqSt → AcqSt) : (s.updAcq n f).tmp = s.tmp := rfl
@[simp] theorem State.updAcq_tsl (s : State) (n : Nat) (f : AcqSt → AcqSt) : (s.updAcq n f).tsl = s.tsl := rfl
@[simp] theorem State.updAcq_pairEnd (s : State) (n : Nat) (f : AcqSt → AcqSt) : (s.updAcq n f).pairEnd = s.pairEnd := rfl
@[simp] theorem State.updAcq_tmpFrom (s : State) (n : Nat) (f : AcqSt → AcqSt) : (s.updAcq n f).tmpFrom = s.tmpFrom := rfl
@[simp] theorem State.updAcq_actA (s : State) (n : Nat) (f : AcqSt → AcqSt) : (s.updAcq n f).actA = s.actA := rfl
@[simp] theorem State.updAcq_actB (s : State) (n : Nat) (f : AcqSt → AcqSt) : (s.updAcq n f).actB = s.actB := rfl
@[simp] theorem State.updAcq_axA (s : State) (n : Nat) (f : AcqSt → AcqSt) : (s.updAcq n f).axA = s.axA := rfl
@[simp] theorem State.updAcq_axB (s : State) (n : Nat) (f : AcqSt → AcqSt) : (s.updAcq n f).axB = s.axB := rfl
@[simp] theorem State.updAcq_siB (s : State) (n : Nat) (f : AcqSt → AcqSt) : (s.updAcq n f).siB = s.siB := rfl
@[simp] theorem State.updAcq_discA (s : State) (n : Nat) (f : AcqSt → AcqSt) : (s.updAcq n f).discA = s.discA := rfl
@[simp] theorem State.updAcq_discB (s : State) (n : Nat) (f : AcqSt → AcqSt) : (s.updAcq n f).discB = s.discB := rfl
@[simp] theorem State.updAcq_latA (s : State) (n : Nat) (f : AcqSt → AcqSt) : (s.updAcq n f).latA = s.latA := rfl
@[simp] theorem State.updAcq_latB (s : State) (n : Nat) (f : AcqSt → AcqSt) : (s.updAcq n f).latB = s.latB := rfl
@[simp] theorem State.updAcq_keys (s : State) (n : Nat) (f : AcqSt → AcqSt) : (s.updAcq n f).keys = s.keys := rfl
@[simp] theorem State.updAcq_xst (s : State) (n : Nat) (f : AcqSt → AcqSt) : (s.updAcq n f).xst = s.xst := rfl
@[simp] theorem State.updAcq_appWait (s : State) (n : Nat) (f : AcqSt → AcqSt) : (s.updAcq n f).appWait = s.appWait := rfl
@[simp] theorem State.updAcq_ftLat (s : State) (n : Nat) (f : AcqSt → AcqSt) : (s.updAcq n f).ftLat = s.ftLat := rfl
@[simp] theorem State.updAcq_susp (s : State) (n : Nat) (f : AcqSt → AcqSt) : (s.updAcq n f).susp = s.susp := rfl
@[simp] theorem State.updAcq_gapAt (s : State) (n : Nat) (f : AcqSt → AcqSt) : (s.updAcq n f).gapAt = s.gapAt := rfl
@[simp] theorem State.updAcq_smOn (s : State) (n : Nat) (f : AcqSt → AcqSt) : (s.updAcq n f).smOn = s.smOn := rfl
@[simp] theorem State.updAcq_conns (s : State) (n : Nat) (f : AcqSt → AcqSt) : (s.updAcq n f).conns = s.conns := rfl
@[simp] theorem State.updAcq_can (s : State) (n : Nat) (f : AcqSt → AcqSt) : (s.updAcq n f).can = s.can := rfl
@[simp] theorem State.updAcq_canAt (s : State) (n : Nat) (f : AcqSt → AcqSt) : (s.updAcq n f).canAt = s.canAt := rfl
@[simp] theorem State.updAcq_canWake (s : State) (n : Nat) (f : AcqSt → AcqSt) : (s.updAcq n f).canWake = s.canWake := rfl
@[simp] theorem State.updAcq_flagHist (s : State) (n : Nat) (f : AcqSt → AcqSt) : (s.updAcq n f).flagHist = s.flagHist := rfl
@[simp] theorem State.updAcq_chn (s : State) (n : Nat) (f : AcqSt → AcqSt) : (s.updAcq n f).chn = s.chn := rfl
@[simp] theorem State.updAcq_twn (s : State) (n : Nat) (f : AcqSt → AcqSt) : (s.updAcq n f).twn = s.twn := rfl
@[simp] theorem State.updAcq_rst (s : State) (n : Nat) (f : AcqSt → AcqSt) : (s.updAcq n f).rst = s.rst := rfl
@[simp] theorem State.updAcq_snt (s : State) (n : Nat) (f : AcqSt → AcqSt) : (s.updAcq n f).snt = s.snt := rfl
@[simp] theorem State.updAcq_tap (s : State) (n : Nat) (f : AcqSt → AcqSt) : (s.updAcq n f).tap = s.tap := rfl
@[simp] theorem State.updAcq_host (s : State) (n : Nat) (f : AcqSt → AcqSt) : (s.updAcq n f).host = s.host := rfl
@[simp] theorem State.updAcq_pending (s : State) (n : Nat) (f : AcqSt → AcqSt) : (s.updAcq n f).pending = s.pending := rfl
@[simp] theorem State.updAcq_outbox (s : State) (n : Nat) (f : AcqSt → AcqSt) : (s.updAcq n f).outbox = s.outbox := rfl
@[simp] theorem State.updAcq_g (s : State) (n : Nat) (f : AcqSt → AcqSt) (fld : Fld) (i : Nat) : (s.updAcq n f).g fld i = s.g fld i := rfl
@[simp] theorem State.updAcq_gb (s : State) (n : Nat) (f : AcqSt → AcqSt) (fld : Fld) (i : Nat) : (s.updAcq n f).gb fld i = s.gb fld i := rfl
@[simp] theorem State.updAcq_gi (s : State) (n : Nat) (f : AcqSt → AcqSt) (fld : Fld) (i : Nat) : (s.updAcq n f).gi fld i = s.gi fld i := rfl

/-! ### `State.updObs` -/

@[simp] theorem State.updObs_now (s : State) (n : Nat) (f : ObsSt → ObsSt) : (s.updObs n f).now = s.now := rfl
@[simp] theorem State.updObs_t (s : State) (n : Nat) (f : ObsSt → ObsSt) : (s.updObs n f).t = s.t := rfl
@[simp] theorem State.updObs_fields (s : State) (n : Nat) (f : ObsSt → ObsSt) : (s.updObs n f).fields = s.fields := rfl
@[simp] theorem State.updObs_sram (s : State) (n : Nat) (f : ObsSt → ObsSt) : (s.updObs n f).sram = s.sram := rfl
@[simp] theorem State.updObs_nvm (s : State) (n : Nat) (f : ObsSt → ObsSt) : (s.updObs n f).nvm = s.nvm := rfl
@[simp] theorem State.updObs_free (s : State) (n : Nat) (f : ObsSt → ObsSt) : (s.updObs n f).free = s.free := rfl
@[simp] theorem State.updObs_wrapped (s : State) (n : Nat) (f : ObsSt → ObsSt) : (s.updObs n f).wrapped = s.wrapped := rfl
@[simp] theorem State.updObs_adcOn (s : State) (n : Nat) (f : ObsSt → ObsSt) : (s.updObs n f).adcOn = s.adcOn := rfl
@[simp] theorem State.updObs_k (s : State) (n : Nat) (f : ObsSt → ObsSt) : (s.updObs n f).k = s.k := rfl
@[simp] theorem State.updObs_bDone (s : State) (n : Nat) (f : ObsSt → ObsSt) : (s.updObs n f).bDone = s.bDone := rfl
@[simp] theorem State.updObs_kB (s : State) (n : Nat) (f : ObsSt → ObsSt) : (s.updObs n f).kB = s.kB := rfl
@[simp] theorem State.updObs_s0 (s : State) (n : Nat) (f : ObsSt → ObsSt) : (s.updObs n f).s0 = s.s0 := rfl
@[simp] theorem State.updObs_staged (s : State) (n : Nat) (f : ObsSt → ObsSt) : (s.updObs n f).staged = s.staged := rfl
@[simp] theorem State.updObs_overflow (s : State) (n : Nat) (f : ObsSt → ObsSt) : (s.updObs n f).overflow = s.overflow := rfl
@[simp] theorem State.updObs_commit (s : State) (n : Nat) (f : ObsSt → ObsSt) : (s.updObs n f).commit = s.commit := rfl
@[simp] theorem State.updObs_epochs (s : State) (n : Nat) (f : ObsSt → ObsSt) : (s.updObs n f).epochs = s.epochs := rfl
@[simp] theorem State.updObs_latches (s : State) (n : Nat) (f : ObsSt → ObsSt) : (s.updObs n f).latches = s.latches := rfl
@[simp] theorem State.updObs_prt (s : State) (n : Nat) (f : ObsSt → ObsSt) : (s.updObs n f).prt = s.prt := rfl
@[simp] theorem State.updObs_exc (s : State) (n : Nat) (f : ObsSt → ObsSt) : (s.updObs n f).exc = s.exc := rfl
@[simp] theorem State.updObs_acq (s : State) (n : Nat) (f : ObsSt → ObsSt) : (s.updObs n f).acq = s.acq := rfl
@[simp] theorem State.updObs_div (s : State) (n : Nat) (f : ObsSt → ObsSt) : (s.updObs n f).div = s.div := rfl
@[simp] theorem State.updObs_cal (s : State) (n : Nat) (f : ObsSt → ObsSt) : (s.updObs n f).cal = s.cal := rfl
@[simp] theorem State.updObs_calStep (s : State) (n : Nat) (f : ObsSt → ObsSt) : (s.updObs n f).calStep = s.calStep := rfl
@[simp] theorem State.updObs_calAcc (s : State) (n : Nat) (f : ObsSt → ObsSt) : (s.updObs n f).calAcc = s.calAcc := rfl
@[simp] theorem State.updObs_swpAcc (s : State) (n : Nat) (f : ObsSt → ObsSt) : (s.updObs n f).swpAcc = s.swpAcc := rfl
@[simp] theorem State.updObs_obsLim (s : State) (n : Nat) (f : ObsSt → ObsSt) : (s.updObs n f).obsLim = s.obsLim := rfl
@[simp] theorem State.updObs_sinc (s : State) (n : Nat) (f : ObsSt → ObsSt) : (s.updObs n f).sinc = s.sinc := rfl
@[simp] theorem State.updObs_tsrc (s : State) (n : Nat) (f : ObsSt → ObsSt) : (s.updObs n f).tsrc = s.tsrc := rfl
@[simp] theorem State.updObs_safPar (s : State) (n : Nat) (f : ObsSt → ObsSt) : (s.updObs n f).safPar = s.safPar := rfl
@[simp] theorem State.updObs_permAt (s : State) (n : Nat) (f : ObsSt → ObsSt) : (s.updObs n f).permAt = s.permAt := rfl
@[simp] theorem State.updObs_stamps (s : State) (n : Nat) (f : ObsSt → ObsSt) : (s.updObs n f).stamps = s.stamps := rfl
@[simp] theorem State.updObs_lrn (s : State) (n : Nat) (f : ObsSt → ObsSt) : (s.updObs n f).lrn = s.lrn := rfl
@[simp] theorem State.updObs_nvq (s : State) (n : Nat) (f : ObsSt → ObsSt) : (s.updObs n f).nvq = s.nvq := rfl
@[simp] theorem State.updObs_nvPorts (s : State) (n : Nat) (f : ObsSt → ObsSt) : (s.updObs n f).nvPorts = s.nvPorts := rfl
@[simp] theorem State.updObs_nvBuf (s : State) (n : Nat) (f : ObsSt → ObsSt) : (s.updObs n f).nvBuf = s.nvBuf := rfl
@[simp] theorem State.updObs_dfb (s : State) (n : Nat) (f : ObsSt → ObsSt) : (s.updObs n f).dfb = s.dfb := rfl
@[simp] theorem State.updObs_emu (s : State) (n : Nat) (f : ObsSt → ObsSt) : (s.updObs n f).emu = s.emu := rfl
@[simp] theorem State.updObs_emuDrv (s : State) (n : Nat) (f : ObsSt → ObsSt) : (s.updObs n f).emuDrv = s.emuDrv := rfl
@[simp] theorem State.updObs_blankWin (s : State) (n : Nat) (f : ObsSt → ObsSt) : (s.updObs n f).blankWin = s.blankWin := rfl
@[simp] theorem State.updObs_obsOld (s : State) (n : Nat) (f : ObsSt → ObsSt) : (s.updObs n f).obsOld = s.obsOld := rfl
@[simp] theorem State.updObs_slots (s : State) (n : Nat) (f : ObsSt → ObsSt) : (s.updObs n f).slots = s.slots := rfl
@[simp] theorem State.updObs_copies (s : State) (n : Nat) (f : ObsSt → ObsSt) : (s.updObs n f).copies = s.copies := rfl
@[simp] theorem State.updObs_pwms (s : State) (n : Nat) (f : ObsSt → ObsSt) : (s.updObs n f).pwms = s.pwms := rfl
@[simp] theorem State.updObs_gt (s : State) (n : Nat) (f : ObsSt → ObsSt) : (s.updObs n f).gt = s.gt := rfl
@[simp] theorem State.updObs_stream (s : State) (n : Nat) (f : ObsSt → ObsSt) : (s.updObs n f).stream = s.stream := rfl
@[simp] theorem State.updObs_geyDrv (s : State) (n : Nat) (f : ObsSt → ObsSt) : (s.updObs n f).geyDrv = s.geyDrv := rfl
@[simp] theorem State.updObs_vnt (s : State) (n : Nat) (f : ObsSt → ObsSt) : (s.updObs n f).vnt = s.vnt := rfl
@[simp] theorem State.updObs_ventReq (s : State) (n : Nat) (f : ObsSt → ObsSt) : (s.updObs n f).ventReq = s.ventReq := rfl
@[simp] theorem State.updObs_inj (s : State) (n : Nat) (f : ObsSt → ObsSt) : (s.updObs n f).inj = s.inj := rfl
@[simp] theorem State.updObs_injEnd (s : State) (n : Nat) (f : ObsSt → ObsSt) : (s.updObs n f).injEnd = s.injEnd := rfl
@[simp] theorem State.updObs_poison (s : State) (n : Nat) (f : ObsSt → ObsSt) : (s.updObs n f).poison = s.poison := rfl
@[simp] theorem State.updObs_ashDue (s : State) (n : Nat) (f : ObsSt → ObsSt) : (s.updObs n f).ashDue = s.ashDue := rfl
@[simp] theorem State.updObs_tmp (s : State) (n : Nat) (f : ObsSt → ObsSt) : (s.updObs n f).tmp = s.tmp := rfl
@[simp] theorem State.updObs_tsl (s : State) (n : Nat) (f : ObsSt → ObsSt) : (s.updObs n f).tsl = s.tsl := rfl
@[simp] theorem State.updObs_pairEnd (s : State) (n : Nat) (f : ObsSt → ObsSt) : (s.updObs n f).pairEnd = s.pairEnd := rfl
@[simp] theorem State.updObs_tmpFrom (s : State) (n : Nat) (f : ObsSt → ObsSt) : (s.updObs n f).tmpFrom = s.tmpFrom := rfl
@[simp] theorem State.updObs_actA (s : State) (n : Nat) (f : ObsSt → ObsSt) : (s.updObs n f).actA = s.actA := rfl
@[simp] theorem State.updObs_actB (s : State) (n : Nat) (f : ObsSt → ObsSt) : (s.updObs n f).actB = s.actB := rfl
@[simp] theorem State.updObs_axA (s : State) (n : Nat) (f : ObsSt → ObsSt) : (s.updObs n f).axA = s.axA := rfl
@[simp] theorem State.updObs_axB (s : State) (n : Nat) (f : ObsSt → ObsSt) : (s.updObs n f).axB = s.axB := rfl
@[simp] theorem State.updObs_siB (s : State) (n : Nat) (f : ObsSt → ObsSt) : (s.updObs n f).siB = s.siB := rfl
@[simp] theorem State.updObs_discA (s : State) (n : Nat) (f : ObsSt → ObsSt) : (s.updObs n f).discA = s.discA := rfl
@[simp] theorem State.updObs_discB (s : State) (n : Nat) (f : ObsSt → ObsSt) : (s.updObs n f).discB = s.discB := rfl
@[simp] theorem State.updObs_latA (s : State) (n : Nat) (f : ObsSt → ObsSt) : (s.updObs n f).latA = s.latA := rfl
@[simp] theorem State.updObs_latB (s : State) (n : Nat) (f : ObsSt → ObsSt) : (s.updObs n f).latB = s.latB := rfl
@[simp] theorem State.updObs_keys (s : State) (n : Nat) (f : ObsSt → ObsSt) : (s.updObs n f).keys = s.keys := rfl
@[simp] theorem State.updObs_xst (s : State) (n : Nat) (f : ObsSt → ObsSt) : (s.updObs n f).xst = s.xst := rfl
@[simp] theorem State.updObs_appWait (s : State) (n : Nat) (f : ObsSt → ObsSt) : (s.updObs n f).appWait = s.appWait := rfl
@[simp] theorem State.updObs_ftLat (s : State) (n : Nat) (f : ObsSt → ObsSt) : (s.updObs n f).ftLat = s.ftLat := rfl
@[simp] theorem State.updObs_susp (s : State) (n : Nat) (f : ObsSt → ObsSt) : (s.updObs n f).susp = s.susp := rfl
@[simp] theorem State.updObs_gapAt (s : State) (n : Nat) (f : ObsSt → ObsSt) : (s.updObs n f).gapAt = s.gapAt := rfl
@[simp] theorem State.updObs_smOn (s : State) (n : Nat) (f : ObsSt → ObsSt) : (s.updObs n f).smOn = s.smOn := rfl
@[simp] theorem State.updObs_conns (s : State) (n : Nat) (f : ObsSt → ObsSt) : (s.updObs n f).conns = s.conns := rfl
@[simp] theorem State.updObs_can (s : State) (n : Nat) (f : ObsSt → ObsSt) : (s.updObs n f).can = s.can := rfl
@[simp] theorem State.updObs_canAt (s : State) (n : Nat) (f : ObsSt → ObsSt) : (s.updObs n f).canAt = s.canAt := rfl
@[simp] theorem State.updObs_canWake (s : State) (n : Nat) (f : ObsSt → ObsSt) : (s.updObs n f).canWake = s.canWake := rfl
@[simp] theorem State.updObs_flagHist (s : State) (n : Nat) (f : ObsSt → ObsSt) : (s.updObs n f).flagHist = s.flagHist := rfl
@[simp] theorem State.updObs_chn (s : State) (n : Nat) (f : ObsSt → ObsSt) : (s.updObs n f).chn = s.chn := rfl
@[simp] theorem State.updObs_twn (s : State) (n : Nat) (f : ObsSt → ObsSt) : (s.updObs n f).twn = s.twn := rfl
@[simp] theorem State.updObs_rst (s : State) (n : Nat) (f : ObsSt → ObsSt) : (s.updObs n f).rst = s.rst := rfl
@[simp] theorem State.updObs_snt (s : State) (n : Nat) (f : ObsSt → ObsSt) : (s.updObs n f).snt = s.snt := rfl
@[simp] theorem State.updObs_tap (s : State) (n : Nat) (f : ObsSt → ObsSt) : (s.updObs n f).tap = s.tap := rfl
@[simp] theorem State.updObs_host (s : State) (n : Nat) (f : ObsSt → ObsSt) : (s.updObs n f).host = s.host := rfl
@[simp] theorem State.updObs_pending (s : State) (n : Nat) (f : ObsSt → ObsSt) : (s.updObs n f).pending = s.pending := rfl
@[simp] theorem State.updObs_outbox (s : State) (n : Nat) (f : ObsSt → ObsSt) : (s.updObs n f).outbox = s.outbox := rfl
@[simp] theorem State.updObs_g (s : State) (n : Nat) (f : ObsSt → ObsSt) (fld : Fld) (i : Nat) : (s.updObs n f).g fld i = s.g fld i := rfl
@[simp] theorem State.updObs_gb (s : State) (n : Nat) (f : ObsSt → ObsSt) (fld : Fld) (i : Nat) : (s.updObs n f).gb fld i = s.gb fld i := rfl
@[simp] theorem State.updObs_gi (s : State) (n : Nat) (f : ObsSt → ObsSt) (fld : Fld) (i : Nat) : (s.updObs n f).gi fld i = s.gi fld i := rfl

/-! ### `State.updDiv` -/

@[simp] theorem State.updDiv_now (s : State) (n : Nat) (f : DivSt → DivSt) : (s.updDiv n f).now = s.now := rfl
@[simp] theorem State.updDiv_t (s : State) (n : Nat) (f : DivSt → DivSt) : (s.updDiv n f).t = s.t := rfl
@[simp] theorem State.updDiv_fields (s : State) (n : Nat) (f : DivSt → DivSt) : (s.updDiv n f).fields = s.fields := rfl
@[simp] theorem State.updDiv_sram (s : State) (n : Nat) (f : DivSt → DivSt) : (s.updDiv n f).sram = s.sram := rfl
@[simp] theorem State.updDiv_nvm (s : State) (n : Nat) (f : DivSt → DivSt) : (s.updDiv n f).nvm = s.nvm := rfl
@[simp] theorem State.updDiv_free (s : State) (n : Nat) (f : DivSt → DivSt) : (s.updDiv n f).free = s.free := rfl
@[simp] theorem State.updDiv_wrapped (s : State) (n : Nat) (f : DivSt → DivSt) : (s.updDiv n f).wrapped = s.wrapped := rfl
@[simp] theorem State.updDiv_adcOn (s : State) (n : Nat) (f : DivSt → DivSt) : (s.updDiv n f).adcOn = s.adcOn := rfl
@[simp] theorem State.updDiv_k (s : State) (n : Nat) (f : DivSt → DivSt) : (s.updDiv n f).k = s.k := rfl
@[simp] theorem State.updDiv_bDone (s : State) (n : Nat) (f : DivSt → DivSt) : (s.updDiv n f).bDone = s.bDone := rfl
@[simp] theorem State.updDiv_kB (s : State) (n : Nat) (f : DivSt → DivSt) : (s.updDiv n f).kB = s.kB := rfl
@[simp] theorem State.updDiv_s0 (s : State) (n : Nat) (f : DivSt → DivSt) : (s.updDiv n f).s0 = s.s0 := rfl
@[simp] theorem State.updDiv_staged (s : State) (n : Nat) (f : DivSt → DivSt) : (s.updDiv n f).staged = s.staged := rfl
@[simp] theorem State.updDiv_overflow (s : State) (n : Nat) (f : DivSt → DivSt) : (s.updDiv n f).overflow = s.overflow := rfl
@[simp] theorem State.updDiv_commit (s : State) (n : Nat) (f : DivSt → DivSt) : (s.updDiv n f).commit = s.commit := rfl
@[simp] theorem State.updDiv_epochs (s : State) (n : Nat) (f : DivSt → DivSt) : (s.updDiv n f).epochs = s.epochs := rfl
@[simp] theorem State.updDiv_latches (s : State) (n : Nat) (f : DivSt → DivSt) : (s.updDiv n f).latches = s.latches := rfl
@[simp] theorem State.updDiv_prt (s : State) (n : Nat) (f : DivSt → DivSt) : (s.updDiv n f).prt = s.prt := rfl
@[simp] theorem State.updDiv_exc (s : State) (n : Nat) (f : DivSt → DivSt) : (s.updDiv n f).exc = s.exc := rfl
@[simp] theorem State.updDiv_acq (s : State) (n : Nat) (f : DivSt → DivSt) : (s.updDiv n f).acq = s.acq := rfl
@[simp] theorem State.updDiv_obs (s : State) (n : Nat) (f : DivSt → DivSt) : (s.updDiv n f).obs = s.obs := rfl
@[simp] theorem State.updDiv_cal (s : State) (n : Nat) (f : DivSt → DivSt) : (s.updDiv n f).cal = s.cal := rfl
@[simp] theorem State.updDiv_calStep (s : State) (n : Nat) (f : DivSt → DivSt) : (s.updDiv n f).calStep = s.calStep := rfl
@[simp] theorem State.updDiv_calAcc (s : State) (n : Nat) (f : DivSt → DivSt) : (s.updDiv n f).calAcc = s.calAcc := rfl
@[simp] theorem State.updDiv_swpAcc (s : State) (n : Nat) (f : DivSt → DivSt) : (s.updDiv n f).swpAcc = s.swpAcc := rfl
@[simp] theorem State.updDiv_obsLim (s : State) (n : Nat) (f : DivSt → DivSt) : (s.updDiv n f).obsLim = s.obsLim := rfl
@[simp] theorem State.updDiv_sinc (s : State) (n : Nat) (f : DivSt → DivSt) : (s.updDiv n f).sinc = s.sinc := rfl
@[simp] theorem State.updDiv_tsrc (s : State) (n : Nat) (f : DivSt → DivSt) : (s.updDiv n f).tsrc = s.tsrc := rfl
@[simp] theorem State.updDiv_safPar (s : State) (n : Nat) (f : DivSt → DivSt) : (s.updDiv n f).safPar = s.safPar := rfl
@[simp] theorem State.updDiv_permAt (s : State) (n : Nat) (f : DivSt → DivSt) : (s.updDiv n f).permAt = s.permAt := rfl
@[simp] theorem State.updDiv_stamps (s : State) (n : Nat) (f : DivSt → DivSt) : (s.updDiv n f).stamps = s.stamps := rfl
@[simp] theorem State.updDiv_lrn (s : State) (n : Nat) (f : DivSt → DivSt) : (s.updDiv n f).lrn = s.lrn := rfl
@[simp] theorem State.updDiv_nvq (s : State) (n : Nat) (f : DivSt → DivSt) : (s.updDiv n f).nvq = s.nvq := rfl
@[simp] theorem State.updDiv_nvPorts (s : State) (n : Nat) (f : DivSt → DivSt) : (s.updDiv n f).nvPorts = s.nvPorts := rfl
@[simp] theorem State.updDiv_nvBuf (s : State) (n : Nat) (f : DivSt → DivSt) : (s.updDiv n f).nvBuf = s.nvBuf := rfl
@[simp] theorem State.updDiv_dfb (s : State) (n : Nat) (f : DivSt → DivSt) : (s.updDiv n f).dfb = s.dfb := rfl
@[simp] theorem State.updDiv_emu (s : State) (n : Nat) (f : DivSt → DivSt) : (s.updDiv n f).emu = s.emu := rfl
@[simp] theorem State.updDiv_emuDrv (s : State) (n : Nat) (f : DivSt → DivSt) : (s.updDiv n f).emuDrv = s.emuDrv := rfl
@[simp] theorem State.updDiv_blankWin (s : State) (n : Nat) (f : DivSt → DivSt) : (s.updDiv n f).blankWin = s.blankWin := rfl
@[simp] theorem State.updDiv_obsOld (s : State) (n : Nat) (f : DivSt → DivSt) : (s.updDiv n f).obsOld = s.obsOld := rfl
@[simp] theorem State.updDiv_slots (s : State) (n : Nat) (f : DivSt → DivSt) : (s.updDiv n f).slots = s.slots := rfl
@[simp] theorem State.updDiv_copies (s : State) (n : Nat) (f : DivSt → DivSt) : (s.updDiv n f).copies = s.copies := rfl
@[simp] theorem State.updDiv_pwms (s : State) (n : Nat) (f : DivSt → DivSt) : (s.updDiv n f).pwms = s.pwms := rfl
@[simp] theorem State.updDiv_gt (s : State) (n : Nat) (f : DivSt → DivSt) : (s.updDiv n f).gt = s.gt := rfl
@[simp] theorem State.updDiv_stream (s : State) (n : Nat) (f : DivSt → DivSt) : (s.updDiv n f).stream = s.stream := rfl
@[simp] theorem State.updDiv_geyDrv (s : State) (n : Nat) (f : DivSt → DivSt) : (s.updDiv n f).geyDrv = s.geyDrv := rfl
@[simp] theorem State.updDiv_vnt (s : State) (n : Nat) (f : DivSt → DivSt) : (s.updDiv n f).vnt = s.vnt := rfl
@[simp] theorem State.updDiv_ventReq (s : State) (n : Nat) (f : DivSt → DivSt) : (s.updDiv n f).ventReq = s.ventReq := rfl
@[simp] theorem State.updDiv_inj (s : State) (n : Nat) (f : DivSt → DivSt) : (s.updDiv n f).inj = s.inj := rfl
@[simp] theorem State.updDiv_injEnd (s : State) (n : Nat) (f : DivSt → DivSt) : (s.updDiv n f).injEnd = s.injEnd := rfl
@[simp] theorem State.updDiv_poison (s : State) (n : Nat) (f : DivSt → DivSt) : (s.updDiv n f).poison = s.poison := rfl
@[simp] theorem State.updDiv_ashDue (s : State) (n : Nat) (f : DivSt → DivSt) : (s.updDiv n f).ashDue = s.ashDue := rfl
@[simp] theorem State.updDiv_tmp (s : State) (n : Nat) (f : DivSt → DivSt) : (s.updDiv n f).tmp = s.tmp := rfl
@[simp] theorem State.updDiv_tsl (s : State) (n : Nat) (f : DivSt → DivSt) : (s.updDiv n f).tsl = s.tsl := rfl
@[simp] theorem State.updDiv_pairEnd (s : State) (n : Nat) (f : DivSt → DivSt) : (s.updDiv n f).pairEnd = s.pairEnd := rfl
@[simp] theorem State.updDiv_tmpFrom (s : State) (n : Nat) (f : DivSt → DivSt) : (s.updDiv n f).tmpFrom = s.tmpFrom := rfl
@[simp] theorem State.updDiv_actA (s : State) (n : Nat) (f : DivSt → DivSt) : (s.updDiv n f).actA = s.actA := rfl
@[simp] theorem State.updDiv_actB (s : State) (n : Nat) (f : DivSt → DivSt) : (s.updDiv n f).actB = s.actB := rfl
@[simp] theorem State.updDiv_axA (s : State) (n : Nat) (f : DivSt → DivSt) : (s.updDiv n f).axA = s.axA := rfl
@[simp] theorem State.updDiv_axB (s : State) (n : Nat) (f : DivSt → DivSt) : (s.updDiv n f).axB = s.axB := rfl
@[simp] theorem State.updDiv_siB (s : State) (n : Nat) (f : DivSt → DivSt) : (s.updDiv n f).siB = s.siB := rfl
@[simp] theorem State.updDiv_discA (s : State) (n : Nat) (f : DivSt → DivSt) : (s.updDiv n f).discA = s.discA := rfl
@[simp] theorem State.updDiv_discB (s : State) (n : Nat) (f : DivSt → DivSt) : (s.updDiv n f).discB = s.discB := rfl
@[simp] theorem State.updDiv_latA (s : State) (n : Nat) (f : DivSt → DivSt) : (s.updDiv n f).latA = s.latA := rfl
@[simp] theorem State.updDiv_latB (s : State) (n : Nat) (f : DivSt → DivSt) : (s.updDiv n f).latB = s.latB := rfl
@[simp] theorem State.updDiv_keys (s : State) (n : Nat) (f : DivSt → DivSt) : (s.updDiv n f).keys = s.keys := rfl
@[simp] theorem State.updDiv_xst (s : State) (n : Nat) (f : DivSt → DivSt) : (s.updDiv n f).xst = s.xst := rfl
@[simp] theorem State.updDiv_appWait (s : State) (n : Nat) (f : DivSt → DivSt) : (s.updDiv n f).appWait = s.appWait := rfl
@[simp] theorem State.updDiv_ftLat (s : State) (n : Nat) (f : DivSt → DivSt) : (s.updDiv n f).ftLat = s.ftLat := rfl
@[simp] theorem State.updDiv_susp (s : State) (n : Nat) (f : DivSt → DivSt) : (s.updDiv n f).susp = s.susp := rfl
@[simp] theorem State.updDiv_gapAt (s : State) (n : Nat) (f : DivSt → DivSt) : (s.updDiv n f).gapAt = s.gapAt := rfl
@[simp] theorem State.updDiv_smOn (s : State) (n : Nat) (f : DivSt → DivSt) : (s.updDiv n f).smOn = s.smOn := rfl
@[simp] theorem State.updDiv_conns (s : State) (n : Nat) (f : DivSt → DivSt) : (s.updDiv n f).conns = s.conns := rfl
@[simp] theorem State.updDiv_can (s : State) (n : Nat) (f : DivSt → DivSt) : (s.updDiv n f).can = s.can := rfl
@[simp] theorem State.updDiv_canAt (s : State) (n : Nat) (f : DivSt → DivSt) : (s.updDiv n f).canAt = s.canAt := rfl
@[simp] theorem State.updDiv_canWake (s : State) (n : Nat) (f : DivSt → DivSt) : (s.updDiv n f).canWake = s.canWake := rfl
@[simp] theorem State.updDiv_flagHist (s : State) (n : Nat) (f : DivSt → DivSt) : (s.updDiv n f).flagHist = s.flagHist := rfl
@[simp] theorem State.updDiv_chn (s : State) (n : Nat) (f : DivSt → DivSt) : (s.updDiv n f).chn = s.chn := rfl
@[simp] theorem State.updDiv_twn (s : State) (n : Nat) (f : DivSt → DivSt) : (s.updDiv n f).twn = s.twn := rfl
@[simp] theorem State.updDiv_rst (s : State) (n : Nat) (f : DivSt → DivSt) : (s.updDiv n f).rst = s.rst := rfl
@[simp] theorem State.updDiv_snt (s : State) (n : Nat) (f : DivSt → DivSt) : (s.updDiv n f).snt = s.snt := rfl
@[simp] theorem State.updDiv_tap (s : State) (n : Nat) (f : DivSt → DivSt) : (s.updDiv n f).tap = s.tap := rfl
@[simp] theorem State.updDiv_host (s : State) (n : Nat) (f : DivSt → DivSt) : (s.updDiv n f).host = s.host := rfl
@[simp] theorem State.updDiv_pending (s : State) (n : Nat) (f : DivSt → DivSt) : (s.updDiv n f).pending = s.pending := rfl
@[simp] theorem State.updDiv_outbox (s : State) (n : Nat) (f : DivSt → DivSt) : (s.updDiv n f).outbox = s.outbox := rfl
@[simp] theorem State.updDiv_g (s : State) (n : Nat) (f : DivSt → DivSt) (fld : Fld) (i : Nat) : (s.updDiv n f).g fld i = s.g fld i := rfl
@[simp] theorem State.updDiv_gb (s : State) (n : Nat) (f : DivSt → DivSt) (fld : Fld) (i : Nat) : (s.updDiv n f).gb fld i = s.gb fld i := rfl
@[simp] theorem State.updDiv_gi (s : State) (n : Nat) (f : DivSt → DivSt) (fld : Fld) (i : Nat) : (s.updDiv n f).gi fld i = s.gi fld i := rfl

/-! ### `State.updLrn` -/

@[simp] theorem State.updLrn_now (s : State) (n : Nat) (f : LrnSt → LrnSt) : (s.updLrn n f).now = s.now := rfl
@[simp] theorem State.updLrn_t (s : State) (n : Nat) (f : LrnSt → LrnSt) : (s.updLrn n f).t = s.t := rfl
@[simp] theorem State.updLrn_fields (s : State) (n : Nat) (f : LrnSt → LrnSt) : (s.updLrn n f).fields = s.fields := rfl
@[simp] theorem State.updLrn_sram (s : State) (n : Nat) (f : LrnSt → LrnSt) : (s.updLrn n f).sram = s.sram := rfl
@[simp] theorem State.updLrn_nvm (s : State) (n : Nat) (f : LrnSt → LrnSt) : (s.updLrn n f).nvm = s.nvm := rfl
@[simp] theorem State.updLrn_free (s : State) (n : Nat) (f : LrnSt → LrnSt) : (s.updLrn n f).free = s.free := rfl
@[simp] theorem State.updLrn_wrapped (s : State) (n : Nat) (f : LrnSt → LrnSt) : (s.updLrn n f).wrapped = s.wrapped := rfl
@[simp] theorem State.updLrn_adcOn (s : State) (n : Nat) (f : LrnSt → LrnSt) : (s.updLrn n f).adcOn = s.adcOn := rfl
@[simp] theorem State.updLrn_k (s : State) (n : Nat) (f : LrnSt → LrnSt) : (s.updLrn n f).k = s.k := rfl
@[simp] theorem State.updLrn_bDone (s : State) (n : Nat) (f : LrnSt → LrnSt) : (s.updLrn n f).bDone = s.bDone := rfl
@[simp] theorem State.updLrn_kB (s : State) (n : Nat) (f : LrnSt → LrnSt) : (s.updLrn n f).kB = s.kB := rfl
@[simp] theorem State.updLrn_s0 (s : State) (n : Nat) (f : LrnSt → LrnSt) : (s.updLrn n f).s0 = s.s0 := rfl
@[simp] theorem State.updLrn_staged (s : State) (n : Nat) (f : LrnSt → LrnSt) : (s.updLrn n f).staged = s.staged := rfl
@[simp] theorem State.updLrn_overflow (s : State) (n : Nat) (f : LrnSt → LrnSt) : (s.updLrn n f).overflow = s.overflow := rfl
@[simp] theorem State.updLrn_commit (s : State) (n : Nat) (f : LrnSt → LrnSt) : (s.updLrn n f).commit = s.commit := rfl
@[simp] theorem State.updLrn_epochs (s : State) (n : Nat) (f : LrnSt → LrnSt) : (s.updLrn n f).epochs = s.epochs := rfl
@[simp] theorem State.updLrn_latches (s : State) (n : Nat) (f : LrnSt → LrnSt) : (s.updLrn n f).latches = s.latches := rfl
@[simp] theorem State.updLrn_prt (s : State) (n : Nat) (f : LrnSt → LrnSt) : (s.updLrn n f).prt = s.prt := rfl
@[simp] theorem State.updLrn_exc (s : State) (n : Nat) (f : LrnSt → LrnSt) : (s.updLrn n f).exc = s.exc := rfl
@[simp] theorem State.updLrn_acq (s : State) (n : Nat) (f : LrnSt → LrnSt) : (s.updLrn n f).acq = s.acq := rfl
@[simp] theorem State.updLrn_obs (s : State) (n : Nat) (f : LrnSt → LrnSt) : (s.updLrn n f).obs = s.obs := rfl
@[simp] theorem State.updLrn_div (s : State) (n : Nat) (f : LrnSt → LrnSt) : (s.updLrn n f).div = s.div := rfl
@[simp] theorem State.updLrn_cal (s : State) (n : Nat) (f : LrnSt → LrnSt) : (s.updLrn n f).cal = s.cal := rfl
@[simp] theorem State.updLrn_calStep (s : State) (n : Nat) (f : LrnSt → LrnSt) : (s.updLrn n f).calStep = s.calStep := rfl
@[simp] theorem State.updLrn_calAcc (s : State) (n : Nat) (f : LrnSt → LrnSt) : (s.updLrn n f).calAcc = s.calAcc := rfl
@[simp] theorem State.updLrn_swpAcc (s : State) (n : Nat) (f : LrnSt → LrnSt) : (s.updLrn n f).swpAcc = s.swpAcc := rfl
@[simp] theorem State.updLrn_obsLim (s : State) (n : Nat) (f : LrnSt → LrnSt) : (s.updLrn n f).obsLim = s.obsLim := rfl
@[simp] theorem State.updLrn_sinc (s : State) (n : Nat) (f : LrnSt → LrnSt) : (s.updLrn n f).sinc = s.sinc := rfl
@[simp] theorem State.updLrn_tsrc (s : State) (n : Nat) (f : LrnSt → LrnSt) : (s.updLrn n f).tsrc = s.tsrc := rfl
@[simp] theorem State.updLrn_safPar (s : State) (n : Nat) (f : LrnSt → LrnSt) : (s.updLrn n f).safPar = s.safPar := rfl
@[simp] theorem State.updLrn_permAt (s : State) (n : Nat) (f : LrnSt → LrnSt) : (s.updLrn n f).permAt = s.permAt := rfl
@[simp] theorem State.updLrn_stamps (s : State) (n : Nat) (f : LrnSt → LrnSt) : (s.updLrn n f).stamps = s.stamps := rfl
@[simp] theorem State.updLrn_nvq (s : State) (n : Nat) (f : LrnSt → LrnSt) : (s.updLrn n f).nvq = s.nvq := rfl
@[simp] theorem State.updLrn_nvPorts (s : State) (n : Nat) (f : LrnSt → LrnSt) : (s.updLrn n f).nvPorts = s.nvPorts := rfl
@[simp] theorem State.updLrn_nvBuf (s : State) (n : Nat) (f : LrnSt → LrnSt) : (s.updLrn n f).nvBuf = s.nvBuf := rfl
@[simp] theorem State.updLrn_dfb (s : State) (n : Nat) (f : LrnSt → LrnSt) : (s.updLrn n f).dfb = s.dfb := rfl
@[simp] theorem State.updLrn_emu (s : State) (n : Nat) (f : LrnSt → LrnSt) : (s.updLrn n f).emu = s.emu := rfl
@[simp] theorem State.updLrn_emuDrv (s : State) (n : Nat) (f : LrnSt → LrnSt) : (s.updLrn n f).emuDrv = s.emuDrv := rfl
@[simp] theorem State.updLrn_blankWin (s : State) (n : Nat) (f : LrnSt → LrnSt) : (s.updLrn n f).blankWin = s.blankWin := rfl
@[simp] theorem State.updLrn_obsOld (s : State) (n : Nat) (f : LrnSt → LrnSt) : (s.updLrn n f).obsOld = s.obsOld := rfl
@[simp] theorem State.updLrn_slots (s : State) (n : Nat) (f : LrnSt → LrnSt) : (s.updLrn n f).slots = s.slots := rfl
@[simp] theorem State.updLrn_copies (s : State) (n : Nat) (f : LrnSt → LrnSt) : (s.updLrn n f).copies = s.copies := rfl
@[simp] theorem State.updLrn_pwms (s : State) (n : Nat) (f : LrnSt → LrnSt) : (s.updLrn n f).pwms = s.pwms := rfl
@[simp] theorem State.updLrn_gt (s : State) (n : Nat) (f : LrnSt → LrnSt) : (s.updLrn n f).gt = s.gt := rfl
@[simp] theorem State.updLrn_stream (s : State) (n : Nat) (f : LrnSt → LrnSt) : (s.updLrn n f).stream = s.stream := rfl
@[simp] theorem State.updLrn_geyDrv (s : State) (n : Nat) (f : LrnSt → LrnSt) : (s.updLrn n f).geyDrv = s.geyDrv := rfl
@[simp] theorem State.updLrn_vnt (s : State) (n : Nat) (f : LrnSt → LrnSt) : (s.updLrn n f).vnt = s.vnt := rfl
@[simp] theorem State.updLrn_ventReq (s : State) (n : Nat) (f : LrnSt → LrnSt) : (s.updLrn n f).ventReq = s.ventReq := rfl
@[simp] theorem State.updLrn_inj (s : State) (n : Nat) (f : LrnSt → LrnSt) : (s.updLrn n f).inj = s.inj := rfl
@[simp] theorem State.updLrn_injEnd (s : State) (n : Nat) (f : LrnSt → LrnSt) : (s.updLrn n f).injEnd = s.injEnd := rfl
@[simp] theorem State.updLrn_poison (s : State) (n : Nat) (f : LrnSt → LrnSt) : (s.updLrn n f).poison = s.poison := rfl
@[simp] theorem State.updLrn_ashDue (s : State) (n : Nat) (f : LrnSt → LrnSt) : (s.updLrn n f).ashDue = s.ashDue := rfl
@[simp] theorem State.updLrn_tmp (s : State) (n : Nat) (f : LrnSt → LrnSt) : (s.updLrn n f).tmp = s.tmp := rfl
@[simp] theorem State.updLrn_tsl (s : State) (n : Nat) (f : LrnSt → LrnSt) : (s.updLrn n f).tsl = s.tsl := rfl
@[simp] theorem State.updLrn_pairEnd (s : State) (n : Nat) (f : LrnSt → LrnSt) : (s.updLrn n f).pairEnd = s.pairEnd := rfl
@[simp] theorem State.updLrn_tmpFrom (s : State) (n : Nat) (f : LrnSt → LrnSt) : (s.updLrn n f).tmpFrom = s.tmpFrom := rfl
@[simp] theorem State.updLrn_actA (s : State) (n : Nat) (f : LrnSt → LrnSt) : (s.updLrn n f).actA = s.actA := rfl
@[simp] theorem State.updLrn_actB (s : State) (n : Nat) (f : LrnSt → LrnSt) : (s.updLrn n f).actB = s.actB := rfl
@[simp] theorem State.updLrn_axA (s : State) (n : Nat) (f : LrnSt → LrnSt) : (s.updLrn n f).axA = s.axA := rfl
@[simp] theorem State.updLrn_axB (s : State) (n : Nat) (f : LrnSt → LrnSt) : (s.updLrn n f).axB = s.axB := rfl
@[simp] theorem State.updLrn_siB (s : State) (n : Nat) (f : LrnSt → LrnSt) : (s.updLrn n f).siB = s.siB := rfl
@[simp] theorem State.updLrn_discA (s : State) (n : Nat) (f : LrnSt → LrnSt) : (s.updLrn n f).discA = s.discA := rfl
@[simp] theorem State.updLrn_discB (s : State) (n : Nat) (f : LrnSt → LrnSt) : (s.updLrn n f).discB = s.discB := rfl
@[simp] theorem State.updLrn_latA (s : State) (n : Nat) (f : LrnSt → LrnSt) : (s.updLrn n f).latA = s.latA := rfl
@[simp] theorem State.updLrn_latB (s : State) (n : Nat) (f : LrnSt → LrnSt) : (s.updLrn n f).latB = s.latB := rfl
@[simp] theorem State.updLrn_keys (s : State) (n : Nat) (f : LrnSt → LrnSt) : (s.updLrn n f).keys = s.keys := rfl
@[simp] theorem State.updLrn_xst (s : State) (n : Nat) (f : LrnSt → LrnSt) : (s.updLrn n f).xst = s.xst := rfl
@[simp] theorem State.updLrn_appWait (s : State) (n : Nat) (f : LrnSt → LrnSt) : (s.updLrn n f).appWait = s.appWait := rfl
@[simp] theorem State.updLrn_ftLat (s : State) (n : Nat) (f : LrnSt → LrnSt) : (s.updLrn n f).ftLat = s.ftLat := rfl
@[simp] theorem State.updLrn_susp (s : State) (n : Nat) (f : LrnSt → LrnSt) : (s.updLrn n f).susp = s.susp := rfl
@[simp] theorem State.updLrn_gapAt (s : State) (n : Nat) (f : LrnSt → LrnSt) : (s.updLrn n f).gapAt = s.gapAt := rfl
@[simp] theorem State.updLrn_smOn (s : State) (n : Nat) (f : LrnSt → LrnSt) : (s.updLrn n f).smOn = s.smOn := rfl
@[simp] theorem State.updLrn_conns (s : State) (n : Nat) (f : LrnSt → LrnSt) : (s.updLrn n f).conns = s.conns := rfl
@[simp] theorem State.updLrn_can (s : State) (n : Nat) (f : LrnSt → LrnSt) : (s.updLrn n f).can = s.can := rfl
@[simp] theorem State.updLrn_canAt (s : State) (n : Nat) (f : LrnSt → LrnSt) : (s.updLrn n f).canAt = s.canAt := rfl
@[simp] theorem State.updLrn_canWake (s : State) (n : Nat) (f : LrnSt → LrnSt) : (s.updLrn n f).canWake = s.canWake := rfl
@[simp] theorem State.updLrn_flagHist (s : State) (n : Nat) (f : LrnSt → LrnSt) : (s.updLrn n f).flagHist = s.flagHist := rfl
@[simp] theorem State.updLrn_chn (s : State) (n : Nat) (f : LrnSt → LrnSt) : (s.updLrn n f).chn = s.chn := rfl
@[simp] theorem State.updLrn_twn (s : State) (n : Nat) (f : LrnSt → LrnSt) : (s.updLrn n f).twn = s.twn := rfl
@[simp] theorem State.updLrn_rst (s : State) (n : Nat) (f : LrnSt → LrnSt) : (s.updLrn n f).rst = s.rst := rfl
@[simp] theorem State.updLrn_snt (s : State) (n : Nat) (f : LrnSt → LrnSt) : (s.updLrn n f).snt = s.snt := rfl
@[simp] theorem State.updLrn_tap (s : State) (n : Nat) (f : LrnSt → LrnSt) : (s.updLrn n f).tap = s.tap := rfl
@[simp] theorem State.updLrn_host (s : State) (n : Nat) (f : LrnSt → LrnSt) : (s.updLrn n f).host = s.host := rfl
@[simp] theorem State.updLrn_pending (s : State) (n : Nat) (f : LrnSt → LrnSt) : (s.updLrn n f).pending = s.pending := rfl
@[simp] theorem State.updLrn_outbox (s : State) (n : Nat) (f : LrnSt → LrnSt) : (s.updLrn n f).outbox = s.outbox := rfl
@[simp] theorem State.updLrn_g (s : State) (n : Nat) (f : LrnSt → LrnSt) (fld : Fld) (i : Nat) : (s.updLrn n f).g fld i = s.g fld i := rfl
@[simp] theorem State.updLrn_gb (s : State) (n : Nat) (f : LrnSt → LrnSt) (fld : Fld) (i : Nat) : (s.updLrn n f).gb fld i = s.gb fld i := rfl
@[simp] theorem State.updLrn_gi (s : State) (n : Nat) (f : LrnSt → LrnSt) (fld : Fld) (i : Nat) : (s.updLrn n f).gi fld i = s.gi fld i := rfl

/-! ### `State.updDfb` -/

@[simp] theorem State.updDfb_now (s : State) (n : Nat) (f : DfbSt → DfbSt) : (s.updDfb n f).now = s.now := rfl
@[simp] theorem State.updDfb_t (s : State) (n : Nat) (f : DfbSt → DfbSt) : (s.updDfb n f).t = s.t := rfl
@[simp] theorem State.updDfb_fields (s : State) (n : Nat) (f : DfbSt → DfbSt) : (s.updDfb n f).fields = s.fields := rfl
@[simp] theorem State.updDfb_sram (s : State) (n : Nat) (f : DfbSt → DfbSt) : (s.updDfb n f).sram = s.sram := rfl
@[simp] theorem State.updDfb_nvm (s : State) (n : Nat) (f : DfbSt → DfbSt) : (s.updDfb n f).nvm = s.nvm := rfl
@[simp] theorem State.updDfb_free (s : State) (n : Nat) (f : DfbSt → DfbSt) : (s.updDfb n f).free = s.free := rfl
@[simp] theorem State.updDfb_wrapped (s : State) (n : Nat) (f : DfbSt → DfbSt) : (s.updDfb n f).wrapped = s.wrapped := rfl
@[simp] theorem State.updDfb_adcOn (s : State) (n : Nat) (f : DfbSt → DfbSt) : (s.updDfb n f).adcOn = s.adcOn := rfl
@[simp] theorem State.updDfb_k (s : State) (n : Nat) (f : DfbSt → DfbSt) : (s.updDfb n f).k = s.k := rfl
@[simp] theorem State.updDfb_bDone (s : State) (n : Nat) (f : DfbSt → DfbSt) : (s.updDfb n f).bDone = s.bDone := rfl
@[simp] theorem State.updDfb_kB (s : State) (n : Nat) (f : DfbSt → DfbSt) : (s.updDfb n f).kB = s.kB := rfl
@[simp] theorem State.updDfb_s0 (s : State) (n : Nat) (f : DfbSt → DfbSt) : (s.updDfb n f).s0 = s.s0 := rfl
@[simp] theorem State.updDfb_staged (s : State) (n : Nat) (f : DfbSt → DfbSt) : (s.updDfb n f).staged = s.staged := rfl
@[simp] theorem State.updDfb_overflow (s : State) (n : Nat) (f : DfbSt → DfbSt) : (s.updDfb n f).overflow = s.overflow := rfl
@[simp] theorem State.updDfb_commit (s : State) (n : Nat) (f : DfbSt → DfbSt) : (s.updDfb n f).commit = s.commit := rfl
@[simp] theorem State.updDfb_epochs (s : State) (n : Nat) (f : DfbSt → DfbSt) : (s.updDfb n f).epochs = s.epochs := rfl
@[simp] theorem State.updDfb_latches (s : State) (n : Nat) (f : DfbSt → DfbSt) : (s.updDfb n f).latches = s.latches := rfl
@[simp] theorem State.updDfb_prt (s : State) (n : Nat) (f : DfbSt → DfbSt) : (s.updDfb n f).prt = s.prt := rfl
@[simp] theorem State.updDfb_exc (s : State) (n : Nat) (f : DfbSt → DfbSt) : (s.updDfb n f).exc = s.exc := rfl
@[simp] theorem State.updDfb_acq (s : State) (n : Nat) (f : DfbSt → DfbSt) : (s.updDfb n f).acq = s.acq := rfl
@[simp] theorem State.updDfb_obs (s : State) (n : Nat) (f : DfbSt → DfbSt) : (s.updDfb n f).obs = s.obs := rfl
@[simp] theorem State.updDfb_div (s : State) (n : Nat) (f : DfbSt → DfbSt) : (s.updDfb n f).div = s.div := rfl
@[simp] theorem State.updDfb_cal (s : State) (n : Nat) (f : DfbSt → DfbSt) : (s.updDfb n f).cal = s.cal := rfl
@[simp] theorem State.updDfb_calStep (s : State) (n : Nat) (f : DfbSt → DfbSt) : (s.updDfb n f).calStep = s.calStep := rfl
@[simp] theorem State.updDfb_calAcc (s : State) (n : Nat) (f : DfbSt → DfbSt) : (s.updDfb n f).calAcc = s.calAcc := rfl
@[simp] theorem State.updDfb_swpAcc (s : State) (n : Nat) (f : DfbSt → DfbSt) : (s.updDfb n f).swpAcc = s.swpAcc := rfl
@[simp] theorem State.updDfb_obsLim (s : State) (n : Nat) (f : DfbSt → DfbSt) : (s.updDfb n f).obsLim = s.obsLim := rfl
@[simp] theorem State.updDfb_sinc (s : State) (n : Nat) (f : DfbSt → DfbSt) : (s.updDfb n f).sinc = s.sinc := rfl
@[simp] theorem State.updDfb_tsrc (s : State) (n : Nat) (f : DfbSt → DfbSt) : (s.updDfb n f).tsrc = s.tsrc := rfl
@[simp] theorem State.updDfb_safPar (s : State) (n : Nat) (f : DfbSt → DfbSt) : (s.updDfb n f).safPar = s.safPar := rfl
@[simp] theorem State.updDfb_permAt (s : State) (n : Nat) (f : DfbSt → DfbSt) : (s.updDfb n f).permAt = s.permAt := rfl
@[simp] theorem State.updDfb_stamps (s : State) (n : Nat) (f : DfbSt → DfbSt) : (s.updDfb n f).stamps = s.stamps := rfl
@[simp] theorem State.updDfb_lrn (s : State) (n : Nat) (f : DfbSt → DfbSt) : (s.updDfb n f).lrn = s.lrn := rfl
@[simp] theorem State.updDfb_nvq (s : State) (n : Nat) (f : DfbSt → DfbSt) : (s.updDfb n f).nvq = s.nvq := rfl
@[simp] theorem State.updDfb_nvPorts (s : State) (n : Nat) (f : DfbSt → DfbSt) : (s.updDfb n f).nvPorts = s.nvPorts := rfl
@[simp] theorem State.updDfb_nvBuf (s : State) (n : Nat) (f : DfbSt → DfbSt) : (s.updDfb n f).nvBuf = s.nvBuf := rfl
@[simp] theorem State.updDfb_emu (s : State) (n : Nat) (f : DfbSt → DfbSt) : (s.updDfb n f).emu = s.emu := rfl
@[simp] theorem State.updDfb_emuDrv (s : State) (n : Nat) (f : DfbSt → DfbSt) : (s.updDfb n f).emuDrv = s.emuDrv := rfl
@[simp] theorem State.updDfb_blankWin (s : State) (n : Nat) (f : DfbSt → DfbSt) : (s.updDfb n f).blankWin = s.blankWin := rfl
@[simp] theorem State.updDfb_obsOld (s : State) (n : Nat) (f : DfbSt → DfbSt) : (s.updDfb n f).obsOld = s.obsOld := rfl
@[simp] theorem State.updDfb_slots (s : State) (n : Nat) (f : DfbSt → DfbSt) : (s.updDfb n f).slots = s.slots := rfl
@[simp] theorem State.updDfb_copies (s : State) (n : Nat) (f : DfbSt → DfbSt) : (s.updDfb n f).copies = s.copies := rfl
@[simp] theorem State.updDfb_pwms (s : State) (n : Nat) (f : DfbSt → DfbSt) : (s.updDfb n f).pwms = s.pwms := rfl
@[simp] theorem State.updDfb_gt (s : State) (n : Nat) (f : DfbSt → DfbSt) : (s.updDfb n f).gt = s.gt := rfl
@[simp] theorem State.updDfb_stream (s : State) (n : Nat) (f : DfbSt → DfbSt) : (s.updDfb n f).stream = s.stream := rfl
@[simp] theorem State.updDfb_geyDrv (s : State) (n : Nat) (f : DfbSt → DfbSt) : (s.updDfb n f).geyDrv = s.geyDrv := rfl
@[simp] theorem State.updDfb_vnt (s : State) (n : Nat) (f : DfbSt → DfbSt) : (s.updDfb n f).vnt = s.vnt := rfl
@[simp] theorem State.updDfb_ventReq (s : State) (n : Nat) (f : DfbSt → DfbSt) : (s.updDfb n f).ventReq = s.ventReq := rfl
@[simp] theorem State.updDfb_inj (s : State) (n : Nat) (f : DfbSt → DfbSt) : (s.updDfb n f).inj = s.inj := rfl
@[simp] theorem State.updDfb_injEnd (s : State) (n : Nat) (f : DfbSt → DfbSt) : (s.updDfb n f).injEnd = s.injEnd := rfl
@[simp] theorem State.updDfb_poison (s : State) (n : Nat) (f : DfbSt → DfbSt) : (s.updDfb n f).poison = s.poison := rfl
@[simp] theorem State.updDfb_ashDue (s : State) (n : Nat) (f : DfbSt → DfbSt) : (s.updDfb n f).ashDue = s.ashDue := rfl
@[simp] theorem State.updDfb_tmp (s : State) (n : Nat) (f : DfbSt → DfbSt) : (s.updDfb n f).tmp = s.tmp := rfl
@[simp] theorem State.updDfb_tsl (s : State) (n : Nat) (f : DfbSt → DfbSt) : (s.updDfb n f).tsl = s.tsl := rfl
@[simp] theorem State.updDfb_pairEnd (s : State) (n : Nat) (f : DfbSt → DfbSt) : (s.updDfb n f).pairEnd = s.pairEnd := rfl
@[simp] theorem State.updDfb_tmpFrom (s : State) (n : Nat) (f : DfbSt → DfbSt) : (s.updDfb n f).tmpFrom = s.tmpFrom := rfl
@[simp] theorem State.updDfb_actA (s : State) (n : Nat) (f : DfbSt → DfbSt) : (s.updDfb n f).actA = s.actA := rfl
@[simp] theorem State.updDfb_actB (s : State) (n : Nat) (f : DfbSt → DfbSt) : (s.updDfb n f).actB = s.actB := rfl
@[simp] theorem State.updDfb_axA (s : State) (n : Nat) (f : DfbSt → DfbSt) : (s.updDfb n f).axA = s.axA := rfl
@[simp] theorem State.updDfb_axB (s : State) (n : Nat) (f : DfbSt → DfbSt) : (s.updDfb n f).axB = s.axB := rfl
@[simp] theorem State.updDfb_siB (s : State) (n : Nat) (f : DfbSt → DfbSt) : (s.updDfb n f).siB = s.siB := rfl
@[simp] theorem State.updDfb_discA (s : State) (n : Nat) (f : DfbSt → DfbSt) : (s.updDfb n f).discA = s.discA := rfl
@[simp] theorem State.updDfb_discB (s : State) (n : Nat) (f : DfbSt → DfbSt) : (s.updDfb n f).discB = s.discB := rfl
@[simp] theorem State.updDfb_latA (s : State) (n : Nat) (f : DfbSt → DfbSt) : (s.updDfb n f).latA = s.latA := rfl
@[simp] theorem State.updDfb_latB (s : State) (n : Nat) (f : DfbSt → DfbSt) : (s.updDfb n f).latB = s.latB := rfl
@[simp] theorem State.updDfb_keys (s : State) (n : Nat) (f : DfbSt → DfbSt) : (s.updDfb n f).keys = s.keys := rfl
@[simp] theorem State.updDfb_xst (s : State) (n : Nat) (f : DfbSt → DfbSt) : (s.updDfb n f).xst = s.xst := rfl
@[simp] theorem State.updDfb_appWait (s : State) (n : Nat) (f : DfbSt → DfbSt) : (s.updDfb n f).appWait = s.appWait := rfl
@[simp] theorem State.updDfb_ftLat (s : State) (n : Nat) (f : DfbSt → DfbSt) : (s.updDfb n f).ftLat = s.ftLat := rfl
@[simp] theorem State.updDfb_susp (s : State) (n : Nat) (f : DfbSt → DfbSt) : (s.updDfb n f).susp = s.susp := rfl
@[simp] theorem State.updDfb_gapAt (s : State) (n : Nat) (f : DfbSt → DfbSt) : (s.updDfb n f).gapAt = s.gapAt := rfl
@[simp] theorem State.updDfb_smOn (s : State) (n : Nat) (f : DfbSt → DfbSt) : (s.updDfb n f).smOn = s.smOn := rfl
@[simp] theorem State.updDfb_conns (s : State) (n : Nat) (f : DfbSt → DfbSt) : (s.updDfb n f).conns = s.conns := rfl
@[simp] theorem State.updDfb_can (s : State) (n : Nat) (f : DfbSt → DfbSt) : (s.updDfb n f).can = s.can := rfl
@[simp] theorem State.updDfb_canAt (s : State) (n : Nat) (f : DfbSt → DfbSt) : (s.updDfb n f).canAt = s.canAt := rfl
@[simp] theorem State.updDfb_canWake (s : State) (n : Nat) (f : DfbSt → DfbSt) : (s.updDfb n f).canWake = s.canWake := rfl
@[simp] theorem State.updDfb_flagHist (s : State) (n : Nat) (f : DfbSt → DfbSt) : (s.updDfb n f).flagHist = s.flagHist := rfl
@[simp] theorem State.updDfb_chn (s : State) (n : Nat) (f : DfbSt → DfbSt) : (s.updDfb n f).chn = s.chn := rfl
@[simp] theorem State.updDfb_twn (s : State) (n : Nat) (f : DfbSt → DfbSt) : (s.updDfb n f).twn = s.twn := rfl
@[simp] theorem State.updDfb_rst (s : State) (n : Nat) (f : DfbSt → DfbSt) : (s.updDfb n f).rst = s.rst := rfl
@[simp] theorem State.updDfb_snt (s : State) (n : Nat) (f : DfbSt → DfbSt) : (s.updDfb n f).snt = s.snt := rfl
@[simp] theorem State.updDfb_tap (s : State) (n : Nat) (f : DfbSt → DfbSt) : (s.updDfb n f).tap = s.tap := rfl
@[simp] theorem State.updDfb_host (s : State) (n : Nat) (f : DfbSt → DfbSt) : (s.updDfb n f).host = s.host := rfl
@[simp] theorem State.updDfb_pending (s : State) (n : Nat) (f : DfbSt → DfbSt) : (s.updDfb n f).pending = s.pending := rfl
@[simp] theorem State.updDfb_outbox (s : State) (n : Nat) (f : DfbSt → DfbSt) : (s.updDfb n f).outbox = s.outbox := rfl
@[simp] theorem State.updDfb_g (s : State) (n : Nat) (f : DfbSt → DfbSt) (fld : Fld) (i : Nat) : (s.updDfb n f).g fld i = s.g fld i := rfl
@[simp] theorem State.updDfb_gb (s : State) (n : Nat) (f : DfbSt → DfbSt) (fld : Fld) (i : Nat) : (s.updDfb n f).gb fld i = s.gb fld i := rfl
@[simp] theorem State.updDfb_gi (s : State) (n : Nat) (f : DfbSt → DfbSt) (fld : Fld) (i : Nat) : (s.updDfb n f).gi fld i = s.gi fld i := rfl

/-! ### `State.updEmu` -/

@[simp] theorem State.updEmu_now (s : State) (n : Nat) (f : EmuSt → EmuSt) : (s.updEmu n f).now = s.now := rfl
@[simp] theorem State.updEmu_t (s : State) (n : Nat) (f : EmuSt → EmuSt) : (s.updEmu n f).t = s.t := rfl
@[simp] theorem State.updEmu_fields (s : State) (n : Nat) (f : EmuSt → EmuSt) : (s.updEmu n f).fields = s.fields := rfl
@[simp] theorem State.updEmu_sram (s : State) (n : Nat) (f : EmuSt → EmuSt) : (s.updEmu n f).sram = s.sram := rfl
@[simp] theorem State.updEmu_nvm (s : State) (n : Nat) (f : EmuSt → EmuSt) : (s.updEmu n f).nvm = s.nvm := rfl
@[simp] theorem State.updEmu_free (s : State) (n : Nat) (f : EmuSt → EmuSt) : (s.updEmu n f).free = s.free := rfl
@[simp] theorem State.updEmu_wrapped (s : State) (n : Nat) (f : EmuSt → EmuSt) : (s.updEmu n f).wrapped = s.wrapped := rfl
@[simp] theorem State.updEmu_adcOn (s : State) (n : Nat) (f : EmuSt → EmuSt) : (s.updEmu n f).adcOn = s.adcOn := rfl
@[simp] theorem State.updEmu_k (s : State) (n : Nat) (f : EmuSt → EmuSt) : (s.updEmu n f).k = s.k := rfl
@[simp] theorem State.updEmu_bDone (s : State) (n : Nat) (f : EmuSt → EmuSt) : (s.updEmu n f).bDone = s.bDone := rfl
@[simp] theorem State.updEmu_kB (s : State) (n : Nat) (f : EmuSt → EmuSt) : (s.updEmu n f).kB = s.kB := rfl
@[simp] theorem State.updEmu_s0 (s : State) (n : Nat) (f : EmuSt → EmuSt) : (s.updEmu n f).s0 = s.s0 := rfl
@[simp] theorem State.updEmu_staged (s : State) (n : Nat) (f : EmuSt → EmuSt) : (s.updEmu n f).staged = s.staged := rfl
@[simp] theorem State.updEmu_overflow (s : State) (n : Nat) (f : EmuSt → EmuSt) : (s.updEmu n f).overflow = s.overflow := rfl
@[simp] theorem State.updEmu_commit (s : State) (n : Nat) (f : EmuSt → EmuSt) : (s.updEmu n f).commit = s.commit := rfl
@[simp] theorem State.updEmu_epochs (s : State) (n : Nat) (f : EmuSt → EmuSt) : (s.updEmu n f).epochs = s.epochs := rfl
@[simp] theorem State.updEmu_latches (s : State) (n : Nat) (f : EmuSt → EmuSt) : (s.updEmu n f).latches = s.latches := rfl
@[simp] theorem State.updEmu_prt (s : State) (n : Nat) (f : EmuSt → EmuSt) : (s.updEmu n f).prt = s.prt := rfl
@[simp] theorem State.updEmu_exc (s : State) (n : Nat) (f : EmuSt → EmuSt) : (s.updEmu n f).exc = s.exc := rfl
@[simp] theorem State.updEmu_acq (s : State) (n : Nat) (f : EmuSt → EmuSt) : (s.updEmu n f).acq = s.acq := rfl
@[simp] theorem State.updEmu_obs (s : State) (n : Nat) (f : EmuSt → EmuSt) : (s.updEmu n f).obs = s.obs := rfl
@[simp] theorem State.updEmu_div (s : State) (n : Nat) (f : EmuSt → EmuSt) : (s.updEmu n f).div = s.div := rfl
@[simp] theorem State.updEmu_cal (s : State) (n : Nat) (f : EmuSt → EmuSt) : (s.updEmu n f).cal = s.cal := rfl
@[simp] theorem State.updEmu_calStep (s : State) (n : Nat) (f : EmuSt → EmuSt) : (s.updEmu n f).calStep = s.calStep := rfl
@[simp] theorem State.updEmu_calAcc (s : State) (n : Nat) (f : EmuSt → EmuSt) : (s.updEmu n f).calAcc = s.calAcc := rfl
@[simp] theorem State.updEmu_swpAcc (s : State) (n : Nat) (f : EmuSt → EmuSt) : (s.updEmu n f).swpAcc = s.swpAcc := rfl
@[simp] theorem State.updEmu_obsLim (s : State) (n : Nat) (f : EmuSt → EmuSt) : (s.updEmu n f).obsLim = s.obsLim := rfl
@[simp] theorem State.updEmu_sinc (s : State) (n : Nat) (f : EmuSt → EmuSt) : (s.updEmu n f).sinc = s.sinc := rfl
@[simp] theorem State.updEmu_tsrc (s : State) (n : Nat) (f : EmuSt → EmuSt) : (s.updEmu n f).tsrc = s.tsrc := rfl
@[simp] theorem State.updEmu_safPar (s : State) (n : Nat) (f : EmuSt → EmuSt) : (s.updEmu n f).safPar = s.safPar := rfl
@[simp] theorem State.updEmu_permAt (s : State) (n : Nat) (f : EmuSt → EmuSt) : (s.updEmu n f).permAt = s.permAt := rfl
@[simp] theorem State.updEmu_stamps (s : State) (n : Nat) (f : EmuSt → EmuSt) : (s.updEmu n f).stamps = s.stamps := rfl
@[simp] theorem State.updEmu_lrn (s : State) (n : Nat) (f : EmuSt → EmuSt) : (s.updEmu n f).lrn = s.lrn := rfl
@[simp] theorem State.updEmu_nvq (s : State) (n : Nat) (f : EmuSt → EmuSt) : (s.updEmu n f).nvq = s.nvq := rfl
@[simp] theorem State.updEmu_nvPorts (s : State) (n : Nat) (f : EmuSt → EmuSt) : (s.updEmu n f).nvPorts = s.nvPorts := rfl
@[simp] theorem State.updEmu_nvBuf (s : State) (n : Nat) (f : EmuSt → EmuSt) : (s.updEmu n f).nvBuf = s.nvBuf := rfl
@[simp] theorem State.updEmu_dfb (s : State) (n : Nat) (f : EmuSt → EmuSt) : (s.updEmu n f).dfb = s.dfb := rfl
@[simp] theorem State.updEmu_emuDrv (s : State) (n : Nat) (f : EmuSt → EmuSt) : (s.updEmu n f).emuDrv = s.emuDrv := rfl
@[simp] theorem State.updEmu_blankWin (s : State) (n : Nat) (f : EmuSt → EmuSt) : (s.updEmu n f).blankWin = s.blankWin := rfl
@[simp] theorem State.updEmu_obsOld (s : State) (n : Nat) (f : EmuSt → EmuSt) : (s.updEmu n f).obsOld = s.obsOld := rfl
@[simp] theorem State.updEmu_slots (s : State) (n : Nat) (f : EmuSt → EmuSt) : (s.updEmu n f).slots = s.slots := rfl
@[simp] theorem State.updEmu_copies (s : State) (n : Nat) (f : EmuSt → EmuSt) : (s.updEmu n f).copies = s.copies := rfl
@[simp] theorem State.updEmu_pwms (s : State) (n : Nat) (f : EmuSt → EmuSt) : (s.updEmu n f).pwms = s.pwms := rfl
@[simp] theorem State.updEmu_gt (s : State) (n : Nat) (f : EmuSt → EmuSt) : (s.updEmu n f).gt = s.gt := rfl
@[simp] theorem State.updEmu_stream (s : State) (n : Nat) (f : EmuSt → EmuSt) : (s.updEmu n f).stream = s.stream := rfl
@[simp] theorem State.updEmu_geyDrv (s : State) (n : Nat) (f : EmuSt → EmuSt) : (s.updEmu n f).geyDrv = s.geyDrv := rfl
@[simp] theorem State.updEmu_vnt (s : State) (n : Nat) (f : EmuSt → EmuSt) : (s.updEmu n f).vnt = s.vnt := rfl
@[simp] theorem State.updEmu_ventReq (s : State) (n : Nat) (f : EmuSt → EmuSt) : (s.updEmu n f).ventReq = s.ventReq := rfl
@[simp] theorem State.updEmu_inj (s : State) (n : Nat) (f : EmuSt → EmuSt) : (s.updEmu n f).inj = s.inj := rfl
@[simp] theorem State.updEmu_injEnd (s : State) (n : Nat) (f : EmuSt → EmuSt) : (s.updEmu n f).injEnd = s.injEnd := rfl
@[simp] theorem State.updEmu_poison (s : State) (n : Nat) (f : EmuSt → EmuSt) : (s.updEmu n f).poison = s.poison := rfl
@[simp] theorem State.updEmu_ashDue (s : State) (n : Nat) (f : EmuSt → EmuSt) : (s.updEmu n f).ashDue = s.ashDue := rfl
@[simp] theorem State.updEmu_tmp (s : State) (n : Nat) (f : EmuSt → EmuSt) : (s.updEmu n f).tmp = s.tmp := rfl
@[simp] theorem State.updEmu_tsl (s : State) (n : Nat) (f : EmuSt → EmuSt) : (s.updEmu n f).tsl = s.tsl := rfl
@[simp] theorem State.updEmu_pairEnd (s : State) (n : Nat) (f : EmuSt → EmuSt) : (s.updEmu n f).pairEnd = s.pairEnd := rfl
@[simp] theorem State.updEmu_tmpFrom (s : State) (n : Nat) (f : EmuSt → EmuSt) : (s.updEmu n f).tmpFrom = s.tmpFrom := rfl
@[simp] theorem State.updEmu_actA (s : State) (n : Nat) (f : EmuSt → EmuSt) : (s.updEmu n f).actA = s.actA := rfl
@[simp] theorem State.updEmu_actB (s : State) (n : Nat) (f : EmuSt → EmuSt) : (s.updEmu n f).actB = s.actB := rfl
@[simp] theorem State.updEmu_axA (s : State) (n : Nat) (f : EmuSt → EmuSt) : (s.updEmu n f).axA = s.axA := rfl
@[simp] theorem State.updEmu_axB (s : State) (n : Nat) (f : EmuSt → EmuSt) : (s.updEmu n f).axB = s.axB := rfl
@[simp] theorem State.updEmu_siB (s : State) (n : Nat) (f : EmuSt → EmuSt) : (s.updEmu n f).siB = s.siB := rfl
@[simp] theorem State.updEmu_discA (s : State) (n : Nat) (f : EmuSt → EmuSt) : (s.updEmu n f).discA = s.discA := rfl
@[simp] theorem State.updEmu_discB (s : State) (n : Nat) (f : EmuSt → EmuSt) : (s.updEmu n f).discB = s.discB := rfl
@[simp] theorem State.updEmu_latA (s : State) (n : Nat) (f : EmuSt → EmuSt) : (s.updEmu n f).latA = s.latA := rfl
@[simp] theorem State.updEmu_latB (s : State) (n : Nat) (f : EmuSt → EmuSt) : (s.updEmu n f).latB = s.latB := rfl
@[simp] theorem State.updEmu_keys (s : State) (n : Nat) (f : EmuSt → EmuSt) : (s.updEmu n f).keys = s.keys := rfl
@[simp] theorem State.updEmu_xst (s : State) (n : Nat) (f : EmuSt → EmuSt) : (s.updEmu n f).xst = s.xst := rfl
@[simp] theorem State.updEmu_appWait (s : State) (n : Nat) (f : EmuSt → EmuSt) : (s.updEmu n f).appWait = s.appWait := rfl
@[simp] theorem State.updEmu_ftLat (s : State) (n : Nat) (f : EmuSt → EmuSt) : (s.updEmu n f).ftLat = s.ftLat := rfl
@[simp] theorem State.updEmu_susp (s : State) (n : Nat) (f : EmuSt → EmuSt) : (s.updEmu n f).susp = s.susp := rfl
@[simp] theorem State.updEmu_gapAt (s : State) (n : Nat) (f : EmuSt → EmuSt) : (s.updEmu n f).gapAt = s.gapAt := rfl
@[simp] theorem State.updEmu_smOn (s : State) (n : Nat) (f : EmuSt → EmuSt) : (s.updEmu n f).smOn = s.smOn := rfl
@[simp] theorem State.updEmu_conns (s : State) (n : Nat) (f : EmuSt → EmuSt) : (s.updEmu n f).conns = s.conns := rfl
@[simp] theorem State.updEmu_can (s : State) (n : Nat) (f : EmuSt → EmuSt) : (s.updEmu n f).can = s.can := rfl
@[simp] theorem State.updEmu_canAt (s : State) (n : Nat) (f : EmuSt → EmuSt) : (s.updEmu n f).canAt = s.canAt := rfl
@[simp] theorem State.updEmu_canWake (s : State) (n : Nat) (f : EmuSt → EmuSt) : (s.updEmu n f).canWake = s.canWake := rfl
@[simp] theorem State.updEmu_flagHist (s : State) (n : Nat) (f : EmuSt → EmuSt) : (s.updEmu n f).flagHist = s.flagHist := rfl
@[simp] theorem State.updEmu_chn (s : State) (n : Nat) (f : EmuSt → EmuSt) : (s.updEmu n f).chn = s.chn := rfl
@[simp] theorem State.updEmu_twn (s : State) (n : Nat) (f : EmuSt → EmuSt) : (s.updEmu n f).twn = s.twn := rfl
@[simp] theorem State.updEmu_rst (s : State) (n : Nat) (f : EmuSt → EmuSt) : (s.updEmu n f).rst = s.rst := rfl
@[simp] theorem State.updEmu_snt (s : State) (n : Nat) (f : EmuSt → EmuSt) : (s.updEmu n f).snt = s.snt := rfl
@[simp] theorem State.updEmu_tap (s : State) (n : Nat) (f : EmuSt → EmuSt) : (s.updEmu n f).tap = s.tap := rfl
@[simp] theorem State.updEmu_host (s : State) (n : Nat) (f : EmuSt → EmuSt) : (s.updEmu n f).host = s.host := rfl
@[simp] theorem State.updEmu_pending (s : State) (n : Nat) (f : EmuSt → EmuSt) : (s.updEmu n f).pending = s.pending := rfl
@[simp] theorem State.updEmu_outbox (s : State) (n : Nat) (f : EmuSt → EmuSt) : (s.updEmu n f).outbox = s.outbox := rfl
@[simp] theorem State.updEmu_g (s : State) (n : Nat) (f : EmuSt → EmuSt) (fld : Fld) (i : Nat) : (s.updEmu n f).g fld i = s.g fld i := rfl
@[simp] theorem State.updEmu_gb (s : State) (n : Nat) (f : EmuSt → EmuSt) (fld : Fld) (i : Nat) : (s.updEmu n f).gb fld i = s.gb fld i := rfl
@[simp] theorem State.updEmu_gi (s : State) (n : Nat) (f : EmuSt → EmuSt) (fld : Fld) (i : Nat) : (s.updEmu n f).gi fld i = s.gi fld i := rfl

/-! ### `State.updVnt` -/

@[simp] theorem State.updVnt_now (s : State) (n : Nat) (f : VntSt → VntSt) : (s.updVnt n f).now = s.now := rfl
@[simp] theorem State.updVnt_t (s : State) (n : Nat) (f : VntSt → VntSt) : (s.updVnt n f).t = s.t := rfl
@[simp] theorem State.updVnt_fields (s : State) (n : Nat) (f : VntSt → VntSt) : (s.updVnt n f).fields = s.fields := rfl
@[simp] theorem State.updVnt_sram (s : State) (n : Nat) (f : VntSt → VntSt) : (s.updVnt n f).sram = s.sram := rfl
@[simp] theorem State.updVnt_nvm (s : State) (n : Nat) (f : VntSt → VntSt) : (s.updVnt n f).nvm = s.nvm := rfl
@[simp] theorem State.updVnt_free (s : State) (n : Nat) (f : VntSt → VntSt) : (s.updVnt n f).free = s.free := rfl
@[simp] theorem State.updVnt_wrapped (s : State) (n : Nat) (f : VntSt → VntSt) : (s.updVnt n f).wrapped = s.wrapped := rfl
@[simp] theorem State.updVnt_adcOn (s : State) (n : Nat) (f : VntSt → VntSt) : (s.updVnt n f).adcOn = s.adcOn := rfl
@[simp] theorem State.updVnt_k (s : State) (n : Nat) (f : VntSt → VntSt) : (s.updVnt n f).k = s.k := rfl
@[simp] theorem State.updVnt_bDone (s : State) (n : Nat) (f : VntSt → VntSt) : (s.updVnt n f).bDone = s.bDone := rfl
@[simp] theorem State.updVnt_kB (s : State) (n : Nat) (f : VntSt → VntSt) : (s.updVnt n f).kB = s.kB := rfl
@[simp] theorem State.updVnt_s0 (s : State) (n : Nat) (f : VntSt → VntSt) : (s.updVnt n f).s0 = s.s0 := rfl
@[simp] theorem State.updVnt_staged (s : State) (n : Nat) (f : VntSt → VntSt) : (s.updVnt n f).staged = s.staged := rfl
@[simp] theorem State.updVnt_overflow (s : State) (n : Nat) (f : VntSt → VntSt) : (s.updVnt n f).overflow = s.overflow := rfl
@[simp] theorem State.updVnt_commit (s : State) (n : Nat) (f : VntSt → VntSt) : (s.updVnt n f).commit = s.commit := rfl
@[simp] theorem State.updVnt_epochs (s : State) (n : Nat) (f : VntSt → VntSt) : (s.updVnt n f).epochs = s.epochs := rfl
@[simp] theorem State.updVnt_latches (s : State) (n : Nat) (f : VntSt → VntSt) : (s.updVnt n f).latches = s.latches := rfl
@[simp] theorem State.updVnt_prt (s : State) (n : Nat) (f : VntSt → VntSt) : (s.updVnt n f).prt = s.prt := rfl
@[simp] theorem State.updVnt_exc (s : State) (n : Nat) (f : VntSt → VntSt) : (s.updVnt n f).exc = s.exc := rfl
@[simp] theorem State.updVnt_acq (s : State) (n : Nat) (f : VntSt → VntSt) : (s.updVnt n f).acq = s.acq := rfl
@[simp] theorem State.updVnt_obs (s : State) (n : Nat) (f : VntSt → VntSt) : (s.updVnt n f).obs = s.obs := rfl
@[simp] theorem State.updVnt_div (s : State) (n : Nat) (f : VntSt → VntSt) : (s.updVnt n f).div = s.div := rfl
@[simp] theorem State.updVnt_cal (s : State) (n : Nat) (f : VntSt → VntSt) : (s.updVnt n f).cal = s.cal := rfl
@[simp] theorem State.updVnt_calStep (s : State) (n : Nat) (f : VntSt → VntSt) : (s.updVnt n f).calStep = s.calStep := rfl
@[simp] theorem State.updVnt_calAcc (s : State) (n : Nat) (f : VntSt → VntSt) : (s.updVnt n f).calAcc = s.calAcc := rfl
@[simp] theorem State.updVnt_swpAcc (s : State) (n : Nat) (f : VntSt → VntSt) : (s.updVnt n f).swpAcc = s.swpAcc := rfl
@[simp] theorem State.updVnt_obsLim (s : State) (n : Nat) (f : VntSt → VntSt) : (s.updVnt n f).obsLim = s.obsLim := rfl
@[simp] theorem State.updVnt_sinc (s : State) (n : Nat) (f : VntSt → VntSt) : (s.updVnt n f).sinc = s.sinc := rfl
@[simp] theorem State.updVnt_tsrc (s : State) (n : Nat) (f : VntSt → VntSt) : (s.updVnt n f).tsrc = s.tsrc := rfl
@[simp] theorem State.updVnt_safPar (s : State) (n : Nat) (f : VntSt → VntSt) : (s.updVnt n f).safPar = s.safPar := rfl
@[simp] theorem State.updVnt_permAt (s : State) (n : Nat) (f : VntSt → VntSt) : (s.updVnt n f).permAt = s.permAt := rfl
@[simp] theorem State.updVnt_stamps (s : State) (n : Nat) (f : VntSt → VntSt) : (s.updVnt n f).stamps = s.stamps := rfl
@[simp] theorem State.updVnt_lrn (s : State) (n : Nat) (f : VntSt → VntSt) : (s.updVnt n f).lrn = s.lrn := rfl
@[simp] theorem State.updVnt_nvq (s : State) (n : Nat) (f : VntSt → VntSt) : (s.updVnt n f).nvq = s.nvq := rfl
@[simp] theorem State.updVnt_nvPorts (s : State) (n : Nat) (f : VntSt → VntSt) : (s.updVnt n f).nvPorts = s.nvPorts := rfl
@[simp] theorem State.updVnt_nvBuf (s : State) (n : Nat) (f : VntSt → VntSt) : (s.updVnt n f).nvBuf = s.nvBuf := rfl
@[simp] theorem State.updVnt_dfb (s : State) (n : Nat) (f : VntSt → VntSt) : (s.updVnt n f).dfb = s.dfb := rfl
@[simp] theorem State.updVnt_emu (s : State) (n : Nat) (f : VntSt → VntSt) : (s.updVnt n f).emu = s.emu := rfl
@[simp] theorem State.updVnt_emuDrv (s : State) (n : Nat) (f : VntSt → VntSt) : (s.updVnt n f).emuDrv = s.emuDrv := rfl
@[simp] theorem State.updVnt_blankWin (s : State) (n : Nat) (f : VntSt → VntSt) : (s.updVnt n f).blankWin = s.blankWin := rfl
@[simp] theorem State.updVnt_obsOld (s : State) (n : Nat) (f : VntSt → VntSt) : (s.updVnt n f).obsOld = s.obsOld := rfl
@[simp] theorem State.updVnt_slots (s : State) (n : Nat) (f : VntSt → VntSt) : (s.updVnt n f).slots = s.slots := rfl
@[simp] theorem State.updVnt_copies (s : State) (n : Nat) (f : VntSt → VntSt) : (s.updVnt n f).copies = s.copies := rfl
@[simp] theorem State.updVnt_pwms (s : State) (n : Nat) (f : VntSt → VntSt) : (s.updVnt n f).pwms = s.pwms := rfl
@[simp] theorem State.updVnt_gt (s : State) (n : Nat) (f : VntSt → VntSt) : (s.updVnt n f).gt = s.gt := rfl
@[simp] theorem State.updVnt_stream (s : State) (n : Nat) (f : VntSt → VntSt) : (s.updVnt n f).stream = s.stream := rfl
@[simp] theorem State.updVnt_geyDrv (s : State) (n : Nat) (f : VntSt → VntSt) : (s.updVnt n f).geyDrv = s.geyDrv := rfl
@[simp] theorem State.updVnt_ventReq (s : State) (n : Nat) (f : VntSt → VntSt) : (s.updVnt n f).ventReq = s.ventReq := rfl
@[simp] theorem State.updVnt_inj (s : State) (n : Nat) (f : VntSt → VntSt) : (s.updVnt n f).inj = s.inj := rfl
@[simp] theorem State.updVnt_injEnd (s : State) (n : Nat) (f : VntSt → VntSt) : (s.updVnt n f).injEnd = s.injEnd := rfl
@[simp] theorem State.updVnt_poison (s : State) (n : Nat) (f : VntSt → VntSt) : (s.updVnt n f).poison = s.poison := rfl
@[simp] theorem State.updVnt_ashDue (s : State) (n : Nat) (f : VntSt → VntSt) : (s.updVnt n f).ashDue = s.ashDue := rfl
@[simp] theorem State.updVnt_tmp (s : State) (n : Nat) (f : VntSt → VntSt) : (s.updVnt n f).tmp = s.tmp := rfl
@[simp] theorem State.updVnt_tsl (s : State) (n : Nat) (f : VntSt → VntSt) : (s.updVnt n f).tsl = s.tsl := rfl
@[simp] theorem State.updVnt_pairEnd (s : State) (n : Nat) (f : VntSt → VntSt) : (s.updVnt n f).pairEnd = s.pairEnd := rfl
@[simp] theorem State.updVnt_tmpFrom (s : State) (n : Nat) (f : VntSt → VntSt) : (s.updVnt n f).tmpFrom = s.tmpFrom := rfl
@[simp] theorem State.updVnt_actA (s : State) (n : Nat) (f : VntSt → VntSt) : (s.updVnt n f).actA = s.actA := rfl
@[simp] theorem State.updVnt_actB (s : State) (n : Nat) (f : VntSt → VntSt) : (s.updVnt n f).actB = s.actB := rfl
@[simp] theorem State.updVnt_axA (s : State) (n : Nat) (f : VntSt → VntSt) : (s.updVnt n f).axA = s.axA := rfl
@[simp] theorem State.updVnt_axB (s : State) (n : Nat) (f : VntSt → VntSt) : (s.updVnt n f).axB = s.axB := rfl
@[simp] theorem State.updVnt_siB (s : State) (n : Nat) (f : VntSt → VntSt) : (s.updVnt n f).siB = s.siB := rfl
@[simp] theorem State.updVnt_discA (s : State) (n : Nat) (f : VntSt → VntSt) : (s.updVnt n f).discA = s.discA := rfl
@[simp] theorem State.updVnt_discB (s : State) (n : Nat) (f : VntSt → VntSt) : (s.updVnt n f).discB = s.discB := rfl
@[simp] theorem State.updVnt_latA (s : State) (n : Nat) (f : VntSt → VntSt) : (s.updVnt n f).latA = s.latA := rfl
@[simp] theorem State.updVnt_latB (s : State) (n : Nat) (f : VntSt → VntSt) : (s.updVnt n f).latB = s.latB := rfl
@[simp] theorem State.updVnt_keys (s : State) (n : Nat) (f : VntSt → VntSt) : (s.updVnt n f).keys = s.keys := rfl
@[simp] theorem State.updVnt_xst (s : State) (n : Nat) (f : VntSt → VntSt) : (s.updVnt n f).xst = s.xst := rfl
@[simp] theorem State.updVnt_appWait (s : State) (n : Nat) (f : VntSt → VntSt) : (s.updVnt n f).appWait = s.appWait := rfl
@[simp] theorem State.updVnt_ftLat (s : State) (n : Nat) (f : VntSt → VntSt) : (s.updVnt n f).ftLat = s.ftLat := rfl
@[simp] theorem State.updVnt_susp (s : State) (n : Nat) (f : VntSt → VntSt) : (s.updVnt n f).susp = s.susp := rfl
@[simp] theorem State.updVnt_gapAt (s : State) (n : Nat) (f : VntSt → VntSt) : (s.updVnt n f).gapAt = s.gapAt := rfl
@[simp] theorem State.updVnt_smOn (s : State) (n : Nat) (f : VntSt → VntSt) : (s.updVnt n f).smOn = s.smOn := rfl
@[simp] theorem State.updVnt_conns (s : State) (n : Nat) (f : VntSt → VntSt) : (s.updVnt n f).conns = s.conns := rfl
@[simp] theorem State.updVnt_can (s : State) (n : Nat) (f : VntSt → VntSt) : (s.updVnt n f).can = s.can := rfl
@[simp] theorem State.updVnt_canAt (s : State) (n : Nat) (f : VntSt → VntSt) : (s.updVnt n f).canAt = s.canAt := rfl
@[simp] theorem State.updVnt_canWake (s : State) (n : Nat) (f : VntSt → VntSt) : (s.updVnt n f).canWake = s.canWake := rfl
@[simp] theorem State.updVnt_flagHist (s : State) (n : Nat) (f : VntSt → VntSt) : (s.updVnt n f).flagHist = s.flagHist := rfl
@[simp] theorem State.updVnt_chn (s : State) (n : Nat) (f : VntSt → VntSt) : (s.updVnt n f).chn = s.chn := rfl
@[simp] theorem State.updVnt_twn (s : State) (n : Nat) (f : VntSt → VntSt) : (s.updVnt n f).twn = s.twn := rfl
@[simp] theorem State.updVnt_rst (s : State) (n : Nat) (f : VntSt → VntSt) : (s.updVnt n f).rst = s.rst := rfl
@[simp] theorem State.updVnt_snt (s : State) (n : Nat) (f : VntSt → VntSt) : (s.updVnt n f).snt = s.snt := rfl
@[simp] theorem State.updVnt_tap (s : State) (n : Nat) (f : VntSt → VntSt) : (s.updVnt n f).tap = s.tap := rfl
@[simp] theorem State.updVnt_host (s : State) (n : Nat) (f : VntSt → VntSt) : (s.updVnt n f).host = s.host := rfl
@[simp] theorem State.updVnt_pending (s : State) (n : Nat) (f : VntSt → VntSt) : (s.updVnt n f).pending = s.pending := rfl
@[simp] theorem State.updVnt_outbox (s : State) (n : Nat) (f : VntSt → VntSt) : (s.updVnt n f).outbox = s.outbox := rfl
@[simp] theorem State.updVnt_g (s : State) (n : Nat) (f : VntSt → VntSt) (fld : Fld) (i : Nat) : (s.updVnt n f).g fld i = s.g fld i := rfl
@[simp] theorem State.updVnt_gb (s : State) (n : Nat) (f : VntSt → VntSt) (fld : Fld) (i : Nat) : (s.updVnt n f).gb fld i = s.gb fld i := rfl
@[simp] theorem State.updVnt_gi (s : State) (n : Nat) (f : VntSt → VntSt) (fld : Fld) (i : Nat) : (s.updVnt n f).gi fld i = s.gi fld i := rfl

/-! ### `State.updTmp` -/

@[simp] theorem State.updTmp_now (s : State) (n : Nat) (f : TmpSt → TmpSt) : (s.updTmp n f).now = s.now := rfl
@[simp] theorem State.updTmp_t (s : State) (n : Nat) (f : TmpSt → TmpSt) : (s.updTmp n f).t = s.t := rfl
@[simp] theorem State.updTmp_fields (s : State) (n : Nat) (f : TmpSt → TmpSt) : (s.updTmp n f).fields = s.fields := rfl
@[simp] theorem State.updTmp_sram (s : State) (n : Nat) (f : TmpSt → TmpSt) : (s.updTmp n f).sram = s.sram := rfl
@[simp] theorem State.updTmp_nvm (s : State) (n : Nat) (f : TmpSt → TmpSt) : (s.updTmp n f).nvm = s.nvm := rfl
@[simp] theorem State.updTmp_free (s : State) (n : Nat) (f : TmpSt → TmpSt) : (s.updTmp n f).free = s.free := rfl
@[simp] theorem State.updTmp_wrapped (s : State) (n : Nat) (f : TmpSt → TmpSt) : (s.updTmp n f).wrapped = s.wrapped := rfl
@[simp] theorem State.updTmp_adcOn (s : State) (n : Nat) (f : TmpSt → TmpSt) : (s.updTmp n f).adcOn = s.adcOn := rfl
@[simp] theorem State.updTmp_k (s : State) (n : Nat) (f : TmpSt → TmpSt) : (s.updTmp n f).k = s.k := rfl
@[simp] theorem State.updTmp_bDone (s : State) (n : Nat) (f : TmpSt → TmpSt) : (s.updTmp n f).bDone = s.bDone := rfl
@[simp] theorem State.updTmp_kB (s : State) (n : Nat) (f : TmpSt → TmpSt) : (s.updTmp n f).kB = s.kB := rfl
@[simp] theorem State.updTmp_s0 (s : State) (n : Nat) (f : TmpSt → TmpSt) : (s.updTmp n f).s0 = s.s0 := rfl
@[simp] theorem State.updTmp_staged (s : State) (n : Nat) (f : TmpSt → TmpSt) : (s.updTmp n f).staged = s.staged := rfl
@[simp] theorem State.updTmp_overflow (s : State) (n : Nat) (f : TmpSt → TmpSt) : (s.updTmp n f).overflow = s.overflow := rfl
@[simp] theorem State.updTmp_commit (s : State) (n : Nat) (f : TmpSt → TmpSt) : (s.updTmp n f).commit = s.commit := rfl
@[simp] theorem State.updTmp_epochs (s : State) (n : Nat) (f : TmpSt → TmpSt) : (s.updTmp n f).epochs = s.epochs := rfl
@[simp] theorem State.updTmp_latches (s : State) (n : Nat) (f : TmpSt → TmpSt) : (s.updTmp n f).latches = s.latches := rfl
@[simp] theorem State.updTmp_prt (s : State) (n : Nat) (f : TmpSt → TmpSt) : (s.updTmp n f).prt = s.prt := rfl
@[simp] theorem State.updTmp_exc (s : State) (n : Nat) (f : TmpSt → TmpSt) : (s.updTmp n f).exc = s.exc := rfl
@[simp] theorem State.updTmp_acq (s : State) (n : Nat) (f : TmpSt → TmpSt) : (s.updTmp n f).acq = s.acq := rfl
@[simp] theorem State.updTmp_obs (s : State) (n : Nat) (f : TmpSt → TmpSt) : (s.updTmp n f).obs = s.obs := rfl
@[simp] theorem State.updTmp_div (s : State) (n : Nat) (f : TmpSt → TmpSt) : (s.updTmp n f).div = s.div := rfl
@[simp] theorem State.updTmp_cal (s : State) (n : Nat) (f : TmpSt → TmpSt) : (s.updTmp n f).cal = s.cal := rfl
@[simp] theorem State.updTmp_calStep (s : State) (n : Nat) (f : TmpSt → TmpSt) : (s.updTmp n f).calStep = s.calStep := rfl
@[simp] theorem State.updTmp_calAcc (s : State) (n : Nat) (f : TmpSt → TmpSt) : (s.updTmp n f).calAcc = s.calAcc := rfl
@[simp] theorem State.updTmp_swpAcc (s : State) (n : Nat) (f : TmpSt → TmpSt) : (s.updTmp n f).swpAcc = s.swpAcc := rfl
@[simp] theorem State.updTmp_obsLim (s : State) (n : Nat) (f : TmpSt → TmpSt) : (s.updTmp n f).obsLim = s.obsLim := rfl
@[simp] theorem State.updTmp_sinc (s : State) (n : Nat) (f : TmpSt → TmpSt) : (s.updTmp n f).sinc = s.sinc := rfl
@[simp] theorem State.updTmp_tsrc (s : State) (n : Nat) (f : TmpSt → TmpSt) : (s.updTmp n f).tsrc = s.tsrc := rfl
@[simp] theorem State.updTmp_safPar (s : State) (n : Nat) (f : TmpSt → TmpSt) : (s.updTmp n f).safPar = s.safPar := rfl
@[simp] theorem State.updTmp_permAt (s : State) (n : Nat) (f : TmpSt → TmpSt) : (s.updTmp n f).permAt = s.permAt := rfl
@[simp] theorem State.updTmp_stamps (s : State) (n : Nat) (f : TmpSt → TmpSt) : (s.updTmp n f).stamps = s.stamps := rfl
@[simp] theorem State.updTmp_lrn (s : State) (n : Nat) (f : TmpSt → TmpSt) : (s.updTmp n f).lrn = s.lrn := rfl
@[simp] theorem State.updTmp_nvq (s : State) (n : Nat) (f : TmpSt → TmpSt) : (s.updTmp n f).nvq = s.nvq := rfl
@[simp] theorem State.updTmp_nvPorts (s : State) (n : Nat) (f : TmpSt → TmpSt) : (s.updTmp n f).nvPorts = s.nvPorts := rfl
@[simp] theorem State.updTmp_nvBuf (s : State) (n : Nat) (f : TmpSt → TmpSt) : (s.updTmp n f).nvBuf = s.nvBuf := rfl
@[simp] theorem State.updTmp_dfb (s : State) (n : Nat) (f : TmpSt → TmpSt) : (s.updTmp n f).dfb = s.dfb := rfl
@[simp] theorem State.updTmp_emu (s : State) (n : Nat) (f : TmpSt → TmpSt) : (s.updTmp n f).emu = s.emu := rfl
@[simp] theorem State.updTmp_emuDrv (s : State) (n : Nat) (f : TmpSt → TmpSt) : (s.updTmp n f).emuDrv = s.emuDrv := rfl
@[simp] theorem State.updTmp_blankWin (s : State) (n : Nat) (f : TmpSt → TmpSt) : (s.updTmp n f).blankWin = s.blankWin := rfl
@[simp] theorem State.updTmp_obsOld (s : State) (n : Nat) (f : TmpSt → TmpSt) : (s.updTmp n f).obsOld = s.obsOld := rfl
@[simp] theorem State.updTmp_slots (s : State) (n : Nat) (f : TmpSt → TmpSt) : (s.updTmp n f).slots = s.slots := rfl
@[simp] theorem State.updTmp_copies (s : State) (n : Nat) (f : TmpSt → TmpSt) : (s.updTmp n f).copies = s.copies := rfl
@[simp] theorem State.updTmp_pwms (s : State) (n : Nat) (f : TmpSt → TmpSt) : (s.updTmp n f).pwms = s.pwms := rfl
@[simp] theorem State.updTmp_gt (s : State) (n : Nat) (f : TmpSt → TmpSt) : (s.updTmp n f).gt = s.gt := rfl
@[simp] theorem State.updTmp_stream (s : State) (n : Nat) (f : TmpSt → TmpSt) : (s.updTmp n f).stream = s.stream := rfl
@[simp] theorem State.updTmp_geyDrv (s : State) (n : Nat) (f : TmpSt → TmpSt) : (s.updTmp n f).geyDrv = s.geyDrv := rfl
@[simp] theorem State.updTmp_vnt (s : State) (n : Nat) (f : TmpSt → TmpSt) : (s.updTmp n f).vnt = s.vnt := rfl
@[simp] theorem State.updTmp_ventReq (s : State) (n : Nat) (f : TmpSt → TmpSt) : (s.updTmp n f).ventReq = s.ventReq := rfl
@[simp] theorem State.updTmp_inj (s : State) (n : Nat) (f : TmpSt → TmpSt) : (s.updTmp n f).inj = s.inj := rfl
@[simp] theorem State.updTmp_injEnd (s : State) (n : Nat) (f : TmpSt → TmpSt) : (s.updTmp n f).injEnd = s.injEnd := rfl
@[simp] theorem State.updTmp_poison (s : State) (n : Nat) (f : TmpSt → TmpSt) : (s.updTmp n f).poison = s.poison := rfl
@[simp] theorem State.updTmp_ashDue (s : State) (n : Nat) (f : TmpSt → TmpSt) : (s.updTmp n f).ashDue = s.ashDue := rfl
@[simp] theorem State.updTmp_tsl (s : State) (n : Nat) (f : TmpSt → TmpSt) : (s.updTmp n f).tsl = s.tsl := rfl
@[simp] theorem State.updTmp_pairEnd (s : State) (n : Nat) (f : TmpSt → TmpSt) : (s.updTmp n f).pairEnd = s.pairEnd := rfl
@[simp] theorem State.updTmp_tmpFrom (s : State) (n : Nat) (f : TmpSt → TmpSt) : (s.updTmp n f).tmpFrom = s.tmpFrom := rfl
@[simp] theorem State.updTmp_actA (s : State) (n : Nat) (f : TmpSt → TmpSt) : (s.updTmp n f).actA = s.actA := rfl
@[simp] theorem State.updTmp_actB (s : State) (n : Nat) (f : TmpSt → TmpSt) : (s.updTmp n f).actB = s.actB := rfl
@[simp] theorem State.updTmp_axA (s : State) (n : Nat) (f : TmpSt → TmpSt) : (s.updTmp n f).axA = s.axA := rfl
@[simp] theorem State.updTmp_axB (s : State) (n : Nat) (f : TmpSt → TmpSt) : (s.updTmp n f).axB = s.axB := rfl
@[simp] theorem State.updTmp_siB (s : State) (n : Nat) (f : TmpSt → TmpSt) : (s.updTmp n f).siB = s.siB := rfl
@[simp] theorem State.updTmp_discA (s : State) (n : Nat) (f : TmpSt → TmpSt) : (s.updTmp n f).discA = s.discA := rfl
@[simp] theorem State.updTmp_discB (s : State) (n : Nat) (f : TmpSt → TmpSt) : (s.updTmp n f).discB = s.discB := rfl
@[simp] theorem State.updTmp_latA (s : State) (n : Nat) (f : TmpSt → TmpSt) : (s.updTmp n f).latA = s.latA := rfl
@[simp] theorem State.updTmp_latB (s : State) (n : Nat) (f : TmpSt → TmpSt) : (s.updTmp n f).latB = s.latB := rfl
@[simp] theorem State.updTmp_keys (s : State) (n : Nat) (f : TmpSt → TmpSt) : (s.updTmp n f).keys = s.keys := rfl
@[simp] theorem State.updTmp_xst (s : State) (n : Nat) (f : TmpSt → TmpSt) : (s.updTmp n f).xst = s.xst := rfl
@[simp] theorem State.updTmp_appWait (s : State) (n : Nat) (f : TmpSt → TmpSt) : (s.updTmp n f).appWait = s.appWait := rfl
@[simp] theorem State.updTmp_ftLat (s : State) (n : Nat) (f : TmpSt → TmpSt) : (s.updTmp n f).ftLat = s.ftLat := rfl
@[simp] theorem State.updTmp_susp (s : State) (n : Nat) (f : TmpSt → TmpSt) : (s.updTmp n f).susp = s.susp := rfl
@[simp] theorem State.updTmp_gapAt (s : State) (n : Nat) (f : TmpSt → TmpSt) : (s.updTmp n f).gapAt = s.gapAt := rfl
@[simp] theorem State.updTmp_smOn (s : State) (n : Nat) (f : TmpSt → TmpSt) : (s.updTmp n f).smOn = s.smOn := rfl
@[simp] theorem State.updTmp_conns (s : State) (n : Nat) (f : TmpSt → TmpSt) : (s.updTmp n f).conns = s.conns := rfl
@[simp] theorem State.updTmp_can (s : State) (n : Nat) (f : TmpSt → TmpSt) : (s.updTmp n f).can = s.can := rfl
@[simp] theorem State.updTmp_canAt (s : State) (n : Nat) (f : TmpSt → TmpSt) : (s.updTmp n f).canAt = s.canAt := rfl
@[simp] theorem State.updTmp_canWake (s : State) (n : Nat) (f : TmpSt → TmpSt) : (s.updTmp n f).canWake = s.canWake := rfl
@[simp] theorem State.updTmp_flagHist (s : State) (n : Nat) (f : TmpSt → TmpSt) : (s.updTmp n f).flagHist = s.flagHist := rfl
@[simp] theorem State.updTmp_chn (s : State) (n : Nat) (f : TmpSt → TmpSt) : (s.updTmp n f).chn = s.chn := rfl
@[simp] theorem State.updTmp_twn (s : State) (n : Nat) (f : TmpSt → TmpSt) : (s.updTmp n f).twn = s.twn := rfl
@[simp] theorem State.updTmp_rst (s : State) (n : Nat) (f : TmpSt → TmpSt) : (s.updTmp n f).rst = s.rst := rfl
@[simp] theorem State.updTmp_snt (s : State) (n : Nat) (f : TmpSt → TmpSt) : (s.updTmp n f).snt = s.snt := rfl
@[simp] theorem State.updTmp_tap (s : State) (n : Nat) (f : TmpSt → TmpSt) : (s.updTmp n f).tap = s.tap := rfl
@[simp] theorem State.updTmp_host (s : State) (n : Nat) (f : TmpSt → TmpSt) : (s.updTmp n f).host = s.host := rfl
@[simp] theorem State.updTmp_pending (s : State) (n : Nat) (f : TmpSt → TmpSt) : (s.updTmp n f).pending = s.pending := rfl
@[simp] theorem State.updTmp_outbox (s : State) (n : Nat) (f : TmpSt → TmpSt) : (s.updTmp n f).outbox = s.outbox := rfl
@[simp] theorem State.updTmp_g (s : State) (n : Nat) (f : TmpSt → TmpSt) (fld : Fld) (i : Nat) : (s.updTmp n f).g fld i = s.g fld i := rfl
@[simp] theorem State.updTmp_gb (s : State) (n : Nat) (f : TmpSt → TmpSt) (fld : Fld) (i : Nat) : (s.updTmp n f).gb fld i = s.gb fld i := rfl
@[simp] theorem State.updTmp_gi (s : State) (n : Nat) (f : TmpSt → TmpSt) (fld : Fld) (i : Nat) : (s.updTmp n f).gi fld i = s.gi fld i := rfl

/-! ### `State.updTsl` -/

@[simp] theorem State.updTsl_now (s : State) (n : Nat) (f : TslSt → TslSt) : (s.updTsl n f).now = s.now := rfl
@[simp] theorem State.updTsl_t (s : State) (n : Nat) (f : TslSt → TslSt) : (s.updTsl n f).t = s.t := rfl
@[simp] theorem State.updTsl_fields (s : State) (n : Nat) (f : TslSt → TslSt) : (s.updTsl n f).fields = s.fields := rfl
@[simp] theorem State.updTsl_sram (s : State) (n : Nat) (f : TslSt → TslSt) : (s.updTsl n f).sram = s.sram := rfl
@[simp] theorem State.updTsl_nvm (s : State) (n : Nat) (f : TslSt → TslSt) : (s.updTsl n f).nvm = s.nvm := rfl
@[simp] theorem State.updTsl_free (s : State) (n : Nat) (f : TslSt → TslSt) : (s.updTsl n f).free = s.free := rfl
@[simp] theorem State.updTsl_wrapped (s : State) (n : Nat) (f : TslSt → TslSt) : (s.updTsl n f).wrapped = s.wrapped := rfl
@[simp] theorem State.updTsl_adcOn (s : State) (n : Nat) (f : TslSt → TslSt) : (s.updTsl n f).adcOn = s.adcOn := rfl
@[simp] theorem State.updTsl_k (s : State) (n : Nat) (f : TslSt → TslSt) : (s.updTsl n f).k = s.k := rfl
@[simp] theorem State.updTsl_bDone (s : State) (n : Nat) (f : TslSt → TslSt) : (s.updTsl n f).bDone = s.bDone := rfl
@[simp] theorem State.updTsl_kB (s : State) (n : Nat) (f : TslSt → TslSt) : (s.updTsl n f).kB = s.kB := rfl
@[simp] theorem State.updTsl_s0 (s : State) (n : Nat) (f : TslSt → TslSt) : (s.updTsl n f).s0 = s.s0 := rfl
@[simp] theorem State.updTsl_staged (s : State) (n : Nat) (f : TslSt → TslSt) : (s.updTsl n f).staged = s.staged := rfl
@[simp] theorem State.updTsl_overflow (s : State) (n : Nat) (f : TslSt → TslSt) : (s.updTsl n f).overflow = s.overflow := rfl
@[simp] theorem State.updTsl_commit (s : State) (n : Nat) (f : TslSt → TslSt) : (s.updTsl n f).commit = s.commit := rfl
@[simp] theorem State.updTsl_epochs (s : State) (n : Nat) (f : TslSt → TslSt) : (s.updTsl n f).epochs = s.epochs := rfl
@[simp] theorem State.updTsl_latches (s : State) (n : Nat) (f : TslSt → TslSt) : (s.updTsl n f).latches = s.latches := rfl
@[simp] theorem State.updTsl_prt (s : State) (n : Nat) (f : TslSt → TslSt) : (s.updTsl n f).prt = s.prt := rfl
@[simp] theorem State.updTsl_exc (s : State) (n : Nat) (f : TslSt → TslSt) : (s.updTsl n f).exc = s.exc := rfl
@[simp] theorem State.updTsl_acq (s : State) (n : Nat) (f : TslSt → TslSt) : (s.updTsl n f).acq = s.acq := rfl
@[simp] theorem State.updTsl_obs (s : State) (n : Nat) (f : TslSt → TslSt) : (s.updTsl n f).obs = s.obs := rfl
@[simp] theorem State.updTsl_div (s : State) (n : Nat) (f : TslSt → TslSt) : (s.updTsl n f).div = s.div := rfl
@[simp] theorem State.updTsl_cal (s : State) (n : Nat) (f : TslSt → TslSt) : (s.updTsl n f).cal = s.cal := rfl
@[simp] theorem State.updTsl_calStep (s : State) (n : Nat) (f : TslSt → TslSt) : (s.updTsl n f).calStep = s.calStep := rfl
@[simp] theorem State.updTsl_calAcc (s : State) (n : Nat) (f : TslSt → TslSt) : (s.updTsl n f).calAcc = s.calAcc := rfl
@[simp] theorem State.updTsl_swpAcc (s : State) (n : Nat) (f : TslSt → TslSt) : (s.updTsl n f).swpAcc = s.swpAcc := rfl
@[simp] theorem State.updTsl_obsLim (s : State) (n : Nat) (f : TslSt → TslSt) : (s.updTsl n f).obsLim = s.obsLim := rfl
@[simp] theorem State.updTsl_sinc (s : State) (n : Nat) (f : TslSt → TslSt) : (s.updTsl n f).sinc = s.sinc := rfl
@[simp] theorem State.updTsl_tsrc (s : State) (n : Nat) (f : TslSt → TslSt) : (s.updTsl n f).tsrc = s.tsrc := rfl
@[simp] theorem State.updTsl_safPar (s : State) (n : Nat) (f : TslSt → TslSt) : (s.updTsl n f).safPar = s.safPar := rfl
@[simp] theorem State.updTsl_permAt (s : State) (n : Nat) (f : TslSt → TslSt) : (s.updTsl n f).permAt = s.permAt := rfl
@[simp] theorem State.updTsl_stamps (s : State) (n : Nat) (f : TslSt → TslSt) : (s.updTsl n f).stamps = s.stamps := rfl
@[simp] theorem State.updTsl_lrn (s : State) (n : Nat) (f : TslSt → TslSt) : (s.updTsl n f).lrn = s.lrn := rfl
@[simp] theorem State.updTsl_nvq (s : State) (n : Nat) (f : TslSt → TslSt) : (s.updTsl n f).nvq = s.nvq := rfl
@[simp] theorem State.updTsl_nvPorts (s : State) (n : Nat) (f : TslSt → TslSt) : (s.updTsl n f).nvPorts = s.nvPorts := rfl
@[simp] theorem State.updTsl_nvBuf (s : State) (n : Nat) (f : TslSt → TslSt) : (s.updTsl n f).nvBuf = s.nvBuf := rfl
@[simp] theorem State.updTsl_dfb (s : State) (n : Nat) (f : TslSt → TslSt) : (s.updTsl n f).dfb = s.dfb := rfl
@[simp] theorem State.updTsl_emu (s : State) (n : Nat) (f : TslSt → TslSt) : (s.updTsl n f).emu = s.emu := rfl
@[simp] theorem State.updTsl_emuDrv (s : State) (n : Nat) (f : TslSt → TslSt) : (s.updTsl n f).emuDrv = s.emuDrv := rfl
@[simp] theorem State.updTsl_blankWin (s : State) (n : Nat) (f : TslSt → TslSt) : (s.updTsl n f).blankWin = s.blankWin := rfl
@[simp] theorem State.updTsl_obsOld (s : State) (n : Nat) (f : TslSt → TslSt) : (s.updTsl n f).obsOld = s.obsOld := rfl
@[simp] theorem State.updTsl_slots (s : State) (n : Nat) (f : TslSt → TslSt) : (s.updTsl n f).slots = s.slots := rfl
@[simp] theorem State.updTsl_copies (s : State) (n : Nat) (f : TslSt → TslSt) : (s.updTsl n f).copies = s.copies := rfl
@[simp] theorem State.updTsl_pwms (s : State) (n : Nat) (f : TslSt → TslSt) : (s.updTsl n f).pwms = s.pwms := rfl
@[simp] theorem State.updTsl_gt (s : State) (n : Nat) (f : TslSt → TslSt) : (s.updTsl n f).gt = s.gt := rfl
@[simp] theorem State.updTsl_stream (s : State) (n : Nat) (f : TslSt → TslSt) : (s.updTsl n f).stream = s.stream := rfl
@[simp] theorem State.updTsl_geyDrv (s : State) (n : Nat) (f : TslSt → TslSt) : (s.updTsl n f).geyDrv = s.geyDrv := rfl
@[simp] theorem State.updTsl_vnt (s : State) (n : Nat) (f : TslSt → TslSt) : (s.updTsl n f).vnt = s.vnt := rfl
@[simp] theorem State.updTsl_ventReq (s : State) (n : Nat) (f : TslSt → TslSt) : (s.updTsl n f).ventReq = s.ventReq := rfl
@[simp] theorem State.updTsl_inj (s : State) (n : Nat) (f : TslSt → TslSt) : (s.updTsl n f).inj = s.inj := rfl
@[simp] theorem State.updTsl_injEnd (s : State) (n : Nat) (f : TslSt → TslSt) : (s.updTsl n f).injEnd = s.injEnd := rfl
@[simp] theorem State.updTsl_poison (s : State) (n : Nat) (f : TslSt → TslSt) : (s.updTsl n f).poison = s.poison := rfl
@[simp] theorem State.updTsl_ashDue (s : State) (n : Nat) (f : TslSt → TslSt) : (s.updTsl n f).ashDue = s.ashDue := rfl
@[simp] theorem State.updTsl_tmp (s : State) (n : Nat) (f : TslSt → TslSt) : (s.updTsl n f).tmp = s.tmp := rfl
@[simp] theorem State.updTsl_pairEnd (s : State) (n : Nat) (f : TslSt → TslSt) : (s.updTsl n f).pairEnd = s.pairEnd := rfl
@[simp] theorem State.updTsl_tmpFrom (s : State) (n : Nat) (f : TslSt → TslSt) : (s.updTsl n f).tmpFrom = s.tmpFrom := rfl
@[simp] theorem State.updTsl_actA (s : State) (n : Nat) (f : TslSt → TslSt) : (s.updTsl n f).actA = s.actA := rfl
@[simp] theorem State.updTsl_actB (s : State) (n : Nat) (f : TslSt → TslSt) : (s.updTsl n f).actB = s.actB := rfl
@[simp] theorem State.updTsl_axA (s : State) (n : Nat) (f : TslSt → TslSt) : (s.updTsl n f).axA = s.axA := rfl
@[simp] theorem State.updTsl_axB (s : State) (n : Nat) (f : TslSt → TslSt) : (s.updTsl n f).axB = s.axB := rfl
@[simp] theorem State.updTsl_siB (s : State) (n : Nat) (f : TslSt → TslSt) : (s.updTsl n f).siB = s.siB := rfl
@[simp] theorem State.updTsl_discA (s : State) (n : Nat) (f : TslSt → TslSt) : (s.updTsl n f).discA = s.discA := rfl
@[simp] theorem State.updTsl_discB (s : State) (n : Nat) (f : TslSt → TslSt) : (s.updTsl n f).discB = s.discB := rfl
@[simp] theorem State.updTsl_latA (s : State) (n : Nat) (f : TslSt → TslSt) : (s.updTsl n f).latA = s.latA := rfl
@[simp] theorem State.updTsl_latB (s : State) (n : Nat) (f : TslSt → TslSt) : (s.updTsl n f).latB = s.latB := rfl
@[simp] theorem State.updTsl_keys (s : State) (n : Nat) (f : TslSt → TslSt) : (s.updTsl n f).keys = s.keys := rfl
@[simp] theorem State.updTsl_xst (s : State) (n : Nat) (f : TslSt → TslSt) : (s.updTsl n f).xst = s.xst := rfl
@[simp] theorem State.updTsl_appWait (s : State) (n : Nat) (f : TslSt → TslSt) : (s.updTsl n f).appWait = s.appWait := rfl
@[simp] theorem State.updTsl_ftLat (s : State) (n : Nat) (f : TslSt → TslSt) : (s.updTsl n f).ftLat = s.ftLat := rfl
@[simp] theorem State.updTsl_susp (s : State) (n : Nat) (f : TslSt → TslSt) : (s.updTsl n f).susp = s.susp := rfl
@[simp] theorem State.updTsl_gapAt (s : State) (n : Nat) (f : TslSt → TslSt) : (s.updTsl n f).gapAt = s.gapAt := rfl
@[simp] theorem State.updTsl_smOn (s : State) (n : Nat) (f : TslSt → TslSt) : (s.updTsl n f).smOn = s.smOn := rfl
@[simp] theorem State.updTsl_conns (s : State) (n : Nat) (f : TslSt → TslSt) : (s.updTsl n f).conns = s.conns := rfl
@[simp] theorem State.updTsl_can (s : State) (n : Nat) (f : TslSt → TslSt) : (s.updTsl n f).can = s.can := rfl
@[simp] theorem State.updTsl_canAt (s : State) (n : Nat) (f : TslSt → TslSt) : (s.updTsl n f).canAt = s.canAt := rfl
@[simp] theorem State.updTsl_canWake (s : State) (n : Nat) (f : TslSt → TslSt) : (s.updTsl n f).canWake = s.canWake := rfl
@[simp] theorem State.updTsl_flagHist (s : State) (n : Nat) (f : TslSt → TslSt) : (s.updTsl n f).flagHist = s.flagHist := rfl
@[simp] theorem State.updTsl_chn (s : State) (n : Nat) (f : TslSt → TslSt) : (s.updTsl n f).chn = s.chn := rfl
@[simp] theorem State.updTsl_twn (s : State) (n : Nat) (f : TslSt → TslSt) : (s.updTsl n f).twn = s.twn := rfl
@[simp] theorem State.updTsl_rst (s : State) (n : Nat) (f : TslSt → TslSt) : (s.updTsl n f).rst = s.rst := rfl
@[simp] theorem State.updTsl_snt (s : State) (n : Nat) (f : TslSt → TslSt) : (s.updTsl n f).snt = s.snt := rfl
@[simp] theorem State.updTsl_tap (s : State) (n : Nat) (f : TslSt → TslSt) : (s.updTsl n f).tap = s.tap := rfl
@[simp] theorem State.updTsl_host (s : State) (n : Nat) (f : TslSt → TslSt) : (s.updTsl n f).host = s.host := rfl
@[simp] theorem State.updTsl_pending (s : State) (n : Nat) (f : TslSt → TslSt) : (s.updTsl n f).pending = s.pending := rfl
@[simp] theorem State.updTsl_outbox (s : State) (n : Nat) (f : TslSt → TslSt) : (s.updTsl n f).outbox = s.outbox := rfl
@[simp] theorem State.updTsl_g (s : State) (n : Nat) (f : TslSt → TslSt) (fld : Fld) (i : Nat) : (s.updTsl n f).g fld i = s.g fld i := rfl
@[simp] theorem State.updTsl_gb (s : State) (n : Nat) (f : TslSt → TslSt) (fld : Fld) (i : Nat) : (s.updTsl n f).gb fld i = s.gb fld i := rfl
@[simp] theorem State.updTsl_gi (s : State) (n : Nat) (f : TslSt → TslSt) (fld : Fld) (i : Nat) : (s.updTsl n f).gi fld i = s.gi fld i := rfl

/-! ### `State.updCan` -/

@[simp] theorem State.updCan_now (s : State) (n : Nat) (f : CanSt → CanSt) : (s.updCan n f).now = s.now := rfl
@[simp] theorem State.updCan_t (s : State) (n : Nat) (f : CanSt → CanSt) : (s.updCan n f).t = s.t := rfl
@[simp] theorem State.updCan_fields (s : State) (n : Nat) (f : CanSt → CanSt) : (s.updCan n f).fields = s.fields := rfl
@[simp] theorem State.updCan_sram (s : State) (n : Nat) (f : CanSt → CanSt) : (s.updCan n f).sram = s.sram := rfl
@[simp] theorem State.updCan_nvm (s : State) (n : Nat) (f : CanSt → CanSt) : (s.updCan n f).nvm = s.nvm := rfl
@[simp] theorem State.updCan_free (s : State) (n : Nat) (f : CanSt → CanSt) : (s.updCan n f).free = s.free := rfl
@[simp] theorem State.updCan_wrapped (s : State) (n : Nat) (f : CanSt → CanSt) : (s.updCan n f).wrapped = s.wrapped := rfl
@[simp] theorem State.updCan_adcOn (s : State) (n : Nat) (f : CanSt → CanSt) : (s.updCan n f).adcOn = s.adcOn := rfl
@[simp] theorem State.updCan_k (s : State) (n : Nat) (f : CanSt → CanSt) : (s.updCan n f).k = s.k := rfl
@[simp] theorem State.updCan_bDone (s : State) (n : Nat) (f : CanSt → CanSt) : (s.updCan n f).bDone = s.bDone := rfl
@[simp] theorem State.updCan_kB (s : State) (n : Nat) (f : CanSt → CanSt) : (s.updCan n f).kB = s.kB := rfl
@[simp] theorem State.updCan_s0 (s : State) (n : Nat) (f : CanSt → CanSt) : (s.updCan n f).s0 = s.s0 := rfl
@[simp] theorem State.updCan_staged (s : State) (n : Nat) (f : CanSt → CanSt) : (s.updCan n f).staged = s.staged := rfl
@[simp] theorem State.updCan_overflow (s : State) (n : Nat) (f : CanSt → CanSt) : (s.updCan n f).overflow = s.overflow := rfl
@[simp] theorem State.updCan_commit (s : State) (n : Nat) (f : CanSt → CanSt) : (s.updCan n f).commit = s.commit := rfl
@[simp] theorem State.updCan_epochs (s : State) (n : Nat) (f : CanSt → CanSt) : (s.updCan n f).epochs = s.epochs := rfl
@[simp] theorem State.updCan_latches (s : State) (n : Nat) (f : CanSt → CanSt) : (s.updCan n f).latches = s.latches := rfl
@[simp] theorem State.updCan_prt (s : State) (n : Nat) (f : CanSt → CanSt) : (s.updCan n f).prt = s.prt := rfl
@[simp] theorem State.updCan_exc (s : State) (n : Nat) (f : CanSt → CanSt) : (s.updCan n f).exc = s.exc := rfl
@[simp] theorem State.updCan_acq (s : State) (n : Nat) (f : CanSt → CanSt) : (s.updCan n f).acq = s.acq := rfl
@[simp] theorem State.updCan_obs (s : State) (n : Nat) (f : CanSt → CanSt) : (s.updCan n f).obs = s.obs := rfl
@[simp] theorem State.updCan_div (s : State) (n : Nat) (f : CanSt → CanSt) : (s.updCan n f).div = s.div := rfl
@[simp] theorem State.updCan_cal (s : State) (n : Nat) (f : CanSt → CanSt) : (s.updCan n f).cal = s.cal := rfl
@[simp] theorem State.updCan_calStep (s : State) (n : Nat) (f : CanSt → CanSt) : (s.updCan n f).calStep = s.calStep := rfl
@[simp] theorem State.updCan_calAcc (s : State) (n : Nat) (f : CanSt → CanSt) : (s.updCan n f).calAcc = s.calAcc := rfl
@[simp] theorem State.updCan_swpAcc (s : State) (n : Nat) (f : CanSt → CanSt) : (s.updCan n f).swpAcc = s.swpAcc := rfl
@[simp] theorem State.updCan_obsLim (s : State) (n : Nat) (f : CanSt → CanSt) : (s.updCan n f).obsLim = s.obsLim := rfl
@[simp] theorem State.updCan_sinc (s : State) (n : Nat) (f : CanSt → CanSt) : (s.updCan n f).sinc = s.sinc := rfl
@[simp] theorem State.updCan_tsrc (s : State) (n : Nat) (f : CanSt → CanSt) : (s.updCan n f).tsrc = s.tsrc := rfl
@[simp] theorem State.updCan_safPar (s : State) (n : Nat) (f : CanSt → CanSt) : (s.updCan n f).safPar = s.safPar := rfl
@[simp] theorem State.updCan_permAt (s : State) (n : Nat) (f : CanSt → CanSt) : (s.updCan n f).permAt = s.permAt := rfl
@[simp] theorem State.updCan_stamps (s : State) (n : Nat) (f : CanSt → CanSt) : (s.updCan n f).stamps = s.stamps := rfl
@[simp] theorem State.updCan_lrn (s : State) (n : Nat) (f : CanSt → CanSt) : (s.updCan n f).lrn = s.lrn := rfl
@[simp] theorem State.updCan_nvq (s : State) (n : Nat) (f : CanSt → CanSt) : (s.updCan n f).nvq = s.nvq := rfl
@[simp] theorem State.updCan_nvPorts (s : State) (n : Nat) (f : CanSt → CanSt) : (s.updCan n f).nvPorts = s.nvPorts := rfl
@[simp] theorem State.updCan_nvBuf (s : State) (n : Nat) (f : CanSt → CanSt) : (s.updCan n f).nvBuf = s.nvBuf := rfl
@[simp] theorem State.updCan_dfb (s : State) (n : Nat) (f : CanSt → CanSt) : (s.updCan n f).dfb = s.dfb := rfl
@[simp] theorem State.updCan_emu (s : State) (n : Nat) (f : CanSt → CanSt) : (s.updCan n f).emu = s.emu := rfl
@[simp] theorem State.updCan_emuDrv (s : State) (n : Nat) (f : CanSt → CanSt) : (s.updCan n f).emuDrv = s.emuDrv := rfl
@[simp] theorem State.updCan_blankWin (s : State) (n : Nat) (f : CanSt → CanSt) : (s.updCan n f).blankWin = s.blankWin := rfl
@[simp] theorem State.updCan_obsOld (s : State) (n : Nat) (f : CanSt → CanSt) : (s.updCan n f).obsOld = s.obsOld := rfl
@[simp] theorem State.updCan_slots (s : State) (n : Nat) (f : CanSt → CanSt) : (s.updCan n f).slots = s.slots := rfl
@[simp] theorem State.updCan_copies (s : State) (n : Nat) (f : CanSt → CanSt) : (s.updCan n f).copies = s.copies := rfl
@[simp] theorem State.updCan_pwms (s : State) (n : Nat) (f : CanSt → CanSt) : (s.updCan n f).pwms = s.pwms := rfl
@[simp] theorem State.updCan_gt (s : State) (n : Nat) (f : CanSt → CanSt) : (s.updCan n f).gt = s.gt := rfl
@[simp] theorem State.updCan_stream (s : State) (n : Nat) (f : CanSt → CanSt) : (s.updCan n f).stream = s.stream := rfl
@[simp] theorem State.updCan_geyDrv (s : State) (n : Nat) (f : CanSt → CanSt) : (s.updCan n f).geyDrv = s.geyDrv := rfl
@[simp] theorem State.updCan_vnt (s : State) (n : Nat) (f : CanSt → CanSt) : (s.updCan n f).vnt = s.vnt := rfl
@[simp] theorem State.updCan_ventReq (s : State) (n : Nat) (f : CanSt → CanSt) : (s.updCan n f).ventReq = s.ventReq := rfl
@[simp] theorem State.updCan_inj (s : State) (n : Nat) (f : CanSt → CanSt) : (s.updCan n f).inj = s.inj := rfl
@[simp] theorem State.updCan_injEnd (s : State) (n : Nat) (f : CanSt → CanSt) : (s.updCan n f).injEnd = s.injEnd := rfl
@[simp] theorem State.updCan_poison (s : State) (n : Nat) (f : CanSt → CanSt) : (s.updCan n f).poison = s.poison := rfl
@[simp] theorem State.updCan_ashDue (s : State) (n : Nat) (f : CanSt → CanSt) : (s.updCan n f).ashDue = s.ashDue := rfl
@[simp] theorem State.updCan_tmp (s : State) (n : Nat) (f : CanSt → CanSt) : (s.updCan n f).tmp = s.tmp := rfl
@[simp] theorem State.updCan_tsl (s : State) (n : Nat) (f : CanSt → CanSt) : (s.updCan n f).tsl = s.tsl := rfl
@[simp] theorem State.updCan_pairEnd (s : State) (n : Nat) (f : CanSt → CanSt) : (s.updCan n f).pairEnd = s.pairEnd := rfl
@[simp] theorem State.updCan_tmpFrom (s : State) (n : Nat) (f : CanSt → CanSt) : (s.updCan n f).tmpFrom = s.tmpFrom := rfl
@[simp] theorem State.updCan_actA (s : State) (n : Nat) (f : CanSt → CanSt) : (s.updCan n f).actA = s.actA := rfl
@[simp] theorem State.updCan_actB (s : State) (n : Nat) (f : CanSt → CanSt) : (s.updCan n f).actB = s.actB := rfl
@[simp] theorem State.updCan_axA (s : State) (n : Nat) (f : CanSt → CanSt) : (s.updCan n f).axA = s.axA := rfl
@[simp] theorem State.updCan_axB (s : State) (n : Nat) (f : CanSt → CanSt) : (s.updCan n f).axB = s.axB := rfl
@[simp] theorem State.updCan_siB (s : State) (n : Nat) (f : CanSt → CanSt) : (s.updCan n f).siB = s.siB := rfl
@[simp] theorem State.updCan_discA (s : State) (n : Nat) (f : CanSt → CanSt) : (s.updCan n f).discA = s.discA := rfl
@[simp] theorem State.updCan_discB (s : State) (n : Nat) (f : CanSt → CanSt) : (s.updCan n f).discB = s.discB := rfl
@[simp] theorem State.updCan_latA (s : State) (n : Nat) (f : CanSt → CanSt) : (s.updCan n f).latA = s.latA := rfl
@[simp] theorem State.updCan_latB (s : State) (n : Nat) (f : CanSt → CanSt) : (s.updCan n f).latB = s.latB := rfl
@[simp] theorem State.updCan_keys (s : State) (n : Nat) (f : CanSt → CanSt) : (s.updCan n f).keys = s.keys := rfl
@[simp] theorem State.updCan_xst (s : State) (n : Nat) (f : CanSt → CanSt) : (s.updCan n f).xst = s.xst := rfl
@[simp] theorem State.updCan_appWait (s : State) (n : Nat) (f : CanSt → CanSt) : (s.updCan n f).appWait = s.appWait := rfl
@[simp] theorem State.updCan_ftLat (s : State) (n : Nat) (f : CanSt → CanSt) : (s.updCan n f).ftLat = s.ftLat := rfl
@[simp] theorem State.updCan_susp (s : State) (n : Nat) (f : CanSt → CanSt) : (s.updCan n f).susp = s.susp := rfl
@[simp] theorem State.updCan_gapAt (s : State) (n : Nat) (f : CanSt → CanSt) : (s.updCan n f).gapAt = s.gapAt := rfl
@[simp] theorem State.updCan_smOn (s : State) (n : Nat) (f : CanSt → CanSt) : (s.updCan n f).smOn = s.smOn := rfl
@[simp] theorem State.updCan_conns (s : State) (n : Nat) (f : CanSt → CanSt) : (s.updCan n f).conns = s.conns := rfl
@[simp] theorem State.updCan_canAt (s : State) (n : Nat) (f : CanSt → CanSt) : (s.updCan n f).canAt = s.canAt := rfl
@[simp] theorem State.updCan_canWake (s : State) (n : Nat) (f : CanSt → CanSt) : (s.updCan n f).canWake = s.canWake := rfl
@[simp] theorem State.updCan_flagHist (s : State) (n : Nat) (f : CanSt → CanSt) : (s.updCan n f).flagHist = s.flagHist := rfl
@[simp] theorem State.updCan_chn (s : State) (n : Nat) (f : CanSt → CanSt) : (s.updCan n f).chn = s.chn := rfl
@[simp] theorem State.updCan_twn (s : State) (n : Nat) (f : CanSt → CanSt) : (s.updCan n f).twn = s.twn := rfl
@[simp] theorem State.updCan_rst (s : State) (n : Nat) (f : CanSt → CanSt) : (s.updCan n f).rst = s.rst := rfl
@[simp] theorem State.updCan_snt (s : State) (n : Nat) (f : CanSt → CanSt) : (s.updCan n f).snt = s.snt := rfl
@[simp] theorem State.updCan_tap (s : State) (n : Nat) (f : CanSt → CanSt) : (s.updCan n f).tap = s.tap := rfl
@[simp] theorem State.updCan_host (s : State) (n : Nat) (f : CanSt → CanSt) : (s.updCan n f).host = s.host := rfl
@[simp] theorem State.updCan_pending (s : State) (n : Nat) (f : CanSt → CanSt) : (s.updCan n f).pending = s.pending := rfl
@[simp] theorem State.updCan_outbox (s : State) (n : Nat) (f : CanSt → CanSt) : (s.updCan n f).outbox = s.outbox := rfl
@[simp] theorem State.updCan_g (s : State) (n : Nat) (f : CanSt → CanSt) (fld : Fld) (i : Nat) : (s.updCan n f).g fld i = s.g fld i := rfl
@[simp] theorem State.updCan_gb (s : State) (n : Nat) (f : CanSt → CanSt) (fld : Fld) (i : Nat) : (s.updCan n f).gb fld i = s.gb fld i := rfl
@[simp] theorem State.updCan_gi (s : State) (n : Nat) (f : CanSt → CanSt) (fld : Fld) (i : Nat) : (s.updCan n f).gi fld i = s.gi fld i := rfl

/-! ### `State.updConn` -/

@[simp] theorem State.updConn_now (s : State) (n : Nat) (f : ConnSt → ConnSt) : (s.updConn n f).now = s.now := rfl
@[simp] theorem State.updConn_t (s : State) (n : Nat) (f : ConnSt → ConnSt) : (s.updConn n f).t = s.t := rfl
@[simp] theorem State.updConn_fields (s : State) (n : Nat) (f : ConnSt → ConnSt) : (s.updConn n f).fields = s.fields := rfl
@[simp] theorem State.updConn_sram (s : State) (n : Nat) (f : ConnSt → ConnSt) : (s.updConn n f).sram = s.sram := rfl
@[simp] theorem State.updConn_nvm (s : State) (n : Nat) (f : ConnSt → ConnSt) : (s.updConn n f).nvm = s.nvm := rfl
@[simp] theorem State.updConn_free (s : State) (n : Nat) (f : ConnSt → ConnSt) : (s.updConn n f).free = s.free := rfl
@[simp] theorem State.updConn_wrapped (s : State) (n : Nat) (f : ConnSt → ConnSt) : (s.updConn n f).wrapped = s.wrapped := rfl
@[simp] theorem State.updConn_adcOn (s : State) (n : Nat) (f : ConnSt → ConnSt) : (s.updConn n f).adcOn = s.adcOn := rfl
@[simp] theorem State.updConn_k (s : State) (n : Nat) (f : ConnSt → ConnSt) : (s.updConn n f).k = s.k := rfl
@[simp] theorem State.updConn_bDone (s : State) (n : Nat) (f : ConnSt → ConnSt) : (s.updConn n f).bDone = s.bDone := rfl
@[simp] theorem State.updConn_kB (s : State) (n : Nat) (f : ConnSt → ConnSt) : (s.updConn n f).kB = s.kB := rfl
@[simp] theorem State.updConn_s0 (s : State) (n : Nat) (f : ConnSt → ConnSt) : (s.updConn n f).s0 = s.s0 := rfl
@[simp] theorem State.updConn_staged (s : State) (n : Nat) (f : ConnSt → ConnSt) : (s.updConn n f).staged = s.staged := rfl
@[simp] theorem State.updConn_overflow (s : State) (n : Nat) (f : ConnSt → ConnSt) : (s.updConn n f).overflow = s.overflow := rfl
@[simp] theorem State.updConn_commit (s : State) (n : Nat) (f : ConnSt → ConnSt) : (s.updConn n f).commit = s.commit := rfl
@[simp] theorem State.updConn_epochs (s : State) (n : Nat) (f : ConnSt → ConnSt) : (s.updConn n f).epochs = s.epochs := rfl
@[simp] theorem State.updConn_latches (s : State) (n : Nat) (f : ConnSt → ConnSt) : (s.updConn n f).latches = s.latches := rfl
@[simp] theorem State.updConn_prt (s : State) (n : Nat) (f : ConnSt → ConnSt) : (s.updConn n f).prt = s.prt := rfl
@[simp] theorem State.updConn_exc (s : State) (n : Nat) (f : ConnSt → ConnSt) : (s.updConn n f).exc = s.exc := rfl
@[simp] theorem State.updConn_acq (s : State) (n : Nat) (f : ConnSt → ConnSt) : (s.updConn n f).acq = s.acq := rfl
@[simp] theorem State.updConn_obs (s : State) (n : Nat) (f : ConnSt → ConnSt) : (s.updConn n f).obs = s.obs := rfl
@[simp] theorem State.updConn_div (s : State) (n : Nat) (f : ConnSt → ConnSt) : (s.updConn n f).div = s.div := rfl
@[simp] theorem State.updConn_cal (s : State) (n : Nat) (f : ConnSt → ConnSt) : (s.updConn n f).cal = s.cal := rfl
@[simp] theorem State.updConn_calStep (s : State) (n : Nat) (f : ConnSt → ConnSt) : (s.updConn n f).calStep = s.calStep := rfl
@[simp] theorem State.updConn_calAcc (s : State) (n : Nat) (f : ConnSt → ConnSt) : (s.updConn n f).calAcc = s.calAcc := rfl
@[simp] theorem State.updConn_swpAcc (s : State) (n : Nat) (f : ConnSt → ConnSt) : (s.updConn n f).swpAcc = s.swpAcc := rfl
@[simp] theorem State.updConn_obsLim (s : State) (n : Nat) (f : ConnSt → ConnSt) : (s.updConn n f).obsLim = s.obsLim := rfl
@[simp] theorem State.updConn_sinc (s : State) (n : Nat) (f : ConnSt → ConnSt) : (s.updConn n f).sinc = s.sinc := rfl
@[simp] theorem State.updConn_tsrc (s : State) (n : Nat) (f : ConnSt → ConnSt) : (s.updConn n f).tsrc = s.tsrc := rfl
@[simp] theorem State.updConn_safPar (s : State) (n : Nat) (f : ConnSt → ConnSt) : (s.updConn n f).safPar = s.safPar := rfl
@[simp] theorem State.updConn_permAt (s : State) (n : Nat) (f : ConnSt → ConnSt) : (s.updConn n f).permAt = s.permAt := rfl
@[simp] theorem State.updConn_stamps (s : State) (n : Nat) (f : ConnSt → ConnSt) : (s.updConn n f).stamps = s.stamps := rfl
@[simp] theorem State.updConn_lrn (s : State) (n : Nat) (f : ConnSt → ConnSt) : (s.updConn n f).lrn = s.lrn := rfl
@[simp] theorem State.updConn_nvq (s : State) (n : Nat) (f : ConnSt → ConnSt) : (s.updConn n f).nvq = s.nvq := rfl
@[simp] theorem State.updConn_nvPorts (s : State) (n : Nat) (f : ConnSt → ConnSt) : (s.updConn n f).nvPorts = s.nvPorts := rfl
@[simp] theorem State.updConn_nvBuf (s : State) (n : Nat) (f : ConnSt → ConnSt) : (s.updConn n f).nvBuf = s.nvBuf := rfl
@[simp] theorem State.updConn_dfb (s : State) (n : Nat) (f : ConnSt → ConnSt) : (s.updConn n f).dfb = s.dfb := rfl
@[simp] theorem State.updConn_emu (s : State) (n : Nat) (f : ConnSt → ConnSt) : (s.updConn n f).emu = s.emu := rfl
@[simp] theorem State.updConn_emuDrv (s : State) (n : Nat) (f : ConnSt → ConnSt) : (s.updConn n f).emuDrv = s.emuDrv := rfl
@[simp] theorem State.updConn_blankWin (s : State) (n : Nat) (f : ConnSt → ConnSt) : (s.updConn n f).blankWin = s.blankWin := rfl
@[simp] theorem State.updConn_obsOld (s : State) (n : Nat) (f : ConnSt → ConnSt) : (s.updConn n f).obsOld = s.obsOld := rfl
@[simp] theorem State.updConn_slots (s : State) (n : Nat) (f : ConnSt → ConnSt) : (s.updConn n f).slots = s.slots := rfl
@[simp] theorem State.updConn_copies (s : State) (n : Nat) (f : ConnSt → ConnSt) : (s.updConn n f).copies = s.copies := rfl
@[simp] theorem State.updConn_pwms (s : State) (n : Nat) (f : ConnSt → ConnSt) : (s.updConn n f).pwms = s.pwms := rfl
@[simp] theorem State.updConn_gt (s : State) (n : Nat) (f : ConnSt → ConnSt) : (s.updConn n f).gt = s.gt := rfl
@[simp] theorem State.updConn_stream (s : State) (n : Nat) (f : ConnSt → ConnSt) : (s.updConn n f).stream = s.stream := rfl
@[simp] theorem State.updConn_geyDrv (s : State) (n : Nat) (f : ConnSt → ConnSt) : (s.updConn n f).geyDrv = s.geyDrv := rfl
@[simp] theorem State.updConn_vnt (s : State) (n : Nat) (f : ConnSt → ConnSt) : (s.updConn n f).vnt = s.vnt := rfl
@[simp] theorem State.updConn_ventReq (s : State) (n : Nat) (f : ConnSt → ConnSt) : (s.updConn n f).ventReq = s.ventReq := rfl
@[simp] theorem State.updConn_inj (s : State) (n : Nat) (f : ConnSt → ConnSt) : (s.updConn n f).inj = s.inj := rfl
@[simp] theorem State.updConn_injEnd (s : State) (n : Nat) (f : ConnSt → ConnSt) : (s.updConn n f).injEnd = s.injEnd := rfl
@[simp] theorem State.updConn_poison (s : State) (n : Nat) (f : ConnSt → ConnSt) : (s.updConn n f).poison = s.poison := rfl
@[simp] theorem State.updConn_ashDue (s : State) (n : Nat) (f : ConnSt → ConnSt) : (s.updConn n f).ashDue = s.ashDue := rfl
@[simp] theorem State.updConn_tmp (s : State) (n : Nat) (f : ConnSt → ConnSt) : (s.updConn n f).tmp = s.tmp := rfl
@[simp] theorem State.updConn_tsl (s : State) (n : Nat) (f : ConnSt → ConnSt) : (s.updConn n f).tsl = s.tsl := rfl
@[simp] theorem State.updConn_pairEnd (s : State) (n : Nat) (f : ConnSt → ConnSt) : (s.updConn n f).pairEnd = s.pairEnd := rfl
@[simp] theorem State.updConn_tmpFrom (s : State) (n : Nat) (f : ConnSt → ConnSt) : (s.updConn n f).tmpFrom = s.tmpFrom := rfl
@[simp] theorem State.updConn_actA (s : State) (n : Nat) (f : ConnSt → ConnSt) : (s.updConn n f).actA = s.actA := rfl
@[simp] theorem State.updConn_actB (s : State) (n : Nat) (f : ConnSt → ConnSt) : (s.updConn n f).actB = s.actB := rfl
@[simp] theorem State.updConn_axA (s : State) (n : Nat) (f : ConnSt → ConnSt) : (s.updConn n f).axA = s.axA := rfl
@[simp] theorem State.updConn_axB (s : State) (n : Nat) (f : ConnSt → ConnSt) : (s.updConn n f).axB = s.axB := rfl
@[simp] theorem State.updConn_siB (s : State) (n : Nat) (f : ConnSt → ConnSt) : (s.updConn n f).siB = s.siB := rfl
@[simp] theorem State.updConn_discA (s : State) (n : Nat) (f : ConnSt → ConnSt) : (s.updConn n f).discA = s.discA := rfl
@[simp] theorem State.updConn_discB (s : State) (n : Nat) (f : ConnSt → ConnSt) : (s.updConn n f).discB = s.discB := rfl
@[simp] theorem State.updConn_latA (s : State) (n : Nat) (f : ConnSt → ConnSt) : (s.updConn n f).latA = s.latA := rfl
@[simp] theorem State.updConn_latB (s : State) (n : Nat) (f : ConnSt → ConnSt) : (s.updConn n f).latB = s.latB := rfl
@[simp] theorem State.updConn_keys (s : State) (n : Nat) (f : ConnSt → ConnSt) : (s.updConn n f).keys = s.keys := rfl
@[simp] theorem State.updConn_xst (s : State) (n : Nat) (f : ConnSt → ConnSt) : (s.updConn n f).xst = s.xst := rfl
@[simp] theorem State.updConn_appWait (s : State) (n : Nat) (f : ConnSt → ConnSt) : (s.updConn n f).appWait = s.appWait := rfl
@[simp] theorem State.updConn_ftLat (s : State) (n : Nat) (f : ConnSt → ConnSt) : (s.updConn n f).ftLat = s.ftLat := rfl
@[simp] theorem State.updConn_susp (s : State) (n : Nat) (f : ConnSt → ConnSt) : (s.updConn n f).susp = s.susp := rfl
@[simp] theorem State.updConn_gapAt (s : State) (n : Nat) (f : ConnSt → ConnSt) : (s.updConn n f).gapAt = s.gapAt := rfl
@[simp] theorem State.updConn_smOn (s : State) (n : Nat) (f : ConnSt → ConnSt) : (s.updConn n f).smOn = s.smOn := rfl
@[simp] theorem State.updConn_can (s : State) (n : Nat) (f : ConnSt → ConnSt) : (s.updConn n f).can = s.can := rfl
@[simp] theorem State.updConn_canAt (s : State) (n : Nat) (f : ConnSt → ConnSt) : (s.updConn n f).canAt = s.canAt := rfl
@[simp] theorem State.updConn_canWake (s : State) (n : Nat) (f : ConnSt → ConnSt) : (s.updConn n f).canWake = s.canWake := rfl
@[simp] theorem State.updConn_flagHist (s : State) (n : Nat) (f : ConnSt → ConnSt) : (s.updConn n f).flagHist = s.flagHist := rfl
@[simp] theorem State.updConn_chn (s : State) (n : Nat) (f : ConnSt → ConnSt) : (s.updConn n f).chn = s.chn := rfl
@[simp] theorem State.updConn_twn (s : State) (n : Nat) (f : ConnSt → ConnSt) : (s.updConn n f).twn = s.twn := rfl
@[simp] theorem State.updConn_rst (s : State) (n : Nat) (f : ConnSt → ConnSt) : (s.updConn n f).rst = s.rst := rfl
@[simp] theorem State.updConn_snt (s : State) (n : Nat) (f : ConnSt → ConnSt) : (s.updConn n f).snt = s.snt := rfl
@[simp] theorem State.updConn_tap (s : State) (n : Nat) (f : ConnSt → ConnSt) : (s.updConn n f).tap = s.tap := rfl
@[simp] theorem State.updConn_host (s : State) (n : Nat) (f : ConnSt → ConnSt) : (s.updConn n f).host = s.host := rfl
@[simp] theorem State.updConn_pending (s : State) (n : Nat) (f : ConnSt → ConnSt) : (s.updConn n f).pending = s.pending := rfl
@[simp] theorem State.updConn_outbox (s : State) (n : Nat) (f : ConnSt → ConnSt) : (s.updConn n f).outbox = s.outbox := rfl
@[simp] theorem State.updConn_g (s : State) (n : Nat) (f : ConnSt → ConnSt) (fld : Fld) (i : Nat) : (s.updConn n f).g fld i = s.g fld i := rfl
@[simp] theorem State.updConn_gb (s : State) (n : Nat) (f : ConnSt → ConnSt) (fld : Fld) (i : Nat) : (s.updConn n f).gb fld i = s.gb fld i := rfl
@[simp] theorem State.updConn_gi (s : State) (n : Nat) (f : ConnSt → ConnSt) (fld : Fld) (i : Nat) : (s.updConn n f).gi fld i = s.gi fld i := rfl

/-! ### `State.updChn` -/

@[simp] theorem State.updChn_now (s : State) (f : ChnSt → ChnSt) : (s.updChn f).now = s.now := rfl
@[simp] theorem State.updChn_t (s : State) (f : ChnSt → ChnSt) : (s.updChn f).t = s.t := rfl
@[simp] theorem State.updChn_fields (s : State) (f : ChnSt → ChnSt) : (s.updChn f).fields = s.fields := rfl
@[simp] theorem State.updChn_sram (s : State) (f : ChnSt → ChnSt) : (s.updChn f).sram = s.sram := rfl
@[simp] theorem State.updChn_nvm (s : State) (f : ChnSt → ChnSt) : (s.updChn f).nvm = s.nvm := rfl
@[simp] theorem State.updChn_free (s : State) (f : ChnSt → ChnSt) : (s.updChn f).free = s.free := rfl
@[simp] theorem State.updChn_wrapped (s : State) (f : ChnSt → ChnSt) : (s.updChn f).wrapped = s.wrapped := rfl
@[simp] theorem State.updChn_adcOn (s : State) (f : ChnSt → ChnSt) : (s.updChn f).adcOn = s.adcOn := rfl
@[simp] theorem State.updChn_k (s : State) (f : ChnSt → ChnSt) : (s.updChn f).k = s.k := rfl
@[simp] theorem State.updChn_bDone (s : State) (f : ChnSt → ChnSt) : (s.updChn f).bDone = s.bDone := rfl
@[simp] theorem State.updChn_kB (s : State) (f : ChnSt → ChnSt) : (s.updChn f).kB = s.kB := rfl
@[simp] theorem State.updChn_s0 (s : State) (f : ChnSt → ChnSt) : (s.updChn f).s0 = s.s0 := rfl
@[simp] theorem State.updChn_staged (s : State) (f : ChnSt → ChnSt) : (s.updChn f).staged = s.staged := rfl
@[simp] theorem State.updChn_overflow (s : State) (f : ChnSt → ChnSt) : (s.updChn f).overflow = s.overflow := rfl
@[simp] theorem State.updChn_commit (s : State) (f : ChnSt → ChnSt) : (s.updChn f).commit = s.commit := rfl
@[simp] theorem State.updChn_epochs (s : State) (f : ChnSt → ChnSt) : (s.updChn f).epochs = s.epochs := rfl
@[simp] theorem State.updChn_latches (s : State) (f : ChnSt → ChnSt) : (s.updChn f).latches = s.latches := rfl
@[simp] theorem State.updChn_prt (s : State) (f : ChnSt → ChnSt) : (s.updChn f).prt = s.prt := rfl
@[simp] theorem State.updChn_exc (s : State) (f : ChnSt → ChnSt) : (s.updChn f).exc = s.exc := rfl
@[simp] theorem State.updChn_acq (s : State) (f : ChnSt → ChnSt) : (s.updChn f).acq = s.acq := rfl
@[simp] theorem State.updChn_obs (s : State) (f : ChnSt → ChnSt) : (s.updChn f).obs = s.obs := rfl
@[simp] theorem State.updChn_div (s : State) (f : ChnSt → ChnSt) : (s.updChn f).div = s.div := rfl
@[simp] theorem State.updChn_cal (s : State) (f : ChnSt → ChnSt) : (s.updChn f).cal = s.cal := rfl
@[simp] theorem State.updChn_calStep (s : State) (f : ChnSt → ChnSt) : (s.updChn f).calStep = s.calStep := rfl
@[simp] theorem State.updChn_calAcc (s : State) (f : ChnSt → ChnSt) : (s.updChn f).calAcc = s.calAcc := rfl
@[simp] theorem State.updChn_swpAcc (s : State) (f : ChnSt → ChnSt) : (s.updChn f).swpAcc = s.swpAcc := rfl
@[simp] theorem State.updChn_obsLim (s : State) (f : ChnSt → ChnSt) : (s.updChn f).obsLim = s.obsLim := rfl
@[simp] theorem State.updChn_sinc (s : State) (f : ChnSt → ChnSt) : (s.updChn f).sinc = s.sinc := rfl
@[simp] theorem State.updChn_tsrc (s : State) (f : ChnSt → ChnSt) : (s.updChn f).tsrc = s.tsrc := rfl
@[simp] theorem State.updChn_safPar (s : State) (f : ChnSt → ChnSt) : (s.updChn f).safPar = s.safPar := rfl
@[simp] theorem State.updChn_permAt (s : State) (f : ChnSt → ChnSt) : (s.updChn f).permAt = s.permAt := rfl
@[simp] theorem State.updChn_stamps (s : State) (f : ChnSt → ChnSt) : (s.updChn f).stamps = s.stamps := rfl
@[simp] theorem State.updChn_lrn (s : State) (f : ChnSt → ChnSt) : (s.updChn f).lrn = s.lrn := rfl
@[simp] theorem State.updChn_nvq (s : State) (f : ChnSt → ChnSt) : (s.updChn f).nvq = s.nvq := rfl
@[simp] theorem State.updChn_nvPorts (s : State) (f : ChnSt → ChnSt) : (s.updChn f).nvPorts = s.nvPorts := rfl
@[simp] theorem State.updChn_nvBuf (s : State) (f : ChnSt → ChnSt) : (s.updChn f).nvBuf = s.nvBuf := rfl
@[simp] theorem State.updChn_dfb (s : State) (f : ChnSt → ChnSt) : (s.updChn f).dfb = s.dfb := rfl
@[simp] theorem State.updChn_emu (s : State) (f : ChnSt → ChnSt) : (s.updChn f).emu = s.emu := rfl
@[simp] theorem State.updChn_emuDrv (s : State) (f : ChnSt → ChnSt) : (s.updChn f).emuDrv = s.emuDrv := rfl
@[simp] theorem State.updChn_blankWin (s : State) (f : ChnSt → ChnSt) : (s.updChn f).blankWin = s.blankWin := rfl
@[simp] theorem State.updChn_obsOld (s : State) (f : ChnSt → ChnSt) : (s.updChn f).obsOld = s.obsOld := rfl
@[simp] theorem State.updChn_slots (s : State) (f : ChnSt → ChnSt) : (s.updChn f).slots = s.slots := rfl
@[simp] theorem State.updChn_copies (s : State) (f : ChnSt → ChnSt) : (s.updChn f).copies = s.copies := rfl
@[simp] theorem State.updChn_pwms (s : State) (f : ChnSt → ChnSt) : (s.updChn f).pwms = s.pwms := rfl
@[simp] theorem State.updChn_gt (s : State) (f : ChnSt → ChnSt) : (s.updChn f).gt = s.gt := rfl
@[simp] theorem State.updChn_stream (s : State) (f : ChnSt → ChnSt) : (s.updChn f).stream = s.stream := rfl
@[simp] theorem State.updChn_geyDrv (s : State) (f : ChnSt → ChnSt) : (s.updChn f).geyDrv = s.geyDrv := rfl
@[simp] theorem State.updChn_vnt (s : State) (f : ChnSt → ChnSt) : (s.updChn f).vnt = s.vnt := rfl
@[simp] theorem State.updChn_ventReq (s : State) (f : ChnSt → ChnSt) : (s.updChn f).ventReq = s.ventReq := rfl
@[simp] theorem State.updChn_inj (s : State) (f : ChnSt → ChnSt) : (s.updChn f).inj = s.inj := rfl
@[simp] theorem State.updChn_injEnd (s : State) (f : ChnSt → ChnSt) : (s.updChn f).injEnd = s.injEnd := rfl
@[simp] theorem State.updChn_poison (s : State) (f : ChnSt → ChnSt) : (s.updChn f).poison = s.poison := rfl
@[simp] theorem State.updChn_ashDue (s : State) (f : ChnSt → ChnSt) : (s.updChn f).ashDue = s.ashDue := rfl
@[simp] theorem State.updChn_tmp (s : State) (f : ChnSt → ChnSt) : (s.updChn f).tmp = s.tmp := rfl
@[simp] theorem State.updChn_tsl (s : State) (f : ChnSt → ChnSt) : (s.updChn f).tsl = s.tsl := rfl
@[simp] theorem State.updChn_pairEnd (s : State) (f : ChnSt → ChnSt) : (s.updChn f).pairEnd = s.pairEnd := rfl
@[simp] theorem State.updChn_tmpFrom (s : State) (f : ChnSt → ChnSt) : (s.updChn f).tmpFrom = s.tmpFrom := rfl
@[simp] theorem State.updChn_actA (s : State) (f : ChnSt → ChnSt) : (s.updChn f).actA = s.actA := rfl
@[simp] theorem State.updChn_actB (s : State) (f : ChnSt → ChnSt) : (s.updChn f).actB = s.actB := rfl
@[simp] theorem State.updChn_axA (s : State) (f : ChnSt → ChnSt) : (s.updChn f).axA = s.axA := rfl
@[simp] theorem State.updChn_axB (s : State) (f : ChnSt → ChnSt) : (s.updChn f).axB = s.axB := rfl
@[simp] theorem State.updChn_siB (s : State) (f : ChnSt → ChnSt) : (s.updChn f).siB = s.siB := rfl
@[simp] theorem State.updChn_discA (s : State) (f : ChnSt → ChnSt) : (s.updChn f).discA = s.discA := rfl
@[simp] theorem State.updChn_discB (s : State) (f : ChnSt → ChnSt) : (s.updChn f).discB = s.discB := rfl
@[simp] theorem State.updChn_latA (s : State) (f : ChnSt → ChnSt) : (s.updChn f).latA = s.latA := rfl
@[simp] theorem State.updChn_latB (s : State) (f : ChnSt → ChnSt) : (s.updChn f).latB = s.latB := rfl
@[simp] theorem State.updChn_keys (s : State) (f : ChnSt → ChnSt) : (s.updChn f).keys = s.keys := rfl
@[simp] theorem State.updChn_xst (s : State) (f : ChnSt → ChnSt) : (s.updChn f).xst = s.xst := rfl
@[simp] theorem State.updChn_appWait (s : State) (f : ChnSt → ChnSt) : (s.updChn f).appWait = s.appWait := rfl
@[simp] theorem State.updChn_ftLat (s : State) (f : ChnSt → ChnSt) : (s.updChn f).ftLat = s.ftLat := rfl
@[simp] theorem State.updChn_susp (s : State) (f : ChnSt → ChnSt) : (s.updChn f).susp = s.susp := rfl
@[simp] theorem State.updChn_gapAt (s : State) (f : ChnSt → ChnSt) : (s.updChn f).gapAt = s.gapAt := rfl
@[simp] theorem State.updChn_smOn (s : State) (f : ChnSt → ChnSt) : (s.updChn f).smOn = s.smOn := rfl
@[simp] theorem State.updChn_conns (s : State) (f : ChnSt → ChnSt) : (s.updChn f).conns = s.conns := rfl
@[simp] theorem State.updChn_can (s : State) (f : ChnSt → ChnSt) : (s.updChn f).can = s.can := rfl
@[simp] theorem State.updChn_canAt (s : State) (f : ChnSt → ChnSt) : (s.updChn f).canAt = s.canAt := rfl
@[simp] theorem State.updChn_canWake (s : State) (f : ChnSt → ChnSt) : (s.updChn f).canWake = s.canWake := rfl
@[simp] theorem State.updChn_flagHist (s : State) (f : ChnSt → ChnSt) : (s.updChn f).flagHist = s.flagHist := rfl
@[simp] theorem State.updChn_twn (s : State) (f : ChnSt → ChnSt) : (s.updChn f).twn = s.twn := rfl
@[simp] theorem State.updChn_rst (s : State) (f : ChnSt → ChnSt) : (s.updChn f).rst = s.rst := rfl
@[simp] theorem State.updChn_snt (s : State) (f : ChnSt → ChnSt) : (s.updChn f).snt = s.snt := rfl
@[simp] theorem State.updChn_tap (s : State) (f : ChnSt → ChnSt) : (s.updChn f).tap = s.tap := rfl
@[simp] theorem State.updChn_host (s : State) (f : ChnSt → ChnSt) : (s.updChn f).host = s.host := rfl
@[simp] theorem State.updChn_pending (s : State) (f : ChnSt → ChnSt) : (s.updChn f).pending = s.pending := rfl
@[simp] theorem State.updChn_outbox (s : State) (f : ChnSt → ChnSt) : (s.updChn f).outbox = s.outbox := rfl
@[simp] theorem State.updChn_g (s : State) (f : ChnSt → ChnSt) (fld : Fld) (i : Nat) : (s.updChn f).g fld i = s.g fld i := rfl
@[simp] theorem State.updChn_gb (s : State) (f : ChnSt → ChnSt) (fld : Fld) (i : Nat) : (s.updChn f).gb fld i = s.gb fld i := rfl
@[simp] theorem State.updChn_gi (s : State) (f : ChnSt → ChnSt) (fld : Fld) (i : Nat) : (s.updChn f).gi fld i = s.gi fld i := rfl

/-! ### `State.updTwn` -/

@[simp] theorem State.updTwn_now (s : State) (f : TwnSt → TwnSt) : (s.updTwn f).now = s.now := rfl
@[simp] theorem State.updTwn_t (s : State) (f : TwnSt → TwnSt) : (s.updTwn f).t = s.t := rfl
@[simp] theorem State.updTwn_fields (s : State) (f : TwnSt → TwnSt) : (s.updTwn f).fields = s.fields := rfl
@[simp] theorem State.updTwn_sram (s : State) (f : TwnSt → TwnSt) : (s.updTwn f).sram = s.sram := rfl
@[simp] theorem State.updTwn_nvm (s : State) (f : TwnSt → TwnSt) : (s.updTwn f).nvm = s.nvm := rfl
@[simp] theorem State.updTwn_free (s : State) (f : TwnSt → TwnSt) : (s.updTwn f).free = s.free := rfl
@[simp] theorem State.updTwn_wrapped (s : State) (f : TwnSt → TwnSt) : (s.updTwn f).wrapped = s.wrapped := rfl
@[simp] theorem State.updTwn_adcOn (s : State) (f : TwnSt → TwnSt) : (s.updTwn f).adcOn = s.adcOn := rfl
@[simp] theorem State.updTwn_k (s : State) (f : TwnSt → TwnSt) : (s.updTwn f).k = s.k := rfl
@[simp] theorem State.updTwn_bDone (s : State) (f : TwnSt → TwnSt) : (s.updTwn f).bDone = s.bDone := rfl
@[simp] theorem State.updTwn_kB (s : State) (f : TwnSt → TwnSt) : (s.updTwn f).kB = s.kB := rfl
@[simp] theorem State.updTwn_s0 (s : State) (f : TwnSt → TwnSt) : (s.updTwn f).s0 = s.s0 := rfl
@[simp] theorem State.updTwn_staged (s : State) (f : TwnSt → TwnSt) : (s.updTwn f).staged = s.staged := rfl
@[simp] theorem State.updTwn_overflow (s : State) (f : TwnSt → TwnSt) : (s.updTwn f).overflow = s.overflow := rfl
@[simp] theorem State.updTwn_commit (s : State) (f : TwnSt → TwnSt) : (s.updTwn f).commit = s.commit := rfl
@[simp] theorem State.updTwn_epochs (s : State) (f : TwnSt → TwnSt) : (s.updTwn f).epochs = s.epochs := rfl
@[simp] theorem State.updTwn_latches (s : State) (f : TwnSt → TwnSt) : (s.updTwn f).latches = s.latches := rfl
@[simp] theorem State.updTwn_prt (s : State) (f : TwnSt → TwnSt) : (s.updTwn f).prt = s.prt := rfl
@[simp] theorem State.updTwn_exc (s : State) (f : TwnSt → TwnSt) : (s.updTwn f).exc = s.exc := rfl
@[simp] theorem State.updTwn_acq (s : State) (f : TwnSt → TwnSt) : (s.updTwn f).acq = s.acq := rfl
@[simp] theorem State.updTwn_obs (s : State) (f : TwnSt → TwnSt) : (s.updTwn f).obs = s.obs := rfl
@[simp] theorem State.updTwn_div (s : State) (f : TwnSt → TwnSt) : (s.updTwn f).div = s.div := rfl
@[simp] theorem State.updTwn_cal (s : State) (f : TwnSt → TwnSt) : (s.updTwn f).cal = s.cal := rfl
@[simp] theorem State.updTwn_calStep (s : State) (f : TwnSt → TwnSt) : (s.updTwn f).calStep = s.calStep := rfl
@[simp] theorem State.updTwn_calAcc (s : State) (f : TwnSt → TwnSt) : (s.updTwn f).calAcc = s.calAcc := rfl
@[simp] theorem State.updTwn_swpAcc (s : State) (f : TwnSt → TwnSt) : (s.updTwn f).swpAcc = s.swpAcc := rfl
@[simp] theorem State.updTwn_obsLim (s : State) (f : TwnSt → TwnSt) : (s.updTwn f).obsLim = s.obsLim := rfl
@[simp] theorem State.updTwn_sinc (s : State) (f : TwnSt → TwnSt) : (s.updTwn f).sinc = s.sinc := rfl
@[simp] theorem State.updTwn_tsrc (s : State) (f : TwnSt → TwnSt) : (s.updTwn f).tsrc = s.tsrc := rfl
@[simp] theorem State.updTwn_safPar (s : State) (f : TwnSt → TwnSt) : (s.updTwn f).safPar = s.safPar := rfl
@[simp] theorem State.updTwn_permAt (s : State) (f : TwnSt → TwnSt) : (s.updTwn f).permAt = s.permAt := rfl
@[simp] theorem State.updTwn_stamps (s : State) (f : TwnSt → TwnSt) : (s.updTwn f).stamps = s.stamps := rfl
@[simp] theorem State.updTwn_lrn (s : State) (f : TwnSt → TwnSt) : (s.updTwn f).lrn = s.lrn := rfl
@[simp] theorem State.updTwn_nvq (s : State) (f : TwnSt → TwnSt) : (s.updTwn f).nvq = s.nvq := rfl
@[simp] theorem State.updTwn_nvPorts (s : State) (f : TwnSt → TwnSt) : (s.updTwn f).nvPorts = s.nvPorts := rfl
@[simp] theorem State.updTwn_nvBuf (s : State) (f : TwnSt → TwnSt) : (s.updTwn f).nvBuf = s.nvBuf := rfl
@[simp] theorem State.updTwn_dfb (s : State) (f : TwnSt → TwnSt) : (s.updTwn f).dfb = s.dfb := rfl
@[simp] theorem State.updTwn_emu (s : State) (f : TwnSt → TwnSt) : (s.updTwn f).emu = s.emu := rfl
@[simp] theorem State.updTwn_emuDrv (s : State) (f : TwnSt → TwnSt) : (s.updTwn f).emuDrv = s.emuDrv := rfl
@[simp] theorem State.updTwn_blankWin (s : State) (f : TwnSt → TwnSt) : (s.updTwn f).blankWin = s.blankWin := rfl
@[simp] theorem State.updTwn_obsOld (s : State) (f : TwnSt → TwnSt) : (s.updTwn f).obsOld = s.obsOld := rfl
@[simp] theorem State.updTwn_slots (s : State) (f : TwnSt → TwnSt) : (s.updTwn f).slots = s.slots := rfl
@[simp] theorem State.updTwn_copies (s : State) (f : TwnSt → TwnSt) : (s.updTwn f).copies = s.copies := rfl
@[simp] theorem State.updTwn_pwms (s : State) (f : TwnSt → TwnSt) : (s.updTwn f).pwms = s.pwms := rfl
@[simp] theorem State.updTwn_gt (s : State) (f : TwnSt → TwnSt) : (s.updTwn f).gt = s.gt := rfl
@[simp] theorem State.updTwn_stream (s : State) (f : TwnSt → TwnSt) : (s.updTwn f).stream = s.stream := rfl
@[simp] theorem State.updTwn_geyDrv (s : State) (f : TwnSt → TwnSt) : (s.updTwn f).geyDrv = s.geyDrv := rfl
@[simp] theorem State.updTwn_vnt (s : State) (f : TwnSt → TwnSt) : (s.updTwn f).vnt = s.vnt := rfl
@[simp] theorem State.updTwn_ventReq (s : State) (f : TwnSt → TwnSt) : (s.updTwn f).ventReq = s.ventReq := rfl
@[simp] theorem State.updTwn_inj (s : State) (f : TwnSt → TwnSt) : (s.updTwn f).inj = s.inj := rfl
@[simp] theorem State.updTwn_injEnd (s : State) (f : TwnSt → TwnSt) : (s.updTwn f).injEnd = s.injEnd := rfl
@[simp] theorem State.updTwn_poison (s : State) (f : TwnSt → TwnSt) : (s.updTwn f).poison = s.poison := rfl
@[simp] theorem State.updTwn_ashDue (s : State) (f : TwnSt → TwnSt) : (s.updTwn f).ashDue = s.ashDue := rfl
@[simp] theorem State.updTwn_tmp (s : State) (f : TwnSt → TwnSt) : (s.updTwn f).tmp = s.tmp := rfl
@[simp] theorem State.updTwn_tsl (s : State) (f : TwnSt → TwnSt) : (s.updTwn f).tsl = s.tsl := rfl
@[simp] theorem State.updTwn_pairEnd (s : State) (f : TwnSt → TwnSt) : (s.updTwn f).pairEnd = s.pairEnd := rfl
@[simp] theorem State.updTwn_tmpFrom (s : State) (f : TwnSt → TwnSt) : (s.updTwn f).tmpFrom = s.tmpFrom := rfl
@[simp] theorem State.updTwn_actA (s : State) (f : TwnSt → TwnSt) : (s.updTwn f).actA = s.actA := rfl
@[simp] theorem State.updTwn_actB (s : State) (f : TwnSt → TwnSt) : (s.updTwn f).actB = s.actB := rfl
@[simp] theorem State.updTwn_axA (s : State) (f : TwnSt → TwnSt) : (s.updTwn f).axA = s.axA := rfl
@[simp] theorem State.updTwn_axB (s : State) (f : TwnSt → TwnSt) : (s.updTwn f).axB = s.axB := rfl
@[simp] theorem State.updTwn_siB (s : State) (f : TwnSt → TwnSt) : (s.updTwn f).siB = s.siB := rfl
@[simp] theorem State.updTwn_discA (s : State) (f : TwnSt → TwnSt) : (s.updTwn f).discA = s.discA := rfl
@[simp] theorem State.updTwn_discB (s : State) (f : TwnSt → TwnSt) : (s.updTwn f).discB = s.discB := rfl
@[simp] theorem State.updTwn_latA (s : State) (f : TwnSt → TwnSt) : (s.updTwn f).latA = s.latA := rfl
@[simp] theorem State.updTwn_latB (s : State) (f : TwnSt → TwnSt) : (s.updTwn f).latB = s.latB := rfl
@[simp] theorem State.updTwn_keys (s : State) (f : TwnSt → TwnSt) : (s.updTwn f).keys = s.keys := rfl
@[simp] theorem State.updTwn_xst (s : State) (f : TwnSt → TwnSt) : (s.updTwn f).xst = s.xst := rfl
@[simp] theorem State.updTwn_appWait (s : State) (f : TwnSt → TwnSt) : (s.updTwn f).appWait = s.appWait := rfl
@[simp] theorem State.updTwn_ftLat (s : State) (f : TwnSt → TwnSt) : (s.updTwn f).ftLat = s.ftLat := rfl
@[simp] theorem State.updTwn_susp (s : State) (f : TwnSt → TwnSt) : (s.updTwn f).susp = s.susp := rfl
@[simp] theorem State.updTwn_gapAt (s : State) (f : TwnSt → TwnSt) : (s.updTwn f).gapAt = s.gapAt := rfl
@[simp] theorem State.updTwn_smOn (s : State) (f : TwnSt → TwnSt) : (s.updTwn f).smOn = s.smOn := rfl
@[simp] theorem State.updTwn_conns (s : State) (f : TwnSt → TwnSt) : (s.updTwn f).conns = s.conns := rfl
@[simp] theorem State.updTwn_can (s : State) (f : TwnSt → TwnSt) : (s.updTwn f).can = s.can := rfl
@[simp] theorem State.updTwn_canAt (s : State) (f : TwnSt → TwnSt) : (s.updTwn f).canAt = s.canAt := rfl
@[simp] theorem State.updTwn_canWake (s : State) (f : TwnSt → TwnSt) : (s.updTwn f).canWake = s.canWake := rfl
@[simp] theorem State.updTwn_flagHist (s : State) (f : TwnSt → TwnSt) : (s.updTwn f).flagHist = s.flagHist := rfl
@[simp] theorem State.updTwn_chn (s : State) (f : TwnSt → TwnSt) : (s.updTwn f).chn = s.chn := rfl
@[simp] theorem State.updTwn_rst (s : State) (f : TwnSt → TwnSt) : (s.updTwn f).rst = s.rst := rfl
@[simp] theorem State.updTwn_snt (s : State) (f : TwnSt → TwnSt) : (s.updTwn f).snt = s.snt := rfl
@[simp] theorem State.updTwn_tap (s : State) (f : TwnSt → TwnSt) : (s.updTwn f).tap = s.tap := rfl
@[simp] theorem State.updTwn_host (s : State) (f : TwnSt → TwnSt) : (s.updTwn f).host = s.host := rfl
@[simp] theorem State.updTwn_pending (s : State) (f : TwnSt → TwnSt) : (s.updTwn f).pending = s.pending := rfl
@[simp] theorem State.updTwn_outbox (s : State) (f : TwnSt → TwnSt) : (s.updTwn f).outbox = s.outbox := rfl
@[simp] theorem State.updTwn_g (s : State) (f : TwnSt → TwnSt) (fld : Fld) (i : Nat) : (s.updTwn f).g fld i = s.g fld i := rfl
@[simp] theorem State.updTwn_gb (s : State) (f : TwnSt → TwnSt) (fld : Fld) (i : Nat) : (s.updTwn f).gb fld i = s.gb fld i := rfl
@[simp] theorem State.updTwn_gi (s : State) (f : TwnSt → TwnSt) (fld : Fld) (i : Nat) : (s.updTwn f).gi fld i = s.gi fld i := rfl

/-! ### `State.updRst` -/

@[simp] theorem State.updRst_now (s : State) (f : RstSt → RstSt) : (s.updRst f).now = s.now := rfl
@[simp] theorem State.updRst_t (s : State) (f : RstSt → RstSt) : (s.updRst f).t = s.t := rfl
@[simp] theorem State.updRst_fields (s : State) (f : RstSt → RstSt) : (s.updRst f).fields = s.fields := rfl
@[simp] theorem State.updRst_sram (s : State) (f : RstSt → RstSt) : (s.updRst f).sram = s.sram := rfl
@[simp] theorem State.updRst_nvm (s : State) (f : RstSt → RstSt) : (s.updRst f).nvm = s.nvm := rfl
@[simp] theorem State.updRst_free (s : State) (f : RstSt → RstSt) : (s.updRst f).free = s.free := rfl
@[simp] theorem State.updRst_wrapped (s : State) (f : RstSt → RstSt) : (s.updRst f).wrapped = s.wrapped := rfl
@[simp] theorem State.updRst_adcOn (s : State) (f : RstSt → RstSt) : (s.updRst f).adcOn = s.adcOn := rfl
@[simp] theorem State.updRst_k (s : State) (f : RstSt → RstSt) : (s.updRst f).k = s.k := rfl
@[simp] theorem State.updRst_bDone (s : State) (f : RstSt → RstSt) : (s.updRst f).bDone = s.bDone := rfl
@[simp] theorem State.updRst_kB (s : State) (f : RstSt → RstSt) : (s.updRst f).kB = s.kB := rfl
@[simp] theorem State.updRst_s0 (s : State) (f : RstSt → RstSt) : (s.updRst f).s0 = s.s0 := rfl
@[simp] theorem State.updRst_staged (s : State) (f : RstSt → RstSt) : (s.updRst f).staged = s.staged := rfl
@[simp] theorem State.updRst_overflow (s : State) (f : RstSt → RstSt) : (s.updRst f).overflow = s.overflow := rfl
@[simp] theorem State.updRst_commit (s : State) (f : RstSt → RstSt) : (s.updRst f).commit = s.commit := rfl
@[simp] theorem State.updRst_epochs (s : State) (f : RstSt → RstSt) : (s.updRst f).epochs = s.epochs := rfl
@[simp] theorem State.updRst_latches (s : State) (f : RstSt → RstSt) : (s.updRst f).latches = s.latches := rfl
@[simp] theorem State.updRst_prt (s : State) (f : RstSt → RstSt) : (s.updRst f).prt = s.prt := rfl
@[simp] theorem State.updRst_exc (s : State) (f : RstSt → RstSt) : (s.updRst f).exc = s.exc := rfl
@[simp] theorem State.updRst_acq (s : State) (f : RstSt → RstSt) : (s.updRst f).acq = s.acq := rfl
@[simp] theorem State.updRst_obs (s : State) (f : RstSt → RstSt) : (s.updRst f).obs = s.obs := rfl
@[simp] theorem State.updRst_div (s : State) (f : RstSt → RstSt) : (s.updRst f).div = s.div := rfl
@[simp] theorem State.updRst_cal (s : State) (f : RstSt → RstSt) : (s.updRst f).cal = s.cal := rfl
@[simp] theorem State.updRst_calStep (s : State) (f : RstSt → RstSt) : (s.updRst f).calStep = s.calStep := rfl
@[simp] theorem State.updRst_calAcc (s : State) (f : RstSt → RstSt) : (s.updRst f).calAcc = s.calAcc := rfl
@[simp] theorem State.updRst_swpAcc (s : State) (f : RstSt → RstSt) : (s.updRst f).swpAcc = s.swpAcc := rfl
@[simp] theorem State.updRst_obsLim (s : State) (f : RstSt → RstSt) : (s.updRst f).obsLim = s.obsLim := rfl
@[simp] theorem State.updRst_sinc (s : State) (f : RstSt → RstSt) : (s.updRst f).sinc = s.sinc := rfl
@[simp] theorem State.updRst_tsrc (s : State) (f : RstSt → RstSt) : (s.updRst f).tsrc = s.tsrc := rfl
@[simp] theorem State.updRst_safPar (s : State) (f : RstSt → RstSt) : (s.updRst f).safPar = s.safPar := rfl
@[simp] theorem State.updRst_permAt (s : State) (f : RstSt → RstSt) : (s.updRst f).permAt = s.permAt := rfl
@[simp] theorem State.updRst_stamps (s : State) (f : RstSt → RstSt) : (s.updRst f).stamps = s.stamps := rfl
@[simp] theorem State.updRst_lrn (s : State) (f : RstSt → RstSt) : (s.updRst f).lrn = s.lrn := rfl
@[simp] theorem State.updRst_nvq (s : State) (f : RstSt → RstSt) : (s.updRst f).nvq = s.nvq := rfl
@[simp] theorem State.updRst_nvPorts (s : State) (f : RstSt → RstSt) : (s.updRst f).nvPorts = s.nvPorts := rfl
@[simp] theorem State.updRst_nvBuf (s : State) (f : RstSt → RstSt) : (s.updRst f).nvBuf = s.nvBuf := rfl
@[simp] theorem State.updRst_dfb (s : State) (f : RstSt → RstSt) : (s.updRst f).dfb = s.dfb := rfl
@[simp] theorem State.updRst_emu (s : State) (f : RstSt → RstSt) : (s.updRst f).emu = s.emu := rfl
@[simp] theorem State.updRst_emuDrv (s : State) (f : RstSt → RstSt) : (s.updRst f).emuDrv = s.emuDrv := rfl
@[simp] theorem State.updRst_blankWin (s : State) (f : RstSt → RstSt) : (s.updRst f).blankWin = s.blankWin := rfl
@[simp] theorem State.updRst_obsOld (s : State) (f : RstSt → RstSt) : (s.updRst f).obsOld = s.obsOld := rfl
@[simp] theorem State.updRst_slots (s : State) (f : RstSt → RstSt) : (s.updRst f).slots = s.slots := rfl
@[simp] theorem State.updRst_copies (s : State) (f : RstSt → RstSt) : (s.updRst f).copies = s.copies := rfl
@[simp] theorem State.updRst_pwms (s : State) (f : RstSt → RstSt) : (s.updRst f).pwms = s.pwms := rfl
@[simp] theorem State.updRst_gt (s : State) (f : RstSt → RstSt) : (s.updRst f).gt = s.gt := rfl
@[simp] theorem State.updRst_stream (s : State) (f : RstSt → RstSt) : (s.updRst f).stream = s.stream := rfl
@[simp] theorem State.updRst_geyDrv (s : State) (f : RstSt → RstSt) : (s.updRst f).geyDrv = s.geyDrv := rfl
@[simp] theorem State.updRst_vnt (s : State) (f : RstSt → RstSt) : (s.updRst f).vnt = s.vnt := rfl
@[simp] theorem State.updRst_ventReq (s : State) (f : RstSt → RstSt) : (s.updRst f).ventReq = s.ventReq := rfl
@[simp] theorem State.updRst_inj (s : State) (f : RstSt → RstSt) : (s.updRst f).inj = s.inj := rfl
@[simp] theorem State.updRst_injEnd (s : State) (f : RstSt → RstSt) : (s.updRst f).injEnd = s.injEnd := rfl
@[simp] theorem State.updRst_poison (s : State) (f : RstSt → RstSt) : (s.updRst f).poison = s.poison := rfl
@[simp] theorem State.updRst_ashDue (s : State) (f : RstSt → RstSt) : (s.updRst f).ashDue = s.ashDue := rfl
@[simp] theorem State.updRst_tmp (s : State) (f : RstSt → RstSt) : (s.updRst f).tmp = s.tmp := rfl
@[simp] theorem State.updRst_tsl (s : State) (f : RstSt → RstSt) : (s.updRst f).tsl = s.tsl := rfl
@[simp] theorem State.updRst_pairEnd (s : State) (f : RstSt → RstSt) : (s.updRst f).pairEnd = s.pairEnd := rfl
@[simp] theorem State.updRst_tmpFrom (s : State) (f : RstSt → RstSt) : (s.updRst f).tmpFrom = s.tmpFrom := rfl
@[simp] theorem State.updRst_actA (s : State) (f : RstSt → RstSt) : (s.updRst f).actA = s.actA := rfl
@[simp] theorem State.updRst_actB (s : State) (f : RstSt → RstSt) : (s.updRst f).actB = s.actB := rfl
@[simp] theorem State.updRst_axA (s : State) (f : RstSt → RstSt) : (s.updRst f).axA = s.axA := rfl
@[simp] theorem State.updRst_axB (s : State) (f : RstSt → RstSt) : (s.updRst f).axB = s.axB := rfl
@[simp] theorem State.updRst_siB (s : State) (f : RstSt → RstSt) : (s.updRst f).siB = s.siB := rfl
@[simp] theorem State.updRst_discA (s : State) (f : RstSt → RstSt) : (s.updRst f).discA = s.discA := rfl
@[simp] theorem State.updRst_discB (s : State) (f : RstSt → RstSt) : (s.updRst f).discB = s.discB := rfl
@[simp] theorem State.updRst_latA (s : State) (f : RstSt → RstSt) : (s.updRst f).latA = s.latA := rfl
@[simp] theorem State.updRst_latB (s : State) (f : RstSt → RstSt) : (s.updRst f).latB = s.latB := rfl
@[simp] theorem State.updRst_keys (s : State) (f : RstSt → RstSt) : (s.updRst f).keys = s.keys := rfl
@[simp] theorem State.updRst_xst (s : State) (f : RstSt → RstSt) : (s.updRst f).xst = s.xst := rfl
@[simp] theorem State.updRst_appWait (s : State) (f : RstSt → RstSt) : (s.updRst f).appWait = s.appWait := rfl
@[simp] theorem State.updRst_ftLat (s : State) (f : RstSt → RstSt) : (s.updRst f).ftLat = s.ftLat := rfl
@[simp] theorem State.updRst_susp (s : State) (f : RstSt → RstSt) : (s.updRst f).susp = s.susp := rfl
@[simp] theorem State.updRst_gapAt (s : State) (f : RstSt → RstSt) : (s.updRst f).gapAt = s.gapAt := rfl
@[simp] theorem State.updRst_smOn (s : State) (f : RstSt → RstSt) : (s.updRst f).smOn = s.smOn := rfl
@[simp] theorem State.updRst_conns (s : State) (f : RstSt → RstSt) : (s.updRst f).conns = s.conns := rfl
@[simp] theorem State.updRst_can (s : State) (f : RstSt → RstSt) : (s.updRst f).can = s.can := rfl
@[simp] theorem State.updRst_canAt (s : State) (f : RstSt → RstSt) : (s.updRst f).canAt = s.canAt := rfl
@[simp] theorem State.updRst_canWake (s : State) (f : RstSt → RstSt) : (s.updRst f).canWake = s.canWake := rfl
@[simp] theorem State.updRst_flagHist (s : State) (f : RstSt → RstSt) : (s.updRst f).flagHist = s.flagHist := rfl
@[simp] theorem State.updRst_chn (s : State) (f : RstSt → RstSt) : (s.updRst f).chn = s.chn := rfl
@[simp] theorem State.updRst_twn (s : State) (f : RstSt → RstSt) : (s.updRst f).twn = s.twn := rfl
@[simp] theorem State.updRst_snt (s : State) (f : RstSt → RstSt) : (s.updRst f).snt = s.snt := rfl
@[simp] theorem State.updRst_tap (s : State) (f : RstSt → RstSt) : (s.updRst f).tap = s.tap := rfl
@[simp] theorem State.updRst_host (s : State) (f : RstSt → RstSt) : (s.updRst f).host = s.host := rfl
@[simp] theorem State.updRst_pending (s : State) (f : RstSt → RstSt) : (s.updRst f).pending = s.pending := rfl
@[simp] theorem State.updRst_outbox (s : State) (f : RstSt → RstSt) : (s.updRst f).outbox = s.outbox := rfl
@[simp] theorem State.updRst_g (s : State) (f : RstSt → RstSt) (fld : Fld) (i : Nat) : (s.updRst f).g fld i = s.g fld i := rfl
@[simp] theorem State.updRst_gb (s : State) (f : RstSt → RstSt) (fld : Fld) (i : Nat) : (s.updRst f).gb fld i = s.gb fld i := rfl
@[simp] theorem State.updRst_gi (s : State) (f : RstSt → RstSt) (fld : Fld) (i : Nat) : (s.updRst f).gi fld i = s.gi fld i := rfl

/-! ### `State.updSnt` -/

@[simp] theorem State.updSnt_now (s : State) (f : IntSt → IntSt) : (s.updSnt f).now = s.now := rfl
@[simp] theorem State.updSnt_t (s : State) (f : IntSt → IntSt) : (s.updSnt f).t = s.t := rfl
@[simp] theorem State.updSnt_fields (s : State) (f : IntSt → IntSt) : (s.updSnt f).fields = s.fields := rfl
@[simp] theorem State.updSnt_sram (s : State) (f : IntSt → IntSt) : (s.updSnt f).sram = s.sram := rfl
@[simp] theorem State.updSnt_nvm (s : State) (f : IntSt → IntSt) : (s.updSnt f).nvm = s.nvm := rfl
@[simp] theorem State.updSnt_free (s : State) (f : IntSt → IntSt) : (s.updSnt f).free = s.free := rfl
@[simp] theorem State.updSnt_wrapped (s : State) (f : IntSt → IntSt) : (s.updSnt f).wrapped = s.wrapped := rfl
@[simp] theorem State.updSnt_adcOn (s : State) (f : IntSt → IntSt) : (s.updSnt f).adcOn = s.adcOn := rfl
@[simp] theorem State.updSnt_k (s : State) (f : IntSt → IntSt) : (s.updSnt f).k = s.k := rfl
@[simp] theorem State.updSnt_bDone (s : State) (f : IntSt → IntSt) : (s.updSnt f).bDone = s.bDone := rfl
@[simp] theorem State.updSnt_kB (s : State) (f : IntSt → IntSt) : (s.updSnt f).kB = s.kB := rfl
@[simp] theorem State.updSnt_s0 (s : State) (f : IntSt → IntSt) : (s.updSnt f).s0 = s.s0 := rfl
@[simp] theorem State.updSnt_staged (s : State) (f : IntSt → IntSt) : (s.updSnt f).staged = s.staged := rfl
@[simp] theorem State.updSnt_overflow (s : State) (f : IntSt → IntSt) : (s.updSnt f).overflow = s.overflow := rfl
@[simp] theorem State.updSnt_commit (s : State) (f : IntSt → IntSt) : (s.updSnt f).commit = s.commit := rfl
@[simp] theorem State.updSnt_epochs (s : State) (f : IntSt → IntSt) : (s.updSnt f).epochs = s.epochs := rfl
@[simp] theorem State.updSnt_latches (s : State) (f : IntSt → IntSt) : (s.updSnt f).latches = s.latches := rfl
@[simp] theorem State.updSnt_prt (s : State) (f : IntSt → IntSt) : (s.updSnt f).prt = s.prt := rfl
@[simp] theorem State.updSnt_exc (s : State) (f : IntSt → IntSt) : (s.updSnt f).exc = s.exc := rfl
@[simp] theorem State.updSnt_acq (s : State) (f : IntSt → IntSt) : (s.updSnt f).acq = s.acq := rfl
@[simp] theorem State.updSnt_obs (s : State) (f : IntSt → IntSt) : (s.updSnt f).obs = s.obs := rfl
@[simp] theorem State.updSnt_div (s : State) (f : IntSt → IntSt) : (s.updSnt f).div = s.div := rfl
@[simp] theorem State.updSnt_cal (s : State) (f : IntSt → IntSt) : (s.updSnt f).cal = s.cal := rfl
@[simp] theorem State.updSnt_calStep (s : State) (f : IntSt → IntSt) : (s.updSnt f).calStep = s.calStep := rfl
@[simp] theorem State.updSnt_calAcc (s : State) (f : IntSt → IntSt) : (s.updSnt f).calAcc = s.calAcc := rfl
@[simp] theorem State.updSnt_swpAcc (s : State) (f : IntSt → IntSt) : (s.updSnt f).swpAcc = s.swpAcc := rfl
@[simp] theorem State.updSnt_obsLim (s : State) (f : IntSt → IntSt) : (s.updSnt f).obsLim = s.obsLim := rfl
@[simp] theorem State.updSnt_sinc (s : State) (f : IntSt → IntSt) : (s.updSnt f).sinc = s.sinc := rfl
@[simp] theorem State.updSnt_tsrc (s : State) (f : IntSt → IntSt) : (s.updSnt f).tsrc = s.tsrc := rfl
@[simp] theorem State.updSnt_safPar (s : State) (f : IntSt → IntSt) : (s.updSnt f).safPar = s.safPar := rfl
@[simp] theorem State.updSnt_permAt (s : State) (f : IntSt → IntSt) : (s.updSnt f).permAt = s.permAt := rfl
@[simp] theorem State.updSnt_stamps (s : State) (f : IntSt → IntSt) : (s.updSnt f).stamps = s.stamps := rfl
@[simp] theorem State.updSnt_lrn (s : State) (f : IntSt → IntSt) : (s.updSnt f).lrn = s.lrn := rfl
@[simp] theorem State.updSnt_nvq (s : State) (f : IntSt → IntSt) : (s.updSnt f).nvq = s.nvq := rfl
@[simp] theorem State.updSnt_nvPorts (s : State) (f : IntSt → IntSt) : (s.updSnt f).nvPorts = s.nvPorts := rfl
@[simp] theorem State.updSnt_nvBuf (s : State) (f : IntSt → IntSt) : (s.updSnt f).nvBuf = s.nvBuf := rfl
@[simp] theorem State.updSnt_dfb (s : State) (f : IntSt → IntSt) : (s.updSnt f).dfb = s.dfb := rfl
@[simp] theorem State.updSnt_emu (s : State) (f : IntSt → IntSt) : (s.updSnt f).emu = s.emu := rfl
@[simp] theorem State.updSnt_emuDrv (s : State) (f : IntSt → IntSt) : (s.updSnt f).emuDrv = s.emuDrv := rfl
@[simp] theorem State.updSnt_blankWin (s : State) (f : IntSt → IntSt) : (s.updSnt f).blankWin = s.blankWin := rfl
@[simp] theorem State.updSnt_obsOld (s : State) (f : IntSt → IntSt) : (s.updSnt f).obsOld = s.obsOld := rfl
@[simp] theorem State.updSnt_slots (s : State) (f : IntSt → IntSt) : (s.updSnt f).slots = s.slots := rfl
@[simp] theorem State.updSnt_copies (s : State) (f : IntSt → IntSt) : (s.updSnt f).copies = s.copies := rfl
@[simp] theorem State.updSnt_pwms (s : State) (f : IntSt → IntSt) : (s.updSnt f).pwms = s.pwms := rfl
@[simp] theorem State.updSnt_gt (s : State) (f : IntSt → IntSt) : (s.updSnt f).gt = s.gt := rfl
@[simp] theorem State.updSnt_stream (s : State) (f : IntSt → IntSt) : (s.updSnt f).stream = s.stream := rfl
@[simp] theorem State.updSnt_geyDrv (s : State) (f : IntSt → IntSt) : (s.updSnt f).geyDrv = s.geyDrv := rfl
@[simp] theorem State.updSnt_vnt (s : State) (f : IntSt → IntSt) : (s.updSnt f).vnt = s.vnt := rfl
@[simp] theorem State.updSnt_ventReq (s : State) (f : IntSt → IntSt) : (s.updSnt f).ventReq = s.ventReq := rfl
@[simp] theorem State.updSnt_inj (s : State) (f : IntSt → IntSt) : (s.updSnt f).inj = s.inj := rfl
@[simp] theorem State.updSnt_injEnd (s : State) (f : IntSt → IntSt) : (s.updSnt f).injEnd = s.injEnd := rfl
@[simp] theorem State.updSnt_poison (s : State) (f : IntSt → IntSt) : (s.updSnt f).poison = s.poison := rfl
@[simp] theorem State.updSnt_ashDue (s : State) (f : IntSt → IntSt) : (s.updSnt f).ashDue = s.ashDue := rfl
@[simp] theorem State.updSnt_tmp (s : State) (f : IntSt → IntSt) : (s.updSnt f).tmp = s.tmp := rfl
@[simp] theorem State.updSnt_tsl (s : State) (f : IntSt → IntSt) : (s.updSnt f).tsl = s.tsl := rfl
@[simp] theorem State.updSnt_pairEnd (s : State) (f : IntSt → IntSt) : (s.updSnt f).pairEnd = s.pairEnd := rfl
@[simp] theorem State.updSnt_tmpFrom (s : State) (f : IntSt → IntSt) : (s.updSnt f).tmpFrom = s.tmpFrom := rfl
@[simp] theorem State.updSnt_actA (s : State) (f : IntSt → IntSt) : (s.updSnt f).actA = s.actA := rfl
@[simp] theorem State.updSnt_actB (s : State) (f : IntSt → IntSt) : (s.updSnt f).actB = s.actB := rfl
@[simp] theorem State.updSnt_axA (s : State) (f : IntSt → IntSt) : (s.updSnt f).axA = s.axA := rfl
@[simp] theorem State.updSnt_axB (s : State) (f : IntSt → IntSt) : (s.updSnt f).axB = s.axB := rfl
@[simp] theorem State.updSnt_siB (s : State) (f : IntSt → IntSt) : (s.updSnt f).siB = s.siB := rfl
@[simp] theorem State.updSnt_discA (s : State) (f : IntSt → IntSt) : (s.updSnt f).discA = s.discA := rfl
@[simp] theorem State.updSnt_discB (s : State) (f : IntSt → IntSt) : (s.updSnt f).discB = s.discB := rfl
@[simp] theorem State.updSnt_latA (s : State) (f : IntSt → IntSt) : (s.updSnt f).latA = s.latA := rfl
@[simp] theorem State.updSnt_latB (s : State) (f : IntSt → IntSt) : (s.updSnt f).latB = s.latB := rfl
@[simp] theorem State.updSnt_keys (s : State) (f : IntSt → IntSt) : (s.updSnt f).keys = s.keys := rfl
@[simp] theorem State.updSnt_xst (s : State) (f : IntSt → IntSt) : (s.updSnt f).xst = s.xst := rfl
@[simp] theorem State.updSnt_appWait (s : State) (f : IntSt → IntSt) : (s.updSnt f).appWait = s.appWait := rfl
@[simp] theorem State.updSnt_ftLat (s : State) (f : IntSt → IntSt) : (s.updSnt f).ftLat = s.ftLat := rfl
@[simp] theorem State.updSnt_susp (s : State) (f : IntSt → IntSt) : (s.updSnt f).susp = s.susp := rfl
@[simp] theorem State.updSnt_gapAt (s : State) (f : IntSt → IntSt) : (s.updSnt f).gapAt = s.gapAt := rfl
@[simp] theorem State.updSnt_smOn (s : State) (f : IntSt → IntSt) : (s.updSnt f).smOn = s.smOn := rfl
@[simp] theorem State.updSnt_conns (s : State) (f : IntSt → IntSt) : (s.updSnt f).conns = s.conns := rfl
@[simp] theorem State.updSnt_can (s : State) (f : IntSt → IntSt) : (s.updSnt f).can = s.can := rfl
@[simp] theorem State.updSnt_canAt (s : State) (f : IntSt → IntSt) : (s.updSnt f).canAt = s.canAt := rfl
@[simp] theorem State.updSnt_canWake (s : State) (f : IntSt → IntSt) : (s.updSnt f).canWake = s.canWake := rfl
@[simp] theorem State.updSnt_flagHist (s : State) (f : IntSt → IntSt) : (s.updSnt f).flagHist = s.flagHist := rfl
@[simp] theorem State.updSnt_chn (s : State) (f : IntSt → IntSt) : (s.updSnt f).chn = s.chn := rfl
@[simp] theorem State.updSnt_twn (s : State) (f : IntSt → IntSt) : (s.updSnt f).twn = s.twn := rfl
@[simp] theorem State.updSnt_rst (s : State) (f : IntSt → IntSt) : (s.updSnt f).rst = s.rst := rfl
@[simp] theorem State.updSnt_tap (s : State) (f : IntSt → IntSt) : (s.updSnt f).tap = s.tap := rfl
@[simp] theorem State.updSnt_host (s : State) (f : IntSt → IntSt) : (s.updSnt f).host = s.host := rfl
@[simp] theorem State.updSnt_pending (s : State) (f : IntSt → IntSt) : (s.updSnt f).pending = s.pending := rfl
@[simp] theorem State.updSnt_outbox (s : State) (f : IntSt → IntSt) : (s.updSnt f).outbox = s.outbox := rfl
@[simp] theorem State.updSnt_g (s : State) (f : IntSt → IntSt) (fld : Fld) (i : Nat) : (s.updSnt f).g fld i = s.g fld i := rfl
@[simp] theorem State.updSnt_gb (s : State) (f : IntSt → IntSt) (fld : Fld) (i : Nat) : (s.updSnt f).gb fld i = s.gb fld i := rfl
@[simp] theorem State.updSnt_gi (s : State) (f : IntSt → IntSt) (fld : Fld) (i : Nat) : (s.updSnt f).gi fld i = s.gi fld i := rfl

/-! ### `State.updHost` -/

@[simp] theorem State.updHost_now (s : State) (f : HostSt → HostSt) : (s.updHost f).now = s.now := rfl
@[simp] theorem State.updHost_t (s : State) (f : HostSt → HostSt) : (s.updHost f).t = s.t := rfl
@[simp] theorem State.updHost_fields (s : State) (f : HostSt → HostSt) : (s.updHost f).fields = s.fields := rfl
@[simp] theorem State.updHost_sram (s : State) (f : HostSt → HostSt) : (s.updHost f).sram = s.sram := rfl
@[simp] theorem State.updHost_nvm (s : State) (f : HostSt → HostSt) : (s.updHost f).nvm = s.nvm := rfl
@[simp] theorem State.updHost_free (s : State) (f : HostSt → HostSt) : (s.updHost f).free = s.free := rfl
@[simp] theorem State.updHost_wrapped (s : State) (f : HostSt → HostSt) : (s.updHost f).wrapped = s.wrapped := rfl
@[simp] theorem State.updHost_adcOn (s : State) (f : HostSt → HostSt) : (s.updHost f).adcOn = s.adcOn := rfl
@[simp] theorem State.updHost_k (s : State) (f : HostSt → HostSt) : (s.updHost f).k = s.k := rfl
@[simp] theorem State.updHost_bDone (s : State) (f : HostSt → HostSt) : (s.updHost f).bDone = s.bDone := rfl
@[simp] theorem State.updHost_kB (s : State) (f : HostSt → HostSt) : (s.updHost f).kB = s.kB := rfl
@[simp] theorem State.updHost_s0 (s : State) (f : HostSt → HostSt) : (s.updHost f).s0 = s.s0 := rfl
@[simp] theorem State.updHost_staged (s : State) (f : HostSt → HostSt) : (s.updHost f).staged = s.staged := rfl
@[simp] theorem State.updHost_overflow (s : State) (f : HostSt → HostSt) : (s.updHost f).overflow = s.overflow := rfl
@[simp] theorem State.updHost_commit (s : State) (f : HostSt → HostSt) : (s.updHost f).commit = s.commit := rfl
@[simp] theorem State.updHost_epochs (s : State) (f : HostSt → HostSt) : (s.updHost f).epochs = s.epochs := rfl
@[simp] theorem State.updHost_latches (s : State) (f : HostSt → HostSt) : (s.updHost f).latches = s.latches := rfl
@[simp] theorem State.updHost_prt (s : State) (f : HostSt → HostSt) : (s.updHost f).prt = s.prt := rfl
@[simp] theorem State.updHost_exc (s : State) (f : HostSt → HostSt) : (s.updHost f).exc = s.exc := rfl
@[simp] theorem State.updHost_acq (s : State) (f : HostSt → HostSt) : (s.updHost f).acq = s.acq := rfl
@[simp] theorem State.updHost_obs (s : State) (f : HostSt → HostSt) : (s.updHost f).obs = s.obs := rfl
@[simp] theorem State.updHost_div (s : State) (f : HostSt → HostSt) : (s.updHost f).div = s.div := rfl
@[simp] theorem State.updHost_cal (s : State) (f : HostSt → HostSt) : (s.updHost f).cal = s.cal := rfl
@[simp] theorem State.updHost_calStep (s : State) (f : HostSt → HostSt) : (s.updHost f).calStep = s.calStep := rfl
@[simp] theorem State.updHost_calAcc (s : State) (f : HostSt → HostSt) : (s.updHost f).calAcc = s.calAcc := rfl
@[simp] theorem State.updHost_swpAcc (s : State) (f : HostSt → HostSt) : (s.updHost f).swpAcc = s.swpAcc := rfl
@[simp] theorem State.updHost_obsLim (s : State) (f : HostSt → HostSt) : (s.updHost f).obsLim = s.obsLim := rfl
@[simp] theorem State.updHost_sinc (s : State) (f : HostSt → HostSt) : (s.updHost f).sinc = s.sinc := rfl
@[simp] theorem State.updHost_tsrc (s : State) (f : HostSt → HostSt) : (s.updHost f).tsrc = s.tsrc := rfl
@[simp] theorem State.updHost_safPar (s : State) (f : HostSt → HostSt) : (s.updHost f).safPar = s.safPar := rfl
@[simp] theorem State.updHost_permAt (s : State) (f : HostSt → HostSt) : (s.updHost f).permAt = s.permAt := rfl
@[simp] theorem State.updHost_stamps (s : State) (f : HostSt → HostSt) : (s.updHost f).stamps = s.stamps := rfl
@[simp] theorem State.updHost_lrn (s : State) (f : HostSt → HostSt) : (s.updHost f).lrn = s.lrn := rfl
@[simp] theorem State.updHost_nvq (s : State) (f : HostSt → HostSt) : (s.updHost f).nvq = s.nvq := rfl
@[simp] theorem State.updHost_nvPorts (s : State) (f : HostSt → HostSt) : (s.updHost f).nvPorts = s.nvPorts := rfl
@[simp] theorem State.updHost_nvBuf (s : State) (f : HostSt → HostSt) : (s.updHost f).nvBuf = s.nvBuf := rfl
@[simp] theorem State.updHost_dfb (s : State) (f : HostSt → HostSt) : (s.updHost f).dfb = s.dfb := rfl
@[simp] theorem State.updHost_emu (s : State) (f : HostSt → HostSt) : (s.updHost f).emu = s.emu := rfl
@[simp] theorem State.updHost_emuDrv (s : State) (f : HostSt → HostSt) : (s.updHost f).emuDrv = s.emuDrv := rfl
@[simp] theorem State.updHost_blankWin (s : State) (f : HostSt → HostSt) : (s.updHost f).blankWin = s.blankWin := rfl
@[simp] theorem State.updHost_obsOld (s : State) (f : HostSt → HostSt) : (s.updHost f).obsOld = s.obsOld := rfl
@[simp] theorem State.updHost_slots (s : State) (f : HostSt → HostSt) : (s.updHost f).slots = s.slots := rfl
@[simp] theorem State.updHost_copies (s : State) (f : HostSt → HostSt) : (s.updHost f).copies = s.copies := rfl
@[simp] theorem State.updHost_pwms (s : State) (f : HostSt → HostSt) : (s.updHost f).pwms = s.pwms := rfl
@[simp] theorem State.updHost_gt (s : State) (f : HostSt → HostSt) : (s.updHost f).gt = s.gt := rfl
@[simp] theorem State.updHost_stream (s : State) (f : HostSt → HostSt) : (s.updHost f).stream = s.stream := rfl
@[simp] theorem State.updHost_geyDrv (s : State) (f : HostSt → HostSt) : (s.updHost f).geyDrv = s.geyDrv := rfl
@[simp] theorem State.updHost_vnt (s : State) (f : HostSt → HostSt) : (s.updHost f).vnt = s.vnt := rfl
@[simp] theorem State.updHost_ventReq (s : State) (f : HostSt → HostSt) : (s.updHost f).ventReq = s.ventReq := rfl
@[simp] theorem State.updHost_inj (s : State) (f : HostSt → HostSt) : (s.updHost f).inj = s.inj := rfl
@[simp] theorem State.updHost_injEnd (s : State) (f : HostSt → HostSt) : (s.updHost f).injEnd = s.injEnd := rfl
@[simp] theorem State.updHost_poison (s : State) (f : HostSt → HostSt) : (s.updHost f).poison = s.poison := rfl
@[simp] theorem State.updHost_ashDue (s : State) (f : HostSt → HostSt) : (s.updHost f).ashDue = s.ashDue := rfl
@[simp] theorem State.updHost_tmp (s : State) (f : HostSt → HostSt) : (s.updHost f).tmp = s.tmp := rfl
@[simp] theorem State.updHost_tsl (s : State) (f : HostSt → HostSt) : (s.updHost f).tsl = s.tsl := rfl
@[simp] theorem State.updHost_pairEnd (s : State) (f : HostSt → HostSt) : (s.updHost f).pairEnd = s.pairEnd := rfl
@[simp] theorem State.updHost_tmpFrom (s : State) (f : HostSt → HostSt) : (s.updHost f).tmpFrom = s.tmpFrom := rfl
@[simp] theorem State.updHost_actA (s : State) (f : HostSt → HostSt) : (s.updHost f).actA = s.actA := rfl
@[simp] theorem State.updHost_actB (s : State) (f : HostSt → HostSt) : (s.updHost f).actB = s.actB := rfl
@[simp] theorem State.updHost_axA (s : State) (f : HostSt → HostSt) : (s.updHost f).axA = s.axA := rfl
@[simp] theorem State.updHost_axB (s : State) (f : HostSt → HostSt) : (s.updHost f).axB = s.axB := rfl
@[simp] theorem State.updHost_siB (s : State) (f : HostSt → HostSt) : (s.updHost f).siB = s.siB := rfl
@[simp] theorem State.updHost_discA (s : State) (f : HostSt → HostSt) : (s.updHost f).discA = s.discA := rfl
@[simp] theorem State.updHost_discB (s : State) (f : HostSt → HostSt) : (s.updHost f).discB = s.discB := rfl
@[simp] theorem State.updHost_latA (s : State) (f : HostSt → HostSt) : (s.updHost f).latA = s.latA := rfl
@[simp] theorem State.updHost_latB (s : State) (f : HostSt → HostSt) : (s.updHost f).latB = s.latB := rfl
@[simp] theorem State.updHost_keys (s : State) (f : HostSt → HostSt) : (s.updHost f).keys = s.keys := rfl
@[simp] theorem State.updHost_xst (s : State) (f : HostSt → HostSt) : (s.updHost f).xst = s.xst := rfl
@[simp] theorem State.updHost_appWait (s : State) (f : HostSt → HostSt) : (s.updHost f).appWait = s.appWait := rfl
@[simp] theorem State.updHost_ftLat (s : State) (f : HostSt → HostSt) : (s.updHost f).ftLat = s.ftLat := rfl
@[simp] theorem State.updHost_susp (s : State) (f : HostSt → HostSt) : (s.updHost f).susp = s.susp := rfl
@[simp] theorem State.updHost_gapAt (s : State) (f : HostSt → HostSt) : (s.updHost f).gapAt = s.gapAt := rfl
@[simp] theorem State.updHost_smOn (s : State) (f : HostSt → HostSt) : (s.updHost f).smOn = s.smOn := rfl
@[simp] theorem State.updHost_conns (s : State) (f : HostSt → HostSt) : (s.updHost f).conns = s.conns := rfl
@[simp] theorem State.updHost_can (s : State) (f : HostSt → HostSt) : (s.updHost f).can = s.can := rfl
@[simp] theorem State.updHost_canAt (s : State) (f : HostSt → HostSt) : (s.updHost f).canAt = s.canAt := rfl
@[simp] theorem State.updHost_canWake (s : State) (f : HostSt → HostSt) : (s.updHost f).canWake = s.canWake := rfl
@[simp] theorem State.updHost_flagHist (s : State) (f : HostSt → HostSt) : (s.updHost f).flagHist = s.flagHist := rfl
@[simp] theorem State.updHost_chn (s : State) (f : HostSt → HostSt) : (s.updHost f).chn = s.chn := rfl
@[simp] theorem State.updHost_twn (s : State) (f : HostSt → HostSt) : (s.updHost f).twn = s.twn := rfl
@[simp] theorem State.updHost_rst (s : State) (f : HostSt → HostSt) : (s.updHost f).rst = s.rst := rfl
@[simp] theorem State.updHost_snt (s : State) (f : HostSt → HostSt) : (s.updHost f).snt = s.snt := rfl
@[simp] theorem State.updHost_tap (s : State) (f : HostSt → HostSt) : (s.updHost f).tap = s.tap := rfl
@[simp] theorem State.updHost_pending (s : State) (f : HostSt → HostSt) : (s.updHost f).pending = s.pending := rfl
@[simp] theorem State.updHost_outbox (s : State) (f : HostSt → HostSt) : (s.updHost f).outbox = s.outbox := rfl
@[simp] theorem State.updHost_g (s : State) (f : HostSt → HostSt) (fld : Fld) (i : Nat) : (s.updHost f).g fld i = s.g fld i := rfl
@[simp] theorem State.updHost_gb (s : State) (f : HostSt → HostSt) (fld : Fld) (i : Nat) : (s.updHost f).gb fld i = s.gb fld i := rfl
@[simp] theorem State.updHost_gi (s : State) (f : HostSt → HostSt) (fld : Fld) (i : Nat) : (s.updHost f).gi fld i = s.gi fld i := rfl

/-! ### `State.setSlot` -/

@[simp] theorem State.setSlot_now (s : State) (j : Nat) (v : SlotSt) : (s.setSlot j v).now = s.now := rfl
@[simp] theorem State.setSlot_t (s : State) (j : Nat) (v : SlotSt) : (s.setSlot j v).t = s.t := rfl
@[simp] theorem State.setSlot_fields (s : State) (j : Nat) (v : SlotSt) : (s.setSlot j v).fields = s.fields := rfl
@[simp] theorem State.setSlot_sram (s : State) (j : Nat) (v : SlotSt) : (s.setSlot j v).sram = s.sram := rfl
@[simp] theorem State.setSlot_nvm (s : State) (j : Nat) (v : SlotSt) : (s.setSlot j v).nvm = s.nvm := rfl
@[simp] theorem State.setSlot_free (s : State) (j : Nat) (v : SlotSt) : (s.setSlot j v).free = s.free := rfl
@[simp] theorem State.setSlot_wrapped (s : State) (j : Nat) (v : SlotSt) : (s.setSlot j v).wrapped = s.wrapped := rfl
@[simp] theorem State.setSlot_adcOn (s : State) (j : Nat) (v : SlotSt) : (s.setSlot j v).adcOn = s.adcOn := rfl
@[simp] theorem State.setSlot_k (s : State) (j : Nat) (v : SlotSt) : (s.setSlot j v).k = s.k := rfl
@[simp] theorem State.setSlot_bDone (s : State) (j : Nat) (v : SlotSt) : (s.setSlot j v).bDone = s.bDone := rfl
@[simp] theorem State.setSlot_kB (s : State) (j : Nat) (v : SlotSt) : (s.setSlot j v).kB = s.kB := rfl
@[simp] theorem State.setSlot_s0 (s : State) (j : Nat) (v : SlotSt) : (s.setSlot j v).s0 = s.s0 := rfl
@[simp] theorem State.setSlot_staged (s : State) (j : Nat) (v : SlotSt) : (s.setSlot j v).staged = s.staged := rfl
@[simp] theorem State.setSlot_overflow (s : State) (j : Nat) (v : SlotSt) : (s.setSlot j v).overflow = s.overflow := rfl
@[simp] theorem State.setSlot_commit (s : State) (j : Nat) (v : SlotSt) : (s.setSlot j v).commit = s.commit := rfl
@[simp] theorem State.setSlot_epochs (s : State) (j : Nat) (v : SlotSt) : (s.setSlot j v).epochs = s.epochs := rfl
@[simp] theorem State.setSlot_latches (s : State) (j : Nat) (v : SlotSt) : (s.setSlot j v).latches = s.latches := rfl
@[simp] theorem State.setSlot_prt (s : State) (j : Nat) (v : SlotSt) : (s.setSlot j v).prt = s.prt := rfl
@[simp] theorem State.setSlot_exc (s : State) (j : Nat) (v : SlotSt) : (s.setSlot j v).exc = s.exc := rfl
@[simp] theorem State.setSlot_acq (s : State) (j : Nat) (v : SlotSt) : (s.setSlot j v).acq = s.acq := rfl
@[simp] theorem State.setSlot_obs (s : State) (j : Nat) (v : SlotSt) : (s.setSlot j v).obs = s.obs := rfl
@[simp] theorem State.setSlot_div (s : State) (j : Nat) (v : SlotSt) : (s.setSlot j v).div = s.div := rfl
@[simp] theorem State.setSlot_cal (s : State) (j : Nat) (v : SlotSt) : (s.setSlot j v).cal = s.cal := rfl
@[simp] theorem State.setSlot_calStep (s : State) (j : Nat) (v : SlotSt) : (s.setSlot j v).calStep = s.calStep := rfl
@[simp] theorem State.setSlot_calAcc (s : State) (j : Nat) (v : SlotSt) : (s.setSlot j v).calAcc = s.calAcc := rfl
@[simp] theorem State.setSlot_swpAcc (s : State) (j : Nat) (v : SlotSt) : (s.setSlot j v).swpAcc = s.swpAcc := rfl
@[simp] theorem State.setSlot_obsLim (s : State) (j : Nat) (v : SlotSt) : (s.setSlot j v).obsLim = s.obsLim := rfl
@[simp] theorem State.setSlot_sinc (s : State) (j : Nat) (v : SlotSt) : (s.setSlot j v).sinc = s.sinc := rfl
@[simp] theorem State.setSlot_tsrc (s : State) (j : Nat) (v : SlotSt) : (s.setSlot j v).tsrc = s.tsrc := rfl
@[simp] theorem State.setSlot_safPar (s : State) (j : Nat) (v : SlotSt) : (s.setSlot j v).safPar = s.safPar := rfl
@[simp] theorem State.setSlot_permAt (s : State) (j : Nat) (v : SlotSt) : (s.setSlot j v).permAt = s.permAt := rfl
@[simp] theorem State.setSlot_stamps (s : State) (j : Nat) (v : SlotSt) : (s.setSlot j v).stamps = s.stamps := rfl
@[simp] theorem State.setSlot_lrn (s : State) (j : Nat) (v : SlotSt) : (s.setSlot j v).lrn = s.lrn := rfl
@[simp] theorem State.setSlot_nvq (s : State) (j : Nat) (v : SlotSt) : (s.setSlot j v).nvq = s.nvq := rfl
@[simp] theorem State.setSlot_nvPorts (s : State) (j : Nat) (v : SlotSt) : (s.setSlot j v).nvPorts = s.nvPorts := rfl
@[simp] theorem State.setSlot_nvBuf (s : State) (j : Nat) (v : SlotSt) : (s.setSlot j v).nvBuf = s.nvBuf := rfl
@[simp] theorem State.setSlot_dfb (s : State) (j : Nat) (v : SlotSt) : (s.setSlot j v).dfb = s.dfb := rfl
@[simp] theorem State.setSlot_emu (s : State) (j : Nat) (v : SlotSt) : (s.setSlot j v).emu = s.emu := rfl
@[simp] theorem State.setSlot_emuDrv (s : State) (j : Nat) (v : SlotSt) : (s.setSlot j v).emuDrv = s.emuDrv := rfl
@[simp] theorem State.setSlot_blankWin (s : State) (j : Nat) (v : SlotSt) : (s.setSlot j v).blankWin = s.blankWin := rfl
@[simp] theorem State.setSlot_obsOld (s : State) (j : Nat) (v : SlotSt) : (s.setSlot j v).obsOld = s.obsOld := rfl
@[simp] theorem State.setSlot_copies (s : State) (j : Nat) (v : SlotSt) : (s.setSlot j v).copies = s.copies := rfl
@[simp] theorem State.setSlot_pwms (s : State) (j : Nat) (v : SlotSt) : (s.setSlot j v).pwms = s.pwms := rfl
@[simp] theorem State.setSlot_gt (s : State) (j : Nat) (v : SlotSt) : (s.setSlot j v).gt = s.gt := rfl
@[simp] theorem State.setSlot_stream (s : State) (j : Nat) (v : SlotSt) : (s.setSlot j v).stream = s.stream := rfl
@[simp] theorem State.setSlot_geyDrv (s : State) (j : Nat) (v : SlotSt) : (s.setSlot j v).geyDrv = s.geyDrv := rfl
@[simp] theorem State.setSlot_vnt (s : State) (j : Nat) (v : SlotSt) : (s.setSlot j v).vnt = s.vnt := rfl
@[simp] theorem State.setSlot_ventReq (s : State) (j : Nat) (v : SlotSt) : (s.setSlot j v).ventReq = s.ventReq := rfl
@[simp] theorem State.setSlot_inj (s : State) (j : Nat) (v : SlotSt) : (s.setSlot j v).inj = s.inj := rfl
@[simp] theorem State.setSlot_injEnd (s : State) (j : Nat) (v : SlotSt) : (s.setSlot j v).injEnd = s.injEnd := rfl
@[simp] theorem State.setSlot_poison (s : State) (j : Nat) (v : SlotSt) : (s.setSlot j v).poison = s.poison := rfl
@[simp] theorem State.setSlot_ashDue (s : State) (j : Nat) (v : SlotSt) : (s.setSlot j v).ashDue = s.ashDue := rfl
@[simp] theorem State.setSlot_tmp (s : State) (j : Nat) (v : SlotSt) : (s.setSlot j v).tmp = s.tmp := rfl
@[simp] theorem State.setSlot_tsl (s : State) (j : Nat) (v : SlotSt) : (s.setSlot j v).tsl = s.tsl := rfl
@[simp] theorem State.setSlot_pairEnd (s : State) (j : Nat) (v : SlotSt) : (s.setSlot j v).pairEnd = s.pairEnd := rfl
@[simp] theorem State.setSlot_tmpFrom (s : State) (j : Nat) (v : SlotSt) : (s.setSlot j v).tmpFrom = s.tmpFrom := rfl
@[simp] theorem State.setSlot_actA (s : State) (j : Nat) (v : SlotSt) : (s.setSlot j v).actA = s.actA := rfl
@[simp] theorem State.setSlot_actB (s : State) (j : Nat) (v : SlotSt) : (s.setSlot j v).actB = s.actB := rfl
@[simp] theorem State.setSlot_axA (s : State) (j : Nat) (v : SlotSt) : (s.setSlot j v).axA = s.axA := rfl
@[simp] theorem State.setSlot_axB (s : State) (j : Nat) (v : SlotSt) : (s.setSlot j v).axB = s.axB := rfl
@[simp] theorem State.setSlot_siB (s : State) (j : Nat) (v : SlotSt) : (s.setSlot j v).siB = s.siB := rfl
@[simp] theorem State.setSlot_discA (s : State) (j : Nat) (v : SlotSt) : (s.setSlot j v).discA = s.discA := rfl
@[simp] theorem State.setSlot_discB (s : State) (j : Nat) (v : SlotSt) : (s.setSlot j v).discB = s.discB := rfl
@[simp] theorem State.setSlot_latA (s : State) (j : Nat) (v : SlotSt) : (s.setSlot j v).latA = s.latA := rfl
@[simp] theorem State.setSlot_latB (s : State) (j : Nat) (v : SlotSt) : (s.setSlot j v).latB = s.latB := rfl
@[simp] theorem State.setSlot_keys (s : State) (j : Nat) (v : SlotSt) : (s.setSlot j v).keys = s.keys := rfl
@[simp] theorem State.setSlot_xst (s : State) (j : Nat) (v : SlotSt) : (s.setSlot j v).xst = s.xst := rfl
@[simp] theorem State.setSlot_appWait (s : State) (j : Nat) (v : SlotSt) : (s.setSlot j v).appWait = s.appWait := rfl
@[simp] theorem State.setSlot_ftLat (s : State) (j : Nat) (v : SlotSt) : (s.setSlot j v).ftLat = s.ftLat := rfl
@[simp] theorem State.setSlot_susp (s : State) (j : Nat) (v : SlotSt) : (s.setSlot j v).susp = s.susp := rfl
@[simp] theorem State.setSlot_gapAt (s : State) (j : Nat) (v : SlotSt) : (s.setSlot j v).gapAt = s.gapAt := rfl
@[simp] theorem State.setSlot_smOn (s : State) (j : Nat) (v : SlotSt) : (s.setSlot j v).smOn = s.smOn := rfl
@[simp] theorem State.setSlot_conns (s : State) (j : Nat) (v : SlotSt) : (s.setSlot j v).conns = s.conns := rfl
@[simp] theorem State.setSlot_can (s : State) (j : Nat) (v : SlotSt) : (s.setSlot j v).can = s.can := rfl
@[simp] theorem State.setSlot_canAt (s : State) (j : Nat) (v : SlotSt) : (s.setSlot j v).canAt = s.canAt := rfl
@[simp] theorem State.setSlot_canWake (s : State) (j : Nat) (v : SlotSt) : (s.setSlot j v).canWake = s.canWake := rfl
@[simp] theorem State.setSlot_flagHist (s : State) (j : Nat) (v : SlotSt) : (s.setSlot j v).flagHist = s.flagHist := rfl
@[simp] theorem State.setSlot_chn (s : State) (j : Nat) (v : SlotSt) : (s.setSlot j v).chn = s.chn := rfl
@[simp] theorem State.setSlot_twn (s : State) (j : Nat) (v : SlotSt) : (s.setSlot j v).twn = s.twn := rfl
@[simp] theorem State.setSlot_rst (s : State) (j : Nat) (v : SlotSt) : (s.setSlot j v).rst = s.rst := rfl
@[simp] theorem State.setSlot_snt (s : State) (j : Nat) (v : SlotSt) : (s.setSlot j v).snt = s.snt := rfl
@[simp] theorem State.setSlot_tap (s : State) (j : Nat) (v : SlotSt) : (s.setSlot j v).tap = s.tap := rfl
@[simp] theorem State.setSlot_host (s : State) (j : Nat) (v : SlotSt) : (s.setSlot j v).host = s.host := rfl
@[simp] theorem State.setSlot_pending (s : State) (j : Nat) (v : SlotSt) : (s.setSlot j v).pending = s.pending := rfl
@[simp] theorem State.setSlot_outbox (s : State) (j : Nat) (v : SlotSt) : (s.setSlot j v).outbox = s.outbox := rfl
@[simp] theorem State.setSlot_g (s : State) (j : Nat) (v : SlotSt) (fld : Fld) (i : Nat) : (s.setSlot j v).g fld i = s.g fld i := rfl
@[simp] theorem State.setSlot_gb (s : State) (j : Nat) (v : SlotSt) (fld : Fld) (i : Nat) : (s.setSlot j v).gb fld i = s.gb fld i := rfl
@[simp] theorem State.setSlot_gi (s : State) (j : Nat) (v : SlotSt) (fld : Fld) (i : Nat) : (s.setSlot j v).gi fld i = s.gi fld i := rfl

/-! ### What an update changes -/

@[simp] theorem State.at_t (s : State) (src : Src) : (s.at src).t = tadd s.now src.sub := rfl
@[simp] theorem State.here_t (s : State) : s.here.t = s.now := rfl
@[simp] theorem State.emit_outbox (s : State) (o : Output) : (s.emit o).outbox = o :: s.outbox := rfl
@[simp] theorem State.updChn_chn (s : State) (f : ChnSt → ChnSt) : (s.updChn f).chn = f s.chn := rfl
@[simp] theorem State.updTwn_twn (s : State) (f : TwnSt → TwnSt) : (s.updTwn f).twn = f s.twn := rfl
@[simp] theorem State.updRst_rst (s : State) (f : RstSt → RstSt) : (s.updRst f).rst = f s.rst := rfl
@[simp] theorem State.updSnt_snt (s : State) (f : IntSt → IntSt) : (s.updSnt f).snt = f s.snt := rfl
@[simp] theorem State.updHost_host (s : State) (f : HostSt → HostSt) : (s.updHost f).host = f s.host := rfl
@[simp] theorem State.updPrt_prt (s : State) (n : Nat) (f : PortSt → PortSt) : (s.updPrt n f).prt = vupd s.prt n f := rfl
@[simp] theorem State.updExc_exc (s : State) (n : Nat) (f : ExcSt → ExcSt) : (s.updExc n f).exc = vupd s.exc n f := rfl
@[simp] theorem State.updAcq_acq (s : State) (n : Nat) (f : AcqSt → AcqSt) : (s.updAcq n f).acq = vupd s.acq n f := rfl
@[simp] theorem State.updObs_obs (s : State) (n : Nat) (f : ObsSt → ObsSt) : (s.updObs n f).obs = vupd s.obs n f := rfl
@[simp] theorem State.updDiv_div (s : State) (n : Nat) (f : DivSt → DivSt) : (s.updDiv n f).div = vupd s.div n f := rfl
@[simp] theorem State.updLrn_lrn (s : State) (n : Nat) (f : LrnSt → LrnSt) : (s.updLrn n f).lrn = vupd s.lrn n f := rfl
@[simp] theorem State.updDfb_dfb (s : State) (n : Nat) (f : DfbSt → DfbSt) : (s.updDfb n f).dfb = vupd s.dfb n f := rfl
@[simp] theorem State.updEmu_emu (s : State) (n : Nat) (f : EmuSt → EmuSt) : (s.updEmu n f).emu = vupd s.emu n f := rfl
@[simp] theorem State.updVnt_vnt (s : State) (n : Nat) (f : VntSt → VntSt) : (s.updVnt n f).vnt = vupd s.vnt n f := rfl
@[simp] theorem State.updTmp_tmp (s : State) (n : Nat) (f : TmpSt → TmpSt) : (s.updTmp n f).tmp = vupd s.tmp n f := rfl
@[simp] theorem State.updTsl_tsl (s : State) (n : Nat) (f : TslSt → TslSt) : (s.updTsl n f).tsl = vupd s.tsl n f := rfl
@[simp] theorem State.updCan_can (s : State) (n : Nat) (f : CanSt → CanSt) : (s.updCan n f).can = vupd s.can n f := rfl

end Sys2Proof.Machine
end

