-- ==== Sys2Proof/Laws/Frame.lean ====
section
/-! SUPPORT. The frame and the invariant as closed properties of the stored contents, for the lemmas `kept_exec…`. -/

set_option linter.all false

namespace Sys2Proof.Laws
open Sys2Proof.Machine

/-- The frame of `Safety.lean` over the stored contents. -/
structure SameBut (u : Touch) (s : State) (c : Store) : Prop where
  regs : ∀ k, keyPage k ∉ u.blocks → SMap.get 0 c.fields k = SMap.get 0 s.fields k
  ash : u.sram = false → u.ash = false → ∀ a, SMap.get 0#8 c.sram a = s.sramByte a
  sram : u.sram = false → ∀ a, 0x100000 ≤ a → SMap.get 0#8 c.sram a = s.sramByte a
  nvm : u.nvm = false → c.nvm = s.nvm
  image : u.image = false → c.actA = s.actA ∧ c.actB = s.actB
  time : u.time = false → c.now = s.now
  queue : c.pending = s.pending

theorem same_self (u : Touch) (s : State) : Kept (SameBut u s) s :=
  ⟨fun _ _ => rfl, fun _ _ _ => rfl, fun _ _ _ => rfl, fun _ => rfl, fun _ => ⟨rfl, rfl⟩, fun _ => rfl, rfl⟩

theorem same_frame {u : Touch} {s t : State} (h : Kept (SameBut u s) t) : Frame u s t where
  regs f n hb hl hp := by
    unfold State.g
    rw [show SMap.get 0 t.fields (f.key n) = SMap.get 0 s.fields (f.key n) from
      h.regs (f.key n) (by rw [keyPage_key hb hl]; exact hp)]
  ash := h.ash
  sram := h.sram
  nvm hn a := by unfold State.nvmByte; rw [show t.nvm = s.nvm from h.nvm hn]
  image := h.image
  time := h.time
  queue := h.queue

/-- Every block is one of `Touch.all`. -/
theorem all_blocks (p : Nat) : p ∈ List.range 32 ∨ 32 ≤ p := by
  rw [List.mem_range]; omega

theorem same_closed (u : Touch) (s : State) :
    Closed (u.nvm = true) (u.image = true) (u.time = true) (u.sram = true) (u.sram = true ∨ u.ash = true) True
      (fun p => p ∈ u.blocks ∨ 32 ≤ p) (SameBut u s) where
  field c k v hk h := { h with
    regs := fun j hj => by
      have hne : j ≠ k := by
        intro e
        subst e
        exact hk.elim hj (fun h => by unfold keyPage at h; omega)
      exact (SMap.get_set_other 0 c.fields v hne).trans (h.regs j hj) }
  keep c p hp h := { h with
    regs := fun j hj => by
      have hpt : ∀ v, p (j, v) = true := fun v => by
        cases e : p (j, v)
        · exact (hp _ e).elim (fun h => absurd h hj) (fun h => by unfold keyPage at h; omega)
        · rfl
      exact (SMap.get_filter 0 c.fields hpt).trans (h.regs j hj) }
  ash he c a v ha h := { h with
    ash := fun h1 h2 => by rcases he with e | e <;> simp_all
    sram := fun h1 b hb => by
      have hne : b ≠ a := by omega
      exact (SMap.get_set_other 0#8 c.sram v hne).trans (h.sram h1 b hb) }
  byte he c a v h := { h with
    ash := fun h1 => by simp_all
    sram := fun h1 => by simp_all }
  zero he c p h := { h with
    ash := fun h1 => by simp_all
    sram := fun h1 => by simp_all }
  nvm he c a v h := { h with nvm := fun h1 => by simp_all }
  hold c p h := { h with }
  image he c img e h := { h with image := fun h1 => by simp_all }
  blank he c h := { h with image := fun h1 => by simp_all }
  time he c x h := { h with time := fun h1 => by simp_all }
  count _ c k b w h := { h with }

/-! ### The invariant -/

/-- Removing entries keeps the canonical form. -/
theorem SMap_wf_filter {β : Type} [DecidableEq β] (d : β) (m : List (Nat × β)) (p : Nat × β → Bool)
    (h : SMap.wf d m = true) : SMap.wf d (m.filter p) = true := by
  rw [SMap.wf_iff] at h ⊢
  exact ⟨h.1.filter p, fun x hx => h.2 x (List.mem_filter.mp hx).1⟩

/-- The invariant of `Safety.lean` over the stored contents. -/
structure InvStore (c : Store) : Prop where
  fields : SMap.wf 0 c.fields = true
  sram : Memory.wf 0#8 c.sram = true
  nvm : Memory.wf nvmErased c.nvm = true
  image : SMap.wf 0 c.actA = true
  copies : c.actA = c.actB
  wait : ∀ img, c.wait = some img → SMap.wf 0 img = true

theorem invStore_iff (s : State) : Kept InvStore s ↔ Inv s :=
  ⟨fun h => ⟨h.fields, h.sram, h.nvm, h.image, h.copies, h.wait⟩, fun h => ⟨h.fields, h.sram, h.nvm, h.image, h.copies, h.wait⟩⟩

theorem inv_closed : Closed True True True True True True (fun _ => True) InvStore where
  field c k v _ h := { h with fields := SMap.wf_set 0 _ _ _ h.fields }
  keep c p _ h := { h with fields := SMap_wf_filter 0 _ _ h.fields }
  ash _ c a v _ h := { h with sram := SMap.wf_set 0#8 _ _ _ h.sram }
  byte _ c a v h := { h with sram := SMap.wf_set 0#8 _ _ _ h.sram }
  zero _ c p h := { h with sram := SMap_wf_filter 0#8 _ _ h.sram }
  nvm _ c a v h := { h with nvm := SMap.wf_set nvmErased _ _ _ h.nvm }
  hold c p h := { h with
    wait := fun img e => by
      cases e
      exact SMap_wf_filter 0 _ _ h.fields }
  image _ c img e h := { h with image := h.wait img e, copies := rfl, wait := fun _ e => nomatch e }
  blank _ c h := { h with image := rfl, copies := rfl, wait := fun _ e => nomatch e }
  time _ c t h := ⟨h.fields, h.sram, h.nvm, h.image, h.copies, h.wait⟩
  count _ c k b w h := ⟨h.fields, h.sram, h.nvm, h.image, h.copies, h.wait⟩

end Sys2Proof.Laws
end

