-- ==== Sys2Proof/Laws/Ops.lean ====
section
/-! SUPPORT. What the shared operations do: a field reads what was written to it, a write to one field leaves every other
field alone, and raising an event changes nothing outside the host interface, the event fabric and Sinter. -/

set_option linter.all false

namespace Sys2Proof.Laws
open Sys2Proof.Machine

/-! ### Register fields -/

theorem xor_xor_self (a b : Nat) : a ^^^ b ^^^ b = a := by
  rw [Nat.xor_assoc, Nat.xor_self, Nat.xor_zero]

/-- A field reads what was written, modulo its width. -/
@[simp] theorem g_w_same (s : State) (f : Fld) (n v : Nat) : (s.w f n v).g f n = v % 2 ^ f.width := by
  unfold State.g State.w
  simp only [SMap.get_set_same, xor_xor_self, Nat.mod_mod]

/-- Two fields share no place. -/
def apart (f g : Fld) : Bool :=
  decide (f.base < 131072) && decide (f.lo < 32) && decide (g.base < 131072) && decide (g.lo < 32) &&
    (decide (f.base ≠ g.base) || decide (f.lo ≠ g.lo))

theorem key_apart {f g : Fld} (h : apart f g = true) (n m : Nat) : f.key n ≠ g.key m := by
  simp only [apart, Bool.and_eq_true, Bool.or_eq_true, decide_eq_true_eq] at h
  unfold Fld.key
  omega

theorem key_inst {f : Fld} {n m : Nat} (h : n ≠ m) : f.key n ≠ f.key m := by
  unfold Fld.key
  omega

theorem g_w_of_key {f g : Fld} {n m : Nat} (s : State) (v : Nat) (h : g.key m ≠ f.key n) : (s.w f n v).g g m = s.g g m := by
  unfold State.g State.w
  rw [SMap.get_set_other 0 s.fields _ h]

/-- A write leaves the fields of other places alone. -/
theorem g_w_apart {f g : Fld} (h : apart g f = true) (s : State) (n m v : Nat) : (s.w f n v).g g m = s.g g m :=
  g_w_of_key s v (key_apart h m n)

/-- A write leaves the other instances of its field alone. -/
theorem g_w_inst {f : Fld} {n m : Nat} (h : m ≠ n) (s : State) (v : Nat) : (s.w f n v).g f m = s.g f m :=
  g_w_of_key s v (key_inst h)

theorem g_wb_same (s : State) (f : Fld) (n : Nat) (b : Bool) (h : f.width = 1) : (s.wb f n b).gb f n = b := by
  unfold State.wb State.gb
  rw [g_w_same, h]
  cases b <;> rfl

/-- Updates of other fields of the state leave register fields alone. -/
theorem g_of_fields {s t : State} (h : t.fields = s.fields) (f : Fld) (n : Nat) : t.g f n = s.g f n := by
  unfold State.g
  rw [h]

/-! ### Raising an event -/

/-- What raising an event leaves alone. -/
def aside (s : State) : State :=
  { s with fields := [], sram := [], poison := [], vnt := Vector.replicate 7 {}, host := {}, outbox := [], ashDue := 0,
           snt := {} }

theorem aside_w (s : State) (f : Fld) (n v : Nat) : aside (s.w f n v) = aside s := rfl
theorem aside_bump (s : State) (f : Fld) (n : Nat) : aside (s.bump f n) = aside s := by
  unfold State.bump
  split <;> rfl
theorem aside_setSramBytes (s : State) (a : Nat) (bs : List Byte) : aside (s.setSramBytes a bs) = aside s := by
  induction bs generalizing s a with
  | nil => rfl
  | cons b bs ih => exact ih _ _
theorem aside_cause (s : State) (v : Nat) : aside (s.cause v) = aside s := rfl
theorem aside_noteEvent (s : State) (e : Nat) : aside (s.noteEvent e) = aside s := by
  unfold State.noteEvent State.ashNote
  dsimp only
  split
  · split <;> rfl
  · rfl
theorem aside_ashWrite (s : State) (bs : List Byte) : aside (s.ashWrite bs) = aside s := by
  unfold State.ashWrite
  dsimp only
  split <;> exact aside_setSramBytes s _ _
theorem aside_ashPut (s : State) (bs : List Byte) : aside (s.ashPut bs) = aside s := by
  unfold State.ashPut
  dsimp only
  split
  · split
    · exact aside_ashWrite s bs
    · exact aside_ashWrite s bs
  · rfl
theorem aside_statusBlock (s : State) (r : Nat) : aside (s.statusBlock r) = aside s := by
  unfold State.statusBlock
  split <;> rfl
theorem aside_advance (s : State) (r n : Nat) : aside (s.advance r n) = aside s := by
  unfold State.advance
  dsimp only
  rw [aside_statusBlock]
  split <;> rfl
theorem aside_putRecord (s : State) (r : Nat) (bs : List Byte) : aside (s.putRecord r bs) = aside s := by
  unfold State.putRecord
  dsimp only
  split
  · rw [aside_cause, aside_advance]; rfl
  · rw [aside_advance]; rfl
theorem aside_dropped (s : State) (r : Nat) : aside (s.bufClear.dropCount r) = aside s := by
  unfold State.dropCount
  rw [aside_bump]
  rfl
theorem aside_recordQuiet (s : State) (r : Nat) (bs : List Byte) : aside (s.recordQuiet r bs) = aside s := by
  unfold State.recordQuiet
  split
  · rfl
  · split
    · exact aside_putRecord s r bs
    · dsimp only
      split
      · rw [aside_w, aside_dropped]
      · exact aside_dropped s r
theorem aside_ite {p : Prop} [Decidable p] {a b s : State} (ha : aside a = aside s) (hb : aside b = aside s) :
    aside (if p then a else b) = aside s := by
  split
  · exact ha
  · exact hb
theorem aside_raise1 (s : State) (e ctx : Nat) : aside (s.raise1 e ctx) = aside s := by
  have h0 : aside ((s.bump F.EVT_CNT_COUNT e).noteEvent e) = aside s := by rw [aside_noteEvent, aside_bump]
  unfold State.raise1
  lift_lets
  intro s1 cnt entry s2
  have h2 : aside s2 = aside s := (aside_ashPut s1 entry).trans h0
  clear_value s2
  intro s3
  have h3 : aside s3 = aside s := h2
  clear_value s3
  intro s4
  have h4 : aside s4 = aside s := aside_ite ((aside_recordQuiet s3 _ _).trans h3) h3
  clear_value s4
  exact aside_ite h2 (aside_ite ((aside_cause _ _).trans h4) h4)
theorem aside_ashFlush (s : State) : aside s.ashFlush = aside s := by
  unfold State.ashFlush State.stick
  refine aside_ite (aside_ite rfl ?_) rfl
  rw [aside_raise1, aside_w]
  rfl
theorem aside_raise (s : State) (e ctx : Nat) : aside (s.raise e ctx) = aside s := by
  unfold State.raise
  dsimp only
  rw [aside_ashFlush]
  exact aside_ite ((aside_raise1 _ _ _).trans (aside_raise1 _ _ _)) (aside_raise1 _ _ _)
theorem aside_stickEv (s : State) (f : Fld) (n e : Nat) : aside (s.stickEv f n e) = aside s := by
  unfold State.stickEv State.stick State.raiseReg
  exact aside_ite rfl ((aside_raise _ _ _).trans rfl)

theorem of_aside {α : Type} (p : State → α) (hp : ∀ s, p (aside s) = p s) {a b : State} (h : aside a = aside b) :
    p a = p b := by
  rw [← hp a, ← hp b, h]

/-- Raising an event leaves every register field outside the host interface, the event fabric and Sinter alone. -/
theorem g_raise (s : State) (e ctx : Nat) {f : Fld} (n : Nat)
    (h : (decide (f.base < 0x20000) && decide (f.lo < 32) && !([2, 3, 22].contains (f.base / 4096))) = true) :
    (s.raise e ctx).g f n = s.g f n := by
  have k := same_frame (kept_raise (same_closed (Touch.events []) s) (Or.inr rfl) (Or.inl (by decide)) (Or.inl (by decide))
    (Or.inl (by decide)) s e ctx (same_self _ s))
  simp only [Bool.and_eq_true, decide_eq_true_eq, Bool.not_eq_true', List.contains_eq_mem, decide_eq_false_iff_not] at h
  refine k.regs f n h.1.1 h.1.2 ?_
  intro hm
  apply h.2
  simp only [Touch.events, List.mem_cons, List.not_mem_nil, or_false] at hm ⊢
  omega

theorem g_stickEv (s : State) (g : Fld) (m e : Nat) {f : Fld} (n : Nat) (hg : apart f g = true)
    (h : (decide (f.base < 0x20000) && decide (f.lo < 32) && !([2, 3, 22].contains (f.base / 4096))) = true) :
    (s.stickEv g m e).g f n = s.g f n := by
  unfold State.stickEv State.stick State.raiseReg
  split
  · rfl
  · rw [g_raise _ _ _ _ h, g_w_apart hg]

/-- A sticky bit stands after it was set. -/
theorem gb_stickEv (s : State) (f : Fld) (n e : Nat) (hw : f.width = 1)
    (h : (decide (f.base < 0x20000) && decide (f.lo < 32) && !([2, 3, 22].contains (f.base / 4096))) = true) :
    (s.stickEv f n e).gb f n = true := by
  unfold State.stickEv State.stick State.raiseReg
  split
  · assumption
  · unfold State.gb
    rw [g_raise _ _ _ _ h, g_w_same, hw]
    rfl

@[simp] theorem raise_now (s : State) (e c : Nat) : (s.raise e c).now = s.now :=
  of_aside State.now (fun _ => rfl) (aside_raise s e c)
@[simp] theorem stickEv_now (s : State) (f : Fld) (n e : Nat) : (s.stickEv f n e).now = s.now :=
  of_aside State.now (fun _ => rfl) (aside_stickEv s f n e)
@[simp] theorem raise_t (s : State) (e c : Nat) : (s.raise e c).t = s.t :=
  of_aside State.t (fun _ => rfl) (aside_raise s e c)
@[simp] theorem stickEv_t (s : State) (f : Fld) (n e : Nat) : (s.stickEv f n e).t = s.t :=
  of_aside State.t (fun _ => rfl) (aside_stickEv s f n e)
@[simp] theorem raise_nvm (s : State) (e c : Nat) : (s.raise e c).nvm = s.nvm :=
  of_aside State.nvm (fun _ => rfl) (aside_raise s e c)
@[simp] theorem stickEv_nvm (s : State) (f : Fld) (n e : Nat) : (s.stickEv f n e).nvm = s.nvm :=
  of_aside State.nvm (fun _ => rfl) (aside_stickEv s f n e)
@[simp] theorem raise_free (s : State) (e c : Nat) : (s.raise e c).free = s.free :=
  of_aside State.free (fun _ => rfl) (aside_raise s e c)
@[simp] theorem stickEv_free (s : State) (f : Fld) (n e : Nat) : (s.stickEv f n e).free = s.free :=
  of_aside State.free (fun _ => rfl) (aside_stickEv s f n e)
@[simp] theorem raise_wrapped (s : State) (e c : Nat) : (s.raise e c).wrapped = s.wrapped :=
  of_aside State.wrapped (fun _ => rfl) (aside_raise s e c)
@[simp] theorem stickEv_wrapped (s : State) (f : Fld) (n e : Nat) : (s.stickEv f n e).wrapped = s.wrapped :=
  of_aside State.wrapped (fun _ => rfl) (aside_stickEv s f n e)
@[simp] theorem raise_adcOn (s : State) (e c : Nat) : (s.raise e c).adcOn = s.adcOn :=
  of_aside State.adcOn (fun _ => rfl) (aside_raise s e c)
@[simp] theorem stickEv_adcOn (s : State) (f : Fld) (n e : Nat) : (s.stickEv f n e).adcOn = s.adcOn :=
  of_aside State.adcOn (fun _ => rfl) (aside_stickEv s f n e)
@[simp] theorem raise_k (s : State) (e c : Nat) : (s.raise e c).k = s.k :=
  of_aside State.k (fun _ => rfl) (aside_raise s e c)
@[simp] theorem stickEv_k (s : State) (f : Fld) (n e : Nat) : (s.stickEv f n e).k = s.k :=
  of_aside State.k (fun _ => rfl) (aside_stickEv s f n e)
@[simp] theorem raise_bDone (s : State) (e c : Nat) : (s.raise e c).bDone = s.bDone :=
  of_aside State.bDone (fun _ => rfl) (aside_raise s e c)
@[simp] theorem stickEv_bDone (s : State) (f : Fld) (n e : Nat) : (s.stickEv f n e).bDone = s.bDone :=
  of_aside State.bDone (fun _ => rfl) (aside_stickEv s f n e)
@[simp] theorem raise_kB (s : State) (e c : Nat) : (s.raise e c).kB = s.kB :=
  of_aside State.kB (fun _ => rfl) (aside_raise s e c)
@[simp] theorem stickEv_kB (s : State) (f : Fld) (n e : Nat) : (s.stickEv f n e).kB = s.kB :=
  of_aside State.kB (fun _ => rfl) (aside_stickEv s f n e)
@[simp] theorem raise_s0 (s : State) (e c : Nat) : (s.raise e c).s0 = s.s0 :=
  of_aside State.s0 (fun _ => rfl) (aside_raise s e c)
@[simp] theorem stickEv_s0 (s : State) (f : Fld) (n e : Nat) : (s.stickEv f n e).s0 = s.s0 :=
  of_aside State.s0 (fun _ => rfl) (aside_stickEv s f n e)
@[simp] theorem raise_staged (s : State) (e c : Nat) : (s.raise e c).staged = s.staged :=
  of_aside State.staged (fun _ => rfl) (aside_raise s e c)
@[simp] theorem stickEv_staged (s : State) (f : Fld) (n e : Nat) : (s.stickEv f n e).staged = s.staged :=
  of_aside State.staged (fun _ => rfl) (aside_stickEv s f n e)
@[simp] theorem raise_overflow (s : State) (e c : Nat) : (s.raise e c).overflow = s.overflow :=
  of_aside State.overflow (fun _ => rfl) (aside_raise s e c)
@[simp] theorem stickEv_overflow (s : State) (f : Fld) (n e : Nat) : (s.stickEv f n e).overflow = s.overflow :=
  of_aside State.overflow (fun _ => rfl) (aside_stickEv s f n e)
@[simp] theorem raise_commit (s : State) (e c : Nat) : (s.raise e c).commit = s.commit :=
  of_aside State.commit (fun _ => rfl) (aside_raise s e c)
@[simp] theorem stickEv_commit (s : State) (f : Fld) (n e : Nat) : (s.stickEv f n e).commit = s.commit :=
  of_aside State.commit (fun _ => rfl) (aside_stickEv s f n e)
@[simp] theorem raise_epochs (s : State) (e c : Nat) : (s.raise e c).epochs = s.epochs :=
  of_aside State.epochs (fun _ => rfl) (aside_raise s e c)
@[simp] theorem stickEv_epochs (s : State) (f : Fld) (n e : Nat) : (s.stickEv f n e).epochs = s.epochs :=
  of_aside State.epochs (fun _ => rfl) (aside_stickEv s f n e)
@[simp] theorem raise_latches (s : State) (e c : Nat) : (s.raise e c).latches = s.latches :=
  of_aside State.latches (fun _ => rfl) (aside_raise s e c)
@[simp] theorem stickEv_latches (s : State) (f : Fld) (n e : Nat) : (s.stickEv f n e).latches = s.latches :=
  of_aside State.latches (fun _ => rfl) (aside_stickEv s f n e)
@[simp] theorem raise_prt (s : State) (e c : Nat) : (s.raise e c).prt = s.prt :=
  of_aside State.prt (fun _ => rfl) (aside_raise s e c)
@[simp] theorem stickEv_prt (s : State) (f : Fld) (n e : Nat) : (s.stickEv f n e).prt = s.prt :=
  of_aside State.prt (fun _ => rfl) (aside_stickEv s f n e)
@[simp] theorem raise_exc (s : State) (e c : Nat) : (s.raise e c).exc = s.exc :=
  of_aside State.exc (fun _ => rfl) (aside_raise s e c)
@[simp] theorem stickEv_exc (s : State) (f : Fld) (n e : Nat) : (s.stickEv f n e).exc = s.exc :=
  of_aside State.exc (fun _ => rfl) (aside_stickEv s f n e)
@[simp] theorem raise_acq (s : State) (e c : Nat) : (s.raise e c).acq = s.acq :=
  of_aside State.acq (fun _ => rfl) (aside_raise s e c)
@[simp] theorem stickEv_acq (s : State) (f : Fld) (n e : Nat) : (s.stickEv f n e).acq = s.acq :=
  of_aside State.acq (fun _ => rfl) (aside_stickEv s f n e)
@[simp] theorem raise_obs (s : State) (e c : Nat) : (s.raise e c).obs = s.obs :=
  of_aside State.obs (fun _ => rfl) (aside_raise s e c)
@[simp] theorem stickEv_obs (s : State) (f : Fld) (n e : Nat) : (s.stickEv f n e).obs = s.obs :=
  of_aside State.obs (fun _ => rfl) (aside_stickEv s f n e)
@[simp] theorem raise_div (s : State) (e c : Nat) : (s.raise e c).div = s.div :=
  of_aside State.div (fun _ => rfl) (aside_raise s e c)
@[simp] theorem stickEv_div (s : State) (f : Fld) (n e : Nat) : (s.stickEv f n e).div = s.div :=
  of_aside State.div (fun _ => rfl) (aside_stickEv s f n e)
@[simp] theorem raise_cal (s : State) (e c : Nat) : (s.raise e c).cal = s.cal :=
  of_aside State.cal (fun _ => rfl) (aside_raise s e c)
@[simp] theorem stickEv_cal (s : State) (f : Fld) (n e : Nat) : (s.stickEv f n e).cal = s.cal :=
  of_aside State.cal (fun _ => rfl) (aside_stickEv s f n e)
@[simp] theorem raise_calStep (s : State) (e c : Nat) : (s.raise e c).calStep = s.calStep :=
  of_aside State.calStep (fun _ => rfl) (aside_raise s e c)
@[simp] theorem stickEv_calStep (s : State) (f : Fld) (n e : Nat) : (s.stickEv f n e).calStep = s.calStep :=
  of_aside State.calStep (fun _ => rfl) (aside_stickEv s f n e)
@[simp] theorem raise_stamps (s : State) (e c : Nat) : (s.raise e c).stamps = s.stamps :=
  of_aside State.stamps (fun _ => rfl) (aside_raise s e c)
@[simp] theorem stickEv_stamps (s : State) (f : Fld) (n e : Nat) : (s.stickEv f n e).stamps = s.stamps :=
  of_aside State.stamps (fun _ => rfl) (aside_stickEv s f n e)
@[simp] theorem raise_lrn (s : State) (e c : Nat) : (s.raise e c).lrn = s.lrn :=
  of_aside State.lrn (fun _ => rfl) (aside_raise s e c)
@[simp] theorem stickEv_lrn (s : State) (f : Fld) (n e : Nat) : (s.stickEv f n e).lrn = s.lrn :=
  of_aside State.lrn (fun _ => rfl) (aside_stickEv s f n e)
@[simp] theorem raise_nvq (s : State) (e c : Nat) : (s.raise e c).nvq = s.nvq :=
  of_aside State.nvq (fun _ => rfl) (aside_raise s e c)
@[simp] theorem stickEv_nvq (s : State) (f : Fld) (n e : Nat) : (s.stickEv f n e).nvq = s.nvq :=
  of_aside State.nvq (fun _ => rfl) (aside_stickEv s f n e)
@[simp] theorem raise_nvPorts (s : State) (e c : Nat) : (s.raise e c).nvPorts = s.nvPorts :=
  of_aside State.nvPorts (fun _ => rfl) (aside_raise s e c)
@[simp] theorem stickEv_nvPorts (s : State) (f : Fld) (n e : Nat) : (s.stickEv f n e).nvPorts = s.nvPorts :=
  of_aside State.nvPorts (fun _ => rfl) (aside_stickEv s f n e)
@[simp] theorem raise_nvBuf (s : State) (e c : Nat) : (s.raise e c).nvBuf = s.nvBuf :=
  of_aside State.nvBuf (fun _ => rfl) (aside_raise s e c)
@[simp] theorem stickEv_nvBuf (s : State) (f : Fld) (n e : Nat) : (s.stickEv f n e).nvBuf = s.nvBuf :=
  of_aside State.nvBuf (fun _ => rfl) (aside_stickEv s f n e)
@[simp] theorem raise_dfb (s : State) (e c : Nat) : (s.raise e c).dfb = s.dfb :=
  of_aside State.dfb (fun _ => rfl) (aside_raise s e c)
@[simp] theorem stickEv_dfb (s : State) (f : Fld) (n e : Nat) : (s.stickEv f n e).dfb = s.dfb :=
  of_aside State.dfb (fun _ => rfl) (aside_stickEv s f n e)
@[simp] theorem raise_emu (s : State) (e c : Nat) : (s.raise e c).emu = s.emu :=
  of_aside State.emu (fun _ => rfl) (aside_raise s e c)
@[simp] theorem stickEv_emu (s : State) (f : Fld) (n e : Nat) : (s.stickEv f n e).emu = s.emu :=
  of_aside State.emu (fun _ => rfl) (aside_stickEv s f n e)
@[simp] theorem raise_emuDrv (s : State) (e c : Nat) : (s.raise e c).emuDrv = s.emuDrv :=
  of_aside State.emuDrv (fun _ => rfl) (aside_raise s e c)
@[simp] theorem stickEv_emuDrv (s : State) (f : Fld) (n e : Nat) : (s.stickEv f n e).emuDrv = s.emuDrv :=
  of_aside State.emuDrv (fun _ => rfl) (aside_stickEv s f n e)
@[simp] theorem raise_blankWin (s : State) (e c : Nat) : (s.raise e c).blankWin = s.blankWin :=
  of_aside State.blankWin (fun _ => rfl) (aside_raise s e c)
@[simp] theorem stickEv_blankWin (s : State) (f : Fld) (n e : Nat) : (s.stickEv f n e).blankWin = s.blankWin :=
  of_aside State.blankWin (fun _ => rfl) (aside_stickEv s f n e)
@[simp] theorem raise_obsOld (s : State) (e c : Nat) : (s.raise e c).obsOld = s.obsOld :=
  of_aside State.obsOld (fun _ => rfl) (aside_raise s e c)
@[simp] theorem stickEv_obsOld (s : State) (f : Fld) (n e : Nat) : (s.stickEv f n e).obsOld = s.obsOld :=
  of_aside State.obsOld (fun _ => rfl) (aside_stickEv s f n e)
@[simp] theorem raise_slots (s : State) (e c : Nat) : (s.raise e c).slots = s.slots :=
  of_aside State.slots (fun _ => rfl) (aside_raise s e c)
@[simp] theorem stickEv_slots (s : State) (f : Fld) (n e : Nat) : (s.stickEv f n e).slots = s.slots :=
  of_aside State.slots (fun _ => rfl) (aside_stickEv s f n e)
@[simp] theorem raise_copies (s : State) (e c : Nat) : (s.raise e c).copies = s.copies :=
  of_aside State.copies (fun _ => rfl) (aside_raise s e c)
@[simp] theorem stickEv_copies (s : State) (f : Fld) (n e : Nat) : (s.stickEv f n e).copies = s.copies :=
  of_aside State.copies (fun _ => rfl) (aside_stickEv s f n e)
@[simp] theorem raise_pwms (s : State) (e c : Nat) : (s.raise e c).pwms = s.pwms :=
  of_aside State.pwms (fun _ => rfl) (aside_raise s e c)
@[simp] theorem stickEv_pwms (s : State) (f : Fld) (n e : Nat) : (s.stickEv f n e).pwms = s.pwms :=
  of_aside State.pwms (fun _ => rfl) (aside_stickEv s f n e)
@[simp] theorem raise_gt (s : State) (e c : Nat) : (s.raise e c).gt = s.gt :=
  of_aside State.gt (fun _ => rfl) (aside_raise s e c)
@[simp] theorem stickEv_gt (s : State) (f : Fld) (n e : Nat) : (s.stickEv f n e).gt = s.gt :=
  of_aside State.gt (fun _ => rfl) (aside_stickEv s f n e)
@[simp] theorem raise_stream (s : State) (e c : Nat) : (s.raise e c).stream = s.stream :=
  of_aside State.stream (fun _ => rfl) (aside_raise s e c)
@[simp] theorem stickEv_stream (s : State) (f : Fld) (n e : Nat) : (s.stickEv f n e).stream = s.stream :=
  of_aside State.stream (fun _ => rfl) (aside_stickEv s f n e)
@[simp] theorem raise_geyDrv (s : State) (e c : Nat) : (s.raise e c).geyDrv = s.geyDrv :=
  of_aside State.geyDrv (fun _ => rfl) (aside_raise s e c)
@[simp] theorem stickEv_geyDrv (s : State) (f : Fld) (n e : Nat) : (s.stickEv f n e).geyDrv = s.geyDrv :=
  of_aside State.geyDrv (fun _ => rfl) (aside_stickEv s f n e)
@[simp] theorem raise_ventReq (s : State) (e c : Nat) : (s.raise e c).ventReq = s.ventReq :=
  of_aside State.ventReq (fun _ => rfl) (aside_raise s e c)
@[simp] theorem stickEv_ventReq (s : State) (f : Fld) (n e : Nat) : (s.stickEv f n e).ventReq = s.ventReq :=
  of_aside State.ventReq (fun _ => rfl) (aside_stickEv s f n e)
@[simp] theorem raise_inj (s : State) (e c : Nat) : (s.raise e c).inj = s.inj :=
  of_aside State.inj (fun _ => rfl) (aside_raise s e c)
@[simp] theorem stickEv_inj (s : State) (f : Fld) (n e : Nat) : (s.stickEv f n e).inj = s.inj :=
  of_aside State.inj (fun _ => rfl) (aside_stickEv s f n e)
@[simp] theorem raise_injEnd (s : State) (e c : Nat) : (s.raise e c).injEnd = s.injEnd :=
  of_aside State.injEnd (fun _ => rfl) (aside_raise s e c)
@[simp] theorem stickEv_injEnd (s : State) (f : Fld) (n e : Nat) : (s.stickEv f n e).injEnd = s.injEnd :=
  of_aside State.injEnd (fun _ => rfl) (aside_stickEv s f n e)
@[simp] theorem raise_tmp (s : State) (e c : Nat) : (s.raise e c).tmp = s.tmp :=
  of_aside State.tmp (fun _ => rfl) (aside_raise s e c)
@[simp] theorem stickEv_tmp (s : State) (f : Fld) (n e : Nat) : (s.stickEv f n e).tmp = s.tmp :=
  of_aside State.tmp (fun _ => rfl) (aside_stickEv s f n e)
@[simp] theorem raise_tsl (s : State) (e c : Nat) : (s.raise e c).tsl = s.tsl :=
  of_aside State.tsl (fun _ => rfl) (aside_raise s e c)
@[simp] theorem stickEv_tsl (s : State) (f : Fld) (n e : Nat) : (s.stickEv f n e).tsl = s.tsl :=
  of_aside State.tsl (fun _ => rfl) (aside_stickEv s f n e)
@[simp] theorem raise_pairEnd (s : State) (e c : Nat) : (s.raise e c).pairEnd = s.pairEnd :=
  of_aside State.pairEnd (fun _ => rfl) (aside_raise s e c)
@[simp] theorem stickEv_pairEnd (s : State) (f : Fld) (n e : Nat) : (s.stickEv f n e).pairEnd = s.pairEnd :=
  of_aside State.pairEnd (fun _ => rfl) (aside_stickEv s f n e)
@[simp] theorem raise_tmpFrom (s : State) (e c : Nat) : (s.raise e c).tmpFrom = s.tmpFrom :=
  of_aside State.tmpFrom (fun _ => rfl) (aside_raise s e c)
@[simp] theorem stickEv_tmpFrom (s : State) (f : Fld) (n e : Nat) : (s.stickEv f n e).tmpFrom = s.tmpFrom :=
  of_aside State.tmpFrom (fun _ => rfl) (aside_stickEv s f n e)
@[simp] theorem raise_actA (s : State) (e c : Nat) : (s.raise e c).actA = s.actA :=
  of_aside State.actA (fun _ => rfl) (aside_raise s e c)
@[simp] theorem stickEv_actA (s : State) (f : Fld) (n e : Nat) : (s.stickEv f n e).actA = s.actA :=
  of_aside State.actA (fun _ => rfl) (aside_stickEv s f n e)
@[simp] theorem raise_actB (s : State) (e c : Nat) : (s.raise e c).actB = s.actB :=
  of_aside State.actB (fun _ => rfl) (aside_raise s e c)
@[simp] theorem stickEv_actB (s : State) (f : Fld) (n e : Nat) : (s.stickEv f n e).actB = s.actB :=
  of_aside State.actB (fun _ => rfl) (aside_stickEv s f n e)
@[simp] theorem raise_axA (s : State) (e c : Nat) : (s.raise e c).axA = s.axA :=
  of_aside State.axA (fun _ => rfl) (aside_raise s e c)
@[simp] theorem stickEv_axA (s : State) (f : Fld) (n e : Nat) : (s.stickEv f n e).axA = s.axA :=
  of_aside State.axA (fun _ => rfl) (aside_stickEv s f n e)
@[simp] theorem raise_axB (s : State) (e c : Nat) : (s.raise e c).axB = s.axB :=
  of_aside State.axB (fun _ => rfl) (aside_raise s e c)
@[simp] theorem stickEv_axB (s : State) (f : Fld) (n e : Nat) : (s.stickEv f n e).axB = s.axB :=
  of_aside State.axB (fun _ => rfl) (aside_stickEv s f n e)
@[simp] theorem raise_siB (s : State) (e c : Nat) : (s.raise e c).siB = s.siB :=
  of_aside State.siB (fun _ => rfl) (aside_raise s e c)
@[simp] theorem stickEv_siB (s : State) (f : Fld) (n e : Nat) : (s.stickEv f n e).siB = s.siB :=
  of_aside State.siB (fun _ => rfl) (aside_stickEv s f n e)
@[simp] theorem raise_discA (s : State) (e c : Nat) : (s.raise e c).discA = s.discA :=
  of_aside State.discA (fun _ => rfl) (aside_raise s e c)
@[simp] theorem stickEv_discA (s : State) (f : Fld) (n e : Nat) : (s.stickEv f n e).discA = s.discA :=
  of_aside State.discA (fun _ => rfl) (aside_stickEv s f n e)
@[simp] theorem raise_discB (s : State) (e c : Nat) : (s.raise e c).discB = s.discB :=
  of_aside State.discB (fun _ => rfl) (aside_raise s e c)
@[simp] theorem stickEv_discB (s : State) (f : Fld) (n e : Nat) : (s.stickEv f n e).discB = s.discB :=
  of_aside State.discB (fun _ => rfl) (aside_stickEv s f n e)
@[simp] theorem raise_latA (s : State) (e c : Nat) : (s.raise e c).latA = s.latA :=
  of_aside State.latA (fun _ => rfl) (aside_raise s e c)
@[simp] theorem stickEv_latA (s : State) (f : Fld) (n e : Nat) : (s.stickEv f n e).latA = s.latA :=
  of_aside State.latA (fun _ => rfl) (aside_stickEv s f n e)
@[simp] theorem raise_latB (s : State) (e c : Nat) : (s.raise e c).latB = s.latB :=
  of_aside State.latB (fun _ => rfl) (aside_raise s e c)
@[simp] theorem stickEv_latB (s : State) (f : Fld) (n e : Nat) : (s.stickEv f n e).latB = s.latB :=
  of_aside State.latB (fun _ => rfl) (aside_stickEv s f n e)
@[simp] theorem raise_keys (s : State) (e c : Nat) : (s.raise e c).keys = s.keys :=
  of_aside State.keys (fun _ => rfl) (aside_raise s e c)
@[simp] theorem stickEv_keys (s : State) (f : Fld) (n e : Nat) : (s.stickEv f n e).keys = s.keys :=
  of_aside State.keys (fun _ => rfl) (aside_stickEv s f n e)
@[simp] theorem raise_xst (s : State) (e c : Nat) : (s.raise e c).xst = s.xst :=
  of_aside State.xst (fun _ => rfl) (aside_raise s e c)
@[simp] theorem stickEv_xst (s : State) (f : Fld) (n e : Nat) : (s.stickEv f n e).xst = s.xst :=
  of_aside State.xst (fun _ => rfl) (aside_stickEv s f n e)
@[simp] theorem raise_appWait (s : State) (e c : Nat) : (s.raise e c).appWait = s.appWait :=
  of_aside State.appWait (fun _ => rfl) (aside_raise s e c)
@[simp] theorem stickEv_appWait (s : State) (f : Fld) (n e : Nat) : (s.stickEv f n e).appWait = s.appWait :=
  of_aside State.appWait (fun _ => rfl) (aside_stickEv s f n e)
@[simp] theorem raise_ftLat (s : State) (e c : Nat) : (s.raise e c).ftLat = s.ftLat :=
  of_aside State.ftLat (fun _ => rfl) (aside_raise s e c)
@[simp] theorem stickEv_ftLat (s : State) (f : Fld) (n e : Nat) : (s.stickEv f n e).ftLat = s.ftLat :=
  of_aside State.ftLat (fun _ => rfl) (aside_stickEv s f n e)
@[simp] theorem raise_susp (s : State) (e c : Nat) : (s.raise e c).susp = s.susp :=
  of_aside State.susp (fun _ => rfl) (aside_raise s e c)
@[simp] theorem stickEv_susp (s : State) (f : Fld) (n e : Nat) : (s.stickEv f n e).susp = s.susp :=
  of_aside State.susp (fun _ => rfl) (aside_stickEv s f n e)
@[simp] theorem raise_gapAt (s : State) (e c : Nat) : (s.raise e c).gapAt = s.gapAt :=
  of_aside State.gapAt (fun _ => rfl) (aside_raise s e c)
@[simp] theorem stickEv_gapAt (s : State) (f : Fld) (n e : Nat) : (s.stickEv f n e).gapAt = s.gapAt :=
  of_aside State.gapAt (fun _ => rfl) (aside_stickEv s f n e)
@[simp] theorem raise_smOn (s : State) (e c : Nat) : (s.raise e c).smOn = s.smOn :=
  of_aside State.smOn (fun _ => rfl) (aside_raise s e c)
@[simp] theorem stickEv_smOn (s : State) (f : Fld) (n e : Nat) : (s.stickEv f n e).smOn = s.smOn :=
  of_aside State.smOn (fun _ => rfl) (aside_stickEv s f n e)
@[simp] theorem raise_conns (s : State) (e c : Nat) : (s.raise e c).conns = s.conns :=
  of_aside State.conns (fun _ => rfl) (aside_raise s e c)
@[simp] theorem stickEv_conns (s : State) (f : Fld) (n e : Nat) : (s.stickEv f n e).conns = s.conns :=
  of_aside State.conns (fun _ => rfl) (aside_stickEv s f n e)
@[simp] theorem raise_can (s : State) (e c : Nat) : (s.raise e c).can = s.can :=
  of_aside State.can (fun _ => rfl) (aside_raise s e c)
@[simp] theorem stickEv_can (s : State) (f : Fld) (n e : Nat) : (s.stickEv f n e).can = s.can :=
  of_aside State.can (fun _ => rfl) (aside_stickEv s f n e)
@[simp] theorem raise_canAt (s : State) (e c : Nat) : (s.raise e c).canAt = s.canAt :=
  of_aside State.canAt (fun _ => rfl) (aside_raise s e c)
@[simp] theorem stickEv_canAt (s : State) (f : Fld) (n e : Nat) : (s.stickEv f n e).canAt = s.canAt :=
  of_aside State.canAt (fun _ => rfl) (aside_stickEv s f n e)
@[simp] theorem raise_canWake (s : State) (e c : Nat) : (s.raise e c).canWake = s.canWake :=
  of_aside State.canWake (fun _ => rfl) (aside_raise s e c)
@[simp] theorem stickEv_canWake (s : State) (f : Fld) (n e : Nat) : (s.stickEv f n e).canWake = s.canWake :=
  of_aside State.canWake (fun _ => rfl) (aside_stickEv s f n e)
@[simp] theorem raise_flagHist (s : State) (e c : Nat) : (s.raise e c).flagHist = s.flagHist :=
  of_aside State.flagHist (fun _ => rfl) (aside_raise s e c)
@[simp] theorem stickEv_flagHist (s : State) (f : Fld) (n e : Nat) : (s.stickEv f n e).flagHist = s.flagHist :=
  of_aside State.flagHist (fun _ => rfl) (aside_stickEv s f n e)
@[simp] theorem raise_chn (s : State) (e c : Nat) : (s.raise e c).chn = s.chn :=
  of_aside State.chn (fun _ => rfl) (aside_raise s e c)
@[simp] theorem stickEv_chn (s : State) (f : Fld) (n e : Nat) : (s.stickEv f n e).chn = s.chn :=
  of_aside State.chn (fun _ => rfl) (aside_stickEv s f n e)
@[simp] theorem raise_twn (s : State) (e c : Nat) : (s.raise e c).twn = s.twn :=
  of_aside State.twn (fun _ => rfl) (aside_raise s e c)
@[simp] theorem stickEv_twn (s : State) (f : Fld) (n e : Nat) : (s.stickEv f n e).twn = s.twn :=
  of_aside State.twn (fun _ => rfl) (aside_stickEv s f n e)
@[simp] theorem raise_rst (s : State) (e c : Nat) : (s.raise e c).rst = s.rst :=
  of_aside State.rst (fun _ => rfl) (aside_raise s e c)
@[simp] theorem stickEv_rst (s : State) (f : Fld) (n e : Nat) : (s.stickEv f n e).rst = s.rst :=
  of_aside State.rst (fun _ => rfl) (aside_stickEv s f n e)
@[simp] theorem raise_tap (s : State) (e c : Nat) : (s.raise e c).tap = s.tap :=
  of_aside State.tap (fun _ => rfl) (aside_raise s e c)
@[simp] theorem stickEv_tap (s : State) (f : Fld) (n e : Nat) : (s.stickEv f n e).tap = s.tap :=
  of_aside State.tap (fun _ => rfl) (aside_stickEv s f n e)
@[simp] theorem raise_pending (s : State) (e c : Nat) : (s.raise e c).pending = s.pending :=
  of_aside State.pending (fun _ => rfl) (aside_raise s e c)
@[simp] theorem stickEv_pending (s : State) (f : Fld) (n e : Nat) : (s.stickEv f n e).pending = s.pending :=
  of_aside State.pending (fun _ => rfl) (aside_stickEv s f n e)

/-! ### Counting an event -/

/-- What a saturating counter shows after one event (R46). -/
theorem g_bump (s : State) (f : Fld) (n : Nat) (h : f.lo < 31 ∧ f.base < 131072) :
    (s.bump f n).g f n = if s.g f n = 2 ^ f.width - 1 then s.g f n else s.g f n + 1 := by
  unfold State.bump
  split
  · refine g_w_of_key s 1 (f := f.sat) ?_
    unfold Fld.key Fld.sat
    dsimp only
    omega
  · rw [g_w_same]
    have hlt : s.g f n < 2 ^ f.width := Nat.mod_lt _ (Nat.two_pow_pos _)
    exact Nat.mod_eq_of_lt (by omega)

/-- The operations that leave the event counters alone. -/
theorem cnt_ashPut (s : State) (bs : List Byte) (e : Nat) : (s.ashPut bs).g F.EVT_CNT_COUNT e = s.g F.EVT_CNT_COUNT e :=
  (same_frame (kept_ashPut (same_closed { blocks := [22], ash := true } s) (Or.inr rfl) (Or.inl (by decide)) s bs
    (same_self _ s))).regs _ _ (by decide) (by decide) (by decide)
theorem cnt_recordQuiet (s : State) (r : Nat) (bs : List Byte) (e : Nat) :
    (s.recordQuiet r bs).g F.EVT_CNT_COUNT e = s.g F.EVT_CNT_COUNT e :=
  (same_frame (kept_recordQuiet (same_closed { blocks := [2] } s) (Or.inl (by decide)) s r bs
    (same_self _ s))).regs _ _ (by decide) (by decide) (by decide)
theorem cnt_noteEvent (s : State) (i e : Nat) : (s.noteEvent i).g F.EVT_CNT_COUNT e = s.g F.EVT_CNT_COUNT e :=
  (same_frame (kept_noteEvent (same_closed { blocks := [] } s) s i (same_self _ s))).regs _ _ (by decide) (by decide)
    (by decide)

theorem cnt_raise1 (s : State) (i ctx e : Nat) :
    (s.raise1 i ctx).g F.EVT_CNT_COUNT e = (s.bump F.EVT_CNT_COUNT i).g F.EVT_CNT_COUNT e := by
  unfold State.raise1
  lift_lets
  intro s1 cnt entry s2
  have h2 : s2.g F.EVT_CNT_COUNT e = (s.bump F.EVT_CNT_COUNT i).g F.EVT_CNT_COUNT e :=
    (cnt_ashPut s1 entry e).trans (cnt_noteEvent _ _ _)
  clear_value s2
  intro s3
  have h3 : s3.g F.EVT_CNT_COUNT e = (s.bump F.EVT_CNT_COUNT i).g F.EVT_CNT_COUNT e :=
    (g_w_apart (by decide) _ _ _ _).trans h2
  clear_value s3
  intro s4
  have h4 : s4.g F.EVT_CNT_COUNT e = (s.bump F.EVT_CNT_COUNT i).g F.EVT_CNT_COUNT e := by
    unfold s4
    split
    · exact (cnt_recordQuiet _ _ _ _).trans h3
    · exact h3
  clear_value s4
  split
  · exact h2
  · split
    · exact h4
    · exact h4

theorem g_bump_inst (s : State) {i e : Nat} (h : e ≠ i) :
    (s.bump F.EVT_CNT_COUNT i).g F.EVT_CNT_COUNT e = s.g F.EVT_CNT_COUNT e := by
  unfold State.bump
  split
  · exact g_w_apart (by decide) _ _ _ _
  · exact g_w_inst h _ _

/-- Raising an event counts it once. Events 238 and 252 may follow another one (R413, R506). -/
theorem cnt_raise (s : State) (e ctx : Nat) (h1 : e ≠ 238) (h2 : e ≠ 252) :
    (s.raise e ctx).g F.EVT_CNT_COUNT e =
      if s.g F.EVT_CNT_COUNT e = 2 ^ 24 - 1 then s.g F.EVT_CNT_COUNT e else s.g F.EVT_CNT_COUNT e + 1 := by
  have hf : ∀ x : State, x.ashFlush.g F.EVT_CNT_COUNT e = x.g F.EVT_CNT_COUNT e := by
    intro x
    unfold State.ashFlush State.stick
    split
    · split
      · rfl
      · rw [cnt_raise1, g_bump_inst _ h2, g_w_apart (by decide)]
        rfl
    · rfl
  have hb := g_bump s F.EVT_CNT_COUNT e (by decide)
  unfold State.raise
  dsimp only
  rw [hf]
  split
  · rw [cnt_raise1, g_bump_inst _ h1, cnt_raise1]
    exact hb
  · rw [cnt_raise1]
    exact hb

theorem counted_raise (s : State) (e ctx : Nat) (h1 : e ≠ 238) (h2 : e ≠ 252) : Counted e s (s.raise e ctx) :=
  cnt_raise s e ctx h1 h2

/-- Raising an event leaves the counters of the others alone. -/
theorem cnt_raise_other (s : State) (i e ctx : Nat) (h : e ≠ i) (h1 : e ≠ 238) (h2 : e ≠ 252) :
    (s.raise i ctx).g F.EVT_CNT_COUNT e = s.g F.EVT_CNT_COUNT e := by
  have hf : ∀ x : State, x.ashFlush.g F.EVT_CNT_COUNT e = x.g F.EVT_CNT_COUNT e := by
    intro x
    unfold State.ashFlush State.stick
    split
    · split
      · rfl
      · rw [cnt_raise1, g_bump_inst _ h2, g_w_apart (by decide)]
        rfl
    · rfl
  unfold State.raise
  dsimp only
  rw [hf]
  split
  · rw [cnt_raise1, g_bump_inst _ h1, cnt_raise1, g_bump_inst _ h]
  · rw [cnt_raise1, g_bump_inst _ h]

/-- Setting a sticky bit of 0 raises its event once. -/
theorem counted_stickEv (s : State) (f : Fld) (n e : Nat) (hf : s.gb f n = false) (hc : apart F.EVT_CNT_COUNT f = true)
    (h1 : e ≠ 238) (h2 : e ≠ 252) : Counted e s (s.stickEv f n e) := by
  unfold State.stickEv State.stick State.raiseReg Counted
  rw [hf]
  simp only [Bool.false_eq_true, if_false]
  rw [cnt_raise _ _ _ h1 h2, g_w_apart hc]

/-! ### Writes of a register by its address -/

/-- Every field of a row lies in the register of the row. -/
theorem regTable_fields : regTable.all (fun r => r.fields.all fun f => f.fld.base = r.base && f.fld.lo < 32) = true := by
  decide +kernel

/-- The instances of a row lie in the block of its first one, but for the observer engines 16 and 17 (0x9000 on) and
CAN controller 1 (0x13000 on). -/
theorem regTable_pages : regTable.all (fun r => r.base < 131072 && ((r.base + r.stride * (r.count - 1)) / 4096 = r.base / 4096 ||
    (r.base / 4096 = 0x12 && r.stride = 4096 && r.count = 2) || (r.base < 0x8100 && r.stride = 256 && r.count = 18))) = true := by
  decide +kernel

end Sys2Proof.Laws
end

