-- ==== Sys2Proof/Machine/Balls.lean ====
section
/-! DEFINITION. What the balls of the device carry (R509, R510, R512, Table 18-4), read off the state: no step rests on it. -/

namespace Sys2Proof.Machine

/-- The balls of Table 18-4. -/
inductive Ball where
  | exc (n : Fin 16) | fbIn (n : Fin 16) | temp (j : Fin 64) | guard (p : Fin 4)
  | emuAB (i : Fin 8) | emuZ (i : Fin 8) | gtrig (o : Fin 16)
  | tpa | tpb | ftrip | canTxd (c : Fin 2) | canWake | tknO | twhbO | syncN | evtN | faultN
  | stream | twinTx | chainOut | spiOut | lvcmosIn | lvdsIn | pcie | clock
deriving DecidableEq, Repr

/-- High impedance; released, high by a pull-up; driven low or high; the owning block's own signal; a lane switched off; a
termination. -/
inductive Level where
  | hiZ | pulled | low | high | signal | off | terminated
deriving DecidableEq, Repr

/-- A driven level. -/
def driven (high : Bool) : Level := if high then .high else .low

/-- A permit: static low until bring-up step 2 releases the monitor, in high impedance in STANDBY (R326, R355, R528). -/
def State.permLevel (s : State) (perm : Bool) : Level :=
  if !s.smOn then .pulled else if s.tapHolds then .low else if s.standby then .pulled
  else if perm then .signal else .low

/-- The state of a ball: that of the first phase while a reset is asserted and until the owning block is released, then what
Dormant mode, the role STANDBY or the owning chapter gives. -/
def State.ball (s : State) : Ball → Level
  | .exc n => if s.excHiZ n then .hiZ else .signal
  | .fbIn _ => if s.released 4 then .signal else .hiZ
  | .temp j => if s.tmBall j = .highZ then .hiZ else .signal
  | .guard p => if (vget s.tsrc p).grd.isSome then .signal else .hiZ
  | .emuAB i => if !s.released 7 || [0, 4, 6].contains (s.emuCode i) then .hiZ else .signal
  | .emuZ i => if !s.released 7 || [0, 6].contains (s.emuCode i) then .hiZ else .signal
  | .gtrig o => if !s.released 7 || !s.gtDriven o then .pulled else driven (vget s.gt o).low.isNone
  | .tpa => s.permLevel (s.gb F.SAF_STAT_PERM_A)
  | .tpb => s.permLevel (s.gb F.SAF_STAT_PERM_B)
  | .ftrip => if s.smOn then driven s.ftripLevel else .pulled
  | .canTxd c => if s.dormant then .high else if !s.released 8 then .pulled
    else if s.standby || s.cst c = cConfig then .high else .signal
  | .canWake => if s.released 8 then driven s.canWake else .pulled
  | .tknO => if s.dormant then .high else if s.inRun then driven !s.twn.tko else .pulled
  | .twhbO => if s.inRun then driven s.twn.hbo else .pulled
  | .syncN => if 0 < tdiff s.chn.pulse s.now then .low else .pulled
  | .evtN => if s.evtLow then .low else .pulled
  | .faultN => if s.faultN then .pulled else .low
  | .stream => if s.driving then .signal else .off
  | .twinTx => if s.twnRun then .signal else .off
  | .chainOut => if s.chnOn || s.chnRepeats then .signal else .off
  | .spiOut => .pulled
  | .lvcmosIn => .pulled
  | .lvdsIn => .terminated
  | .pcie => if s.host.up then .signal else .off
  | .clock => .signal

end Sys2Proof.Machine
end

