-- ==== Sys2Proof/Tests/Slice0.lean ====
section
/-! SUPPORT. Tests: words of Vent instructions written out from Table 10-4, terms that `WellFormed` refuses, single steps, and
for every statement with hypotheses a state and operands that meet them, clause by clause, at boundary values. -/

namespace Sys2Proof.Tests

open Sys2Proof Sys2Proof.Machine Sys2Proof.Laws

set_option maxRecDepth 100000
set_option Elab.async false

/-! ### States the tests start from -/

/-- In RUN, bring-up over, the converters and the safety monitor on, STIME 2^40 (a number of samples that is a whole one). -/
def run : State :=
  let s : State := { State.reset with now := 2 ^ 40, t := 2 ^ 40, k := 85899345, adcOn := true, smOn := true,
                                         host := { State.reset.host with released := true } }
  (s.w F.GLB_STATUS_MODE 0 1).w F.RST_STAT_STEP 0 10

/-- In BRINGUP; in a warm reset; in DORMANT. -/
def boot : State := { State.reset with now := 2 ^ 40, t := 2 ^ 40 }
def wrm : State := { boot with rst := { boot.rst with warm := true } }
def dorm : State := boot.w F.GLB_STATUS_MODE 0 2

/-- Vent engine `e` runs at word 0, which is instruction `i`. -/
def vAt (e : Nat) (i : VInstr) : State :=
  let s : State := (run.w F.VNT_STAT_STATE e vRun).setSram32 (ventBase + 4096 * e) (ventEncode i).toNat
  s.updVnt e fun v => { v with budget := 9, due := s.now }

/-- COMMAND ring 2 runs, with three descriptors. -/
def ringSt : State :=
  (((run.w F.HIF_STAT_BME 0 1).w F.HIF_RING_CFG_EN 2 1).w F.HIF_RING_CFG_SIZE 2 4).w F.HIF_RING_DB_TAIL 2 3

/-- The unit's own tag, which the spec leaves to the factory (log entry 4), and a tag of another unit. -/
def ownTag : Nat := Config.originTag.toNat
def otherTag : Nat := ownTag + 1

theorem tag_read (s : State) (h : SMap.get 0 s.fields (F.CHN_ORIGIN_TAG.key 0) = 0) :
    s.g F.CHN_ORIGIN_TAG = ownTag := by
  unfold State.g
  rw [h, Nat.zero_xor]
  exact Nat.mod_eq_of_lt Config.originTag.isLt

theorem num_tag (a b : Byte) (x : Nat) (l : List Byte) : frameNum ([a, b] ++ leBytes 2 x ++ l) 2 2 = x % 65536 := by
  simp [frameNum, leBytes, leNat]
  omega

theorem own_tag (s : State) (a b : Byte) (l : List Byte) (h : SMap.get 0 s.fields (F.CHN_ORIGIN_TAG.key 0) = 0) :
    frameNum ([a, b] ++ leBytes 2 ownTag ++ l) 2 2 = s.g F.CHN_ORIGIN_TAG := by
  have := Config.originTag.isLt
  rw [tag_read s h, num_tag]
  unfold ownTag
  omega

theorem other_tag (s : State) (a b : Byte) (l : List Byte) (h : SMap.get 0 s.fields (F.CHN_ORIGIN_TAG.key 0) = 0) :
    frameNum ([a, b] ++ leBytes 2 otherTag ++ l) 2 2 ≠ s.g F.CHN_ORIGIN_TAG := by
  have := Config.originTag.isLt
  rw [tag_read s h, num_tag]
  unfold otherTag ownTag
  omega

/-! ### Images and their CRC -/

theorem erase_filter (p : Nat × Nat → Bool) (k : Nat) (h : ∀ v, p (k, v) = false) (m : List (Nat × Nat)) :
    (SMap.erase m k).filter p = m.filter p := by
  induction m with
  | nil => rfl
  | cons c m ih =>
    obtain ⟨j, v⟩ := c
    unfold SMap.erase
    split
    · subst_vars
      simp [h, ih]
    · simp [List.filter_cons, ih]

theorem ins_filter (p : Nat × Nat → Bool) (k v : Nat) (h : p (k, v) = false) (m : List (Nat × Nat)) :
    (SMap.ins m k v).filter p = m.filter p := by
  induction m with
  | nil => simp [SMap.ins, h]
  | cons c m ih =>
    obtain ⟨j, w⟩ := c
    unfold SMap.ins
    split
    · simp [List.filter_cons, h]
    · simp [List.filter_cons, ih]

theorem pendImage_crc (s : State) (v : Nat) : (s.w F.SAF_CFGCRC_CRC 0 v).pendImage = s.pendImage := by
  have h : ∀ v, (fun f : Nat × Nat => inImage (keyBase f.1)) (F.SAF_CFGCRC_CRC.key 0, v) = false := fun _ => by
    show inImage (keyBase (F.SAF_CFGCRC_CRC.key 0)) = false
    decide
  unfold State.w State.pendImage SMap.set
  dsimp only
  split
  · exact erase_filter _ _ h _
  · exact (ins_filter _ _ _ (h _) _).trans (erase_filter _ _ h _)

theorem imageBad_crc (s : State) (v : Nat) : (s.w F.SAF_CFGCRC_CRC 0 v).imageBad = s.imageBad := by
  unfold State.imageBad State.gb
  simp only [g_w_apart (show apart F.SAF_SI_CFG_EN F.SAF_CFGCRC_CRC = true by decide),
    g_w_apart (show apart F.SAF_SI_CFG_FUNC F.SAF_CFGCRC_CRC = true by decide),
    g_w_apart (show apart F.SAF_SI_CFG_AXES F.SAF_CFGCRC_CRC = true by decide),
    g_w_apart (show apart F.SAF_VIN_CFG_EN F.SAF_CFGCRC_CRC = true by decide),
    g_w_apart (show apart F.SAF_VIN_CFG_FUNC F.SAF_CFGCRC_CRC = true by decide),
    g_w_apart (show apart F.SAF_VIN_CFG_AXES F.SAF_CFGCRC_CRC = true by decide),
    g_w_apart (show apart F.AX_CFG_EN F.SAF_CFGCRC_CRC = true by decide),
    g_w_apart (show apart F.AX_CFG_NPORT F.SAF_CFGCRC_CRC = true by decide)]

theorem axesAtRest_crc (s : State) (v : Nat) : (s.w F.SAF_CFGCRC_CRC 0 v).axesAtRest = s.axesAtRest := by
  unfold State.axesAtRest State.gb
  simp only [g_w_apart (show apart F.AX_CFG_EN F.SAF_CFGCRC_CRC = true by decide)]
  rfl

theorem crcByteR_lt (c : Nat) (b : Byte) (h : c < 2 ^ 32) : crcByteR 0x82F63B78 c b < 2 ^ 32 := by
  have hx : c ^^^ b.toNat < 2 ^ 32 := Nat.xor_lt_two_pow h (by have := b.isLt; omega)
  unfold crcByteR
  generalize List.range 8 = l
  generalize c ^^^ b.toNat = x at hx
  induction l generalizing x with
  | nil => exact hx
  | cons _ l ih =>
    rw [List.foldl_cons]
    refine ih _ ?_
    by_cases h1 : x % 2 = 1
    · rw [if_pos h1]
      exact Nat.xor_lt_two_pow (by omega) (by decide)
    · rw [if_neg h1]
      omega

theorem crc_lt (img : List (Nat × Nat)) : imageCrc img < 2 ^ 32 := by
  unfold imageCrc crc32c
  refine Nat.xor_lt_two_pow ?_ (by decide)
  generalize (imageAddrs.flatMap fun a => leBytes 4 (imageWord img a)) = bs
  have : (0xFFFFFFFF : Nat) < 2 ^ 32 := by decide
  revert this
  generalize (0xFFFFFFFF : Nat) = c
  intro h
  induction bs generalizing c with
  | nil => exact h
  | cons b bs ih => exact ih _ (crcByteR_lt c b h)

def keyed : State := run.setKey .bar0 2

theorem image_matches : ∃ v, (keyed.w F.SAF_CFGCRC_CRC 0 v).imageBad = false ∧
    imageCrc (keyed.w F.SAF_CFGCRC_CRC 0 v).pendImage = (keyed.w F.SAF_CFGCRC_CRC 0 v).g F.SAF_CFGCRC_CRC ∧
    (keyed.w F.SAF_CFGCRC_CRC 0 v).axesAtRest = true := by
  refine ⟨imageCrc keyed.pendImage, ?_, ?_, ?_⟩
  · rw [imageBad_crc]; decide +kernel
  · rw [pendImage_crc, g_w_same, show F.SAF_CFGCRC_CRC.width = 32 from rfl, Nat.mod_eq_of_lt (crc_lt _)]
  · rw [axesAtRest_crc]; decide +kernel

theorem image_differs : ∃ v, (keyed.w F.SAF_CFGCRC_CRC 0 v).imageBad = false ∧
    imageCrc (keyed.w F.SAF_CFGCRC_CRC 0 v).pendImage ≠ (keyed.w F.SAF_CFGCRC_CRC 0 v).g F.SAF_CFGCRC_CRC := by
  refine ⟨imageCrc keyed.pendImage + 1, ?_, ?_⟩
  · rw [imageBad_crc]; decide +kernel
  · rw [pendImage_crc, g_w_same, show F.SAF_CFGCRC_CRC.width = 32 from rfl]
    have := crc_lt keyed.pendImage
    revert this
    generalize imageCrc keyed.pendImage = c
    omega

/-- As `keyed`, with axis 0 enabled in the pending image and in RUN. -/
def moving : State := ((keyed.w F.AX_CFG_EN 0 1).w F.AX_CFG_NPORT 0 1).updAx false 0 fun x => { x with st := xRun }

theorem image_moving : ∃ v, (moving.w F.SAF_CFGCRC_CRC 0 v).imageBad = false ∧
    imageCrc (moving.w F.SAF_CFGCRC_CRC 0 v).pendImage = (moving.w F.SAF_CFGCRC_CRC 0 v).g F.SAF_CFGCRC_CRC ∧
    (moving.w F.SAF_CFGCRC_CRC 0 v).axesAtRest = false := by
  refine ⟨imageCrc moving.pendImage, ?_, ?_, ?_⟩
  · rw [imageBad_crc]; decide +kernel
  · rw [pendImage_crc, g_w_same, show F.SAF_CFGCRC_CRC.width = 32 from rfl, Nat.mod_eq_of_lt (crc_lt _)]
  · rw [axesAtRest_crc]; decide +kernel

theorem reaches_crc (s : State) (v a : Nat) : (s.w F.SAF_CFGCRC_CRC 0 v).reaches a = s.reaches a := by
  unfold State.reaches State.released State.inRun
  simp only [g_w_apart (show apart F.RST_STAT_STEP F.SAF_CFGCRC_CRC = true by decide),
    g_w_apart (show apart F.GLB_STATUS_MODE F.SAF_CFGCRC_CRC = true by decide)]
  rfl

theorem keyed_reaches (v : Nat) : (keyed.w F.SAF_CFGCRC_CRC 0 v).reaches 0x10000 = true := by
  rw [reaches_crc]
  decide +kernel

theorem moving_reaches (v : Nat) : (moving.w F.SAF_CFGCRC_CRC 0 v).reaches 0x10000 = true := by
  rw [reaches_crc]
  decide +kernel

theorem open_crc (s : State) (v : Nat) :
    (State.at (s.w F.SAF_CFGCRC_CRC 0 v) ⟨.bar0, 0⟩).keyPhase .bar0 = (s.at ⟨.bar0, 0⟩).keyPhase .bar0 := rfl

theorem keyed_open (v : Nat) : (State.at (keyed.w F.SAF_CFGCRC_CRC 0 v) ⟨.bar0, 0⟩).keyPhase .bar0 = 2 := by
  rw [open_crc]
  decide +kernel

theorem moving_open (v : Nat) : (State.at (moving.w F.SAF_CFGCRC_CRC 0 v) ⟨.bar0, 0⟩).keyPhase .bar0 = 2 := by
  rw [open_crc]
  decide +kernel

/-! ### Other small states and facts -/

theorem pulse_none (s : State) (h : ∀ e : Fin 7, (s.vnt! e).pulse = none) (v : Nat) : (s.vnt! v).pulse = none := by
  by_cases hv : v < 7
  · exact h ⟨v, hv⟩
  · simp [State.vnt!, vget, hv]
    rfl

theorem acc_none {v : VntSt} (ha : v.acc = none) (hp : v.pacc = none) (u : Nat) : ¬ (v.acc = some u ∨ v.pacc = some u) := by
  rw [ha, hp]
  simp

/-- Both channels toggle their permits. -/
def permSt : State := (run.w (permFld false) 0 1).w (permFld true) 0 1

/-! ### Ill-formed terms -/

theorem refused_sub : (Instr.frameRequest 3 true 12800).wf = false ∧ (Instr.frameRequest 3 true 12799).wf = true := by decide
theorem refused_src : (Instr.commit ⟨.bar0, 12800⟩).wf = false ∧ (Instr.commit ⟨.bar0, 0⟩).wf = true := by decide
theorem refused_bar0 : (Instr.snapshotRead ⟨.bar0, 0⟩ ⟨0x40000, 4⟩).wf = false ∧
    (Instr.snapshotRead ⟨.bar0, 0⟩ ⟨2, 4⟩).wf = false ∧ (Instr.snapshotRead ⟨.bar0, 0⟩ ⟨2, 2⟩).wf = true ∧
    (Instr.snapshotRead ⟨.bar0, 0⟩ ⟨0x3FFFF, 1⟩).wf = true := by decide
theorem refused_size : (Instr.registerWrite ⟨.bar0, 0⟩ 0 0 3).wf = false ∧
    (Instr.registerWrite ⟨.bar0, 0⟩ 1 0 1).wf = true := by decide
theorem refused_bar2 : (Instr.bar2Write ⟨.bar0, 0⟩ 0x200000 0).wf = false ∧ (Instr.bar2Write ⟨.bar0, 0⟩ 6 0).wf = false ∧
    (Instr.bar2Write ⟨.bar0, 0⟩ 0x1FFFFC 0).wf = true := by decide
theorem refused_saf : (Instr.keyedWrite ⟨.bar0, 0⟩ 0x12000 0).wf = false ∧ (Instr.keyedWrite ⟨.bar0, 0⟩ 0x10000 0).wf = true := by
  decide
theorem refused_item : (Instr.freshnessExpiry (.detector 0x40000)).wf = false ∧ (Instr.freshnessExpiry (.engine 17)).wf = true := by
  decide
theorem refused_pairs : (Instr.regwr ⟨1, true, 0⟩ (List.replicate 256 ⟨0, 0⟩)).wf = false ∧
    (Instr.regwr ⟨1, true, 0⟩ [⟨2 ^ 32, 0⟩]).wf = false ∧ (Instr.regwr ⟨1, true, 0⟩ [⟨1, 0⟩]).wf = true := by decide +kernel
theorem refused_words : (Instr.regrd ⟨1, true, 0⟩ (2 ^ 32)).wf = false ∧ (Instr.sramwr ⟨1, true, 0⟩ (2 ^ 32) []).wf = false ∧
    (Instr.ashrd ⟨1, true, 0⟩ 0 (2 ^ 32)).wf = false ∧ (Instr.ashrd ⟨1, true, 0⟩ 0 32).wf = true := by decide
theorem refused_period : (Instr.carrierPeriodEnd 2 ⟨65536, 0, 0, 0, 0⟩).wf = false ∧
    (Instr.carrierPeriodEnd 2 ⟨65535, 0, 0, 0, 2 ^ 31⟩).wf = true := by decide +kernel
theorem refused_serial : (Instr.frameEnd 2 ⟨0, 2 ^ 40, 0, 0, true, 0⟩).wf = false ∧
    (Instr.frameEnd 2 ⟨0, 0, 2 ^ 34, 0, true, 0⟩).wf = false ∧
    (Instr.frameEnd 2 ⟨0, 2 ^ 40 - 1, 63, 0, true, 2 ^ 32 - 1⟩).wf = true := by decide +kernel
theorem refused_edge : (Instr.quadratureEdge 2 ⟨0, true, false, false, 12800, 0⟩).wf = false ∧
    (Instr.hallEdge 2 ⟨0, 5, -10401, 0⟩).wf = false ∧ (Instr.hallEdge 2 ⟨0, 5, -10400, 0⟩).wf = true := by decide
theorem refused_pins : (Instr.tmpFilterOutput 5 ⟨#v[0, 0, 0, 2 ^ 24]⟩).wf = false ∧
    (Instr.tmpFilterOutput 5 ⟨#v[0, 1 - 2 ^ 24, 0, 0]⟩).wf = true := by decide +kernel
theorem refused_can : (Instr.canFrameReceived 0 ⟨0, 3, [1, 2], 0⟩).wf = false ∧
    (Instr.canFrameReceived 0 ⟨0, 2, [1, 2], 0⟩).wf = true ∧ (Instr.canFrameReceived 0 ⟨0x40000000, 2, [], 0⟩).wf = true := by
  decide +kernel
theorem refused_chain : (Instr.token ⟨[1], 0⟩).wf = false ∧ (Instr.token ⟨List.replicate 16 0, 12799⟩).wf = true := by decide
theorem refused_spi : (Instr.spiRead [0x20, 0, 0, 0] 0).wf = false ∧ (Instr.spiRead (0xA0 :: List.replicate 12 0) 0).wf = false ∧
    (Instr.spiRead (0x20 :: List.replicate 12 0) 0).wf = true ∧ (Instr.spiWrite (0xA0 :: List.replicate 12 0) 0).wf = true := by
  decide +kernel
theorem refused_cut : (Instr.spiAbort (0x20 :: List.replicate 12 0) 0).wf = false ∧ (Instr.spiAbort [0x20, 0] 0).wf = true := by
  decide +kernel
theorem refused_mirror : (Instr.mirrorFrameReceived []).wf = false ∧
    (Instr.mirrorFrameReceived (List.replicate 1108 0)).wf = true := by decide +kernel
theorem refused_hit : (Instr.scrubPass [⟨0x30000, 1⟩]).wf = false ∧
    (Instr.scrubPass [⟨0x2FFFF, 1⟩]).wf = true := by decide +kernel
theorem refused_parity : (Instr.registerParityCheck (some 3)).wf = false ∧ (Instr.registerParityCheck none).wf = true := by decide
theorem refused_pulse : (Instr.resetNPulse (2 ^ 32) true).wf = false ∧ (Instr.resetNPulse 1500 true).wf = true := by decide
theorem refused_opcode : (Instr.badDescriptor ⟨1, true, 0⟩ 8).wf = false ∧ (Instr.badDescriptor ⟨1, true, 0⟩ 9).wf = true := by decide

/-! ### Vent words, bit by bit from Table 10-4: opcode, rd, ra, I, rb, imm -/

/-- MOV w5, −2: 0x01, rd 5, ra 0, I 1, 0, 0xFFFE. -/
theorem decode_mov : ventDecode (0b000001_101_000_1_000_1111111111111110#32) = some (.mov 5 (.imm 0xFFFE#16)) := by
  decide +kernel
/-- MOVH w7, 0x8000; the same without I is illegal. -/
theorem decode_movh : ventDecode (0b000010_111_000_1_000_1000000000000000#32) = some (.movh 7 0x8000#16) ∧
    ventDecode (0b000010_111_000_0_000_1000000000000000#32) = none := by decide +kernel
/-- SUB w1, w2, w3; SAR w4, w6, 0xFFFF. -/
theorem decode_alu : ventDecode (0b000100_001_010_0_011_0000000000000000#32) = some (.alu .sub 1 2 (.reg 3)) ∧
    ventDecode (0b001010_100_110_1_000_1111111111111111#32) = some (.alu .sar 4 6 (.imm 0xFFFF#16)) := by decide +kernel
/-- CMP w2, 0x8000; rd is ignored. -/
theorem decode_cmp : ventDecode (0b001011_111_010_1_000_1000000000000000#32) = some (.cmp 2 (.imm 0x8000#16)) := by
  decide +kernel
/-- BR SC, 1023; condition codes 11 to 15 are illegal (R291). -/
theorem decode_br : ventDecode (0b010000_1010_000000000000_1111111111#32) = some (.br .sc 1023) ∧
    ventDecode (0b010000_1011_000000000000_1111111111#32) = none := by decide +kernel
/-- LD w3, [0x104 + w1]; ST [0x7F], w6. -/
theorem decode_mem : ventDecode (0b010100_011_001_1_000_000000_0100000100#32) = some (.ld 3 1 true 0x104) ∧
    ventDecode (0b010101_110_000_0_000_000000_0001111111#32) = some (.st 6 0 false 0x7F) := by decide +kernel
/-- WAIT EVENT 191: mode 3 in bits 25:24. -/
theorem decode_wait : ventDecode (0b011000_11_0_000_0_000_0000000010111111#32) = some (.wait 3 0 191) := by decide +kernel
/-- ACT 0x12, ra 5, rb 6, imm14 0x1234. -/
theorem decode_act : ventDecode (0b011100_010010_101_110_01001000110100#32) = some (.act 0x12 5 6 0x1234) := by decide +kernel
/-- POST 11, HALT; opcode 0 and an opcode of no instruction are illegal (R289). -/
theorem decode_rest : ventDecode (0b011001_0000000000000000000000_1011#32) = some (.post 11) ∧
    ventDecode (0b011111_00000000000000000000000000#32) = some .halt ∧ ventDecode 0#32 = none ∧
    ventDecode (0b111111_00000000000000000000000000#32) = none := by decide +kernel

/-! ### Check values and single steps -/

/-- Of "123456789": the CRC-32 is 0xCBF43926, the CRC-32C 0xE3069283, the CRC-8 of R277 (0x2F, initial value 0xFF, no final
XOR) 0x20: the published check values, the last with its final XOR undone. -/
theorem check_values : crc8 [0x31, 0x32, 0x33, 0x34, 0x35, 0x36, 0x37, 0x38, 0x39] = 0x20 ∧
    crc32 [0x31, 0x32, 0x33, 0x34, 0x35, 0x36, 0x37, 0x38, 0x39] = 0xCBF43926 ∧
    crc32c [0x31, 0x32, 0x33, 0x34, 0x35, 0x36, 0x37, 0x38, 0x39] = 0xE3069283 := by decide +kernel

/-- No row of the table gives bits: no word spells a command, and nothing is queued for one. -/
theorem no_bits : decodeTableWord 32 0x00020481 = none ∧ (State.reset.withFetchWord 32 5).pending = [] := by decide

/-- The state a command leads to. -/
def after (c : Instr) (s : State) : State :=
  match step { s with pending := [c] } with
  | .next t => t
  | _ => s

/-- STAGED_WRITE of the word at 0x5000 by BAR0 enters the set with owner 1 and leaves the register (R36, R37). -/
theorem step_staged : let t := after (.stagedWrite ⟨.bar0, 0⟩ 0x5000 5) run
    t.staged.length = 1 ∧ t.g F.GLB_CSTAT_OWNER = 1 ∧ t.regWord 0x5000 = run.regWord 0x5000 := by decide +kernel
/-- COMMIT closes the set with BUSY 1 (R39). -/
theorem step_commit : let t := after (.commit ⟨.bar0, 0⟩) (after (.stagedWrite ⟨.bar0, 0⟩ 0x5000 5) run)
    t.staged = [] ∧ t.gb F.GLB_CSTAT_BUSY = true := by decide +kernel
/-- A COMMIT of SPI does not take the set of BAR0 (R38). -/
theorem step_foreign : let t := after (.commit ⟨.spi, 0⟩) (after (.stagedWrite ⟨.bar0, 0⟩ 0x5000 5) run)
    t.staged.length = 1 ∧ t.g F.GLB_CSTAT_REFUSED = 1 := by decide +kernel
/-- BAR2_WRITE in RUN with SRAM_WR 0 leaves SRAM (R50). -/
theorem step_bar2 : (after (.bar2Write ⟨.bar0, 0⟩ 0x100 0x01020304) run).sram = [] ∧
    (after (.bar2Write ⟨.bar0, 0⟩ 0x100 0x01020304) (run.w F.GLB_DIAG_SRAM_WR 0 1)).sramByte 0x103 = 1#8 := by decide +kernel
/-- STIME_WRAP toggles ERA (R10). -/
theorem step_wrap : (after .stimeWrap { run with now := 2 ^ 64 - 12800 }).gb F.GLB_STATUS_ERA = true := by decide +kernel
/-- A Vent ADD that overflows: 0x7FFFFFFF + 1 sets N and V, clears Z and C (Table 10-5). -/
theorem step_add : let t := after (.add 0) ((vAt 0 (.alu .add 1 2 (.imm 1))).w (F.VNT_W_W 2) 0 0x7FFFFFFF)
    t.vreg 0 1 = 0x80000000#32 ∧ t.vflags 0 = { z := false, n := true, c := false, v := true, t := false, s := false } := by
  decide +kernel
/-- SUB 0 − 1 borrows: C and N (Table 10-5). -/
theorem step_sub : let t := after (.sub 0) (vAt 0 (.alu .sub 1 2 (.imm 1)))
    t.vreg 0 1 = 0xFFFFFFFF#32 ∧ (t.vflags 0).c = true ∧ (t.vflags 0).n = true ∧ (t.vflags 0).v = false := by decide +kernel
/-- SAR by 33 shifts by 1 (src[4:0]). -/
theorem step_sar : (after (.sar 0) ((vAt 0 (.alu .sar 1 2 (.imm 33))).w (F.VNT_W_W 2) 0 0x80000002)).vreg 0 1 = 0xC0000001#32 := by
  decide +kernel
/-- A zero word faults with BADOP (R289, R304). -/
theorem step_zero : let t := after (.illegalOpcode 0) ((vAt 0 .halt).setSram32 (ventBase) 0)
    t.vst 0 = vFault ∧ t.gb F.VNT_STKY_BADOP 0 = true := by decide +kernel
/-- A keyed command with a wrong key only sets KEYERR (R482). -/
theorem step_key : let t := after (.fullrst ⟨.bar0, 0⟩ 0xB0D4) run
    t.rst.warm = false ∧ bitOf (t.g F.RST_STKY_BITS) 9 = true := by decide +kernel
/-- FULLRST with its key starts a warm reset (R453). -/
theorem step_fullrst : (after (.fullrst ⟨.bar0, 0⟩ 0xB0D5) run).rst.warm = true := by decide +kernel
/-- A NOP descriptor moves the head of its ring by one (R401). -/
theorem step_nop : (after (.nop ⟨2, false, 0⟩) ringSt).g F.HIF_RING_HEAD_HEAD 2 = 1 := by decide +kernel

/-- The code of R484: d₀ = 1 alone has the generator's coefficients 8, 14, 7 as check symbols; one wrong symbol is found and
corrected, two are not corrected (R485). -/
theorem ecc_generator : eccEncode (1#8 :: List.replicate 7 0#8) = [8#8, 14#8, 7#8, 1#8] ++ List.replicate 7 0#8 := by decide +kernel
theorem ecc_corrects : let w := eccEncode [0x12#8, 0x34#8, 0x56#8, 0x78#8, 0x9A#8, 0xBC#8, 0xDE#8, 0xF0#8]
    eccDecode w = .clean ∧ eccDecode (w.set 7 0x5A#8) = .fixed 7 w ∧
    eccDecode ((w.set 0 0x55#8).set 10 0xAA#8) = .bad := by decide +kernel
/-- 138.5055 Ω of a PT100 is 100 °C by the equation of R318. -/
theorem platinum_100 : platinum 138505500 100000000 = some (100 * 65536) := by decide +kernel
/-- A write of a byte leaves the device's registers; a read gives the portion (R16). -/
theorem step_byte : (after (.registerWrite ⟨.bar0, 0⟩ 0x5000 0xFF 1) run).fields = run.fields ∧
    portionOf 0x12345678 0x1002 2 = 0x1234 ∧ portionOf 0x12345678 0x1003 1 = 0x12 := by decide +kernel

/-! ### Witnesses of the hypotheses of the statements -/

theorem witness_StepRunsTheFrontCommand :
    (∃ (c : Instr) (rest : List Instr) (s : State), s.pending = c :: rest) ∧
    (∃ (s : State), s.pending = []) :=
  ⟨⟨.chainLoss, [], (let s : State := run; let s : State := { s with pending := [Instr.chainLoss] }; s), by decide +kernel⟩,
    ⟨run, by decide +kernel⟩⟩

theorem witness_ResetLeavesTheStatedValues :
    (∃ (n : Nat), n < 16) ∧
    (∃ (m : Nat), m < 18) ∧
    (∃ (i : Nat), i < 8) ∧
    (∃ (e : Nat), e < 7) :=
  ⟨⟨0, by decide +kernel⟩,
    ⟨0, by decide +kernel⟩,
    ⟨0, by decide +kernel⟩,
    ⟨0, by decide +kernel⟩⟩

theorem witness_EveryStepKeepsTheInvariant :
    (∃ (s : State) (t : State), Machine.Inv s ∧ step s = .next t) :=
  ⟨State.reset, State.reset, ⟨by decide +kernel, by decide +kernel, by decide +kernel, by decide +kernel, rfl, nofun⟩, rfl⟩

theorem witness_VentDecodeOfEncode :
    (∃ (w : Word) (v : Word), w.extractLsb' 26 6 = v.extractLsb' 26 6 ∧ w.extractLsb' 26 6 = 0x1F#6) ∧
    (∃ (w : Word) (v : Word), w.extractLsb' 26 6 = v.extractLsb' 26 6 ∧ w.extractLsb' 26 6 = 0x19#6 ∧ w.extractLsb' 0 4 = v.extractLsb' 0 4) ∧
    (∃ (w : Word) (v : Word), w.extractLsb' 26 6 = v.extractLsb' 26 6 ∧ w.extractLsb' 26 6 = 0x10#6 ∧ w.extractLsb' 22 4 = v.extractLsb' 22 4 ∧ w.extractLsb' 0 10 = v.extractLsb' 0 10) :=
  ⟨⟨0x7C000000#32, 0x7FFFFFFF#32, by decide +kernel⟩,
    ⟨0x64000005#32, 0x67FFFFF5#32, by decide +kernel⟩,
    ⟨0x40000011#32, 0x403FFC11#32, by decide +kernel⟩⟩

theorem witness_SnapshotLatchesOfThePaths :
    (∃ (src : Src) (p : Path), pathCls p ≠ pathCls src.path) ∧
    (∃ (d : Desc) (p : Path), pathCls p ≠ pathCls (.ring d.ring)) ∧
    (∃ (p : Path), pathCls p ≠ pathCls .spi) ∧
    (∃ (s : State), s.rst.warm = false) :=
  ⟨⟨⟨.bar0, 0⟩, .ring 3, by decide +kernel⟩,
    ⟨⟨1, true, 9#16⟩, .bar0, by decide +kernel⟩,
    ⟨.bar0, by decide +kernel⟩,
    ⟨run, by decide +kernel⟩⟩

theorem witness_ResetsDuringAWarmReset :
    (∃ (s : State), s.rst.warm = true) ∧
    (∃ (b : Fin 8) (s : State), 2 ≤ b.val ∧ s.rst.warm = true) ∧
    (∃ (s : State), s.rst.warm = true ∧ (s.rst.byPin = true ∨ s.rst.byPerst = true ∨ 0 ≤ tdiff s.rst.endAt (tadd s.now sampleU))) ∧
    (∃ (b : Fin 8) (s : State), 2 ≤ b.val ∧ s.rst.warm = false) ∧
    (∃ (s : State), s.rst.warm = false) :=
  ⟨⟨(let s : State := run; let s : State := { s with rst := { s.rst with warm := true } }; s), by decide +kernel⟩,
    ⟨7, (let s : State := run; let s : State := { s with rst := { s.rst with warm := true } }; s), by decide +kernel⟩,
    ⟨(let s : State := run; let s : State := { s with rst := { s.rst with warm := true } }; let s : State := { s with rst := { s.rst with byPin := true } }; s), by decide +kernel⟩,
    ⟨7, run, by decide +kernel⟩,
    ⟨run, by decide +kernel⟩⟩

theorem witness_EntryToRunAfterStepEight :
    (∃ (s : State), s.g F.GLB_STATUS_MODE = 0 ∧ s.rst.warm = false ∧ s.g F.RST_STAT_STEP = 8 ∧ s.stepOver 8 = true) ∧
    (∃ (s : State), s.g F.GLB_STATUS_MODE = 0 ∧ s.rst.warm = false ∧ s.g F.RST_STAT_STEP ≤ 1 ∧ s.stepOver 1 = true ∧ ({ s with t := s.now } : State).chooseRecord.rst.warm = false) ∧
    (∃ (s : State) (k : Nat), (k = 2 ∨ k = 3 ∧ s.gb F.RST_STAT_DLATCH = false ∧ s.g F.RST_STAT_BOOTSRC ≠ 1 ∨ 4 ≤ k ∧ k ≤ 7) ∧ s.g F.GLB_STATUS_MODE = 0 ∧ s.rst.warm = false ∧ s.g F.RST_STAT_STEP = k ∧ s.stepOver k = true) ∧
    (∃ (s : State), s.g F.GLB_STATUS_MODE = 0 ∧ s.rst.warm = false ∧ s.g F.RST_STAT_STEP = 3 ∧ s.stepOver 3 = true ∧ s.gb F.RST_STAT_DLATCH = false ∧ s.g F.RST_STAT_BOOTSRC = 1) ∧
    (∃ (s : State) (k : Nat), s.g F.GLB_STATUS_MODE = 0 ∧ s.rst.warm = false ∧ s.g F.RST_STAT_STEP = k ∧ s.stepOver (max 1 k) = false) :=
  ⟨⟨(let s : State := run; let s : State := s.w (F.GLB_STATUS_MODE) (0) (0); let s : State := s.w (F.RST_STAT_STEP) (0) (8); s), by decide +kernel⟩,
    ⟨(let s : State := run; let s : State := s.w (F.GLB_STATUS_MODE) (0) (0); let s : State := s.w (F.RST_STAT_STEP) (0) (1); let s : State := s.w (F.RST_STAT_CLKQ) (0) 1; s), by decide +kernel⟩,
    ⟨(let s : State := run; let s : State := s.w F.RST_STAT_STEP 0 2; s.w F.GLB_STATUS_MODE 0 0), 2, by decide +kernel⟩,
    ⟨(let s : State := run; let s : State := s.w (F.GLB_STATUS_MODE) (0) (0); let s : State := s.w (F.RST_STAT_STEP) (0) (3); let s : State := s.w (F.RST_STAT_BOOTSRC) (0) (1); s), by decide +kernel⟩,
    ⟨boot, _, by decide +kernel, by decide +kernel, rfl, by decide +kernel⟩⟩

theorem witness_StagedWriteEntersTheSet :
    (∃ (src : Src) (addr : Nat) (s : State), s.reaches addr = true ∧ isStaged addr = true ∧ (s.writeTarget addr).isSome = true ∧ s.mayStage src.path = true ∧ s.inSet (.reg addr) = false ∧ s.staged.length < 2048) ∧
    (∃ (src : Src) (addr : Nat) (s : State), s.reaches addr = true ∧ isStaged addr = true ∧ (s.writeTarget addr).isSome = true ∧ s.mayStage src.path = true ∧ s.inSet (.reg addr) = true) ∧
    (∃ (src : Src) (addr : Nat) (s : State), s.reaches addr = true ∧ isStaged addr = true ∧ (s.writeTarget addr).isSome = true ∧ s.mayStage src.path = false) ∧
    (∃ (src : Src) (addr : Nat) (s : State), s.reaches addr = true ∧ isStaged addr = true ∧ (s.writeTarget addr).isSome = true ∧ s.mayStage src.path = true ∧ s.inSet (.reg addr) = false ∧ 2048 ≤ s.staged.length) :=
  ⟨⟨⟨.bar0, 0⟩, 0x5000, run, by decide +kernel⟩,
    ⟨⟨.bar0, 0⟩, 0x5000, (let s : State := run; let s : State := { s with staged := [{ tgt := .reg 0x5000, value := 0, did := none }] }; let s : State := s.w F.GLB_CSTAT_OWNER 0 1; s), by decide +kernel⟩,
    ⟨⟨.bar0, 0⟩, 0x5000, (let s : State := run; let s : State := { s with staged := [default] }; s), by decide +kernel⟩,
    ⟨⟨.bar0, 0⟩, 0x5000, (let s : State := run; let s : State := { s with staged := (List.range 2048).map fun i => { tgt := .reg (0x9000 + 4 * i), value := 0, did := none } }; let s : State := s.w F.GLB_CSTAT_OWNER 0 1; s), by decide +kernel⟩⟩

theorem witness_CommitClosesTheSet :
    (∃ (src : Src) (s : State), s.reaches 0x8 = true ∧ s.gb F.GLB_CSTAT_BUSY = false ∧ s.mayCommit src.path = true ∧ s.overflow = false ∧ s.poisonIn 0x128000 0x130000 = false ∧ tooBig s.groups = false) ∧
    (∃ (src : Src) (s : State), s.reaches 0x8 = true ∧ (s.gb F.GLB_CSTAT_BUSY = true ∨ s.mayCommit src.path = false ∨ s.overflow = true)) ∧
    (∃ (src : Src) (s : State), s.reaches 0x8 = true ∧ s.gb F.GLB_CSTAT_BUSY = false ∧ s.mayCommit src.path = true ∧ s.overflow = false ∧ s.poisonIn 0x128000 0x130000 = false ∧ tooBig s.groups = true) ∧
    (∃ (src : Src) (s : State), s.reaches 0x8 = true ∧ s.mayCommit src.path = true) ∧
    (∃ (src : Src) (s : State), s.reaches 0x8 = true ∧ s.mayCommit src.path = false) :=
  ⟨⟨⟨.bar0, 0⟩, run, by decide +kernel⟩,
    ⟨⟨.bar0, 0⟩, (let s : State := run; let s : State := s.w (F.GLB_CSTAT_BUSY) (0) 1; s), by decide +kernel⟩,
    ⟨⟨.bar0, 0⟩, (let s : State := run; let s : State := { s with staged := (List.range 129).map fun i => { tgt := .reg (0x9400 + 4 * (i % 8)), value := 0, did := none } }; let s : State := s.w F.GLB_CSTAT_OWNER 0 1; s), by decide +kernel⟩,
    ⟨⟨.bar0, 0⟩, run, by decide +kernel⟩,
    ⟨⟨.bar0, 0⟩, (let s : State := run; let s : State := { s with staged := [default] }; s), by decide +kernel⟩⟩

theorem witness_EpochBoundaryAppliesGroups :
    (∃ (s : State) (c : Commit), s.adcOn = true ∧ s.rst.warm = false ∧ s.kB ≤ s.k ∧ (s.k - s.kB) % 25 = 0 ∧ s.bDone = false ∧ s.commit = some c ∧ c.groups = [] ∧ c.first = none ∧ 0 ≤ tdiff s.now c.at' ∧ s.copiesDue (tadd s.now sampleU) = []) ∧
    (∃ (s : State) (c : Commit) (is : List StagedItem), s.adcOn = true ∧ s.rst.warm = false ∧ s.kB ≤ s.k ∧ (s.k - s.kB) % 25 = 0 ∧ s.bDone = false ∧ s.commit = some c ∧ c.groups = [(.div, is)] ∧ c.first = none ∧ is.length ≤ 128 ∧ ((∀ i ∈ is, ∃ a, i.tgt = .reg a ∧ 0x9400 ≤ a ∧ a < 0x9800)) ∧ 0 ≤ tdiff s.now c.at' ∧ s.copiesDue (tadd s.now sampleU) = []) ∧
    (∃ (s : State) (c : Commit) (v : Nat) (d : Option Nat), s.adcOn = true ∧ s.rst.warm = false ∧ s.kB ≤ s.k ∧ (s.k - s.kB) % 25 = 0 ∧ s.bDone = false ∧ s.commit = some c ∧ c.groups = [(.div, [{ tgt := .reg 0x9C00, value := v, did := d }])] ∧ c.first = none ∧ 0 ≤ tdiff s.now c.at' ∧ s.copiesDue (tadd s.now sampleU) = []) ∧
    (∃ (s : State), s.adcOn = true ∧ s.rst.warm = false ∧ s.kB ≤ s.k ∧ (s.k - s.kB) % 25 = 0 ∧ s.bDone = false ∧ s.commit = none ∧ s.copiesDue (tadd s.now sampleU) = []) ∧
    (∃ (s : State), (s.adcOn = false ∨ s.rst.warm = true ∨ s.k < s.kB ∨ (s.k - s.kB) % 25 ≠ 0 ∨ s.bDone = true)) :=
  ⟨⟨(let s : State := run; let s : State := { s with kB := s.k, commit := some ⟨2^40 - 100, [], none⟩ }; s), ⟨2^40 - 100, [], none⟩, by decide +kernel⟩,
    ⟨(let s : State := run; let s : State := { s with kB := s.k, commit := some ⟨2^40 - 100, [(.div, [⟨.reg 0x9400, 1, none⟩])], none⟩ }; s), ⟨2^40 - 100, [(.div, [⟨.reg 0x9400, 1, none⟩])], none⟩, [⟨.reg 0x9400, 1, none⟩], by decide +kernel, by decide +kernel, by decide +kernel, by decide +kernel, by decide +kernel, by decide +kernel, by decide +kernel, by decide +kernel, by decide +kernel, (by intro i hi; simp at hi; subst hi; exact ⟨_, rfl, by decide, by decide⟩), by decide +kernel⟩,
    ⟨(let s : State := run; let s : State := { s with kB := s.k, commit := some ⟨2^40 - 100, [(.div, [⟨.reg 39936, 1, none⟩])], none⟩ }; s), ⟨2^40 - 100, [(.div, [⟨.reg 39936, 1, none⟩])], none⟩, 1, none, by decide +kernel⟩,
    ⟨(let s : State := boot; let s : State := { s with adcOn := true }; s), by decide +kernel⟩,
    ⟨run, by decide +kernel⟩⟩

theorem witness_SampleAndWrapAdvanceStime :
    (∃ (s : State), s.adcOn = true ∧ s.rst.warm = false ∧ s.released 4 = true) ∧
    (∃ (s : State), (s.adcOn = false ∨ s.rst.warm = true ∨ s.released 4 = false)) ∧
    (∃ (s : State), 2 ^ 64 ≤ s.now + 12800 ∧ s.wrapped = false) ∧
    (∃ (s : State), (s.now + 12800 < 2 ^ 64 ∨ s.wrapped = true)) :=
  ⟨⟨(let s : State := run; let s : State := { s with now := 2^64 - 12800, t := 2^64 - 12800 }; s), by decide +kernel⟩,
    ⟨(let s : State := run; let s : State := { s with adcOn := false }; s), by decide +kernel⟩,
    ⟨(let s : State := run; let s : State := { s with now := 2^64 - 12800, t := 2^64 - 12800 }; s), by decide +kernel⟩,
    ⟨run, by decide +kernel⟩⟩

theorem witness_ReadsReturnAndLatch :
    (∃ (addr : Nat) (s : State) (members : List Nat), s.reaches addr = true ∧ snapOf (addr - addr % 4) = some members ∧ members.head? = some (addr - addr % 4) ∧ addr - addr % 4 ≠ 0x12200 ∧ addr - addr % 4 ≠ 0x13200) ∧
    (∃ (s : State), s.reaches 0x12000 = true) ∧
    (∃ (addr : Nat) (s : State) (members : List Nat), s.reaches addr = true ∧ snapOf (addr - addr % 4) = some members ∧ members.head? ≠ some (addr - addr % 4)) ∧
    (∃ (addr : Nat) (s : State), s.reaches addr = true ∧ snapOf (addr - addr % 4) = none) ∧
    (∃ (v : Nat) (addr : Nat), v < 2 ^ 32 ∧ addr % 4 = 0) ∧
    (∃ (v : Nat), v < 2 ^ 32) ∧
    (∃ (v : Nat) (addr : Nat), v < 2 ^ 32 ∧ addr % 2 = 0) ∧
    (∃ (s : State), s.reaches 0x8000 = true) :=
  ⟨⟨0xA024, run, runOf 0xA024 10, by decide +kernel⟩,
    ⟨run, by decide +kernel⟩,
    ⟨0xA048, run, runOf 0xA024 10, by decide +kernel⟩,
    ⟨0, run, by decide +kernel⟩,
    ⟨0, 0, by decide +kernel⟩,
    ⟨0, by decide +kernel⟩,
    ⟨0, 0, by decide +kernel⟩,
    ⟨run, by decide +kernel⟩⟩

theorem witness_HostWritesOfRegistersAndMemory :
    (∃ (size : Nat), size ≠ 4) ∧
    (∃ (addr : Nat) (s : State), addr % 4 = 0 ∧ s.reaches addr = true ∧ (findReg addr).isSome = true ∧ isStaged addr = true) ∧
    (∃ (s : State), s.reaches 0x18 = true ∧ s.g F.GLB_STATUS_MODE ≠ 1) ∧
    (∃ (value : Word) (s : State), s.reaches 0x18 = true ∧ s.g F.GLB_STATUS_MODE = 1 ∧ bitOf value.toNat 0 = true) ∧
    (∃ (off : Nat) (s : State), s.reaches 0 = true ∧ s.gb F.GLB_DIAG_SRAM_WR = true ∧ off % 4 = 0 ∧ off < 0x180000) ∧
    (∃ (s : State), s.gb F.GLB_DIAG_SRAM_WR = false) ∧
    (∃ (s : State), s.reaches 0x2020 = true) ∧
    (∃ (c : Fin 16) (s : State), bitOf (s.g F.TMP_TEMP_STATUS c) 1 = true ∧ SMap.get 0 s.stamps (0xF01C + 0x40 * c.val) ≠ 0 ∧ (s.g F.GLB_FRESH_TMP_LIM * msU : Int) < tdiff s.now (SMap.get 0 s.stamps (0xF01C + 0x40 * c.val) - 1)) ∧
    (∃ (c : Fin 2) (k : Fin 128) (s : State), s.objBad c k = false) :=
  ⟨⟨0, by decide +kernel⟩,
    ⟨0x5000, run, by decide +kernel⟩,
    ⟨(let s : State := run; let s : State := s.w (F.GLB_STATUS_MODE) (0) ((1) + 1); s), by decide +kernel⟩,
    ⟨1#32, run, by decide +kernel⟩,
    ⟨0, (let s : State := run; let s : State := s.w (F.GLB_DIAG_SRAM_WR) (0) 1; s), by decide +kernel⟩,
    ⟨run, by decide +kernel⟩,
    ⟨run, by decide +kernel⟩,
    ⟨15, (let s : State := run; let s : State := s.w F.TMP_TEMP_STATUS 15 2; let s : State := { s with stamps := SMap.set 0 s.stamps (61468 + 64 * 15) 1 }; s), by decide +kernel⟩,
    ⟨0, 0, run, by decide +kernel⟩⟩

theorem witness_RangeChangesTakeEffect :
    (∃ (n : Fin 16) (i : Input) (s : State) (r : Nat) (t0 : Nat), (s.prt! n).pend i = some (r, t0) ∧ r < 4 ∧ s.predicted n = true ∧ s.inputCrossing n = true) ∧
    (∃ (n : Fin 16) (i : Input) (s : State), (s.prt! n).pend i = none) ∧
    (∃ (n : Fin 16) (s : State), (s.predicted n = false ∨ s.inputCrossing n = false)) ∧
    (∃ (n : Fin 16) (i : Input) (s : State) (r : Nat) (t0 : Nat), (s.prt! n).pend i = some (r, t0) ∧ r < 4 ∧ 0 ≤ tdiff (tadd s.now sampleU) t0) ∧
    (∃ (n : Fin 16) (i : Input) (s : State) (r : Nat), r ≠ s.g (curFld i) n) :=
  ⟨⟨15, .cos, (let s : State := run; let s : State := s.updExc 15 fun e => { e with nco := true, ph := 2^31 - 1 }; let s : State := s.w F.EXC_CFG_ENABLE 15 1; let s : State := s.updPrt 15 fun p => { p with pendC := some (1, 0) }; s), 1, 0, by decide +kernel⟩,
    ⟨0, .sin, run, by decide +kernel⟩,
    ⟨0, run, by decide +kernel⟩,
    ⟨15, .cos, (let s : State := run; let s : State := s.updPrt 15 fun p => { p with pendC := some (1, 0) }; s), 1, 0, by decide +kernel⟩,
    ⟨0, .sin, run, 0, by decide +kernel⟩⟩

theorem witness_LeadMonitorAndWindingTest :
    (∃ (n : Fin 16) (s : State), (s.prt! n).ball < 8) ∧
    (∃ (n : Fin 16) (s : State), s.windingAllowed n = true ∧ s.g F.PRT_DIAG_W2W_PER n ≠ 0 ∧ s.g F.PRT_DIAG_W2W_PER n * 1000 * msU ≤ tdiff s.now (s.prt! n).wLast) ∧
    (∃ (n : Fin 16) (s : State), (s.windingAllowed n = false ∨ s.g F.PRT_DIAG_W2W_PER n = 0 ∨ tdiff s.now (s.prt! n).wLast < s.g F.PRT_DIAG_W2W_PER n * 1000 * msU)) ∧
    (∃ (n : Fin 16) (s : State), s.reaches 0x4000 = true ∧ s.windingAllowed n = true) ∧
    (∃ (n : Fin 16) (s : State), s.windingAllowed n = false) ∧
    (∃ (n : Fin 16) (s : State), s.gb F.PRT_STAT_W2W_RUN n = true ∧ 102 * msU ≤ tdiff s.now (s.prt! n).wStart ∧ s.here.leadHeld n = false ∧ ((s.prt! n).wCnt = 0 ∨ (s.prt! n).wSum - (s.prt! n).wBase * (s.prt! n).wCnt ≤ (s.g F.PRT_DIAG_W2W_TH n : Int) * 20 * (s.prt! n).wCnt)) ∧
    (∃ (n : Fin 16) (s : State), s.gb F.PRT_STAT_W2W_RUN n = true ∧ 102 * msU ≤ tdiff s.now (s.prt! n).wStart ∧ s.here.leadHeld n = false ∧ (s.prt! n).wCnt ≠ 0 ∧ (s.g F.PRT_DIAG_W2W_TH n : Int) * 20 * (s.prt! n).wCnt < (s.prt! n).wSum - (s.prt! n).wBase * (s.prt! n).wCnt ∧ 1 ≤ (s.prt! n).wFails ∧ bitOf (s.g F.PRT_LLIVE_LIVE n) 8 = false) ∧
    (∃ (n : Fin 16) (s : State), s.gb F.PRT_STAT_W2W_RUN n = true ∧ 102 * msU ≤ tdiff s.now (s.prt! n).wStart ∧ s.here.leadHeld n = true) ∧
    (∃ (n : Fin 16) (s : State), (s.prt! n).ball = 7 ∧ s.resolver n = true ∧ s.here.leadHeld n = false ∧ s.pairOpen n 2 = true ∧ s.g F.PRT_DIAG_PERSIST n ≤ vget (s.prt! n).hits 0 + 1) ∧
    (∃ (n : Fin 16) (s : State), (s.prt! n).ball = 7 ∧ s.resolver n = true ∧ s.here.leadHeld n = false ∧ s.pairOpen n 2 = false ∧ 1 ≤ s.g F.PRT_DIAG_PERSIST n ∧ s.g F.PRT_DIAG_PERSIST n ≤ vget (s.prt! n).miss 0 + 1) :=
  ⟨⟨0, run, by decide +kernel⟩,
    ⟨0, (let s : State := run; let s : State := s.w (F.PRT_CFG_MODE) (0) (1); s), by decide +kernel⟩,
    ⟨0, run, by decide +kernel⟩,
    ⟨0, (let s : State := run; let s : State := s.w (F.PRT_CFG_MODE) (0) (1); s), by decide +kernel⟩,
    ⟨0, run, by decide +kernel⟩,
    ⟨0, (let s : State := run; let s : State := s.w (F.PRT_STAT_W2W_RUN) (0) 1; s), by decide +kernel⟩,
    ⟨15, (let s : State := run; let s : State := s.w F.PRT_STAT_W2W_RUN 15 1; let s : State := s.updPrt 15 fun p => { p with wCnt := 1, wSum := 100000, wBase := 0, wFails := 1, wStart := 0 }; let s : State := s.w F.PRT_LLIVE_LIVE 15 0; s), by decide +kernel⟩,
    ⟨15, (let s : State := run; let s : State := s.w F.PRT_STAT_W2W_RUN 15 1; let s : State := s.updPrt 15 fun d => { d with roleAt := some (2^40), wStart := 2^40 - 110 * msU }; s), by decide +kernel⟩,
    ⟨15, (let s : State := run; let s : State := s.w F.PRT_CFG_MODE 15 1; let s : State := s.w F.PRT_DIAG_IDIAG 15 1; let s : State := s.w F.PRT_DIAG_PERSIST 15 1; let s : State := s.w (F.PRT_LMON_VOLT 2) 15 20000; let s : State := s.updPrt 15 fun d => { d with ball := 7 }; s), by decide +kernel⟩,
    ⟨0, (let s : State := run; let s : State := s.updPrt (0) fun d => { d with ball := 7 }; let s : State := s.w (F.PRT_CFG_MODE) (0) (1); let s : State := s.w (F.PRT_DIAG_PERSIST) (0) (vget (s.prt! 0).miss 0 + 1); s), by decide +kernel⟩⟩

theorem witness_PortRestartPeriodAndLines :
    (∃ (n : Fin 16) (s : State), s.reaches 0x4000 = true ∧ s.resolver n = false) ∧
    (∃ (n : Fin 16) (s : State), s.reaches 0x4000 = true ∧ s.resolver n = true ∧ s.gb F.PRT_CFG_AUTO n = false) ∧
    (∃ (n : Fin 16) (s : State), s.periodDue n = true) ∧
    (∃ (n : Fin 16) (s : State), s.periodDue n = false) ∧
    (∃ (n : Fin 16) (pair : Pair) (s : State), s.digital n = true ∧ s.lineLow n pair = true) ∧
    (∃ (n : Fin 16) (pair : Pair) (s : State), (s.digital n = false ∨ s.lineLow n pair = false)) :=
  ⟨⟨0, run, by decide +kernel⟩,
    ⟨0, (let s : State := run; let s : State := s.w (F.PRT_CFG_MODE) (0) (1); s), by decide +kernel⟩,
    ⟨15, (let s : State := run; let s : State := s.updExc 15 fun e => { e with nco := true, ph := 2^32 - 1, perAt := 0 }; s), by decide +kernel⟩,
    ⟨0, run, by decide +kernel⟩,
    ⟨0, .sn, (let s : State := run; let s : State := s.w (F.PRT_CFG_MODE) (0) (2); let s : State := s.updPrt (0) fun d => { d with lineS := (s.g F.PRT_CMP_LINE_T 0) + 1 }; s), by decide +kernel⟩,
    ⟨0, .sn, run, by decide +kernel⟩⟩

theorem witness_SoftStartAndStop :
    (∃ (n : Fin 16) (s : State), s.drv n = dSoft ∧ (s.exc! n).begun = false ∧ s.crossing n = true) ∧
    (∃ (n : Fin 16) (s : State), (s.drv n ≠ dSoft ∨ (s.exc! n).begun = true ∨ s.crossing n = false)) ∧
    (∃ (n : Fin 16) (s : State), s.drv n = dSoft ∧ (s.exc! n).begun = true ∧ s.crossing n = true ∧ 10 * msU ≤ tdiff (s.crossAt n) (s.exc! n).softAt) ∧
    (∃ (n : Fin 16) (s : State), s.drv n = dStopping ∧ (s.exc! n).begun = false ∧ s.crossing n = true) ∧
    (∃ (n : Fin 16) (s : State), s.drv n = dStopping ∧ (s.exc! n).begun = true ∧ (s.exc! n).winEnds = true ∧ s.gb F.EXC_CFG_ENABLE n = false) :=
  ⟨⟨15, (let s : State := run; let s : State := s.w F.EXC_STAT_STATE 15 dSoft; let s : State := s.updExc 15 fun e => { e with nco := true, ph := 2^31 - e.step, begun := false }; s), by decide +kernel⟩,
    ⟨0, run, by decide +kernel⟩,
    ⟨15, (let s : State := run; let s : State := s.w F.EXC_STAT_STATE 15 dSoft; let s : State := s.updExc 15 fun e => { e with nco := true, ph := 2^31 - e.step, begun := true, softAt := 0 }; s), by decide +kernel⟩,
    ⟨15, (let s : State := run; let s : State := s.w F.EXC_STAT_STATE 15 dStopping; let s : State := s.updExc 15 fun e => { e with nco := true, ph := 2^31 - e.step, begun := false }; s), by decide +kernel⟩,
    ⟨0, (let s : State := run; let s : State := s.w (F.EXC_STAT_STATE) (0) (dStopping); let s : State := s.updExc (0) fun d => { d with begun := true }; let s : State := s.updExc (0) fun d => { d with win := true }; let s : State := s.updExc (0) fun d => { d with nco := true }; s), by decide +kernel⟩⟩

theorem witness_ChangesAtCrossings :
    (∃ (n : Fin 16) (s : State) (f : Nat), s.drv n = dRun ∧ (s.exc! n).reqF = some f ∧ s.crossing n = true) ∧
    (∃ (n : Fin 16) (s : State) (a : Nat), s.drv n = dRun ∧ (s.exc! n).reqF = none ∧ (s.exc! n).reqA = some a ∧ s.crossing n = true) ∧
    (∃ (n : Fin 16) (s : State), (s.exc! n).reqF.isSome = true ∧ (s.exc! n).reqA.isSome = true) ∧
    (∃ (n : Fin 16) (s : State), (s.drv n ≠ dRun ∨ s.crossing n = false ∨ (s.exc! n).reqF = none)) ∧
    (∃ (n : Fin 16) (s : State), (s.drv n ≠ dRun ∨ s.crossing n = false ∨ (s.exc! n).reqA = none)) ∧
    (∃ (n : Fin 16) (s : State), s.drv n = dChanging ∧ (s.exc! n).winEnds = true) ∧
    (∃ (n : Fin 16) (s : State), (s.drv n ≠ dChanging ∨ (s.exc! n).winEnds = false)) :=
  ⟨⟨15, (let s : State := run; let s : State := s.w F.EXC_STAT_STATE 15 dRun; let s : State := s.updExc 15 fun e => { e with nco := true, ph := 2^31 - e.step, reqF := some 9000000 }; s), 9000000, by decide +kernel⟩,
    ⟨15, (let s : State := run; let s : State := s.w F.EXC_STAT_STATE 15 dRun; let s : State := s.updExc 15 fun e => { e with nco := true, ph := 2^31 - e.step, reqA := some 3000 }; s), 3000, by decide +kernel⟩,
    ⟨0, (let s : State := run; let s : State := s.updExc (0) fun d => { d with reqF := some default }; let s : State := s.updExc (0) fun d => { d with reqA := some default }; s), by decide +kernel⟩,
    ⟨0, run, by decide +kernel⟩,
    ⟨0, run, by decide +kernel⟩,
    ⟨0, (let s : State := run; let s : State := s.w (F.EXC_STAT_STATE) (0) (dChanging); let s : State := s.updExc (0) fun d => { d with win := true }; let s : State := s.updExc (0) fun d => { d with nco := true }; s), by decide +kernel⟩,
    ⟨0, run, by decide +kernel⟩⟩

theorem witness_PhaseEstimateCommands :
    (∃ (s : State), s.reaches 0x5000 = true) ∧
    (∃ (n : Fin 16) (s : State), (s.exc! n).reOn = true ∧ (s.exc! n).reacq = 0 ∧ (s.exc! n).reN ≠ 0) ∧
    (∃ (n : Fin 16) (s : State), (s.exc! n).reOn = true ∧ (s.exc! n).reacq = 0 ∧ (s.exc! n).reN = 0) ∧
    (∃ (n : Fin 16) (s : State), ((s.exc! n).reOn = false ∨ (s.exc! n).reacq ≠ 0)) ∧
    (∃ (n : Fin 16) (s : State), s.drv n = dRun ∧ 10000 * msU ≤ tdiff s.now (s.exc! n).phAt) ∧
    (∃ (n : Fin 16) (s : State), (s.drv n ≠ dRun ∨ tdiff s.now (s.exc! n).phAt < 10000 * msU)) :=
  ⟨⟨run, by decide +kernel⟩,
    ⟨0, (let s : State := run; let s : State := s.updExc (0) fun d => { d with reOn := true }; let s : State := s.updExc (0) fun d => { d with reN := (0) + 1 }; s), by decide +kernel⟩,
    ⟨0, (let s : State := run; let s : State := s.updExc (0) fun d => { d with reOn := true }; s), by decide +kernel⟩,
    ⟨0, run, by decide +kernel⟩,
    ⟨0, (let s : State := run; let s : State := s.w (F.EXC_STAT_STATE) (0) (dRun); s), by decide +kernel⟩,
    ⟨0, run, by decide +kernel⟩⟩

theorem witness_DriverProtection :
    (∃ (n : Fin 16) (peak : BitVec 16) (s : State), s.drives n = true ∧ s.ilim n ≤ peak.toNat) ∧
    (∃ (n : Fin 16) (peak : BitVec 16) (s : State), (s.drives n = false ∨ peak.toNat < s.ilim n)) ∧
    (∃ (n : Fin 16) (s : State), s.reaches 0x5000 = true ∧ s.drv n = dFault ∧ s.gi F.EXC_DTEMP_TEMP n < 130 * 256 ∧ 2 ≤ s.g F.EXC_STAT_LEGS n) ∧
    (∃ (n : Fin 16) (s : State), (s.drv n ≠ dFault ∨ 130 * 256 ≤ s.gi F.EXC_DTEMP_TEMP n ∨ s.g F.EXC_STAT_LEGS n < 2)) :=
  ⟨⟨0, 65535#16, (let s : State := run; let s : State := s.w (F.EXC_STAT_STATE) (0) (1); s), by decide +kernel⟩,
    ⟨0, 1#16, run, by decide +kernel⟩,
    ⟨0, (let s : State := run; let s : State := s.w (F.EXC_STAT_STATE) (0) (dFault); s), by decide +kernel⟩,
    ⟨0, run, by decide +kernel⟩⟩

theorem witness_LegsAndTakeover :
    (∃ (n : Fin 16) (s : State), s.drv n = dRun ∧ 1000 * msU ≤ tdiff s.now (s.snt.legAt.getD n 0)) ∧
    (∃ (n : Fin 16) (s : State), (s.drv n ≠ dRun ∨ tdiff s.now (s.snt.legAt.getD n 0) < 1000 * msU)) ∧
    (∃ (n : Fin 16) (s : State) (k : Nat) (notice : Nat), (s.exc! n).retire = some (k, notice) ∧ k < 4 ∧ s.crossing n = true ∧ sampleU ≤ tdiff (s.crossAt n) notice ∧ 3 ≤ s.g F.EXC_STAT_LEGS n) ∧
    (∃ (n : Fin 16) (s : State) (k : Nat) (notice : Nat), (s.exc! n).retire = some (k, notice) ∧ k < 4 ∧ s.crossing n = true ∧ sampleU ≤ tdiff (s.crossAt n) notice ∧ s.g F.EXC_STAT_LEGS n = 2 ∧ s.resolver n = true) ∧
    (∃ (n : Fin 16) (s : State), (s.exc! n).retire = none) ∧
    (∃ (n : Fin 16) (s : State) (tk : Nat), (s.exc! n).take = some (tk, true) ∧ s.crossing n = true ∧ 0 ≤ tdiff (s.crossAt n) tk ∧ s.drv n = dSense ∧ s.gb F.EXC_CFG_ENABLE n = true ∧ s.gi F.EXC_DTEMP_TEMP n < 155 * 256 ∧ 2 ≤ s.g F.EXC_STAT_LEGS n) ∧
    (∃ (n : Fin 16) (s : State) (tk : Nat), (s.exc! n).take = some (tk, false) ∧ s.crossing n = true ∧ 0 ≤ tdiff (s.crossAt n) tk ∧ s.resolver n = true) :=
  ⟨⟨0, (let s : State := run; let s : State := s.w (F.EXC_STAT_STATE) (0) (dRun); s), by decide +kernel⟩,
    ⟨0, run, by decide +kernel⟩,
    ⟨1, (let s : State := run; let s : State := s.updExc 1 fun e => { e with nco := true, ph := 2^31 - e.step, retire := some (3, 2^40 - 20000) }; let s : State := s.w F.EXC_STAT_LEGS 1 3; s), 3, 2^40 - 20000, by decide +kernel⟩,
    ⟨1, (let s : State := (let s : State := run; let s : State := s.updExc 1 fun e => { e with nco := true, ph := 2^31 - e.step, retire := some (3, 2^40 - 20000) }; let s : State := s.w F.EXC_STAT_LEGS 1 3; s); let s : State := s.w (F.EXC_STAT_LEGS) (1) (2); let s : State := s.w (F.PRT_CFG_MODE) (1) (1); s), 3, 2^40 - 20000, by decide +kernel⟩,
    ⟨15, (let s : State := run; let s : State := s.updExc 15 fun e => { e with nco := true, ph := 2^31 - e.step, take := some (2^40 - 20000, true) }; let s : State := s.w F.EXC_STAT_STATE 15 dSense; let s : State := s.w F.EXC_CFG_ENABLE 15 1; s), by decide +kernel⟩,
    ⟨15, (let s : State := (let s : State := run; let s : State := s.updExc 15 fun e => { e with nco := true, ph := 2^31 - e.step, take := some (2^40 - 20000, false) }; let s : State := s.w F.PRT_CFG_MODE 15 1; s); let s : State := s.updExc (15) fun d => { d with take := some (2 ^ 40 - 20000, true) }; let s : State := s.w (F.EXC_STAT_STATE) (15) (dSense); let s : State := s.w (F.EXC_CFG_ENABLE) (15) 1; s), 2^40 - 20000, by decide +kernel⟩,
    ⟨1, (let s : State := (let s : State := run; let s : State := s.updExc 1 fun e => { e with nco := true, ph := 2^31 - e.step, retire := some (3, 2^40 - 20000) }; let s : State := s.w F.EXC_STAT_LEGS 1 3; s); let s : State := s.updExc (1) fun d => { d with take := some (0, false) }; let s : State := s.w (F.PRT_CFG_MODE) (1) (1); s), 0, by decide +kernel⟩⟩

theorem witness_FiltersAndCouplings :
    (∃ (s : State), s.reaches 0x7000 = true ∧ s.bankBusy (s.g F.ACQ_FLADDR_SET) (s.g F.ACQ_FLADDR_BANK) = false) ∧
    (∃ (s : State), s.reaches 0x7000 = true ∧ s.bankBusy (s.g F.ACQ_FLADDR_SET) (s.g F.ACQ_FLADDR_BANK) = true) ∧
    (∃ (value : Word) (s : State) (f : Nat), s.reaches 0x7000 = true ∧ f = bitsOf value.toNat 0 3 ∧ s.gb F.ACQ_FSET_INFO_FADING f = true) ∧
    (∃ (value : Word) (s : State) (f : Nat) (b : Nat), s.reaches 0x7000 = true ∧ f = bitsOf value.toNat 0 3 ∧ s.gb F.ACQ_FSET_INFO_FADING f = false ∧ b = 1 - s.g F.ACQ_FSET_INFO_LIVE f ∧ (s.bankTaps f b < 8 ∨ 64 < s.bankTaps f b ∨ (s.bankSum f b).1.natAbs < 32768)) ∧
    (∃ (value : Word) (s : State) (f : Nat) (b : Nat), s.reaches 0x7000 = true ∧ f = bitsOf value.toNat 0 3 ∧ s.gb F.ACQ_FSET_INFO_FADING f = false ∧ b = 1 - s.g F.ACQ_FSET_INFO_LIVE f ∧ 8 ≤ s.bankTaps f b ∧ s.bankTaps f b ≤ 64 ∧ 32768 ≤ (s.bankSum f b).1.natAbs) ∧
    (∃ (s : State), s.reaches 0x6000 = true) :=
  ⟨⟨(let s : State := run; let s : State := s.w (F.ACQ_FSET_INFO_LIVE) (s.g F.ACQ_FLADDR_SET) ((s.g F.ACQ_FLADDR_BANK) + 1); s), by decide +kernel⟩,
    ⟨run, by decide +kernel⟩,
    ⟨1#32, (let s : State := run; let s : State := s.w (F.ACQ_FSET_INFO_FADING) (bitsOf (1#32).toNat 0 3) 1; s), _, by decide +kernel, rfl, by decide +kernel⟩,
    ⟨1#32, run, _, _, by decide +kernel, rfl, by decide +kernel, rfl, by decide +kernel⟩,
    ⟨1#32, (let s : State := run; let s : State := s.setSram32 (0x100000 + 0x800 + 0x400) 8; let s : State := (List.range 8).foldl (fun s i => s.setSram32 (0x100000 + 0x800 + 0x400 + 0x10 + 4 * i) 0x1000) s; s), _, _, by decide +kernel, rfl, by decide +kernel, rfl, by decide +kernel⟩,
    ⟨run, by decide +kernel⟩⟩

theorem witness_ConversionAndDecimation :
    (∃ (i : Fin 35) (s : State) (sp : Nat), s.calStep = i.val ∧ s.nextSpare 0 = some sp ∧ 5000 ≤ s.calAcc.n) ∧
    (∃ (i : Fin 35) (s : State) (sp : Nat), s.calStep = i.val ∧ s.nextSpare 0 = some sp ∧ sp < 2 ∧ 5000 ≤ s.calAcc.n ∧ calSlice i = none) ∧
    (∃ (i : Fin 35) (s : State), (s.nextSpare 0 = none ∨ s.calAcc.n < 5000 ∨ s.calStep ≠ i.val)) ∧
    (∃ (n : Fin 16) (s : State), s.adcOn = true ∧ s.rst.warm = false ∧ s.released 4 = true ∧ s.outputDue n = true) ∧
    (∃ (n : Fin 16) (s : State), s.outputDue n = false) ∧
    (∃ (n : Fin 16) (s : State), s.envArmed n = true ∧ s.injActive n 0 = false ∧ s.g F.ACQ_ENV_ENV_N n ≤ (s.acq! n).hiN) ∧
    (∃ (n : Fin 16) (s : State), s.envArmed n = true ∧ s.injActive n 0 = false ∧ s.g F.ACQ_ENV_ENV_N n ≤ (s.acq! n).loN) ∧
    (∃ (n : Fin 16) (s : State), s.envArmed n = false) ∧
    (∃ (s : State), s.adcOn = true ∧ s.chn.syncs.any s.syncDue = true ∧ s.chn.syncK ≠ some s.k) ∧
    (∃ (s : State), s.adcOn = true ∧ s.chn.syncs.any s.syncDue = false ∧ s.cmdSync = true ∧ s.chn.syncK ≠ some s.k) ∧
    (∃ (s : State), s.adcOn = true ∧ s.chn.syncs.any s.syncDue = true ∧ s.chn.syncK = some s.k) :=
  ⟨⟨0, (let s : State := run; let s : State := { s with calAcc := { s.calAcc with n := 5000 } }; s), 0, by decide +kernel⟩,
    ⟨34, (let s : State := run; let s : State := { s with calStep := 34 }; let s : State := { s with calAcc := { s.calAcc with n := 5000 } }; s), 0, by decide +kernel⟩,
    ⟨0, run, by decide +kernel⟩,
    ⟨0, (let s : State := boot; let s : State := { s with adcOn := true }; let s : State := s.w (F.GLB_STATUS_MODE) (0) (1); let s : State := s.w (F.PRT_CFG_MODE) (0) (1); let s : State := s.updAcq (0) fun d => { d with has := true }; s), by decide +kernel⟩,
    ⟨0, run, by decide +kernel⟩,
    ⟨0, (let s : State := run; let s : State := s.w (F.PRT_CFG_MODE) (0) (1); let s : State := s.updAcq (0) fun d => { d with gap := false }; let s : State := s.w (F.EXC_STAT_STATE) (0) (dRun); let s : State := s.updAcq (0) fun d => { d with hiN := s.g F.ACQ_ENV_ENV_N 0 }; s), by decide +kernel⟩,
    ⟨0, (let s : State := run; let s : State := s.w (F.PRT_CFG_MODE) (0) (1); let s : State := s.updAcq (0) fun d => { d with gap := false }; let s : State := s.w (F.EXC_STAT_STATE) (0) (dRun); let s : State := s.updAcq (0) fun d => { d with loN := s.g F.ACQ_ENV_ENV_N 0 }; s), by decide +kernel⟩,
    ⟨0, run, by decide +kernel⟩,
    ⟨(let s : State := run; let s : State := { s with chn := { s.chn with syncs := [default] } }; s), by decide +kernel⟩,
    ⟨(let s : State := run; let s : State := { s with chn := { s.chn with cmds := [(2^40, 3, 1)] } }; s), by decide +kernel⟩,
    ⟨(let s : State := run; let s : State := { s with chn := { s.chn with syncs := [default] } }; let s : State := { s with chn := { s.chn with syncK := some s.k } }; s), by decide +kernel⟩⟩

theorem witness_TrackingStatesOfAnEngine :
    (∃ (m : Fin 18) (s : State), s.ost m = oPullin ∧ 5000 ≤ (s.obs! m).lock) ∧
    (∃ (m : Fin 18) (s : State), (s.ost m ≠ oPullin ∨ (s.obs! m).lock < 5000)) ∧
    (∃ (m : Fin 18) (s : State), (s.ost m = oCoast ∨ s.ost m = oPullin) ∧ s.g F.OBS_COAST_COAST_T m * 50 ≤ (s.obs! m).coast) ∧
    (∃ (m : Fin 18) (s : State), ((s.ost m ≠ oCoast ∧ s.ost m ≠ oPullin) ∨ (s.obs! m).coast < s.g F.OBS_COAST_COAST_T m * 50)) ∧
    (∃ (m : Fin 18) (s : State), s.tracking m = true ∧ s.g F.OBS_LIM_LOT_T m * 50 ≤ (s.obs! m).lot) ∧
    (∃ (m : Fin 18) (s : State), (s.tracking m = false ∨ (s.obs! m).lot < s.g F.OBS_LIM_LOT_T m * 50)) :=
  ⟨⟨0, (let s : State := run; let s : State := s.w (F.OBS_STAT_STATE) (0) (oPullin); let s : State := s.updObs (0) fun d => { d with lock := 5000 }; s), by decide +kernel⟩,
    ⟨0, run, by decide +kernel⟩,
    ⟨0, (let s : State := run; let s : State := s.w (F.OBS_STAT_STATE) (0) (oCoast); let s : State := s.updObs (0) fun d => { d with coast := s.g F.OBS_COAST_COAST_T 0 * 50 }; s), by decide +kernel⟩,
    ⟨0, run, by decide +kernel⟩,
    ⟨0, (let s : State := run; let s : State := s.w (F.OBS_STAT_STATE) (0) (oTrack); let s : State := s.updObs (0) fun d => { d with lot := s.g F.OBS_LIM_LOT_T 0 * 50 }; s), by decide +kernel⟩,
    ⟨0, run, by decide +kernel⟩⟩

theorem witness_ReacquisitionAndObserverCommands :
    (∃ (m : Fin 18) (s : State), s.ost m = oLot ∧ s.gb F.OBS_CFG_REACQ m = true ∧ 5000 ≤ (s.obs! m).usable ∧ (s.obs! m).dead = false) ∧
    (∃ (m : Fin 18) (s : State), (s.ost m ≠ oLot ∨ s.gb F.OBS_CFG_REACQ m = false ∨ (s.obs! m).usable < 5000)) ∧
    (∃ (i : Fin 18) (s : State) (m : Nat), s.reaches 0x8000 = true ∧ s.obsTarget i = some m ∧ m < 18 ∧ s.ost m = oLot ∧ (s.obs! m).dead = false) ∧
    (∃ (i : Fin 18) (s : State) (m : Nat), s.obsTarget i = some m ∧ s.ost m ≠ oLot) ∧
    (∃ (i : Fin 18) (s : State) (m : Nat), s.reaches 0x8000 = true ∧ s.obsTarget i = some m ∧ m < 18) ∧
    (∃ (m : Fin 18) (n : Nat) (s : State), s.portOf m = some n ∧ s.resolver n = true ∧ s.gb F.ACQ_STAT_ENV_ARM n = true ∧ s.injActive n 1 = false ∧ s.g F.OBS_PROT_LOS_N m ≤ (s.obs! m).losN) ∧
    (∃ (m : Fin 18) (n : Nat) (s : State), s.portOf m = some n ∧ (s.gb F.ACQ_STAT_ENV_ARM n = false ∨ (s.obs! m).losN < s.g F.OBS_PROT_LOS_N m)) ∧
    (∃ (n : Fin 16) (s : State), s.g F.DIVG_CFG_DIV_N ≤ (s.div! n).outN ∧ s.gb F.DIV_STS_DIVL n = false) ∧
    (∃ (n : Fin 16) (s : State), ((s.div! n).outN < s.g F.DIVG_CFG_DIV_N ∨ s.gb F.DIV_STS_DIVL n = true)) :=
  ⟨⟨0, (let s : State := run; let s : State := s.w (F.OBS_STAT_STATE) (0) (oLot); let s : State := s.updObs (0) fun d => { d with usable := 5000 }; s), by decide +kernel⟩,
    ⟨0, run, by decide +kernel⟩,
    ⟨0, (let s : State := run; let s : State := s.w (F.OBS_STAT_STATE) (0) (oLot); s), 0, by decide +kernel⟩,
    ⟨0, run, 0, by decide +kernel⟩,
    ⟨0, run, 0, by decide +kernel⟩,
    ⟨0, 0, (let s : State := run; let s : State := s.w (F.PRT_CFG_MODE) (0) (1); let s : State := s.w (F.ACQ_STAT_ENV_ARM) (0) 1; let s : State := s.updObs (0) fun d => { d with losN := s.g F.OBS_PROT_LOS_N 0 }; s), by decide +kernel⟩,
    ⟨0, 0, run, by decide +kernel⟩,
    ⟨0, (let s : State := run; let s : State := s.updDiv (0) fun d => { d with outN := s.g F.DIVG_CFG_DIV_N }; s), by decide +kernel⟩,
    ⟨0, run, by decide +kernel⟩⟩

theorem witness_LearningEstimatesAndUpdates :
    (∃ (n : Fin 16) (s : State) (l : LrnSum), (s.lrn! n).fin = some l) ∧
    (∃ (n : Fin 16) (s : State), (s.lrn! n).fin = none) ∧
    (∃ (n : Fin 16) (s : State), s.bDone = true ∧ s.resolver n = true ∧ s.standby = false ∧ s.lrnMode n = 2 ∧ (((s.lrn! n).aplNow = true ∨ s.g F.LRN_APL_APL_T n * msU ≤ tdiff (tadd s.now sampleU) (s.lrn! n).aplAt))) ∧
    (∃ (n : Fin 16) (s : State), (s.bDone = false ∨ s.resolver n = false ∨ s.standby = true ∨ s.lrnMode n ≠ 2 ∨ ((s.lrn! n).aplNow = false ∧ tdiff (tadd s.now sampleU) (s.lrn! n).aplAt < s.g F.LRN_APL_APL_T n * msU))) ∧
    (∃ (s : State) (p : Nat) (wd : Nat), s.reaches 0xA000 = true ∧ s.g F.LRN_TLADDR_PORT = p ∧ s.g F.LRN_TLADDR_WORD = wd ∧ s.lrnOpen p = true ∧ lrnWritable (4 * wd) = 2) ∧
    (∃ (s : State) (p : Nat) (wd : Nat), s.reaches 0xA000 = true ∧ s.g F.LRN_TLADDR_PORT = p ∧ s.g F.LRN_TLADDR_WORD = wd ∧ s.lrnOpen p = true ∧ lrnWritable (4 * wd) = 1 ∧ ((0x100 ≤ 4 * wd → s.tblHarm p ((4 * wd - 0x100) / 8 + 1) = true))) ∧
    (∃ (s : State) (p : Nat), s.reaches 0xA000 = true ∧ s.g F.LRN_TLADDR_PORT = p ∧ s.lrnOpen p = false) ∧
    (∃ (s : State), s.reaches 0xA000 = true) :=
  ⟨⟨15, (let s : State := run; let s : State := s.updLrn 15 fun d => { d with fin := some {} }; s), {}, by decide +kernel⟩,
    ⟨0, run, by decide +kernel⟩,
    ⟨15, (let s : State := run; let s : State := { s with bDone := true }; let s : State := s.w F.PRT_CFG_MODE 15 1; let s : State := s.w F.LRN_CFG_MODE 15 2; let s : State := s.updLrn 15 fun d => { d with aplNow := true }; s), by decide +kernel⟩,
    ⟨15, (let s : State := (let s : State := run; let s : State := { s with bDone := true }; let s : State := s.w F.PRT_CFG_MODE 15 1; let s : State := s.w F.LRN_CFG_MODE 15 2; let s : State := s.updLrn 15 fun d => { d with aplNow := true }; s); let s : State := { s with bDone := false }; s), by decide +kernel⟩,
    ⟨run, _, _, by decide +kernel, rfl, rfl, by decide +kernel⟩,
    ⟨(let s : State := run; let s : State := s.w F.LRN_TLADDR_PORT 0 15; let s : State := s.w F.LRN_TLADDR_WORD 0 127; let s : State := s.w F.LRN_CFG_NHARM 15 32; s), _, _, by decide +kernel, rfl, rfl, by decide +kernel⟩,
    ⟨(let s : State := (let s : State := run; let s : State := s.w F.LRN_TLADDR_PORT 0 15; let s : State := s.w F.LRN_CFG_MODE 15 2; s); let s : State := s.w (F.PRT_CFG_MODE) (s.g F.LRN_TLADDR_PORT) (1); s), _, by decide +kernel, rfl, by decide +kernel⟩,
    ⟨run, by decide +kernel⟩⟩

theorem witness_LearningRecordsInNvm :
    (∃ (ports : BitVec 16) (s : State), s.reaches 0xA000 = true ∧ s.nvLearning = false ∧ ports ≠ 0) ∧
    (∃ (ports : BitVec 16) (s : State), s.reaches 0xA000 = true ∧ (s.nvLearning = true ∨ ports = 0)) ∧
    (∃ (s : State) (q : List Nat) (n : Fin 16) (rec : List Byte) (more : List (Nat × List Byte)), s.nvq = 2 :: q ∧ s.nvBuf = (n.val, rec) :: more) ∧
    (∃ (s : State), ((∀ q, s.nvq ≠ 2 :: q) ∨ s.nvBuf = [])) ∧
    (∃ (s : State), s.reaches 0xA000 = true) :=
  ⟨⟨1#16, run, by decide +kernel⟩,
    ⟨1#16, (let s : State := run; let s : State := s.w (F.LRN_NVSTAT_BUSY) (0) 1; s), by decide +kernel⟩,
    ⟨(let s : State := run; let s : State := { s with nvq := [2] }; let s : State := { s with nvBuf := [(0, [])] }; s), [], 0, [], [], by decide +kernel⟩,
    ⟨run, Or.inl fun _ => nofun⟩,
    ⟨run, by decide +kernel⟩⟩

theorem witness_EncoderAndHallDecoding :
    (∃ (n : Fin 16) (e : EdgeIn) (s : State) (x : DfbPath), s.digital n = true ∧ s.g F.DFB_CFG_TYPE n = 0 ∧ s.g F.DFB_CFG_FILT_N n ≤ e.held ∧ e.path.val = 0 ∧ s.dpath n 0 = x ∧ ((x.a != e.a) != (x.b != e.b)) = true) ∧
    (∃ (n : Fin 16) (e : EdgeIn) (s : State) (x : DfbPath), s.digital n = true ∧ s.g F.DFB_CFG_TYPE n = 0 ∧ s.g F.DFB_CFG_FILT_N n ≤ e.held ∧ e.path.val = 0 ∧ s.dpath n 0 = x ∧ x.a ≠ e.a ∧ x.b ≠ e.b) ∧
    (∃ (n : Fin 16) (e : EdgeIn) (s : State), (s.digital n = false ∨ s.g F.DFB_CFG_TYPE n ≠ 0 ∨ e.held < s.g F.DFB_CFG_FILT_N n)) ∧
    (∃ (n : Fin 16) (e : HallIn) (s : State) (x : DfbPath), s.digital n = true ∧ s.g F.DFB_CFG_TYPE n = 1 ∧ s.g F.DFB_CFG_FILT_N n ≤ e.held ∧ e.path.val = 0 ∧ s.dpath n 0 = x ∧ x.hCode ≠ some e.code.toNat ∧ hallSector e.code.toNat = none) ∧
    (∃ (n : Fin 16) (e : HallIn) (s : State) (x : DfbPath) (k : Nat), s.digital n = true ∧ s.g F.DFB_CFG_TYPE n = 1 ∧ s.g F.DFB_CFG_FILT_N n ≤ e.held ∧ e.path.val = 0 ∧ s.dpath n 0 = x ∧ x.hCode ≠ some e.code.toNat ∧ hallSector e.code.toNat = some k ∧ x.hSec < 6 ∧ k = (x.hSec + 1) % 6) ∧
    (∃ (n : Fin 16) (e : HallIn) (s : State) (x : DfbPath) (k : Nat), s.digital n = true ∧ s.g F.DFB_CFG_TYPE n = 1 ∧ s.g F.DFB_CFG_FILT_N n ≤ e.held ∧ e.path.val = 0 ∧ s.dpath n 0 = x ∧ x.hCode ≠ some e.code.toNat ∧ hallSector e.code.toNat = some k ∧ x.hSec < 6 ∧ x.hSec = (k + 1) % 6) ∧
    (∃ (n : Fin 16) (e : HallIn) (s : State) (x : DfbPath) (k : Nat), s.digital n = true ∧ s.g F.DFB_CFG_TYPE n = 1 ∧ s.g F.DFB_CFG_FILT_N n ≤ e.held ∧ e.path.val = 0 ∧ s.dpath n 0 = x ∧ x.hCode ≠ some e.code.toNat ∧ hallSector e.code.toNat = some k ∧ x.hSec = 7) ∧
    (∃ (n : Fin 16) (e : HallIn) (s : State) (x : DfbPath) (k : Nat), s.digital n = true ∧ s.g F.DFB_CFG_TYPE n = 1 ∧ s.g F.DFB_CFG_FILT_N n ≤ e.held ∧ e.path.val = 0 ∧ s.dpath n 0 = x ∧ x.hCode ≠ some e.code.toNat ∧ hallSector e.code.toNat = some k ∧ x.hSec < 6 ∧ k ≠ x.hSec ∧ k ≠ (x.hSec + 1) % 6 ∧ x.hSec ≠ (k + 1) % 6) ∧
    (∃ (n : Fin 16) (e : HallIn) (s : State), (s.digital n = false ∨ s.g F.DFB_CFG_TYPE n ≠ 1 ∨ e.held < s.g F.DFB_CFG_FILT_N n)) ∧
    (∃ (n : Fin 16) (e : EdgeIn) (s : State) (x : DfbPath), s.digital n = true ∧ s.g F.DFB_CFG_TYPE n = 0 ∧ s.g F.DFB_CFG_FILT_N n ≤ e.held ∧ e.path.val = 0 ∧ s.dpath n 0 = x ∧ s.gateCond n { x with z := e.z } = true ∧ x.gate = false ∧ s.g F.DFB_CFG_IDXMODE n ≠ 0 ∧ s.lineLow2 n = false ∧ s.gb F.PRT_STAT_LINE_AX n = false ∧ x.qloss = false ∧ x.zfound = false) ∧
    (∃ (n : Fin 16) (e : EdgeIn) (s : State) (x : DfbPath), s.digital n = true ∧ s.g F.DFB_CFG_TYPE n = 0 ∧ s.g F.DFB_CFG_FILT_N n ≤ e.held ∧ e.path.val = 0 ∧ s.dpath n 0 = x ∧ s.gateCond n { x with z := e.z } = true ∧ x.gate = false ∧ s.g F.DFB_CFG_IDXMODE n ≠ 0 ∧ s.lineLow2 n = false ∧ s.gb F.PRT_STAT_LINE_AX n = false ∧ x.qloss = false ∧ x.zfound = true) :=
  ⟨⟨15, ⟨0, true, false, false, 12799, 40⟩, (let s : State := run; let s : State := s.w F.PRT_CFG_MODE 15 2; let s : State := s.updDfb 15 fun d => { d with p0 := { cnt := 2^31 - 1 } }; s), _, by decide +kernel, by decide +kernel, by decide +kernel, by decide +kernel, rfl, by decide +kernel⟩,
    ⟨15, ⟨0, true, true, false, 0, 40⟩, (let s : State := run; let s : State := s.w F.PRT_CFG_MODE 15 2; s), _, by decide +kernel, by decide +kernel, by decide +kernel, by decide +kernel, rfl, by decide +kernel⟩,
    ⟨15, ⟨1, true, true, false, 0, 40⟩, run, by decide +kernel⟩,
    ⟨0, ⟨0, 7, 100, 40⟩, (let s : State := run; let s : State := s.w (F.PRT_CFG_MODE) (0) (2); let s : State := s.w (F.DFB_CFG_TYPE) (0) (1); s), _, by decide +kernel, by decide +kernel, by decide +kernel, by decide +kernel, rfl, by decide +kernel⟩,
    ⟨15, ⟨0, 6, 0, 40⟩, (let s : State := run; let s : State := s.w F.PRT_CFG_MODE 15 2; let s : State := s.w F.DFB_CFG_TYPE 15 1; let s : State := s.updDfb 15 fun d => { d with p0 := { hSec := 2 } }; s), _, 3, by decide +kernel, by decide +kernel, by decide +kernel, by decide +kernel, rfl, by decide +kernel⟩,
    ⟨15, ⟨0, 3, 0, 40⟩, (let s : State := run; let s : State := s.w F.PRT_CFG_MODE 15 2; let s : State := s.w F.DFB_CFG_TYPE 15 1; let s : State := s.updDfb 15 fun d => { d with p0 := { hSec := 2 } }; s), _, 1, by decide +kernel, by decide +kernel, by decide +kernel, by decide +kernel, rfl, by decide +kernel⟩,
    ⟨0, ⟨0, 1, 100, 40⟩, (let s : State := run; let s : State := s.w (F.PRT_CFG_MODE) (0) (2); let s : State := s.w (F.DFB_CFG_TYPE) (0) (1); s), _, 0, by decide +kernel, by decide +kernel, by decide +kernel, by decide +kernel, rfl, by decide +kernel⟩,
    ⟨15, ⟨0, 1, 0, 40⟩, (let s : State := run; let s : State := s.w F.PRT_CFG_MODE 15 2; let s : State := s.w F.DFB_CFG_TYPE 15 1; let s : State := s.updDfb 15 fun d => { d with p0 := { hSec := 2 } }; s), _, 0, by decide +kernel, by decide +kernel, by decide +kernel, by decide +kernel, rfl, by decide +kernel⟩,
    ⟨0, ⟨0, 5, 100, 40⟩, run, by decide +kernel⟩,
    ⟨15, ⟨0, true, true, true, 0, 40⟩, (let s : State := run; let s : State := s.w F.PRT_CFG_MODE 15 2; let s : State := s.w F.DFB_CFG_IDXMODE 15 2; let s : State := s.updDfb 15 fun d => { d with p0 := { zfound := false } }; s), _, by decide +kernel, by decide +kernel, by decide +kernel, by decide +kernel, rfl, by decide +kernel⟩,
    ⟨15, ⟨0, true, true, true, 0, 40⟩, (let s : State := run; let s : State := s.w F.PRT_CFG_MODE 15 2; let s : State := s.w F.DFB_CFG_IDXMODE 15 2; let s : State := s.updDfb 15 fun d => { d with p0 := { zfound := true, pos := 7 } }; s), _, by decide +kernel, by decide +kernel, by decide +kernel, by decide +kernel, rfl, by decide +kernel⟩⟩

theorem witness_QuadratureLossAndCommands :
    (∃ (n : Fin 16) (s : State) (x : DfbPath), s.digital n = true ∧ s.dpath n 0 = x ∧ s.g F.DFB_QLOSS_ILL_M n < x.ill ∧ x.illNew = true ∧ x.qloss = false) ∧
    (∃ (n : Fin 16) (s : State), (s.digital n = false ∨ (∀ p, (s.dpath n p).ill ≤ s.g F.DFB_QLOSS_ILL_M n ∨ (s.dpath n p).qloss = true))) ∧
    (∃ (n : Fin 16) (s : State) (x : DfbPath), s.digital n = true ∧ s.dpath n 0 = x ∧ s.g F.DFB_QLOSS_ILL_WIN n * 5000 ≤ (s.dfb! n).win) ∧
    (∃ (n : Fin 16) (s : State), (s.digital n = false ∨ (s.dfb! n).win < s.g F.DFB_QLOSS_ILL_WIN n * 5000)) ∧
    (∃ (s : State), s.reaches 0xB000 = true) ∧
    (∃ (n : Fin 16) (s : State), s.reaches 0xB000 = true ∧ s.g F.DFB_CFG_IDXMODE n = 0) ∧
    (∃ (n : Fin 16) (s : State), s.g F.DFB_CFG_IDXMODE n ≠ 0) :=
  ⟨⟨15, (let s : State := run; let s : State := s.w F.PRT_CFG_MODE 15 2; let s : State := s.updDfb 15 fun d => { d with p0 := { illNew := true, ill := 300 } }; s), _, by decide +kernel, rfl, by decide +kernel⟩,
    ⟨0, run, Or.inl (by decide +kernel)⟩,
    ⟨0, (let s : State := run; let s : State := s.w (F.PRT_CFG_MODE) (0) (2); let s : State := s.updDfb (0) fun d => { d with win := s.g F.DFB_QLOSS_ILL_WIN 0 * 5000 }; s), _, by decide +kernel, rfl, by decide +kernel⟩,
    ⟨0, run, by decide +kernel⟩,
    ⟨run, by decide +kernel⟩,
    ⟨0, (let s : State := run; let s : State := s.w (F.DFB_CFG_IDXMODE) (0) (0); s), by decide +kernel⟩,
    ⟨0, run, by decide +kernel⟩⟩

theorem witness_SerialSensorFrames :
    (∃ (n : Fin 16) (s : State) (at' : Nat), s.serial n = true ∧ s.standby = false ∧ s.holdsToken = true ∧ (s.dfb! n).req = some at' ∧ 0 ≤ tdiff at' (s.exc! n).hold ∧ s.gb F.DFB_STAT_FRAME n = false ∧ 0 ≤ tdiff at' (s.dfb! n).recover) ∧
    (∃ (n : Fin 16) (idle : Bool) (s : State) (at' : Nat), s.serial n = true ∧ s.standby = false ∧ s.holdsToken = true ∧ (s.dfb! n).req = some at' ∧ 0 ≤ tdiff at' (s.exc! n).hold ∧ (s.dfb! n).mon = false ∧ (s.gb F.DFB_STAT_FRAME n = true ∨ tdiff at' (s.dfb! n).recover < 0 ∨ idle = false)) ∧
    (∃ (n : Fin 16) (s : State), s.serial n = true ∧ s.standby = true ∧ s.gb F.DFB_STAT_FRAME n = false) ∧
    (∃ (n : Fin 16) (s : State), s.serial n = false) ∧
    (∃ (n : Fin 16) (f : SerialIn) (s : State) (nb : Nat) (es : List Bool), s.digital n = true ∧ s.g F.DFB_CFG_TYPE n = 2 ∧ s.gb F.DFB_STAT_FRAME n = true ∧ f.path.val = 0 ∧ f.clockOk = true ∧ nb = s.g F.DFB_SFMT_MT_BITS n + s.g F.DFB_SFMT_ST_BITS n ∧ es = (if s.g F.DFB_SFMT_ERRB n = 0 then [] else if s.g F.DFB_SFMT_ERRB n = 1 then [f.err.toNat.testBit 0] else [f.err.toNat.testBit 0, f.err.toNat.testBit 1]) ∧ crc6 (bitsMSB (f.data % 2 ^ nb) nb ++ es) ^^^ 63 = f.check % 64) ∧
    (∃ (n : Fin 16) (f : SerialIn) (s : State) (nb : Nat) (es : List Bool), s.digital n = true ∧ s.g F.DFB_CFG_TYPE n = 2 ∧ s.gb F.DFB_STAT_FRAME n = true ∧ f.path.val = 0 ∧ f.clockOk = true ∧ nb = s.g F.DFB_SFMT_MT_BITS n + s.g F.DFB_SFMT_ST_BITS n ∧ es = (if s.g F.DFB_SFMT_ERRB n = 0 then [] else if s.g F.DFB_SFMT_ERRB n = 1 then [f.err.toNat.testBit 0] else [f.err.toNat.testBit 0, f.err.toNat.testBit 1]) ∧ crc6 (bitsMSB (f.data % 2 ^ nb) nb ++ es) ^^^ 63 ≠ f.check % 64) ∧
    (∃ (n : Fin 16) (f : SerialIn) (s : State) (nb : Nat), s.digital n = true ∧ s.g F.DFB_CFG_TYPE n = 3 ∧ s.gb F.DFB_STAT_FRAME n = true ∧ f.path.val = 0 ∧ f.clockOk = true ∧ nb = s.g F.DFB_SFMT_MT_BITS n + s.g F.DFB_SFMT_ST_BITS n ∧ (s.gb F.DFB_SFMT_DBL n = false ∨ f.check = f.data % 2 ^ nb)) ∧
    (∃ (n : Fin 16) (f : SerialIn) (s : State) (nb : Nat), s.digital n = true ∧ s.g F.DFB_CFG_TYPE n = 3 ∧ s.gb F.DFB_STAT_FRAME n = true ∧ f.path.val = 0 ∧ f.clockOk = true ∧ nb = s.g F.DFB_SFMT_MT_BITS n + s.g F.DFB_SFMT_ST_BITS n ∧ s.gb F.DFB_SFMT_DBL n = true ∧ f.check ≠ f.data % 2 ^ nb) ∧
    (∃ (n : Fin 16) (f : SerialIn) (s : State), (s.serial n = false ∨ (s.gb F.DFB_STAT_FRAME n = false ∧ f.path.val = 0))) ∧
    (∃ (n : Fin 16) (p : Fin 2) (s : State), s.digital n = true ∧ s.g F.DFB_CFG_TYPE n = 2 ∧ s.gb F.DFB_STAT_FRAME n = true ∧ p = 0 ∧ tdiff (tadd (s.dfb! n).tr ((2 * s.g F.DFB_STIM_TO_MAX n - 1) * s.serialClk n / 2 : Nat)) (tadd s.now sampleU) < 0) ∧
    (∃ (n : Fin 16) (s : State), (s.digital n = false ∨ s.g F.DFB_CFG_TYPE n ≠ 2 ∨ s.gb F.DFB_STAT_FRAME n = false)) :=
  ⟨⟨0, (let s : State := run; let s : State := s.w (F.PRT_CFG_MODE) (0) (2); let s : State := s.w (F.DFB_CFG_TYPE) (0) (2); let s : State := s.updDfb (0) fun d => { d with req := some 0 }; s), 0, by decide +kernel⟩,
    ⟨0, true, (let s : State := run; let s : State := s.w (F.PRT_CFG_MODE) (0) (2); let s : State := s.w (F.DFB_CFG_TYPE) (0) (2); let s : State := s.updDfb (0) fun d => { d with req := some 0 }; let s : State := s.w (F.DFB_STAT_FRAME) (0) 1; s), 0, by decide +kernel⟩,
    ⟨0, (let s : State := run; let s : State := s.w (F.PRT_CFG_MODE) (0) (2); let s : State := s.w (F.DFB_CFG_TYPE) (0) (2); let s : State := s.w (F.GLB_STATUS_ROLE) (0) (2); s), by decide +kernel⟩,
    ⟨15, (let s : State := (let s : State := run; let s : State := s.w F.PRT_CFG_MODE 15 2; let s : State := s.w F.DFB_CFG_TYPE 15 2; let s : State := s.w F.DFB_STAT_FRAME 15 1; let s : State := s.w F.DFB_SFMT_ST_BITS 15 8; let s : State := s.w F.DFB_SFMT_MT_BITS 15 0; s); let s : State := s.w (F.PRT_CFG_MODE) (15) ((2) + 1); s), by decide +kernel⟩,
    ⟨15, ⟨0, 255, crc6 (bitsMSB 255 8) ^^^ 63, 0, true, 6400⟩, (let s : State := run; let s : State := s.w F.PRT_CFG_MODE 15 2; let s : State := s.w F.DFB_CFG_TYPE 15 2; let s : State := s.w F.DFB_STAT_FRAME 15 1; let s : State := s.w F.DFB_SFMT_ST_BITS 15 8; let s : State := s.w F.DFB_SFMT_MT_BITS 15 0; s), 8, _, by decide +kernel, by decide +kernel, by decide +kernel, by decide +kernel, by decide +kernel, by decide +kernel, rfl, by decide +kernel⟩,
    ⟨0, ⟨0, 100, 0, 0, true, 6400⟩, (let s : State := run; let s : State := s.w (F.PRT_CFG_MODE) (0) (2); let s : State := s.w (F.DFB_CFG_TYPE) (0) (2); let s : State := s.w (F.DFB_STAT_FRAME) (0) 1; s), _, _, by decide +kernel, by decide +kernel, by decide +kernel, by decide +kernel, by decide +kernel, rfl, rfl, by decide +kernel⟩,
    ⟨0, ⟨0, 100, 0, 0, true, 6400⟩, (let s : State := run; let s : State := s.w (F.PRT_CFG_MODE) (0) (2); let s : State := s.w (F.DFB_CFG_TYPE) (0) (3); let s : State := s.w (F.DFB_STAT_FRAME) (0) 1; s), _, by decide +kernel, by decide +kernel, by decide +kernel, by decide +kernel, by decide +kernel, rfl, by decide +kernel⟩,
    ⟨0, ⟨0, 100, 0, 0, true, 6400⟩, (let s : State := run; let s : State := s.w (F.PRT_CFG_MODE) (0) (2); let s : State := s.w (F.DFB_CFG_TYPE) (0) (3); let s : State := s.w (F.DFB_STAT_FRAME) (0) 1; let s : State := s.w (F.DFB_SFMT_DBL) (0) 1; s), _, by decide +kernel, by decide +kernel, by decide +kernel, by decide +kernel, by decide +kernel, rfl, by decide +kernel⟩,
    ⟨0, ⟨0, 100, 0, 0, true, 6400⟩, run, by decide +kernel⟩,
    ⟨0, _, (let s : State := run; let s : State := s.w (F.PRT_CFG_MODE) (0) (2); let s : State := s.w (F.DFB_CFG_TYPE) (0) (2); let s : State := s.w (F.DFB_STAT_FRAME) (0) 1; s), by decide +kernel, by decide +kernel, by decide +kernel, rfl, by decide +kernel⟩,
    ⟨0, run, by decide +kernel⟩⟩

theorem witness_EmulationAndPulseCommands :
    (∃ (s : State), s.reaches 0xC000 = true) ∧
    (∃ (i : Fin 8) (s : State) (z : Nat), s.emuCode i = 2 ∧ (s.emu! i).zAt = some z ∧ (s.emu! i).zev = [] ∧ tdiff (tadd z (10 * usU)) (tadd s.now sampleU) ≤ 0) ∧
    (∃ (i : Fin 8) (s : State), ((s.emu! i).zAt = none ∨ s.emuCode i ≠ 2)) ∧
    (∃ (i : Fin 8) (s : State) (z : Nat), (s.emu! i).zAt = some z ∧ 0 < tdiff (tadd z (10 * usU)) (tadd s.now sampleU)) ∧
    (∃ (o : Fin 16) (s : State) (e : Nat), (vget s.gt o).low = some e ∧ ((∀ v, (s.vnt! v).pulse = none)) ∧ tdiff e (tadd s.now (2 * sampleU)) ≤ 0) ∧
    (∃ (o : Fin 16) (s : State), ((∀ e, (vget s.gt o).low = some e → 0 < tdiff e (tadd s.now (2 * sampleU))))) ∧
    (∃ (p : Fin 4) (held : Nat) (s : State), (vget s.pwms p).lvl = false ∧ s.gb F.GEY_PWMS_CFG_EN p = true ∧ s.g F.GEY_PWMS_CFG_FILT p ≤ held) ∧
    (∃ (p : Fin 4) (level : Bool) (held : Nat) (s : State), ((vget s.pwms p).lvl = level ∨ (s.gb F.GEY_PWMS_CFG_EN p = true ∧ held < s.g F.GEY_PWMS_CFG_FILT p))) ∧
    (∃ (p : Fin 4) (s : State), s.gb F.GEY_PWMS_CFG_EN p = true ∧ s.g F.GEY_PWMS_CFG_TO p ≠ 0 ∧ tdiff (tadd (vget s.pwms p).base (s.g F.GEY_PWMS_CFG_TO p * usU)) (tadd s.now sampleU) ≤ 0) ∧
    (∃ (p : Fin 4) (s : State), (s.gb F.GEY_PWMS_CFG_EN p = false ∨ s.g F.GEY_PWMS_CFG_TO p = 0 ∨ 0 < tdiff (tadd (vget s.pwms p).base (s.g F.GEY_PWMS_CFG_TO p * usU)) (tadd s.now sampleU))) :=
  ⟨⟨run, by decide +kernel⟩,
    ⟨7, (let s : State := run; let s : State := { s with emuDrv := true }; let s : State := s.w F.EMU_CFG_ENABLE 7 1; let s : State := s.updEmu 7 fun d => { d with st := eRun, zAt := some (2^40 - 11 * usU) }; s), 2^40 - 11 * usU, by decide +kernel⟩,
    ⟨0, run, by decide +kernel⟩,
    ⟨7, (let s : State := run; let s : State := { s with emuDrv := true }; let s : State := s.w F.EMU_CFG_ENABLE 7 1; let s : State := s.updEmu 7 fun d => { d with st := eRun, zAt := some (2^40) }; s), 2^40, by decide +kernel⟩,
    ⟨0, { run with gt := vupd run.gt 0 fun d => { d with low := some 0 } }, 0, by decide +kernel, fun v => pulse_none _ (by decide +kernel) v, by decide +kernel⟩,
    ⟨0, run, fun _ h => nomatch (show (none : Option Nat) = some _ from h)⟩,
    ⟨0, 0, (let s : State := run; let s : State := s.w (F.GEY_PWMS_CFG_EN) (0) 1; let s : State := s.w (F.GEY_PWMS_CFG_FILT) (0) (0); s), by decide +kernel⟩,
    ⟨0, true, 0, (let s : State := run; let s : State := { s with pwms := vupd s.pwms (0) fun d => { d with lvl := true } }; s), by decide +kernel⟩,
    ⟨0, (let s : State := run; let s : State := s.w (F.GEY_PWMS_CFG_EN) (0) 1; let s : State := s.w (F.GEY_PWMS_CFG_TO) (0) ((0) + 1); s), by decide +kernel⟩,
    ⟨0, run, by decide +kernel⟩⟩

theorem witness_SlotsTablesAndStream :
    (∃ (j : Fin 256) (s : State) (c : Commitment), (s.slot! j).keep = none ∧ (s.slot! j).com = some c ∧ (s.slot! j).st = gComm ∧ s.fireDue c.at' = true) ∧
    (∃ (j : Fin 256) (s : State) (c : Commitment), (s.slot! j).keep = some c ∧ s.fireDue c.at' = true) ∧
    (∃ (j : Fin 256) (s : State), (s.slot! j).keep = none ∧ ((∀ c, (s.slot! j).com = some c → s.fireDue c.at' = false))) ∧
    (∃ (src : Src) (s : State) (a : Nat), s.reaches 0xD000 = true ∧ s.mayStage src.path = true ∧ s.staged.length < 2048 ∧ a = liveBase + 4 * s.g F.GEY_LADDR_WORD ∧ s.inSet (.sram a) = false) ∧
    (∃ (value : BitVec 32) (s : State) (w : Nat), s.reaches 0xD000 = true ∧ w = s.g F.GEY_SHADDR_WORD ∧ s.copyPending (s.shadowGroup (w / 4)) = false ∧ ((w % 4 = 0 → s.copyPending (bitsOf value.toNat 16 6) = false))) ∧
    (∃ (value : BitVec 32) (s : State) (w : Nat), s.reaches 0xD000 = true ∧ w = s.g F.GEY_SHADDR_WORD ∧ (s.copyPending (s.shadowGroup (w / 4)) = true ∨ (w % 4 = 0 ∧ s.copyPending (bitsOf value.toNat 16 6) = true))) ∧
    (∃ (value : BitVec 32) (s : State) (g : Nat), s.reaches 0xD000 = true ∧ bitOf value.toNat 8 = true ∧ g = value.toNat % 64 ∧ g ≠ 0 ∧ s.copyPending g = false) ∧
    (∃ (value : BitVec 32) (s : State) (g : Nat), s.reaches 0xD000 = true ∧ bitOf value.toNat 8 = true ∧ g = value.toNat % 64 ∧ g ≠ 0 ∧ s.copyPending g = true) ∧
    (∃ (value : BitVec 32) (s : State), s.reaches 0xD000 = true ∧ bitOf value.toNat 8 = true ∧ value.toNat % 64 = 0) ∧
    (∃ (s : State) (t0 : Nat), s.stream.drive = some t0 ∧ s.stream.began = false ∧ 2 * usU ≤ tdiff s.now t0) ∧
    (∃ (s : State), ((∀ t0, s.stream.drive = some t0 → s.stream.began = true ∨ tdiff s.now t0 < 2 * usU))) ∧
    (∃ (s : State) (b : List Byte) (q : List (Nat × List Byte)), s.stream.began = true ∧ tdiff s.stream.busy (tadd s.now sampleU) ≤ 0 ∧ ((takeClass 0 s.stream.q).orElse fun _ => (takeClass 1 s.stream.q).orElse fun _ => takeClass 2 s.stream.q) = some (b, q)) ∧
    (∃ (s : State), (s.stream.began = false ∨ 0 < tdiff s.stream.busy (tadd s.now sampleU) ∨ s.stream.q = [])) :=
  ⟨⟨255, (let s : State := run; let s : State := s.updSlot 255 fun v => { v with com := some ⟨2^40 + 100, 0, none⟩, st := gComm }; s), ⟨2^40 + 100, 0, none⟩, by decide +kernel⟩,
    ⟨255, (let s : State := run; let s : State := s.updSlot 255 fun v => { v with keep := some ⟨2^40 + 100, 0, none⟩ }; s), ⟨2^40 + 100, 0, none⟩, by decide +kernel⟩,
    ⟨0, run, by decide +kernel⟩,
    ⟨⟨.bar0, 0⟩, run, _, by decide +kernel, by decide +kernel, by decide +kernel, rfl, by decide +kernel⟩,
    ⟨1#32, run, _, by decide +kernel, rfl, by decide +kernel⟩,
    ⟨1#32, (let s : State := run; let s : State := { s with copies := [default] }; s), _, by decide +kernel, rfl, by decide +kernel⟩,
    ⟨4294967295#32, run, _, by decide +kernel, by decide +kernel, rfl, by decide +kernel⟩,
    ⟨0x13F#32, (let s : State := run; let s : State := { s with copies := [(63, 2^40)] }; s), _, by decide +kernel, by decide +kernel, rfl, by decide +kernel⟩,
    ⟨0x100#32, run, by decide +kernel⟩,
    ⟨(let s : State := run; let s : State := { s with stream := { s.stream with drive := some 0 } }; s), 0, by decide +kernel⟩,
    ⟨run, by decide +kernel⟩,
    ⟨(let s : State := run; let s : State := { s with stream := { s.stream with began := true, busy := 0, q := [(0, List.replicate 16 1)] } }; s), List.replicate 16 1, [], by decide +kernel⟩,
    ⟨run, by decide +kernel⟩⟩

theorem witness_VentMovesAndArithmetic :
    (∃ (e : Fin 7) (s : State) (rd : BitVec 3) (src : VSrc), Issues e (.mov rd src) s ∧ s.g F.VNT_STAT_PC e < 1023) ∧
    (∃ (e : Fin 7) (s : State) (rd : BitVec 3) (imm : BitVec 16), Issues e (.movh rd imm) s ∧ s.g F.VNT_STAT_PC e < 1023) ∧
    (∃ (e : Fin 7) (c : Instr) (op : AluOp) (s : State) (rd : BitVec 3) (ra : BitVec 3) (src : VSrc) (a : Word) (b : Word), (c, op) ∈ [(.add e, AluOp.add), (.sub e, AluOp.sub), (.and e, AluOp.and), (.or e, AluOp.or), (.xor e, AluOp.xor), (.shl e, AluOp.shl), (.shr e, AluOp.shr), (.sar e, AluOp.sar)] ∧ Issues e (.alu op rd ra src) s ∧ s.g F.VNT_STAT_PC e < 1023 ∧ a = s.vreg e ra ∧ b = AluOp.source op src (s.vreg e)) ∧
    (∃ (e : Fin 7) (s : State) (ra : BitVec 3) (src : VSrc), Issues e (.cmp ra src) s ∧ s.g F.VNT_STAT_PC e < 1023) ∧
    (∃ (e : Fin 7) (c : Instr) (op : Nat) (i : VInstr) (s : State), (c, op) ∈ [(.mov e, 0x01), (.movh e, 0x02), (.add e, 0x03), (.sub e, 0x04), (.and e, 0x05), (.or e, 0x06), (.xor e, 0x07), (.shl e, 0x08), (.shr e, 0x09), (.sar e, 0x0A), (.cmp e, 0x0B)] ∧ Issues e i s ∧ vOpcode (s.ventWord e) = op ∧ s.g F.VNT_STAT_PC e = 1023) :=
  ⟨⟨6, (vAt 6 (.mov 3 (.reg 7))), 3#3, .reg 7, ⟨by decide +kernel, by decide +kernel, by decide +kernel, by decide +kernel, by decide +kernel⟩, by decide +kernel⟩,
    ⟨6, (vAt 6 (.movh 7 0xFFFF)), 7#3, 0xFFFF#16, ⟨by decide +kernel, by decide +kernel, by decide +kernel, by decide +kernel, by decide +kernel⟩, by decide +kernel⟩,
    ⟨6, .sar 6, .sar, (vAt 6 (.alu .sar 3 2 (.imm 33))), 3#3, 2#3, .imm 33, _, _, by decide +kernel, ⟨by decide +kernel, by decide +kernel, by decide +kernel, by decide +kernel, by decide +kernel⟩, by decide +kernel, rfl, rfl⟩,
    ⟨6, (vAt 6 (.cmp 2 (.imm 33))), 2#3, .imm 33, ⟨by decide +kernel, by decide +kernel, by decide +kernel, by decide +kernel, by decide +kernel⟩, by decide +kernel⟩,
    ⟨6, .add 6, _, .alu .add 1 2 (.imm 5), (let s : State := run; let s : State := s.w F.VNT_STAT_STATE 6 vRun; let s : State := s.w F.VNT_STAT_PC 6 1023; let s : State := s.setSram32 (ventBase + 4096 * 6 + 4 * 1023) (ventEncode (.alu .add 1 2 (.imm 5))).toNat; let s : State := s.updVnt 6 fun v => { v with budget := 9, due := s.now }; s), by decide +kernel, ⟨by decide +kernel, by decide +kernel, by decide +kernel, by decide +kernel, by decide +kernel⟩, rfl, by decide +kernel⟩⟩

theorem witness_VentFlowAndWindows :
    (∃ (e : Fin 7) (s : State) (c : Cond) (tg : BitVec 10), Issues e (.br c tg) s ∧ Cond.holds c (s.vflags e) = true) ∧
    (∃ (e : Fin 7) (s : State) (c : Cond) (tg : BitVec 10), Issues e (.br c tg) s ∧ Cond.holds c (s.vflags e) = false ∧ s.g F.VNT_STAT_PC e < 1023) ∧
    (∃ (e : Fin 7) (s : State) (rd : BitVec 3) (ra : BitVec 3) (x : Bool) (off : BitVec 10) (v : Nat) (st : Bool) (u : State), Issues e (.ld rd ra x off) s ∧ s.g F.VNT_STAT_PC e < 1023 ∧ (s.issued e).ventLoad e (s.ventAddr e ra x off) = some (v, st, u)) ∧
    (∃ (e : Fin 7) (s : State) (rd : BitVec 3) (ra : BitVec 3) (x : Bool) (off : BitVec 10), Issues e (.ld rd ra x off) s ∧ (s.issued e).ventLoad e (s.ventAddr e ra x off) = none) ∧
    (∃ (e : Fin 7) (s : State) (rs : BitVec 3) (ra : BitVec 3) (x : Bool) (off : BitVec 10) (a : Nat), Issues e (.st rs ra x off) s ∧ s.g F.VNT_STAT_PC e < 1023 ∧ a = s.ventAddr e ra x off ∧ a < 0x80) ∧
    (∃ (e : Fin 7) (s : State) (rs : BitVec 3) (ra : BitVec 3) (x : Bool) (off : BitVec 10) (a : Nat) (u : State) (r : Bool), Issues e (.st rs ra x off) s ∧ s.g F.VNT_STAT_PC e < 1023 ∧ a = s.ventAddr e ra x off ∧ (s.issued e).ventStore e a (s.vreg e rs).toNat = some (u, r)) ∧
    (∃ (e : Fin 7) (s : State) (rs : BitVec 3) (ra : BitVec 3) (x : Bool) (off : BitVec 10), Issues e (.st rs ra x off) s ∧ (s.issued e).ventStore e (s.ventAddr e ra x off) (s.vreg e rs).toNat = none) ∧
    (∃ (e : Fin 7) (s : State) (n : BitVec 4), Issues e (.post n) s ∧ s.g F.VNT_STAT_PC e < 1023) ∧
    (∃ (e : Fin 7) (s : State), Issues e .halt s ∧ (s.vnt! e).pend = none) ∧
    (∃ (e : Fin 7) (s : State) (b : VStart), Issues e .halt s ∧ (s.vnt! e).pend = some b) ∧
    (∃ (e : Fin 7) (s : State), s.vst e = vRun ∧ tdiff (s.vnt! e).due (tadd s.now sampleU) ≤ 0 ∧ ventIllegal e (s.ventWord e) = true ∧ s.poisoned (ventBase + 4096 * e + 4 * s.g F.VNT_STAT_PC e) = false ∧ (s.vnt! e).budget ≠ 0) ∧
    (∃ (e : Fin 7) (s : State), (s.vst e ≠ vRun ∨ ventIllegal e (s.ventWord e) = false ∨ 0 < tdiff (s.vnt! e).due (tadd s.now sampleU))) :=
  ⟨⟨6, (vAt 6 (.br .al 17)), .al, 17#10, ⟨by decide +kernel, by decide +kernel, by decide +kernel, by decide +kernel, by decide +kernel⟩, by decide +kernel⟩,
    ⟨6, (vAt 6 (.br .eq 17)), .eq, 17#10, ⟨by decide +kernel, by decide +kernel, by decide +kernel, by decide +kernel, by decide +kernel⟩, by decide +kernel⟩,
    ⟨0, (vAt 0 (.ld 1 2 false 0x7F)), 1#3, 2#3, false, 0x7F#10, 0, false, (vAt 0 (.ld 1 2 false 0x7F)).issued 0, ⟨by decide +kernel, by decide +kernel, by decide +kernel, by decide +kernel, by decide +kernel⟩, by decide +kernel⟩,
    ⟨0, (vAt 0 (.ld 1 2 false 0x88)), 1#3, 2#3, false, 0x88#10, ⟨by decide +kernel, by decide +kernel, by decide +kernel, by decide +kernel, by decide +kernel⟩, by decide +kernel⟩,
    ⟨0, (vAt 0 (.st 1 2 false 0x7F)), 1#3, 2#3, false, 0x7F#10, _, ⟨by decide +kernel, by decide +kernel, by decide +kernel, by decide +kernel, by decide +kernel⟩, by decide +kernel, rfl, by decide +kernel⟩,
    ⟨0, (vAt 0 (.st 1 2 false 127)), 1#3, 2#3, false, 127#10, _, ((((vAt 0 (.st 1 2 false 127)).issued 0).ventStore 0 ((vAt 0 (.st 1 2 false 127)).ventAddr 0 2 false 127) 0).getD (run, false)).1, ((((vAt 0 (.st 1 2 false 127)).issued 0).ventStore 0 ((vAt 0 (.st 1 2 false 127)).ventAddr 0 2 false 127) 0).getD (run, false)).2, ⟨by decide +kernel, by decide +kernel, by decide +kernel, by decide +kernel, by decide +kernel⟩, by decide +kernel, rfl, by decide +kernel⟩,
    ⟨0, (vAt 0 (.st 1 2 false 0x80)), 1#3, 2#3, false, 0x80#10, ⟨by decide +kernel, by decide +kernel, by decide +kernel, by decide +kernel, by decide +kernel⟩, by decide +kernel⟩,
    ⟨6, (vAt 6 (.post 15)), 15#4, ⟨by decide +kernel, by decide +kernel, by decide +kernel, by decide +kernel, by decide +kernel⟩, by decide +kernel⟩,
    ⟨6, (vAt 6 (.halt)), ⟨by decide +kernel, by decide +kernel, by decide +kernel, by decide +kernel, by decide +kernel⟩, by decide +kernel⟩,
    ⟨6, (let s : State := (vAt 6 (.halt)); let s : State := s.updVnt 6 fun v => { v with pend := some ⟨1, 2, 3, 4, 5⟩ }; s), ⟨1, 2, 3, 4, 5⟩, ⟨by decide +kernel, by decide +kernel, by decide +kernel, by decide +kernel, by decide +kernel⟩, by decide +kernel⟩,
    ⟨0, (let s : State := run; let s : State := s.w (F.VNT_STAT_STATE) (0) (vRun); let s : State := s.updVnt (0) fun d => { d with budget := (0) + 1 }; s), by decide +kernel⟩,
    ⟨0, run, by decide +kernel⟩⟩

theorem witness_VentWaits :
    (∃ (e : Fin 7) (s : State) (m : BitVec 2) (ra : BitVec 3) (imm : BitVec 16), m.toNat = 0 ∧ Issues e (.wait m ra imm) s) ∧
    (∃ (e : Fin 7) (s : State) (m : BitVec 2) (ra : BitVec 3) (imm : BitVec 16) (u : Nat), m.toNat = 1 ∧ Issues e (.wait m ra imm) s ∧ u = tadd (s.vnt! e).start.t0 ((s.vreg e ra).toNat * nsU) ∧ 0 ≤ tdiff u (s.vnt! e).due) ∧
    (∃ (e : Fin 7) (s : State) (m : BitVec 2) (ra : BitVec 3) (imm : BitVec 16) (u : Nat), m.toNat = 1 ∧ Issues e (.wait m ra imm) s ∧ u = tadd (s.vnt! e).start.t0 ((s.vreg e ra).toNat * nsU) ∧ tdiff u (s.vnt! e).due < 0 ∧ s.g F.VNT_STAT_PC e < 1023) ∧
    (∃ (e : Fin 7) (s : State) (m : BitVec 2) (ra : BitVec 3) (imm : BitVec 16), m.toNat = 2 ∧ Issues e (.wait m ra imm) s ∧ bitsOf imm.toNat 5 2 ≠ 3) ∧
    (∃ (e : Fin 7) (s : State) (m : BitVec 2) (ra : BitVec 3) (imm : BitVec 16), m.toNat = 2 ∧ Issues e (.wait m ra imm) s ∧ bitsOf imm.toNat 5 2 = 3) ∧
    (∃ (e : Fin 7) (s : State) (m : BitVec 2) (ra : BitVec 3) (imm : BitVec 16), m.toNat = 3 ∧ Issues e (.wait m ra imm) s) ∧
    (∃ (e : Fin 7) (s : State) (v : BitVec 6) (ra : BitVec 3) (rb : BitVec 3) (imm : BitVec 14) (n : Nat), v.toNat = 0x10 ∧ siteVerb e 0x10 = true ∧ Issues e (.act v ra rb imm) s ∧ n = (s.vreg e ra).toNat ∧ n < 16 ∧ (s.drives n = true ∨ s.drv n = dSense)) ∧
    (∃ (e : Fin 7) (s : State) (v : BitVec 6) (ra : BitVec 3) (rb : BitVec 3) (imm : BitVec 14) (n : Nat), v.toNat = 0x10 ∧ siteVerb e 0x10 = true ∧ Issues e (.act v ra rb imm) s ∧ n = (s.vreg e ra).toNat ∧ (16 ≤ n ∨ (s.drives n = false ∧ s.drv n ≠ dSense)) ∧ s.g F.VNT_STAT_PC e < 1023) ∧
    (∃ (e : Fin 7) (s : State) (u : Nat), s.ventMet e = some u ∧ s.vst e = vWait ∧ tdiff u (s.ventLimit e) ≤ 0 ∧ tdiff u (tadd s.now sampleU) ≤ 0 ∧ s.g F.VNT_STAT_PC e < 1023) ∧
    (∃ (e : Fin 7) (s : State), (s.vst e ≠ vWait ∨ (∀ u, s.ventMet e = some u → 0 < tdiff u (s.ventLimit e) ∨ 0 < tdiff u (tadd s.now sampleU)))) ∧
    (∃ (e : Fin 7) (s : State), s.vst e = vWait ∧ ((∀ u, s.ventMet e = some u → 0 < tdiff u (s.ventLimit e))) ∧ tdiff (s.ventLimit e) (tadd s.now sampleU) ≤ 0 ∧ s.g F.VNT_STAT_PC e < 1023) ∧
    (∃ (e : Fin 7) (s : State), (s.vst e ≠ vWait ∨ (∃ u, s.ventMet e = some u ∧ tdiff u (s.ventLimit e) ≤ 0) ∨ 0 < tdiff (s.ventLimit e) (tadd s.now sampleU))) :=
  ⟨⟨6, (vAt 6 (.wait 0 7 0xFFFF)), 0#2, 7#3, 0xFFFF#16, by decide +kernel, ⟨by decide +kernel, by decide +kernel, by decide +kernel, by decide +kernel, by decide +kernel⟩⟩,
    ⟨6, (let s : State := (vAt 6 (.wait 1 7 0)); let s : State := s.updVnt 6 fun v => { v with start := { v.start with t0 := 2^40 + 64 } }; s), 1#2, 7#3, 0#16, _, by decide +kernel, ⟨by decide +kernel, by decide +kernel, by decide +kernel, by decide +kernel, by decide +kernel⟩, rfl, by decide +kernel⟩,
    ⟨6, (vAt 6 (.wait 1 7 0)), 1#2, 7#3, 0#16, _, by decide +kernel, ⟨by decide +kernel, by decide +kernel, by decide +kernel, by decide +kernel, by decide +kernel⟩, rfl, by decide +kernel⟩,
    ⟨6, (vAt 6 (.wait 2 3 0x5F)), 2#2, 3#3, 0x5F#16, by decide +kernel, ⟨by decide +kernel, by decide +kernel, by decide +kernel, by decide +kernel, by decide +kernel⟩, by decide +kernel⟩,
    ⟨6, (vAt 6 (.wait 2 3 0x60)), 2#2, 3#3, 0x60#16, by decide +kernel, ⟨by decide +kernel, by decide +kernel, by decide +kernel, by decide +kernel, by decide +kernel⟩, by decide +kernel⟩,
    ⟨6, (vAt 6 (.wait 3 3 255)), 3#2, 3#3, 255#16, by decide +kernel, ⟨by decide +kernel, by decide +kernel, by decide +kernel, by decide +kernel, by decide +kernel⟩⟩,
    ⟨4, (let s : State := (vAt 4 (.act 0x10 2 3 5)); let s : State := s.w (F.VNT_W_W 2) 4 15; let s : State := s.w F.EXC_STAT_STATE 15 dSense; s), 16#6, 2#3, 3#3, 5#14, _, by decide +kernel, by decide +kernel, ⟨by decide +kernel, by decide +kernel, by decide +kernel, by decide +kernel, by decide +kernel⟩, rfl, by decide +kernel⟩,
    ⟨4, (let s : State := (vAt 4 (.act 0x10 2 3 5)); let s : State := s.w (F.VNT_W_W 2) 4 16; s), 16#6, 2#3, 3#3, 5#14, _, by decide +kernel, by decide +kernel, ⟨by decide +kernel, by decide +kernel, by decide +kernel, by decide +kernel, by decide +kernel⟩, rfl, by decide +kernel⟩,
    ⟨6, (let s : State := run; let s : State := s.w F.VNT_STAT_STATE 6 vWait; let s : State := s.w F.VNT_LIM_WMAX 6 1000; let s : State := s.updVnt 6 fun v => { v with wait := some (.delay (2^40)), issued := 2^40 - 1000 }; s), 2^40, by decide +kernel⟩,
    ⟨0, run, by decide +kernel⟩,
    ⟨0, (let s : State := run; let s : State := s.w (F.VNT_STAT_STATE) (0) (vWait); s), by decide +kernel⟩,
    ⟨0, run, by decide +kernel⟩⟩

theorem witness_VentVerbs :
    (∃ (e : Fin 7) (c : Instr) (vb : Nat) (k : Nat → Nat → Nat → State → State × Bool) (s : State) (v : BitVec 6) (ra : BitVec 3) (rb : BitVec 3) (imm : BitVec 14) (r : State × Bool), (c, vb, k) ∈ [(.actPulse e, 1, actPulse e), (.actBlank e, 2, actBlank e), (.actCanreq e, 3, actCanreq), (.actZemu e, 4, actZemu), (.actGcopy e, 5, actGcopy), (.actUevent e, 6, actUevent), (.actFrel e, 0x11, actFrel), (.actInj e, 0x12, actInj), (.actSel e, 0x20, actSel e), (.actTxreq e, 0x21, actTxreq e), (.actCancel e, 0x22, actCancel e), (.actSafetx e, 0x23, actSafetx)] ∧ v.toNat = vb ∧ siteVerb e vb = true ∧ Issues e (.act v ra rb imm) s ∧ s.g F.VNT_STAT_PC e < 1023 ∧ r = k (s.vreg e ra).toNat (s.vreg e rb).toNat imm.toNat (s.issued e)) ∧
    (∃ (e : Fin 7) (s : State) (rb : Nat) (u : Nat), u = tadd (s.vnt! e).start.t0 ((rb : Int) * 40) ∧ 50 * nsU ≤ tdiff u s.t ∧ tdiff u s.t ≤ msU ∧ (s.vnt! e).pulse = none) ∧
    (∃ (e : Fin 7) (s : State) (rb : Nat) (imm : Nat) (u : Nat), u = tadd (s.vnt! e).start.t0 (sgn 32 rb * 1600) ∧ -(100 * nsU : Int) ≤ tdiff u s.t ∧ imm % 256 ≠ 0) ∧
    (∃ (s : State) (imm : Nat) (i : Fin 8), bitOf imm i = true ∧ s.emuCode i = 2 ∧ s.gb F.EMU_CFG_ZSRC i = true) ∧
    (∃ (e : Fin 7) (s : State) (rb : Nat) (u : Nat), u = tadd (s.vnt! e).start.t0 ((rb : Int) * 40) ∧ (tdiff u s.t < 50 * nsU ∨ msU < tdiff u s.t)) ∧
    (∃ (e : Fin 7) (s : State) (rb : Nat) (imm : Nat), (imm % 256 = 0 ∨ tdiff (tadd (s.vnt! e).start.t0 (sgn 32 rb * 1600)) s.t < -(100 * nsU : Int))) ∧
    (∃ (s : State) (imm : Nat), (imm % 64 = 0 ∨ s.copyPending (imm % 64) = true)) ∧
    (∃ (s : State) (ra : Nat), (16 ≤ ra ∨ s.overridden ra = false)) ∧
    (∃ (s : State) (rb : Nat) (imm : Nat), (s.inj.run = true ∨ rb = 0 ∨ 250 < rb ∨ imm % 4 = 3)) ∧
    (∃ (s : State) (imm : Nat) (u : State) (ok : Bool), s.canReq (bitsOf imm 7 1) (imm % 128) false = (u, ok)) ∧
    (∃ (e : Fin 7) (s : State) (imm : Nat) (u : State) (ok : Bool), s.canReq (ventCtrl e) (imm % 128) false = (u, ok)) ∧
    (∃ (e : Fin 7) (s : State) (imm : Nat) (u : State) (ok : Bool), s.canCancel (ventCtrl e) (imm % 128) false = (u, ok)) ∧
    (∃ (s : State) (ra : Nat) (u : State) (ok : Bool), s.safeTx (ra % 256) = (u, ok)) ∧
    (∃ (s : State) (imm : Nat), imm % 64 ≠ 0 ∧ s.copyPending (imm % 64) = false) ∧
    (∃ (s : State) (ra : Nat), ra < 16 ∧ s.overridden ra = true) ∧
    (∃ (s : State) (ra : Nat) (rb : Nat) (imm : Nat), ra < 16 ∧ 1 ≤ rb ∧ rb ≤ 250 ∧ imm % 4 < 3 ∧ s.inj.run = false ∧ s.injCheck ra (imm % 4) = (true, false) ∧ SMap.get 0 s.injEnd ra = 0) ∧
    (∃ (n : Fin 16) (s : State), s.inj.run = true ∧ s.inj.port = n.val ∧ s.inj.total ≤ s.inj.smp) ∧
    (∃ (n : Fin 16) (s : State), (s.inj.run = false ∨ s.inj.port ≠ n.val ∨ s.inj.smp < s.inj.total)) :=
  ⟨⟨6, .actSafetx 6, _, actSafetx, (vAt 6 (.act 0x23 2 3 5)), 0x23#6, 2#3, 3#3, 5#14, _, by simp, rfl, by decide +kernel, ⟨by decide +kernel, by decide +kernel, by decide +kernel, by decide +kernel, by decide +kernel⟩, by decide +kernel, rfl⟩,
    ⟨0, (let s : State := run; let s : State := { s with t := tadd (tadd (s.vnt! 0).start.t0 (0 * 40)) (-(50 * nsU)) }; s), 0, _, rfl, by decide +kernel⟩,
    ⟨0, (let s : State := run; let s : State := { s with t := tadd (tadd (s.vnt! 0).start.t0 (sgn 32 0 * 1600)) (-(-(100 * nsU))) }; s), 0, 1, _, rfl, by decide +kernel⟩,
    ⟨(let s : State := run; let s : State := { s with emuDrv := true }; let s : State := s.updEmu 7 fun d => { d with st := eRun }; let s : State := s.w F.EMU_CFG_ZSRC 7 1; s), 0x80, 7, by decide +kernel⟩,
    ⟨0, run, 0, _, rfl, by decide +kernel⟩,
    ⟨0, run, 0, 0, by decide +kernel⟩,
    ⟨run, 0, by decide +kernel⟩,
    ⟨run, 0, by decide +kernel⟩,
    ⟨(let s : State := run; let s : State := s.updExc 15 fun e => { e with vAmp := some 5 }; s), 0, 0, by decide +kernel⟩,
    ⟨run, 0, (run.canReq (0) 0 false).1, (run.canReq (0) 0 false).2, by decide +kernel⟩,
    ⟨0, run, 0, (run.canReq (0) 0 false).1, (run.canReq (0) 0 false).2, by decide +kernel⟩,
    ⟨6, run, 0, (run.canCancel (ventCtrl 6) 0 false).1, (run.canCancel (ventCtrl 6) 0 false).2, by decide +kernel⟩,
    ⟨run, 0, (run.canCancel (ventCtrl 6) 0 false).1, (run.canCancel (ventCtrl 6) 0 false).2, by decide +kernel⟩,
    ⟨run, 1, by decide +kernel⟩,
    ⟨(let s : State := run; let s : State := s.updExc 15 fun e => { e with vAmp := some 5 }; s), 15, by decide +kernel⟩,
    ⟨(let s : State := run; let s : State := s.w F.ACQ_STAT_ENV_ARM 15 1; s), 15, 250, 0, by decide +kernel⟩,
    ⟨0, (let s : State := run; let s : State := { s with inj := { s.inj with run := true } }; s), by decide +kernel⟩,
    ⟨0, run, by decide +kernel⟩⟩

theorem witness_VentStartsAndHostCommands :
    (∃ (value : BitVec 32) (e : Fin 7) (s : State), s.reaches 0xE000 = true ∧ value.toNat % 8 = e.val ∧ s.vst e = vIdle) ∧
    (∃ (src : Src) (value : BitVec 32) (e : Fin 7) (s : State) (u : Nat), s.reaches 0xE000 = true ∧ value.toNat % 8 = e.val ∧ s.vst e = vRun ∧ (s.vnt! e).start.src = 2 ∧ (s.vnt! e).acc = some u ∧ u / 160 = tadd s.now src.sub / 160) ∧
    (∃ (src : Src) (value : BitVec 32) (e : Fin 7) (s : State), s.reaches 0xE000 = true ∧ value.toNat % 8 = e.val ∧ (s.vst e = vRun ∨ s.vst e = vWait) ∧ ((∀ u, (s.vnt! e).acc = some u ∨ (s.vnt! e).pacc = some u → u / 160 ≠ tadd s.now src.sub / 160)) ∧ (s.vnt! e).pend = none) ∧
    (∃ (src : Src) (value : BitVec 32) (e : Fin 7) (s : State), s.reaches 0xE000 = true ∧ value.toNat % 8 = e.val ∧ (s.vst e = vRun ∨ s.vst e = vWait) ∧ ((∀ u, (s.vnt! e).acc = some u ∨ (s.vnt! e).pacc = some u → u / 160 ≠ tadd s.now src.sub / 160)) ∧ (s.vnt! e).pend ≠ none) ∧
    (∃ (value : BitVec 32) (e : Fin 7) (s : State), s.reaches 0xE000 = true ∧ value.toNat % 8 = e.val ∧ (s.vst e = vOff ∨ s.vst e = vFault)) ∧
    (∃ (e : Fin 7) (s : State), s.g F.VNT_PER_PER_US e ≠ 0 ∧ tdiff (s.ventPeriodAt e) (tadd s.now sampleU) < 0 ∧ (s.vnt! e).per ≠ some (s.ventPeriodAt e) ∧ s.vst e = vIdle) ∧
    (∃ (e : Fin 7) (s : State), s.g F.VNT_PER_PER_US e ≠ 0 ∧ tdiff (s.ventPeriodAt e) (tadd s.now sampleU) < 0 ∧ (s.vnt! e).per ≠ some (s.ventPeriodAt e) ∧ s.vst e ≠ vIdle) ∧
    (∃ (e : Fin 7) (s : State), (s.g F.VNT_PER_PER_US e = 0 ∨ 0 ≤ tdiff (s.ventPeriodAt e) (tadd s.now sampleU) ∨ (s.vnt! e).per = some (s.ventPeriodAt e))) ∧
    (∃ (s : State), s.reaches 0xE000 = true) ∧
    (∃ (e : Fin 7) (s : State), s.reaches 0xE000 = true ∧ (s.vst e = vRun ∨ s.vst e = vWait)) ∧
    (∃ (e : Fin 7) (s : State), s.vst e ≠ vRun ∧ s.vst e ≠ vWait) ∧
    (∃ (e : Fin 7) (s : State), s.reaches 0xE000 = true ∧ s.vst e ≠ vRun ∧ s.vst e ≠ vWait) ∧
    (∃ (e : Fin 7) (s : State), (s.vst e = vRun ∨ s.vst e = vWait)) ∧
    (∃ (s : State) (w : Nat), s.reaches 0xE000 = true ∧ w = s.g F.VNT_LADDR_WORD ∧ w < 7168 ∧ (s.vst (w / 1024) = vOff ∨ s.vst (w / 1024) = vFault)) ∧
    (∃ (s : State) (w : Nat), s.reaches 0xE000 = true ∧ w = s.g F.VNT_LADDR_WORD ∧ w < 7168 ∧ s.vst (w / 1024) ≠ vOff ∧ s.vst (w / 1024) ≠ vFault) ∧
    (∃ (src : Src) (s : State) (w : Nat), s.reaches 0xE000 = true ∧ w = s.g F.VNT_LADDR_WORD ∧ 7168 ≤ w ∧ w < 8064 ∧ ((∀ x, (s.vnt! ((w - 7168) / 128)).stAt = some x → x.2 / 160 ≠ tadd s.now src.sub / 160))) :=
  ⟨⟨1#32, 1, (let s : State := run; let s : State := s.w (F.VNT_STAT_STATE) (1) (vIdle); s), by decide +kernel⟩,
    ⟨⟨.bar0, 0⟩, 6#32, 6, (let s : State := run; let s : State := s.w F.VNT_STAT_STATE 6 vRun; let s : State := s.updVnt 6 fun v => { v with acc := some (2^40), start := { v.start with src := 2 } }; s), 2^40, by decide +kernel⟩,
    ⟨⟨.bar0, 0⟩, 1#32, 1, (run.w F.VNT_STAT_STATE 1 vRun), by decide +kernel, by decide +kernel, by decide +kernel, fun _ h => absurd h (acc_none (by decide +kernel) (by decide +kernel) _), by decide +kernel⟩,
    ⟨⟨.bar0, 0⟩, 1#32, 1, (run.w F.VNT_STAT_STATE 1 vRun).updVnt 1 fun d => { d with pend := some default }, by decide +kernel, by decide +kernel, by decide +kernel, fun _ h => absurd h (acc_none (by decide +kernel) (by decide +kernel) _), by decide +kernel⟩,
    ⟨1#32, 1, run, by decide +kernel⟩,
    ⟨6, (let s : State := (let s : State := run; let s : State := { s with now := 1000 * msU, t := 1000 * msU }; let s : State := s.w F.VNT_PER_PER_US 6 1000; let s : State := s.w F.VNT_STAT_STATE 6 vRun; s); let s : State := s.w (F.VNT_STAT_STATE) (6) (vIdle); s), by decide +kernel⟩,
    ⟨6, (let s : State := (let s : State := run; let s : State := { s with now := 1000 * msU, t := 1000 * msU }; let s : State := s.w F.VNT_PER_PER_US 6 1000; let s : State := s.w F.VNT_STAT_STATE 6 vIdle; s); let s : State := s.w (F.VNT_STAT_STATE) (6) ((vIdle) + 1); s), by decide +kernel⟩,
    ⟨0, run, by decide +kernel⟩,
    ⟨run, by decide +kernel⟩,
    ⟨0, (let s : State := run; let s : State := s.w (F.VNT_STAT_STATE) (0) (vRun); s), by decide +kernel⟩,
    ⟨0, run, by decide +kernel⟩,
    ⟨0, run, by decide +kernel⟩,
    ⟨0, (let s : State := run; let s : State := s.w (F.VNT_STAT_STATE) (0) (vRun); s), by decide +kernel⟩,
    ⟨run, _, by decide +kernel, rfl, by decide +kernel⟩,
    ⟨(let s : State := run; let s : State := s.w (F.VNT_STAT_STATE) (s.g F.VNT_LADDR_WORD / 1024) ((vOff) + 1); s), _, by decide +kernel, rfl, by decide +kernel⟩,
    ⟨⟨.bar0, 0⟩, run.w F.VNT_LADDR_WORD 0 7168, 7168, by decide +kernel, by decide +kernel, by decide, by decide, fun _ h => nomatch (show (none : Option (Nat × Nat)) = some _ from h)⟩⟩

theorem witness_TemperatureFramesAndPhases :
    (∃ (x : Fin 2) (s : State), s.tmpRuns = true ∧ s.tmpFrom = none ∧ tdiff s.frameAt (tadd s.now sampleU) < 0 ∧ (s.tsl! x).base ≠ some s.frameAt ∧ (s.tsl! x).run = none) ∧
    (∃ (x : Fin 2) (s : State), s.tmpRuns = true ∧ s.tmpFrom = none ∧ tdiff s.frameAt (tadd s.now sampleU) < 0 ∧ (s.tsl! x).base ≠ some s.frameAt ∧ (s.tsl! x).run ≠ none) ∧
    (∃ (c : Fin 16) (s : State) (b : Nat), s.slotAt c = some b ∧ s.tmpOn c = true ∧ s.tmpRuns = true ∧ (s.tmp! c).st = 0 ∧ s.pairBusy c = false ∧ tdiff (s.driveAt c b) (tadd s.now sampleU) < 0) ∧
    (∃ (c : Fin 16) (s : State) (b : Nat), s.slotAt c = some b ∧ s.tmpRuns = true ∧ (s.tsl! (c / 8)).run = none ∧ tdiff b (tadd s.now sampleU) < 0) ∧
    (∃ (c : Fin 16) (s : State) (u : TmpSt) (at' : Nat), s.tmp! c = u ∧ at' = tadd u.slot ((u.outs + 1) * outU) ∧ u.st = 2 ∧ tdiff at' (tadd s.now sampleU) < 0 ∧ tdiff at' (tadd u.start phaseU) < 0) ∧
    (∃ (c : Fin 16) (s : State) (u : TmpSt) (at' : Nat), s.tmp! c = u ∧ at' = tadd u.slot ((u.outs + 1) * outU) ∧ u.st = 2 ∧ u.q = [] ∧ tdiff at' (tadd s.now sampleU) < 0 ∧ 0 ≤ tdiff at' (tadd u.start phaseU) ∧ 0 ≤ tdiff at' u.settled ∧ u.ph < 3) ∧
    (∃ (c : Fin 16) (s : State) (u : TmpSt) (at' : Nat), s.tmp! c = u ∧ at' = tadd u.slot ((u.outs + 1) * outU) ∧ u.st = 2 ∧ u.q = [] ∧ tdiff at' (tadd s.now sampleU) < 0 ∧ 0 ≤ tdiff at' (tadd u.start phaseU) ∧ 0 ≤ tdiff at' u.settled ∧ u.ph = 3) ∧
    (∃ (c : Fin 16) (s : State), ((s.tmp! c).st ≠ 2 ∨ 0 ≤ tdiff (tadd (s.tmp! c).slot (((s.tmp! c).outs + 1) * outU)) (tadd s.now sampleU))) ∧
    (∃ (c : Fin 16) (s : State) (u : TmpSt), s.tmp! c = u ∧ u.st = 2 ∧ u.ext = false ∧ u.cnt = 0 ∧ 0 ≤ tdiff (tadd u.slot (u.outs * outU)) (tadd u.start phaseU)) ∧
    (∃ (c : Fin 16) (s : State), ((s.tmp! c).st ≠ 2 ∨ (s.tmp! c).ext = true ∨ (s.tmp! c).cnt ≠ 0 ∨ tdiff (tadd (s.tmp! c).slot ((s.tmp! c).outs * outU)) (tadd (s.tmp! c).start phaseU) < 0)) ∧
    (∃ (g : Fin 4) (s : State), (s.g F.TMPG_CTRL_GEN).testBit g = true) :=
  ⟨⟨1, (let s : State := run; let s : State := { s with now := 1000 * 100 * msU, t := 1000 * 100 * msU }; let s : State := s.w F.TMPG_CTRL_EN 0 1; s), by decide +kernel⟩,
    ⟨1, (let s : State := run; let s : State := { s with now := 1000 * 100 * msU, t := 1000 * 100 * msU }; let s : State := s.w F.TMPG_CTRL_EN 0 1; let s : State := { s with tsl := vupd s.tsl 1 fun y => { y with run := some 8 } }; s), by decide +kernel⟩,
    ⟨15, (let s : State := run; let s : State := s.w F.TMPG_CTRL_EN 0 1; let s : State := { s with tsl := vupd s.tsl 1 fun y => { y with base := some (2^40 - 7 * slotU), todo := 128 } }; let s : State := s.updTmp 15 fun d => { d with set := { d.set with en := true } }; s), 2^40, by decide +kernel⟩,
    ⟨15, (let s : State := run; let s : State := s.w F.TMPG_CTRL_EN 0 1; let s : State := { s with tsl := vupd s.tsl 1 fun y => { y with base := some (2^40 - 7 * slotU), todo := 128 } }; s), 2^40, by decide +kernel⟩,
    ⟨0, (let s : State := run; let s : State := s.updTmp (0) fun d => { d with st := 2 }; s), _, _, rfl, rfl, by decide +kernel⟩,
    ⟨15, (let s : State := run; let s : State := s.updTmp 15 fun d => { d with st := 2, slot := 2^40 - 100 * outU, drive := 2^40 - 100 * outU, start := 2^40 - 100 * outU, outs := 99, ph := 0 }; s), _, _, rfl, rfl, by decide +kernel⟩,
    ⟨15, (let s : State := (let s : State := run; let s : State := s.updTmp 15 fun d => { d with st := 2, slot := 2^40 - 100 * outU, drive := 2^40 - 100 * outU, start := 2^40 - 100 * outU, outs := 99, ph := 0 }; s); let s : State := s.updTmp (15) fun d => { d with ph := 3 }; s), _, _, rfl, rfl, by decide +kernel⟩,
    ⟨0, run, by decide +kernel⟩,
    ⟨15, (let s : State := run; let s : State := s.updTmp 15 fun d => { d with st := 2, slot := 2^40 - 100 * outU, drive := 2^40 - 100 * outU, start := 2^40 - 100 * outU, outs := 99, ph := 0 }; s), _, rfl, by decide +kernel⟩,
    ⟨0, run, by decide +kernel⟩,
    ⟨3, (let s : State := run; let s : State := s.w F.TMPG_CTRL_EN 0 1; let s : State := s.w F.TMPG_CTRL_GEN 0 8; s), by decide +kernel⟩⟩

theorem witness_SafetyInputsTicksAndDeviceFaults :
    (∃ (ch : Fin 2) (x : Fin 8) (held : Nat) (s : State), s.smOn = true ∧ s.ga (decide (ch = 1)) F.SAF_SI_CFG_FILT x * 50 * usU ≤ held) ∧
    (∃ (ch : Fin 2) (x : Fin 8) (held : Nat) (s : State), (s.smOn = false ∨ held < s.ga (decide (ch = 1)) F.SAF_SI_CFG_FILT x * 50 * usU)) ∧
    (∃ (s : State), s.smOn = true) ∧
    (∃ (s : State), s.smOn = false) ∧
    (∃ (s : State), s.smOn = true ∧ s.appWait = none) ∧
    (∃ (s : State) (img : List (Nat × Nat)), s.smOn = true ∧ s.appWait = some img) ∧
    (∃ (ch : Fin 2) (x : Fin 8) (s : State), s.smOn = true ∧ s.ga (decide (ch = 1)) F.SAF_SI_CFG_DISC x ≤ (if ch = 1 then s.discB else s.discA).getD x 0 ∧ bitOf (if ch = 1 then s.latB else s.latA) x = false) ∧
    (∃ (ch : Fin 2) (x : Fin 8) (s : State), (s.smOn = false ∨ bitOf (if ch = 1 then s.latB else s.latA) x = true ∨ (if ch = 1 then s.discB else s.discA).getD x 0 < s.ga (decide (ch = 1)) F.SAF_SI_CFG_DISC x)) ∧
    (∃ (s : State), s.smOn = true ∧ (s.safPar = true ∨ imageCrc s.actA ≠ imageCrc s.actB) ∧ bitOf (s.g F.SAF_DFAULT_LATCHED) 1 = false) ∧
    (∃ (s : State), (s.smOn = false ∨ (s.safPar = false ∧ imageCrc s.actA = imageCrc s.actB))) ∧
    (∃ (m : MonIn) (us : Nat) (c : Nat) (s : State), s.smOn = true ∧ bitOf (s.g F.SAF_DFAULT_LATCHED) c = false ∧ ((∃ dev, m = .clock dev ∧ c = 5 ∧ 500 < dev.natAbs ∧ 1000 ≤ us) ∨ (m = .supply true ∧ c = 6 ∧ 10 ≤ us) ∨ (∃ ch, m = .beat ch ∧ c = 7 ∧ 50 ≤ us))) ∧
    (∃ (m : MonIn) (us : Nat) (c : Nat) (s : State), s.smOn = true ∧ ((∃ dev, m = .clock dev ∧ c = 5 ∧ (dev.natAbs ≤ 500 ∨ us < 1000)) ∨ (∃ out, m = .supply out ∧ c = 6 ∧ (out = false ∨ us < 10)) ∨ (∃ ch, m = .beat ch ∧ c = 7 ∧ us < 50))) ∧
    (∃ (m : ReadIn) (ns : Nat) (c : Nat) (s : State), s.smOn = true ∧ bitOf (s.g F.SAF_DFAULT_LATCHED) c = false ∧ ((∃ ch : Fin 2, m = .still ch ∧ c = 2 + ch.val ∧ s.toggles (decide (ch = 1)) = true ∧ 15000 ≤ ns) ∨ (∃ ch : Fin 2, m = .moves ch ∧ c = 2 + ch.val ∧ s.staticLow (decide (ch = 1)) = true) ∨ (s.toggles false = true ∧ s.toggles true = true ∧ c = 4 ∧ ((m = .equal ∧ 7000 ≤ ns) ∨ (m = .apart ∧ ns < 2000))))) ∧
    (∃ (m : ReadIn) (ns : Nat) (c : Nat) (s : State), s.smOn = true ∧ ((∃ ch : Fin 2, m = .still ch ∧ c = 2 + ch.val ∧ (s.toggles (decide (ch = 1)) = false ∨ ns < 15000)) ∨ (∃ ch : Fin 2, m = .moves ch ∧ c = 2 + ch.val ∧ s.staticLow (decide (ch = 1)) = false) ∨ (c = 4 ∧ ((m = .equal ∧ ns < 7000) ∨ (m = .apart ∧ 2000 ≤ ns))))) :=
  ⟨⟨1, 7, 10^9, run, by decide +kernel⟩,
    ⟨0, 0, 0, run, by decide +kernel⟩,
    ⟨run, by decide +kernel⟩,
    ⟨(let s : State := run; let s : State := { s with smOn := false }; s), by decide +kernel⟩,
    ⟨run, by decide +kernel⟩,
    ⟨(let s : State := run; let s : State := { s with appWait := some [] }; s), [], by decide +kernel⟩,
    ⟨1, 7, (let s : State := run; let s : State := { s with smOn := true, discB := List.replicate 8 60000 }; s), by decide +kernel⟩,
    ⟨0, 0, run, by decide +kernel⟩,
    ⟨{ run with safPar := true }, by decide +kernel, Or.inl rfl, by decide +kernel⟩,
    ⟨boot, Or.inl (by decide +kernel)⟩,
    ⟨.clock 501, 1000, 5, run, by decide +kernel, by decide +kernel, Or.inl ⟨_, rfl, rfl, by decide, by decide⟩⟩,
    ⟨.clock 500, 1000, 5, run, by decide +kernel, Or.inl ⟨_, rfl, rfl, by decide⟩⟩,
    ⟨.equal, 7000, 4, permSt, by decide +kernel, by decide +kernel, Or.inr (Or.inr ⟨by decide +kernel, by decide +kernel, rfl, Or.inl ⟨rfl, by decide⟩⟩)⟩,
    ⟨.equal, 6999, 4, permSt, by decide +kernel, Or.inr (Or.inr ⟨rfl, Or.inl ⟨rfl, by decide⟩⟩)⟩⟩

theorem witness_AxisStates :
    (∃ (s : State) (b : Bool) (a : Fin 8), s.gab b F.AX_CFG_EN a = false) ∧
    (∃ (s : State) (b : Bool) (a : Fin 8), s.gab b F.AX_CFG_EN a = true ∧ s.g F.SAF_DFAULT_LATCHED ≠ 0) ∧
    (∃ (s : State) (b : Bool) (a : Fin 8), s.gab b F.AX_CFG_EN a = true ∧ (s.ax! b a).st = xFault) ∧
    (∃ (s : State) (b : Bool) (a : Fin 8) (ack : Bool), s.gab b F.AX_CFG_EN a = true ∧ s.g F.SAF_DFAULT_LATCHED = 0 ∧ (s.ax! b a).st = xSto ∧ (bitOf (s.axDemand b a) 1 = true ∨ bitOf (s.axDemand b a) 2 = true ∨ (s.gab b F.AX_CFG_AUTORST a = false ∧ ack = false))) ∧
    (∃ (s : State) (b : Bool) (a : Fin 8), s.gab b F.AX_CFG_EN a = true ∧ s.g F.SAF_DFAULT_LATCHED = 0 ∧ (s.ax! b a).st = xRun ∧ bitOf (s.axDemand b a) 1 = true) ∧
    (∃ (a : Fin 8) (a' : Fin 8), a' ≠ a) :=
  ⟨⟨run, true, 1, by decide +kernel⟩,
    ⟨(let s : State := run; let s : State := s.w (F.SAF_DFAULT_LATCHED) (0) ((0) + 1); s), true, 0, by decide +kernel⟩,
    ⟨(let s : State := run; let s : State := s.updAx (true) (0) fun d => { d with st := xFault }; s), true, 0, by decide +kernel⟩,
    ⟨run, true, 0, true, by decide +kernel⟩,
    ⟨(let s : State := run; let s : State := s.updAx (true) (0) fun d => { d with st := xRun }; s), true, 0, by decide +kernel⟩,
    ⟨0, 1, by decide +kernel⟩⟩

theorem witness_KeysAndKeyedCommands :
    (∃ (src : Src) (value : BitVec 32) (s : State), s.reaches 0x10000 = true ∧ (s.at src).keyPhase src.path = 0 ∧ value.toNat = 0xC5A1) ∧
    (∃ (src : Src) (value : BitVec 32) (s : State), s.reaches 0x10000 = true ∧ (s.at src).keyPhase src.path = 1 ∧ value.toNat = 0x3A5E) ∧
    (∃ (src : Src) (value : BitVec 32) (s : State), s.reaches 0x10000 = true ∧ ((s.at src).keyPhase src.path = 0 ∧ value.toNat ≠ 0xC5A1 ∨ (s.at src).keyPhase src.path = 1 ∧ value.toNat ≠ 0x3A5E ∨ (s.at src).keyPhase src.path = 2)) ∧
    (∃ (p : Path) (s : State), s.here.keyPhase p = 0) ∧
    (∃ (p : Path) (s : State), s.here.keyPhase p ≠ 0) ∧
    (∃ (src : Src) (c : Instr) (s : State), s.reaches 0x10000 = true ∧ (s.at src).keyPhase src.path ≠ 2 ∧ ((∃ v axes pairs conn, c = .keyedWrite src 0x10000 v ∨ c = .apply src ∨ c = .safCfgDiscard src ∨ c = .axisAck src axes ∨ c = .devAck src ∨ c = .discAck src pairs ∨ c = .connAck src conn))) ∧
    (∃ (src : Src) (s : State), s.reaches 0x10000 = true ∧ (s.at src).keyPhase src.path = 2) ∧
    (∃ (src : Src) (s : State) (u : State), s.reaches 0x10000 = true ∧ (s.at src).keyPhase src.path = 2 ∧ u = (s.at src).setKey src.path 0 ∧ s.imageBad = false ∧ imageCrc s.pendImage = s.g F.SAF_CFGCRC_CRC ∧ s.axesAtRest = true) ∧
    (∃ (src : Src) (s : State) (u : State), s.reaches 0x10000 = true ∧ (s.at src).keyPhase src.path = 2 ∧ u = (s.at src).setKey src.path 0 ∧ s.imageBad = true) ∧
    (∃ (src : Src) (s : State) (u : State), s.reaches 0x10000 = true ∧ (s.at src).keyPhase src.path = 2 ∧ u = (s.at src).setKey src.path 0 ∧ s.imageBad = false ∧ imageCrc s.pendImage = s.g F.SAF_CFGCRC_CRC ∧ s.axesAtRest = false) ∧
    (∃ (src : Src) (s : State) (u : State), s.reaches 0x10000 = true ∧ (s.at src).keyPhase src.path = 2 ∧ u = (s.at src).setKey src.path 0 ∧ s.imageBad = false ∧ imageCrc s.pendImage ≠ s.g F.SAF_CFGCRC_CRC) ∧
    (∃ (src : Src) (s : State) (u : State), s.reaches 0x10000 = true ∧ (s.at src).keyPhase src.path = 2 ∧ u = (s.at src).setKey src.path 0 ∧ SMap.wf 0 s.fields = true ∧ SMap.wf 0 s.actA = true) ∧
    (∃ (src : Src) (s : State) (u : State), s.reaches 0x10000 = true ∧ (s.at src).keyPhase src.path = 2 ∧ u = (s.at src).setKey src.path 0) :=
  ⟨⟨⟨.bar0, 0⟩, 0xC5A1#32, run, by decide +kernel⟩,
    ⟨⟨.bar0, 0⟩, 0x3A5E#32, (let s : State := run; let s : State := s.setKey .bar0 1; s), by decide +kernel⟩,
    ⟨⟨.bar0, 0⟩, 0xFFFFFFFF#32, (let s : State := run; let s : State := s.setKey .bar0 2; s), by decide +kernel⟩,
    ⟨.spi, run, by decide +kernel⟩,
    ⟨.bar0, (let s : State := run; let s : State := s.setKey .bar0 2; s), by decide +kernel⟩,
    ⟨⟨.bar0, 0⟩, .connAck ⟨.bar0, 0⟩ 255, (let s : State := run; let s : State := s.setKey .bar0 1; s), by decide +kernel⟩,
    ⟨⟨.bar0, 0⟩, (let s : State := run; let s : State := s.setKey .bar0 2; s), by decide +kernel⟩,
    (let ⟨v, a, b, c⟩ := image_matches; ⟨⟨.bar0, 0⟩, keyed.w F.SAF_CFGCRC_CRC 0 v, _, keyed_reaches v, keyed_open v, rfl, a, b, c⟩),
    ⟨⟨.bar0, 0⟩, (let s : State := run; let s : State := s.setKey .bar0 2; let s : State := s.w F.SAF_SI_CFG_EN 0 1; let s : State := s.w F.SAF_SI_CFG_FUNC 0 2; let s : State := s.w F.SAF_SI_CFG_AXES 0 1; let s : State := s.w F.AX_CFG_EN 0 1; let s : State := s.w F.AX_CFG_NPORT 0 0; s), _, by decide +kernel, by decide +kernel, rfl, by decide +kernel⟩,
    (let ⟨v, a, b, c⟩ := image_moving; ⟨⟨.bar0, 0⟩, moving.w F.SAF_CFGCRC_CRC 0 v, _, moving_reaches v, moving_open v, rfl, a, b, c⟩),
    (let ⟨v, a, b⟩ := image_differs; ⟨⟨.bar0, 0⟩, keyed.w F.SAF_CFGCRC_CRC 0 v, _, keyed_reaches v, keyed_open v, rfl, a, b⟩),
    ⟨⟨.bar0, 0⟩, (let s : State := run; let s : State := s.setKey .bar0 2; s), _, by decide +kernel, by decide +kernel, rfl, by decide +kernel⟩,
    ⟨⟨.bar0, 0⟩, (let s : State := run; let s : State := s.setKey .bar0 2; s), _, by decide +kernel, by decide +kernel, rfl⟩⟩

theorem witness_SafeConnections :
    (∃ (c : Fin 256) (s : State) (per : Nat), per = s.ga false F.SAFC_TIM_PER c ∧ s.genDue per = true ∧ s.sends c = true ∧ ((s.ga false F.SAFC_CFG_SRC c = 0 ∧ s.hostMute = false) ∨ s.ga false F.SAFC_CFG_SRC c = 2) ∧ (s.conn! c).gen ≠ some (s.genAt per)) ∧
    (∃ (c : Fin 256) (s : State), (s.sends c = false ∨ s.genDue (s.ga false F.SAFC_TIM_PER c) = false ∨ (s.conn! c).gen = some (s.genAt (s.ga false F.SAFC_TIM_PER c)) ∨ (s.ga false F.SAFC_CFG_SRC c = 0 ∧ s.hostMute = true))) ∧
    (∃ (s : State) (c : Nat), s.reaches 0x10000 = true ∧ c = s.g F.SAF_CSEL_CONN ∧ s.sends c = true ∧ s.ga false F.SAFC_CFG_SRC c = 0 ∧ s.hostMute = false) ∧
    (∃ (s : State), (s.sends (s.g F.SAF_CSEL_CONN) = false ∨ s.ga false F.SAFC_CFG_SRC (s.g F.SAF_CSEL_CONN) ≠ 0 ∨ s.hostMute = true)) ∧
    (∃ (c : Fin 256) (ctrl : Fin 2) (s : State) (b : List Byte) (g : Nat), (s.conn! c).next.getD ctrl none = some (b, g) ∧ (s.conn! c).sent.getD ctrl none = none) ∧
    (∃ (c : Fin 256) (ctrl : Fin 2) (s : State), (s.conn! c).next.getD ctrl none = none ∧ (s.conn! c).sent.getD ctrl none = none) ∧
    (∃ (c : Fin 256) (s : State) (w : PduCopy) (l : List PduCopy) (e : Nat), (s.conn! c).wait = w :: l ∧ e = tadd w.at' (s.ga false F.SAFC_TIM_PAIR c * 6400000) ∧ tdiff e (tadd s.now sampleU) ≤ 0 ∧ (s.g F.SAFC_STAT_STATE c = 1 ∨ s.ga false F.SAFC_TIM_SINGLE c = 0)) ∧
    (∃ (c : Fin 256) (s : State) (w : PduCopy) (l : List PduCopy) (e : Nat), (s.conn! c).wait = w :: l ∧ e = tadd w.at' (s.ga false F.SAFC_TIM_PAIR c * 6400000) ∧ tdiff e (tadd s.now sampleU) ≤ 0 ∧ s.g F.SAFC_STAT_STATE c ≠ 1 ∧ s.ga false F.SAFC_TIM_SINGLE c ≠ 0 ∧ ({ s with t := e } : State).ageOk c w.bytes w.at' = true) ∧
    (∃ (c : Fin 256) (s : State) (w : PduCopy) (l : List PduCopy) (e : Nat), (s.conn! c).wait = w :: l ∧ e = tadd w.at' (s.ga false F.SAFC_TIM_PAIR c * 6400000) ∧ 0 < tdiff e (tadd s.now sampleU)) ∧
    (∃ (c : Fin 256) (s : State), (s.conn! c).wait = []) ∧
    (∃ (c : Fin 256) (s : State) (e : Nat), e = tadd (s.conn! c).single (s.ga false F.SAFC_TIM_SINGLE c * 10 * msU) ∧ s.g F.SAFC_STAT_STATE c = 3 ∧ tdiff e (tadd s.now sampleU) ≤ 0) ∧
    (∃ (c : Fin 256) (s : State) (e : Nat), e = tadd (s.conn! c).single (s.ga false F.SAFC_TIM_SINGLE c * 10 * msU) ∧ (s.g F.SAFC_STAT_STATE c ≠ 3 ∨ 0 < tdiff e (tadd s.now sampleU))) ∧
    (∃ (c : Fin 256) (s : State) (e : Nat), e = tadd (s.conn! c).last (s.ga false F.SAFC_TIM_PER c * msU) ∧ (s.g F.SAFC_STAT_STATE c = 2 ∨ s.g F.SAFC_STAT_STATE c = 3) ∧ tdiff e (tadd s.now sampleU) ≤ 0) ∧
    (∃ (c : Fin 256) (s : State) (e : Nat), e = tadd (s.conn! c).last (s.ga false F.SAFC_TIM_PER c * msU) ∧ ((s.g F.SAFC_STAT_STATE c ≠ 2 ∧ s.g F.SAFC_STAT_STATE c ≠ 3) ∨ 0 < tdiff e (tadd s.now sampleU))) :=
  ⟨⟨255, (let s : State := run; let s : State := { s with now := 1000 * msU, t := 1000 * msU }; let s : State := s.w F.SAFC_STAT_STATE 255 5; s), _, rfl, by decide +kernel⟩,
    ⟨0, run, by decide +kernel⟩,
    ⟨(let s : State := run; let s : State := s.w (F.SAFC_STAT_STATE) (s.g F.SAF_CSEL_CONN) (5); s), _, by decide +kernel, rfl, by decide +kernel⟩,
    ⟨run, by decide +kernel⟩,
    ⟨255, 1, (let s : State := run; let s : State := s.updConn 255 fun d => { d with next := [none, some ([1], 5)] }; s), [1], 5, by decide +kernel⟩,
    ⟨255, 0, (let s : State := run; let s : State := s.updConn 255 fun d => { d with wait := [⟨1, List.replicate 24 0, 0⟩] }; let s : State := s.w F.SAFC_STAT_STATE 255 1; s), by decide +kernel⟩,
    ⟨255, (let s : State := (let s : State := run; let s : State := s.updConn 255 fun d => { d with wait := [⟨1, List.replicate 24 0, 0⟩] }; let s : State := { s with actA := SMap.set 0 s.actA (F.SAFC_TIM_SINGLE.key 255) 5 }; s); let s : State := s.w (F.SAFC_STAT_STATE) (255) (1); s), ⟨1, List.replicate 24 0, 0⟩, [], _, by decide +kernel, rfl, by decide +kernel⟩,
    ⟨255, (let s : State := run; let s : State := s.updConn 255 fun d => { d with wait := [⟨1, List.replicate 24 0, 0⟩] }; let s : State := { s with actA := SMap.set 0 s.actA (F.SAFC_TIM_SINGLE.key 255) 5 }; s), ⟨1, List.replicate 24 0, 0⟩, [], _, by decide +kernel, rfl, by decide +kernel⟩,
    ⟨255, (let s : State := run; let s : State := s.updConn 255 fun d => { d with wait := [⟨1, List.replicate 24 0, 2^40 + 100000⟩] }; s), ⟨1, List.replicate 24 0, 2^40 + 100000⟩, [], _, by decide +kernel, rfl, by decide +kernel⟩,
    ⟨0, run, by decide +kernel⟩,
    ⟨0, (let s : State := run; let s : State := s.w (F.SAFC_STAT_STATE) (0) (3); s), _, rfl, by decide +kernel⟩,
    ⟨0, run, _, rfl, by decide +kernel⟩,
    ⟨0, (let s : State := run; let s : State := s.w (F.SAFC_STAT_STATE) (0) (2); s), _, rfl, by decide +kernel⟩,
    ⟨0, run, _, rfl, by decide +kernel⟩⟩

theorem witness_CanRequestsAndObjects :
    (∃ (c : Fin 2) (k : Fin 128) (s : State), s.reaches 0x12000 = true ∧ s.canTakes c k false = true) ∧
    (∃ (c : Fin 2) (k : Fin 128) (s : State), s.reaches 0x12000 = true ∧ s.canTakes c k false = false) ∧
    (∃ (c : Fin 2) (k : Fin 128) (s : State), s.reaches 0x12000 = true ∧ (s.ostat c k bPend = false ∨ (s.safeConn k).isSome = true)) ∧
    (∃ (c : Fin 2) (k : Fin 128) (s : State), s.reaches 0x12000 = true ∧ s.ostat c k bPend = true ∧ s.safeConn k = none ∧ (s.can! c).tx = some k.val) ∧
    (∃ (c : Fin 2) (k : Fin 128) (s : State), s.reaches 0x12000 = true ∧ s.ostat c k bPend = true ∧ s.safeConn k = none ∧ (s.can! c).tx ≠ some k.val) ∧
    (∃ (k : Fin 128) (s : State), s.reaches 0x12000 = true ∧ s.safeConn k = none) ∧
    (∃ (k : Fin 128) (s : State), s.reaches 0x12000 = true ∧ (s.safeConn k).isSome = true) ∧
    (∃ (c : Fin 2) (s : State) (w : Nat) (k : Nat), s.reaches 0x12000 = true ∧ w = s.g F.CAN_OWADDR_WORD c ∧ k = w / 32 ∧ 16 ≤ w % 32 ∧ s.ostat c k bPend = false ∧ (s.can! c).tx ≠ some k ∧ s.safeConn k = none) ∧
    (∃ (c : Fin 2) (s : State) (w : Nat) (k : Nat), s.reaches 0x12000 = true ∧ w = s.g F.CAN_OWADDR_WORD c ∧ k = w / 32 ∧ 16 ≤ w % 32 ∧ (s.ostat c k bPend = true ∨ (s.can! c).tx = some k ∨ (s.safeConn k).isSome = true)) ∧
    (∃ (src : Src) (c : Fin 2) (s : State) (w : Nat) (k : Nat), s.reaches 0x12000 = true ∧ w = s.g F.CAN_OWADDR_WORD c ∧ k = w / 32 ∧ w % 32 < 4 ∧ s.mayStage src.path = true ∧ s.inSet (.sram (objAt c k (w % 32))) = false ∧ s.staged.length < 2048) ∧
    (∃ (s : State), s.reaches 0x12000 = true) ∧
    (∃ (c : Fin 2) (s : State), s.reaches 0x12000 = true ∧ s.cst c ≠ cSleep) ∧
    (∃ (c : Fin 2) (s : State), s.reaches 0x12000 = true ∧ s.cst c = cSleep) ∧
    (∃ (c : Fin 2) (s : State), s.reaches 0x12000 = true ∧ s.canRing c = none) ∧
    (∃ (c : Fin 2) (s : State) (r : Nat), s.reaches 0x12000 = true ∧ s.canRing c = some r ∧ (s.can! c).tx = some 128) ∧
    (∃ (c : Fin 2) (s : State) (r : Nat), s.reaches 0x12000 = true ∧ s.canRing c = some r ∧ (s.can! c).tx ≠ some 128) ∧
    (∃ (d : Desc) (op : BitVec 8) (f : CanFrame) (s : State) (c : Nat), s.ringRuns d.ring = true ∧ s.g F.HIF_RING_CFG_CLASS d.ring = c + 1 ∧ c < 2 ∧ (s.can! c).entry = none ∧ (s.host.hbExp = false ∨ bitOf (s.g F.HIF_HBCFG_ACT) 0 = false) ∧ op.toNat = 0xC0 ∧ (s.can! c).purge = 0 ∧ s.mayTx c = true ∧ ((bitOf f.hdr0.toNat 30 = false ∨ bitOf f.hdr0.toNat 31 = false))) ∧
    (∃ (d : Desc) (op : BitVec 8) (s : State) (c : Nat), s.ringRuns d.ring = true ∧ s.g F.HIF_RING_CFG_CLASS d.ring = c + 1 ∧ c < 2 ∧ (s.can! c).entry = none ∧ (s.host.hbExp = false ∨ bitOf (s.g F.HIF_HBCFG_ACT) 0 = false) ∧ op.toNat ≠ 0xC0) ∧
    (∃ (d : Desc) (op : BitVec 8) (s : State) (c : Nat), s.ringRuns d.ring = true ∧ s.g F.HIF_RING_CFG_CLASS d.ring = c + 1 ∧ c < 2 ∧ (s.can! c).entry = none ∧ (s.host.hbExp = false ∨ bitOf (s.g F.HIF_HBCFG_ACT) 0 = false) ∧ op.toNat = 0xC0 ∧ 0 < (s.can! c).purge) ∧
    (∃ (d : Desc) (op : BitVec 8) (f : CanFrame) (s : State) (c : Nat), s.ringRuns d.ring = true ∧ s.g F.HIF_RING_CFG_CLASS d.ring = c + 1 ∧ c < 2 ∧ (s.can! c).entry = none ∧ (s.host.hbExp = false ∨ bitOf (s.g F.HIF_HBCFG_ACT) 0 = false) ∧ op.toNat = 0xC0 ∧ (s.can! c).purge = 0 ∧ (s.mayTx c = false ∨ (bitOf f.hdr0.toNat 30 = true ∧ bitOf f.hdr0.toNat 31 = true))) ∧
    (∃ (d : Desc) (s : State), s.ringRuns d.ring = false) :=
  ⟨⟨1, 127, (let s : State := run; let s : State := s.w F.CAN_STAT_STATE 1 2; let s : State := s.updCan 1 fun d => { d with mode := 1 }; let s : State := s.setSram32 (0x120000 + 0x4000 + 0x80 * 127) 1; s), by decide +kernel⟩,
    ⟨0, 0, run, by decide +kernel⟩,
    ⟨0, 0, run, by decide +kernel⟩,
    ⟨1, 127, (let s : State := run; let s : State := s.w F.CAN_STAT_STATE 1 2; let s : State := s.updCan 1 fun d => { d with mode := 1 }; let s : State := s.setSram32 (0x120000 + 0x4000 + 0x80 * 127) 1; let s : State := s.setSram32 (0x120000 + 0x4000 + 0x80 * 127 + 16) (2 ^ bPend); let s : State := s.updCan 1 fun d => { d with tx := some 127 }; s), by decide +kernel⟩,
    ⟨1, 127, (let s : State := run; let s : State := s.w F.CAN_STAT_STATE 1 2; let s : State := s.updCan 1 fun d => { d with mode := 1 }; let s : State := s.setSram32 (0x120000 + 0x4000 + 0x80 * 127) 1; let s : State := s.setSram32 (0x120000 + 0x4000 + 0x80 * 127 + 16) (2 ^ bPend); s), by decide +kernel⟩,
    ⟨0, run, by decide +kernel⟩,
    ⟨127, (let s : State := run; let s : State := { s with actA := SMap.set 0 (SMap.set 0 s.actA (F.SAFC_CFG_DIR.key 255) 1) (F.SAFC_CFG_OBJ.key 255) 127 }; s), by decide +kernel⟩,
    ⟨1, (let s : State := (let s : State := run; let s : State := s.w F.CAN_STAT_STATE 1 2; let s : State := s.updCan 1 fun d => { d with mode := 1 }; let s : State := s.w F.CAN_OWADDR_WORD 1 (32 * 5 + 16); let s : State := s.updCan 1 fun d => { d with tx := some 5 }; s); let s : State := s.updCan (1) fun d => { d with tx := none }; s), _, _, by decide +kernel, rfl, rfl, by decide +kernel⟩,
    ⟨1, (let s : State := run; let s : State := s.w F.CAN_STAT_STATE 1 2; let s : State := s.updCan 1 fun d => { d with mode := 1 }; let s : State := s.w F.CAN_OWADDR_WORD 1 (32 * 5 + 16); let s : State := s.updCan 1 fun d => { d with tx := some 5 }; s), _, _, by decide +kernel, rfl, rfl, by decide +kernel⟩,
    ⟨⟨.bar0, 0⟩, 0, run, _, _, by decide +kernel, rfl, rfl, by decide +kernel⟩,
    ⟨run, by decide +kernel⟩,
    ⟨0, run, by decide +kernel⟩,
    ⟨0, (let s : State := run; let s : State := s.w (F.CAN_STAT_STATE) (0) (cSleep); s), by decide +kernel⟩,
    ⟨0, run, by decide +kernel⟩,
    ⟨1, (let s : State := (let s : State := ringSt; let s : State := s.w F.HIF_RING_CFG_CLASS 2 2; let s : State := s.w F.CAN_STAT_STATE 1 2; let s : State := s.updCan 1 fun d => { d with mode := 1 }; s); let s : State := s.updCan (1) fun d => { d with tx := some 128 }; s), 2, by decide +kernel⟩,
    ⟨1, (let s : State := ringSt; let s : State := s.w F.HIF_RING_CFG_CLASS 2 2; let s : State := s.w F.CAN_STAT_STATE 1 2; let s : State := s.updCan 1 fun d => { d with mode := 1 }; s), 2, by decide +kernel⟩,
    ⟨⟨2, true, 9⟩, 192#8, ⟨5#32, 2#32, [1, 2], 64⟩, (let s : State := ringSt; let s : State := s.w F.HIF_RING_CFG_CLASS 2 2; let s : State := s.w F.CAN_STAT_STATE 1 2; let s : State := s.updCan 1 fun d => { d with mode := 1 }; s), 1, by decide +kernel⟩,
    ⟨⟨2, true, 9⟩, 7#8, (let s : State := (let s : State := ringSt; let s : State := s.w F.HIF_RING_CFG_CLASS 2 2; let s : State := s.w F.CAN_STAT_STATE 1 2; let s : State := s.updCan 1 fun d => { d with mode := 1 }; s); s), 1, by decide +kernel⟩,
    ⟨⟨2, true, 9⟩, 192#8, (let s : State := (let s : State := ringSt; let s : State := s.w F.HIF_RING_CFG_CLASS 2 2; let s : State := s.w F.CAN_STAT_STATE 1 2; let s : State := s.updCan 1 fun d => { d with mode := 1 }; s); let s : State := s.updCan 1 fun d => { d with purge := 2 }; s), 1, by decide +kernel⟩,
    ⟨⟨2, true, 9⟩, 192#8, ⟨5#32, 2#32, [1, 2], 64⟩, (let s : State := (let s : State := ringSt; let s : State := s.w F.HIF_RING_CFG_CLASS 2 2; let s : State := s.w F.CAN_STAT_STATE 1 2; let s : State := s.updCan 1 fun d => { d with mode := 1 }; s); let s : State := s.updCan 1 fun d => { d with mode := 2 }; s), 1, by decide +kernel⟩,
    ⟨⟨1, true, 9#16⟩, run, by decide +kernel⟩⟩

theorem witness_CanBusEvents :
    (∃ (c : Fin 2) (s : State) (k : Nat) (key : Nat), s.onBus c = true ∧ s.mayTx c = true ∧ (s.can! c).tx = none ∧ (s.can! c).toSleep = false ∧ lowest (s.canCands c) = some (k, key) ∧ ((k = 128 ∨ (k < 128 ∧ s.objBad c k = false ∧ (if (s.here.safeConn k).isSome then none else s.here.objFill c k) = none)))) ∧
    (∃ (c : Fin 2) (s : State) (k : Nat) (key : Nat) (bs : List Byte) (fr : Bool), s.onBus c = true ∧ s.mayTx c = true ∧ (s.can! c).tx = none ∧ (s.can! c).toSleep = false ∧ lowest (s.canCands c) = some (k, key) ∧ k < 128 ∧ s.objBad c k = false ∧ s.safeConn k = none ∧ s.here.objFill c k = some (bs, fr)) ∧
    (∃ (c : Fin 2) (s : State), (s.onBus c = false ∨ s.mayTx c = false ∨ (s.can! c).tx ≠ none ∨ lowest (s.canCands c) = none)) ∧
    (∃ (c : Fin 2) (s : State) (k : Nat) (w : State), (s.can! c).tx = some k ∧ k < 128 ∧ s.safeConn k = none ∧ w = s.here.countBy c (fun d => { d with tec := d.tec - 1 })) ∧
    (∃ (c : Fin 2) (s : State) (e : CanEntry), (s.can! c).tx = some 128 ∧ (s.can! c).entry = some e) ∧
    (∃ (c : Fin 2) (s : State), (s.can! c).tx = none) ∧
    (∃ (c : Fin 2) (err : CanErrIn) (s : State) (d : CanSt), s.onBus c = true ∧ s.can! c = d ∧ d.tx = none ∧ d.late = [] ∧ err.kind ≠ .arbitrationLost ∧ s.counts c = true ∧ s.canMode c = 1) ∧
    (∃ (c : Fin 2) (err : CanErrIn) (s : State) (d : CanSt) (k : Nat), s.onBus c = true ∧ s.can! c = d ∧ d.tx = some k ∧ k < 128 ∧ d.late = [] ∧ s.ostat c k bPend = true ∧ s.ostat c k bCanreq = false ∧ bitOf (s.objW c k 0) 5 = false ∧ err.kind = .arbitrationLost) ∧
    (∃ (c : Fin 2) (err : CanErrIn) (s : State) (d : CanSt) (k : Nat), s.onBus c = true ∧ s.can! c = d ∧ d.tx = some k ∧ k < 128 ∧ d.late = [] ∧ s.ostat c k bPend = true ∧ s.ostat c k bCanreq = false ∧ bitOf (s.objW c k 0) 5 = false ∧ err.kind ≠ .arbitrationLost ∧ err.late = false ∧ s.counts c = true) ∧
    (∃ (c : Fin 2) (s : State), s.onBus c = false) ∧
    (∃ (c : Fin 2) (s : State), s.receives c = true) ∧
    (∃ (c : Fin 2) (s : State), s.receives c = false) ∧
    (∃ (c : Fin 2) (s : State), s.receives c = true ∧ (s.can! c).tx = none ∧ s.gb F.CAN_CFG_PXE c = true) ∧
    (∃ (c : Fin 2) (s : State), s.receives c = true ∧ (s.can! c).tx = none ∧ s.gb F.CAN_CFG_PXE c = false) ∧
    (∃ (c : Fin 2) (s : State), (s.receives c = false ∨ (s.can! c).tx ≠ none)) ∧
    (∃ (c : Fin 2) (s : State), s.cst c = cBusOff ∧ (s.can! c).recov = true) ∧
    (∃ (c : Fin 2) (s : State), (s.cst c ≠ cBusOff ∨ (s.can! c).recov = false)) ∧
    (∃ (c : Fin 2) (s : State), s.cst c = cIntegrating ∧ (s.can! c).tec ≤ 255) ∧
    (∃ (c : Fin 2) (s : State), s.cst c ≠ cIntegrating) ∧
    (∃ (c : Fin 2) (s : State), (s.can! c).toSleep = true ∧ (s.can! c).tx = none) ∧
    (∃ (c : Fin 2) (s : State), ((s.can! c).toSleep = false ∨ (s.can! c).tx ≠ none)) ∧
    (∃ (c : Fin 2) (ns : Nat) (s : State), s.gb F.CAN_WCFG_WMODE c = false ∧ s.cst c = cSleep ∧ 100 * s.g F.CAN_WCFG_TWAKE c < ns) ∧
    (∃ (c : Fin 2) (ns : Nat) (s : State), (s.gb F.CAN_WCFG_WMODE c = true ∨ ns + 100 < 100 * s.g F.CAN_WCFG_TWAKE c)) ∧
    (∃ (c : Fin 2) (s : State), s.cst c ≠ cSleep) ∧
    (∃ (c : Fin 2) (f : CanFrame) (s : State), s.cst c = cSleep ∧ s.gb F.CAN_WCFG_WMODE c = true ∧ s.wakeMatch c f = true) ∧
    (∃ (c : Fin 2) (f : CanFrame) (s : State), (s.cst c ≠ cSleep ∨ s.gb F.CAN_WCFG_WMODE c = false ∨ s.wakeMatch c f = false)) :=
  ⟨⟨1, (let s : State := run; let s : State := s.w F.CAN_STAT_STATE 1 2; let s : State := s.updCan 1 fun d => { d with mode := 1 }; let s : State := s.setSram32 (0x120000 + 0x4000 + 0x80 * 7) 1; let s : State := s.setSram32 (0x120000 + 0x4000 + 0x80 * 7 + 16) (2 ^ bPend); s), 7, 0, by decide +kernel⟩,
    ⟨1, (let s : State := run; let s : State := s.w F.CAN_STAT_STATE 1 2; let s : State := s.updCan 1 fun d => { d with mode := 1 }; let s : State := s.setSram32 (0x120000 + 0x4000 + 0x80 * 7) 9; let s : State := s.setSram32 (0x120000 + 0x4000 + 0x80 * 7 + 16) (2 ^ bPend); s), 7, ((lowest ((let s : State := run; let s : State := s.w F.CAN_STAT_STATE 1 2; let s : State := s.updCan 1 fun d => { d with mode := 1 }; let s : State := s.setSram32 (0x120000 + 0x4000 + 0x80 * 7) 9; let s : State := s.setSram32 (0x120000 + 0x4000 + 0x80 * 7 + 16) (2 ^ bPend); s).canCands 1)).getD (0,0)).2, (((let s : State := run; let s : State := s.w F.CAN_STAT_STATE 1 2; let s : State := s.updCan 1 fun d => { d with mode := 1 }; let s : State := s.setSram32 (0x120000 + 0x4000 + 0x80 * 7) 9; let s : State := s.setSram32 (0x120000 + 0x4000 + 0x80 * 7 + 16) (2 ^ bPend); s).here.objFill 1 7).getD ([],false)).1, (((let s : State := run; let s : State := s.w F.CAN_STAT_STATE 1 2; let s : State := s.updCan 1 fun d => { d with mode := 1 }; let s : State := s.setSram32 (0x120000 + 0x4000 + 0x80 * 7) 9; let s : State := s.setSram32 (0x120000 + 0x4000 + 0x80 * 7 + 16) (2 ^ bPend); s).here.objFill 1 7).getD ([],false)).2, by decide +kernel⟩,
    ⟨0, run, by decide +kernel⟩,
    ⟨0, (let s : State := run; let s : State := s.updCan (0) fun d => { d with tx := some 0 }; s), 0, _, by decide +kernel, by decide +kernel, by decide +kernel, rfl⟩,
    ⟨1, (let s : State := run; let s : State := s.w F.CAN_STAT_STATE 1 2; let s : State := s.updCan 1 fun d => { d with mode := 1 }; let s : State := s.updCan 1 fun d => { d with tx := some 128, entry := some (⟨2, true, 9, 5, 2, [1,2], 0, false, false⟩) }; s), ⟨2, true, 9, 5, 2, [1,2], 0, false, false⟩, by decide +kernel⟩,
    ⟨0, run, by decide +kernel⟩,
    ⟨1, ⟨.stuff, false, false, false⟩, (let s : State := run; let s : State := s.w F.CAN_STAT_STATE 1 2; let s : State := s.updCan 1 fun d => { d with mode := 1 }; s), _, by decide +kernel, rfl, by decide +kernel⟩,
    ⟨1, ⟨.arbitrationLost, false, false, false⟩, (let s : State := run; let s : State := s.w F.CAN_STAT_STATE 1 2; let s : State := s.updCan 1 fun d => { d with mode := 1 }; let s : State := s.setSram32 (0x120000 + 0x4000 + 0x80 * 7) 1; let s : State := s.setSram32 (0x120000 + 0x4000 + 0x80 * 7 + 16) (2 ^ bPend); let s : State := s.updCan 1 fun d => { d with tx := some 7 }; s), _, 7, by decide +kernel, rfl, by decide +kernel⟩,
    ⟨1, ⟨.stuff, false, false, false⟩, (let s : State := (let s : State := run; let s : State := s.w F.CAN_STAT_STATE 1 2; let s : State := s.updCan 1 fun d => { d with mode := 1 }; let s : State := s.setSram32 (0x120000 + 0x4000 + 0x80 * 7) 1; let s : State := s.setSram32 (0x120000 + 0x4000 + 0x80 * 7 + 16) (2 ^ bPend); s); let s : State := s.updCan (1) fun d => { d with tx := some 7 }; s), _, 7, by decide +kernel, rfl, by decide +kernel⟩,
    ⟨0, run, by decide +kernel⟩,
    ⟨1, (let s : State := run; let s : State := s.w F.CAN_STAT_STATE 1 2; let s : State := s.updCan 1 fun d => { d with mode := 1 }; let s : State := s.setSram32 (0x120000 + 0x4000 + 0x80 * 7) 1; let s : State := s.setSram32 (0x120000 + 0x4000 + 0x80 * 7 + 16) (2 ^ bPend); s), by decide +kernel⟩,
    ⟨1, (let s : State := (let s : State := run; let s : State := s.w F.CAN_STAT_STATE 1 2; let s : State := s.updCan 1 fun d => { d with mode := 1 }; let s : State := s.w F.CAN_CFG_PXE 1 1; s); let s : State := s.w (F.CAN_STAT_STATE) (1) (0); s), by decide +kernel⟩,
    ⟨1, (let s : State := run; let s : State := s.w F.CAN_STAT_STATE 1 2; let s : State := s.updCan 1 fun d => { d with mode := 1 }; let s : State := s.setSram32 (0x120000 + 0x4000 + 0x80 * 7) 1; let s : State := s.setSram32 (0x120000 + 0x4000 + 0x80 * 7 + 16) (2 ^ bPend); s), by decide +kernel⟩,
    ⟨1, (let s : State := (let s : State := run; let s : State := s.w F.CAN_STAT_STATE 1 2; let s : State := s.updCan 1 fun d => { d with mode := 1 }; let s : State := s.setSram32 (0x120000 + 0x4000 + 0x80 * 7) 1; let s : State := s.setSram32 (0x120000 + 0x4000 + 0x80 * 7 + 16) (2 ^ bPend); s); let s : State := s.w (F.CAN_CFG_PXE) (1) 0; s), by decide +kernel⟩,
    ⟨0, run, by decide +kernel⟩,
    ⟨0, (let s : State := run; let s : State := s.w (F.CAN_STAT_STATE) (0) (cBusOff); let s : State := s.updCan (0) fun d => { d with recov := true }; s), by decide +kernel⟩,
    ⟨0, run, by decide +kernel⟩,
    ⟨0, (let s : State := run; let s : State := s.w (F.CAN_STAT_STATE) (0) (cIntegrating); s), by decide +kernel⟩,
    ⟨0, run, by decide +kernel⟩,
    ⟨0, (let s : State := run; let s : State := s.updCan (0) fun d => { d with toSleep := true }; s), by decide +kernel⟩,
    ⟨0, run, by decide +kernel⟩,
    ⟨0, 0x5000, (let s : State := run; let s : State := s.w (F.CAN_STAT_STATE) (0) (cSleep); s), by decide +kernel⟩,
    ⟨0, 0, run, by decide +kernel⟩,
    ⟨0, run, by decide +kernel⟩,
    ⟨0, ⟨5#32, 2#32, [1, 2], 64⟩, (let s : State := run; let s : State := s.w (F.CAN_STAT_STATE) (0) (cSleep); let s : State := s.w (F.CAN_WCFG_WMODE) (0) 1; s), by decide +kernel⟩,
    ⟨0, ⟨5#32, 2#32, [1, 2], 64⟩, run, by decide +kernel⟩⟩

theorem witness_DescriptorsOfTheCommandRings :
    (∃ (d : Desc) (s : State), (s.ringRuns d.ring = false ∨ s.g F.HIF_RING_CFG_CLASS d.ring ≠ 0 ∨ s.host.fences.contains d.ring.val = true)) ∧
    (∃ (d : Desc) (s : State), s.here.cmdRuns d.ring = true) ∧
    (∃ (d : Desc) (s : State) (ps : List RegPair), s.here.cmdRuns d.ring = true ∧ ((ps = [] ∨ 3 < ps.length ∨ ∃ q ∈ ps, q.addr % 4 ≠ 0 ∨ 0x40000 ≤ q.addr))) ∧
    (∃ (d : Desc) (s : State) (a : Nat), s.here.cmdRuns d.ring = true ∧ (a % 4 ≠ 0 ∨ 0x40000 ≤ a)) ∧
    (∃ (d : Desc) (s : State) (a : Nat), s.here.cmdRuns d.ring = true ∧ a % 4 = 0 ∧ a < 0x40000 ∧ s.reaches a = false) ∧
    (∃ (d : Desc) (s : State) (a : Nat), s.here.cmdRuns d.ring = true ∧ a % 4 = 0 ∧ a < 0x40000 ∧ s.reaches a = true ∧ snapOf a = none) ∧
    (∃ (d : Desc) (s : State) (a : Nat) (ws : List Word), s.here.cmdRuns d.ring = true ∧ ((ws = [] ∨ 4 < ws.length ∨ a % 4 ≠ 0 ∨ a < 0x100000 ∨ 0x128000 < a + 4 * ws.length))) ∧
    (∃ (d : Desc) (s : State) (a : Nat) (ws : List Word), s.here.cmdRuns d.ring = true ∧ ((ws = [] ∨ 1024 < ws.length ∨ a % 4 ≠ 0 ∨ a < 0x100000 ∨ 0x128000 < a + 4 * ws.length))) ∧
    (∃ (d : Desc) (s : State) (a : Nat) (n : Nat), s.here.cmdRuns d.ring = true ∧ ((a % 32 ≠ 0 ∨ n % 32 ≠ 0 ∨ n = 0 ∨ 0x100000 < a + n))) ∧
    (∃ (d : Desc) (q : RegPair) (s : State), s.here.cmdRuns d.ring = true ∧ q.addr % 4 = 0 ∧ q.addr < 0x40000 ∧ s.reaches q.addr = true ∧ isStaged q.addr = true ∧ (findReg q.addr).isSome = true ∧ (s.writeTarget q.addr).isSome = true ∧ s.inSet (.reg q.addr) = false ∧ s.mayStage (.ring d.ring) = true ∧ s.staged.length < 2048) ∧
    (∃ (d : Desc) (q : RegPair) (s : State), s.here.cmdRuns d.ring = true ∧ q.addr % 4 = 0 ∧ q.addr < 0x40000 ∧ s.reaches q.addr = true ∧ isStaged q.addr = true ∧ (findReg q.addr).isSome = true ∧ (s.writeTarget q.addr).isSome = true ∧ s.inSet (.reg q.addr) = false ∧ s.mayStage (.ring d.ring) = false) ∧
    (∃ (d : Desc) (q : RegPair) (s : State), s.here.cmdRuns d.ring = true ∧ q.addr % 4 = 0 ∧ q.addr < 0x40000 ∧ s.reaches q.addr = true ∧ isStaged q.addr = true ∧ (findReg q.addr).isSome = true ∧ (s.writeTarget q.addr).isSome = true ∧ s.inSet (.reg q.addr) = false ∧ s.mayStage (.ring d.ring) = true ∧ 2048 ≤ s.staged.length) ∧
    (∃ (d : Desc) (a : Nat) (ws : List Word) (s : State), s.here.cmdRuns d.ring = true ∧ ws ≠ [] ∧ a % 4 = 0 ∧ 0x100000 ≤ a ∧ a + 4 * ws.length ≤ 0x128000 ∧ s.mayStage (.ring d.ring) = true ∧ ((∀ i, i < ws.length → s.inSet (.sram (a + 4 * i)) = false)) ∧ s.staged.length + ws.length ≤ 2048 ∧ ws.length ≤ 4) ∧
    (∃ (d : Desc) (a : Nat) (ws : List Word) (s : State), s.here.cmdRuns d.ring = true ∧ ws ≠ [] ∧ a % 4 = 0 ∧ 0x100000 ≤ a ∧ a + 4 * ws.length ≤ 0x128000 ∧ s.mayStage (.ring d.ring) = true ∧ ((∀ i, i < ws.length → s.inSet (.sram (a + 4 * i)) = false)) ∧ s.staged.length + ws.length ≤ 2048 ∧ ws.length ≤ 1024) ∧
    (∃ (d : Desc) (a : Nat) (ws : List Word) (s : State), s.here.cmdRuns d.ring = true ∧ ws ≠ [] ∧ a % 4 = 0 ∧ 0x100000 ≤ a ∧ a + 4 * ws.length ≤ 0x128000 ∧ s.mayStage (.ring d.ring) = false ∧ ws.length ≤ 4) ∧
    (∃ (d : Desc) (a : Nat) (ws : List Word) (s : State), s.here.cmdRuns d.ring = true ∧ ws ≠ [] ∧ a % 4 = 0 ∧ 0x100000 ≤ a ∧ a + 4 * ws.length ≤ 0x128000 ∧ s.mayStage (.ring d.ring) = false ∧ ws.length ≤ 1024) ∧
    (∃ (d : Desc) (s : State), s.here.cmdRuns d.ring = true ∧ s.gb F.GLB_CSTAT_BUSY = false ∧ s.mayCommit (.ring d.ring) = true ∧ s.overflow = false ∧ s.poisonIn 0x128000 0x130000 = false ∧ tooBig s.groups = false) ∧
    (∃ (d : Desc) (s : State), s.here.cmdRuns d.ring = true ∧ (s.gb F.GLB_CSTAT_BUSY = true ∨ s.mayCommit (.ring d.ring) = false ∨ s.overflow = true)) ∧
    (∃ (d : Desc) (s : State), s.here.cmdRuns d.ring = true ∧ s.mayCommit (.ring d.ring) = true) ∧
    (∃ (d : Desc) (s : State), s.here.cmdRuns d.ring = true ∧ s.mayCommit (.ring d.ring) = false) ∧
    (∃ (d : Desc) (s : State), s.here.cmdRuns d.ring = true ∧ s.gb F.GLB_CSTAT_BUSY = true) ∧
    (∃ (d : Desc) (s : State), s.here.cmdRuns d.ring = true ∧ s.gb F.GLB_CSTAT_BUSY = false ∧ (s.host.deferred.any fun x => decide (x.ring = d.ring.val)) = false ∧ (s.host.owed.any fun o => decide (o.1 = d.ring.val)) = false) ∧
    (∃ (r : Fin 8) (s : State) (x : Deferred), (s.host.deferred.find? fun y => decide (y.ring = r.val) && decide (y.wait = .fence)) = some x ∧ s.fenceFree r = true) ∧
    (∃ (r : Fin 8) (s : State), s.fenceFree r = false) ∧
    (∃ (d : Desc) (a : Nat) (q : Nat) (s : State), s.here.cmdRuns d.ring = true ∧ a % 32 = 0 ∧ a + 32 ≤ 0x100000 ∧ q = s.g F.HIF_ROUTE1_ASH ∧ s.d2h q = true ∧ s.gb F.HIF_RING_STAT_STOP q = false ∧ 3 ≤ s.freeUnits q ∧ ((s.host.owed.any fun o => decide (o.2.1 = q ∨ o.1 = d.ring.val)) = false) ∧ ((∀ i, i < 4 → s.poisoned (a + 8 * i) = false))) ∧
    (∃ (r : Fin 8) (s : State) (x : Deferred) (v : Nat × Nat), (s.host.deferred.find? fun y => decide (y.ring = r.val) && (s.dueResult y).isSome) = some x ∧ s.dueResult x = some v) ∧
    (∃ (r : Fin 8) (s : State), (s.host.deferred.any fun y => decide (y.ring = r.val) && (s.dueResult y).isSome) = false) ∧
    (∃ (s : State) (r : Nat), s.g F.HIF_RING_CFG_SIZE r ≤ 16) :=
  ⟨⟨⟨1, true, 9#16⟩, run, by decide +kernel⟩,
    ⟨⟨2, true, 9#16⟩, ringSt, by decide +kernel⟩,
    ⟨⟨2, true, 9#16⟩, ringSt, [], by decide +kernel⟩,
    ⟨⟨2, true, 9#16⟩, ringSt, 0x3FFFF, by decide +kernel⟩,
    ⟨⟨2, true, 9#16⟩, (let s : State := (let s : State := ringSt; let s : State := s.w F.RST_STAT_STEP 0 3; s); let s : State := { s with rst := { s.rst with warm := true } }; s), 0x3FFFC, by decide +kernel⟩,
    ⟨⟨2, true, 9#16⟩, ringSt, 0, by decide +kernel⟩,
    ⟨⟨2, true, 9#16⟩, ringSt, 0x128000, [5], by decide +kernel⟩,
    ⟨⟨2, true, 9#16⟩, ringSt, 0x128000, [5], by decide +kernel⟩,
    ⟨⟨2, true, 9#16⟩, ringSt, 0x100000, 32, by decide +kernel⟩,
    ⟨⟨2, true, 9#16⟩, ⟨0x5000, 5#32⟩, ringSt, by decide +kernel⟩,
    ⟨⟨2, true, 9#16⟩, ⟨0x5000, 5#32⟩, (let s : State := ringSt; let s : State := { s with staged := [{ tgt := .reg 0x5010, value := 0, did := none }] }; let s : State := s.w F.GLB_CSTAT_OWNER 0 1; s), by decide +kernel⟩,
    ⟨⟨2, true, 9#16⟩, ⟨0x5000, 5#32⟩, (let s : State := ringSt; let s : State := { s with staged := (List.range 2048).map fun i => { tgt := .reg (0x9000 + 4 * i), value := 0, did := none } }; let s : State := s.w F.GLB_CSTAT_OWNER 0 2; let s : State := s.w F.HIF_STAT_SOWN 0 2; s), by decide +kernel⟩,
    ⟨⟨2, true, 9#16⟩, 0x127FFC, [5], ringSt, by decide +kernel⟩,
    ⟨⟨2, true, 9#16⟩, 0x127FFC, [5], ringSt, by decide +kernel⟩,
    ⟨⟨2, true, 9#16⟩, 0x100000, [5], (let s : State := ringSt; let s : State := { s with staged := [{ tgt := .reg 0x5010, value := 0, did := none }] }; let s : State := s.w F.GLB_CSTAT_OWNER 0 1; s), by decide +kernel⟩,
    ⟨⟨2, true, 9#16⟩, 0x100000, [5], (let s : State := ringSt; let s : State := { s with staged := [{ tgt := .reg 0x5010, value := 0, did := none }] }; let s : State := s.w F.GLB_CSTAT_OWNER 0 1; s), by decide +kernel⟩,
    ⟨⟨2, true, 9#16⟩, ringSt, by decide +kernel⟩,
    ⟨⟨2, true, 9#16⟩, (let s : State := ringSt; let s : State := s.w F.GLB_CSTAT_BUSY 0 1; s), by decide +kernel⟩,
    ⟨⟨2, true, 9#16⟩, ringSt, by decide +kernel⟩,
    ⟨⟨2, true, 9#16⟩, (let s : State := ringSt; let s : State := { s with staged := [{ tgt := .reg 0x5010, value := 0, did := none }] }; let s : State := s.w F.GLB_CSTAT_OWNER 0 1; s), by decide +kernel⟩,
    ⟨⟨2, true, 9#16⟩, (let s : State := ringSt; let s : State := s.w F.GLB_CSTAT_BUSY 0 1; s), by decide +kernel⟩,
    ⟨⟨2, true, 9#16⟩, ringSt, by decide +kernel⟩,
    ⟨1, (let s : State := run; let s : State := { s with host := { s.host with deferred := [⟨1, 7, 9, true, .fence, none, 0⟩] } }; s), ⟨1, 7, 9, true, .fence, none, 0⟩, by decide +kernel⟩,
    ⟨0, (let s : State := run; let s : State := s.w (F.GLB_CSTAT_BUSY) (0) 1; s), by decide +kernel⟩,
    ⟨⟨2, true, 9#16⟩, 0xFFFE0, _, (let s : State := ringSt; let s : State := s.w F.HIF_ROUTE1_ASH 0 9; let s : State := s.w F.HIF_RING_CFG_EN 9 1; let s : State := s.w F.HIF_RING_CFG_SIZE 9 4; s), by decide +kernel, by decide +kernel, by decide +kernel, rfl, by decide +kernel⟩,
    ⟨1, (let s : State := run; let s : State := { s with host := { s.host with deferred := [⟨1, 5, 9, true, .commitDone, some (0, 3), 44⟩] } }; s), ⟨1, 5, 9, true, .commitDone, some (0, 3), 44⟩, (0, 3), by decide +kernel⟩,
    ⟨0, run, by decide +kernel⟩,
    ⟨run, 0, by decide +kernel⟩⟩

theorem witness_RingSetUpAndHostMemory :
    (∃ (r : Fin 32) (value : Word) (s : State), s.reaches 0x2000 = true ∧ s.gb F.HIF_RING_CFG_EN r = true ∧ bitOf value.toNat 0 = false) ∧
    (∃ (r : Fin 32) (value : Word) (s : State), s.reaches 0x2000 = true ∧ s.gb F.HIF_RING_CFG_EN r = true ∧ bitOf value.toNat 0 = true) ∧
    (∃ (r : Fin 32) (value : Word) (s : State), s.reaches 0x2000 = true ∧ s.gb F.HIF_RING_CFG_EN r = false ∧ bitOf value.toNat 0 = false) ∧
    (∃ (r : Fin 32) (value : Word) (s : State), s.reaches 0x2000 = true ∧ s.gb F.HIF_RING_CFG_EN r = false ∧ bitOf value.toNat 0 = true ∧ (8 ≤ r.val ∨ bitsOf value.toNat 6 2 = 0)) ∧
    (∃ (r : Fin 32) (value : Word) (s : State) (q : Fin 8), s.reaches 0x2000 = true ∧ s.gb F.HIF_RING_CFG_EN r = false ∧ bitOf value.toNat 0 = true ∧ r.val < 8 ∧ q.val ≠ r.val ∧ s.gb F.HIF_RING_CFG_EN q = true ∧ ((bitsOf value.toNat 6 2 = 1 ∨ bitsOf value.toNat 6 2 = 2)) ∧ s.g F.HIF_RING_CFG_CLASS q = bitsOf value.toNat 6 2) ∧
    (∃ (r : Fin 32) (value : Word) (s : State), s.reaches 0x2000 = true ∧ s.gb F.HIF_RING_CFG_EN r = false ∧ bitOf value.toNat 0 = true ∧ bitsOf value.toNat 6 2 = 3 ∧ r.val < 8) ∧
    (∃ (r : Fin 32) (tail : Word) (s : State), s.reaches 0x2000 = true ∧ tail.toNat % 65536 < s.ringSize r) ∧
    (∃ (r : Fin 32) (tail : Word) (s : State), s.reaches 0x2000 = true ∧ s.ringSize r ≤ tail.toNat % 65536) ∧
    (∃ (r : Fin 32) (s : State), s.gb F.HIF_RING_CFG_EN r = true) ∧
    (∃ (r : Fin 32) (s : State), s.gb F.HIF_RING_CFG_EN r = false) :=
  ⟨⟨0, 0#32, (let s : State := run; let s : State := s.w (F.HIF_RING_CFG_EN) (0) 1; s), by decide +kernel⟩,
    ⟨0, 1#32, (let s : State := run; let s : State := s.w (F.HIF_RING_CFG_EN) (0) 1; s), by decide +kernel⟩,
    ⟨0, 0#32, run, by decide +kernel⟩,
    ⟨0, 1#32, run, by decide +kernel⟩,
    ⟨2, 0x4D#32, (let s : State := run; let s : State := s.w F.HIF_RING_CFG_EN 3 1; let s : State := s.w F.HIF_RING_CFG_CLASS 3 1; s), 3, by decide +kernel⟩,
    ⟨0, 4294967295#32, run, by decide +kernel⟩,
    ⟨0, 1#32, run, by decide +kernel⟩,
    ⟨0, 4294967295#32, run, by decide +kernel⟩,
    ⟨0, (let s : State := run; let s : State := s.w (F.HIF_RING_CFG_EN) (0) 1; s), by decide +kernel⟩,
    ⟨0, run, by decide +kernel⟩⟩

theorem witness_EventDeliveryAndHostLink :
    (∃ (s : State), tdiff (s.gridAt msU) (tadd s.now sampleU) ≤ 0 ∧ s.host.lastTime ≠ s.gridAt msU + 1) ∧
    (∃ (s : State), (0 < tdiff (s.gridAt msU) (tadd s.now sampleU) ∨ s.host.lastTime = s.gridAt msU + 1)) ∧
    (∃ (v : Fin 32) (s : State), s.msixDue v = true ∧ s.host.msixEn = true ∧ s.host.msixMask = false ∧ s.gb F.HIF_MTC_MASK v = false ∧ s.master = true) ∧
    (∃ (v : Fin 32) (s : State), s.msixDue v = true ∧ s.host.msixEn = true ∧ (s.host.msixMask = true ∨ s.gb F.HIF_MTC_MASK v = true ∨ s.master = false)) ∧
    (∃ (v : Fin 32) (s : State), (s.msixDue v = false ∨ s.host.msixEn = false)) ∧
    (∃ (src : Src) (s : State), s.reaches 0x2000 = true ∧ (if src.path = .spi then s.gb F.HIF_HBCFG_SPI else s.gb F.HIF_HBCFG_PCIE) = true) ∧
    (∃ (src : Src) (s : State), s.reaches 0x2000 = true ∧ (if src.path = .spi then s.gb F.HIF_HBCFG_SPI else s.gb F.HIF_HBCFG_PCIE) = false) ∧
    (∃ (s : State), s.reaches 0x2000 = true) ∧
    (∃ (s : State), s.host.hbRun = true ∧ (s.g F.HIF_HBCFG_TMO * msU : Nat) ≤ tdiff s.now s.host.hbAt) ∧
    (∃ (s : State), (s.host.hbRun = false ∨ tdiff s.now s.host.hbAt < (s.g F.HIF_HBCFG_TMO * msU : Nat))) ∧
    (∃ (s : State), s.rst.warm = false) ∧
    (∃ (s : State), s.rst.warm = true) ∧
    (∃ (s : State), s.host.up = true) ∧
    (∃ (s : State), s.host.up = false) ∧
    (∃ (speed : Fin 4) (width : Fin 3) (s : State), s.host.released = true ∧ s.rst.perstN = true ∧ s.rst.phyOk = true ∧ s.gb F.RST_STAT_PHYQ = true ∧ s.gb F.RST_STAT_CLKQ = true ∧ speed.val ≠ 0 ∧ width.val ≠ 0) ∧
    (∃ (s : State), (s.host.released = false ∨ s.rst.perstN = false ∨ s.rst.phyOk = false)) ∧
    (∃ (s : State), s.rst.perstN = false) ∧
    (∃ (s : State), s.rst.perstN = true) :=
  ⟨⟨(let s : State := run; let s : State := { s with now := 5 * msU, t := 5 * msU }; s), by decide +kernel⟩,
    ⟨run, by decide +kernel⟩,
    ⟨31, (let s : State := run; let s : State := s.w F.HIF_STAT_BME 0 1; let s : State := { s with host := { s.host with msixEn := true, vecs := s.host.vecs.set! 31 { causes := 1, first := 0 } } }; let s : State := s.w F.HIF_MTC_MASK 31 0; s), by decide +kernel⟩,
    ⟨31, (let s : State := run; let s : State := { s with host := { s.host with msixEn := true, vecs := s.host.vecs.set! 31 { causes := 1, first := 0 } } }; s), by decide +kernel⟩,
    ⟨0, run, by decide +kernel⟩,
    ⟨⟨.bar0, 0⟩, run, by decide +kernel⟩,
    ⟨⟨.bar0, 0⟩, (let s : State := run; let s : State := s.w (F.HIF_HBCFG_PCIE) (0) 0; s), by decide +kernel⟩,
    ⟨run, by decide +kernel⟩,
    ⟨(let s : State := run; let s : State := { s with host := { s.host with hbRun := true } }; s), by decide +kernel⟩,
    ⟨run, by decide +kernel⟩,
    ⟨run, by decide +kernel⟩,
    ⟨(let s : State := run; let s : State := { s with rst := { s.rst with warm := true } }; s), by decide +kernel⟩,
    ⟨(let s : State := run; let s : State := { s with host := { s.host with up := true } }; s), by decide +kernel⟩,
    ⟨run, by decide +kernel⟩,
    ⟨1, 1, (let s : State := run; let s : State := s.w (F.RST_STAT_PHYQ) (0) 1; let s : State := s.w (F.RST_STAT_CLKQ) (0) 1; s), by decide +kernel⟩,
    ⟨(let s : State := run; let s : State := { s with host := { s.host with released := false } }; s), by decide +kernel⟩,
    ⟨(let s : State := run; let s : State := { s with rst := { s.rst with perstN := false } }; s), by decide +kernel⟩,
    ⟨run, by decide +kernel⟩⟩

theorem witness_SpiFrames :
    (∃ (b : List Byte) (s : State), s.rst.warm = false ∧ s.host.released = true ∧ spiLen b ≤ b.length ∧ crc8 (b.take (spiHead b - 1)) ≠ (b.getD (spiHead b - 1) 0).toNat ∧ spiIsWrite b = false) ∧
    (∃ (b : List Byte) (s : State), s.rst.warm = false ∧ s.host.released = true ∧ spiLen b ≤ b.length ∧ crc8 (b.take (spiHead b - 1)) ≠ (b.getD (spiHead b - 1) 0).toNat ∧ spiIsWrite b = true) ∧
    (∃ (b : List Byte) (s : State), s.rst.warm = false ∧ s.host.released = true ∧ spiLen b ≤ b.length ∧ crc8 (b.take (spiHead b - 1)) = (b.getD (spiHead b - 1) 0).toNat ∧ ((bitsOf (spiCmd b) 5 2 ≠ 1 ∨ spiAddr b = none)) ∧ spiIsWrite b = false) ∧
    (∃ (b : List Byte) (s : State), s.rst.warm = false ∧ s.host.released = true ∧ spiLen b ≤ b.length ∧ crc8 (b.take (spiHead b - 1)) = (b.getD (spiHead b - 1) 0).toNat ∧ ((bitsOf (spiCmd b) 5 2 ≠ 1 ∨ spiAddr b = none)) ∧ spiIsWrite b = true) ∧
    (∃ (b : List Byte) (s : State) (a : Nat), s.rst.warm = false ∧ s.host.released = true ∧ spiLen b ≤ b.length ∧ spiWords b = 1 ∧ crc8 (b.take (spiHead b - 1)) = (b.getD (spiHead b - 1) 0).toNat ∧ bitsOf (spiCmd b) 5 2 = 1 ∧ spiAddr b = some (true, a) ∧ spiIsWrite b = false ∧ s.poisoned a = false) ∧
    (∃ (b : List Byte) (s : State) (a : Nat), s.rst.warm = false ∧ s.host.released = true ∧ spiLen b ≤ b.length ∧ spiWords b = 1 ∧ crc8 (b.take (spiHead b - 1)) = (b.getD (spiHead b - 1) 0).toNat ∧ bitsOf (spiCmd b) 5 2 = 1 ∧ spiAddr b = some (true, a) ∧ spiIsWrite b = true ∧ s.gb F.GLB_DIAG_SRAM_WR = true ∧ a % 4 = 0 ∧ a < 0x180000) ∧
    (∃ (b : List Byte) (s : State) (a : Nat), s.rst.warm = false ∧ s.host.released = true ∧ spiLen b ≤ b.length ∧ spiWords b = 1 ∧ crc8 (b.take (spiHead b - 1)) = (b.getD (spiHead b - 1) 0).toNat ∧ bitsOf (spiCmd b) 5 2 = 1 ∧ spiAddr b = some (true, a) ∧ spiIsWrite b = true ∧ s.gb F.GLB_DIAG_SRAM_WR = false) ∧
    (∃ (b : List Byte) (s : State), s.rst.warm = false ∧ s.host.released = true ∧ ((b = [] ∨ b.length < spiHead b))) ∧
    (∃ (s : State), (s.rst.warm = true ∨ s.host.released = false)) :=
  ⟨⟨List.replicate 64 0, run, by decide +kernel⟩,
    ⟨[0xA0, 0x80, 0, 0, 1, 2, 3, 4, 0xFF, 0, 0, 0, 0], (let s : State := run; let s : State := { s with host := { s.host with released := true } }; s), by decide +kernel⟩,
    ⟨([0x40, 0x80, 0, 0] ++ leBytes 1 (crc8 [0x40, 0x80, 0, 0]) ++ List.replicate 12 0), (let s : State := run; let s : State := { s with host := { s.host with released := true } }; s), by decide +kernel⟩,
    ⟨([0xC0, 0x80, 0, 0, 1, 2, 3, 4] ++ leBytes 1 (crc8 [0xC0, 0x80, 0, 0, 1, 2, 3, 4]) ++ List.replicate 12 0), (let s : State := run; let s : State := { s with host := { s.host with released := true } }; s), by decide +kernel⟩,
    ⟨([0x20, 0x90, 0, 4] ++ leBytes 1 (crc8 [0x20, 0x90, 0, 4]) ++ List.replicate 12 0), (let s : State := run; let s : State := { s with host := { s.host with released := true } }; s), 0x100004, by decide +kernel⟩,
    ⟨([0xA0, 0x97, 0xFF, 0xFC, 1, 2, 3, 4] ++ leBytes 1 (crc8 [0xA0, 0x97, 0xFF, 0xFC, 1, 2, 3, 4]) ++ List.replicate 12 0), (let s : State := (let s : State := run; let s : State := { s with host := { s.host with released := true } }; s); let s : State := s.w F.GLB_DIAG_SRAM_WR 0 1; s), 0x17FFFC, by decide +kernel⟩,
    ⟨([0xA0, 0x97, 0xFF, 0xFC, 1, 2, 3, 4] ++ leBytes 1 (crc8 [0xA0, 0x97, 0xFF, 0xFC, 1, 2, 3, 4]) ++ List.replicate 12 0), (let s : State := run; let s : State := { s with host := { s.host with released := true } }; s), 0x17FFFC, by decide +kernel⟩,
    ⟨[], run, by decide +kernel⟩,
    ⟨(let s : State := run; let s : State := { s with rst := { s.rst with warm := true } }; s), by decide +kernel⟩⟩

theorem witness_ChainFramesAndTime :
    (∃ (f : ChainIn) (s : State) (v : Nat), s.chnOn = true ∧ s.gb F.CHN_CFG_HEAD = false ∧ frameNum f.bytes 0 1 = 1 ∧ frameNum f.bytes 2 2 ≠ s.g F.CHN_ORIGIN_TAG ∧ v = frameNum f.bytes 4 2) ∧
    (∃ (f : ChainIn) (s : State), s.chnOn = true ∧ s.gb F.CHN_CFG_HEAD = true ∧ frameNum f.bytes 2 2 ≠ s.g F.CHN_ORIGIN_TAG ∧ frameNum f.bytes 0 1 = 1) ∧
    (∃ (f : ChainIn) (s : State), s.chnOn = true ∧ s.gb F.CHN_CFG_HEAD = true ∧ frameNum f.bytes 2 2 ≠ s.g F.CHN_ORIGIN_TAG ∧ frameNum f.bytes 0 1 = 2) ∧
    (∃ (f : ChainIn) (s : State), s.chnOn = true ∧ s.gb F.CHN_CFG_HEAD = true ∧ frameNum f.bytes 2 2 ≠ s.g F.CHN_ORIGIN_TAG ∧ frameNum f.bytes 0 1 = 4) ∧
    (∃ (s : State), s.chnOn = false ∧ s.chnRepeats = false) ∧
    (∃ (s : State), s.chnOn = false) ∧
    (∃ (f : ChainIn) (s : State), s.chnOn = false ∧ s.chnRepeats = true ∧ frameNum f.bytes 2 2 ≠ s.g F.CHN_ORIGIN_TAG ∧ frameNum f.bytes 0 1 = 4) ∧
    (∃ (f : ChainIn) (s : State), s.chnOn = false ∧ s.chnRepeats = true ∧ frameNum f.bytes 2 2 ≠ s.g F.CHN_ORIGIN_TAG ∧ frameNum f.bytes 0 1 = 2) ∧
    (∃ (f : ChainIn) (s : State) (t0 : Nat) (n : Nat), s.chnOn = true ∧ s.gb F.CHN_CFG_HEAD = true ∧ frameNum f.bytes 0 1 = 1 ∧ frameNum f.bytes 2 2 = s.g F.CHN_ORIGIN_TAG ∧ s.chn.tokAt = some t0 ∧ n = frameNum f.bytes 4 2 ∧ n ≤ 512) ∧
    (∃ (f : ChainIn) (s : State), s.chnOn = true ∧ s.gb F.CHN_CFG_HEAD = false ∧ frameNum f.bytes 0 1 = 4 ∧ frameNum f.bytes 2 2 ≠ s.g F.CHN_ORIGIN_TAG ∧ frameNum f.bytes 4 2 ≤ 512 ∧ frameNum f.bytes 14 2 = 0 ∧ frameNum f.bytes 10 4 ≠ 0) ∧
    (∃ (f : ChainIn) (s : State) (e : Int), s.chnOn = true ∧ s.gb F.CHN_CFG_HEAD = false ∧ frameNum f.bytes 0 1 = 2 ∧ frameNum f.bytes 2 2 ≠ s.g F.CHN_ORIGIN_TAG ∧ e = tdiff (tadd (frameNum f.bytes 4 8) (frameNum f.bytes 12 4 + s.g F.CHN_CABLE_D : Nat)) (tadd s.now f.sub) ∧ -(usU : Int) ≤ e ∧ e ≤ usU) ∧
    (∃ (f : ChainIn) (s : State) (e : Int), s.chnOn = true ∧ s.gb F.CHN_CFG_HEAD = false ∧ frameNum f.bytes 0 1 = 2 ∧ frameNum f.bytes 2 2 ≠ s.g F.CHN_ORIGIN_TAG ∧ e = tdiff (tadd (frameNum f.bytes 4 8) (frameNum f.bytes 12 4 + s.g F.CHN_CABLE_D : Nat)) (tadd s.now f.sub) ∧ usU < e) ∧
    (∃ (f : ChainIn) (s : State) (e : Int), s.chnOn = true ∧ s.gb F.CHN_CFG_HEAD = false ∧ frameNum f.bytes 0 1 = 2 ∧ frameNum f.bytes 2 2 ≠ s.g F.CHN_ORIGIN_TAG ∧ e = tdiff (tadd (frameNum f.bytes 4 8) (frameNum f.bytes 12 4 + s.g F.CHN_CABLE_D : Nat)) (tadd s.now f.sub) ∧ e < -(usU : Int)) ∧
    (∃ (s : State), s.chnOn = true ∧ s.gb F.CHN_CFG_HEAD = true ∧ tdiff s.nextTime (tadd s.now sampleU) < 0 ∧ s.chn.timeAt ≠ some s.nextTime) ∧
    (∃ (s : State), s.reaches 0x14000 = true ∧ s.chnOn = true ∧ s.gb F.CHN_CFG_HEAD = true) ∧
    (∃ (s : State), (s.chnOn = false ∨ s.gb F.CHN_CFG_HEAD = false)) ∧
    (∃ (s : State), s.chnOn = true ∧ s.gb F.CHN_CFG_HEAD = true ∧ (s.chn.enumDue = true ∨ (100 * msU : Nat) ≤ tdiff s.now s.chn.enumAt)) ∧
    (∃ (s : State), s.chnOn = true ∧ s.gb F.CHN_CFG_HEAD = true ∧ s.chn.enumDue = false ∧ tdiff s.now s.chn.enumAt < (100 * msU : Nat)) ∧
    (∃ (s : State), s.chnOn = true ∧ s.chn.loss = false ∧ (s.lossTime : Int) ≤ tdiff s.now s.chn.lastIn ∧ s.gb F.CHN_CFG_HEAD = true) ∧
    (∃ (s : State), s.chnOn = true ∧ s.chn.loss = false ∧ (s.lossTime : Int) ≤ tdiff s.now s.chn.lastIn ∧ s.gb F.CHN_CFG_HEAD = false) ∧
    (∃ (s : State), (s.chn.loss = true ∨ tdiff s.now s.chn.lastIn < s.lossTime)) ∧
    (∃ (s : State), s.chnOn = true) :=
  ⟨⟨⟨[1, 0] ++ leBytes 2 otherTag ++ [3, 0, 4, 0, 0, 0, 5, 0, 0, 0, 0, 0], 6400⟩, (let s : State := boot; let s : State := s.w (F.CHN_CFG_EN) (0) 1; let s : State := s.w (F.GLB_STATUS_MODE) (0) (1); s), _, by decide +kernel, by decide +kernel, by decide +kernel, other_tag _ _ _ _ (by decide +kernel), rfl⟩,
    ⟨⟨[1, 0] ++ leBytes 2 otherTag ++ [3, 0, 4, 0, 0, 0, 5, 0, 0, 0, 0, 0], 6400⟩, (let s : State := boot; let s : State := s.w (F.CHN_CFG_EN) (0) 1; let s : State := s.w (F.GLB_STATUS_MODE) (0) (1); let s : State := s.w (F.CHN_CFG_HEAD) (0) 1; s), by decide +kernel, by decide +kernel, other_tag _ _ _ _ (by decide +kernel), by decide +kernel⟩,
    ⟨⟨[2, 1] ++ leBytes 2 otherTag ++ [3, 0, 4, 0, 0, 0, 5, 0, 0, 0, 0, 0], 6400⟩, (let s : State := run; let s : State := s.w (F.CHN_CFG_EN) (0) 1; let s : State := s.w (F.CHN_CFG_HEAD) (0) 1; s), by decide +kernel, by decide +kernel, other_tag _ _ _ _ (by decide +kernel), by decide +kernel⟩,
    ⟨⟨[4, 0] ++ leBytes 2 otherTag ++ [3, 0, 4, 0, 0, 0, 5, 0, 0, 0, 0, 0], 6400⟩, (let s : State := run; let s : State := s.w F.CHN_CFG_EN 0 1; let s : State := s.w F.CHN_CFG_HEAD 0 1; s), by decide +kernel, by decide +kernel, other_tag _ _ _ _ (by decide +kernel), by decide +kernel⟩,
    ⟨run, by decide +kernel⟩,
    ⟨run, by decide +kernel⟩,
    ⟨⟨[4, 0] ++ leBytes 2 otherTag ++ [3, 0, 4, 0, 0, 0, 5, 0, 0, 0, 0, 0], 6400⟩, (let s : State := (let s : State := run; let s : State := s.w F.CHN_CFG_EN 0 1; let s : State := s.w F.CHN_CFG_HEAD 0 1; s); let s : State := s.w (F.CHN_CFG_EN) (0) 0; let s : State := s.w (F.GLB_STATUS_MODE) (0) (2); let s : State := s.w (F.RST_STAT_CLKQ) (0) 1; let s : State := s.w (F.CHN_CFG_EN) (0) 1; s), by decide +kernel, by decide +kernel, other_tag _ _ _ _ (by decide +kernel), by decide +kernel⟩,
    ⟨⟨[2, 1] ++ leBytes 2 otherTag ++ [3, 0, 4, 0, 0, 0, 5, 0, 0, 0, 0, 0], 6400⟩, (let s : State := run; let s : State := s.w (F.GLB_STATUS_MODE) (0) (2); let s : State := s.w (F.RST_STAT_CLKQ) (0) 1; let s : State := s.w (F.CHN_CFG_EN) (0) 1; s), by decide +kernel, by decide +kernel, other_tag _ _ _ _ (by decide +kernel), by decide +kernel⟩,
    ⟨⟨[1, 0] ++ leBytes 2 ownTag ++ [3, 0, 4, 0, 0, 0, 5, 0, 0, 0, 0, 0], 6400⟩, (let s : State := run; let s : State := s.w (F.CHN_CFG_EN) (0) 1; let s : State := s.w (F.CHN_CFG_HEAD) (0) 1; let s : State := { s with chn := { s.chn with tokAt := some 0 } }; s), 0, _, by decide +kernel, by decide +kernel, by decide +kernel, own_tag _ _ _ _ (by decide +kernel), by decide +kernel, rfl, by decide +kernel⟩,
    ⟨⟨[4, 0] ++ leBytes 2 otherTag ++ [3, 0, 4, 0, 0, 0, 5, 0, 0, 0, 0, 0], 6400⟩, (let s : State := (let s : State := run; let s : State := s.w F.CHN_CFG_EN 0 1; let s : State := s.w F.CHN_CFG_HEAD 0 1; s); let s : State := s.w (F.CHN_CFG_HEAD) (0) 0; s), by decide +kernel, by decide +kernel, by decide +kernel, other_tag _ _ _ _ (by decide +kernel), by decide +kernel⟩,
    ⟨⟨[2, 1] ++ leBytes 2 otherTag ++ (leBytes 8 (2^40 + 6400) ++ [0, 0, 0, 0]), 6400⟩, (let s : State := run; let s : State := s.w (F.CHN_CFG_EN) (0) 1; s), _, by decide +kernel, by decide +kernel, by decide +kernel, other_tag _ _ _ _ (by decide +kernel), rfl, by decide +kernel⟩,
    ⟨⟨[2, 1] ++ leBytes 2 otherTag ++ [3, 0, 4, 0, 0, 0, 5, 0, 0, 0, 0, 0], 6400⟩, (let s : State := (let s : State := run; let s : State := s.w F.CHN_CFG_EN 0 1; let s : State := s.w F.CHN_CFG_HEAD 0 1; let s : State := { s with now := 1000 * 100 * usU, t := 1000 * 100 * usU }; s); let s : State := s.w (F.CHN_CFG_HEAD) (0) 0; s), _, by decide +kernel, by decide +kernel, by decide +kernel, other_tag _ _ _ _ (by decide +kernel), rfl, by decide +kernel⟩,
    ⟨⟨[2, 1] ++ leBytes 2 otherTag ++ (leBytes 8 (2^40 - 5 * msU) ++ [0, 0, 0, 0]), 6400⟩, (let s : State := run; let s : State := s.w (F.CHN_CFG_EN) (0) 1; s), _, by decide +kernel, by decide +kernel, by decide +kernel, other_tag _ _ _ _ (by decide +kernel), rfl, by decide +kernel⟩,
    ⟨(let s : State := run; let s : State := s.w F.CHN_CFG_EN 0 1; let s : State := s.w F.CHN_CFG_HEAD 0 1; let s : State := { s with now := 1000 * 100 * usU, t := 1000 * 100 * usU }; s), by decide +kernel⟩,
    ⟨(let s : State := run; let s : State := s.w (F.CHN_CFG_EN) (0) 1; let s : State := s.w (F.CHN_CFG_HEAD) (0) 1; s), by decide +kernel⟩,
    ⟨run, by decide +kernel⟩,
    ⟨(let s : State := run; let s : State := s.w (F.CHN_CFG_EN) (0) 1; let s : State := s.w (F.CHN_CFG_HEAD) (0) 1; s), by decide +kernel⟩,
    ⟨(let s : State := run; let s : State := s.w (F.CHN_CFG_EN) (0) 1; let s : State := s.w (F.CHN_CFG_HEAD) (0) 1; let s : State := { s with chn := { s.chn with enumAt := tadd (s.now) (-(((100 * msU)) - 1)) } }; s), by decide +kernel⟩,
    ⟨(let s : State := run; let s : State := s.w (F.CHN_CFG_EN) (0) 1; let s : State := s.w (F.CHN_CFG_HEAD) (0) 1; s), by decide +kernel⟩,
    ⟨(let s : State := run; let s : State := s.w (F.CHN_CFG_EN) (0) 1; s), by decide +kernel⟩,
    ⟨(let s : State := run; let s : State := { s with chn := { s.chn with loss := true } }; s), by decide +kernel⟩,
    ⟨(let s : State := run; let s : State := s.w (F.CHN_CFG_EN) (0) 1; s), by decide +kernel⟩⟩

theorem witness_ChainCommandsAndSync :
    (∃ (f : ChainIn) (s : State) (inst : Nat), s.chnOn = true ∧ frameNum f.bytes 0 1 = 3 ∧ frameNum f.bytes 2 2 ≠ s.g F.CHN_ORIGIN_TAG ∧ inst = frameNum f.bytes 4 8 ∧ 0 ≤ tdiff inst (tadd s.now f.sub) ∧ tdiff inst (tadd s.now f.sub) ≤ (10000 * msU : Nat)) ∧
    (∃ (f : ChainIn) (s : State) (inst : Nat), s.chnOn = true ∧ frameNum f.bytes 0 1 = 3 ∧ frameNum f.bytes 2 2 ≠ s.g F.CHN_ORIGIN_TAG ∧ inst = frameNum f.bytes 4 8 ∧ (tdiff inst (tadd s.now f.sub) < 0 ∨ (10000 * msU : Nat) < tdiff inst (tadd s.now f.sub)) ∧ bitOf (frameNum f.bytes 12 1) 0 = true) ∧
    (∃ (f : ChainIn) (s : State), s.chnOn = true ∧ frameNum f.bytes 2 2 = s.g F.CHN_ORIGIN_TAG) ∧
    (∃ (s : State) (c : Nat × Nat × Nat), s.chn.cmds = [c] ∧ s.syncDue c.1 = true ∧ bitOf c.2.2 0 = true ∧ bitOf c.2.2 1 = false ∧ s.adcOn = true ∧ s.chn.syncK ≠ some s.k) ∧
    (∃ (s : State), (s.chn.cmds.any fun c => s.syncDue c.1) = false) ∧
    (∃ (src : Src) (value : Word) (s : State) (inst : Nat) (d : Int), s.reaches 0x14000 = true ∧ inst = s.g F.CHN_CMDTL_T + 2 ^ 32 * s.g F.CHN_CMDTH_T ∧ d = tdiff inst (tadd s.now src.sub) ∧ bitOf value.toNat 10 = false) ∧
    (∃ (src : Src) (value : Word) (s : State) (inst : Nat) (d : Int), s.reaches 0x14000 = true ∧ inst = s.g F.CHN_CMDTL_T + 2 ^ 32 * s.g F.CHN_CMDTH_T ∧ d = tdiff inst (tadd s.now src.sub) ∧ bitOf value.toNat 10 = true ∧ (d < (s.g F.CHN_CFG_SLEAD * 10 * usU : Nat) ∨ (10000 * msU : Nat) < d ∨ s.chnOn = false ∨ s.chn.hold = true)) ∧
    (∃ (src : Src) (value : Word) (s : State) (inst : Nat) (d : Int), s.reaches 0x14000 = true ∧ inst = s.g F.CHN_CMDTL_T + 2 ^ 32 * s.g F.CHN_CMDTH_T ∧ d = tdiff inst (tadd s.now src.sub) ∧ bitOf value.toNat 10 = true ∧ (s.g F.CHN_CFG_SLEAD * 10 * usU : Nat) ≤ d ∧ d ≤ (10000 * msU : Nat) ∧ s.chnOn = true ∧ s.chn.hold = false ∧ 0 < tdiff s.chn.ins (tadd s.now src.sub)) ∧
    (∃ (src : Src) (value : Word) (s : State) (inst : Nat) (d : Int), s.reaches 0x14000 = true ∧ inst = s.g F.CHN_CMDTL_T + 2 ^ 32 * s.g F.CHN_CMDTH_T ∧ d = tdiff inst (tadd s.now src.sub) ∧ bitOf value.toNat 10 = true ∧ (s.g F.CHN_CFG_SLEAD * 10 * usU : Nat) ≤ d ∧ d ≤ (10000 * msU : Nat) ∧ s.chnOn = true ∧ s.chn.hold = false ∧ tdiff s.chn.ins (tadd s.now src.sub) ≤ 0) ∧
    (∃ (s : State), s.reaches 0x14000 = true) ∧
    (∃ (sub : Nat) (s : State) (ts : Nat), s.gb F.CHN_CFG_SYNCN_EN = true ∧ s.released 8 = true ∧ ts = tadd (tadd s.now sub) (s.g F.CHN_CFG_SLEAD * 10 * usU : Nat) ∧ s.chnOn = false) ∧
    (∃ (sub : Nat) (s : State) (ts : Nat), s.gb F.CHN_CFG_SYNCN_EN = true ∧ s.released 8 = true ∧ ts = tadd (tadd s.now sub) (s.g F.CHN_CFG_SLEAD * 10 * usU : Nat) ∧ s.chnOn = true ∧ s.gb F.CHN_CFG_HEAD = true) ∧
    (∃ (sub : Nat) (s : State) (ts : Nat), s.gb F.CHN_CFG_SYNCN_EN = true ∧ s.released 8 = true ∧ ts = tadd (tadd s.now sub) (s.g F.CHN_CFG_SLEAD * 10 * usU : Nat) ∧ s.chnOn = true ∧ s.gb F.CHN_CFG_HEAD = false) ∧
    (∃ (s : State), (s.gb F.CHN_CFG_SYNCN_EN = false ∨ s.released 8 = false)) :=
  ⟨⟨⟨[3, 0] ++ leBytes 2 otherTag ++ (leBytes 8 (2^40 + 1000000) ++ [1, 0, 0, 0]), 6400⟩, (let s : State := run; let s : State := s.w F.CHN_CFG_EN 0 1; s), _, by decide +kernel, by decide +kernel, other_tag _ _ _ _ (by decide +kernel), rfl, by decide +kernel⟩,
    ⟨⟨[3, 0] ++ leBytes 2 otherTag ++ (leBytes 8 (2^40) ++ [1, 0, 0, 0]), 6400⟩, (let s : State := run; let s : State := s.w F.CHN_CFG_EN 0 1; s), _, by decide +kernel, by decide +kernel, other_tag _ _ _ _ (by decide +kernel), rfl, by decide +kernel⟩,
    ⟨⟨[1, 0] ++ leBytes 2 ownTag ++ [3, 0, 4, 0, 0, 0, 5, 0, 0, 0, 0, 0], 6400⟩, (let s : State := run; let s : State := s.w (F.CHN_CFG_EN) (0) 1; s), by decide +kernel, own_tag _ _ _ _ (by decide +kernel)⟩,
    ⟨(let s : State := run; let s : State := { s with chn := { s.chn with cmds := [(2^40, 3, 1)] } }; s), ⟨2^40, 3, 1⟩, by decide +kernel⟩,
    ⟨run, by decide +kernel⟩,
    ⟨⟨.bar0, 0⟩, 1#32, run, _, _, by decide +kernel, rfl, rfl, by decide +kernel⟩,
    ⟨⟨.bar0, 0⟩, 4294967295#32, run, _, _, by decide +kernel, rfl, rfl, by decide +kernel⟩,
    ⟨⟨.bar0, 0⟩, 0x400#32, (let s : State := run; let s : State := s.w F.CHN_CFG_EN 0 1; let s : State := s.w F.CHN_CMDTL_T 0 ((2^40 + 100 * msU) % 2^32); let s : State := s.w F.CHN_CMDTH_T 0 ((2^40 + 100 * msU) / 2^32); let s : State := { s with chn := { s.chn with hold := false, ins := 2^40 + 64 } }; s), _, _, by decide +kernel, rfl, rfl, by decide +kernel⟩,
    ⟨⟨.bar0, 0⟩, 0x400#32, (let s : State := (let s : State := run; let s : State := s.w F.CHN_CMDTL_T 0 ((2^40 + 100 * msU) % 2^32); let s : State := s.w F.CHN_CMDTH_T 0 ((2^40 + 100 * msU) / 2^32); s); let s : State := s.w (F.CHN_CFG_EN) (0) 1; s), _, _, by decide +kernel, rfl, rfl, by decide +kernel⟩,
    ⟨run, by decide +kernel⟩,
    ⟨0, run, _, by decide +kernel, by decide +kernel, rfl, by decide +kernel⟩,
    ⟨0, (let s : State := run; let s : State := s.w (F.CHN_CFG_EN) (0) 1; let s : State := s.w (F.CHN_CFG_HEAD) (0) 1; s), _, by decide +kernel, by decide +kernel, rfl, by decide +kernel⟩,
    ⟨0, (let s : State := run; let s : State := s.w (F.CHN_CFG_EN) (0) 1; s), _, by decide +kernel, by decide +kernel, rfl, by decide +kernel⟩,
    ⟨(let s : State := run; let s : State := s.w (F.CHN_CFG_SYNCN_EN) (0) 0; s), by decide +kernel⟩⟩

theorem witness_TwinRolesAndToken :
    (∃ (s : State), s.mayClaim = true ∧ s.wantsClaim = true ∧ 0 ≤ tdiff s.now s.twn.retry) ∧
    (∃ (s : State), (s.mayClaim = false ∨ s.wantsClaim = false ∨ tdiff s.now s.twn.retry < 0)) ∧
    (∃ (s : State), s.reaches 0x15000 = true ∧ s.mayClaim = true) ∧
    (∃ (s : State), s.mayClaim = false) ∧
    (∃ (s : State), s.twnRun = true ∧ s.standby = true ∧ s.gb F.TWN_CFG_POS = false ∧ s.twn.first = false ∧ (msU : Int) ≤ tdiff s.now s.twn.runAt ∧ s.gb F.TWN_STAT_TKNI = true ∧ s.mayClaim = true) ∧
    (∃ (s : State), s.twnRun = true ∧ s.standby = true ∧ s.gb F.TWN_CFG_POS = false ∧ s.twn.first = false ∧ (msU : Int) ≤ tdiff s.now s.twn.runAt ∧ s.gb F.TWN_STAT_TKNI = false) ∧
    (∃ (s : State), (s.twnRun = false ∨ s.standby = false ∨ s.gb F.TWN_CFG_POS = true ∨ s.twn.first = true ∨ tdiff s.now s.twn.runAt < (msU : Int))) ∧
    (∃ (s : State) (c : Nat × Bool) (T : Nat), s.twn.claim = some c ∧ T = tadd c.1 (3 * usU : Nat) ∧ tdiff T (tadd s.now sampleU) < 0 ∧ s.gb F.TWN_STAT_TKNI = true) ∧
    (∃ (s : State) (c : Nat × Bool) (T : Nat) (lvl : Bool), s.twn.claim = some c ∧ T = tadd c.1 (3 * usU : Nat) ∧ tdiff T (tadd s.now sampleU) < 0 ∧ (lvl = false ∨ s.gb F.TWN_STAT_TKNI = false)) ∧
    (∃ (s : State), s.twn.claim = none) ∧
    (∃ (s : State) (c : Nat × Bool), s.twn.claim = some c ∧ 0 ≤ tdiff (tadd c.1 (3 * usU : Nat)) (tadd s.now sampleU)) ∧
    (∃ (s : State), s.gb F.TWN_STAT_TKNI = true ∧ s.gb F.TWN_STAT_TOKEN = true) ∧
    (∃ (s : State) (tc : Nat), s.gb F.TWN_STAT_TKNI = true ∧ s.gb F.TWN_STAT_TOKEN = false ∧ s.twn.claim = some (tc, true) ∧ 0 < tdiff s.now tc ∧ tdiff s.now tc ≤ usU) ∧
    (∃ (s : State), s.gb F.TWN_STAT_TKNI = false) ∧
    (∃ (s : State), s.reaches 0x15000 = true ∧ s.g F.GLB_STATUS_ROLE = 1) ∧
    (∃ (s : State), s.g F.GLB_STATUS_ROLE ≠ 1) ∧
    (∃ (s : State), s.gb F.TWN_STAT_REL = true ∧ s.twn.fall = none ∧ (10 * msU : Nat) ≤ tdiff s.now s.twn.relAt) ∧
    (∃ (s : State), (s.gb F.TWN_STAT_REL = false ∨ s.twn.fall.isSome = true ∨ tdiff s.now s.twn.relAt < (10 * msU : Nat))) ∧
    (∃ (s : State) (f : Nat), s.twn.failAt = some f ∧ s.gb F.TWN_CFG_STUCKTK = true ∧ s.twnRun = true ∧ s.standby = true ∧ s.wantsClaim = true ∧ (10 * msU : Nat) ≤ tdiff s.now f) ∧
    (∃ (s : State), (s.twn.failAt = none ∨ s.gb F.TWN_CFG_STUCKTK = false ∨ s.standby = false ∨ s.wantsClaim = false)) :=
  ⟨⟨(let s : State := run; let s : State := s.w (F.TWN_CFG_EN) (0) 1; let s : State := s.w (F.GLB_STATUS_ROLE) (0) (2); s), by decide +kernel⟩,
    ⟨run, by decide +kernel⟩,
    ⟨(let s : State := run; let s : State := s.w (F.TWN_CFG_EN) (0) 1; let s : State := s.w (F.GLB_STATUS_ROLE) (0) (2); s), by decide +kernel⟩,
    ⟨run, by decide +kernel⟩,
    ⟨(let s : State := run; let s : State := s.w (F.TWN_CFG_EN) (0) 1; let s : State := s.w (F.GLB_STATUS_ROLE) (0) (2); s), by decide +kernel⟩,
    ⟨(let s : State := run; let s : State := s.w (F.TWN_CFG_EN) (0) 1; let s : State := s.w (F.GLB_STATUS_ROLE) (0) (2); let s : State := s.w (F.TWN_STAT_TKNI) (0) 0; s), by decide +kernel⟩,
    ⟨run, by decide +kernel⟩,
    ⟨(let s : State := run; let s : State := { s with twn := { s.twn with claim := some default } }; s), default, _, by decide +kernel, rfl, by decide +kernel⟩,
    ⟨(let s : State := run; let s : State := { s with twn := { s.twn with claim := some default } }; let s : State := s.w (F.TWN_STAT_TKNI) (0) 0; s), default, _, true, by decide +kernel, rfl, by decide +kernel⟩,
    ⟨run, by decide +kernel⟩,
    ⟨(let s : State := run; let s : State := { s with twn := { s.twn with claim := some (2^40, true) } }; s), (2^40, true), by decide +kernel⟩,
    ⟨(let s : State := run; let s : State := s.w (F.TWN_STAT_TOKEN) (0) 1; s), by decide +kernel⟩,
    ⟨(let s : State := run; let s : State := { s with twn := { s.twn with claim := some (0, true) } }; let s : State := { s with now := tadd (0) (usU) }; s), 0, by decide +kernel⟩,
    ⟨(let s : State := run; let s : State := s.w (F.TWN_STAT_TKNI) (0) 0; s), by decide +kernel⟩,
    ⟨(let s : State := run; let s : State := s.w (F.GLB_STATUS_ROLE) (0) (1); s), by decide +kernel⟩,
    ⟨run, by decide +kernel⟩,
    ⟨(let s : State := run; let s : State := s.w (F.TWN_STAT_REL) (0) 1; s), by decide +kernel⟩,
    ⟨run, by decide +kernel⟩,
    ⟨(let s : State := run; let s : State := { s with twn := { s.twn with failAt := some 0 } }; let s : State := s.w (F.TWN_CFG_STUCKTK) (0) 1; let s : State := s.w (F.TWN_CFG_EN) (0) 1; let s : State := s.w (F.GLB_STATUS_ROLE) (0) (2); s), 0, by decide +kernel⟩,
    ⟨run, by decide +kernel⟩⟩

theorem witness_TwinLinkAndHeartbeat :
    (∃ (s : State), s.gb F.TWN_CFG_EN = true ∧ s.heartGone = true ∧ s.linkAlive = true ∧ s.twn.hbWire = false) ∧
    (∃ (s : State), s.gb F.TWN_CFG_EN = true ∧ s.heartGone = true ∧ s.linkAlive = false ∧ s.twn.hbGone = false) ∧
    (∃ (s : State), (s.gb F.TWN_CFG_EN = false ∨ s.heartGone = false ∨ (if s.linkAlive then s.twn.hbWire else s.twn.hbGone) = true)) ∧
    (∃ (s : State), s.gb F.TWN_CFG_EN = true) ∧
    (∃ (s : State), s.gb F.TWN_CFG_EN = false) ∧
    (∃ (s : State) (h : Nat), s.twn.hbHold = some h ∧ (msU : Int) ≤ tdiff s.now h) ∧
    (∃ (s : State), s.twn.hbHold = none) ∧
    (∃ (s : State) (h : Nat), s.twn.hbHold = some h ∧ tdiff s.now h < (msU : Int)) ∧
    (∃ (s : State), s.twn.gtDue = true ∧ s.holdsToken = true ∧ s.g F.GLB_STATUS_ROLE = 1 ∧ tdiff (tadd s.twn.tk usU) (tadd s.now sampleU) < 0) ∧
    (∃ (s : State), (s.twn.gtDue = false ∨ s.holdsToken = false ∨ s.g F.GLB_STATUS_ROLE ≠ 1)) ∧
    (∃ (s : State), s.twn.emDue = true ∧ s.holdsToken = true ∧ s.g F.GLB_STATUS_ROLE = 1 ∧ (5 * usU : Nat) ≤ tdiff s.now s.twn.tk) ∧
    (∃ (s : State), (s.twn.emDue = false ∨ s.holdsToken = false ∨ s.g F.GLB_STATUS_ROLE ≠ 1)) ∧
    (∃ (s : State) (tb : Nat), s.twn.tb = some tb ∧ tdiff (tadd tb (250 * nsU : Nat)) (tadd s.now sampleU) < 0 ∧ s.twnRun = true ∧ s.bufBad = false) ∧
    (∃ (s : State) (tb : Nat), s.twn.tb = some tb ∧ tdiff (tadd tb (250 * nsU : Nat)) (tadd s.now sampleU) < 0 ∧ s.twnRun = true ∧ s.bufBad = true) ∧
    (∃ (s : State), (s.twn.tb = none ∨ s.twnRun = false)) ∧
    (∃ (b : List Byte) (s : State), s.twnRun = true ∧ b.length = 1108 ∧ crc32c (b.take 1104) = frameNum b 1104 4) ∧
    (∃ (b : List Byte) (s : State), s.twnRun = true ∧ (b.length ≠ 1108 ∨ crc32c (b.take 1104) ≠ frameNum b 1104 4)) ∧
    (∃ (s : State), s.twnRun = false) ∧
    (∃ (s : State), s.gb F.TWN_STAT_LINK = true ∧ (15 * usU : Nat) ≤ tdiff s.now s.twn.linkAt) ∧
    (∃ (s : State), (s.gb F.TWN_STAT_LINK = false ∨ tdiff s.now s.twn.linkAt < (15 * usU : Nat))) :=
  ⟨⟨(let s : State := run; let s : State := s.w (F.TWN_CFG_EN) (0) 1; let s : State := s.w (F.TWN_STAT_LINK) (0) 1; let s : State := { s with twn := { s.twn with phb := true } }; s), by decide +kernel⟩,
    ⟨(let s : State := run; let s : State := s.w (F.TWN_CFG_EN) (0) 1; s), by decide +kernel⟩,
    ⟨run, by decide +kernel⟩,
    ⟨(let s : State := run; let s : State := s.w (F.TWN_CFG_EN) (0) 1; s), by decide +kernel⟩,
    ⟨run, by decide +kernel⟩,
    ⟨(let s : State := run; let s : State := { s with twn := { s.twn with hbHold := some 0 } }; s), 0, by decide +kernel⟩,
    ⟨run, by decide +kernel⟩,
    ⟨(let s : State := run; let s : State := { s with twn := { s.twn with hbHold := some 0 } }; let s : State := { s with now := tadd (0) ((msU) - 1) }; s), 0, by decide +kernel⟩,
    ⟨(let s : State := run; let s : State := s.w F.GLB_STATUS_ROLE 0 1; let s : State := s.w F.TWN_STAT_TOKEN 0 1; let s : State := { s with twn := { s.twn with gtDue := true, emDue := true, tk := 2^40 - 2^24 } }; s), by decide +kernel⟩,
    ⟨run, by decide +kernel⟩,
    ⟨(let s : State := run; let s : State := s.w F.GLB_STATUS_ROLE 0 1; let s : State := s.w F.TWN_STAT_TOKEN 0 1; let s : State := { s with twn := { s.twn with gtDue := true, emDue := true, tk := 2^40 - 2^24 } }; s), by decide +kernel⟩,
    ⟨run, by decide +kernel⟩,
    ⟨(let s : State := (let s : State := run; let s : State := s.w F.TWN_CFG_EN 0 1; s); let s : State := { s with twn := { s.twn with tb := some 0 } }; s), 0, by decide +kernel⟩,
    ⟨(let s : State := run; let s : State := s.w F.TWN_CFG_EN 0 1; let s : State := { s with poison := [0x130000 / 8], twn := { s.twn with tb := some (2^40 - 250 * nsU) } }; s), 2^40 - 250 * nsU, by decide +kernel⟩,
    ⟨run, by decide +kernel⟩,
    ⟨(let b : List Byte := List.replicate 1104 0; b ++ leBytes 4 (crc32c b)), (let s : State := run; let s : State := s.w F.TWN_CFG_EN 0 1; s), by decide +kernel⟩,
    ⟨[], (let s : State := run; let s : State := s.w (F.TWN_CFG_EN) (0) 1; s), by decide +kernel⟩,
    ⟨run, by decide +kernel⟩,
    ⟨(let s : State := run; let s : State := s.w (F.TWN_STAT_LINK) (0) 1; s), by decide +kernel⟩,
    ⟨run, by decide +kernel⟩⟩

theorem witness_ResetsAndTheirPins :
    (∃ (b : Fin 8) (s : State), 2 ≤ b.val ∧ s.rst.warm = false) ∧
    (∃ (b : Fin 8) (s : State), 2 ≤ b.val ∧ s.rst.warm = true) ∧
    (∃ (b : Fin 8), b.val < 2) ∧
    (∃ (s : State), s.rst.warm = true ∧ s.rst.byPin = false ∧ s.rst.byPerst = false ∧ tdiff s.rst.endAt (tadd s.now sampleU) < 0) ∧
    (∃ (s : State), (s.rst.warm = false ∨ s.rst.byPin = true ∨ s.rst.byPerst = true ∨ 0 ≤ tdiff s.rst.endAt (tadd s.now sampleU))) ∧
    (∃ (ns : Nat) (s : State), (s.pinMasked = true ∨ ns ≤ 100)) ∧
    (∃ (ns : Nat) (hon : Bool) (s : State), s.pinMasked = false ∧ 100 < ns ∧ ((ns < 500 ∨ (ns < 2000 ∧ hon = false)))) ∧
    (∃ (ns : Nat) (hon : Bool) (s : State), s.pinMasked = false ∧ ns < 2000000000 ∧ ((2000 ≤ ns ∨ (500 ≤ ns ∧ hon = true)))) ∧
    (∃ (ns : Nat) (s : State), s.pinMasked = false ∧ 2000000000 ≤ ns) ∧
    (∃ (s : State), s.pinMasked = false) ∧
    (∃ (s : State), s.pinMasked = true) ∧
    (∃ (s : State), s.dormant = true ∧ s.g F.RST_STAT_LAST = 8) ∧
    (∃ (s : State), (s.dormant = false ∨ s.g F.RST_STAT_LAST ≠ 8)) ∧
    (∃ (s : State), s.rst.perstN = true ∧ s.rst.perst = true) ∧
    (∃ (s : State), s.rst.perstN = true ∧ s.rst.perst = false ∧ s.rst.warm = false) ∧
    (∃ (s : State), s.rst.perstN = true ∧ s.rst.perst = false ∧ s.rst.warm = true) ∧
    (∃ (s : State), s.rst.perstN = false) :=
  ⟨⟨7, run, by decide +kernel⟩,
    ⟨7, (let s : State := run; let s : State := { s with rst := { s.rst with warm := true } }; s), by decide +kernel⟩,
    ⟨0, by decide +kernel⟩,
    ⟨(let s : State := run; let s : State := { s with rst := { s.rst with warm := true } }; s), by decide +kernel⟩,
    ⟨run, by decide +kernel⟩,
    ⟨0, run, by decide +kernel⟩,
    ⟨255, true, run, by decide +kernel⟩,
    ⟨0x5000, true, run, by decide +kernel⟩,
    ⟨2000000000, run, by decide +kernel⟩,
    ⟨run, by decide +kernel⟩,
    ⟨(let s : State := run; let s : State := s.w (F.GLB_STATUS_MODE) (0) (2); s), by decide +kernel⟩,
    ⟨(let s : State := run; let s : State := s.w (F.GLB_STATUS_MODE) (0) (2); let s : State := s.w (F.RST_STAT_LAST) (0) (8); s), by decide +kernel⟩,
    ⟨run, by decide +kernel⟩,
    ⟨(let s : State := run; let s : State := { s with rst := { s.rst with perst := true } }; s), by decide +kernel⟩,
    ⟨run, by decide +kernel⟩,
    ⟨(let s : State := run; let s : State := { s with rst := { s.rst with warm := true } }; s), by decide +kernel⟩,
    ⟨(let s : State := run; let s : State := { s with rst := { s.rst with perstN := false } }; s), by decide +kernel⟩⟩

theorem witness_StartsNvmAndWatchdogs :
    (∃ (key : BitVec 16) (s : State), s.reaches 0x1000 = true ∧ key ≠ 0xB0D5#16) ∧
    (∃ (s : State), s.reaches 0x1000 = true ∧ s.inRun = true ∧ s.gb F.RST_STAT_CONFIRMED = false) ∧
    (∃ (s : State), s.reaches 0x1000 = true ∧ (s.inRun = false ∨ s.gb F.RST_STAT_CONFIRMED = true)) ∧
    (∃ (s : State), s.reaches 0x1000 = true) ∧
    (∃ (s : State), s.reaches 0x1000 = true ∧ s.dormant = true) ∧
    (∃ (s : State), s.reaches 0x1000 = true ∧ s.dormant = false) ∧
    (∃ (s : State), s.reaches 0x1000 = true ∧ s.rst.wait = false) ∧
    (∃ (s : State), s.reaches 0x1000 = true ∧ s.rst.wait = true ∧ bootOk s.obuf = false) ∧
    (∃ (s : State), s.reaches 0x1000 = true ∧ s.rst.wait = true ∧ bootOk s.obuf = true) ∧
    (∃ (s : State), s.reaches 0x1000 = true ∧ bootHead s.obuf = false) ∧
    (∃ (s : State), s.reaches 0x1000 = true ∧ bootHead s.obuf = true ∧ s.nvq.contains 0 = true) ∧
    (∃ (s : State), s.reaches 0x1000 = true ∧ bootHead s.obuf = true ∧ s.nvq.contains 0 = false) ∧
    (∃ (s : State), s.reaches 0x1000 = true ∧ s.nvq.contains 1 = true) ∧
    (∃ (s : State), s.reaches 0x1000 = true ∧ s.nvq.contains 1 = false) ∧
    (∃ (s : State) (u : Nat), s.rst.confirm = true ∧ s.inRun = true ∧ s.gb F.RST_STAT_CONFIRMED = false ∧ (1000 * msU : Nat) ≤ tdiff s.now s.rst.runAt ∧ s.rst.trackAt = some u ∧ (msU : Int) ≤ tdiff s.now u) ∧
    (∃ (s : State), (s.rst.confirm = false ∨ s.rst.trackAt = none ∨ tdiff s.now s.rst.runAt < (1000 * msU : Nat))) ∧
    (∃ (s : State) (kind : Nat) (q : List Nat) (a : Nat) (len : Nat) (chk : List Byte → Bool) (img : List Byte), s.nvq = kind :: q ∧ ((kind = 0 ∨ kind = 1)) ∧ s.nvTarget kind = some (a, len, chk) ∧ img = (if kind = 0 then s.rst.imgBoot else s.rst.imgSafe) ∧ img.length = len) ∧
    (∃ (s : State) (q : List Nat) (a : Nat) (len : Nat) (chk : List Byte → Bool), s.nvq = 3 :: q ∧ s.nvTarget 3 = some (a, len, chk) ∧ s.snt.image.length = len ∧ s.snt.again = false) ∧
    (∃ (s : State), s.nvq = []) ∧
    (∃ (s : State) (q : List Nat), s.nvq = 2 :: q) ∧
    (∃ (value : BitVec 32) (s : State), s.reaches 0x1000 = true ∧ value = 0x5AC3#32) ∧
    (∃ (value : BitVec 32) (s : State), s.reaches 0x1000 = true ∧ value ≠ 0x5AC3#32) ∧
    (∃ (s : State), s.rst.wdOn = true ∧ s.rst.warm = false ∧ s.dormant = false ∧ (s.g F.RST_WDCFG_TMO * msU : Nat) ≤ tdiff s.now s.rst.wdAt) ∧
    (∃ (s : State), (s.rst.wdOn = false ∨ s.rst.warm = true ∨ s.dormant = true ∨ tdiff s.now s.rst.wdAt < (s.g F.RST_WDCFG_TMO * msU : Nat))) ∧
    (∃ (s : State), s.rst.buOn = true ∧ s.rst.warm = false ∧ s.dormant = false ∧ s.gb F.RST_STAT_CONFIRMED = false ∧ (s.rst.buwd * 100 * msU : Nat) ≤ tdiff s.now s.rst.buAt) ∧
    (∃ (s : State), (s.rst.buOn = false ∨ s.rst.warm = true ∨ s.dormant = true ∨ s.gb F.RST_STAT_CONFIRMED = true ∨ tdiff s.now s.rst.buAt < (s.rst.buwd * 100 * msU : Nat))) :=
  ⟨⟨1#16, run, by decide +kernel⟩,
    ⟨run, by decide +kernel⟩,
    ⟨(let s : State := run; let s : State := s.w (F.GLB_STATUS_MODE) (0) ((1) + 1); s), by decide +kernel⟩,
    ⟨run, by decide +kernel⟩,
    ⟨(let s : State := run; let s : State := s.w (F.GLB_STATUS_MODE) (0) (2); s), by decide +kernel⟩,
    ⟨run, by decide +kernel⟩,
    ⟨run, by decide +kernel⟩,
    ⟨(let s : State := run; let s : State := { s with rst := { s.rst with wait := true } }; s), by decide +kernel⟩,
    ⟨(let s : State := (let s : State := boot; let s : State := s.w F.GLB_STATUS_MODE 0 0; let s : State := { s with rst := { s.rst with wait := true } }; let s : State := (List.range 32).foldl (fun s i => s.w F.RST_OBUF_DATA i (fieldAt ((let b : List Byte := ([0x4F, 0x01, 0, 0] ++ List.replicate 120 0); b ++ leBytes 4 (crc32 b))) (4 * i) 4)) s; s); let s : State := { s with host := { s.host with released := true } }; s), by decide +kernel⟩,
    ⟨run, by decide +kernel⟩,
    ⟨(let s : State := run; let s : State := { s with nvq := [0] }; let s : State := (List.range 32).foldl (fun s i => s.w F.RST_OBUF_DATA i (fieldAt (([0x4F, 0x01, 0, 0] ++ List.replicate 120 0) ++ [0, 0, 0, 0]) (4 * i) 4)) s; s), by decide +kernel⟩,
    ⟨(let s : State := run; let s : State := (List.range 32).foldl (fun s i => s.w F.RST_OBUF_DATA i (fieldAt (([0x4F, 0x01, 0, 0] ++ List.replicate 120 0) ++ [0, 0, 0, 0]) (4 * i) 4)) s; s), by decide +kernel⟩,
    ⟨(let s : State := run; let s : State := { s with nvq := [1] }; s), by decide +kernel⟩,
    ⟨run, by decide +kernel⟩,
    ⟨(let s : State := run; let s : State := { s with rst := { s.rst with confirm := true } }; let s : State := { s with rst := { s.rst with trackAt := some 0 } }; s), 0, by decide +kernel⟩,
    ⟨run, by decide +kernel⟩,
    ⟨{ run with nvq := [0], rst := { run.rst with imgBoot := List.replicate 128 5 } }, 0, [], _, _, _, _, rfl, Or.inl rfl, rfl, rfl, by decide +kernel⟩,
    ⟨{ run with nvq := [3], snt := { run.snt with image := List.replicate 2048 5 } }, [], _, _, _, rfl, rfl, by decide +kernel, by decide +kernel⟩,
    ⟨run, by decide +kernel⟩,
    ⟨(let s : State := run; let s : State := { s with nvq := [2] }; s), [], by decide +kernel⟩,
    ⟨_, run, by decide +kernel, rfl⟩,
    ⟨1#32, run, by decide +kernel⟩,
    ⟨(let s : State := run; let s : State := { s with rst := { s.rst with wdOn := true } }; s), by decide +kernel⟩,
    ⟨run, by decide +kernel⟩,
    ⟨(let s : State := run; let s : State := { s with rst := { s.rst with buOn := true } }; s), by decide +kernel⟩,
    ⟨run, by decide +kernel⟩⟩

theorem witness_BringUpClocksSuppliesAndTap :
    (∃ (s : State), (s.g F.GLB_STATUS_MODE ≠ 0 ∨ s.rst.warm = true ∨ s.stepOver (max 1 (s.g F.RST_STAT_STEP)) = false)) ∧
    (∃ (s : State), s.g F.GLB_STATUS_MODE = 0 ∧ s.rst.warm = false ∧ s.stepOver (max 1 (s.g F.RST_STAT_STEP)) = true ∧ s.g F.RST_STAT_STEP = 1 ∧ s.gb F.RST_STAT_DLATCH = false ∧ s.rst.ovr = none ∧ s.bootCopy 0 = .empty ∧ s.bootCopy 1 = .empty ∧ s.g F.RST_BOOT_SBOOT = 2) ∧
    (∃ (s : State), s.g F.GLB_STATUS_MODE = 0 ∧ s.rst.warm = false ∧ s.stepOver (max 1 (s.g F.RST_STAT_STEP)) = true ∧ s.g F.RST_STAT_STEP = 1 ∧ s.gb F.RST_STAT_DLATCH = false ∧ s.rst.ovr = none ∧ s.bootCopy 0 = .empty ∧ s.bootCopy 1 = .empty ∧ s.g F.RST_BOOT_SBOOT = 3) ∧
    (∃ (s : State), s.g F.GLB_STATUS_MODE = 0 ∧ s.rst.warm = false ∧ s.stepOver (max 1 (s.g F.RST_STAT_STEP)) = true ∧ s.g F.RST_STAT_STEP = 1 ∧ s.gb F.RST_STAT_DLATCH = false ∧ s.rst.ovr = none ∧ s.bootCopy 0 = .empty ∧ s.bootCopy 1 = .empty ∧ s.g F.RST_BOOT_SBOOT = 0) ∧
    (∃ (s : State), s.g F.GLB_STATUS_MODE = 0 ∧ s.rst.warm = false ∧ s.stepOver (max 1 (s.g F.RST_STAT_STEP)) = true ∧ s.g F.RST_STAT_STEP = 2) ∧
    (∃ (s : State), s.g F.GLB_STATUS_MODE = 0 ∧ s.rst.warm = false ∧ s.stepOver (max 1 (s.g F.RST_STAT_STEP)) = true ∧ s.g F.RST_STAT_STEP = 3 ∧ s.gb F.RST_STAT_DLATCH = true) ∧
    (∃ (s : State), s.g F.GLB_STATUS_MODE = 0 ∧ s.rst.warm = false ∧ s.stepOver (max 1 (s.g F.RST_STAT_STEP)) = true ∧ s.g F.RST_STAT_STEP = 3 ∧ s.gb F.RST_STAT_DLATCH = false ∧ s.g F.RST_STAT_BOOTSRC = 1) ∧
    (∃ (s : State), s.g F.GLB_STATUS_MODE = 0 ∧ s.rst.warm = false ∧ s.stepOver (max 1 (s.g F.RST_STAT_STEP)) = true ∧ s.g F.RST_STAT_STEP = 3 ∧ s.gb F.RST_STAT_DLATCH = false ∧ s.g F.RST_STAT_BOOTSRC ≠ 1) ∧
    (∃ (s : State) (k : Nat), s.g F.GLB_STATUS_MODE = 0 ∧ s.rst.warm = false ∧ s.stepOver (max 1 (s.g F.RST_STAT_STEP)) = true ∧ 4 ≤ k ∧ k ≤ 7 ∧ s.g F.RST_STAT_STEP = k) ∧
    (∃ (s : State), s.g F.GLB_STATUS_MODE = 0 ∧ s.rst.warm = false ∧ s.stepOver (max 1 (s.g F.RST_STAT_STEP)) = true ∧ s.g F.RST_STAT_STEP = 8) ∧
    (∃ (s : State), s.g F.RST_STAT_CLKSRC = 2) ∧
    (∃ (s : State), s.g F.RST_STAT_CLKSRC ≠ 2 ∧ s.rst.warm = false) ∧
    (∃ (s : State), s.g F.RST_STAT_CLKSRC ≠ 2 ∧ s.rst.warm = true) ∧
    (∃ (s : State), s.g F.GLB_STATUS_MODE = 0 ∧ s.rst.warm = false ∧ s.g F.RST_STAT_STEP ≤ 1 ∧ s.gb F.RST_STAT_CLKQ = false ∧ s.gb F.RST_STAT_DLATCH = false ∧ (100 * msU : Nat) ≤ tdiff s.now s.rst.relAt) ∧
    (∃ (s : State), (s.g F.GLB_STATUS_MODE ≠ 0 ∨ s.rst.warm = true ∨ s.gb F.RST_STAT_CLKQ = true ∨ s.gb F.RST_STAT_DLATCH = true ∨ tdiff s.now s.rst.relAt < (100 * msU : Nat))) ∧
    (∃ (s : State), s.rst.warm = false ∧ s.rst.lost = false) ∧
    (∃ (s : State), s.rst.warm = false ∧ s.rst.lost = true) ∧
    (∃ (s : State), s.rst.warm = false) ∧
    (∃ (s : State), s.rst.warm = true) ∧
    (∃ (s : State), s.dormant = true ∧ s.gb F.RST_STAT_CLKQ = false) ∧
    (∃ (s : State), (s.dormant = false ∨ s.gb F.RST_STAT_CLKQ = true)) ∧
    (∃ (code : BitVec 4) (s : State), s.tapHolds = false ∧ (code = 0#4 ∨ code = 4#4 ∨ code = 5#4)) ∧
    (∃ (code : BitVec 4) (s : State), s.tapHolds = false ∧ code ≠ 0#4 ∧ code ≠ 4#4 ∧ code ≠ 5#4) ∧
    (∃ (code : BitVec 4) (s : State), s.tapHolds = true ∧ code ≠ 0#4 ∧ code ≠ 4#4 ∧ code ≠ 5#4) :=
  ⟨⟨run, by decide +kernel⟩,
    ⟨(let s : State := boot; let s : State := s.w F.GLB_STATUS_MODE 0 0; let s : State := s.w F.RST_STAT_STEP 0 1; let s : State := s.w F.RST_STAT_CLKQ 0 1; let s : State := s.w F.RST_BOOT_SBOOT 0 2; s), by decide +kernel⟩,
    ⟨(let s : State := boot; let s : State := s.w F.GLB_STATUS_MODE 0 0; let s : State := s.w F.RST_STAT_STEP 0 1; let s : State := s.w F.RST_STAT_CLKQ 0 1; let s : State := s.w F.RST_BOOT_SBOOT 0 3; s), by decide +kernel⟩,
    ⟨(let s : State := boot; let s : State := s.w F.GLB_STATUS_MODE 0 0; let s : State := s.w F.RST_STAT_STEP 0 1; let s : State := s.w F.RST_STAT_CLKQ 0 1; let s : State := s.w F.RST_BOOT_SBOOT 0 0; s), by decide +kernel⟩,
    ⟨(let s : State := run; let s : State := s.w (F.GLB_STATUS_MODE) (0) (0); let s : State := s.w (F.RST_STAT_STEP) (0) (2); s), by decide +kernel⟩,
    ⟨(let s : State := run; let s : State := s.w (F.GLB_STATUS_MODE) (0) (0); let s : State := s.w (F.RST_STAT_STEP) (0) (3); let s : State := s.w (F.RST_STAT_DLATCH) (0) 1; s), by decide +kernel⟩,
    ⟨(let s : State := run; let s : State := s.w (F.GLB_STATUS_MODE) (0) (0); let s : State := s.w (F.RST_STAT_STEP) (0) (3); let s : State := s.w (F.RST_STAT_BOOTSRC) (0) (1); s), by decide +kernel⟩,
    ⟨(let s : State := run; let s : State := s.w (F.GLB_STATUS_MODE) (0) (0); let s : State := s.w (F.RST_STAT_STEP) (0) (3); s), by decide +kernel⟩,
    ⟨(let s : State := run; let s : State := s.w (F.GLB_STATUS_MODE) (0) (0); let s : State := s.w (F.RST_STAT_STEP) (0) (7); s), _, by decide +kernel, by decide +kernel, by decide +kernel, by decide +kernel, by decide +kernel, rfl⟩,
    ⟨(let s : State := run; let s : State := s.w (F.GLB_STATUS_MODE) (0) (0); let s : State := s.w (F.RST_STAT_STEP) (0) (8); s), by decide +kernel⟩,
    ⟨(let s : State := run; let s : State := s.w (F.RST_STAT_CLKSRC) (0) (2); s), by decide +kernel⟩,
    ⟨run, by decide +kernel⟩,
    ⟨(let s : State := run; let s : State := { s with rst := { s.rst with warm := true } }; s), by decide +kernel⟩,
    ⟨(let s : State := run; let s : State := s.w (F.GLB_STATUS_MODE) (0) (0); let s : State := s.w (F.RST_STAT_STEP) (0) (1); s), by decide +kernel⟩,
    ⟨run, by decide +kernel⟩,
    ⟨run, by decide +kernel⟩,
    ⟨(let s : State := run; let s : State := { s with rst := { s.rst with lost := true } }; s), by decide +kernel⟩,
    ⟨run, by decide +kernel⟩,
    ⟨(let s : State := run; let s : State := { s with rst := { s.rst with warm := true } }; s), by decide +kernel⟩,
    ⟨(let s : State := run; let s : State := s.w (F.GLB_STATUS_MODE) (0) (2); s), by decide +kernel⟩,
    ⟨run, by decide +kernel⟩,
    ⟨0#4, run, by decide +kernel⟩,
    ⟨1#4, run, by decide +kernel⟩,
    ⟨1#4, (let s : State := run; let s : State := { s with tap := { s.tap with ir := 0#4 } }; s), by decide +kernel⟩⟩

theorem witness_SwapsOfSlicesEnginesAndLegs :
    (∃ (value : Word) (s : State), s.reaches 0x16000 = true ∧ (bitOf value.toNat 31 = false ∨ value.toNat % 4 = 3)) ∧
    (∃ (value : Word) (s : State) (w : Swap), s.reaches 0x16000 = true ∧ bitOf value.toNat 31 = true ∧ value.toNat % 4 < 3 ∧ w = { kind := value.toNat % 4, tgt := bitsOf value.toNat 8 6, leg := bitsOf value.toNat 16 2 } ∧ (s.snt.q.any w.same = true ∨ 4 ≤ s.snt.q.length ∨ (∃ x, s.snt.run = some x ∧ w.same x.sw = true))) ∧
    (∃ (value : Word) (s : State) (w : Swap), s.reaches 0x16000 = true ∧ bitOf value.toNat 31 = true ∧ value.toNat % 4 < 3 ∧ w = { kind := value.toNat % 4, tgt := bitsOf value.toNat 8 6, leg := bitsOf value.toNat 16 2 } ∧ s.snt.run = none ∧ s.snt.q = [] ∧ w.kind < 2 ∧ s.nextSpare w.kind = none) ∧
    (∃ (value : Word) (s : State) (w : Swap), s.reaches 0x16000 = true ∧ bitOf value.toNat 31 = true ∧ value.toNat % 4 < 3 ∧ w = { kind := value.toNat % 4, tgt := bitsOf value.toNat 8 6, leg := bitsOf value.toNat 16 2 } ∧ s.snt.run = none ∧ s.snt.q = [] ∧ ((w.kind = 2 ∨ (s.nextSpare w.kind).isSome = true)) ∧ (s.swapTarget w = false ∨ s.inRun = false)) ∧
    (∃ (value : Word) (s : State) (w : Swap) (i : Nat), s.reaches 0x16000 = true ∧ bitOf value.toNat 31 = true ∧ value.toNat % 4 < 3 ∧ w = { kind := value.toNat % 4, tgt := bitsOf value.toNat 8 6, leg := bitsOf value.toNat 16 2 } ∧ s.snt.run = none ∧ s.snt.q = [] ∧ w.kind < 2 ∧ s.nextSpare w.kind = some i ∧ s.swapTarget w = true ∧ s.inRun = true) ∧
    (∃ (value : Word) (s : State) (w : Swap), s.reaches 0x16000 = true ∧ bitOf value.toNat 31 = true ∧ value.toNat % 4 < 3 ∧ w = { kind := value.toNat % 4, tgt := bitsOf value.toNat 8 6, leg := bitsOf value.toNat 16 2 } ∧ s.snt.run = none ∧ s.snt.q = [] ∧ w.kind = 2 ∧ s.swapTarget w = true ∧ s.inRun = true) ∧
    (∃ (value : Word) (s : State) (w : Swap) (r : SwapRun), s.reaches 0x16000 = true ∧ bitOf value.toNat 31 = true ∧ value.toNat % 4 < 3 ∧ w = { kind := value.toNat % 4, tgt := bitsOf value.toNat 8 6, leg := bitsOf value.toNat 16 2 } ∧ s.snt.run = some r ∧ w.same r.sw = false ∧ s.snt.q.any w.same = false ∧ s.snt.q.length < 4 ∧ ((w.kind = 2 ∨ (s.nextSpare w.kind).isSome = true)) ∧ s.swapTarget w = true ∧ s.inRun = true) ∧
    (∃ (s : State), s.snt.run = none) ∧
    (∃ (s : State) (r : SwapRun), s.snt.run = some r ∧ r.sw.kind = 0 ∧ ((r.spare = 32 ∨ r.spare = 33)) ∧ r.phase = 0 ∧ 5000 ≤ s.swpAcc.n) ∧
    (∃ (s : State) (r : SwapRun), s.snt.run = some r ∧ r.sw.kind = 0 ∧ ((r.spare = 32 ∨ r.spare = 33)) ∧ r.phase = 1 ∧ 5000 ≤ s.swpAcc.n) ∧
    (∃ (par : Bool) (s : State) (r : SwapRun), s.snt.run = some r ∧ (r.sw.kind ≠ 0 ∨ r.phase ≠ b2n par ∨ s.swpAcc.n < 5000)) ∧
    (∃ (s : State) (r : SwapRun) (i : Nat), s.snt.run = some r ∧ r.sw.kind = 0 ∧ r.phase = 2 ∧ r.spare = 32 + i ∧ i < 2 ∧ r.sw.tgt < 36 ∧ s.snt.q = []) ∧
    (∃ (s : State) (r : SwapRun), s.snt.run = some r ∧ (r.sw.kind ≠ 0 ∨ r.phase ≠ 2)) ∧
    (∃ (s : State) (r : SwapRun), s.snt.run = some r ∧ r.sw.kind = 1 ∧ r.sw.tgt < 16 ∧ r.phase = 0 ∧ s.gb F.GLB_CSTAT_BUSY = false ∧ s.bDone = true) ∧
    (∃ (s : State) (r : SwapRun) (i : Nat), s.snt.run = some r ∧ r.sw.kind = 1 ∧ r.sw.tgt < 16 ∧ r.phase = 1 ∧ r.at' + (if r.sw.hard then 1 else 25) ≤ s.k ∧ s.bDone = true ∧ r.spare = 16 + i ∧ i < 2 ∧ s.engine r.sw.tgt < 16 ∧ s.snt.q = []) ∧
    (∃ (s : State) (r : SwapRun), s.snt.run = some r ∧ (r.sw.kind ≠ 1 ∨ s.bDone = false ∨ (r.phase = 0 ∧ s.gb F.GLB_CSTAT_BUSY = true) ∨ (r.phase ≠ 0 ∧ s.k < r.at' + (if r.sw.hard then 1 else 25)))) ∧
    (∃ (m : Fin 18) (s : State) (n : Nat), s.portOf m = some n ∧ 3 ≤ (s.obs! m).misRun ∧ (s.obs! m).dead = false ∧ s.gb F.INT_CFG_AUTO_ENG = false) ∧
    (∃ (m : Fin 18) (s : State) (n : Nat) (i : Nat), s.portOf m = some n ∧ 3 ≤ (s.obs! m).misRun ∧ (s.obs! m).dead = false ∧ s.gb F.INT_CFG_AUTO_ENG = true ∧ s.inRun = true ∧ s.snt.run = none ∧ s.snt.q = [] ∧ s.nextSpare 1 = some i) ∧
    (∃ (m : Fin 18) (s : State), (s.portOf m = none ∨ (((s.obs! m).misRun < 3 ∨ (s.obs! m).dead = true) ∧ (s.obs! m).misCnt < 4))) :=
  ⟨⟨1#32, run, by decide +kernel⟩,
    ⟨2147483648#32, (let s : State := run; let s : State := { s with snt := { s.snt with q := [default] } }; s), _, by decide +kernel, by decide +kernel, by decide +kernel, rfl, by decide +kernel⟩,
    ⟨0x80000000#32, (let s : State := run; let s : State := s.w F.INT_SLMAP_MAP 0 0; s), _, by decide +kernel, by decide +kernel, by decide +kernel, rfl, by decide +kernel⟩,
    ⟨0x80001001#32, run, _, by decide +kernel, by decide +kernel, by decide +kernel, rfl, by decide +kernel⟩,
    ⟨2147483648#32, run, _, 0, by decide +kernel, by decide +kernel, by decide +kernel, rfl, by decide +kernel⟩,
    ⟨0x80030F02#32, run, _, by decide +kernel, by decide +kernel, by decide +kernel, rfl, by decide +kernel⟩,
    ⟨0x80030F02#32, (let s : State := run; let s : State := { s with snt := { s.snt with run := some { sw := { kind := 0, tgt := 3 }, spare := 33 } } }; s), _, { sw := { kind := 0, tgt := 3 }, spare := 33 }, by decide +kernel, by decide +kernel, by decide +kernel, rfl, by decide +kernel⟩,
    ⟨run, by decide +kernel⟩,
    ⟨(let s : State := run; let s : State := { s with snt := { s.snt with run := some { sw := { kind := 0, tgt := 3 }, spare := 33, phase := 0, at' := 0 } } }; let s : State := { s with swpAcc := { n := 5000 } }; s), { sw := { kind := 0, tgt := 3 }, spare := 33, phase := 0, at' := 0 }, by decide +kernel⟩,
    ⟨(let s : State := run; let s : State := { s with snt := { s.snt with run := some { sw := { kind := 0, tgt := 3 }, spare := 33, phase := 1, at' := 0 } } }; let s : State := { s with swpAcc := { n := 5000 } }; s), { sw := { kind := 0, tgt := 3 }, spare := 33, phase := 1, at' := 0 }, by decide +kernel⟩,
    ⟨true, (let s : State := run; let s : State := { s with snt := { s.snt with run := some { sw := { kind := 0, tgt := 3 }, spare := 33, phase := 2, at' := 0 } } }; let s : State := { s with swpAcc := { n := 5000 } }; s), { sw := { kind := 0, tgt := 3 }, spare := 33, phase := 2, at' := 0 }, by decide +kernel⟩,
    ⟨(let s : State := run; let s : State := { s with snt := { s.snt with run := some { sw := { kind := 0, tgt := 3 }, spare := 33, phase := 2, at' := 0 } } }; let s : State := { s with swpAcc := { n := 5000 } }; s), { sw := { kind := 0, tgt := 3 }, spare := 33, phase := 2, at' := 0 }, 1, by decide +kernel⟩,
    ⟨(let s : State := run; let s : State := { s with snt := { s.snt with run := some { } } }; s), {}, by decide +kernel⟩,
    ⟨(let s : State := run; let s : State := { s with snt := { s.snt with run := some { sw := { kind := 1, tgt := 15 }, spare := 17, phase := 0, at' := 0 } } }; let s : State := { s with bDone := true }; s), { sw := { kind := 1, tgt := 15 }, spare := 17, phase := 0, at' := 0 }, by decide +kernel⟩,
    ⟨(let s : State := run; let s : State := { s with snt := { s.snt with run := some { sw := { kind := 1, tgt := 15 }, spare := 17, phase := 1, at' := 0 } } }; let s : State := { s with bDone := true }; s), { sw := { kind := 1, tgt := 15 }, spare := 17, phase := 1, at' := 0 }, 1, by decide +kernel⟩,
    ⟨(let s : State := run; let s : State := { s with snt := { s.snt with run := some { } } }; s), {}, by decide +kernel⟩,
    ⟨0, (let s : State := run; let s : State := s.updObs (0) fun d => { d with misRun := 3 }; let s : State := s.w (F.INT_CFG_AUTO_ENG) (0) 0; s), 0, by decide +kernel⟩,
    ⟨0, (let s : State := run; let s : State := s.updObs (0) fun d => { d with misRun := 3 }; s), 0, 0, by decide +kernel⟩,
    ⟨0, run, by decide +kernel⟩⟩

theorem witness_MemoryRepairMapAndAging :
    (∃ (d : List Byte), d.length = 8) ∧
    (∃ (d : List Byte) (i : Nat) (e : Byte), d.length = 8 ∧ i < 11 ∧ e ≠ 0#8) ∧
    (∃ (s : State), s.poison = []) ∧
    (∃ (h : EccHit) (s : State), s.poison = [] ∧ s.eccRead h.word h.err = .bad ∧ 0x25000 ≤ h.word ∧ h.word < 0x26000) ∧
    (∃ (h : EccHit) (s : State) (w : List Byte) (s' : Nat), s' < 11 ∧ s.poison = [] ∧ s.eccRead h.word h.err = .fixed s' w ∧ h.word < 0x30000 ∧ (s.snt.hist.any fun x => decide (x.1 = h.word) && decide (x.2.1 = s')) = false) ∧
    (∃ (a : Nat), (hasAcc a .rw = true ∨ hasAcc a .rwk = true)) ∧
    (∃ (a : Nat), hasAcc a .rw = false ∧ hasAcc a .rwk = false) ∧
    (∃ (value : Word) (s : State) (b : Nat) (r : Nat), s.reaches 0x16000 = true ∧ b = value.toNat % 2 ^ 18 / 16384 ∧ r = value.toNat % 16384 / 32 ∧ bitOf value.toNat 31 = true ∧ b < 12 ∧ s.snt.rows.contains (b, r) = false ∧ s.gb F.INT_ROWB_FULL b = false) ∧
    (∃ (value : Word) (s : State) (b : Nat) (r : Nat), s.reaches 0x16000 = true ∧ b = value.toNat % 2 ^ 18 / 16384 ∧ r = value.toNat % 16384 / 32 ∧ (bitOf value.toNat 31 = false ∨ 12 ≤ b ∨ s.snt.rows.contains (b, r) = true ∨ s.gb F.INT_ROWB_FULL b = true)) ∧
    (∃ (s : State), s.reaches 0x16000 = true ∧ s.nvq.contains 3 = true) ∧
    (∃ (s : State), s.reaches 0x16000 = true ∧ s.nvq = [] ∧ s.snt.image = []) ∧
    (∃ (s : State), s.reaches 0x16000 = true ∧ s.nvq ≠ [] ∧ s.nvq.contains 3 = false) ∧
    (∃ (s : State), (86400000 * msU : Nat) ≤ tdiff s.now s.snt.dayAt ∧ s.nvq.contains 3 = false) ∧
    (∃ (s : State), tdiff s.now s.snt.dayAt < (86400000 * msU : Nat)) ∧
    (∃ (s : State) (k : Nat), k = tjBand (s.gi F.INT_TJ_VAL)) :=
  ⟨⟨[1, 2, 3, 4, 5, 6, 7, 8], by decide +kernel⟩,
    ⟨[1, 2, 3, 4, 5, 6, 7, 8], 10, 0x55#8, by decide +kernel⟩,
    ⟨run, by decide +kernel⟩,
    ⟨⟨0x25000, 0x0101#88⟩, run, by decide +kernel⟩,
    ⟨⟨0x100, 0x010000#88⟩, run, List.replicate 11 0, 2, by decide +kernel⟩,
    ⟨0x5000, by decide +kernel⟩,
    ⟨0, by decide +kernel⟩,
    ⟨2147483648#32, run, _, _, by decide +kernel, rfl, rfl, by decide +kernel⟩,
    ⟨1#32, run, _, _, by decide +kernel, rfl, rfl, by decide +kernel⟩,
    ⟨(let s : State := run; let s : State := { s with nvq := [3] }; s), by decide +kernel⟩,
    ⟨run, by decide +kernel⟩,
    ⟨(let s : State := run; let s : State := { s with nvq := [default] }; s), by decide +kernel⟩,
    ⟨(let s : State := run; let s : State := { s with snt := { s.snt with dayAt := tadd (s.now) (-((86400000 * msU))) } }; s), by decide +kernel⟩,
    ⟨run, by decide +kernel⟩,
    ⟨run, _, rfl⟩⟩

theorem witness_AshRecordStates :
    (∃ (s : State), (s.gb F.INT_CFG_ASH_EN = false ∨ (s.g F.INT_ASHTCNT_STATE ≠ 1 ∧ s.g F.INT_ASHTCNT_STATE ≠ 2) ∨ 0 ≤ tdiff (s.gridAt (s.g F.INT_ASHCFG_ASH_PER * 10 * usU)) (tadd s.now sampleU) ∨ s.snt.decAt = s.gridAt (s.g F.INT_ASHCFG_ASH_PER * 10 * usU) + 1)) ∧
    (∃ (s : State) (p : Nat), p = s.gridAt (s.g F.INT_ASHCFG_ASH_PER * 10 * usU) ∧ s.gb F.INT_CFG_ASH_EN = true ∧ ((s.g F.INT_ASHTCNT_STATE = 1 ∨ s.g F.INT_ASHTCNT_STATE = 2)) ∧ tdiff p (tadd s.now sampleU) < 0 ∧ s.snt.decAt ≠ p + 1) ∧
    (∃ (s : State), s.ashOpen = true ∧ s.g F.INT_ASHTCNT_STATE = 1 ∧ s.g F.INT_ASHSTAT_WPTR < 32767) ∧
    (∃ (s : State) (bs : List Byte) (a : Nat), s.ashOpen = true ∧ s.g F.INT_ASHTCNT_STATE = 1 ∧ s.g F.INT_ASHSTAT_WPTR < 32767 ∧ (a < 32 * s.g F.INT_ASHSTAT_WPTR ∨ 32 * s.g F.INT_ASHSTAT_WPTR + 32 ≤ a) ∧ (padTo 30 bs).length = 30) ∧
    (∃ (cause : Fin 8) (s : State), s.ashDue.testBit cause = true ∧ cause.val ≠ 0 ∧ s.g F.INT_ASHTCNT_STATE = 1) ∧
    (∃ (cause : Fin 8) (s : State), s.ashDue.testBit cause = true ∧ cause.val ≠ 0 ∧ (s.g F.INT_ASHTCNT_STATE = 2 ∨ s.g F.INT_ASHTCNT_STATE = 3)) ∧
    (∃ (cause : Fin 8) (s : State), (s.ashDue.testBit cause = false ∨ cause.val = 0)) ∧
    (∃ (s : State), s.reaches 0x16000 = true ∧ s.g F.INT_ASHTCNT_STATE = 3) ∧
    (∃ (s : State), s.reaches 0x16000 = true ∧ s.g F.INT_ASHTCNT_STATE ≠ 3) ∧
    (∃ (s : State), s.reaches 0x16000 = true ∧ s.g F.INT_ASHTCNT_STATE = 1) ∧
    (∃ (s : State), s.reaches 0x16000 = true ∧ (s.g F.INT_ASHTCNT_STATE = 2 ∨ s.g F.INT_ASHTCNT_STATE = 3)) ∧
    (∃ (s : State), s.reaches 0x16000 = true ∧ s.g F.INT_ASHTCNT_STATE = 0) :=
  ⟨⟨run, by decide +kernel⟩,
    ⟨(let s : State := run; let s : State := { s with now := 2000 * usU * 10 * 1000, t := 2000 * usU * 10 * 1000 }; let s : State := s.w F.INT_ASHTCNT_STATE 0 1; let s : State := { s with snt := { s.snt with decAt := 0 } }; s), _, rfl, by decide +kernel⟩,
    ⟨(let s : State := run; let s : State := s.w (F.INT_ASHTCNT_STATE) (0) (1); s), by decide +kernel⟩,
    ⟨(let s : State := run; let s : State := s.w (F.INT_ASHTCNT_STATE) (0) (1); s), [], 100, by decide +kernel⟩,
    ⟨3, (let s : State := run; let s : State := s.w F.INT_ASHTCNT_STATE 0 1; let s : State := { s with ashDue := 8 }; s), by decide +kernel⟩,
    ⟨3, (let s : State := run; let s : State := s.w F.INT_ASHTCNT_STATE 0 2; let s : State := { s with ashDue := 8 }; s), by decide +kernel⟩,
    ⟨0, run, by decide +kernel⟩,
    ⟨(let s : State := run; let s : State := s.w (F.INT_ASHTCNT_STATE) (0) (3); s), by decide +kernel⟩,
    ⟨run, by decide +kernel⟩,
    ⟨(let s : State := run; let s : State := s.w (F.INT_ASHTCNT_STATE) (0) (1); s), by decide +kernel⟩,
    ⟨(let s : State := run; let s : State := s.w (F.INT_ASHTCNT_STATE) (0) (2); s), by decide +kernel⟩,
    ⟨run, by decide +kernel⟩⟩

end Sys2Proof.Tests
end

section
/-! PROOFS. A port restart leaves the staged writes (R44): one lemma per operation on its way. -/

namespace Sys2Proof.Laws
open Sys2Proof.Machine

/-! ### Shared operations -/

@[simp] theorem staged_wb (s : State) (f : Fld) (n : Nat) (b : Bool) : (s.wb f n b).staged = s.staged := rfl

@[simp] theorem staged_bump (s : State) (f : Fld) (n : Nat) : (s.bump f n).staged = s.staged := by
  unfold State.bump
  split <;> rfl

/-- A branch keeps the set where both arms do. -/
theorem staged_ite {p : Prop} [Decidable p] {a b : State} {l : List StagedItem} (ha : a.staged = l) (hb : b.staged = l) :
    (if p then a else b).staged = l := by
  split
  · exact ha
  · exact hb

/-! ### The driver and the ranges -/

@[simp] theorem staged_showArm (s : State) (n : Nat) : (s.showArm n).staged = s.staged := by
  unfold State.showArm
  exact staged_ite rfl rfl

@[simp] theorem staged_setDrv (s : State) (n c : Nat) : (s.setDrv n c).staged = s.staged := staged_showArm _ n

@[simp] theorem staged_setLocked (s : State) (n : Nat) (b : Bool) : (s.setLocked n b).staged = s.staged := staged_showArm _ n

@[simp] theorem staged_showPend (s : State) (n : Nat) : (s.showPend n).staged = s.staged := rfl

@[simp] theorem staged_showInc (s : State) (n : Nat) : (s.showInc n).staged = s.staged := rfl

@[simp] theorem staged_putFreq (s : State) (n f : Nat) : (s.putFreq n f).staged = s.staged := rfl

@[simp] theorem staged_showPhase (s : State) (n : Nat) : (s.showPhase n).staged = s.staged := rfl

@[simp] theorem staged_driverOff (s : State) (n : Nat) : (s.driverOff n).staged = s.staged := by
  simp [State.driverOff]

@[simp] theorem staged_faultDrv (s : State) (n : Nat) : (s.faultDrv n).staged = s.staged := by
  simp [State.faultDrv]

@[simp] theorem staged_enterSense (s : State) (n : Nat) : (s.enterSense n).staged = s.staged := by
  unfold State.enterSense
  exact staged_ite (by simp) rfl

@[simp] theorem staged_enterSoft (s : State) (n : Nat) (off : Bool) : (s.enterSoft n off).staged = s.staged := by
  unfold State.enterSoft
  refine staged_ite (staged_faultDrv s n) ?_
  simp only [staged_showPend, staged_wb, State.w_staged, staged_showPhase, staged_setDrv, State.updExc_staged]
  split <;> rfl

@[simp] theorem staged_checkOff (s : State) (n : Nat) : (s.checkOff n).staged = s.staged := by
  unfold State.checkOff
  exact staged_ite (staged_enterSoft s n true) rfl

@[simp] theorem staged_excRestart (s : State) (n : Nat) (mode : Bool) : (s.excRestart n mode).staged = s.staged := by
  unfold State.excRestart
  extract_lets s1 s2 ofs run s3 s4
  have h1 : s1.staged = s.staged := State.updExc_staged s n _
  have h2 : s2.staged = s.staged := (staged_driverOff s1 n).trans h1
  have h3 : s3.staged = s.staged := (State.updExc_staged s2 n _).trans h2
  have h4 : s4.staged = s.staged :=
    (staged_setLocked (s3.showInc n) n false).trans ((staged_showInc s3 n).trans h3)
  clear_value s4
  exact staged_ite ((staged_enterSense s4 n).trans h4) ((staged_checkOff s4 n).trans h4)

@[simp] theorem staged_putPend (s : State) (n : Nat) (i : Input) (v : Option (Nat × Nat)) :
    (s.putPend n i v).staged = s.staged := rfl

@[simp] theorem staged_forceRange (s : State) (n : Nat) (i : Input) (r : Nat) : (s.forceRange n i r).staged = s.staged := rfl

@[simp] theorem staged_restartRanges (s : State) (n : Nat) : (s.restartRanges n).staged = s.staged := by
  unfold State.restartRanges
  exact staged_ite (staged_ite rfl rfl) rfl

@[simp] theorem staged_farOff (s : State) (n : Nat) : (s.farOff n).staged = s.staged := by
  unfold State.farOff
  exact staged_ite rfl rfl

@[simp] theorem staged_showBias (s : State) (n : Nat) : (s.showBias n).staged = s.staged := rfl

/-! ### The acquisition chain -/

@[simp] theorem staged_fadeEnd (s : State) (n : Nat) : (s.fadeEnd n).staged = s.staged := by
  unfold State.fadeEnd
  refine staged_ite rfl (staged_ite ?_ ?_) <;> simp

@[simp] theorem staged_takeBank (s : State) (n : Nat) : (s.takeBank n).staged = s.staged := rfl

@[simp] theorem staged_decRestart (s : State) (n : Nat) (sync : Bool) : (s.decRestart n sync).staged = s.staged := by
  unfold State.decRestart
  refine staged_ite rfl ?_
  simp

@[simp] theorem staged_acqRestart (s : State) (n : Nat) : (s.acqRestart n).staged = s.staged := by
  unfold State.acqRestart
  refine staged_ite ?_ ?_ <;> simp

/-! ### The tracking engine -/

@[simp] theorem staged_obsStick (s : State) (m : Nat) (f : Fld) : (s.obsStick m f).staged = s.staged := by
  unfold State.obsStick
  split
  · exact stickEv_staged s f m _
  · rfl

@[simp] theorem staged_setOst (s : State) (m c : Nat) : (s.setOst m c).staged = s.staged := rfl

@[simp] theorem staged_newOrigin (s : State) (m : Nat) : (s.newOrigin m).staged = s.staged := rfl

@[simp] theorem staged_gainUpdate (s : State) (m : Nat) (recheck : Bool) (limit : Nat) :
    (s.gainUpdate m recheck limit).staged = s.staged := by
  unfold State.gainUpdate
  extract_lets z k1 k2 k3 bw bw' u o beyond
  have hu : u.staged = s.staged := by
    refine staged_ite (staged_ite (staged_ite rfl (staged_obsStick s m _)) rfl) ?_
    split
    rfl
  clear_value u
  split
  exact staged_ite ((staged_obsStick _ m _).trans hu) hu

@[simp] theorem staged_obsRestart (s : State) (n : Nat) : (s.obsRestart n).staged = s.staged := by
  unfold State.obsRestart
  refine staged_ite rfl (staged_ite ?_ rfl)
  simp

/-! ### Digital feedback and learning -/

@[simp] theorem staged_showHall (s : State) (n p : Nat) : (s.showHall n p).staged = s.staged := by
  unfold State.showHall
  exact staged_ite rfl rfl

@[simp] theorem staged_dfbRestart (s : State) (n : Nat) : (s.dfbRestart n).staged = s.staged := by
  unfold State.dfbRestart
  extract_lets s1 s2 s3 s4 s5
  have h4 : s4.staged = s.staged := staged_ite (staged_showHall s3 n 0) rfl
  clear_value s4
  exact staged_ite h4 h4

@[simp] theorem staged_lrnDiscard (s : State) (n : Nat) : (s.lrnDiscard n).staged = s.staged := by
  unfold State.lrnDiscard
  refine staged_ite ?_ rfl
  simp

/-- A restart that does not enter RESOLVER mode loads no record. -/
theorem staged_lrnRestart (s : State) (n : Nat) : (s.lrnRestart n false).staged = s.staged := by
  simp [State.lrnRestart]

/-! ### The port restart -/

theorem staged_portRestart (s : State) (n : Nat) (mode : Bool) : (s.portRestart n mode false).staged = s.staged := by
  unfold State.portRestart
  extract_lets s1 s2
  have h1 : s1.staged = s.staged := by simp [s1]
  have h2 : s2.staged = s.staged := staged_ite (by simp [h1]) h1
  rw [staged_showBias, staged_farOff]
  exact staged_ite ((staged_lrnRestart s2 n).trans h2) h2

end Sys2Proof.Laws
end

section
/-! PROOFS. What a warm reset, a cold reset and a Link reset leave of the device (R44, R454, R456). -/

namespace Sys2Proof.Laws
open Sys2Proof.Machine

/-! ### Register fields at their reset values -/

/-- A key whose entries a filter takes out reads as unwritten. -/
theorem SMap_get_filter_out {β : Type} (d : β) (m : List (Nat × β)) {p : Nat × β → Bool} {k : Nat}
    (h : ∀ v, p (k, v) = false) : SMap.get d (m.filter p) k = d := by
  induction m with
  | nil => rfl
  | cons q m ih =>
    obtain ⟨j, v⟩ := q
    by_cases hj : j = k
    · subst hj; simp [h, ih]
    · cases hp : p (j, v) <;> simp [hp, SMap.get, hj, ih]

/-- A field that nothing has written since a reset shows its reset value. -/
theorem g_of_unwritten {s : State} {f : Fld} {n : Nat} (h : SMap.get 0 s.fields (f.key n) = 0) :
    s.g f n = f.rst n % 2 ^ f.width := by
  unfold State.g
  rw [h, Nat.zero_xor]

/-- Whether a warm reset keeps a field does not depend on the port or engine it belongs to. -/
theorem keptField_key (f : Fld) (n : Nat) : keptField (f.key n) = keptField (f.key 0) := by
  have hbase : keyBase (f.key n) = keyBase (f.key 0) := by unfold keyBase Fld.key; omega
  have hlo : f.key n % 32 = f.key 0 % 32 := by unfold Fld.key; omega
  simp only [keptField, hbase, hlo]

/-- The always-on domain and the live state of Sinter hold no field of the host interface. -/
theorem keptField_hostPage {k : Nat} (h : keyPage k = 2) : keptField k = false := by
  have hlo : 0x2000 ≤ keyBase k := by unfold keyBase; unfold keyPage at h; omega
  have hhi : keyBase k < 0x3000 := by unfold keyBase; unfold keyPage at h; omega
  unfold keptField
  simp only [Bool.or_eq_false_iff, Bool.and_eq_false_iff, decide_eq_false_iff_not]
  omega

/-! ### The warm reset -/

/-- From `s` to `t` nothing but register fields changed. -/
def FieldsOnly (s t : State) : Prop := ∃ l, t = { s with fields := l }

theorem FieldsOnly.refl (s : State) : FieldsOnly s s := ⟨s.fields, rfl⟩

theorem FieldsOnly.w {s t : State} (h : FieldsOnly s t) (f : Fld) (n v : Nat) : FieldsOnly s (t.w f n v) := by
  obtain ⟨l, rfl⟩ := h
  exact ⟨_, rfl⟩

theorem FieldsOnly.wb {s t : State} (h : FieldsOnly s t) (f : Fld) (n : Nat) (b : Bool) : FieldsOnly s (t.wb f n b) :=
  h.w f n (b2n b)

theorem fieldsOnly_showSw (s : State) : FieldsOnly s s.showSw := by
  unfold State.showSw
  extract_lets fr s1 s2 s3
  have h3 : FieldsOnly s s3 := (((((FieldsOnly.refl s).w _ _ _).w _ _ _).wb _ _ _).w _ _ _).wb _ _ _
  clear_value s3
  split
  · exact (h3.w _ _ _).w _ _ _
  · exact h3

/-- The status of the spares lies in blocks 7 and 0x16. -/
theorem get_showSw (s : State) {k : Nat} (h : keyPage k ∉ [7, 22]) :
    SMap.get 0 s.showSw.fields k = SMap.get 0 s.fields k :=
  have hk := kept_showSw (same_closed (Touch.only [7, 22]) s) (Or.inl (by decide)) (Or.inl (by decide)) s (same_self _ s)
  hk.regs k h

/-- The registers, the ports, the host link and the staging set stand as after a cold reset. Left out are the fields that a
warm reset keeps and blocks 7 and 0x16, where it shows the spares anew. -/
structure Cleared (t : State) : Prop where
  regs : ∀ (f : Fld) n, keptField (f.key n) = false → keyPage (f.key n) ∉ [7, 22] → t.g f n = f.rst n % 2 ^ f.width
  up : t.host.up = false
  deferred : t.host.deferred = []
  owed : t.host.owed = []
  latches : t.latches = []
  staged : t.staged = []
  commit : t.commit = none
  prt : t.prt = State.reset.prt
  exc : t.exc = State.reset.exc
  acq : t.acq = State.reset.acq
  obs : t.obs = State.reset.obs
  dfb : t.dfb = State.reset.dfb

theorem cleared_showSw {s : State} (h : Cleared s) : Cleared s.showSw := by
  have hregs : ∀ (f : Fld) n, keptField (f.key n) = false → keyPage (f.key n) ∉ [7, 22] →
      s.showSw.g f n = f.rst n % 2 ^ f.width := by
    intro f n hk hp
    rw [← h.regs f n hk hp]
    unfold State.g
    rw [get_showSw s hp]
  obtain ⟨l, hl⟩ := fieldsOnly_showSw s
  rw [hl] at hregs ⊢
  exact { h with regs := hregs }

theorem cleared_warmClear (s : State) : Cleared s.warmClear := by
  unfold State.warmClear
  refine cleared_showSw ?_
  constructor
  case regs => exact fun f n hk _ => g_of_unwritten (SMap_get_filter_out 0 s.fields fun _ => hk)
  all_goals rfl

/-- A source asserted outside a reset clears the device; which bits it set before does not matter. -/
theorem cleared_warmAssert {s : State} (h : s.rst.warm = false) (b : Nat) : Cleared (s.warmAssert b) := by
  unfold State.warmAssert
  extract_lets s1 failed s2 s3
  have hw : ¬ s1.rst.warm = true := by
    rw [show s1.rst.warm = false from h]
    decide
  rw [if_neg hw]
  exact cleared_warmClear _

/-- A source asserted during a warm reset extends it. -/
theorem rst_warmAssert_extends {s : State} (h : s.rst.warm = true) (b : Nat) :
    (s.warmAssert b).rst = { s.rst with endAt := laterOf s.rst.endAt (tadd s.t (2 * usU)) } := by
  unfold State.warmAssert
  extract_lets s1
  rw [if_pos (show s1.rst.warm = true from h)]
  rfl

/-- Whether a field is among those cleared is seen on its place in the register table, the same for every port. -/
theorem Cleared.g_eq {t : State} (h : Cleared t) {f : Fld} (n : Nat)
    (hf : (!keptField (f.key 0) && decide (f.base < 131072) && decide (f.lo < 32) &&
      !([7, 22].contains (f.base / 4096))) = true) : t.g f n = f.rst n % 2 ^ f.width := by
  simp only [Bool.and_eq_true, Bool.not_eq_true', decide_eq_true_eq, List.contains_eq_mem, decide_eq_false_iff_not] at hf
  obtain ⟨⟨⟨hkept, hbase⟩, hlo⟩, hpage⟩ := hf
  refine h.regs f n ((keptField_key f n).trans hkept) ?_
  rwa [keyPage_key hbase hlo]

theorem Cleared.port_off {t : State} (h : Cleared t) (n : Nat) :
    t.resolver n = false ∧ t.digital n = false ∧ t.drv n = dOff := by
  have hmode : t.g F.PRT_CFG_MODE n = 0 := h.g_eq n (by decide)
  have hdrv : t.g F.EXC_STAT_STATE n = 0 := h.g_eq n (by decide)
  simp [State.resolver, State.digital, State.drv, hmode, hdrv]

/-- The set and the commit under way are discarded, and `GLB_CSTAT` shows it. -/
def SetDiscarded (t : State) : Prop :=
  t.staged = [] ∧ t.commit = none ∧ t.g F.GLB_CSTAT_STAGED = 0 ∧ t.gb F.GLB_CSTAT_BUSY = false

theorem Cleared.setDiscarded {t : State} (h : Cleared t) : SetDiscarded t := by
  have hcount : t.g F.GLB_CSTAT_STAGED 0 = 0 := h.g_eq 0 (by decide)
  have hbusy : t.g F.GLB_CSTAT_BUSY 0 = 0 := h.g_eq 0 (by decide)
  exact ⟨h.staged, h.commit, hcount, by simp [State.gb, hbusy]⟩

theorem doWarmReset_eq {b : Nat} (hb : 2 ≤ b) (s : State) : doWarmReset b s = s.here.warmAssert b := if_pos hb

theorem cleared_doWarmReset {b : Nat} (hb : 2 ≤ b) {s : State} (h : s.rst.warm = false) : Cleared (doWarmReset b s) := by
  rw [doWarmReset_eq hb]
  exact cleared_warmAssert (s := s.here) h b

/-! ### The cold reset -/

/-- A cold reset writes fields of the reset block alone; every other one shows its reset value. -/
theorem g_doColdReset (c : ColdIn) (s : State) {f : Fld} (n : Nat) (hb : f.base < 131072) (hl : f.lo < 32)
    (hp : f.base / 4096 ≠ 1) : (doColdReset c s).g f n = f.rst n % 2 ^ f.width := by
  unfold doColdReset
  extract_lets s1 r x0 x1 x2
  have hw : ∀ {u : State} (g : Fld) (v : Nat), g.base / 4096 = 1 ∧ g.base < 131072 ∧ g.lo < 32 →
      Kept (SameBut (Touch.only [1]) x0) u → Kept (SameBut (Touch.only [1]) x0) (u.w g 0 v) :=
    fun g v hg hu => kept_w (same_closed _ x0) _ g 0 v (ok_lit 1 hg (Or.inl (by decide))) hu
  have h1 : Kept (SameBut (Touch.only [1]) x0) x1 :=
    kept_ite (hw F.RST_STAT_LAST _ (by decide) (hw F.RST_CAUSE_BOR _ (by decide)
      (hw F.RST_CAUSE_POR _ (by decide) (same_self _ x0)))) (same_self _ x0)
  have h2 : Kept (SameBut (Touch.only [1]) x0) x2 :=
    hw F.RST_BOOT_SCLK _ (by decide) (hw F.RST_BOOT_SBOOT _ (by decide) h1)
  have h3 : Kept (SameBut (Touch.only [1]) x0) ((x2.updRst fun r => { r with perstN := c.perstN }).w F.RST_STAT_STEP 0 1) :=
    hw F.RST_STAT_STEP _ (by decide) h2
  rw [(same_frame h3).regs f n hb hl (by simpa [Touch.only] using hp)]
  exact g_of_unwritten rfl

/-- The reset begins anew: no warm reset is under way and STIME is 0, whatever was before. -/
theorem doColdReset_restarts (c : ColdIn) (s : State) : (doColdReset c s).rst.warm = false ∧ (doColdReset c s).now = 0 := by
  unfold doColdReset
  cases c.brownOut <;> exact ⟨rfl, rfl⟩

theorem setDiscarded_doColdReset (c : ColdIn) (s : State) : SetDiscarded (doColdReset c s) := by
  have hset : (doColdReset c s).staged = [] ∧ (doColdReset c s).commit = none := by
    unfold doColdReset
    cases c.brownOut <;> exact ⟨rfl, rfl⟩
  have hcount : (doColdReset c s).g F.GLB_CSTAT_STAGED 0 = 0 := g_doColdReset c s 0 (by decide) (by decide) (by decide)
  have hbusy : (doColdReset c s).g F.GLB_CSTAT_BUSY 0 = 0 := g_doColdReset c s 0 (by decide) (by decide) (by decide)
  exact ⟨hset.1, hset.2, hcount, by simp [State.gb, hbusy]⟩

/-! ### The Link reset -/

/-- From `s` to `t` nothing but the host link and the CAN controllers changed. -/
def LinkOnly (s t : State) : Prop := ∃ h c, t = { s with host := h, can := c }

theorem LinkOnly.refl (s : State) : LinkOnly s s := ⟨s.host, s.can, rfl⟩

theorem LinkOnly.fields {s t : State} (h : LinkOnly s t) : t.fields = s.fields := by
  obtain ⟨x, y, rfl⟩ := h
  rfl

theorem LinkOnly.staged {s t : State} (h : LinkOnly s t) : t.staged = s.staged := by
  obtain ⟨x, y, rfl⟩ := h
  rfl

theorem LinkOnly.commit {s t : State} (h : LinkOnly s t) : t.commit = s.commit := by
  obtain ⟨x, y, rfl⟩ := h
  rfl

theorem LinkOnly.updHost {s t : State} (h : LinkOnly s t) (f : HostSt → HostSt) : LinkOnly s (t.updHost f) := by
  obtain ⟨x, y, rfl⟩ := h
  exact ⟨_, _, rfl⟩

theorem LinkOnly.updCan {s t : State} (h : LinkOnly s t) (c : Nat) (f : CanSt → CanSt) : LinkOnly s (t.updCan c f) := by
  obtain ⟨x, y, rfl⟩ := h
  exact ⟨_, _, rfl⟩

theorem LinkOnly.ite {s a b : State} {p : Prop} [Decidable p] (ha : LinkOnly s a) (hb : LinkOnly s b) :
    LinkOnly s (if p then a else b) := by
  split
  · exact ha
  · exact hb

theorem LinkOnly.ringGone {s t : State} (h : LinkOnly s t) (r : Nat) : LinkOnly s (t.ringGone r) := by
  unfold State.ringGone
  refine List.foldlRecOn _ _ (h.updHost _) fun u hu c _ => ?_
  exact (((hu.updCan c _).ite (hu.updCan c _))).ite ((hu.updCan c _).ite hu)

theorem linkOnly_ringsGone (s : State) (rs : List Nat) : LinkOnly s (rs.foldl State.ringGone s) :=
  List.foldlRecOn _ _ (LinkOnly.refl s) fun _ hu r _ => hu.ringGone r

theorem LinkOnly.wordsDropped {s t : State} (h : LinkOnly s t) (did : Nat) : LinkOnly s (t.wordsDropped did) := by
  obtain ⟨x, y, rfl⟩ := h
  exact ⟨_, _, rfl⟩

theorem emptySet_staged (s : State) : s.emptySet.staged = [] := rfl

/-- Emptying the open set leaves the commit under way. -/
theorem emptySet_commit (s : State) : s.emptySet.commit = s.commit := by
  unfold State.emptySet
  extract_lets dids s1
  have h1 : LinkOnly s s1 := List.foldlRecOn _ _ (LinkOnly.refl s) fun _ hu d _ => hu.wordsDropped d
  exact h1.commit

theorem linkReset_set (s : State) : s.linkReset.commit = s.commit ∧
    s.linkReset.staged = if s.g F.GLB_CSTAT_OWNER = 1 ∨ s.g F.GLB_CSTAT_OWNER = 2 then [] else s.staged := by
  unfold State.linkReset
  extract_lets s1 owner h s2
  have h1 : LinkOnly s s1 := linkOnly_ringsGone s _
  clear_value s1
  have howner : owner = s.g F.GLB_CSTAT_OWNER := g_of_fields h1.fields _ _
  have hcommit : s2.commit = s.commit := h1.commit
  have hstaged : s2.staged = s.staged := h1.staged
  clear_value owner s2
  simp only [← howner, Bool.or_eq_true, decide_eq_true_eq]
  split
  · exact ⟨(emptySet_commit s2).trans hcommit, emptySet_staged s2⟩
  · exact ⟨hcommit, hstaged⟩

end Sys2Proof.Laws
end

section
/-! PROOFS. Resets that meet a warm reset, and what resets discard of the staging set (R44, R456). -/

namespace Sys2Proof.Laws
open Sys2Proof.Machine

/-! ### The commands complete within their frames -/

theorem runs_of_kept {c : Instr} {s t : State} {P : State → Prop} (he : exec c s = .next t)
    (hk : Kept (SameBut (touch c) s) t) (h : P t) : Runs c s P :=
  ⟨t, he, same_frame hk, h⟩

theorem runs_coldReset {c : ColdIn} {s : State} {P : State → Prop} (h : P (doColdReset c s)) : Runs (.coldReset c) s P :=
  runs_of_kept rfl (kept_doColdReset (same_closed _ s) (fun p => all_blocks p) (Or.inl rfl) rfl trivial rfl rfl rfl c s
    (same_self _ s)) h

theorem runs_warmReset {b : Fin 8} {s : State} {P : State → Prop} (h : P (doWarmReset b s)) : Runs (.warmReset b) s P :=
  runs_of_kept rfl (kept_doWarmReset (same_closed _ s) (fun p => all_blocks p) (Or.inr rfl) rfl trivial rfl b s
    (same_self _ s)) h

theorem runs_warmResetRelease {s : State} {P : State → Prop} (h : P (doWarmResetRelease s)) : Runs .warmResetRelease s P :=
  runs_of_kept rfl (kept_doWarmResetRelease (same_closed _ s) (Or.inl (by decide)) s (same_self _ s)) h

theorem runs_linkReset {s : State} {P : State → Prop} (h : P (if s.rst.warm then s else s.here.linkReset)) :
    Runs .linkReset s P :=
  runs_of_kept rfl (kept_ite (same_self _ s)
    (kept_linkReset (same_closed _ s) (Or.inl (by decide)) (Or.inl (by decide)) _ (same_self _ s))) h

theorem runs_portRestart {src : Src} {n : Fin 16} {s : State} {P : State → Prop}
    (h : P (s.via src 0x4000 fun s => s.portRestart n false false)) : Runs (.portRestart src n) s P := by
  have hc := same_closed { Touch.events [0x4, 0x5, 0x6, 0x7, 0x8, 0xA, 0xB] with sram := true } s
  have hk := kept_via hc s src 0x4000 (fun s => s.portRestart n false false) (same_self _ s) fun u hu =>
    kept_portRestart hc (Or.inl rfl) rfl (Or.inl (by decide)) (Or.inl (by decide)) (Or.inl (by decide)) (Or.inl (by decide))
      (Or.inl (by decide)) (Or.inl (by decide)) (Or.inl (by decide)) (Or.inl (by decide)) (Or.inl (by decide))
      (Or.inl (by decide)) u n false false hu
  exact runs_of_kept rfl hk h

/-! ### During a warm reset -/

/-- No block answers an access during a warm reset. -/
theorem via_during_warm {s : State} (h : s.rst.warm = true) (src : Src) (addr : Nat) (k : State → State) :
    s.via src addr k = s.at src := by
  have hreach : (s.at src).reaches addr = false := by simp [State.reaches, h]
  unfold State.via
  simp [hreach]

/-- A warm reset does not end while a pin holds it or before its instant. -/
theorem doWarmResetRelease_held {s : State}
    (h : s.rst.byPin = true ∨ s.rst.byPerst = true ∨ 0 ≤ tdiff s.rst.endAt (tadd s.now sampleU)) :
    doWarmResetRelease s = s := by
  unfold doWarmResetRelease
  refine if_neg ?_
  simp only [Bool.and_eq_true, Bool.not_eq_true', decide_eq_true_eq]
  rintro ⟨⟨⟨-, hpin⟩, hperst⟩, hend⟩
  rcases h with h | h | h
  · simp [h] at hpin
  · simp [h] at hperst
  · omega

theorem doWarmReset_extends {b : Nat} (hb : 2 ≤ b) {s : State} (h : s.rst.warm = true) :
    (doWarmReset b s).rst = { s.rst with endAt := laterOf s.rst.endAt (tadd s.now (2 * usU : Nat)) } := by
  rw [doWarmReset_eq hb, Int.natCast_mul]
  exact rst_warmAssert_extends (s := s.here) h b

/-- A port restart leaves the staged writes, whether or not its block answers. -/
theorem staged_via_portRestart (s : State) (src : Src) (n : Nat) :
    (s.via src 0x4000 fun s => s.portRestart n false false).staged = s.staged := by
  unfold State.via
  exact staged_ite (staged_portRestart (s.at src) n false) rfl

/-- Settles O8: each reset by what it leaves of the device (`Cleared`, `SetDiscarded`, `linkReset_set`) or, during a warm
reset, by the guard that stops it. -/
theorem resetsDuringAWarmReset : Obligations.ResetsDuringAWarmReset := by
  unfold Obligations.ResetsDuringAWarmReset
  refine ⟨?replaced, ?extended, ?held, ?included, ?noEffect, ?coldDiscards, ?warmDiscards, ?portLeaves, ?linkDiscards⟩
  case replaced => exact fun c s _ => runs_coldReset (doColdReset_restarts c s)
  case extended =>
    intro b s hb hw
    have h := doWarmReset_extends hb hw
    exact runs_warmReset ⟨by rw [h]; exact hw, by rw [h]⟩
  case held => exact fun s _ h => runs_warmResetRelease (doWarmResetRelease_held h)
  case included =>
    intro b s hb hw
    have h := cleared_doWarmReset hb hw
    refine runs_warmReset ⟨fun f n hp => ?_, h.up, h.deferred, h.owed, h.latches, h.prt, h.exc, h.acq, h.obs, h.dfb,
      fun n => h.port_off n⟩
    exact h.regs f n (keptField_hostPage hp) (by rw [hp]; decide)
  case noEffect =>
    intro s hw
    refine ⟨runs_linkReset (if_pos hw), fun src n => runs_portRestart ?_⟩
    rw [via_during_warm hw]
    exact ⟨rfl, rfl, rfl, rfl, fun _ _ _ => rfl⟩
  case coldDiscards => exact fun c s => runs_coldReset (setDiscarded_doColdReset c s)
  case warmDiscards => exact fun b s hb hw => runs_warmReset (cleared_doWarmReset hb hw).setDiscarded
  case portLeaves => exact fun src n s => runs_portRestart (staged_via_portRestart s src n)
  case linkDiscards =>
    intro s hw
    have hw' : ¬ s.rst.warm = true := by simp [hw]
    refine runs_linkReset ?_
    rw [if_neg hw']
    exact linkReset_set s.here

end Sys2Proof.Laws
end

section
/-! PROOFS. The snapshot latches of the access paths (R404): which reads leave a path's latches, and what a Link reset
releases. -/

namespace Sys2Proof.Laws
open Sys2Proof.Machine

/-! ### What a path has latched -/

/-- Path `p` has the same words latched in `t` as in `s`. -/
def KeepsLatched (p : Path) (s t : State) : Prop := ∀ a, t.latched p a = s.latched p a

theorem KeepsLatched.trans {p : Path} {s t u : State} (h : KeepsLatched p s t) (h' : KeepsLatched p t u) :
    KeepsLatched p s u := fun a => (h' a).trans (h a)

theorem keepsLatched_of_latches {p : Path} {s t : State} (h : t.latches = s.latches) : KeepsLatched p s t := by
  intro a
  unfold State.latched
  rw [h]

theorem KeepsLatched.refl (p : Path) (s : State) : KeepsLatched p s s := keepsLatched_of_latches rfl

theorem KeepsLatched.ite {p : Path} {s a b : State} {c : Prop} [Decidable c] (ha : KeepsLatched p s a)
    (hb : KeepsLatched p s b) : KeepsLatched p s (if c then a else b) := by
  split
  · exact ha
  · exact hb

/-- Entries of other sets that leave take nothing from a path. -/
theorem keepsLatched_of_filter {p : Path} {s t : State} {keep : Nat × Nat × Nat → Bool}
    (ht : t.latches = s.latches.filter keep) (h : ∀ l, l.1 = pathCls p → keep l = true) : KeepsLatched p s t := by
  intro a
  unfold State.latched
  rw [ht, List.find?_filter]
  congr 1
  refine congrArg (List.find? · s.latches) (funext fun l => ?_)
  by_cases hl : l.1 = pathCls p
  · simp [h l hl]
  · simp [hl]

/-- A path whose entries have left has nothing latched. -/
theorem latched_of_filter_none {p : Path} {s t : State} {keep : Nat × Nat × Nat → Bool}
    (ht : t.latches = s.latches.filter keep) (h : ∀ l, l.1 = pathCls p → keep l = false) (a : Nat) :
    t.latched p a = none := by
  unfold State.latched
  rw [ht, Option.map_eq_none_iff, List.find?_eq_none]
  intro l hl hp
  obtain ⟨hcls, -⟩ := of_decide_eq_true hp
  have hkeep : keep l = true := (List.mem_filter.mp hl).2
  rw [h l hcls] at hkeep
  cases hkeep

/-- Two paths share a set where they are the same or both are rings. -/
theorem pathCls_eq_iff (p q : Path) : pathCls p = pathCls q ↔ p = q ∨ ∃ r k, p = .ring r ∧ q = .ring k := by
  cases p <;> cases q <;> simp [pathCls]

/-- The rings share one set of latches. -/
theorem latched_ring (s : State) (r q : Fin 8) (a : Nat) : s.latched (.ring r) a = s.latched (.ring q) a := rfl

/-! ### Reads of registers -/

/-- A latch puts entries of its own set in front and takes entries of its own set out. -/
theorem keepsLatched_latch {p q : Path} (h : pathCls p ≠ pathCls q) (s : State) (ws : List (Nat × Nat)) :
    KeepsLatched p s (s.latch q ws) := by
  have hkeep : KeepsLatched p s
      { s with latches := s.latches.filter fun l => !(l.1 = pathCls q && ws.any fun w => w.1 = l.2.1) } :=
    keepsLatched_of_filter rfl fun l hl => by simp [hl, h]
  refine hkeep.trans fun a => ?_
  have hnew : (ws.map fun w => (pathCls q, w)).find? (fun l => l.1 = pathCls p ∧ l.2.1 = a) = none := by
    simp [List.find?_eq_none, h.symm]
  unfold State.latched State.latch
  rw [List.find?_append, hnew, Option.none_or]

/-- A branch keeps the latches where both arms do, whatever words they answer. -/
theorem fst_latches_ite {α : Type} {c : Prop} [Decidable c] {a b : State × α} {l : List (Nat × Nat × Nat)}
    (ha : a.1.latches = l) (hb : b.1.latches = l) : (if c then a else b).1.latches = l := by
  split
  · exact ha
  · exact hb

/-- Taking the words of a group writes at most `NEW` of a CAN object, in SRAM (R386). -/
theorem snapWords_latches (s : State) (first : Nat) (members : List Nat) :
    (s.snapWords first members).1.latches = s.latches := by
  unfold State.snapWords
  exact fst_latches_ite rfl <| fst_latches_ite rfl <| fst_latches_ite rfl <| fst_latches_ite rfl <|
    fst_latches_ite rfl <| fst_latches_ite rfl <| fst_latches_ite rfl rfl

theorem keepsLatched_busRead {p q : Path} (h : pathCls p ≠ pathCls q) (s : State) (addr : Nat) :
    KeepsLatched p s (s.busRead q addr).1 := by
  unfold State.busRead
  split
  case h_1 members _ =>
    split
    · exact (keepsLatched_of_latches (snapWords_latches s addr members)).trans (keepsLatched_latch h _ _)
    · exact KeepsLatched.refl p s
  case h_2 => exact KeepsLatched.refl p s

theorem keepsLatched_readOut {p q : Path} (h : pathCls p ≠ pathCls q) (s : State) (addr size : Nat) :
    KeepsLatched p s (s.readOut q addr size) :=
  (keepsLatched_busRead h s _).trans (keepsLatched_of_latches rfl)

theorem keepsLatched_via {p : Path} (s : State) (src : Src) (addr : Nat) {k : State → State}
    (hk : ∀ u, KeepsLatched p u (k u)) : KeepsLatched p s (s.via src addr k) := by
  have hat : KeepsLatched p s (s.at src) := keepsLatched_of_latches (State.at_latches s src)
  exact KeepsLatched.ite (hat.trans (hk _)) hat

/-! ### Descriptors -/

theorem aside_consume1 (s : State) (r : Nat) : aside (s.consume1 r) = aside s := by
  unfold State.consume1
  exact aside_ite ((aside_cause _ _).trans (aside_advance s r 1)) (aside_advance s r 1)

theorem aside_recordWait (s : State) (src r : Nat) (bs : List Byte) : aside (s.recordWait src r bs) = aside s := by
  unfold State.recordWait
  exact aside_ite rfl (aside_ite (aside_bump s _ r) (aside_ite (aside_putRecord s r bs) rfl))

theorem aside_complete (s : State) (ring op : Nat) (cmpl : Bool) (result tag value : Nat) (hdr : List Byte) :
    aside (s.complete ring op cmpl result tag value hdr) = aside s :=
  aside_ite (aside_recordWait s ring _ _) rfl

/-- What raising an event leaves alone holds the latches. -/
theorem keepsLatched_of_aside {p : Path} {s t : State} (h : aside t = aside s) : KeepsLatched p s t :=
  keepsLatched_of_latches (of_aside State.latches (fun _ => rfl) h)

theorem keepsLatched_descr {p : Path} (s : State) (d : Desc) {act : State → State × Option (Nat × Nat)} (op : Nat)
    (hact : ∀ u, KeepsLatched p u (act u).1) : KeepsLatched p s (s.descr d act op) := by
  have hhere : KeepsLatched p s s.here := keepsLatched_of_latches (State.here_latches s)
  have hpast : KeepsLatched p s ((act s.here).1.consume1 d.ring) :=
    (hhere.trans (hact s.here)).trans (keepsLatched_of_aside (aside_consume1 _ _))
  unfold State.descr
  refine KeepsLatched.ite hhere ?_
  dsimp only
  split
  · exact hpast.trans (keepsLatched_of_aside (aside_complete _ _ _ _ _ _ _ _))
  · exact hpast

theorem keepsLatched_regrdDesc {p : Path} {d : Desc} (h : pathCls p ≠ pathCls (.ring d.ring)) (s : State) (addr : Nat) :
    KeepsLatched p s (s.regrdDesc d addr).1 := by
  unfold State.regrdDesc
  split
  · exact KeepsLatched.refl p s
  · split
    · exact KeepsLatched.refl p s
    · exact keepsLatched_busRead h s addr

/-! ### Frames of the SPI port -/

theorem aside_hifStick (s : State) (f : Fld) : aside (s.hifStick f) = aside s := aside_stickEv s f 0 _

theorem aside_eccSeen (s : State) (a : Nat) : aside (s.eccSeen a) = aside s := by
  unfold State.eccSeen
  exact aside_ite ((aside_stickEv _ _ _ _).trans (aside_bump s _ _)) rfl

theorem keepsLatched_spiReads {p : Path} (h : pathCls p ≠ pathCls .spi) (s : State) (b : List Byte) (bar2 : Bool)
    (base n : Nat) : KeepsLatched p s (s.spiReads b bar2 base n).1 := by
  induction n with
  | zero => exact KeepsLatched.refl p s
  | succ n ih =>
    rw [State.spiReads]
    dsimp only
    generalize (if bitOf (spiCmd b) 4 = true then base else base + 4 * n) = a
    split
    case isTrue =>
      split
      · exact ih.trans (keepsLatched_of_aside (aside_eccSeen _ _))
      · exact ih
    case isFalse =>
      split
      · exact ih.trans (keepsLatched_busRead h _ _)
      · exact ih

/-- A frame with a wrong CRC counts, one with a bad request does nothing, a read reads its words. -/
theorem keepsLatched_spiRun {p : Path} (h : pathCls p ≠ pathCls .spi) (s : State) {b : List Byte}
    (hb : spiIsWrite b = false) : KeepsLatched p s (s.spiRun b).1 := by
  unfold State.spiRun
  dsimp only
  split
  case isTrue => exact keepsLatched_of_aside ((aside_hifStick _ _).trans (aside_bump s _ _))
  case isFalse =>
    split
    case h_1 => exact KeepsLatched.refl p s
    case h_2 bar2 base _ =>
      simp only [hb, Bool.false_eq_true, if_false]
      exact keepsLatched_spiReads h s b bar2 base _

theorem keepsLatched_spiFrame_read {p : Path} (h : pathCls p ≠ pathCls .spi) (s : State) (b : List Byte) (sub : Nat) :
    KeepsLatched p s (s.spiFrame false b sub) := by
  unfold State.spiFrame
  split
  case isTrue => exact KeepsLatched.refl p s
  case isFalse hguard =>
    have hb : spiIsWrite b = false := by
      cases hw : spiIsWrite b
      · rfl
      · exact absurd (by simp [hw]) hguard
    exact ((keepsLatched_of_latches rfl).trans (keepsLatched_spiRun h { s with t := tadd s.now sub } hb)).trans
      (keepsLatched_of_latches rfl)

/-! ### The Link reset -/

theorem LinkOnly.latches {s t : State} (h : LinkOnly s t) : t.latches = s.latches := by
  obtain ⟨x, y, rfl⟩ := h
  rfl

/-- Emptying the open set leaves the snapshot latches. -/
theorem emptySet_latches (s : State) : s.emptySet.latches = s.latches := by
  unfold State.emptySet
  extract_lets dids s1
  have h1 : LinkOnly s s1 := List.foldlRecOn _ _ (LinkOnly.refl s) fun _ hu d _ => hu.wordsDropped d
  exact h1.latches

/-- Class 2 is the set of SPI; the sets of BAR0 and of the rings leave. -/
theorem linkReset_latches (s : State) : s.linkReset.latches = s.latches.filter fun l => l.1 = 2 := by
  unfold State.linkReset
  extract_lets s1 owner h s2
  have h1 : LinkOnly s s1 := linkOnly_ringsGone s _
  clear_value s1
  have h2 : s2.latches = s.latches.filter fun l => l.1 = 2 := congrArg (List.filter _) h1.latches
  clear_value s2
  split
  · exact (emptySet_latches s2).trans h2
  · exact h2

theorem linkReset_latched (s : State) (a : Nat) : s.linkReset.latched .bar0 a = none ∧
    (∀ r, s.linkReset.latched (.ring r) a = none) ∧ s.linkReset.latched .spi a = s.latched .spi a := by
  have hl := linkReset_latches s
  refine ⟨latched_of_filter_none hl ?_ a, fun r => latched_of_filter_none hl ?_ a, keepsLatched_of_filter hl ?_ a⟩
  all_goals
    intro l hcls
    simp [hcls, pathCls]

/-! ### The commands that read complete within their frames -/

theorem runs_snapshotRead {src : Src} {acc : Access} {s : State} {P : State → Prop}
    (h : P (s.via src acc.addr fun s => s.readOut src.path acc.addr acc.size)) : Runs (.snapshotRead src acc) s P := by
  have hc := same_closed (touch (.snapshotRead src acc)) s
  exact runs_of_kept rfl (kept_via hc s src _ _ (same_self _ s) fun u hu => kept_readOut hc rfl u _ _ _ hu) h

theorem runs_predictionRead {src : Src} {m : Fin 18} {s : State} {P : State → Prop}
    (h : P (s.via src 0x8000 fun s => s.readOut src.path (0x8080 + 0x100 * m) 4)) : Runs (.predictionRead src m) s P := by
  have hc := same_closed (touch (.predictionRead src m)) s
  exact runs_of_kept rfl (kept_via hc s src _ _ (same_self _ s) fun u hu => kept_readOut hc rfl u _ _ _ hu) h

theorem runs_regrd {d : Desc} {addr : Nat} {s : State} {P : State → Prop}
    (h : P (s.descr d (fun s => s.regrdDesc d addr) 2)) : Runs (.regrd d addr) s P := by
  have hc := same_closed (touch (.regrd d addr)) s
  exact runs_of_kept rfl (kept_descr hc (Or.inl List.mem_cons_self) s d _ 2 (same_self _ s)
    fun u hu => kept_regrdDesc hc rfl u d addr hu) h

theorem runs_spiRead {b : List Byte} {sub : Nat} {s : State} {P : State → Prop} (h : P (s.spiFrame false b sub)) :
    Runs (.spiRead b sub) s P :=
  runs_of_kept rfl (kept_spiFrame (same_closed (touch (.spiRead b sub)) s) all_blocks (Or.inl rfl) rfl trivial rfl rfl
    s false b sub (same_self _ s)) h

/-- Settles O7: a read touches entries of its own set alone (`keepsLatched_busRead`), and a Link reset keeps the entries of
SPI alone (`linkReset_latches`). -/
theorem snapshotLatchesOfThePaths : Obligations.SnapshotLatchesOfThePaths := by
  unfold Obligations.SnapshotLatchesOfThePaths
  refine ⟨?reads, ?rings, ?spi, latched_ring, pathCls_eq_iff, ?linkReset⟩
  case reads =>
    intro src addr size s p a h
    exact ⟨runs_snapshotRead (keepsLatched_via s src addr (fun u => keepsLatched_readOut h u addr size) a),
      fun m => runs_predictionRead (keepsLatched_via s src _ (fun u => keepsLatched_readOut h u _ _) a)⟩
  case rings =>
    exact fun d addr s p a h => runs_regrd (keepsLatched_descr s d 2 (fun u => keepsLatched_regrdDesc h u addr) a)
  case spi => exact fun b sub s p a h => runs_spiRead (keepsLatched_spiFrame_read h s b sub a)
  case linkReset =>
    intro s a hw
    refine runs_linkReset ?_
    rw [if_neg (by simp [hw])]
    exact linkReset_latched s.here a

end Sys2Proof.Laws
end

section
/-! PROOFS. Registers outside the blocks an operation writes, the bits of `RST_STKY` and the word of `RST_CAUSE`. -/

namespace Sys2Proof.Laws
open Sys2Proof.Machine

/-! ### Blocks of registers left alone -/

/-- Everything may change but the queue and the registers of the blocks `l`. -/
def sparing (l : List Nat) : Touch :=
  { blocks := (List.range 32).filter (· ∉ l), ash := true, sram := true, nvm := true, image := true, time := true }

/-- From `s` to `t` the registers of the blocks `l` stayed. -/
abbrev Spares (l : List Nat) (s t : State) : Prop := Kept (SameBut (sparing l) s) t

/-- The place of a field: its block is one of `l`, and it has a key of its own there. -/
def within (l : List Nat) (f : Fld) : Bool :=
  l.contains (f.base / 4096) && decide (f.base < 131072) && decide (f.lo < 32)

theorem Spares.g_eq {l : List Nat} {s t : State} (h : Spares l s t) {f : Fld} (hf : within l f = true) (n : Nat) :
    t.g f n = s.g f n := by
  simp only [within, Bool.and_eq_true, decide_eq_true_eq, List.contains_eq_mem] at hf
  obtain ⟨⟨hpage, hbase⟩, hlo⟩ := hf
  exact (same_frame h).regs f n hbase hlo (by simp [sparing, hpage])

theorem g_updRst (s : State) (r : RstSt → RstSt) (f : Fld) (n : Nat) : (s.updRst r).g f n = s.g f n := rfl

/-! ### Bits of `RST_STKY` -/

/-- A field that raising an event leaves alone (`g_raise`). -/
def quiet (f : Fld) : Bool :=
  decide (f.base < 0x20000) && decide (f.lo < 32) && !([2, 3, 22].contains (f.base / 4096))

/-- One bit of the mask `m` enters a sticky field. -/
def stickBit (f : Fld) (n m e : Nat) (s : State) (j : Nat) : State :=
  if m.testBit j && !(s.g f n).testBit j then
    (s.w f n (setBit (s.g f n) j true)).raiseReg e (f.base + f.stride * n)
  else s

theorem stickBits_eq_foldl (s : State) (f : Fld) (n m e : Nat) :
    s.stickBits f n m e = (List.range f.width).foldl (stickBit f n m e) s := rfl

theorem g_stickBits_apart {f g : Fld} (hf : quiet f = true) (hg : apart f g = true) (s : State) (n m e i : Nat) :
    (s.stickBits g n m e).g f i = s.g f i := by
  rw [stickBits_eq_foldl]
  refine List.foldlRecOn (motive := fun u => State.g u f i = s.g f i) _ _ rfl fun u hu j _ => ?_
  unfold stickBit
  split
  · exact (g_raise _ _ _ _ hf).trans ((g_w_apart hg _ _ _ _).trans hu)
  · exact hu

/-- Setting bit `j` of a field of `w` bits sets it and leaves the other bits. -/
theorem testBit_setBit {v w j : Nat} (hv : v < 2 ^ w) (hj : j < w) (i : Nat) :
    (setBit v j true % 2 ^ w).testBit i = (v.testBit i || decide (i = j)) := by
  have hlt : v ||| 2 ^ j < 2 ^ w := Nat.or_lt_two_pow hv (Nat.pow_lt_pow_right (by decide) hj)
  simp [setBit, Nat.mod_eq_of_lt hlt, Nat.testBit_or, Nat.testBit_two_pow, eq_comm]

theorem testBit_stickBit {f : Fld} (hf : quiet f = true) {j : Nat} (hj : j < f.width) (s : State) (n m e i : Nat) :
    ((stickBit f n m e s j).g f n).testBit i = ((s.g f n).testBit i || (decide (i = j) && m.testBit i)) := by
  have hlt : s.g f n < 2 ^ f.width := Nat.mod_lt _ (Nat.two_pow_pos _)
  unfold stickBit
  split
  case isTrue hset =>
    rw [State.raiseReg, g_raise _ _ _ _ hf, g_w_same, testBit_setBit hlt hj]
    by_cases hij : i = j <;> simp_all
  case isFalse hkeep =>
    by_cases hij : i = j
    · subst hij
      cases hm : m.testBit i <;> simp_all
    · simp [hij]

/-- The bits of a sticky field after bits of it were set: those that stood and those of the mask. -/
theorem testBit_stickBits {f : Fld} (hf : quiet f = true) (s : State) (n m e i : Nat) :
    ((s.stickBits f n m e).g f n).testBit i = ((s.g f n).testBit i || (decide (i < f.width) && m.testBit i)) := by
  have fold : ∀ (l : List Nat) (u : State), (∀ j ∈ l, j < f.width) →
      ((l.foldl (stickBit f n m e) u).g f n).testBit i = ((u.g f n).testBit i || (decide (i ∈ l) && m.testBit i)) := by
    intro l
    induction l with
    | nil => simp
    | cons j l ih =>
      intro u hl
      rw [List.foldl_cons, ih _ fun k hk => hl k (List.mem_cons_of_mem _ hk),
        testBit_stickBit hf (hl j List.mem_cons_self)]
      by_cases hij : i = j <;> cases m.testBit i <;> simp [hij]
  rw [stickBits_eq_foldl, fold _ s fun j => List.mem_range.mp]
  simp only [List.mem_range]

/-- `RST_STKY` after bit `b` was set. -/
theorem bitOf_rstStick {b : Nat} (hb : b < 14) (s : State) (i : Nat) :
    bitOf ((s.rstStick b).g F.RST_STKY_BITS) i = (bitOf (s.g F.RST_STKY_BITS) i || decide (i = b)) := by
  have h := testBit_stickBits (f := F.RST_STKY_BITS) (by decide) s 0 (2 ^ b) b i
  rw [Nat.testBit_two_pow] at h
  refine h.trans ?_
  have hw : F.RST_STKY_BITS.width = 14 := rfl
  rw [hw]
  by_cases hi : i = b
  · subst hi; simp [bitOf, hb]
  · simp [bitOf, hi, Ne.symm hi]

theorem g_rstStick {f : Fld} (hf : quiet f = true) (hs : apart f F.RST_STKY_BITS = true) (s : State) (b n : Nat) :
    (s.rstStick b).g f n = s.g f n :=
  g_stickBits_apart hf hs s _ _ _ _

/-! ### The word of `RST_CAUSE` -/

theorem findReg_cause : ∀ x, findReg 0x1000 = some x → ∀ f ∈ x.1.fields, f.fld.base = 0x1000 ∧ f.fld.lo < 32 := by
  have h : ((findReg 0x1000).all fun x => x.1.fields.all fun f => f.fld.base = 0x1000 && f.fld.lo < 32) = true := by
    decide +kernel
  intro x hx f hf
  rw [hx, Option.all_some] at h
  simpa using List.all_eq_true.mp h f hf

/-- Folds of functions that agree on the members of the list agree. -/
theorem foldl_congr_mem {α β : Type} {f g : β → α → β} {l : List α} (h : ∀ acc, ∀ x ∈ l, f acc x = g acc x) (b : β) :
    l.foldl f b = l.foldl g b := by
  induction l generalizing b with
  | nil => rfl
  | cons x l ih =>
    rw [List.foldl_cons, List.foldl_cons, h b x List.mem_cons_self]
    exact ih (fun acc y hy => h acc y (List.mem_cons_of_mem _ hy)) _

/-- The word reads the fields of its register and nothing else. -/
theorem regWord_cause {s t : State} (h : ∀ f : Fld, f.base = 0x1000 → f.lo < 32 → ∀ n, t.g f n = s.g f n) :
    t.regWord 0x1000 = s.regWord 0x1000 := by
  unfold State.regWord
  split
  case h_1 => rfl
  case h_2 r n heq =>
    refine foldl_congr_mem (fun acc f hf => ?_) 0
    obtain ⟨hbase, hlo⟩ := findReg_cause _ heq f hf
    rw [h f.fld hbase hlo n]

theorem regWord_rstStick (s : State) (b : Nat) : (s.rstStick b).regWord 0x1000 = s.regWord 0x1000 :=
  regWord_cause fun f hb hl n => g_rstStick (by simp [quiet, hb, hl]) (by simp [apart, F.RST_STKY_BITS, hb, hl]) s b n

end Sys2Proof.Laws
end

section
/-! PROOFS. The field STEP through bring-up, and the entry to RUN (R476, R477). -/

namespace Sys2Proof.Laws
open Sys2Proof.Machine

/-! ### The blocks of a step are released -/

/-- The blocks that a step releases write no register of the reset block, so STEP shows the step entered. -/
theorem step_enterStep {k : Nat} (hk : k < 16) (s : State) : (s.enterStep k).g F.RST_STAT_STEP = k := by
  unfold State.enterStep
  extract_lets u ua ub ug uc
  have hu : u.g F.RST_STAT_STEP = k := (g_w_same _ _ _ _).trans (Nat.mod_eq_of_lt hk)
  clear_value u
  have c := same_closed (sparing [1]) u
  have h0 : Spares [1] u u := same_self _ u
  refine (Spares.g_eq (l := [1]) (s := u) ?_ (by decide) 0).trans hu
  split
  case h_1 => -- step 4: the ports
    have hadc : Spares [1] u { u with adcOn := true, k := 0, kB := 0, s0 := 0, bDone := false } :=
      c.count trivial _ 0 false u.wrapped h0
    refine kept_each c _ _ _ (kept_updSnt c _ _ (kept_calInit c _ hadc)) fun v n hv => ?_
    have hexc := kept_excRestart c (Or.inl (by decide)) (Or.inl (by decide)) v n false hv
    have hrange := kept_restartRanges c (Or.inl (by decide)) _ n hexc
    have hacq := kept_acqRestart c (Or.inl rfl) (Or.inl (by decide)) (Or.inl (by decide)) (Or.inl (by decide))
      (Or.inl (by decide)) (Or.inl (by decide)) _ n hrange
    exact kept_showBias c (Or.inl (by decide)) _ n hacq
  case h_2 => -- step 5: the drivers
    exact kept_each c _ _ _ h0 fun v n hv => kept_checkOff c (Or.inl (by decide)) (Or.inl (by decide)) v n hv
  case h_3 => -- step 6: observers, digital feedback, learning
    refine kept_each c _ _ _ h0 fun v n hv => ?_
    have hobs := kept_obsRestart c (Or.inl rfl) (Or.inl (by decide)) (Or.inl (by decide)) (Or.inl (by decide))
      (Or.inl (by decide)) v n hv
    exact kept_lrnRestart c (Or.inl rfl) rfl (Or.inl (by decide)) (Or.inl (by decide)) (Or.inl (by decide))
      (Or.inl (by decide)) _ n true (kept_dfbRestart c (Or.inl (by decide)) _ n hobs)
  case h_4 => -- step 7: Geyser and encoder emulation
    have hgey : Spares [1] u ug := kept_ite (kept_geyEnable c (Or.inl rfl) (Or.inl (by decide)) (Or.inl (by decide))
      (Or.inl (by decide)) (Or.inl (by decide)) u u.t h0) h0
    exact kept_each c _ _ _ hgey fun v n hv => kept_ite (kept_emuApply c (Or.inl rfl) (Or.inl (by decide))
      (Or.inl (by decide)) (Or.inl (by decide)) (Or.inl (by decide)) v n _ _ _ _ hv) hv
  case h_5 => -- step 8: CAN and the chain
    have hcan : ∀ (v : State) n, Spares [1] u v → Spares [1] u (v.canApply n) := kept_canApply c (Or.inl rfl) rfl
      (Or.inl (by decide)) (Or.inl (by decide)) (Or.inl (by decide)) (Or.inl (by decide))
    exact kept_showWake c _ (kept_chnApply c (Or.inl rfl) (Or.inl (by decide)) (Or.inl (by decide)) (Or.inl (by decide))
      (Or.inl (by decide)) (Or.inl (by decide)) _ false false (hcan _ 1 (hcan u 0 h0)))
  case h_6 => exact h0

theorem spares_initMemory (s : State) : Spares [1] s s.initMemory :=
  kept_initMemory (same_closed _ s) (Or.inl rfl) rfl (Or.inl (by decide)) (Or.inl (by decide)) (Or.inl (by decide))
    (Or.inl (by decide)) (Or.inl (by decide)) (Or.inl (by decide)) s (same_self _ s)

theorem spares_ashEnable (s : State) : Spares [1] s s.ashEnable :=
  kept_ashEnable (same_closed _ s) (Or.inl (by decide)) s (same_self _ s)

@[simp] theorem ashEnable_rst (s : State) : s.ashEnable.rst = s.rst := by
  unfold State.ashEnable
  dsimp only
  split
  · split <;> rfl
  · split <;> rfl

/-! ### The entry to RUN -/

/-- The entry to a twin role writes of the first two blocks the role alone. -/
theorem g_twnEnter (s : State) {f : Fld} (hf : within [0, 1] f = true) (hrole : apart f F.GLB_STATUS_ROLE = true)
    (htwn : apart f F.TWN_STAT_ROLE = true) (n : Nat) : s.twnEnter.g f n = s.g f n := by
  unfold State.twnEnter
  extract_lets u v w x
  split
  case isFalse => rfl
  case isTrue =>
    have c := same_closed (sparing [0, 1]) (u.putRole 2)
    have hv : Spares [0, 1] (u.putRole 2) v := kept_emuDrivers c (Or.inl (by decide)) _ false (same_self _ _)
    have hw : Spares [0, 1] (u.putRole 2) w := kept_mk (kept_out hv)
    have hx : Spares [0, 1] (u.putRole 2) x := kept_each c w 16 _ hw fun y i hy =>
      kept_enterSense c (Or.inl (by decide)) (Or.inl (by decide)) y i hy
    have hend := kept_roleChanged c (Or.inl rfl) rfl (Or.inl (by decide)) (Or.inl (by decide)) (Or.inl (by decide))
      (Or.inl (by decide)) (Or.inl (by decide)) (Or.inl (by decide)) (Or.inl (by decide)) (Or.inl (by decide)) _
      (kept_streamDrive c (Or.inl (by decide)) x hx)
    rw [Spares.g_eq hend hf, State.putRole, g_w_apart htwn, g_w_apart hrole]
    rfl

/-- RUN is shown, and the SRAM is closed to the host. -/
def runShown (s : State) : State :=
  (((s.w F.GLB_STATUS_MODE 0 1).w F.RST_STAT_STEP 0 10).w F.GLB_DIAG_SRAM_WR 0 0).updRst fun r => { r with runAt := s.t }

/-- The sticky bits of an entry to RUN: RUN, CAUSE where a cause stands, FSTART after a failed start. -/
def runStuck (s : State) : State :=
  let s := s.rstStick 0
  let s := if s.regWord 0x1000 ≠ 0 then s.rstStick 11 else s
  if s.rst.fstart then (s.rstStick 2).updRst fun r => { r with fstart := false } else s

/-- What else begins with RUN. -/
def runBlocks (s : State) : State := ((s.each 7 fun s e => s.ventEnable e).twnEnter.tmpRecheck).smBoth.hostRelease

theorem enterRun_eq (s : State) : s.enterRun = runBlocks (runStuck (runShown s)) := rfl

theorem g_runStuck {f : Fld} (hf : quiet f = true) (hs : apart f F.RST_STKY_BITS = true) (s : State) (n : Nat) :
    (runStuck s).g f n = s.g f n := by
  unfold runStuck
  extract_lets u v
  have hu : u.g f n = s.g f n := g_rstStick hf hs s 0 n
  have hv : v.g f n = s.g f n := by
    unfold v
    split
    · exact (g_rstStick hf hs u 11 n).trans hu
    · exact hu
  split
  · exact (g_rstStick hf hs v 2 n).trans hv
  · exact hv

/-- RUN is set; CAUSE is set where a cause stands and else left as it was. -/
theorem bitOf_runStuck (s : State) : bitOf ((runStuck s).g F.RST_STKY_BITS) 0 = true ∧
    bitOf ((runStuck s).g F.RST_STKY_BITS) 11 = (bitOf (s.g F.RST_STKY_BITS) 11 || decide (s.regWord 0x1000 ≠ 0)) := by
  unfold runStuck
  extract_lets u v
  have hu0 : bitOf (u.g F.RST_STKY_BITS) 0 = true := (bitOf_rstStick (by decide) s 0).trans (by simp)
  have hu11 : bitOf (u.g F.RST_STKY_BITS) 11 = bitOf (s.g F.RST_STKY_BITS) 11 :=
    (bitOf_rstStick (by decide) s 11).trans (by simp)
  have hcause : u.regWord 0x1000 = s.regWord 0x1000 := regWord_rstStick s 0
  have hv : bitOf (v.g F.RST_STKY_BITS) 0 = true ∧
      bitOf (v.g F.RST_STKY_BITS) 11 = (bitOf (s.g F.RST_STKY_BITS) 11 || decide (s.regWord 0x1000 ≠ 0)) := by
    unfold v
    rw [hcause]
    split
    case isTrue hc => simp [bitOf_rstStick (show 11 < 14 by decide), hu0, hc]
    case isFalse hc => exact ⟨hu0, by simp [hu11, hc]⟩
  split
  · have h2 := bitOf_rstStick (show 2 < 14 by decide) v
    exact ⟨(h2 0).trans (by simp [hv.1]), (h2 11).trans (by simp [hv.2])⟩
  · exact hv

theorem g_runBlocks {f : Fld} (hf : within [0, 1] f = true) (hrole : apart f F.GLB_STATUS_ROLE = true)
    (htwn : apart f F.TWN_STAT_ROLE = true) (s : State) (n : Nat) : (runBlocks s).g f n = s.g f n := by
  have hvent : Spares [0, 1] s (s.each 7 fun s e => s.ventEnable e) :=
    kept_each (same_closed _ s) _ _ _ (same_self _ s) fun v e hv =>
      kept_ventEnable (same_closed _ s) (Or.inl (by decide)) v e hv
  unfold runBlocks
  generalize s.each 7 (fun s e => s.ventEnable e) = u at hvent
  have c := same_closed (sparing [0, 1]) u.twnEnter
  have hend : Spares [0, 1] u.twnEnter (u.twnEnter.tmpRecheck).smBoth.hostRelease :=
    kept_hostRelease c _ (kept_smBoth c (Or.inl rfl) (Or.inl (by decide)) (Or.inl (by decide)) (Or.inl (by decide))
      (Or.inl (by decide)) _ (kept_tmpRecheck c (Or.inl (by decide)) _ (same_self _ _)))
  rw [hend.g_eq hf, g_twnEnter u hf hrole htwn, hvent.g_eq hf]

/-- A field that neither the sticky bits nor the blocks of RUN write keeps what the entry wrote first. -/
theorem g_enterRun {f : Fld} (hf : (within [0, 1] f && quiet f) = true)
    (ha : [F.GLB_STATUS_ROLE, F.TWN_STAT_ROLE, F.RST_STKY_BITS].all (apart f) = true) (s : State) (n : Nat) :
    s.enterRun.g f n = (runShown s).g f n := by
  simp only [Bool.and_eq_true, List.all_cons, List.all_nil, Bool.and_true] at hf ha
  obtain ⟨hlow, hquiet⟩ := hf
  obtain ⟨hrole, htwn, hsticky⟩ := ha
  rw [enterRun_eq, g_runBlocks hlow hrole htwn, g_runStuck hquiet hsticky]

theorem mode_enterRun (s : State) : s.enterRun.g F.GLB_STATUS_MODE = 1 := by
  rw [g_enterRun (by decide) (by decide), runShown, g_updRst, g_w_apart (by decide), g_w_apart (by decide), g_w_same]
  rfl

theorem step_enterRun (s : State) : s.enterRun.g F.RST_STAT_STEP = 10 := by
  rw [g_enterRun (by decide) (by decide), runShown, g_updRst, g_w_apart (by decide), g_w_same]
  rfl

theorem sramWr_enterRun (s : State) : s.enterRun.gb F.GLB_DIAG_SRAM_WR = false := by
  rw [State.gb, g_enterRun (by decide) (by decide), runShown, g_updRst, g_w_same]
  rfl

theorem g_runShown {f : Fld} (h : [F.GLB_STATUS_MODE, F.RST_STAT_STEP, F.GLB_DIAG_SRAM_WR].all (apart f) = true)
    (s : State) (n : Nat) : (runShown s).g f n = s.g f n := by
  simp only [List.all_cons, List.all_nil, Bool.and_true, Bool.and_eq_true] at h
  obtain ⟨hmode, hstep, hsram⟩ := h
  rw [runShown, g_updRst, g_w_apart hsram, g_w_apart hstep, g_w_apart hmode]

theorem sticky_enterRun (s : State) : bitOf (s.enterRun.g F.RST_STKY_BITS) 0 = true ∧
    bitOf (s.enterRun.g F.RST_STKY_BITS) 11 = (bitOf (s.g F.RST_STKY_BITS) 11 || decide (s.regWord 0x1000 ≠ 0)) := by
  have hcause : (runShown s).regWord 0x1000 = s.regWord 0x1000 :=
    regWord_cause fun f hb hl n => g_runShown
      (by simp [apart, F.GLB_STATUS_MODE, F.RST_STAT_STEP, F.GLB_DIAG_SRAM_WR, hb, hl]) s n
  have h := bitOf_runStuck (runShown s)
  rw [hcause, g_runShown (by decide)] at h
  rw [enterRun_eq, g_runBlocks (by decide) (by decide) (by decide)]
  exact h

/-! ### The end of a step -/

theorem runs_bringupStepEnd {s : State} {P : State → Prop} (h : P (doBringupStepEnd s)) : Runs .bringupStepEnd s P :=
  runs_of_kept rfl
    (kept_doBringupStepEnd (same_closed _ s) all_blocks (Or.inl rfl) rfl trivial rfl rfl s (same_self _ s)) h

/-- Bring-up step `k` is under way and its condition, or its limit, has come (Table 16-5). -/
structure StepEnds (s : State) (k : Nat) : Prop where
  mode : s.g F.GLB_STATUS_MODE = 0
  warm : s.rst.warm = false
  step : max 1 (s.g F.RST_STAT_STEP) = k
  ended : s.stepOver k = true

theorem StepEnds.guard {s : State} {k : Nat} (h : StepEnds s k) :
    ¬ (decide (s.g F.GLB_STATUS_MODE ≠ 0) || s.rst.warm || !s.stepOver (max 1 (s.g F.RST_STAT_STEP))) = true := by
  simp [h.mode, h.warm, h.step, h.ended]

/-- A step whose condition has not come goes on. -/
theorem doBringupStepEnd_waits {s : State} (h : s.stepOver (max 1 (s.g F.RST_STAT_STEP)) = false) :
    doBringupStepEnd s = s :=
  if_pos (by simp [h])

theorem StepEnds.one {s : State} (h : StepEnds s 1) (hc : s.here.chooseRecord.rst.warm = false) :
    doBringupStepEnd s = s.here.chooseRecord.enterStep 2 := by
  unfold doBringupStepEnd
  dsimp only
  rw [if_neg h.guard, h.step]
  exact if_neg (Bool.eq_false_iff.mp hc)

theorem StepEnds.two {s : State} (h : StepEnds s 2) : doBringupStepEnd s = s.here.startMonitor.enterStep 3 := by
  unfold doBringupStepEnd
  dsimp only
  rw [if_neg h.guard, h.step]
  rfl

/-- Step 3 goes on to step 4, or waits for the record of the host (R473). -/
theorem StepEnds.three {s : State} (h : StepEnds s 3) (hd : s.gb F.RST_STAT_DLATCH = false) :
    doBringupStepEnd s =
      if s.g F.RST_STAT_BOOTSRC = 1 then
        ((s.here.initMemory.updRst fun r => { r with wait := true }).ashEnable).hostRelease
      else (s.here.initMemory.enterStep 4).ashEnable := by
  have hmem := spares_initMemory s.here
  have hlatch : s.here.initMemory.gb F.RST_STAT_DLATCH = false := by
    rw [State.gb, hmem.g_eq (by decide)]
    exact hd
  have hsrc : s.here.initMemory.g F.RST_STAT_BOOTSRC = s.g F.RST_STAT_BOOTSRC := hmem.g_eq (by decide) 0
  rw [← hsrc]
  unfold doBringupStepEnd
  dsimp only
  rw [if_neg h.guard, h.step]
  exact if_neg (Bool.eq_false_iff.mp hlatch)

theorem StepEnds.later {s : State} {k : Nat} (h : StepEnds s k) (hk : 4 ≤ k ∧ k ≤ 7) :
    doBringupStepEnd s = s.here.enterStep (k + 1) := by
  unfold doBringupStepEnd
  dsimp only
  rw [if_neg h.guard, h.step]
  obtain rfl | rfl | rfl | rfl : k = 4 ∨ k = 5 ∨ k = 6 ∨ k = 7 := by omega
  all_goals rfl

theorem StepEnds.eight {s : State} (h : StepEnds s 8) : doBringupStepEnd s = s.here.enterRun := by
  unfold doBringupStepEnd
  dsimp only
  rw [if_neg h.guard, h.step]
  rfl

/-- Settles O9: the step that begins writes STEP and the blocks it releases leave the reset block alone (`step_enterStep`);
the entry to RUN shows what it wrote and the causes that stood (`g_enterRun`, `sticky_enterRun`). -/
theorem entryToRunAfterStepEight : Obligations.EntryToRunAfterStepEight := by
  unfold Obligations.EntryToRunAfterStepEight
  refine ⟨?run, ?record, ?next, ?hostLoaded, ?underWay⟩
  case run =>
    intro s hm hw hk ho
    obtain ⟨hrun, hcause⟩ := sticky_enterRun s.here
    have hword : s.here.regWord 0x1000 = s.regWord 0x1000 := rfl
    rw [hword] at hcause
    refine runs_bringupStepEnd ?_
    rw [StepEnds.eight ⟨hm, hw, by omega, ho⟩]
    refine ⟨mode_enterRun _, sramWr_enterRun _, hrun, fun h => ?_, fun h => ?_, step_enterRun _⟩
    · simp [hcause, h]
    · simpa [h] using hcause
  case record =>
    intro s hm hw hk ho hc
    refine runs_bringupStepEnd ?_
    rw [StepEnds.one ⟨hm, hw, by omega, ho⟩ hc]
    exact step_enterStep (by decide) _
  case next =>
    intro s k hcase hm hw hk ho
    refine runs_bringupStepEnd ?_
    rcases hcase with rfl | ⟨rfl, hlatch, hsrc⟩ | ⟨h4, h7⟩
    · rw [StepEnds.two ⟨hm, hw, by omega, ho⟩]
      exact step_enterStep (by decide) _
    · rw [StepEnds.three ⟨hm, hw, by omega, ho⟩ hlatch, if_neg hsrc, (spares_ashEnable _).g_eq (by decide)]
      exact step_enterStep (by decide) _
    · rw [StepEnds.later ⟨hm, hw, by omega, ho⟩ ⟨h4, h7⟩]
      exact step_enterStep (by omega) _
  case hostLoaded =>
    intro s hm hw hk ho hlatch hsrc
    refine runs_bringupStepEnd ?_
    rw [StepEnds.three ⟨hm, hw, by omega, ho⟩ hlatch, if_pos hsrc]
    refine ⟨?_, by simp [State.hostRelease]⟩
    have hash := (spares_ashEnable (s.here.initMemory.updRst fun r => { r with wait := true })).g_eq
      (f := F.RST_STAT_STEP) (by decide) 0
    have hmem := (spares_initMemory s.here).g_eq (f := F.RST_STAT_STEP) (by decide) 0
    exact hash.trans (hmem.trans hk)
  case underWay =>
    intro s k hm hw hk ho
    refine runs_bringupStepEnd ?_
    rw [doBringupStepEnd_waits (by rw [hk]; exact ho)]
    exact hk

end Sys2Proof.Laws
end
